-- ==== Sys2Proof/Word.lean ====
section
/-!
DEFINITION. The words the hub moves: 32-bit register and frame words, bytes, and the field helpers that every
register rule of spec/00_scope.md (R5: bit 0 is the least significant bit) uses.
-/
namespace Sys2Proof

/-- A 32-bit register word or frame word (R5). -/
abbrev Word := BitVec 32

/-- One byte of flash, of the vat or of a frame. -/
abbrev Byte := BitVec 8

/-- The value of bits `[hi:lo]` of a word, as a number. -/
def Word.bits (w : Word) (hi lo : Nat) : Nat := (w.toNat >>> lo) % 2 ^ (hi + 1 - lo)

/-- The word with bits `[hi:lo]` replaced by the low bits of `v`. -/
def Word.setBits (w : Word) (hi lo v : Nat) : Word :=
  let m := 2 ^ (hi + 1 - lo)
  BitVec.ofNat 32 (w.toNat - 2 ^ lo * ((w.toNat >>> lo) % m) + 2 ^ lo * (v % m))

/-- The single bit `b` of a number. -/
def bitOf (n b : Nat) : Bool := (n >>> b) % 2 == 1

/-- A Boolean as the bit 0 or 1. -/
def bit (b : Bool) : Nat := if b then 1 else 0

end Sys2Proof
end

