-- ==== Sys2Proof/Frame.lean ====
section
/-!
DEFINITION. The Yarru frame (R48, R51 of spec/03_command_packets.md) and the operands that a command of the table
carries from outside: a frame, how it reached the hub, and the outcomes of checks whose arithmetic the model
does not do (log entry 5).
-/
namespace Sys2Proof

/-- A Yarru frame, R51: every header field that is not reserved, the payload, and the GCM tag when SESSION ≠ 0. -/
structure Frame where
  fver : BitVec 4 := 2
  ftype : BitVec 4 := 1
  cls : BitVec 3 := 0
  dual : Bool := true
  poison : Bool := false
  hop : BitVec 8 := 255
  lenW : BitVec 9 := 0
  dstNode : BitVec 24 := 0
  dstPort : BitVec 8 := 0xFF
  srcNode : BitVec 24 := 0
  srcPort : BitVec 8 := 0
  seq : BitVec 16 := 0
  session : BitVec 16 := 0
  time : Word := 0
  opcode : BitVec 8 := 0
  tag : BitVec 9 := 0
  retry : Bool := false
  timeInvalid : Bool := false
  status : BitVec 8 := 0
  w6 : Word := 0
  w7 : Word := 0
  payload : List Word := []
  gcm : List Word := []
  deriving DecidableEq, Repr

/-- The host attachment a command arrives through (R24, R354). -/
inductive Attach where
  | ring
  | pcie
  /-- the commissioning port, GM`m` (R25) -/
  | comm (m : Fin 4)
  /-- the request ring of core B in split mode (R354) -/
  | localLogic
  deriving DecidableEq, Repr

/-- A COMMAND frame as it reaches Hihovos: the frame, its attachment, whether its GCM check holds under the key of its
session (R41, log entry 5), and `recordOk`: whether what it stores in flash reads back (UPDATE_BLOCK, R428) and the flash records
that it reads pass their CRC (LOG_READ, R361). `poisonAt`: the first word of a register read that is tagged poisoned on its way from
the island (R75). -/
structure Cmd where
  frame : Frame := {}
  via : Attach := .ring
  authOk : Bool := true
  recordOk : Bool := true
  poisonAt : Option Nat := none
  deriving DecidableEq, Repr

/-- The end of a frame as a lane receives it (R111): the frame check word, the rind word, whether the length and the
payload arrived whole, and the outcome of the GCM check. -/
structure Tail where
  fcs : Word := 0
  rind : Word := 0
  lengthOk : Bool := true
  authOk : Bool := true
  /-- invalid sync headers and errored blocks met since the last frame ended (LNK_BLK_ERR) -/
  blkErr : Nat := 0
  deriving DecidableEq, Repr

/-- What the key exchange of SESSION_OPEN finds (R450-R452, log entry 5): do the signatures of the record verify, and the hash of
the peer's key, which SESSION_OPEN records (R359). -/
structure KeyExchange where
  ok : Bool := true
  peerHash : List Word := []
  deriving DecidableEq, Repr

end Sys2Proof
end

