-- ==== Sys2Proof/Machine/Parts.lean ====
section
/-!
DEFINITION. The parts of the state that are not registers, block by block: what the rules make a block remember.
Plain data. Each structure's docstring cites the rules of spec/ that give the machine this state; a field marked
"model's own" is bookkeeping of the model.
-/
namespace Sys2Proof.Machine

/-- A finite table keyed by a number, in strictly rising key order. -/
abbrev Tab (α : Type) := List (Nat × α)

/-- The six modes of R403. -/
inductive Mode where
  | boot | recovery | commission | run | safe | sleep
  deriving DecidableEq, Repr

/-- The seven reset kinds of R11. -/
inductive ResetKind where
  | por | pin | wdg | cmd | isl | psw | slp
  deriving DecidableEq, Repr

/-- The reactions of R374. -/
inductive Reaction where
  | none | islandReset | safe | handover | chipReset
  deriving DecidableEq, Repr

/-- A log record, R358: words 0-14; the CRC of word 15 is computed by `LogRec.words`. -/
structure LogRec where
  seqno : Nat
  time : Word
  epoch : Word
  audit : Bool
  cls : Nat
  origin : Nat
  source : Nat
  code : Nat
  node : BitVec 24
  port : BitVec 8
  session : BitVec 16
  opcode : BitVec 8
  status : BitVec 8
  data : List Word
  mode : Nat
  boots : Nat
  deriving DecidableEq, Repr

/-- The event log and the Hihovos bookkeeping of R357-R362, R349, R352, R85. -/
structure MgtS where
  /-- the RAM log (class A), oldest first; `true` = mirrored or skipped (R357) -/
  ramLog : List (LogRec × Bool) := []
  /-- the flash log, oldest first, at most 4,096 records (R360) -/
  flashLog : List LogRec := []
  /-- instants of the sector erases of the last 24 h (R360) -/
  erases : List Nat := []
  /-- operational records skipped since skipping began (R360, LOG_GAP) -/
  gapRun : Nat := 0
  /-- boot count since the flash log was created (R358 word 14) -/
  flashBoots : Nat := 0
  /-- per source: instant of its last raise record, and raises merged since its last record (R387) -/
  raiseRec : Tab (Nat × Nat) := []
  /-- per kind (true = DENIED) and source node: instant of the last record, refusals merged since (R362) -/
  merges : List (Bool × BitVec 24 × Nat × Nat) := []
  /-- instants of the AUTH_FAIL refusals of the last second (source 0xA0) -/
  authTimes : List Nat := []
  /-- both cores halted by a comparator mismatch (R349) -/
  halted : Bool := false
  /-- management SRAM, 1 MiB (R348): what the rules place in it, the two rings of R354; the RAM log stands above as its records -/
  sram : List Host.Cell := []
  /-- instant of the last COMMAND accepted from a ring, PCIe or commissioning host (R355) -/
  lastHostCmd : Nat := 0
  deriving DecidableEq, Repr

/-- The phase of the FAULT_N native pulse (R384). -/
inductive Pulse where
  | idle | low | gap
  deriving DecidableEq, Repr

/-- The collector state that no register holds (R369, R373-R386). -/
structure FltS where
  /-- per source: the instances whose condition is present now (R369) -/
  live : Tab (BitVec 64) := []
  /-- per source: raises since its previous event (R386 word 4) -/
  sinceEvt : Tab Nat := []
  /-- per source: instant and instance of its last raise (R375) -/
  lastRaise : Tab (Nat × Nat) := []
  /-- per source: instant of its last RAISE event (R386) -/
  lastEvt : Tab Nat := []
  pulse : Pulse := .idle
  /-- one further pulse is queued (R384) -/
  pulseQueued : Bool := false
  /-- level of the ALIVE pin (R385) -/
  alive : Bool := false
  /-- the reaction in progress (R484) and the islands it resets -/
  reacting : Option (Reaction × BitVec 21) := none
  /-- (instant, island) of reaction resets within the last second (R376) -/
  islHist : List (Nat × Nat) := []
  /-- sources whose reaction is due without grace (FATAL, or GRACE = 0): taken at the end of the step that raised them -/
  due : List Nat := []
  /-- a SAFE or HANDOVER reaction held during BOOT (R377): its source -/
  heldSafe : Option Nat := none
  deriving DecidableEq, Repr

/-- Island state beside the ISL registers (R391, R394, R397, R401). -/
structure IslS where
  /-- bit i: island i is in reset, whatever the cause -/
  rst : BitVec 21 := 0
  /-- bit i: the reset of island i is an ISL reset (R391) -/
  islRst : BitVec 21 := 0
  /-- bit i: island i is released but its crossings have not exchanged tokens (R397) -/
  resync : BitVec 21 := 0
  /-- per crossing 21 * sender + receiver: events not yet carried; one is in flight, the others pend (R393, R394) -/
  cdc : Tab Nat := []
  /-- islands whose reset waits for the departure of a reply (R392): none waits between steps in this model; kept for PWR
  whose own reset waits until parking ends (R391) -/
  pwrWait : Bool := false
  /-- the two sensors of the power die as last measured, as MGT_PTEMP lays them out (R318, R356) -/
  ptemp : Word := 0
  deriving DecidableEq, Repr

/-- The marks of the boot record (R410): per step a START, DONE and SKIPPED mark and a failure count. -/
structure Marks where
  start : BitVec 16 := 0
  done : BitVec 16 := 0
  skipped : BitVec 16 := 0
  fails : Tab Nat := []
  deriving DecidableEq, Repr

/-- Strap levels sampled at a reset (R403 CTL_STATE, R417). -/
structure Straps where
  bootsel : Bool := false
  split : Bool := false
  prof : BitVec 2 := 0
  deriving DecidableEq, Repr

/-- The boot record (class A, R410) and what a start in progress knows (R408-R413, R417-R424). -/
structure BootS where
  marks : Marks := {}
  /-- the journal copy in flash (R410) -/
  mirror : Marks := {}
  boots : Nat := 0
  /-- the profile that was active (R410, R417) -/
  lastProf : Nat := 0
  /-- the mode left on entry into SLEEP -/
  sleepMode : Mode := .run
  /-- FLT_SAFE as it was at entry into SLEEP (R413) -/
  sleepSafe : Word := 0
  /-- BOOT_STEP_FAIL records kept until B12 (R412): step, count, policy -/
  recs : List (Nat × Nat × Nat) := []
  /-- the step that is running -/
  step : Option Nat := none
  /-- the running step runs in its alternate form -/
  alt : Bool := false
  /-- this boot brings the ring links up in the alternate form: RATE_MAX is taken as 1 (R101) -/
  slowRing : Bool := false
  kind : ResetKind := .por
  straps : Straps := {}
  /-- no profile was valid: Reset-column defaults are loaded (R413, R419) -/
  noProfile : Bool := true
  /-- instant of the last reset of any kind other than ISL (R86 word 7) -/
  lastReset : Nat := 0
  /-- the running slot and whether it booted as TRIAL: set by B05 -/
  powered : Bool := true
  /-- the REFCLK PLL has locked since the last chip reset (B01, R407) -/
  pll : Bool := false
  /-- instant of the last release of power-on reset (R124) -/
  porAt : Nat := 0
  /-- level of the WAKE pin, and whether a fall counts (R422) -/
  wake : Bool := true
  wakeArmed : Bool := true
  /-- the profile switch in progress: the profile named, the profile before, the mode it began in (R418) -/
  switch : Option (Nat × Nat × Mode) := none
  /-- RESET_N is held low, or a core rail is out of range (R407, R467) -/
  held : Bool := false
  deriving DecidableEq, Repr

/-- A profile in flash as R414 lays it out, with the result of the checks of R415 and the signature. -/
structure Profile where
  /-- validity flag (R415) -/
  valid : Bool := false
  localLogic : Bool := false
  sleepEn : Bool := false
  signed : Bool := false
  storeCount : Nat := 0
  commPort : Nat := 0
  dualMask : BitVec 8 := 0xFF
  subsys : Word := 0x1F5B0960
  compat : Word := 0
  records : Tab Word := []
  /-- the local-logic image verifies under the image rules (R352) -/
  llOk : Bool := false
  deriving DecidableEq, Repr

/-- What a JOIN says (R334). -/
structure JoinRec where
  node : BitVec 24 := 0
  pairAddr : BitVec 24 := 0
  pairId : Bool := false
  state : Nat := 0
  compat : Word := 0
  cfg : Word := 0
  deriving DecidableEq, Repr

/-- Pair state beside the PAR registers (R333-R346). -/
structure PairS where
  /-- orders sent and not acknowledged, in ON order (R337) -/
  unacked : List (Nat × Frame) := []
  /-- shadow: next order number expected -/
  expect : Nat := 0
  /-- frames the shadow holds under R336, with the instant each expires -/
  heldFrames : List (Nat × Frame) := []
  /-- the partner's last JOIN -/
  join : Option JoinRec := none
  /-- this hub has sent a JOIN in the present PAIRING -/
  joinSent : Bool := false
  /-- active: a state transfer runs. Shadow: the transfer's record has been taken over. And the transfers that failed in a row
  (R346) -/
  syncing : Bool := false
  synced : Bool := false
  failed : Nat := 0
  /-- OUT_OF_STEP is not left by itself (R341, R346) -/
  stuck : Bool := false
  /-- why this hub claims: 0 none, 1 both paths silent, 2 silent path and fault report, 3 handover, 4 in PAIRING with JOINs
  exchanged, 5 in PAIRING with no JOIN, 6 under the pairing alternate -/
  claim : Nat := 0
  /-- orders that find no place among the 512 and wait for one (R337) -/
  waiting : List Frame := []
  /-- a handover runs: `some none` from a fault reaction, `some (some c)` from PAIR_HANDOVER (R344) -/
  handover : Option (Option Cmd) := none
  /-- the order PAIR_HANDOVER that a shadow answers once it holds ILK (R344) -/
  answer : Option Cmd := none
  /-- the handover that is answered has been given up -/
  abandoned : Bool := false
  /-- APPLY_AT and SAMPLE_AT orders that wait for the REPLY order with the active's entry number (R188) -/
  scheds : List Frame := []
  /-- digests sent and not returned, by their ON (R338) -/
  digests : Tab (List Word) := []
  /-- intervals below 0.5 µs in a row at HB_IN, and the fault reports of the two paths -/
  fastRun : Nat := 0
  twinFault : Bool := false
  pinFault : Bool := false
  beat : BitVec 2 := 0
  hbOut : Bool := false
  /-- toggles of HB_OUT since the last HEARTBEAT, while it carries a fault report (R339) -/
  quarter : BitVec 2 := 0
  /-- pair ordered sets sent, oldest first: D1, D2, D3 (model's own) -/
  out : List (BitVec 8 × BitVec 8 × BitVec 8) := []
  deriving DecidableEq, Repr

/-- The header of an image (R426), its fields that later checks use. -/
structure ImgHead where
  kind : Nat := 1
  target : Nat := 0
  length : Nat := 0x400
  version : Word := 0
  rollback : Nat := 0
  keyIndex : Nat := 0
  stepMask : Nat := 1
  romMin : Nat := 1
  profileFmt : Nat := 1
  ringVer : Nat := 0x2001
  pairVec : List Word := List.replicate 8 0
  deriving DecidableEq, Repr

/-- An image slot, or the place of a profile image (R425, R427): its state code, header, and the bytes programmed since its erase. -/
structure Slot where
  state : Nat := 0
  head : ImgHead := {}
  cells : Tab Byte := []
  /-- of a profile image: the verify found its own signature, its local-logic image and its wrapped keys good (log entry 5) -/
  inner : Bool := false
  ll : Bool := false
  keys : Bool := false
  deriving DecidableEq, Repr

/-- An open update (R428): owner session, kind, target slot or profile, total length; erase or verify in progress. -/
structure Update where
  session : BitVec 16 := 0
  kind : Nat := 1
  target : Nat := 0
  length : Nat := 0
  erasing : Bool := false
  /-- the UPDATE_VERIFY that runs in the background -/
  verify : Option Cmd := none
  deriving DecidableEq, Repr

/-- A pull of an image by relay (R439, R441): source node, lane and slot; the command that asked, `none` for the ROM of R441; the
first byte of the window and the chunks of it that have come; the stage: 0 header, 1 erase, 2 windows, 3 verify. -/
structure Pull where
  cmd : Option Cmd := none
  node : BitVec 24 := 0
  lane : Nat := 0
  slot : Nat := 0
  stage : Nat := 0
  base : Nat := 0
  got : List Nat := []
  chunk0 : List Byte := []
  deriving DecidableEq, Repr

/-- A relay that is being served (R440): lane, receiver, slot, next byte and chunks left. -/
structure Serve where
  lane : Nat
  uid : Word
  slot : Nat
  off : Nat
  left : Nat
  deriving DecidableEq, Repr

/-- Firmware update (R425-R441). A hub as delivered holds a GOOD image in slot A (log entry 11). -/
structure UpdS where
  a : Slot := { state := 5 }
  b : Slot := {}
  prof : Slot := {}
  bootSlot : Nat := 0
  prev : Option Nat := none
  trialCnt : Nat := 0
  open_ : Option Update := none
  pull : Option Pull := none
  serve : Option Serve := none
  /-- a PROFILE_STORE that runs: its command, profile and the records staged (R416) -/
  storing : Option (Cmd × Nat × Tab Word) := none
  /-- slots that B05 rolled back or revoked, whose records are written at B12 (R427, R431) -/
  rolled : List Nat := []
  deriving DecidableEq, Repr

/-- An instruction of the IEEE 1149.1 port (R459). -/
inductive TapInstr where
  | bypass | idcode | samplePreload | extest | coreDebug | memoryAccess | internalScan | manufacturingTest
  deriving DecidableEq, Repr

/-- OTP and the security engine (R443-R460). -/
structure SecS where
  /-- hash burnt into each owner slot, and slots whose read-back failed -/
  owner : Tab (List Word) := []
  badSlots : List Nat := []
  revoked : List Nat := []
  /-- the fuse behind CTL_SECCFG.DEBUG_LOCKED (log entry 13) -/
  debugLocked : Bool := false
  /-- the rollback counter (R457) -/
  count : Nat := 0
  /-- the OTP operation that runs: slot, whether it revokes, and the hash that it burns -/
  otp : Option (Nat × Bool × List Word) := none
  /-- an unlock attempt whose check runs: its KEY_INDEX -/
  unlock : Option Nat := none
  /-- the instruction that the IEEE 1149.1 port holds (R459; log entry 49) -/
  tap : TapInstr := .idcode
  deriving DecidableEq, Repr

/-- A session (R37-R44, R450-R456). -/
structure Session where
  num : BitVec 16
  maint : Bool := false
  pair : Bool := false
  /-- it was opened with a credential, signed under owner slot `keyIndex` (R450) -/
  cred : Bool := false
  keyIndex : Nat := 0
  peerHash : List Word := []
  /-- has accepted a command (R42) -/
  accepted : Bool := false
  spent : Bool := false
  closing : Bool := false
  lastAccept : Nat := 0
  /-- the session key (R452), eight words -/
  key : List Word := []
  /-- the stream counters when the key was installed, and the streams in which frames were sealed under it (R455) -/
  base : Tab Nat := []
  streams : List Nat := []
  deriving DecidableEq, Repr

/-- A retry-cache entry (R67): identity, the reply sent, whether it has not left yet, and, once it has, when the entry lapses. -/
structure CacheEntry where
  node : BitVec 24
  port : BitVec 8
  session : BitVec 16
  tag : BitVec 9
  opcode : BitVec 8
  pair : Bool
  reply : Frame
  leaving : Bool := false
  expires : Nat
  deriving DecidableEq, Repr

/-- A command in service that has not had its reply or its completion EVENT (R59, R63). -/
structure Service where
  cmd : Cmd
  /-- a background command that has replied OK (R59) -/
  bg : Bool := false
  /-- it waits behind an earlier command (R68) or a test (R351) and has not begun -/
  held : Bool := false
  /-- it came in the order stream: executed without a reply (R333) -/
  ordered : Bool := false
  /-- it came under a MAINTAIN session, which may close while it is served (R42) -/
  maint : Bool := false
  arrival : Nat := 0
  /-- of a SESSION_OPEN: its key exchange -/
  x : KeyExchange := {}
  /-- its REPLY, or its completion EVENT, which is on its way out: it is in service until that has left (R63) -/
  reply : Option Frame := none
  deriving DecidableEq, Repr

/-- A command this hub sent and has not seen answered (R62, R64): `port` 0xFF Hihovos, 5 the bridge. `period`: the timeout in ns
that it started with (R47). -/
structure Outst where
  port : BitVec 8
  tag : BitVec 9
  node : BitVec 24
  opcode : BitVec 8
  quarantine : Bool := false
  period : Nat := 1000000
  deriving DecidableEq, Repr

/-- What follows once a reply has left the hub: island resets (R392), a chip reset (R92, R437), a profile switch (R83), the 60 s of a
session that has been opened (R42) and the closing of the one it rekeys (R453). -/
inductive After where
  | islands (m : BitVec 21)
  | opened (n : BitVec 16) (old : Option (BitVec 16))
  | chip
  | profile (p : Nat)
  deriving DecidableEq, Repr

/-- A TABLE_FENCE that waits (R156): its generation, and when it gives up. -/
structure Fence where
  cmd : Cmd
  gen : Nat
  until_ : Nat
  deriving DecidableEq, Repr

/-- The command layer: session table, retry cache, commands in service, and the hub as initiator. -/
structure CmdS where
  sessions : List Session := []
  /-- closed sessions under which a command accepted before is still to be replied to (R42) -/
  gone : List Session := []
  cache : List CacheEntry := []
  service : List Service := []
  outstanding : List Outst := []
  /-- per source and class: SEQ of the last 64 commands the ROM took from the ring, latest first (R117, log entry 44) -/
  romSeqs : Tab (List (BitVec 16)) := []
  /-- frames of the ROM that wait for the end of the 64 ms after power-on (R124) -/
  romWait : List Frame := []
  /-- replies that are leaving, with what follows each -/
  after : List (Frame × After) := []
  fences : List Fence := []
  /-- status of the last register write made by a row of the table that is a register write (model's own) -/
  lastWrite : BitVec 8 := 0
  deriving DecidableEq, Repr

/-- The tier a unit's cells were drawn from (R147, R149). -/
inductive Tier where
  | curd | shared | headroom
  deriving DecidableEq, Repr

/-- A unit in the vat (R141, R148): a frame with its cells, the tier they came from, the generation of the table that
looked it up, whether its tail has arrived and with which rind, and whether the press, where it applies, has released it for
local delivery (R130). -/
structure VUnit where
  frame : Frame
  inPort : Nat
  own : Bool
  cells : List Nat
  tier : Tier
  gen : Nat
  complete : Bool
  rind : Word
  authOk : Bool
  ready : Bool := false
  /-- its rind was not GOOD when it came, or it was truncated: no later row of R112 changes that -/
  fixed : Bool := false
  /-- ring time at the last byte received (R159) -/
  time : Word := 0
  /-- it has been counted in LNK_RIND_BAD (R112: once), and loupe sessions that have copied it (R157: once each) -/
  counted : Bool := false
  louped : BitVec 4 := 0
  deriving DecidableEq, Repr

/-- A link of a unit in an output queue (R150): `cut` lets it leave before its tail has arrived (R110); `loupe` is the
session of a loupe copy (R158). -/
structure Link where
  uid : Nat
  cut : Bool := false
  loupe : Option Nat := none
  deriving DecidableEq, Repr

/-- An entry of a residue list (R152): the unit, as it would be linked; `wait`: its tail or the press, or the transit press, is awaited
beside; the instant at which it lapses. -/
structure ResEntry where
  uid : Nat
  cut : Bool := false
  loupe : Option Nat := none
  wait : Bool := false
  until_ : Nat := 0
  deriving DecidableEq, Repr

/-- A press context (R129) or a transit context (R137). For the press: NEXT, the held frames by SEQ, and per history place
whether it was declared lost (bit i is NEXT - 1 - i). For a transit context: `next` is H, `lost` marks the places admitted
(bit i is H - i), `recv` the admitted copies still being received and `held` the copies that wait on a rind. -/
structure PressCtx where
  next : Nat
  /-- (SEQ, unit, instant of arrival), nearest to NEXT first -/
  held : List (Nat × Nat × Nat) := []
  lost : BitVec 64 := 0
  recv : List (Nat × Nat) := []
  lastUse : Nat := 0
  /-- the instant from which the wait timer runs, or last ran (R131) -/
  start : Nat := 0
  /-- it follows a stream of the pair by the order stream (R333) -/
  pair : Bool := false
  deriving DecidableEq, Repr

/-- A gap record (R133, PRS_GAPREC). -/
structure GapRec where
  node : BitVec 24
  cls : BitVec 3
  first : Nat
  count : Nat
  time : Word
  cause : Nat
  deriving DecidableEq, Repr

/-- The switch core, the vat and the press (R122-R163). -/
structure SwS where
  units : Tab VUnit := []
  nextUid : Nat := 0
  queues : Tab (List Link) := []
  /-- (unit, queue): admitted, counted in Q_q, but not linked: the tail or the press is awaited (R132, R147) -/
  holds : List (Nat × Nat) := []
  /-- the residue list of each queue (R152) -/
  residue : Tab (List ResEntry) := []
  ctxs : Tab PressCtx := []
  gaps : List GapRec := []
  /-- retired cells, class A (R145), and words corrected once and not yet scrubbed again -/
  retired : List Nat := []
  corrected : List Nat := []
  badCells : List Nat := []
  /-- vat words that read with an uncorrectable error (R144) -/
  ueWords : List Nat := []
  /-- vat words with one or two flipped bits, which each read corrects and counts (R142, R144) -/
  ceWords : Tab Nat := []
  /-- per port: the cut-through unit that is leaving and whose tail has not arrived -/
  cutting : Tab Nat := []
  /-- per lane: the frame in reception; `none` = it is being dropped; the frame is kept for a repeating lane -/
  rx : Tab (Option Nat × Frame) := []
  /-- the vat's bytes (R161): an unlisted byte reads 0 (log entry 4) -/
  vat : List Host.Cell := []
  /-- sequence counters, class A (R124), counted without wrapping: key 2 * class + DUAL, plus 16 for the pair address; SEQ is
  the count modulo 2^16 -/
  seqs : Tab Nat := []
  /-- forwarding entries with an uncorrectable error, and per entry the flipped bits that no read has met: the active copy at 0-255, the
shadow copy at 256-511 (R142, R155) -/
  fwdBad : List Nat := []
  fwdErr : Tab Nat := []
  /-- the next record would lie at the end of the capture range, which is more than the 24 bits of CAP_WPTR.OFFSET can say (R160) -/
  capEnd : Bool := false
  deriving DecidableEq, Repr

/-- A link lane beside its registers (R96-R106). -/
structure LaneS where
  /-- failed attempts in a row at the present rate, and whether the lane has fallen back (R100) -/
  fails : Nat := 0
  fallen : Bool := false
  /-- MEDIA as the attempt that is running, or that ended in the present state, took it (R121) -/
  media : Nat := 0
  /-- the last TRAIN_ID payload and how many identical ones came in a row (R99) -/
  trainId : List Word := []
  trainRun : Nat := 0
  /-- the last TRAIN_ID came from a repeat path (R104) -/
  fromRepeat : Bool := false
  /-- transmitting remote-fault ordered sets (R102, R103) -/
  remoteFault : Bool := false
  /-- instants of link-down declarations (R103) -/
  downs : List Nat := []
  /-- instant the signal was lost (R100) -/
  lostAt : Option Nat := none
  /-- level of MODn_ABS, the level that the module sequence gives MODn_TXDIS (`State.modTxDis` is the pin), whether the module has
  been made ready, and whether it declares diagnostics (R106) -/
  modAbs : Bool := true
  txDis : Bool := true
  modReady : Bool := false
  modDiag : Bool := false
  /-- the frame in reception is being repeated on the joined lane (R115, R116) -/
  repeating : Bool := false
  /-- LEAVING frames still to send (R97) -/
  leavingLeft : Nat := 0
  deriving DecidableEq, Repr

/-- A frame that has left the hub, by which port and with which rind (model's own). -/
structure SentRec where
  port : Nat
  frame : Frame
  rind : Word
  deriving DecidableEq, Repr

/-- Ring time as one lane measures and hears it (R169-R171). -/
structure TLane where
  /-- header word 4 of the last TIME frame received, and the own ring time at its reception -/
  rx : Word := 0
  rxAt : Word := 0
  /-- link delays of the last 16 frames, in 1/16 ns -/
  delays : List Int := []
  /-- the last frame with VALID = 1: instant, master priority and UID, HOPS -/
  heard : Option (Nat × Nat × Nat × Nat) := none
  deriving DecidableEq, Repr

/-- The TIM island beside its registers (R168-R178). -/
structure TimS where
  lanes : Tab TLane := []
  /-- priority of the master followed -/
  prio : Nat := 0
  /-- consecutive upstream frames with an offset below 4 ns (R171) -/
  run : Nat := 0
  /-- STEP and STEP_DONE of the step of TIM_STEP (R177), and its instant on the 64-bit time while it is pending -/
  step : Word := 0
  stepDone : Bool := false
  stepAt : Option Nat := none
  /-- STEP_SEQ, STEP and STEP_AT of the step last applied or recorded; TIME frames carry it while a step that was learnt before this
  hub became master is pending (R177) -/
  last : Nat × Word × Word := (0, 0, 0)
  carry : Bool := false
  /-- steps applied so far (R265 follow-up) -/
  steps : Nat := 0
  /-- when the last one was applied -/
  steppedAt : Nat := 0
  /-- the last settings of ring time other than by the servo: when, and by how much (R178) -/
  jumps : List (Nat × Int) := []
  /-- pairs (SNAP_ID, T) seen, with the instant at which each is forgotten (R190) -/
  seen : List (Nat × Word × Nat) := []
  /-- per island, the ring time its copy was last loaded with, and when (R174) -/
  copies : Tab (Nat × Nat) := []
  deriving DecidableEq, Repr

/-- What a schedule entry holds beside its TIM_ENT registers (R182-R185). -/
structure Entry where
  /-- 1 APPLY_AT, 2 SAMPLE_AT, 3 SNAPSHOT_AT -/
  kind : Nat
  port : Nat := 0
  action : Nat := 0
  notify : Bool := false
  node : BitVec 24
  sport : BitVec 8 := 0
  id : Nat
  session : BitVec 16 := 0
  /-- SEQ of the command (R181) -/
  seq : BitVec 16 := 0
  /-- the instant, on the 64-bit ring time -/
  t : Nat
  data : List Word := []
  cls : BitVec 3 := 0
  dual : Bool := true
  /-- the node address under which the fire EVENT leaves -/
  from_ : BitVec 24 := 0
  /-- target islands that were found in reset at hand-over or at T (R185) -/
  skipped : List Nat := []
  /-- a forward step has passed over the instant: it fires at once (R178) -/
  stepped : Bool := false
  deriving DecidableEq, Repr

/-- The shadow banks of the counters (R191, R483): entries that do not read zero, by offset; `last` keeps the last values of
counters whose island has been reset since. -/
structure SnapS where
  bank0 : Tab Word := []
  bank1 : Tab Word := []
  last : Tab Word := []
  deriving DecidableEq, Repr

/-- What PORT_CONFIG says of a field port (R80); before any PORT_CONFIG it is disabled and has no subscriber. -/
structure PortCfg where
  node : BitVec 24 := 0
  port : BitVec 8 := 0
  cls : BitVec 3 := 0
  dual : Bool := true
  enable : Bool := false
  deriving DecidableEq, Repr

/-- A word of an engine queue (R206): data, LAST, poison tag, parity bit (kept as: does it fail?); whether its poison has been counted;
the ring time and the interval time at its entry; and whether ring time has not been valid at some time since (R209). -/
structure QWord where
  w : Word
  last : Bool := false
  poison : Bool := false
  parity : Bool := false
  counted : Bool := false
  time : Word := 0
  at_ : Nat := 0
  invalid : Bool := false
  deriving DecidableEq, Repr

/-- What an engine held before its last TAKE, the instant and the instruction: a FLUSH_TX of that cluster clock acts first (R235). -/
structure Took where
  at_ : Nat
  instr : Word
  osr : Word
  xy : Word
  pattern : Word
  status : Word
  mid : Bool
  l : Bool
  e : Bool
  osrBad : Bool
  patBad : Bool
  first : Bool
  hold : Nat
  deriving DecidableEq, Repr

/-- A facet engine beside its registers (R206-R245). -/
structure EngS where
  /-- the transmit path in order: its first `txn` words stand in TXQ, the rest wait for credit -/
  path : List QWord := []
  txn : Nat := 0
  /-- the engine has taken a word, but not the last, of the item at the head -/
  mid : Bool := false
  /-- the vat unit that the feeder is drawing: queue, unit, words not yet drawn -/
  feed : Option (Nat × Nat × List QWord) := none
  /-- items that follow the unit being drawn (R207, R208, R224) -/
  next : List (List QWord) := []
  /-- instructions whose parity bit fails (R220); ISR, OSR, PATTERN holds a stamp taken while ring time was not valid (R244) -/
  badProg : List Nat := []
  stampBad : Bool := false
  osrBad : Bool := false
  patBad : Bool := false
  /-- the last TAKE; the instant of the last clock in which the engine stalled -/
  took : Option Took := none
  stallAt : Option Nat := none
  rxq : List QWord := []
  /-- words of the frame that the packer is building (R209) -/
  frame : List QWord := []
  m : Bool := false
  l : Bool := false
  e : Bool := false
  trig : Bool := false
  /-- remainder of the divider (R213) and the instant of the next engine clock edge -/
  rem : Nat := 0
  edge : Nat := 0
  /-- the instruction at PC is in its first clock (R229) -/
  first : Bool := true
  /-- clocks that a HOLD CYCLES has counted -/
  hold : Nat := 0
  /-- the injected instruction and the instant from which it may execute (R221, R218) -/
  inj : Word := 0
  injAt : Nat := 0
  deriving DecidableEq, Repr

/-- Where the supply of an I/O bank lies (R196): in the range of the level selected, whichever it is; in that of one level; in none. -/
inductive Supply where
  | selected | level (v : Nat) | out
  deriving DecidableEq, Repr

/-- A cluster beside its registers (R195-R205, R238). -/
structure CluS where
  /-- level of each ball, with the levels of the last 12 ns and the instants from which they stood, latest first; and the pins that
  drove theirs at the last change -/
  net : Word := 0
  hist : List (Nat × Word) := []
  drv : Word := 0
  /-- debounced level of each DIRECT_IN pin, and consecutive samples that differ from it -/
  acc : Word := 0
  runs : Tab Nat := []
  /-- output latches and directions, written by the owner engines (R241); those on their way, with the instants at which they reach the
  balls; and those that have (R215) -/
  latch : Word := 0
  dirs : Word := 0
  outs : List (Nat × Word × Word) := []
  ballLatch : Word := 0
  ballDirs : Word := 0
  /-- signal bits, and the clears and sets of the cluster clock at `sigAt`, which take effect at the next (R238) -/
  signals : BitVec 8 := 0
  sigClr : BitVec 8 := 0
  sigSet : BitVec 8 := 0
  sigAt : Nat := 0
  /-- the local engine that the packer served last (R209) -/
  turn : Nat := 7
  /-- pins that stand at their SAFE value: 1 LOW, 2 HIGH, 3 HIZ, 4 and 5 the level low or high that HOLD keeps (R200) -/
  safe : Tab Nat := []
  /-- COS pins that changed since the last event, and the ring time of the first change (R205) -/
  cosMask : Word := 0
  cosTime : Word := 0
  /-- the supply of the bank (R196) -/
  supply : Supply := .selected
  deriving DecidableEq, Repr

/-- A frame on its way to a CAN bus: its record header and data words (R254); what it is (0 a PORT_SEND or SEND, 1 a reference,
2 a follow-up, R265); and the SEQ and SRC_NODE of the frame that carried it (R181). -/
structure CanTx where
  hdr : List Word
  data : List Word := []
  ref : Nat := 0
  seq : BitVec 16 := 0
  node : BitVec 24 := 0
  /-- it is a scheduled SEND; when a SEND, reference or follow-up came due (ns) -/
  sched : Bool := false
  due : Nat := 0
  deriving DecidableEq, Repr

/-- Rate detection (R263): 0 idle, 1 survey, 2 nominal, 3 data. -/
structure CanRd where
  stage : Nat := 0
  /-- candidates in the order in which they are tried; the first is being held -/
  cands : List Nat := []
  /-- frames that confirmed the candidate that is held -/
  conf : Nat := 0
  /-- an FD frame with BRS was seen at this nominal rate -/
  brs : Bool := false
  deriving DecidableEq, Repr

/-- A CAN controller beside its registers (R248-R265). -/
structure CanS where
  /-- OPMODE in effect (R248) -/
  opmode : Nat := 0
  /-- transmit slot (R256), attempts of its frame that failed, and the count of R262 -/
  slot : Option CanTx := none
  fails : Nat := 0
  clash : Nat := 0
  /-- the frame in the slot is in transmission: its first attempt has begun (R256) -/
  started : Bool := false
  /-- a flush removes the frame in transmission at the end of its attempt (R259) -/
  flush : Bool := false
  /-- scheduled SENDs whose instant has come -/
  sends : List CanTx := []
  /-- a frame of PORT_SEND that gave up the slot before its start-of-frame (R183, R256) -/
  back : Option CanTx := none
  /-- a reference or follow-up that is due -/
  ref : Option CanTx := none
  /-- steps applied up to the previous reference (R265) -/
  refSteps : Nat := 0
  /-- the point at which the last attempt of an FD or XL frame checked its own data bits, in CAN clocks (R252) -/
  ssp : Option Nat := none
  /-- symbol length and offset of the PWM coding between ADS and DAS of the last attempt of an XL frame (R253); `none`: not coded -/
  pwm : Option (Nat × Nat) := none
  /-- the controller acknowledged the last frame it received; it sent a flag at the last error it met (R248) -/
  acked : Bool := false
  flagged : Bool := false
  /-- the frame whose attempt still runs at entry into SLEEP, and when it ends at the latest (R266) -/
  late : Option (CanTx × Nat) := none
  tsq : List (List Word) := []
  tsLost : Bool := false
  /-- words of the PORT_DATA frame being packed, and its TIME -/
  pack : List Word := []
  packTime : Word := 0
  /-- ring time has not been valid at some moment since its first word (R65 TIME_INVALID) -/
  packInv : Bool := false
  /-- records in it -/
  packN : Nat := 0
  /-- records were lost since the last one that was packed, or frames before the one being packed; its first record tells of a loss
  (LOST_BEFORE, R257) -/
  lost : Bool := false
  gap : Bool := false
  packLost : Bool := false
  rd : CanRd := {}
  deriving DecidableEq, Repr

/-- A frame on its way to an Ethernet medium: the header word of its record, its bytes as they stand in the queue, what it is
(0 PORT_SEND, 1 scheduled SEND, 2 a commissioning frame, 3 a loupe copy, R279), and SEQ and SRC_NODE of its carrier. -/
structure MacTx where
  hdr : Word := 0
  bytes : List Byte := []
  kind : Nat := 0
  seq : BitVec 16 := 0
  node : BitVec 24 := 0
  deriving DecidableEq, Repr

/-- A MAC beside its registers (R270-R287). -/
structure MacS where
  /-- transmit queues 0-3 -/
  queues : Tab (List MacTx) := []
  sends : List MacTx := []
  slot : Option MacTx := none
  /-- the queue that the frame in the slot came from -/
  slotQueue : Nat := 0
  /-- of the frame in the slot: 0 it defers, 1 an attempt runs, 2 it backs off; collisions; first attempt begun -/
  phase : Nat := 0
  cols : Nat := 0
  tried : Bool := false
  flush : Bool := false
  /-- start of the attempt, ring time at its start-frame delimiter, and the end of the last frame sent -/
  start : Nat := 0
  sfd : Nat := 0
  lastEnd : Nat := 0
  /-- in-band status of the PHY, and whether GMn_RXC runs (R270) -/
  inSpeed : BitVec 2 := 0
  inDuplex : Bool := false
  inLink : Bool := false
  rxc : Bool := false
  tsq : List (List Word) := []
  tsLost : Bool := false
  /-- the PORT_DATA frame being packed, as a controller's (CanS) -/
  pack : List Word := []
  packTime : Word := 0
  packInv : Bool := false
  packN : Nat := 0
  lost : Bool := false
  gap : Bool := false
  packLost : Bool := false
  /-- the frame whose attempt still runs at entry into SLEEP, and when it ends at the latest (R288) -/
  late : Option (MacTx × Nat) := none
  deriving DecidableEq, Repr

/-- A request to a bridged device window (R223-R225). -/
structure WinReq where
  cmd : Cmd
  write : Bool
  count : Nat
  off : Nat
  data : List Word := []
  arrival : Nat
  deriving DecidableEq, Repr

/-- A bridged device window: the request in service with its RID, those that wait, and the words of the answer so far. -/
structure WinS where
  cur : Option WinReq := none
  waiting : List WinReq := []
  answer : List QWord := []
  deriving DecidableEq, Repr

/-- A descriptor of the transmit ring with the words of its buffer (R304): LENGTH, SEAL and SLOT; `authOk`: the GCM tag that the
buffer carries holds (log entry 5). -/
structure TxDesc where
  words : List Word := []
  len : Nat := 0
  doSeal : Bool := false
  slot : Nat := 0
  authOk : Bool := true
  deriving DecidableEq, Repr

/-- A posted receive buffer (R306): its address in host memory. -/
structure RxDesc where
  addr : Nat := 0
  deriving DecidableEq, Repr

/-- A command that the bridge forms for a window (R294-R302): the frame, its window and offset, the read TLP it serves with the
place and number of words it brings, whether it fills a prefetch buffer, and its place in arrival order. -/
structure HbrCmd where
  frame : Frame
  win : Nat
  off : Nat
  write : Bool
  posted : Bool := false
  rd : Option Nat := none
  at_ : Nat := 0
  n : Nat := 0
  /-- words wanted at `at_`; the block reads `n` -/
  want : Nat := 0
  pf : Bool := false
  /-- its window has been written since, or its registers have: what it prefetches is discarded (R303) -/
  stale : Bool := false
  order : Nat := 0
  /-- the key slot that seals it (R294) -/
  slot : Option Nat := none
  deriving DecidableEq, Repr

/-- A tracker entry (R299). -/
structure HbrTrk where
  cmd : HbrCmd
  retries : Nat := 0
  quarantine : Bool := false
  /-- its first byte has not left the hub: no timeout runs (R64); and the timeout in ns that it started with (R47) -/
  waits : Bool := false
  period : Nat := 10000000
  /-- sent before a reset (R291): its reply is discarded -/
  dead : Bool := false
  deriving DecidableEq, Repr

/-- A read TLP in progress (R296): window, words asked for, those that have come, parts still out, the worst outcome. -/
structure HbrRead where
  win : Nat
  n : Nat
  /-- byte offset of its first dword -/
  off : Nat := 0
  words : Tab Word := []
  left : Nat
  bad : Bool := false
  deriving DecidableEq, Repr

/-- A prefetch buffer (R302): window, byte offset of its first word, its words and which have been returned. -/
structure PfBuf where
  win : Nat
  base : Nat
  words : List Word
  taken : List Bool
  lastUse : Nat
  deriving DecidableEq, Repr

/-- What the bridge has done towards its host (model's own): completions, memory writes, messages. -/
inductive HostOut where
  | completion (rd : Nat) (words : List Word)
  | abort (rd : Nat)
  | unsupported
  | data (w : Word)
  | frame (q addr : Nat) (words : List Word) (desc2 : Word)
  | txDone (ix : Nat) (desc2 desc3 : Word)
  | msi (v : Nat)
  deriving DecidableEq, Repr

/-- The host bridge beside its registers (R290-R310). -/
structure HbrS where
  trk : Tab HbrTrk := []
  /-- commands formed and not yet sent, in arrival order -/
  wait : List HbrCmd := []
  reads : Tab HbrRead := []
  nextRead : Nat := 0
  nextOrder : Nat := 0
  /-- the last WRITE_POSTED sent under each TAG, which the error log names when it fails (R310) -/
  posted : Tab HbrCmd := []
  pf : Tab PfBuf := []
  /-- uses of the prefetch buffers so far, by which the least recently used one is known (R302) -/
  pfUses : Nat := 0
  /-- descriptors given to the bridge and not yet processed; the first one is in the switch core; its outcome -/
  tx : List TxDesc := []
  txBusy : Bool := false
  txDone : Option (BitVec 8 × BitVec 16) := none
  /-- posted buffers per receive queue, and queues whose vector waits for the end of INT_US -/
  rx : Tab (List RxDesc) := []
  intWait : List Nat := []
  /-- running number of error-log entries -/
  elogNo : Nat := 0
  /-- MSI-X table by dword (vector control resets to masked) and pending bits -/
  msix : Tab Word := []
  pba : BitVec 64 := 0
  /-- uncorrectable error status of Advanced Error Reporting (R290; PRESUMED, log entry 8) -/
  aer : Word := 0
  /-- what the host has seen, oldest first -/
  out : List HostOut := []
  deriving DecidableEq, Repr

/-- A field power channel beside its registers (R315-R322). -/
structure PchS where
  /-- fault timer in ticks at instant `ftAt`; it counts up while limiting, down by one every 8 ticks otherwise -/
  ft : Nat := 0
  ftAt : Nat := 0
  /-- the episode began in RAMP or ENHANCE -/
  ftRamp : Bool := false
  /-- model temperature ΔT in 1e-9 °C (R318) -/
  dT : Int := 0
  /-- instant from which PG qualifies: the ramp was complete, or PG dropped; and at which PG asserted -/
  rampAt : Nat := 0
  pgAt : Nat := 0
  /-- the last measurement found VOUT below VIN - 1.5 V -/
  lowV : Bool := false
  /-- the gate stands at high impedance, the partner driving it (R315) -/
  handed : Bool := false
  /-- the channel parked on a hub of a pair -/
  pairPark : Bool := false
  /-- the PWR tick of the last OFF, and the retry count of a channel that it turned off (R320) -/
  offTick : Option Nat := none
  offFrom : Option Nat := none
  /-- the instant of the schedule entry that turned it off last (R186) -/
  offEntry : Option Nat := none
  deriving DecidableEq, Repr

/-- A unit on its way into the switch core (R153): the frame, the port it entered by, whether it originates in this hub
(then SEQ, TIME and the seal are set at lookup), and the outcome of its GCM check. -/
structure UnitIn where
  frame : Frame
  inPort : Nat
  own : Bool
  authOk : Bool := true
  /-- a frame of the bridge's transmit ring: its descriptor is written back after the lookup (R304) -/
  txr : Bool := false
  /-- of a frame of the bridge: the key slot that seals it (R294, R304) -/
  slot : Option Nat := none
  deriving DecidableEq, Repr

/-- Timers that run: each names the event that its expiry is. Deadlines are kept in `State.timers`. -/
inductive Timer where
  | grace (src : Nat) | pulse | alive | wdg | llWdg | tempClear (crit : Bool)
  | islRelease (i : Nat) | islPower (i : Nat) | wake | psw | bootRetry
  | hbTwin | hbPin | pinWait | claimWait | claimCheck | pairWait | transfer | ack | backlog | joinSend | digestSend | hbSend
  | cmdTimeout (port tag : Nat) | quarantine (port tag : Nat)
  | sessIdle (n : Nat) | sessUnused (n : Nat) | sessSpent (n : Nat)
  | trainSend (l : Nat) | hello (l : Nat) | leaving (l : Nat) | nbr (l : Nat) | train (l : Nat) | fallback (l : Nat)
  | heldDown (l : Nat) | modWait (l : Nat) | modPoll (l : Nat)
  | pressWait (key : Nat) | pressIdle (key : Nat)
  | timeSend (l : Nat) | listen | upstream
  | rxPack (e : Nat) | window (w : Nat) | cosHold (k p : Nat)
  | canPack (n : Nat) | survey (n : Nat) | dwell (n : Nat) | rdTimeout (n : Nat)
  | macPack (m : Nat) | backoff (m : Nat)
  | ncRetry (tag : Nat) | readDeadline (i : Nat) | prefetch (i : Nat) | intMod (q : Nat)
  | ramp (c : Nat) | retry (c : Nat) | retryReset (c : Nat) | pg (c : Nat) | park (c : Nat) | ft (c : Nat)
  | relayWindow | relayProgress | recoveryPull | relaySend
  deriving DecidableEq, Repr

end Sys2Proof.Machine
end

