-- ==== Sys2Proof/Operand.lean ====
section
/-!
DEFINITION. The operands that events carry from outside the hub: what a detector measured, what a device answered, what a
check whose arithmetic the model does not do (a signature, a hash, a decryption) found.
-/
namespace Sys2Proof
open Machine

/-- Why a link goes down (R102). -/
inductive DownCause where
  | signalLoss | syncErrors | remoteFault | moduleTxFault | moduleLos
  deriving DecidableEq, Repr

/-- What the identification page of a module says (R106): its type, and whether it declares diagnostics. -/
inductive ModuleId where
  | sfp (diag : Bool) | notSfp (diag : Bool) | unreadable
  deriving DecidableEq, Repr

/-- The diagnostics of a module (R106, SFF-8472), and its flags. -/
structure ModuleDiag where
  temp : BitVec 16
  vcc : BitVec 16
  bias : BitVec 16
  txPower : BitVec 16
  rxPower : BitVec 16
  warn : Bool
  alarm : Bool
  txFault : Bool
  los : Bool
  deriving DecidableEq, Repr

/-- What the code of R142 finds in a word. -/
inductive EccResult where
  | clean | corrected1 | corrected2 | uncorrectable
  deriving DecidableEq, Repr

/-- A received TIME frame (R169) and its tail. -/
structure TimeRx where
  frame : Frame
  tail : Tail
  deriving DecidableEq, Repr

/-- A received LINK_CTRL frame (R97) beside its subtype and payload: does its frame check hold, its rind, its TIME. -/
structure CtrlTail where
  fcsOk : Bool := true
  rind : Word := 0x5A5A_0000
  time : Word := 0
  deriving DecidableEq, Repr

/-- What a CAN controller detects on the bus outside a frame of its own (R261), with the overload frames and protocol
exceptions that its counters name. -/
inductive CanErr where
  | bit | stuff | form | ack | crc | overload | exception
  deriving DecidableEq, Repr

/-- An error as ISO 11898-1 counts it: its kind; how often a further step of 8 is due (dominant bits that follow an error
flag); whether the standard leaves the counter unchanged; whether it is the bit error of R262: detected after the
arbitration field, sent recessive and read dominant; and whether the controller had sent the frame before it (`own`: its further
steps are those of a transmitter). -/
structure CanError where
  kind : CanErr := .bit
  extra8 : Nat := 0
  exempt : Bool := false
  clash : Bool := false
  own : Bool := false
  deriving DecidableEq, Repr

/-- A frame as a controller receives it (R254, R257): its header fields, data and the time from the sample point of its
start-of-frame bit to its end, in ns. `crcOk`: correct through the CRC delimiter; `good`: received without error. -/
structure CanFrame where
  fmt : BitVec 2 := 0
  ide : Bool := false
  rtr : Bool := false
  brs : Bool := false
  esi : Bool := false
  sec : Bool := false
  len : BitVec 12 := 0
  id : BitVec 29 := 0
  sdt : BitVec 8 := 0
  vcid : BitVec 8 := 0
  af : Word := 0
  bytes : List Byte := []
  sof : Nat := 0
  crcOk : Bool := true
  good : Bool := true
  deriving DecidableEq, Repr

/-- How an attempt ends (R260). -/
inductive CanOutcome where
  | sent | arbLost | error (e : CanError)
  deriving DecidableEq, Repr

/-- The end of an attempt: how, how long ago its start-of-frame bit was sampled (ns), the loop delay measured in it (R252), and
when, in CAN clocks after the start of a data bit that was sent, the returning level was not that bit's, and whether that bit was
recessive. -/
structure CanAttempt where
  result : CanOutcome := .sent
  sof : Nat := 0
  loopDly : Option Nat := none
  wrong : List Nat := []
  recessive : Bool := false
  deriving DecidableEq, Repr

/-- A frame on an Ethernet medium (R282): its bytes from the destination address through the frame check, whether the PHY
signalled an error, whether it was a whole number of bytes, and how long ago its start-frame delimiter passed (ns). -/
structure MacRx where
  bytes : List Byte := []
  symbolErr : Bool := false
  aligned : Bool := true
  sfd : Nat := 0
  /-- the GCM check of the Yarru frame it may carry (log entry 5) -/
  authOk : Bool := true
  deriving DecidableEq, Repr

/-- One measurement of a channel in the units of PWR_CH_MEAS (R327). -/
structure Meas where
  i : BitVec 16 := 0
  vout : BitVec 16 := 0
  vgs : BitVec 16 := 0
  vin : BitVec 16 := 0
  tMeas : BitVec 16 := 0
  deriving DecidableEq, Repr

/-- What a SESSION order says once it is opened with the pair key (R334, R456): the session, whether it is opened (else
closed, with its audit cause), and whether the record passed its check (log entry 5). -/
structure SessionOrder where
  opened : Bool := true
  sess : Session := { num := 1 }
  cause : Nat := 1
  ok : Bool := true
  deriving DecidableEq, Repr

/-- A state-transfer record once it is opened (R346, R456): the session table, retry cache, pair SEQ counters, press contexts
of pair streams, schedule table, transmit queues (units by queue, slots by controller), channel words, and the number of the
order that follows. -/
structure SyncRecord where
  ok : Bool := true
  next : BitVec 16 := 0
  sessions : List Session := []
  /-- per session number: ns since it was opened or last accepted a command (R44) -/
  ages : Tab Nat := []
  /-- per session number: ns of the idle time still to run; no entry where none runs -/
  idles : Tab Nat := []
  cache : List CacheEntry := []
  seqs : Tab Nat := []
  ctxs : Tab PressCtx := []
  sched : Tab Entry := []
  units : List (Nat × Frame) := []
  canSlots : Tab CanTx := []
  canSends : Tab (List CanTx) := []
  macSlots : Tab MacTx := []
  macSends : Tab (List MacTx) := []
  macQueues : Tab (Tab (List MacTx)) := []
  /-- per engine: the words of its transmit path, and how many of them stand in TXQ -/
  paths : Tab (List QWord × Nat) := []
  chans : Tab Word := []
  deriving DecidableEq, Repr

/-- One periodic sensor reading (R356): core-die and power-die temperature, a supply monitor. -/
inductive Sensor where
  | coreTemp (k : Fin 8) (t : BitVec 16)
  | powerTemp (k : Fin 2) (t : BitVec 16)
  | supply (k : Fin 14) (mv : BitVec 16) (outFor20us : Bool)
  deriving DecidableEq, Repr

/-- How a condition comes: once, to stay, or to an end; or, for a source that watches stored words, `bits` bits of the word at `place`
have flipped, which the next read of it meets (R142, R155, R210, R220). -/
inductive Edge where
  | pulse | rise | fall
  | upset (place bits : Nat)
  deriving DecidableEq, Repr

inductive Rail where
  | vddAon | core | other (m : Fin 6)
  deriving DecidableEq, Repr

/-- How a boot step's own work ended (R408, R411): a self-test, a lock, a verification; and which groups of B04 were detected. -/
structure StepResult where
  ok : Bool := true
  detect : BitVec 12 := 0xFFF
  deriving DecidableEq, Repr

/-- What the background verify of R428 finds: every byte reads back, hash and signature hold, and, of a profile image, the
signature of the profile itself, the local-logic image and the wrapped keys (log entry 5). -/
structure VerifyResult where
  readOk : Bool := true
  sigOk : Bool := true
  innerOk : Bool := true
  llOk : Bool := true
  keysOk : Bool := true
  deriving DecidableEq, Repr

end Sys2Proof
end

