-- ==== Sys2Proof/Syntax.lean ====
section
/-!
DEFINITION. The commands of the hub: one constructor per row of spec/opcode_table.json, in the table's order, with the
operands the row's rule gives it. Operand types stand in Sys2Proof/Operand.lean.
-/
namespace Sys2Proof
open Machine

/-- The commands and events of the hub. Each docstring cites the rule of spec/ that the table names. -/
inductive Instr where
  /-- READ, R75. -/
  | read (c : Cmd)
  /-- WRITE, R73. -/
  | write (c : Cmd)
  /-- WRITE_POSTED, R78. -/
  | writePosted (c : Cmd)
  /-- READ_MODIFY_WRITE, R75. -/
  | readModifyWrite (c : Cmd)
  /-- READ_BLOCK, R34. -/
  | readBlock (c : Cmd)
  /-- WRITE_BLOCK, R34. -/
  | writeBlock (c : Cmd)
  /-- PORT_SEND, R79. -/
  | portSend (c : Cmd)
  /-- PORT_CONFIG, R80. -/
  | portConfig (c : Cmd)
  /-- PORT_FLUSH, R162. -/
  | portFlush (c : Cmd)
  /-- APPLY_AT, R182. -/
  | applyAt (c : Cmd)
  /-- SAMPLE_AT, R182. -/
  | sampleAt (c : Cmd)
  /-- SNAPSHOT_AT, R190. -/
  | snapshotAt (c : Cmd)
  /-- SESSION_OPEN, R450. -/
  | sessionOpen (c : Cmd) (x : KeyExchange)
  /-- SESSION_CLOSE, R82. -/
  | sessionClose (c : Cmd)
  /-- PROFILE_SELECT, R418. -/
  | profileSelect (c : Cmd)
  /-- PROFILE_STORE, R416. -/
  | profileStore (c : Cmd)
  /-- SELFTEST_REQ, R85. -/
  | selftestReq (c : Cmd)
  /-- HEALTH_GET, R86. -/
  | healthGet (c : Cmd)
  /-- FAULT_ACK, R379. -/
  | faultAck (c : Cmd)
  /-- SAFE_ENTER, R380. -/
  | safeEnter (c : Cmd)
  /-- SAFE_LEAVE, R381. -/
  | safeLeave (c : Cmd)
  /-- UPDATE_BEGIN, R428. -/
  | updateBegin (c : Cmd)
  /-- UPDATE_BLOCK, R428. -/
  | updateBlock (c : Cmd)
  /-- UPDATE_VERIFY, R428. -/
  | updateVerify (c : Cmd)
  /-- UPDATE_ACTIVATE, R428. -/
  | updateActivate (c : Cmd)
  /-- UPDATE_CONFIRM, R428. -/
  | updateConfirm (c : Cmd)
  /-- UPDATE_RELAY, R439. -/
  | updateRelay (c : Cmd)
  /-- UPDATE_ABORT, R428. -/
  | updateAbort (c : Cmd)
  /-- TIME_STEP, R176. -/
  | timeStep (c : Cmd)
  /-- TIME_RATE, R175. -/
  | timeRate (c : Cmd)
  /-- STEP_REARM, R176. -/
  | stepRearm (c : Cmd)
  /-- TABLE_FENCE, R156. -/
  | tableFence (c : Cmd)
  /-- PAIR_HANDOVER, R344. -/
  | pairHandover (c : Cmd)
  /-- PAIR_STATUS, R347. -/
  | pairStatus (c : Cmd)
  /-- LOG_READ, R91. -/
  | logRead (c : Cmd)
  /-- ECHO, R71. -/
  | echo (c : Cmd)
  /-- RESET_CHIP, R92. -/
  | resetChip (c : Cmd)
  /-- REGISTER_WRITE, R8. -/
  | registerWrite (view : Bool) (off : Nat) (v : Word)
  /-- REPLY_RECEIVE, R64. -/
  | replyReceive (f : Frame) (authOk : Bool)
  /-- EVENT_RECEIVE, R56. -/
  | eventReceive (f : Frame)
  /-- COMMAND_TIMEOUT, R64. -/
  | commandTimeout (port : BitVec 8) (tag : BitVec 9)
  /-- QUARANTINE_END, R64. -/
  | quarantineEnd (port : BitVec 8) (tag : BitVec 9)
  /-- RETRY_CACHE_EXPIRE, R67. -/
  | retryCacheExpire
  /-- TRAIN_ID_SEND, R97. -/
  | trainIdSend (l : Fin 5)
  /-- TRAIN_ID, R96. -/
  | trainId (l : Fin 5) (payload : List Word) (t : CtrlTail)
  /-- HELLO_SEND, R97. -/
  | helloSend (l : Fin 5)
  /-- HELLO, R104. -/
  | hello (l : Fin 5) (payload : List Word) (t : CtrlTail)
  /-- LEAVING, R102. -/
  | leaving (l : Fin 5) (t : List Word × CtrlTail)
  /-- LEAVING_SEND, R97. -/
  | leavingSend (l : Fin 5)
  /-- NBR_STALE, R104. -/
  | nbrStale (l : Fin 5)
  /-- SIGNAL_DETECT, R99. -/
  | signalDetect (l : Fin 5)
  /-- CDR_LOCK, R99. -/
  | cdrLock (l : Fin 5)
  /-- BLOCK_LOCK, R99. -/
  | blockLock (l : Fin 5)
  /-- VERIFY, R99. -/
  | verify (l : Fin 5)
  /-- TRAINING_LIMIT_EXPIRE, R100. -/
  | trainingLimitExpire (l : Fin 5)
  /-- FALLBACK_WAIT_EXPIRE, R100. -/
  | fallbackWaitExpire (l : Fin 5)
  /-- LINK_DOWN, R102. -/
  | linkDown (l : Fin 5) (cause : DownCause)
  /-- HELD_DOWN_EXPIRE, R103. -/
  | heldDownExpire (l : Fin 5)
  /-- CLR_HOLD, R103. -/
  | clrHold (l : Fin 5)
  /-- RETRAIN, R121. -/
  | retrain (l : Fin 5)
  /-- CABLING_SIGNAL_LOST, R99. -/
  | cablingSignalLost (l : Fin 5)
  /-- LANE_ENABLE, R121. -/
  | laneEnable (l : Fin 5) (en : Bool)
  /-- MODULE_ABS_CHANGE, R106. -/
  | moduleAbsChange (l : Fin 5) (absent : Bool)
  /-- MODULE_ID_READ, R106. -/
  | moduleIdRead (l : Fin 5) (r : ModuleId)
  /-- MODULE_DIAG_POLL, R106. -/
  | moduleDiagPoll (l : Fin 5) (d : Option ModuleDiag)
  /-- RING_FRAME_RECEIVE, R107. -/
  | ringFrameReceive (l : Fin 5) (f : Frame)
  /-- FRAME_END_RECEIVE, R112. -/
  | frameEndReceive (l : Fin 5) (t : Tail)
  /-- UNIT_TRANSMIT, R150. -/
  | unitTransmit (p : Fin 128)
  /-- REPEAT_PATH_JOIN, R115. -/
  | repeatPathJoin
  /-- REPEAT_PATH_LEAVE, R116. -/
  | repeatPathLeave (spur : Bool)
  /-- BYPASS_HOLD_RELEASE, R114. -/
  | bypassHoldRelease
  /-- TEST_RELEASE, R114. -/
  | testRelease
  /-- UNIT_LOOKUP, R153. -/
  | unitLookup
  /-- RESIDUE_HEAD_TEST, R152. -/
  | residueHeadTest (q : Fin 1024)
  /-- RESIDUE_EXPIRE, R152. -/
  | residueExpire (q : Fin 1024)
  /-- SCRUB_WORD, R143. -/
  | scrubWord (w : Nat) (found : EccResult)
  /-- COMMIT, R155. -/
  | commit
  /-- CAPTURE_ENABLE, R160. -/
  | captureEnable
  /-- GAP_RECORD_REMOVE, R139. -/
  | gapRecordRemove
  /-- PRESS_WAIT_EXPIRE, R131. -/
  | pressWaitExpire (key : Nat)
  /-- PRESS_CONTEXT_IDLE, R129. -/
  | pressContextIdle (key : Nat)
  /-- TIME_FRAME_SEND, R169. -/
  | timeFrameSend (l : Fin 5)
  /-- TIME_FRAME_RECEIVE, R171. -/
  | timeFrameReceive (l : Fin 5) (t : TimeRx)
  /-- MASTER_LISTEN_EXPIRE, R168. -/
  | masterListenExpire
  /-- UPSTREAM_LOSS, R171. -/
  | upstreamLoss
  /-- STEP_APPLY, R177. -/
  | stepApply
  /-- TIME_COPY_RESYNC, R174. -/
  | timeCopyResync
  /-- SCHEDULE_HANDOFF, R185. -/
  | scheduleHandoff (e : Fin 256)
  /-- ENG_START, R183. -/
  | engStart (e : Fin 256)
  /-- ENG_STOP, R183. -/
  | engStop (e : Fin 256)
  /-- SEND, R183. -/
  | send (e : Fin 256)
  /-- PIN_SET, R204. -/
  | pinSet (e : Fin 256)
  /-- PWR_ON, R323. -/
  | pwrOn (e : Fin 256)
  /-- PWR_OFF, R323. -/
  | pwrOff (e : Fin 256)
  /-- PIN_SAMPLE, R204. -/
  | pinSample (e : Fin 256)
  /-- COUNT_SAMPLE, R204. -/
  | countSample (e : Fin 256)
  /-- ENG_TRIGGER, R237. -/
  | engTrigger (e : Fin 256)
  /-- PWR_SAMPLE, R327. -/
  | pwrSample (e : Fin 256)
  /-- TIM_SCHED_CANCEL, R187. -/
  | timSchedCancel (e : Fin 256)
  /-- SNAPSHOT_FIRE, R191. -/
  | snapshotFire (e : Fin 256)
  /-- SNAPSHOT_FRAME_RECEIVE, R190. -/
  | snapshotFrameReceive (l : Fin 5) (f : Frame) (t : Tail)
  /-- SHIFTIN, R234. -/
  | shiftin (e : Fin 64)
  /-- SHIFTOUT, R234. -/
  | shiftout (e : Fin 64)
  /-- TAKE, R235. -/
  | take (e : Fin 64)
  /-- GIVE, R235. -/
  | give (e : Fin 64)
  /-- HOLD, R236. -/
  | hold (e : Fin 64)
  /-- BRANCH, R239. -/
  | branch (e : Fin 64)
  /-- LOOP, R239. -/
  | loop (e : Fin 64)
  /-- LOAD, R240. -/
  | load (e : Fin 64)
  /-- MOVE, R240. -/
  | move (e : Fin 64)
  /-- DRIVE, R241. -/
  | drive (e : Fin 64)
  /-- DIR, R241. -/
  | dir (e : Fin 64)
  /-- SIGNAL, R238. -/
  | signal (e : Fin 64)
  /-- CRC, R242. -/
  | crc (e : Fin 64)
  /-- MATCH, R243. -/
  | matchInstr (e : Fin 64)
  /-- STAMP, R244. -/
  | stamp (e : Fin 64)
  /-- HALT, R245. -/
  | halt (e : Fin 64)
  /-- NOP, R245. -/
  | nop (e : Fin 64)
  /-- START, R216. -/
  | start (e : Fin 64) (pc : BitVec 7)
  /-- STOP, R219. -/
  | stop (e : Fin 64)
  /-- CLEAR, R219. -/
  | clear (e : Fin 64)
  /-- FLUSH_TX, R211. -/
  | flushTx (e : Fin 64)
  /-- FLUSH_RX, R211. -/
  | flushRx (e : Fin 64)
  /-- START_MASK, R216. -/
  | startMask (k : Fin 8) (m : BitVec 8)
  /-- STOP_MASK, R216. -/
  | stopMask (k : Fin 8) (m : BitVec 8)
  /-- CLK_RESTART, R217. -/
  | clkRestart (k : Fin 8)
  /-- ENG_INJECT, R221. -/
  | engInject (e : Fin 64) (w : BitVec 24)
  /-- INJECT_EXECUTE, R221. -/
  | injectExecute (e : Fin 64)
  /-- CLU_DOUT_SET, R203. -/
  | cluDoutSet (k : Fin 8) (m : Word)
  /-- CLU_DOUT_CLR, R203. -/
  | cluDoutClr (k : Fin 8) (m : Word)
  /-- DEBOUNCE_SAMPLE, R201. -/
  | debounceSample (k : Fin 8)
  /-- COS_EVENT, R205. -/
  | cosEvent (k : Fin 8)
  /-- TXQ_FEED, R207. -/
  | txqFeed (e : Fin 64)
  /-- PACKER_WORD, R209. -/
  | packerWord (e : Fin 64)
  /-- RX_PACK_EXPIRE, R209. -/
  | rxPackExpire (e : Fin 64)
  /-- BANK_SUPPLY_LOSS, R196. -/
  | bankSupplyLoss (k : Fin 8)
  /-- BANK_SUPPLY_RETURN, R196. -/
  | bankSupplyReturn (k : Fin 8)
  /-- WINDOW_ANSWER, R224. -/
  | windowAnswer (w : Fin 16)
  /-- WINDOW_TIMEOUT, R225. -/
  | windowTimeout (w : Fin 16)
  /-- CAN_FRAME_RECEIVE, R257. -/
  | canFrameReceive (n : Fin 32) (f : CanFrame)
  /-- CAN_ATTEMPT_END, R260. -/
  | canAttemptEnd (n : Fin 32) (a : CanAttempt)
  /-- BUS_OFF_RECOVERY_DONE, R261. -/
  | busOffRecoveryDone (n : Fin 32)
  /-- RECOVER, R261. -/
  | recover (n : Fin 32)
  /-- OPMODE_APPLY, R248. -/
  | opmodeApply (n : Fin 32)
  /-- CAN_RATE_DETECT_START, R263. -/
  | canRateDetectStart (n : Fin 32)
  /-- CAN_RATE_DETECT_ABORT, R263. -/
  | canRateDetectAbort (n : Fin 32)
  /-- RATE_SURVEY_END, R263. -/
  | rateSurveyEnd (n : Fin 32) (pulses : List Nat)
  /-- CANDIDATE_DWELL_EXPIRE, R263. -/
  | candidateDwellExpire (n : Fin 32)
  /-- RATE_DETECT_TIMEOUT, R263. -/
  | rateDetectTimeout (n : Fin 32)
  /-- REFERENCE_RELEASE, R265. -/
  | referenceRelease (n : Fin 32)
  /-- CAN_PACK_EXPIRE, R257. -/
  | canPackExpire (n : Fin 32)
  /-- CAN_TSQ_CTL, R181. -/
  | canTsqCtl (n : Fin 32)
  /-- CAN_WAKE, R266. -/
  | canWake (n : Fin 32) (f : Option CanFrame)
  /-- MAC_FRAME_RECEIVE, R282. -/
  | macFrameReceive (m : Fin 20) (r : MacRx)
  /-- MAC_DEFER_END, R278. -/
  | macDeferEnd (m : Fin 20) (carrier : Bool)
  /-- COLLISION, R278. -/
  | collision (m : Fin 20) (bits : Nat)
  /-- BACKOFF_EXPIRE, R278. -/
  | backoffExpire (m : Fin 20)
  /-- MAC_TX_END, R279. -/
  | macTxEnd (m : Fin 20)
  /-- INBAND_STATUS, R270. -/
  | inbandStatus (g : Fin 4) (speed : BitVec 2) (duplex link : Bool)
  /-- MAC_PACK_EXPIRE, R283. -/
  | macPackExpire (m : Fin 20)
  /-- MAC_TSQ_CTL, R287. -/
  | macTsqCtl (m : Fin 20)
  /-- GO, R289. -/
  | go (ctl : Word)
  /-- MDIO_DONE, R289. -/
  | mdioDone (data : BitVec 16)
  /-- MAC_WAKE, R288. -/
  | macWake (m : Fin 20) (r : MacRx)
  /-- WINDOW_WRITE_TLP, R295. -/
  | windowWriteTlp (off : Nat) (words : List Word) (beOk : Bool)
  /-- WINDOW_READ_TLP, R296. -/
  | windowReadTlp (off : Nat) (n : Nat)
  /-- BAR0_ACCESS, R293. -/
  | bar0Access (off : Nat) (wr : Option Word) (beOk : Bool)
  /-- BAR4_ACCESS, R292. -/
  | bar4Access (off : Nat) (wr : Option Word) (beOk : Bool)
  /-- HBR_TXR_TAIL, R304. -/
  | hbrTxrTail (tail : Nat) (descs : List TxDesc)
  /-- HBR_RXR_TAIL, R307. -/
  | hbrRxrTail (q : Fin 8) (tail : Nat) (bufs : List RxDesc)
  /-- RX_DELIVER, R306. -/
  | rxDeliver
  /-- INT_MODERATION_EXPIRE, R308. -/
  | intModerationExpire (q : Fin 8)
  /-- HBR_ELOG_TAIL, R310. -/
  | hbrElogTail (t : Nat)
  /-- ERR_PEND_CLEAR, R310. -/
  | errPendClear
  /-- NC_RETRY_EXPIRE, R298. -/
  | ncRetryExpire (tag : BitVec 9)
  /-- READ_DEADLINE, R300. -/
  | readDeadline (ix : Nat)
  /-- PREFETCH_EXPIRE, R303. -/
  | prefetchExpire (ix : Nat)
  /-- FUNCTION_LEVEL_RESET, R291. -/
  | functionLevelReset
  /-- PERST_N, R291. -/
  | perstN
  /-- PCIE_LINK_DOWN, R307. -/
  | pcieLinkDown
  /-- PWR_CH_ON, R316. -/
  | pwrChOn (c : Fin 16)
  /-- PWR_CH_OFF, R320. -/
  | pwrChOff (c : Fin 16)
  /-- CLR_LATCH, R321. -/
  | clrLatch (c : Fin 16)
  /-- PWR_CMD, R323. -/
  | pwrCmd (on off : BitVec 16)
  /-- RAMP_COMPLETE, R316. -/
  | rampComplete (c : Fin 16) (enhance : Bool)
  /-- LIMIT_ONSET, R317. -/
  | limitOnset (c : Fin 16)
  /-- FAULT_TIMER_EXPIRE, R319. -/
  | faultTimerExpire (c : Fin 16)
  /-- THERMAL_UPDATE, R318. -/
  | thermalUpdate (c : Fin 16)
  /-- FET_GATE_FAIL, R319. -/
  | fetGateFail (c : Fin 16)
  /-- FET_STUCK_ON, R319. -/
  | fetStuckOn (c : Fin 16)
  /-- RAMP_TIMEOUT, R316. -/
  | rampTimeout (c : Fin 16)
  /-- OPEN_LOAD, R319. -/
  | openLoad (c : Fin 16)
  /-- VIN_OUT_OF_RANGE, R325. -/
  | vinOutOfRange (ov : Bool)
  /-- VIN_RESTORED, R325. -/
  | vinRestored
  /-- RETRY_EXPIRE, R321. -/
  | retryExpire (c : Fin 16)
  /-- RETRY_COUNT_RESET, R321. -/
  | retryCountReset (c : Fin 16)
  /-- PG_ASSERT, R322. -/
  | pgAssert (c : Fin 16)
  /-- DRIVE_RIGHT_LOSS, R314. -/
  | driveRightLoss (c : Fin 16)
  /-- PARK_TIMEOUT, R315. -/
  | parkTimeout (c : Fin 16)
  /-- PARK_HANDOFF, R315. -/
  | parkHandoff (c : Fin 16)
  /-- PFWARN_ASSERT, R326. -/
  | pfwarnAssert
  /-- PFWARN_RELEASE, R326. -/
  | pfwarnRelease
  /-- MEASUREMENT, R327. -/
  | measurement (c : Fin 16) (m : Meas)
  /-- ORDER, R333. -/
  | order (on : BitVec 16) (f : Frame) (rindGood : Bool)
  /-- PROGRESS, R333. -/
  | progress (on : BitVec 16) (payload : List Word)
  /-- CHANNEL, R333. -/
  | channel (on : BitVec 16) (payload : List Word)
  /-- SESSION, R333. -/
  | session (on : BitVec 16) (r : SessionOrder)
  /-- HANDOVER, R344. -/
  | handover (on : BitVec 16)
  /-- SYNC, R346. -/
  | sync (r : SyncRecord)
  /-- JOIN, R345. -/
  | join (payload : List Word)
  /-- JOIN_SEND, R345. -/
  | joinSend
  /-- DIGEST_SEND, R338. -/
  | digestSend
  /-- DIGEST, R338. -/
  | digest (on : BitVec 16) (payload : List Word)
  /-- ACK, R337. -/
  | ack (on : BitVec 16)
  /-- NAK, R337. -/
  | nak (on : BitVec 16)
  /-- ACK_TIMEOUT, R337. -/
  | ackTimeout
  /-- ORDER_BACKLOG_FULL, R337. -/
  | orderBacklogFull
  /-- HEARTBEAT, R337. -/
  | heartbeat (d2 d3 : BitVec 8)
  /-- HEARTBEAT_SEND, R339. -/
  | heartbeatSend
  /-- HB_IN_EDGE, R339. -/
  | hbInEdge (interval : Nat)
  /-- HEARTBEAT_SILENT, R339. -/
  | heartbeatSilent (pin : Bool)
  /-- CLAIM_WAIT_EXPIRE, R341. -/
  | claimWaitExpire
  /-- CLAIM_CHECK, R341. -/
  | claimCheck
  /-- ILK_CHANGE, R340. -/
  | ilkChange (low : Bool)
  /-- PAIR_WAIT_EXPIRE, R345. -/
  | pairWaitExpire
  /-- TRANSFER_TIMEOUT, R346. -/
  | transferTimeout
  /-- HOLD_EXPIRE, R336. -/
  | holdExpire
  /-- FITNESS_LOSS, R332. -/
  | fitnessLoss
  /-- REJOIN, R345. -/
  | rejoin
  /-- RESYNC, R346. -/
  | resync
  /-- LOCKSTEP_MISMATCH, R349. -/
  | lockstepMismatch (g : Fin 12)
  /-- LL_REQUEST, R354. -/
  | llRequest (f : Frame)
  /-- LOCAL_WDG, R355. -/
  | localWdg
  /-- SENSOR_READ, R356. -/
  | sensorRead (r : Sensor)
  /-- LOG_MIRROR, R360. -/
  | logMirror
  /-- KICK, R363. -/
  | kick (v : BitVec 16)
  /-- WDG_EXPIRE, R364. -/
  | wdgExpire (pending : Option (Fin 21))
  /-- SRAM_SCRUB, R366. -/
  | sramScrub (found : EccResult) (core : Bool)
  /-- SOURCE_RAISE, R369. -/
  | sourceRaise (src : BitVec 8) (inst : BitVec 6) (edge : Edge)
  /-- GRACE_EXPIRE, R373. -/
  | graceExpire (src : BitVec 8)
  /-- REACTION_COMPLETE, R484. -/
  | reactionComplete
  /-- COLLECTOR_CHECK, R383. -/
  | collectorCheck
  /-- INJECT, R383. -/
  | inject
  /-- FAULT_N_PULSE_END, R384. -/
  | faultNPulseEnd
  /-- ALIVE_TOGGLE, R385. -/
  | aliveToggle
  /-- ISL_RST_CTL, R392. -/
  | islRstCtl (m : BitVec 21)
  /-- ISL_PWR_CTL, R401. -/
  | islPwrCtl (m : BitVec 21)
  /-- ISLAND_POWER_UP, R401. -/
  | islandPowerUp (isl : Fin 21)
  /-- CLOCK_STOP, R390. -/
  | clockStop (isl : Fin 21)
  /-- CLOCK_RESUME, R390. -/
  | clockResume (isl : Fin 21)
  /-- ISLAND_RESET_RELEASE, R391. -/
  | islandResetRelease (isl : Fin 21)
  /-- RESYNC_TOKEN, R397. -/
  | resyncToken (isl : Fin 21)
  /-- HANDSHAKE_END, R394. -/
  | handshakeEnd (src dst : Fin 21)
  /-- POWER_ON, R466. -/
  | powerOn (st : Straps)
  /-- RESET_N, R407. -/
  | resetN (low : Bool) (st : Straps)
  /-- RAIL_DROP, R467. -/
  | railDrop (r : Rail)
  /-- BOOT_START, R411. -/
  | bootStart
  /-- BOOT_STEP_DONE, R412. -/
  | bootStepDone (r : StepResult)
  /-- PROFILE_SWITCH_END, R418. -/
  | profileSwitchEnd (ok prevOk : Bool)
  /-- PROFILE_STORE_DONE, R416. -/
  | profileStoreDone
  /-- SELFTEST_DONE, R85. -/
  | selftestDone (test : BitVec 8) (found : BitVec 128)
  /-- FENCE_COMPLETE, R156. -/
  | fenceComplete
  /-- FENCE_TIMEOUT, R89. -/
  | fenceTimeout
  /-- WAKE_FALL, R422. -/
  | wakeFall
  /-- WAKE_HIGH, R424. -/
  | wakeHigh
  /-- ERASE_COMPLETE, R428. -/
  | eraseComplete
  /-- VERIFY_COMPLETE, R428. -/
  | verifyComplete (r : VerifyResult)
  /-- REQ, R440. -/
  | req (l : Fin 5) (words : List Word)
  /-- DATA, R439. -/
  | data (l : Fin 5) (words : List Word) (rindGood : Bool)
  /-- REFUSE, R439. -/
  | refuse (l : Fin 5) (words : List Word)
  /-- RELAY_DATA_SEND, R440. -/
  | relayDataSend
  /-- RELAY_WINDOW_TIMEOUT, R439. -/
  | relayWindowTimeout
  /-- RELAY_NO_PROGRESS, R439. -/
  | relayNoProgress
  /-- RECOVERY_PULL_TIMER, R441. -/
  | recoveryPullTimer
  /-- SESSION_IDLE_EXPIRE, R42. -/
  | sessionIdleExpire (n : BitVec 16)
  /-- SESSION_UNUSED_EXPIRE, R42. -/
  | sessionUnusedExpire (n : BitVec 16)
  /-- SPENT_CLOSE_EXPIRE, R42. -/
  | spentCloseExpire (n : BitVec 16)
  /-- REKEY_CLOSE, R453. -/
  | rekeyClose (n : BitVec 16)
  /-- BURN, R448. -/
  | burn (slot : BitVec 2)
  /-- REVOKE, R449. -/
  | revoke (slot : BitVec 2)
  /-- OTP_OPERATION_DONE, R448. -/
  | otpOperationDone (ok : Bool)
  /-- UNLOCK, R460. -/
  | unlock (key : BitVec 2)
  /-- UNLOCK_CHECK_DONE, R460. -/
  | unlockCheckDone (tokenOk : Bool)
  /-- CAN_BUS_ERROR, R261. -/
  | canBusError (n : Fin 32) (e : CanError)
  /-- LIMIT_END, R317. -/
  | limitEnd (c : Fin 16)
  /-- DIE_TO_DIE_LINK_LOSS, R314. -/
  | dieToDieLinkLoss
  /-- DIE_TO_DIE_LINK_RETURN, R314. -/
  | dieToDieLinkReturn
  /-- HUB_INSERTED, R114. -/
  | hubInserted
  /-- PCIE_LINK_UP, R307. -/
  | pcieLinkUp (speed : BitVec 3) (width : BitVec 2)
  /-- GMN_RXC_CHANGE, R270. -/
  | gmnRxcChange (g : Fin 4) (runs : Bool)
  /-- FACET_PIN_CHANGE, R201. -/
  | facetPinChange (k : Fin 8) (p : Fin 32) (level : Bool)
  /-- WAKE_RISE, R422. -/
  | wakeRise
  /-- PIN_PATH_WAIT_EXPIRE, R339. -/
  | pinPathWaitExpire
  deriving DecidableEq, Repr

end Sys2Proof
end

