-- ==== Sys2Proof/Decode.lean ====
section
/-!
DEFINITION. The decoder over the bits of spec/opcode_table.json. No row of the table gives bits (every "fields" is empty): a
command of the hub is no word but a frame, an access or an event. So no word spells a command.
-/
namespace Sys2Proof

/-- The command that an `nbits`-bit word spells by the table's bits: none, since the table gives no row bits. -/
def decodeTableWord (_nbits _w : Nat) : Option Instr := none

end Sys2Proof
end

