-- ==== Sys2Proof/Config.lean ====
section
/-!
DEFINITION. The values the spec leaves open, as opaque constants: nothing in Lean can evaluate them, so a statement about
them holds whatever they are. `State.freeIx` numbers the draws (log entry 1).
-/
namespace Sys2Proof

/-- A word the spec does not fix (a random draw, a cipher text, a private record): the n-th draw of a run. -/
opaque Config.freeWord : Nat → Word

/-- A number the spec leaves open within bounds its rule gives: the n-th draw of a run. -/
opaque Config.freeNat : Nat → Nat

/-- The result of an operation whose result the spec does not state, as a function of its operands. -/
opaque Config.freeResult : Nat → Nat → Nat

/-- Word `i` of the key stream of AES-256-GCM under a key and an IV (R454, log entry 5). -/
opaque Config.gcmStream (key iv : List Word) (i : Nat) : Word

/-- Word `i` of the tag of AES-256-GCM under a key and an IV, over additional data and cipher text (R454, log entry 5). -/
opaque Config.gcmTag (key iv aad cipher : List Word) (i : Nat) : Word

end Sys2Proof
end

