-- ==== Sys2Proof/Machine/RegMap.lean ====
section
/-!
DEFINITION. The register map of the hub: every register of the fourteen blocks of R30 (spec/02_address_space_and_views.md)
with its offset, its strides, its retention class (R11), its island, and its fields with access code (R7) and reset
value (R10), as the register tables of spec/02, 04-08 and 10-17 and 20 give them. A register family that the spec lists
with an index (a lane, a queue, a controller ...) is one row with up to two strides; `i` and `j` are its indices.
-/
namespace Sys2Proof.Machine

/-- The registers, by the names of the spec. -/
inductive Reg where
  | ctlPartid
  | ctlVariant
  | ctlUid
  | ctlFwver
  | ctlFwslot
  | ctlNode
  | ctlPairaddr
  | ctlState
  | ctlRstcause
  | ctlSeccfg
  | ctlSesscfg
  | ctlSessstat
  | ctlDenycnt
  | ctlCmdto
  | ctlScratch
  | lnkCfg
  | lnkCtl
  | lnkState
  | lnkNbr0
  | lnkNbr1
  | lnkNbr2
  | lnkCnt
  | lnkMod0
  | lnkMod1
  | lnkMod2
  | lnkByp
  | lnkRpt
  | lnkDualSingle
  | prsCfg
  | prsStat
  | prsCnt
  | prsGaprec0
  | prsGaprec1
  | prsGaprec2
  | prsGaprec3
  | prsGapctl
  | swcPoolCfg
  | swcPoolStat0
  | swcPoolStat1
  | swcPoolStat2
  | swcMcCfg
  | swcCapCfg
  | swcPoolStat3
  | swcVatStat
  | swcVatErraddr
  | swcCnt
  | swcQcfg0
  | swcQcfg1
  | swcQocc
  | swcQpeak
  | swcQenq
  | swcQdrop
  | mcResidueDrop
  | swcFwdAct
  | swcFwdShd
  | swcFwdCtl
  | swcGrp
  | lpCfg
  | lpFlow
  | lpFmask
  | capCtl
  | capWptr
  | capReccnt
  | capStat
  | timCfg
  | timStat
  | timNow
  | timEpoch
  | timInc
  | timOffset
  | timMaster
  | timStep
  | timStepAt
  | timLnkdly
  | timAsym
  | timSchedCfg
  | timSchedStat
  | timSchedCancel
  | timSnapId
  | timSnapTime
  | timSnapStale
  | timCnt
  | timEntTime
  | timEntCtl
  | timEntSrc
  | timEntId
  | engCtl
  | engStatus
  | engClk
  | engPinmap0
  | engPinmap1
  | engQcfg
  | engQstat
  | engInject
  | engOsr
  | engIsr
  | engXy
  | engPattern
  | engCrcCfg
  | engCrcPoly
  | engCrcInit
  | engCrcVal
  | engProg
  | pinCfg
  | cluDin
  | cluDout
  | cluDoutSet
  | cluDoutClr
  | cluCtl
  | cluCfg
  | cluStat
  | cluCosCfg
  | cluCosDest
  | cluPcnt
  | cluCnt
  | winCfg
  | winStat
  | canCtl
  | canCfg
  | canBtNom
  | canBtFd
  | canBtXl
  | canXpwm
  | canSsp
  | canPack
  | canStat
  | canClash
  | canRdCtl
  | canRdStat
  | canRefCfg
  | canRefId
  | canRefFid
  | canRefStat
  | canWakeCfg
  | canWufId
  | canWufIdmask
  | canWufData
  | canWufDmask
  | canWakeStat
  | canTsqRec
  | canTsqCtl
  | canCnt
  | macCfg
  | macPack
  | macAddr0
  | macAddr1
  | macHash
  | macPeer0
  | macPeer1
  | macStat
  | macEvtCfg
  | macEvtDest
  | macCntHalf
  | macTsqRec
  | macTsqCtl
  | macWakeCfg
  | macWupMask
  | macWakeStat
  | macWupData
  | macCnt
  | macMdioCtl
  | macMdioData
  | hbrCfg
  | hbrStat
  | hbrIrq
  | hbrCnt
  | hbrRxqDrop
  | hbrWinNode
  | hbrWinOff
  | hbrWinAttr
  | hbrKeySess
  | hbrKey
  | hbrTxrBaseLo
  | hbrTxrBaseHi
  | hbrTxrCfg
  | hbrTxrTail
  | hbrTxrHead
  | hbrRxrBaseLo
  | hbrRxrBaseHi
  | hbrRxrCfg
  | hbrRxrTail
  | hbrRxrHead
  | hbrRxmap
  | hbrElogHead
  | hbrElogTail
  | hbrElogOvf
  | hbrElog
  | pwrChCtl
  | pwrChCfg
  | pwrChLim
  | pwrChRamp
  | pwrChTherm0
  | pwrChTherm1
  | pwrChSns
  | pwrChCal
  | pwrChStat
  | pwrChFault
  | pwrChFtime
  | pwrChMeas0
  | pwrChMeas1
  | pwrChMeas2
  | pwrCnt
  | pwrCfg
  | pwrStat
  | pwrPg
  | pwrCmd
  | parCfg
  | parCtl
  | parStat
  | parPartner
  | parOrder
  | parLastTime
  | parLastCause
  | parCnt
  | mgtCfg
  | mgtStat
  | mgtLsStat
  | mgtWdg
  | mgtWdgInfo
  | mgtTemp
  | mgtPtemp
  | mgtSup
  | mgtSensCfg
  | mgtLogStat
  | mgtLogSeq
  | mgtLlStat
  | mgtLlMbox
  | mgtCnt
  | fltCfg
  | fltStat
  | fltPin
  | fltEvtCfg
  | fltEvtDest
  | fltSafe
  | fltChk
  | fltLastreact
  | fltLastreactTime
  | fltCnt
  | fltSrcCfg
  | fltSrcStat
  | fltSrcInst0
  | fltSrcInst1
  | islClkOk
  | islRstStat
  | islPwrStat
  | islStale
  | islRstCtl
  | islPwrCtl
  | islDropCnt
  | cdcOverrunCnt
  | islRstCnt
  | secStat
  | secOtpCnt
  | secDevid
  | secOwnerStat
  | secOwnerCtl
  | secOwnerHash
  | secBkey
  | secPkey
  | secKeystat
  | secCredDeny
  | secSessSel
  | secSessInfo
  | secDbgCtl
  | secDbgStat
  | secDbgChal
  | secDbgToken
  deriving DecidableEq, Repr

/-- Access codes of R7. `poStatus` is a PO field that its row calls a status (R461: writes are ignored);
`poKey` is a PO field whose row says it is written only and reads return zero. -/
inductive Acc where
  | ro | rw | w1c | wo | rwp | po | poStatus | poKey
  deriving DecidableEq, Repr

/-- Retention classes of R11. Class L is what SLEEP does to an island it powers down (R405), not a class of a row. -/
inductive Cls where
  | a | c | f | i
  deriving DecidableEq, Repr

/-- One field of a register table. `cls` is the class the field states for itself, if any (R11). -/
structure Field where
  hi : Nat
  lo : Nat
  acc : Acc
  reset : Nat
  cls : Option Cls
  deriving DecidableEq, Repr

/-- One register row: the offset of instance (i, j) is `base + i * s1 + j * s2`, with i < n1 and j < n2. `isl` is the island
of instance 0 and `islStep` what each further i adds. `snap`: the register is a counter that takes part in the snapshot (R191). -/
structure RegRow where
  base : Nat
  s1 : Nat
  n1 : Nat
  s2 : Nat
  n2 : Nat
  cls : Cls
  isl : Nat
  islStep : Nat
  snap : Bool
  fields : List Field
  deriving DecidableEq, Repr

/-- A named field of a register family. -/
structure Fld where
  reg : Reg
  hi : Nat
  lo : Nat
  deriving DecidableEq, Repr

/-! ### The rows of the register tables, one definition a register -/

namespace Row
def ctlPartid : RegRow := ⟨0x0, 0x0, 1, 0x0, 1, .c, 8, 0, false, [⟨31,16,.ro,0x960,none⟩, ⟨15,8,.ro,0x5e,none⟩, ⟨7,4,.ro,0xb,none⟩, ⟨3,0,.ro,1,none⟩]⟩
def ctlVariant : RegRow := ⟨0x4, 0x0, 1, 0x0, 1, .c, 8, 0, false, [⟨1,0,.ro,1,none⟩]⟩
def ctlUid : RegRow := ⟨0x10, 0x4, 4, 0x0, 1, .c, 8, 0, false, [⟨31,0,.ro,0,none⟩]⟩
def ctlFwver : RegRow := ⟨0x20, 0x0, 1, 0x0, 1, .c, 8, 0, false, [⟨31,24,.ro,0,none⟩, ⟨23,16,.ro,0,none⟩, ⟨15,0,.ro,0,none⟩]⟩
def ctlFwslot : RegRow := ⟨0x24, 0x0, 1, 0x0, 1, .c, 8, 0, false, [⟨1,1,.ro,0,none⟩, ⟨0,0,.ro,0,none⟩]⟩
def ctlNode : RegRow := ⟨0x40, 0x0, 1, 0x0, 1, .f, 8, 0, false, [⟨23,0,.rwp,0,none⟩]⟩
def ctlPairaddr : RegRow := ⟨0x44, 0x0, 1, 0x0, 1, .f, 8, 0, false, [⟨31,31,.rwp,0,none⟩, ⟨23,0,.rwp,0,none⟩]⟩
def ctlState : RegRow := ⟨0x50, 0x0, 1, 0x0, 1, .c, 8, 0, false, [⟨20,20,.ro,0,none⟩, ⟨16,16,.ro,0,none⟩, ⟨13,13,.ro,0,none⟩, ⟨12,12,.ro,0,none⟩, ⟨9,8,.ro,0,none⟩, ⟨5,4,.ro,0,none⟩, ⟨2,0,.ro,0,none⟩]⟩
def ctlRstcause : RegRow := ⟨0x54, 0x0, 1, 0x0, 1, .a, 8, 0, false, [⟨6,6,.w1c,0,none⟩, ⟨5,5,.w1c,0,none⟩, ⟨4,4,.w1c,0,none⟩, ⟨3,3,.w1c,0,none⟩, ⟨2,2,.w1c,0,none⟩, ⟨1,1,.w1c,0,none⟩, ⟨0,0,.w1c,1,none⟩]⟩
def ctlSeccfg : RegRow := ⟨0x60, 0x0, 1, 0x0, 1, .f, 8, 0, false, [⟨19,19,.ro,0,none⟩, ⟨18,18,.ro,0,none⟩, ⟨17,17,.ro,0,none⟩, ⟨16,16,.ro,0,none⟩, ⟨0,0,.rwp,0,none⟩]⟩
def ctlSesscfg : RegRow := ⟨0x64, 0x0, 1, 0x0, 1, .f, 8, 0, false, [⟨15,0,.rwp,0x384,none⟩]⟩
def ctlSessstat : RegRow := ⟨0x68, 0x0, 1, 0x0, 1, .i, 8, 0, false, [⟨31,16,.rwp,0,none⟩, ⟨11,8,.ro,0,none⟩, ⟨5,0,.ro,0,none⟩]⟩
def ctlDenycnt : RegRow := ⟨0x6C, 0x0, 1, 0x0, 1, .i, 8, 0, false, [⟨31,16,.rwp,0,none⟩, ⟨15,0,.rwp,0,none⟩]⟩
def ctlCmdto : RegRow := ⟨0x70, 0x0, 1, 0x0, 1, .f, 8, 0, false, [⟨19,0,.rwp,0x2710,none⟩]⟩
def ctlScratch : RegRow := ⟨0x80, 0x0, 1, 0x0, 1, .c, 8, 0, false, [⟨31,0,.rw,0,none⟩]⟩
def lnkCfg : RegRow := ⟨0x100000, 0x1000, 5, 0x0, 1, .f, 1, 1, false, [⟨31,31,.rwp,1,none⟩, ⟨30,29,.rwp,0,none⟩, ⟨28,28,.rwp,0,none⟩, ⟨23,16,.rwp,0xff,none⟩, ⟨11,8,.rwp,0,none⟩, ⟨7,4,.rwp,4,none⟩, ⟨3,0,.rwp,8,none⟩]⟩
def lnkCtl : RegRow := ⟨0x100004, 0x1000, 5, 0x0, 1, .c, 1, 1, false, [⟨1,1,.wo,0,none⟩, ⟨0,0,.wo,0,none⟩]⟩
def lnkState : RegRow := ⟨0x100008, 0x1000, 5, 0x0, 1, .i, 1, 1, false, [⟨23,16,.ro,0,none⟩, ⟨15,8,.ro,0,none⟩, ⟨7,7,.ro,0,none⟩, ⟨6,6,.ro,0,none⟩, ⟨5,5,.ro,0,none⟩, ⟨4,4,.ro,1,none⟩, ⟨3,0,.ro,0,none⟩]⟩
def lnkNbr0 : RegRow := ⟨0x100010, 0x1000, 5, 0x0, 1, .i, 1, 1, false, [⟨31,8,.ro,0,none⟩, ⟨7,0,.ro,0,none⟩]⟩
def lnkNbr1 : RegRow := ⟨0x100014, 0x1000, 5, 0x0, 1, .i, 1, 1, false, [⟨31,31,.ro,0,none⟩, ⟨23,0,.ro,0,none⟩]⟩
def lnkNbr2 : RegRow := ⟨0x100018, 0x1000, 5, 0x0, 1, .i, 1, 1, false, [⟨31,0,.ro,0,none⟩]⟩
def lnkCnt : RegRow := ⟨0x100040, 0x1000, 5, 0x4, 10, .i, 1, 1, true, [⟨31,0,.rwp,0,none⟩]⟩
def lnkMod0 : RegRow := ⟨0x100080, 0x1000, 5, 0x0, 1, .i, 1, 1, false, [⟨31,16,.ro,0,none⟩, ⟨15,0,.ro,0,none⟩]⟩
def lnkMod1 : RegRow := ⟨0x100084, 0x1000, 5, 0x0, 1, .i, 1, 1, false, [⟨31,16,.ro,0,none⟩, ⟨15,0,.ro,0,none⟩]⟩
def lnkMod2 : RegRow := ⟨0x100088, 0x1000, 5, 0x0, 1, .i, 1, 1, false, [⟨31,16,.ro,0,none⟩, ⟨6,6,.ro,0,none⟩, ⟨5,5,.ro,0,none⟩, ⟨4,4,.ro,0,none⟩, ⟨3,3,.ro,0,none⟩, ⟨2,2,.ro,0,none⟩, ⟨1,1,.ro,0,none⟩, ⟨0,0,.ro,1,none⟩]⟩
def lnkByp : RegRow := ⟨0x108000, 0x0, 1, 0x0, 1, .c, 0, 0, false, [⟨2,2,.ro,0,none⟩, ⟨0,0,.rwp,0,none⟩]⟩
def lnkRpt : RegRow := ⟨0x108004, 0x0, 1, 0x0, 1, .i, 1, 0, false, [⟨17,16,.ro,0,none⟩, ⟨15,8,.ro,0,none⟩, ⟨1,1,.ro,0,none⟩, ⟨0,0,.ro,0,none⟩]⟩
def lnkDualSingle : RegRow := ⟨0x108008, 0x0, 1, 0x0, 1, .i, 6, 0, true, [⟨31,0,.rwp,0,none⟩]⟩
def prsCfg : RegRow := ⟨0x2F0000, 0x0, 1, 0x0, 1, .f, 6, 0, false, [⟨21,16,.rwp,0xa,none⟩, ⟨13,0,.rwp,0xc8,none⟩]⟩
def prsStat : RegRow := ⟨0x2F0004, 0x0, 1, 0x0, 1, .i, 6, 0, false, [⟨31,16,.ro,0,none⟩, ⟨12,0,.ro,0,none⟩]⟩
def prsCnt : RegRow := ⟨0x2F0010, 0x4, 5, 0x0, 1, .i, 6, 0, true, [⟨31,0,.rwp,0,none⟩]⟩
def prsGaprec0 : RegRow := ⟨0x2F0040, 0x0, 1, 0x0, 1, .i, 6, 0, false, [⟨31,8,.ro,0,none⟩, ⟨3,3,.ro,0,none⟩, ⟨2,0,.ro,0,none⟩]⟩
def prsGaprec1 : RegRow := ⟨0x2F0044, 0x0, 1, 0x0, 1, .i, 6, 0, false, [⟨31,16,.ro,0,none⟩, ⟨15,0,.ro,0,none⟩]⟩
def prsGaprec2 : RegRow := ⟨0x2F0048, 0x0, 1, 0x0, 1, .i, 6, 0, false, [⟨31,0,.ro,0,none⟩]⟩
def prsGaprec3 : RegRow := ⟨0x2F004C, 0x0, 1, 0x0, 1, .i, 6, 0, false, [⟨1,0,.ro,0,none⟩]⟩
def prsGapctl : RegRow := ⟨0x2F0050, 0x0, 1, 0x0, 1, .i, 6, 0, false, [⟨31,16,.ro,0,none⟩, ⟨4,0,.ro,0,none⟩]⟩
def swcPoolCfg : RegRow := ⟨0x200000, 0x0, 1, 0x0, 1, .f, 6, 0, false, [⟨16,0,.rwp,0x2000,none⟩]⟩
def swcPoolStat0 : RegRow := ⟨0x200004, 0x0, 1, 0x0, 1, .i, 6, 0, false, [⟨18,0,.ro,0,none⟩]⟩
def swcPoolStat1 : RegRow := ⟨0x200008, 0x0, 1, 0x0, 1, .i, 6, 0, false, [⟨18,0,.ro,0,none⟩]⟩
def swcPoolStat2 : RegRow := ⟨0x20000C, 0x0, 1, 0x0, 1, .i, 6, 0, false, [⟨18,0,.ro,0,none⟩]⟩
def swcMcCfg : RegRow := ⟨0x200010, 0x0, 1, 0x0, 1, .f, 6, 0, false, [⟨13,0,.rwp,0x3e8,none⟩]⟩
def swcCapCfg : RegRow := ⟨0x200014, 0x0, 1, 0x0, 1, .f, 6, 0, false, [⟨16,0,.rwp,0,none⟩]⟩
def swcPoolStat3 : RegRow := ⟨0x200018, 0x0, 1, 0x0, 1, .i, 6, 0, false, [⟨16,0,.ro,0,none⟩]⟩
def swcVatStat : RegRow := ⟨0x200020, 0x0, 1, 0x0, 1, .i, 6, 0, false, [⟨24,16,.ro,0,some .a⟩, ⟨15,0,.ro,0,none⟩]⟩
def swcVatErraddr : RegRow := ⟨0x200024, 0x0, 1, 0x0, 1, .i, 6, 0, false, [⟨31,31,.w1c,0,none⟩, ⟨30,30,.ro,0,none⟩, ⟨20,0,.ro,0,none⟩]⟩
def swcCnt : RegRow := ⟨0x200040, 0x4, 9, 0x0, 1, .i, 6, 0, true, [⟨31,0,.rwp,0,none⟩]⟩
def swcQcfg0 : RegRow := ⟨0x210000, 0x8, 1024, 0x0, 1, .f, 6, 0, false, [⟨31,31,.rwp,0,none⟩, ⟨27,24,.rwp,6,none⟩, ⟨15,0,.rwp,0x10,none⟩]⟩
def swcQcfg1 : RegRow := ⟨0x210004, 0x8, 1024, 0x0, 1, .f, 6, 0, false, [⟨18,0,.rwp,0x10000,none⟩]⟩
def swcQocc : RegRow := ⟨0x220000, 0x10, 1024, 0x0, 1, .i, 6, 0, false, [⟨18,0,.ro,0,none⟩]⟩
def swcQpeak : RegRow := ⟨0x220004, 0x10, 1024, 0x0, 1, .i, 6, 0, false, [⟨18,0,.rwp,0,none⟩]⟩
def swcQenq : RegRow := ⟨0x220008, 0x10, 1024, 0x0, 1, .i, 6, 0, true, [⟨31,0,.rwp,0,none⟩]⟩
def swcQdrop : RegRow := ⟨0x22000C, 0x10, 1024, 0x0, 1, .i, 6, 0, true, [⟨31,0,.rwp,0,none⟩]⟩
def mcResidueDrop : RegRow := ⟨0x230000, 0x4, 128, 0x0, 1, .i, 6, 0, true, [⟨31,0,.rwp,0,none⟩]⟩
def swcFwdAct : RegRow := ⟨0x240000, 0x4, 256, 0x0, 1, .f, 6, 0, false, [⟨31,0,.ro,0,none⟩]⟩
def swcFwdShd : RegRow := ⟨0x240400, 0x4, 256, 0x0, 1, .f, 6, 0, false, [⟨31,31,.rwp,0,none⟩, ⟨27,24,.rwp,0,none⟩, ⟨21,20,.rwp,0,none⟩, ⟨19,19,.rwp,0,none⟩, ⟨17,16,.rwp,0,none⟩]⟩
def swcFwdCtl : RegRow := ⟨0x240800, 0x0, 1, 0x0, 1, .i, 6, 0, false, [⟨31,31,.wo,0,none⟩, ⟨15,0,.ro,0,none⟩]⟩
def swcGrp : RegRow := ⟨0x250000, 0x4, 256, 0x0, 1, .f, 6, 0, false, [⟨31,0,.rwp,0,none⟩]⟩
def lpCfg : RegRow := ⟨0x260000, 0x10, 4, 0x0, 1, .f, 6, 0, false, [⟨31,31,.rwp,0,none⟩, ⟨30,29,.rwp,1,none⟩, ⟨28,28,.rwp,0,none⟩, ⟨22,16,.rwp,0,none⟩, ⟨14,8,.rwp,0x7b,none⟩, ⟨2,0,.rwp,0,none⟩]⟩
def lpFlow : RegRow := ⟨0x260004, 0x10, 4, 0x0, 1, .f, 6, 0, false, [⟨31,31,.rwp,0,none⟩, ⟨27,24,.rwp,0,none⟩, ⟨23,0,.rwp,0,none⟩]⟩
def lpFmask : RegRow := ⟨0x260008, 0x10, 4, 0x0, 1, .f, 6, 0, false, [⟨27,24,.rwp,0,none⟩, ⟨23,0,.rwp,0,none⟩]⟩
def capCtl : RegRow := ⟨0x270000, 0x0, 1, 0x0, 1, .i, 6, 0, false, [⟨1,1,.rwp,1,none⟩, ⟨0,0,.rwp,0,none⟩]⟩
def capWptr : RegRow := ⟨0x270004, 0x0, 1, 0x0, 1, .i, 6, 0, false, [⟨23,0,.ro,0,none⟩]⟩
def capReccnt : RegRow := ⟨0x270008, 0x0, 1, 0x0, 1, .i, 6, 0, false, [⟨31,0,.ro,0,none⟩]⟩
def capStat : RegRow := ⟨0x27000C, 0x0, 1, 0x0, 1, .i, 6, 0, false, [⟨0,0,.ro,0,none⟩]⟩
def timCfg : RegRow := ⟨0x300000, 0x0, 1, 0x0, 1, .f, 7, 0, false, [⟨31,31,.rwp,0,none⟩, ⟨23,16,.rwp,0x80,none⟩, ⟨12,8,.rwp,0x1f,none⟩]⟩
def timStat : RegRow := ⟨0x300004, 0x0, 1, 0x0, 1, .i, 7, 0, false, [⟨23,16,.ro,0,none⟩, ⟨14,12,.ro,7,none⟩, ⟨10,10,.w1c,0,none⟩, ⟨9,9,.ro,0,none⟩, ⟨8,8,.ro,0,some .a⟩, ⟨3,3,.ro,0,none⟩, ⟨2,0,.ro,0,none⟩]⟩
def timNow : RegRow := ⟨0x300008, 0x0, 1, 0x0, 1, .i, 7, 0, false, [⟨31,0,.ro,0,none⟩]⟩
def timEpoch : RegRow := ⟨0x30000C, 0x0, 1, 0x0, 1, .i, 7, 0, false, [⟨31,0,.ro,0,none⟩]⟩
def timInc : RegRow := ⟨0x300010, 0x0, 1, 0x0, 1, .i, 7, 0, false, [⟨31,0,.ro,0x20000000,none⟩]⟩
def timOffset : RegRow := ⟨0x300014, 0x0, 1, 0x0, 1, .i, 7, 0, false, [⟨31,0,.ro,0,none⟩]⟩
def timMaster : RegRow := ⟨0x300018, 0x0, 1, 0x0, 1, .i, 7, 0, false, [⟨31,0,.ro,0,none⟩]⟩
def timStep : RegRow := ⟨0x30001C, 0x0, 1, 0x0, 1, .i, 7, 0, false, [⟨7,0,.ro,0,none⟩]⟩
def timStepAt : RegRow := ⟨0x300020, 0x0, 1, 0x0, 1, .i, 7, 0, false, [⟨31,0,.ro,0,none⟩]⟩
def timLnkdly : RegRow := ⟨0x300040, 0x4, 5, 0x0, 1, .i, 7, 0, false, [⟨27,0,.ro,0,none⟩]⟩
def timAsym : RegRow := ⟨0x300060, 0x4, 5, 0x0, 1, .f, 7, 0, false, [⟨15,0,.rwp,0,none⟩]⟩
def timSchedCfg : RegRow := ⟨0x300080, 0x0, 1, 0x0, 1, .f, 7, 0, false, [⟨9,0,.rwp,0x14,none⟩]⟩
def timSchedStat : RegRow := ⟨0x300084, 0x0, 1, 0x0, 1, .i, 7, 0, false, [⟨24,16,.rwp,0,none⟩, ⟨8,0,.ro,0,none⟩]⟩
def timSchedCancel : RegRow := ⟨0x300088, 0x0, 1, 0x0, 1, .c, 7, 0, false, [⟨7,0,.po,0,none⟩]⟩
def timSnapId : RegRow := ⟨0x3000A0, 0x0, 1, 0x0, 1, .i, 7, 0, false, [⟨31,31,.ro,0,none⟩, ⟨16,16,.ro,0,none⟩, ⟨15,0,.ro,0,none⟩]⟩
def timSnapTime : RegRow := ⟨0x3000A4, 0x0, 1, 0x0, 1, .i, 7, 0, false, [⟨31,0,.ro,0,none⟩]⟩
def timSnapStale : RegRow := ⟨0x3000A8, 0x0, 1, 0x0, 1, .i, 7, 0, false, [⟨20,0,.ro,0,none⟩]⟩
def timCnt : RegRow := ⟨0x3000C0, 0x4, 5, 0x0, 1, .i, 7, 0, true, [⟨31,0,.rwp,0,none⟩]⟩
def timEntTime : RegRow := ⟨0x310000, 0x10, 256, 0x0, 1, .i, 7, 0, false, [⟨31,0,.ro,0,none⟩]⟩
def timEntCtl : RegRow := ⟨0x310004, 0x10, 256, 0x0, 1, .i, 7, 0, false, [⟨31,31,.ro,0,none⟩, ⟨30,28,.ro,0,none⟩, ⟨23,16,.ro,0,none⟩, ⟨15,8,.ro,0,none⟩, ⟨0,0,.ro,0,none⟩]⟩
def timEntSrc : RegRow := ⟨0x310008, 0x10, 256, 0x0, 1, .i, 7, 0, false, [⟨31,8,.ro,0,none⟩, ⟨7,0,.ro,0,none⟩]⟩
/-- SESSION is PO: no write has an effect on it (DESIGN CHOICE, log entry 50). -/
def timEntId : RegRow := ⟨0x31000C, 0x10, 256, 0x0, 1, .i, 7, 0, false, [⟨31,16,.ro,0,none⟩, ⟨15,0,.poStatus,0,none⟩]⟩
def engCtl : RegRow := ⟨0x400000, 0x10000, 8, 0x100, 8, .i, 9, 1, false, [⟨31,31,.wo,0,none⟩, ⟨30,30,.wo,0,none⟩, ⟨29,29,.wo,0,none⟩, ⟨28,28,.wo,0,none⟩, ⟨27,27,.wo,0,none⟩, ⟨22,16,.rw,0,none⟩]⟩
def engStatus : RegRow := ⟨0x400004, 0x10000, 8, 0x100, 8, .i, 9, 1, false, [⟨29,24,.ro,0,none⟩, ⟨21,16,.ro,0,none⟩, ⟨14,8,.ro,0,none⟩, ⟨7,5,.ro,0,none⟩, ⟨4,4,.w1c,0,none⟩, ⟨3,3,.w1c,0,none⟩, ⟨2,2,.ro,0,none⟩, ⟨1,1,.ro,0,none⟩, ⟨0,0,.ro,0,none⟩]⟩
def engClk : RegRow := ⟨0x400008, 0x10000, 8, 0x100, 8, .f, 9, 1, false, [⟨31,16,.rw,1,none⟩, ⟨15,8,.rw,1,none⟩, ⟨7,0,.rw,0,none⟩]⟩
def engPinmap0 : RegRow := ⟨0x40000C, 0x10000, 8, 0x100, 8, .f, 9, 1, false, [⟨27,24,.rw,0,none⟩, ⟨20,16,.rw,0,none⟩, ⟨11,8,.rw,0,none⟩, ⟨4,0,.rw,0,none⟩]⟩
def engPinmap1 : RegRow := ⟨0x400010, 0x10000, 8, 0x100, 8, .f, 9, 1, false, [⟨7,7,.rw,0,none⟩, ⟨15,15,.rw,0,none⟩, ⟨23,23,.rw,0,none⟩, ⟨31,31,.rw,0,none⟩, ⟨4,0,.rw,0,none⟩, ⟨12,8,.rw,0,none⟩, ⟨20,16,.rw,0,none⟩, ⟨28,24,.rw,0,none⟩]⟩
def engQcfg : RegRow := ⟨0x400014, 0x10000, 8, 0x100, 8, .f, 9, 1, false, [⟨31,16,.rw,0,none⟩, ⟨14,6,.rw,0x100,none⟩, ⟨5,3,.rw,2,none⟩, ⟨1,1,.rw,1,none⟩, ⟨0,0,.rw,0,none⟩]⟩
def engQstat : RegRow := ⟨0x400018, 0x10000, 8, 0x100, 8, .i, 9, 1, false, [⟨11,8,.ro,0,none⟩, ⟨3,0,.ro,0,none⟩]⟩
def engInject : RegRow := ⟨0x40001C, 0x10000, 8, 0x100, 8, .i, 9, 1, false, [⟨31,31,.ro,0,none⟩, ⟨23,0,.wo,0,none⟩]⟩
def engOsr : RegRow := ⟨0x400020, 0x10000, 8, 0x100, 8, .i, 9, 1, false, [⟨31,0,.rw,0,none⟩]⟩
def engIsr : RegRow := ⟨0x400024, 0x10000, 8, 0x100, 8, .i, 9, 1, false, [⟨31,0,.rw,0,none⟩]⟩
def engXy : RegRow := ⟨0x400028, 0x10000, 8, 0x100, 8, .i, 9, 1, false, [⟨31,16,.rw,0,none⟩, ⟨15,0,.rw,0,none⟩]⟩
def engPattern : RegRow := ⟨0x40002C, 0x10000, 8, 0x100, 8, .f, 9, 1, false, [⟨31,0,.rw,0,none⟩]⟩
def engCrcCfg : RegRow := ⟨0x400030, 0x10000, 8, 0x100, 8, .f, 9, 1, false, [⟨2,2,.rw,0,none⟩, ⟨1,0,.rw,0,none⟩]⟩
def engCrcPoly : RegRow := ⟨0x400034, 0x10000, 8, 0x100, 8, .f, 9, 1, false, [⟨31,0,.rw,0,none⟩]⟩
def engCrcInit : RegRow := ⟨0x400038, 0x10000, 8, 0x100, 8, .f, 9, 1, false, [⟨31,0,.rw,0,none⟩]⟩
def engCrcVal : RegRow := ⟨0x40003C, 0x10000, 8, 0x100, 8, .i, 9, 1, false, [⟨31,0,.ro,0,none⟩]⟩
def engProg : RegRow := ⟨0x401000, 0x10000, 8, 0x4, 1024, .f, 9, 1, false, [⟨23,0,.rw,0xf00000,none⟩]⟩
def pinCfg : RegRow := ⟨0x402000, 0x10000, 8, 0x4, 32, .f, 9, 1, false, [⟨30,30,.rw,0,none⟩, ⟨29,28,.rw,0,none⟩, ⟨27,18,.rw,0,none⟩, ⟨17,16,.rw,0,none⟩, ⟨13,12,.rw,1,none⟩, ⟨11,11,.rw,0,none⟩, ⟨10,10,.rw,0,none⟩, ⟨9,8,.rw,3,none⟩, ⟨6,4,.rw,0,none⟩, ⟨2,0,.rw,0,none⟩]⟩
def cluDin : RegRow := ⟨0x402080, 0x10000, 8, 0x0, 1, .i, 9, 1, false, [⟨31,0,.ro,0,none⟩]⟩
def cluDout : RegRow := ⟨0x402084, 0x10000, 8, 0x0, 1, .f, 9, 1, false, [⟨31,0,.rw,0,none⟩]⟩
def cluDoutSet : RegRow := ⟨0x402088, 0x10000, 8, 0x0, 1, .c, 9, 1, false, [⟨31,0,.wo,0,none⟩]⟩
def cluDoutClr : RegRow := ⟨0x40208C, 0x10000, 8, 0x0, 1, .c, 9, 1, false, [⟨31,0,.wo,0,none⟩]⟩
def cluCtl : RegRow := ⟨0x402090, 0x10000, 8, 0x0, 1, .c, 9, 1, false, [⟨16,16,.wo,0,none⟩, ⟨15,8,.wo,0,none⟩, ⟨7,0,.wo,0,none⟩]⟩
def cluCfg : RegRow := ⟨0x402094, 0x10000, 8, 0x0, 1, .f, 9, 1, false, [⟨31,31,.rw,0,none⟩, ⟨1,0,.rwp,2,none⟩]⟩
def cluStat : RegRow := ⟨0x402098, 0x10000, 8, 0x0, 1, .i, 9, 1, false, [⟨23,16,.w1c,0,none⟩, ⟨15,8,.ro,0,none⟩, ⟨1,1,.ro,0,none⟩, ⟨0,0,.ro,0,none⟩]⟩
def cluCosCfg : RegRow := ⟨0x40209C, 0x10000, 8, 0x0, 1, .f, 9, 1, false, [⟨31,16,.rw,0x3e8,none⟩, ⟨8,8,.rw,1,none⟩, ⟨2,0,.rw,5,none⟩]⟩
def cluCosDest : RegRow := ⟨0x4020A0, 0x10000, 8, 0x0, 1, .f, 9, 1, false, [⟨31,8,.rw,0,none⟩, ⟨7,0,.rw,0,none⟩]⟩
def cluPcnt : RegRow := ⟨0x402100, 0x10000, 8, 0x4, 32, .i, 9, 1, true, [⟨31,0,.rwp,0,none⟩]⟩
def cluCnt : RegRow := ⟨0x402200, 0x10000, 8, 0x4, 6, .i, 9, 1, true, [⟨31,0,.rwp,0,none⟩]⟩
def winCfg : RegRow := ⟨0x403000, 0x10000, 8, 0x10, 2, .f, 9, 1, false, [⟨31,31,.rwp,0,none⟩, ⟨30,30,.rwp,0,none⟩, ⟨18,16,.rwp,0,none⟩, ⟨12,0,.rwp,0x3e8,none⟩]⟩
def winStat : RegRow := ⟨0x403004, 0x10000, 8, 0x10, 2, .i, 9, 1, false, [⟨16,16,.ro,0,none⟩, ⟨15,8,.ro,0,none⟩, ⟨7,0,.ro,0,none⟩]⟩
def canCtl : RegRow := ⟨0x500000, 0x1000, 32, 0x0, 1, .f, 17, 0, false, [⟨4,4,.wo,0,none⟩, ⟨2,0,.rw,0,none⟩]⟩
def canCfg : RegRow := ⟨0x500004, 0x1000, 32, 0x0, 1, .f, 17, 0, false, [⟨31,31,.rw,0,none⟩, ⟨30,30,.rwp,0,none⟩, ⟨29,29,.rwp,0,none⟩, ⟨28,28,.rwp,0,none⟩, ⟨27,27,.rwp,1,none⟩, ⟨26,26,.rwp,1,none⟩, ⟨25,25,.rwp,0,none⟩, ⟨23,16,.rwp,0x10,none⟩]⟩
def canBtNom : RegRow := ⟨0x500008, 0x1000, 32, 0x0, 1, .f, 17, 0, false, [⟨31,24,.rwp,4,none⟩, ⟨23,16,.rwp,0x50,none⟩, ⟨15,8,.rwp,0x46,none⟩, ⟨6,0,.rwp,0xa,none⟩]⟩
def canBtFd : RegRow := ⟨0x50000C, 0x1000, 32, 0x0, 1, .f, 17, 0, false, [⟨28,24,.rwp,1,none⟩, ⟨22,16,.rwp,0x50,none⟩, ⟨14,8,.rwp,0x3c,none⟩, ⟨5,0,.rwp,0x14,none⟩]⟩
def canBtXl : RegRow := ⟨0x500010, 0x1000, 32, 0x0, 1, .f, 17, 0, false, [⟨28,24,.rwp,1,none⟩, ⟨22,16,.rwp,8,none⟩, ⟨14,8,.rwp,6,none⟩, ⟨5,0,.rwp,2,none⟩]⟩
def canXpwm : RegRow := ⟨0x500014, 0x1000, 32, 0x0, 1, .f, 17, 0, false, [⟨21,16,.rwp,2,none⟩, ⟨13,8,.rwp,6,none⟩, ⟨5,0,.rwp,0,none⟩]⟩
def canSsp : RegRow := ⟨0x500018, 0x1000, 32, 0x0, 1, .f, 17, 0, false, [⟨31,31,.rwp,0,none⟩, ⟨23,16,.rwp,0,none⟩, ⟨7,0,.ro,0,none⟩]⟩
def canPack : RegRow := ⟨0x50001C, 0x1000, 32, 0x0, 1, .f, 17, 0, false, [⟨31,16,.rw,0,none⟩, ⟨8,0,.rw,0x100,none⟩]⟩
def canStat : RegRow := ⟨0x500020, 0x1000, 32, 0x0, 1, .i, 17, 0, false, [⟨31,30,.ro,0,none⟩, ⟨29,29,.ro,1,none⟩, ⟨28,28,.ro,0,none⟩, ⟨23,16,.ro,0,none⟩, ⟨8,0,.ro,0,none⟩]⟩
def canClash : RegRow := ⟨0x500024, 0x1000, 32, 0x0, 1, .i, 17, 0, false, [⟨31,31,.w1c,0,none⟩, ⟨30,30,.ro,0,none⟩, ⟨28,0,.ro,0,none⟩]⟩
def canRdCtl : RegRow := ⟨0x500030, 0x1000, 32, 0x0, 1, .i, 17, 0, false, [⟨31,31,.wo,0,none⟩, ⟨30,30,.wo,0,none⟩, ⟨29,29,.rw,0,none⟩, ⟨15,8,.rw,0x64,none⟩, ⟨7,0,.rw,0xa,none⟩]⟩
def canRdStat : RegRow := ⟨0x500034, 0x1000, 32, 0x0, 1, .i, 17, 0, false, [⟨31,31,.ro,0,none⟩, ⟨30,30,.ro,0,none⟩, ⟨29,29,.ro,0,none⟩, ⟨28,28,.ro,0,none⟩, ⟨27,27,.ro,0,none⟩, ⟨11,8,.ro,0xf,none⟩, ⟨3,0,.ro,0,none⟩]⟩
def canRefCfg : RegRow := ⟨0x500040, 0x1000, 32, 0x0, 1, .f, 17, 0, false, [⟨31,31,.rwp,0,none⟩, ⟨19,0,.rwp,0x2710,none⟩]⟩
def canRefId : RegRow := ⟨0x500044, 0x1000, 32, 0x0, 1, .f, 17, 0, false, [⟨31,31,.rwp,0,none⟩, ⟨28,0,.rwp,0,none⟩]⟩
def canRefFid : RegRow := ⟨0x500048, 0x1000, 32, 0x0, 1, .f, 17, 0, false, [⟨31,31,.rwp,0,none⟩, ⟨28,0,.rwp,0,none⟩]⟩
def canRefStat : RegRow := ⟨0x50004C, 0x1000, 32, 0x0, 1, .i, 17, 0, false, [⟨31,16,.ro,0,none⟩, ⟨8,8,.ro,0,none⟩, ⟨7,0,.ro,0,none⟩]⟩
def canWakeCfg : RegRow := ⟨0x500060, 0x1000, 32, 0x0, 1, .f, 17, 0, false, [⟨29,28,.rwp,0,none⟩, ⟨27,27,.rwp,1,none⟩, ⟨26,26,.rwp,0,none⟩, ⟨5,0,.rwp,5,none⟩]⟩
def canWufId : RegRow := ⟨0x500064, 0x1000, 32, 0x0, 1, .f, 17, 0, false, [⟨31,31,.rwp,0,none⟩, ⟨28,0,.rwp,0,none⟩]⟩
def canWufIdmask : RegRow := ⟨0x500068, 0x1000, 32, 0x0, 1, .f, 17, 0, false, [⟨28,0,.rwp,0,none⟩]⟩
def canWufData : RegRow := ⟨0x50006C, 0x1000, 32, 0x4, 2, .f, 17, 0, false, [⟨31,0,.rwp,0,none⟩]⟩
def canWufDmask : RegRow := ⟨0x500074, 0x1000, 32, 0x4, 2, .f, 17, 0, false, [⟨31,0,.rwp,0,none⟩]⟩
def canWakeStat : RegRow := ⟨0x50007C, 0x1000, 32, 0x0, 1, .a, 17, 0, false, [⟨31,31,.w1c,0,none⟩, ⟨30,29,.ro,0,none⟩, ⟨28,0,.ro,0,none⟩]⟩
def canTsqRec : RegRow := ⟨0x500080, 0x1000, 32, 0x4, 4, .i, 17, 0, false, [⟨31,0,.ro,0,none⟩]⟩
def canTsqCtl : RegRow := ⟨0x500090, 0x1000, 32, 0x0, 1, .i, 17, 0, false, [⟨4,0,.ro,0,none⟩]⟩
def canCnt : RegRow := ⟨0x500100, 0x1000, 32, 0x4, 16, .i, 17, 0, true, [⟨31,0,.rwp,0,none⟩]⟩
def macCfg : RegRow := ⟨0x600000, 0x1000, 20, 0x0, 1, .f, 18, 0, false, [⟨31,31,.rw,0,none⟩, ⟨30,30,.rw,1,none⟩, ⟨29,28,.rwp,0,none⟩, ⟨27,27,.rwp,0,none⟩, ⟨26,26,.rwp,1,none⟩, ⟨25,25,.rwp,0,none⟩, ⟨24,24,.rwp,0,none⟩, ⟨23,23,.rwp,0,none⟩, ⟨22,22,.rw,0,none⟩, ⟨21,21,.rw,0,none⟩, ⟨20,20,.rw,1,none⟩, ⟨19,18,.rw,3,none⟩, ⟨17,17,.ro,0,none⟩, ⟨13,0,.rw,0x5f2,none⟩]⟩
def macPack : RegRow := ⟨0x600004, 0x1000, 20, 0x0, 1, .f, 18, 0, false, [⟨31,16,.rw,0,none⟩, ⟨8,0,.rw,0x100,none⟩]⟩
def macAddr0 : RegRow := ⟨0x600008, 0x1000, 20, 0x0, 1, .f, 18, 0, false, [⟨31,0,.rwp,0,none⟩]⟩
def macAddr1 : RegRow := ⟨0x60000C, 0x1000, 20, 0x0, 1, .f, 18, 0, false, [⟨15,0,.rwp,0,none⟩]⟩
def macHash : RegRow := ⟨0x600010, 0x1000, 20, 0x4, 2, .f, 18, 0, false, [⟨31,0,.rw,0,none⟩]⟩
def macPeer0 : RegRow := ⟨0x600018, 0x1000, 20, 0x0, 1, .f, 18, 0, false, [⟨31,0,.rw,0xffffffff,none⟩]⟩
def macPeer1 : RegRow := ⟨0x60001C, 0x1000, 20, 0x0, 1, .f, 18, 0, false, [⟨15,0,.rw,0xffff,none⟩]⟩
def macStat : RegRow := ⟨0x600020, 0x1000, 20, 0x0, 1, .i, 18, 0, false, [⟨5,5,.ro,1,none⟩, ⟨4,4,.ro,0,none⟩, ⟨3,3,.ro,0,none⟩, ⟨2,1,.ro,0,none⟩, ⟨0,0,.ro,0,none⟩]⟩
def macEvtCfg : RegRow := ⟨0x600024, 0x1000, 20, 0x0, 1, .f, 18, 0, false, [⟨8,8,.rw,1,none⟩, ⟨2,0,.rw,5,none⟩]⟩
def macEvtDest : RegRow := ⟨0x600028, 0x1000, 20, 0x0, 1, .f, 18, 0, false, [⟨31,8,.rw,0,none⟩, ⟨7,0,.rw,0,none⟩]⟩
def macCntHalf : RegRow := ⟨0x600030, 0x1000, 20, 0x0, 1, .i, 18, 0, false, [⟨27,0,.w1c,0,none⟩]⟩
def macTsqRec : RegRow := ⟨0x600080, 0x1000, 20, 0x4, 4, .i, 18, 0, false, [⟨31,0,.ro,0,none⟩]⟩
def macTsqCtl : RegRow := ⟨0x600090, 0x1000, 20, 0x0, 1, .i, 18, 0, false, [⟨4,0,.ro,0,none⟩]⟩
def macWakeCfg : RegRow := ⟨0x6000A0, 0x1000, 20, 0x0, 1, .f, 18, 0, false, [⟨1,0,.rwp,0,none⟩]⟩
def macWupMask : RegRow := ⟨0x6000A4, 0x1000, 20, 0x4, 2, .f, 18, 0, false, [⟨31,0,.rwp,0,none⟩]⟩
def macWakeStat : RegRow := ⟨0x6000AC, 0x1000, 20, 0x0, 1, .a, 18, 0, false, [⟨31,31,.w1c,0,none⟩, ⟨30,29,.ro,0,none⟩]⟩
def macWupData : RegRow := ⟨0x6000C0, 0x1000, 20, 0x4, 16, .f, 18, 0, false, [⟨31,0,.rwp,0,none⟩]⟩
def macCnt : RegRow := ⟨0x600100, 0x1000, 20, 0x4, 28, .i, 18, 0, true, [⟨31,0,.rwp,0,none⟩]⟩
def macMdioCtl : RegRow := ⟨0x620000, 0x0, 1, 0x0, 1, .c, 18, 0, false, [⟨31,31,.wo,0,none⟩, ⟨30,30,.ro,0,none⟩, ⟨29,29,.rwp,0,none⟩, ⟨28,27,.rwp,0,none⟩, ⟨25,21,.rwp,0,none⟩, ⟨20,16,.rwp,0,none⟩]⟩
def macMdioData : RegRow := ⟨0x620004, 0x0, 1, 0x0, 1, .c, 18, 0, false, [⟨15,0,.rwp,0,none⟩]⟩
def hbrCfg : RegRow := ⟨0x700000, 0x0, 1, 0x0, 1, .f, 19, 0, false, [⟨24,16,.rwp,0x40,none⟩, ⟨15,8,.rwp,0xa,none⟩, ⟨3,0,.rwp,3,none⟩]⟩
def hbrStat : RegRow := ⟨0x700004, 0x0, 1, 0x0, 1, .i, 19, 0, false, [⟨31,31,.ro,0,none⟩, ⟨30,28,.ro,0,none⟩, ⟨27,26,.ro,0,none⟩, ⟨9,0,.ro,0,none⟩]⟩
def hbrIrq : RegRow := ⟨0x700008, 0x0, 1, 0x0, 1, .i, 19, 0, false, [⟨2,2,.w1c,0,none⟩, ⟨1,1,.w1c,0,none⟩, ⟨0,0,.w1c,0,none⟩]⟩
def hbrCnt : RegRow := ⟨0x700040, 0x4, 10, 0x0, 1, .i, 19, 0, true, [⟨31,0,.rwp,0,none⟩]⟩
def hbrRxqDrop : RegRow := ⟨0x700080, 0x4, 8, 0x0, 1, .i, 19, 0, true, [⟨31,0,.rwp,0,none⟩]⟩
def hbrWinNode : RegRow := ⟨0x700100, 0x10, 16, 0x0, 1, .i, 19, 0, false, [⟨31,8,.rwp,0,none⟩, ⟨7,7,.rwp,0,none⟩]⟩
def hbrWinOff : RegRow := ⟨0x700104, 0x10, 16, 0x0, 1, .i, 19, 0, false, [⟨10,0,.rwp,0,none⟩]⟩
def hbrWinAttr : RegRow := ⟨0x700108, 0x10, 16, 0x0, 1, .i, 19, 0, false, [⟨31,31,.rwp,0,none⟩, ⟨30,30,.rwp,0,none⟩, ⟨29,29,.rwp,0,none⟩, ⟨28,28,.rwp,0,none⟩, ⟨27,27,.rwp,0,none⟩, ⟨26,24,.rwp,0,none⟩, ⟨23,23,.rwp,1,none⟩, ⟨19,16,.rwp,0,none⟩, ⟨14,8,.rwp,0x10,none⟩, ⟨7,0,.rwp,0x32,none⟩]⟩
def hbrKeySess : RegRow := ⟨0x700400, 0x40, 16, 0x0, 1, .i, 19, 0, false, [⟨31,31,.rwp,0,none⟩, ⟨15,0,.rwp,0,none⟩]⟩
def hbrKey : RegRow := ⟨0x700420, 0x40, 16, 0x4, 8, .i, 19, 0, false, [⟨31,0,.wo,0,none⟩]⟩
def hbrTxrBaseLo : RegRow := ⟨0x700800, 0x0, 1, 0x0, 1, .i, 19, 0, false, [⟨31,6,.rw,0,none⟩]⟩
def hbrTxrBaseHi : RegRow := ⟨0x700804, 0x0, 1, 0x0, 1, .i, 19, 0, false, [⟨31,0,.rw,0,none⟩]⟩
def hbrTxrCfg : RegRow := ⟨0x700808, 0x0, 1, 0x0, 1, .i, 19, 0, false, [⟨31,31,.rw,0,none⟩, ⟨3,0,.rw,4,none⟩]⟩
def hbrTxrTail : RegRow := ⟨0x70080C, 0x0, 1, 0x0, 1, .i, 19, 0, false, [⟨11,0,.rw,0,none⟩]⟩
def hbrTxrHead : RegRow := ⟨0x700810, 0x0, 1, 0x0, 1, .i, 19, 0, false, [⟨11,0,.ro,0,none⟩]⟩
def hbrRxrBaseLo : RegRow := ⟨0x700900, 0x20, 8, 0x0, 1, .i, 19, 0, false, [⟨31,6,.rw,0,none⟩]⟩
def hbrRxrBaseHi : RegRow := ⟨0x700904, 0x20, 8, 0x0, 1, .i, 19, 0, false, [⟨31,0,.rw,0,none⟩]⟩
def hbrRxrCfg : RegRow := ⟨0x700908, 0x20, 8, 0x0, 1, .i, 19, 0, false, [⟨31,31,.rw,0,none⟩, ⟨30,30,.rw,1,none⟩, ⟨25,16,.rw,0,none⟩, ⟨3,0,.rw,4,none⟩]⟩
def hbrRxrTail : RegRow := ⟨0x70090C, 0x20, 8, 0x0, 1, .i, 19, 0, false, [⟨11,0,.rw,0,none⟩]⟩
def hbrRxrHead : RegRow := ⟨0x700910, 0x20, 8, 0x0, 1, .i, 19, 0, false, [⟨11,0,.ro,0,none⟩]⟩
def hbrRxmap : RegRow := ⟨0x700A00, 0x0, 1, 0x0, 1, .i, 19, 0, false, [⟨2,0,.rw,0,none⟩, ⟨5,3,.rw,1,none⟩, ⟨8,6,.rw,2,none⟩, ⟨11,9,.rw,3,none⟩, ⟨14,12,.rw,4,none⟩, ⟨17,15,.rw,5,none⟩, ⟨20,18,.rw,6,none⟩, ⟨23,21,.rw,7,none⟩, ⟨26,24,.rw,7,none⟩]⟩
def hbrElogHead : RegRow := ⟨0x700B00, 0x0, 1, 0x0, 1, .i, 19, 0, false, [⟨7,0,.ro,0,none⟩]⟩
def hbrElogTail : RegRow := ⟨0x700B04, 0x0, 1, 0x0, 1, .i, 19, 0, false, [⟨7,0,.rw,0,none⟩]⟩
def hbrElogOvf : RegRow := ⟨0x700B08, 0x0, 1, 0x0, 1, .i, 19, 0, true, [⟨31,0,.rwp,0,none⟩]⟩
def hbrElog : RegRow := ⟨0x701000, 0x4, 512, 0x0, 1, .i, 19, 0, false, [⟨31,0,.ro,0,none⟩]⟩
def pwrChCtl : RegRow := ⟨0x800000, 0x100, 16, 0x0, 1, .c, 20, 0, false, [⟨2,2,.wo,0,none⟩, ⟨1,1,.wo,0,none⟩, ⟨0,0,.wo,0,none⟩]⟩
def pwrChCfg : RegRow := ⟨0x800004, 0x100, 16, 0x0, 1, .f, 20, 0, false, [⟨31,31,.rwp,0,none⟩, ⟨30,30,.rwp,0,none⟩, ⟨29,28,.rwp,1,none⟩, ⟨27,27,.rwp,0,none⟩, ⟨26,25,.rwp,0,none⟩, ⟨23,20,.rwp,0,none⟩, ⟨15,0,.rwp,0x64,none⟩]⟩
def pwrChLim : RegRow := ⟨0x800008, 0x100, 16, 0x0, 1, .f, 20, 0, false, [⟨29,20,.rwp,0x12c,none⟩, ⟨19,0,.rwp,0x3e8,none⟩]⟩
def pwrChRamp : RegRow := ⟨0x80000C, 0x100, 16, 0x0, 1, .f, 20, 0, false, [⟨25,16,.rwp,0x14,none⟩, ⟨15,0,.rwp,0x32,none⟩]⟩
def pwrChTherm0 : RegRow := ⟨0x800010, 0x100, 16, 0x0, 1, .f, 20, 0, false, [⟨31,16,.rwp,0x78,none⟩, ⟨15,0,.rwp,0x64,none⟩]⟩
def pwrChTherm1 : RegRow := ⟨0x800014, 0x100, 16, 0x0, 1, .f, 20, 0, false, [⟨31,16,.rwp,0x46,none⟩, ⟨8,0,.rwp,0x96,none⟩]⟩
def pwrChSns : RegRow := ⟨0x800018, 0x100, 16, 0x0, 1, .f, 20, 0, false, [⟨31,16,.rwp,0x1f4,none⟩, ⟨15,0,.rwp,0,none⟩]⟩
def pwrChCal : RegRow := ⟨0x80001C, 0x100, 16, 0x0, 1, .f, 20, 0, false, [⟨31,16,.rwp,0,none⟩, ⟨15,0,.rwp,0x8000,none⟩]⟩
def pwrChStat : RegRow := ⟨0x800020, 0x100, 16, 0x0, 1, .i, 20, 0, false, [⟨31,28,.ro,0,none⟩, ⟨27,27,.ro,0,none⟩, ⟨26,26,.ro,0,none⟩, ⟨25,25,.ro,0,none⟩, ⟨24,24,.ro,0,none⟩, ⟨23,16,.ro,0,none⟩, ⟨15,15,.ro,0,none⟩, ⟨9,0,.ro,0,none⟩]⟩
def pwrChFault : RegRow := ⟨0x800024, 0x100, 16, 0x0, 1, .i, 20, 0, false, [⟨31,24,.ro,0,none⟩, ⟨23,20,.ro,0,none⟩, ⟨19,16,.ro,0,none⟩, ⟨15,14,.ro,0,none⟩]⟩
def pwrChFtime : RegRow := ⟨0x800028, 0x100, 16, 0x0, 1, .i, 20, 0, false, [⟨31,0,.ro,0,none⟩]⟩
def pwrChMeas0 : RegRow := ⟨0x800030, 0x100, 16, 0x0, 1, .i, 20, 0, false, [⟨31,16,.ro,0,none⟩, ⟨15,0,.ro,0,none⟩]⟩
def pwrChMeas1 : RegRow := ⟨0x800034, 0x100, 16, 0x0, 1, .i, 20, 0, false, [⟨31,16,.ro,0,none⟩, ⟨15,0,.ro,0,none⟩]⟩
def pwrChMeas2 : RegRow := ⟨0x800038, 0x100, 16, 0x0, 1, .i, 20, 0, false, [⟨31,16,.ro,0,none⟩, ⟨15,0,.ro,0,none⟩]⟩
def pwrCnt : RegRow := ⟨0x800040, 0x100, 16, 0x4, 4, .i, 20, 0, true, [⟨31,0,.rwp,0,none⟩]⟩
def pwrCfg : RegRow := ⟨0x801000, 0x0, 1, 0x0, 1, .f, 20, 0, false, [⟨31,31,.rw,0,none⟩, ⟨30,20,.rwp,0xb4,none⟩, ⟨19,14,.rwp,0xa,none⟩, ⟨9,0,.rwp,0x32,none⟩]⟩
def pwrStat : RegRow := ⟨0x801004, 0x0, 1, 0x0, 1, .i, 20, 0, false, [⟨31,16,.ro,0,none⟩, ⟨4,4,.ro,0,none⟩, ⟨3,3,.ro,0,none⟩, ⟨2,2,.ro,0,none⟩, ⟨1,1,.ro,0,none⟩, ⟨0,0,.ro,0,none⟩]⟩
def pwrPg : RegRow := ⟨0x801008, 0x0, 1, 0x0, 1, .i, 20, 0, false, [⟨31,16,.ro,0,none⟩, ⟨15,0,.ro,0,none⟩]⟩
def pwrCmd : RegRow := ⟨0x80100C, 0x0, 1, 0x0, 1, .c, 20, 0, false, [⟨31,16,.wo,0,none⟩, ⟨15,0,.wo,0,none⟩]⟩
def parCfg : RegRow := ⟨0x900000, 0x0, 1, 0x0, 1, .f, 0, 0, false, [⟨23,16,.rwp,0xc8,none⟩, ⟨15,8,.rwp,2,none⟩, ⟨0,0,.rwp,0,none⟩]⟩
def parCtl : RegRow := ⟨0x900004, 0x0, 1, 0x0, 1, .c, 0, 0, false, [⟨1,1,.wo,0,none⟩, ⟨0,0,.wo,0,none⟩]⟩
def parStat : RegRow := ⟨0x900008, 0x0, 1, 0x0, 1, .c, 0, 0, false, [⟨30,28,.ro,0,none⟩, ⟨27,27,.ro,0,none⟩, ⟨26,26,.ro,0,none⟩, ⟨25,25,.ro,0,none⟩, ⟨24,24,.ro,0,none⟩, ⟨23,23,.ro,0,none⟩, ⟨22,22,.ro,0,none⟩, ⟨21,21,.ro,0,none⟩, ⟨10,8,.ro,0,none⟩, ⟨7,4,.ro,0,none⟩]⟩
def parPartner : RegRow := ⟨0x90000C, 0x0, 1, 0x0, 1, .c, 0, 0, false, [⟨31,8,.ro,0,none⟩, ⟨7,7,.ro,0,none⟩, ⟨6,4,.ro,0,none⟩, ⟨3,3,.ro,0,none⟩, ⟨2,0,.ro,0,none⟩]⟩
def parOrder : RegRow := ⟨0x900010, 0x0, 1, 0x0, 1, .c, 0, 0, false, [⟨31,16,.ro,0,none⟩, ⟨9,0,.ro,0,none⟩]⟩
def parLastTime : RegRow := ⟨0x900014, 0x0, 1, 0x0, 1, .a, 0, 0, false, [⟨31,0,.ro,0,none⟩]⟩
def parLastCause : RegRow := ⟨0x900018, 0x0, 1, 0x0, 1, .a, 0, 0, false, [⟨8,8,.w1c,0,none⟩, ⟨1,0,.ro,0,none⟩]⟩
def parCnt : RegRow := ⟨0x900040, 0x4, 9, 0x0, 1, .i, 5, 0, true, [⟨31,0,.rwp,0,none⟩]⟩
def mgtCfg : RegRow := ⟨0xA00000, 0x0, 1, 0x0, 1, .f, 8, 0, false, [⟨31,31,.rwp,1,none⟩, ⟨15,0,.rwp,0x64,none⟩]⟩
def mgtStat : RegRow := ⟨0xA00004, 0x0, 1, 0x0, 1, .c, 8, 0, false, [⟨7,4,.ro,0,none⟩, ⟨0,0,.ro,1,none⟩]⟩
def mgtLsStat : RegRow := ⟨0xA00008, 0x0, 1, 0x0, 1, .c, 8, 0, false, [⟨31,28,.ro,0xf,none⟩, ⟨15,15,.ro,0,none⟩, ⟨11,0,.ro,0,none⟩]⟩
def mgtWdg : RegRow := ⟨0xA0000C, 0x0, 1, 0x0, 1, .c, 8, 0, false, [⟨25,16,.ro,0x3e8,none⟩, ⟨15,0,.wo,0,none⟩]⟩
def mgtWdgInfo : RegRow := ⟨0xA00010, 0x0, 1, 0x0, 1, .a, 8, 0, false, [⟨31,31,.w1c,0,none⟩, ⟨20,16,.ro,0,none⟩, ⟨15,15,.ro,0,none⟩]⟩
def mgtTemp : RegRow := ⟨0xA00020, 0x4, 4, 0x0, 1, .c, 8, 0, false, [⟨31,16,.ro,0,none⟩, ⟨15,0,.ro,0,none⟩]⟩
def mgtPtemp : RegRow := ⟨0xA00030, 0x0, 1, 0x0, 1, .c, 8, 0, false, [⟨31,16,.ro,0,none⟩, ⟨15,0,.ro,0,none⟩]⟩
def mgtSup : RegRow := ⟨0xA00040, 0x4, 7, 0x0, 1, .c, 8, 0, false, [⟨31,16,.ro,0,none⟩, ⟨15,0,.ro,0,none⟩]⟩
def mgtSensCfg : RegRow := ⟨0xA00060, 0x0, 1, 0x0, 1, .f, 8, 0, false, [⟨31,24,.rwp,0x73,none⟩, ⟨23,16,.rwp,0x7d,none⟩]⟩
def mgtLogStat : RegRow := ⟨0xA00070, 0x0, 1, 0x0, 1, .a, 8, 0, false, [⟨24,16,.ro,0,none⟩, ⟨8,0,.ro,0,none⟩]⟩
def mgtLogSeq : RegRow := ⟨0xA00074, 0x0, 1, 0x0, 1, .a, 8, 0, false, [⟨31,0,.ro,0,none⟩]⟩
def mgtLlStat : RegRow := ⟨0xA00080, 0x0, 1, 0x0, 1, .c, 8, 0, false, [⟨31,31,.ro,0,none⟩, ⟨30,30,.ro,0,none⟩, ⟨7,0,.ro,0,none⟩]⟩
def mgtLlMbox : RegRow := ⟨0xA00084, 0x0, 1, 0x0, 1, .c, 8, 0, false, [⟨31,24,.ro,0,none⟩, ⟨23,16,.ro,0,none⟩, ⟨15,8,.ro,0,none⟩, ⟨7,0,.ro,0,none⟩]⟩
def mgtCnt : RegRow := ⟨0xA00100, 0x4, 8, 0x0, 1, .i, 8, 0, true, [⟨31,0,.rwp,0,none⟩]⟩
def fltCfg : RegRow := ⟨0xB00000, 0x0, 1, 0x0, 1, .f, 0, 0, false, [⟨31,31,.rwp,1,none⟩, ⟨30,30,.rwp,0,none⟩, ⟨27,24,.rwp,3,none⟩]⟩
def fltStat : RegRow := ⟨0xB00004, 0x0, 1, 0x0, 1, .c, 0, 0, false, [⟨31,31,.ro,0,none⟩, ⟨30,30,.ro,0,none⟩, ⟨29,29,.ro,0,none⟩, ⟨18,16,.ro,0,none⟩, ⟨15,8,.ro,0,none⟩, ⟨7,0,.ro,0,none⟩]⟩
def fltPin : RegRow := ⟨0xB00008, 0x0, 1, 0x0, 1, .c, 0, 0, false, [⟨31,31,.ro,0,none⟩, ⟨30,30,.ro,0,none⟩, ⟨29,29,.ro,0,none⟩, ⟨1,1,.rwp,1,none⟩, ⟨0,0,.rwp,1,none⟩]⟩
def fltEvtCfg : RegRow := ⟨0xB0000C, 0x0, 1, 0x0, 1, .f, 0, 0, false, [⟨31,16,.rwp,0x64,none⟩, ⟨10,8,.rwp,3,none⟩, ⟨3,3,.rwp,1,none⟩, ⟨2,0,.rwp,7,none⟩]⟩
def fltEvtDest : RegRow := ⟨0xB00010, 0x0, 1, 0x0, 1, .f, 0, 0, false, [⟨31,8,.rwp,0,none⟩, ⟨7,0,.rwp,0,none⟩]⟩
def fltSafe : RegRow := ⟨0xB00014, 0x0, 1, 0x0, 1, .c, 0, 0, false, [⟨31,31,.ro,0,none⟩, ⟨30,28,.ro,0,none⟩, ⟨27,24,.ro,0,none⟩, ⟨23,16,.ro,0,none⟩, ⟨15,0,.ro,0,none⟩]⟩
def fltChk : RegRow := ⟨0xB00018, 0x0, 1, 0x0, 1, .c, 0, 0, false, [⟨31,31,.wo,0,none⟩, ⟨1,1,.ro,0,none⟩, ⟨0,0,.ro,0,none⟩]⟩
def fltLastreact : RegRow := ⟨0xB00020, 0x0, 1, 0x0, 1, .a, 0, 0, false, [⟨31,31,.w1c,0,none⟩, ⟨26,24,.ro,0,none⟩, ⟨23,16,.ro,0,none⟩]⟩
def fltLastreactTime : RegRow := ⟨0xB00024, 0x0, 1, 0x0, 1, .a, 0, 0, false, [⟨31,0,.ro,0,none⟩]⟩
def fltCnt : RegRow := ⟨0xB00040, 0x4, 6, 0x0, 1, .c, 0, 0, true, [⟨31,0,.rwp,0,none⟩]⟩
def fltSrcCfg : RegRow := ⟨0xB01000, 0x10, 256, 0x0, 1, .f, 0, 0, false, [⟨30,28,.rwp,0,none⟩, ⟨26,24,.rwp,0,none⟩, ⟨9,0,.rwp,0x64,none⟩]⟩
def fltSrcStat : RegRow := ⟨0xB01004, 0x10, 256, 0x0, 1, .c, 0, 0, false, [⟨31,31,.ro,0,none⟩, ⟨30,30,.ro,0,none⟩, ⟨29,29,.ro,0,none⟩, ⟨28,28,.ro,0,none⟩, ⟨27,27,.ro,0,none⟩, ⟨25,16,.ro,0,none⟩, ⟨15,0,.ro,0,none⟩]⟩
def fltSrcInst0 : RegRow := ⟨0xB01008, 0x10, 256, 0x0, 1, .c, 0, 0, false, [⟨31,0,.ro,0,none⟩]⟩
def fltSrcInst1 : RegRow := ⟨0xB0100C, 0x10, 256, 0x0, 1, .c, 0, 0, false, [⟨31,0,.ro,0,none⟩]⟩
def islClkOk : RegRow := ⟨0xC00000, 0x0, 1, 0x0, 1, .c, 0, 0, false, [⟨20,0,.ro,0x1fffff,none⟩]⟩
def islRstStat : RegRow := ⟨0xC00004, 0x0, 1, 0x0, 1, .c, 0, 0, false, [⟨20,0,.ro,0,none⟩]⟩
def islPwrStat : RegRow := ⟨0xC00008, 0x0, 1, 0x0, 1, .c, 0, 0, false, [⟨20,0,.ro,0x1fffff,none⟩]⟩
def islStale : RegRow := ⟨0xC0000C, 0x0, 1, 0x0, 1, .c, 0, 0, false, [⟨20,0,.ro,0,none⟩]⟩
def islRstCtl : RegRow := ⟨0xC00010, 0x0, 1, 0x0, 1, .c, 0, 0, false, [⟨20,0,.po,0,none⟩]⟩
def islPwrCtl : RegRow := ⟨0xC00014, 0x0, 1, 0x0, 1, .c, 0, 0, false, [⟨20,0,.po,0,none⟩]⟩
def islDropCnt : RegRow := ⟨0xC00100, 0x4, 21, 0x0, 1, .c, 0, 0, true, [⟨31,0,.rwp,0,none⟩]⟩
def cdcOverrunCnt : RegRow := ⟨0xC00200, 0x4, 21, 0x0, 1, .c, 0, 0, true, [⟨31,0,.rwp,0,none⟩]⟩
def islRstCnt : RegRow := ⟨0xC00300, 0x4, 21, 0x0, 1, .c, 0, 0, true, [⟨31,0,.rwp,0,none⟩]⟩
def secStat : RegRow := ⟨0xD00000, 0x0, 1, 0x0, 1, .c, 0, 0, false, [⟨2,2,.poStatus,0,none⟩, ⟨1,1,.poStatus,0,none⟩, ⟨0,0,.poStatus,0,none⟩]⟩
def secOtpCnt : RegRow := ⟨0xD00004, 0x0, 1, 0x0, 1, .c, 0, 0, false, [⟨6,0,.poStatus,0,none⟩]⟩
def secDevid : RegRow := ⟨0xD00010, 0x4, 16, 0x0, 1, .c, 0, 0, false, [⟨31,0,.poStatus,0,none⟩]⟩
def secOwnerStat : RegRow := ⟨0xD00080, 0x0, 1, 0x0, 1, .c, 0, 0, false, [⟨7,4,.poStatus,0,none⟩, ⟨3,0,.poStatus,0,none⟩]⟩
def secOwnerCtl : RegRow := ⟨0xD00084, 0x0, 1, 0x0, 1, .c, 0, 0, false, [⟨31,16,.po,0,none⟩, ⟨9,8,.po,0,none⟩, ⟨1,1,.po,0,none⟩, ⟨0,0,.po,0,none⟩]⟩
def secOwnerHash : RegRow := ⟨0xD00090, 0x4, 12, 0x0, 1, .c, 0, 0, false, [⟨31,0,.po,0,none⟩]⟩
def secBkey : RegRow := ⟨0xD00100, 0x4, 8, 0x0, 1, .f, 0, 0, false, [⟨31,0,.poKey,0,none⟩]⟩
def secPkey : RegRow := ⟨0xD00140, 0x4, 8, 0x0, 1, .f, 0, 0, false, [⟨31,0,.poKey,0,none⟩]⟩
def secKeystat : RegRow := ⟨0xD00160, 0x0, 1, 0x0, 1, .f, 0, 0, false, [⟨1,1,.poStatus,0,none⟩, ⟨0,0,.poStatus,0,none⟩]⟩
def secCredDeny : RegRow := ⟨0xD00180, 0x4, 16, 0x0, 1, .f, 0, 0, false, [⟨31,0,.po,0,none⟩]⟩
def secSessSel : RegRow := ⟨0xD00200, 0x0, 1, 0x0, 1, .c, 0, 0, false, [⟨15,0,.po,0,none⟩]⟩
def secSessInfo : RegRow := ⟨0xD00204, 0x0, 1, 0x0, 1, .c, 0, 0, false, [⟨31,31,.poStatus,0,none⟩, ⟨30,30,.poStatus,0,none⟩, ⟨29,29,.poStatus,0,none⟩, ⟨28,28,.poStatus,0,none⟩, ⟨27,26,.poStatus,0,none⟩, ⟨16,0,.poStatus,0,none⟩]⟩
def secDbgCtl : RegRow := ⟨0xD00300, 0x0, 1, 0x0, 1, .c, 0, 0, false, [⟨3,2,.po,0,none⟩, ⟨0,0,.po,0,none⟩]⟩
def secDbgStat : RegRow := ⟨0xD00304, 0x0, 1, 0x0, 1, .c, 0, 0, false, [⟨3,3,.poStatus,0,none⟩, ⟨2,2,.poStatus,0,none⟩, ⟨1,0,.poStatus,0,none⟩]⟩
def secDbgChal : RegRow := ⟨0xD00310, 0x4, 8, 0x0, 1, .c, 0, 0, false, [⟨31,0,.poStatus,0,none⟩]⟩
def secDbgToken : RegRow := ⟨0xD00340, 0x4, 24, 0x0, 1, .c, 0, 0, false, [⟨31,0,.po,0,none⟩]⟩
end Row

/-- The row of each register. -/
def Reg.row : Reg → RegRow
  | .ctlPartid => Row.ctlPartid
  | .ctlVariant => Row.ctlVariant
  | .ctlUid => Row.ctlUid
  | .ctlFwver => Row.ctlFwver
  | .ctlFwslot => Row.ctlFwslot
  | .ctlNode => Row.ctlNode
  | .ctlPairaddr => Row.ctlPairaddr
  | .ctlState => Row.ctlState
  | .ctlRstcause => Row.ctlRstcause
  | .ctlSeccfg => Row.ctlSeccfg
  | .ctlSesscfg => Row.ctlSesscfg
  | .ctlSessstat => Row.ctlSessstat
  | .ctlDenycnt => Row.ctlDenycnt
  | .ctlCmdto => Row.ctlCmdto
  | .ctlScratch => Row.ctlScratch
  | .lnkCfg => Row.lnkCfg
  | .lnkCtl => Row.lnkCtl
  | .lnkState => Row.lnkState
  | .lnkNbr0 => Row.lnkNbr0
  | .lnkNbr1 => Row.lnkNbr1
  | .lnkNbr2 => Row.lnkNbr2
  | .lnkCnt => Row.lnkCnt
  | .lnkMod0 => Row.lnkMod0
  | .lnkMod1 => Row.lnkMod1
  | .lnkMod2 => Row.lnkMod2
  | .lnkByp => Row.lnkByp
  | .lnkRpt => Row.lnkRpt
  | .lnkDualSingle => Row.lnkDualSingle
  | .prsCfg => Row.prsCfg
  | .prsStat => Row.prsStat
  | .prsCnt => Row.prsCnt
  | .prsGaprec0 => Row.prsGaprec0
  | .prsGaprec1 => Row.prsGaprec1
  | .prsGaprec2 => Row.prsGaprec2
  | .prsGaprec3 => Row.prsGaprec3
  | .prsGapctl => Row.prsGapctl
  | .swcPoolCfg => Row.swcPoolCfg
  | .swcPoolStat0 => Row.swcPoolStat0
  | .swcPoolStat1 => Row.swcPoolStat1
  | .swcPoolStat2 => Row.swcPoolStat2
  | .swcMcCfg => Row.swcMcCfg
  | .swcCapCfg => Row.swcCapCfg
  | .swcPoolStat3 => Row.swcPoolStat3
  | .swcVatStat => Row.swcVatStat
  | .swcVatErraddr => Row.swcVatErraddr
  | .swcCnt => Row.swcCnt
  | .swcQcfg0 => Row.swcQcfg0
  | .swcQcfg1 => Row.swcQcfg1
  | .swcQocc => Row.swcQocc
  | .swcQpeak => Row.swcQpeak
  | .swcQenq => Row.swcQenq
  | .swcQdrop => Row.swcQdrop
  | .mcResidueDrop => Row.mcResidueDrop
  | .swcFwdAct => Row.swcFwdAct
  | .swcFwdShd => Row.swcFwdShd
  | .swcFwdCtl => Row.swcFwdCtl
  | .swcGrp => Row.swcGrp
  | .lpCfg => Row.lpCfg
  | .lpFlow => Row.lpFlow
  | .lpFmask => Row.lpFmask
  | .capCtl => Row.capCtl
  | .capWptr => Row.capWptr
  | .capReccnt => Row.capReccnt
  | .capStat => Row.capStat
  | .timCfg => Row.timCfg
  | .timStat => Row.timStat
  | .timNow => Row.timNow
  | .timEpoch => Row.timEpoch
  | .timInc => Row.timInc
  | .timOffset => Row.timOffset
  | .timMaster => Row.timMaster
  | .timStep => Row.timStep
  | .timStepAt => Row.timStepAt
  | .timLnkdly => Row.timLnkdly
  | .timAsym => Row.timAsym
  | .timSchedCfg => Row.timSchedCfg
  | .timSchedStat => Row.timSchedStat
  | .timSchedCancel => Row.timSchedCancel
  | .timSnapId => Row.timSnapId
  | .timSnapTime => Row.timSnapTime
  | .timSnapStale => Row.timSnapStale
  | .timCnt => Row.timCnt
  | .timEntTime => Row.timEntTime
  | .timEntCtl => Row.timEntCtl
  | .timEntSrc => Row.timEntSrc
  | .timEntId => Row.timEntId
  | .engCtl => Row.engCtl
  | .engStatus => Row.engStatus
  | .engClk => Row.engClk
  | .engPinmap0 => Row.engPinmap0
  | .engPinmap1 => Row.engPinmap1
  | .engQcfg => Row.engQcfg
  | .engQstat => Row.engQstat
  | .engInject => Row.engInject
  | .engOsr => Row.engOsr
  | .engIsr => Row.engIsr
  | .engXy => Row.engXy
  | .engPattern => Row.engPattern
  | .engCrcCfg => Row.engCrcCfg
  | .engCrcPoly => Row.engCrcPoly
  | .engCrcInit => Row.engCrcInit
  | .engCrcVal => Row.engCrcVal
  | .engProg => Row.engProg
  | .pinCfg => Row.pinCfg
  | .cluDin => Row.cluDin
  | .cluDout => Row.cluDout
  | .cluDoutSet => Row.cluDoutSet
  | .cluDoutClr => Row.cluDoutClr
  | .cluCtl => Row.cluCtl
  | .cluCfg => Row.cluCfg
  | .cluStat => Row.cluStat
  | .cluCosCfg => Row.cluCosCfg
  | .cluCosDest => Row.cluCosDest
  | .cluPcnt => Row.cluPcnt
  | .cluCnt => Row.cluCnt
  | .winCfg => Row.winCfg
  | .winStat => Row.winStat
  | .canCtl => Row.canCtl
  | .canCfg => Row.canCfg
  | .canBtNom => Row.canBtNom
  | .canBtFd => Row.canBtFd
  | .canBtXl => Row.canBtXl
  | .canXpwm => Row.canXpwm
  | .canSsp => Row.canSsp
  | .canPack => Row.canPack
  | .canStat => Row.canStat
  | .canClash => Row.canClash
  | .canRdCtl => Row.canRdCtl
  | .canRdStat => Row.canRdStat
  | .canRefCfg => Row.canRefCfg
  | .canRefId => Row.canRefId
  | .canRefFid => Row.canRefFid
  | .canRefStat => Row.canRefStat
  | .canWakeCfg => Row.canWakeCfg
  | .canWufId => Row.canWufId
  | .canWufIdmask => Row.canWufIdmask
  | .canWufData => Row.canWufData
  | .canWufDmask => Row.canWufDmask
  | .canWakeStat => Row.canWakeStat
  | .canTsqRec => Row.canTsqRec
  | .canTsqCtl => Row.canTsqCtl
  | .canCnt => Row.canCnt
  | .macCfg => Row.macCfg
  | .macPack => Row.macPack
  | .macAddr0 => Row.macAddr0
  | .macAddr1 => Row.macAddr1
  | .macHash => Row.macHash
  | .macPeer0 => Row.macPeer0
  | .macPeer1 => Row.macPeer1
  | .macStat => Row.macStat
  | .macEvtCfg => Row.macEvtCfg
  | .macEvtDest => Row.macEvtDest
  | .macCntHalf => Row.macCntHalf
  | .macTsqRec => Row.macTsqRec
  | .macTsqCtl => Row.macTsqCtl
  | .macWakeCfg => Row.macWakeCfg
  | .macWupMask => Row.macWupMask
  | .macWakeStat => Row.macWakeStat
  | .macWupData => Row.macWupData
  | .macCnt => Row.macCnt
  | .macMdioCtl => Row.macMdioCtl
  | .macMdioData => Row.macMdioData
  | .hbrCfg => Row.hbrCfg
  | .hbrStat => Row.hbrStat
  | .hbrIrq => Row.hbrIrq
  | .hbrCnt => Row.hbrCnt
  | .hbrRxqDrop => Row.hbrRxqDrop
  | .hbrWinNode => Row.hbrWinNode
  | .hbrWinOff => Row.hbrWinOff
  | .hbrWinAttr => Row.hbrWinAttr
  | .hbrKeySess => Row.hbrKeySess
  | .hbrKey => Row.hbrKey
  | .hbrTxrBaseLo => Row.hbrTxrBaseLo
  | .hbrTxrBaseHi => Row.hbrTxrBaseHi
  | .hbrTxrCfg => Row.hbrTxrCfg
  | .hbrTxrTail => Row.hbrTxrTail
  | .hbrTxrHead => Row.hbrTxrHead
  | .hbrRxrBaseLo => Row.hbrRxrBaseLo
  | .hbrRxrBaseHi => Row.hbrRxrBaseHi
  | .hbrRxrCfg => Row.hbrRxrCfg
  | .hbrRxrTail => Row.hbrRxrTail
  | .hbrRxrHead => Row.hbrRxrHead
  | .hbrRxmap => Row.hbrRxmap
  | .hbrElogHead => Row.hbrElogHead
  | .hbrElogTail => Row.hbrElogTail
  | .hbrElogOvf => Row.hbrElogOvf
  | .hbrElog => Row.hbrElog
  | .pwrChCtl => Row.pwrChCtl
  | .pwrChCfg => Row.pwrChCfg
  | .pwrChLim => Row.pwrChLim
  | .pwrChRamp => Row.pwrChRamp
  | .pwrChTherm0 => Row.pwrChTherm0
  | .pwrChTherm1 => Row.pwrChTherm1
  | .pwrChSns => Row.pwrChSns
  | .pwrChCal => Row.pwrChCal
  | .pwrChStat => Row.pwrChStat
  | .pwrChFault => Row.pwrChFault
  | .pwrChFtime => Row.pwrChFtime
  | .pwrChMeas0 => Row.pwrChMeas0
  | .pwrChMeas1 => Row.pwrChMeas1
  | .pwrChMeas2 => Row.pwrChMeas2
  | .pwrCnt => Row.pwrCnt
  | .pwrCfg => Row.pwrCfg
  | .pwrStat => Row.pwrStat
  | .pwrPg => Row.pwrPg
  | .pwrCmd => Row.pwrCmd
  | .parCfg => Row.parCfg
  | .parCtl => Row.parCtl
  | .parStat => Row.parStat
  | .parPartner => Row.parPartner
  | .parOrder => Row.parOrder
  | .parLastTime => Row.parLastTime
  | .parLastCause => Row.parLastCause
  | .parCnt => Row.parCnt
  | .mgtCfg => Row.mgtCfg
  | .mgtStat => Row.mgtStat
  | .mgtLsStat => Row.mgtLsStat
  | .mgtWdg => Row.mgtWdg
  | .mgtWdgInfo => Row.mgtWdgInfo
  | .mgtTemp => Row.mgtTemp
  | .mgtPtemp => Row.mgtPtemp
  | .mgtSup => Row.mgtSup
  | .mgtSensCfg => Row.mgtSensCfg
  | .mgtLogStat => Row.mgtLogStat
  | .mgtLogSeq => Row.mgtLogSeq
  | .mgtLlStat => Row.mgtLlStat
  | .mgtLlMbox => Row.mgtLlMbox
  | .mgtCnt => Row.mgtCnt
  | .fltCfg => Row.fltCfg
  | .fltStat => Row.fltStat
  | .fltPin => Row.fltPin
  | .fltEvtCfg => Row.fltEvtCfg
  | .fltEvtDest => Row.fltEvtDest
  | .fltSafe => Row.fltSafe
  | .fltChk => Row.fltChk
  | .fltLastreact => Row.fltLastreact
  | .fltLastreactTime => Row.fltLastreactTime
  | .fltCnt => Row.fltCnt
  | .fltSrcCfg => Row.fltSrcCfg
  | .fltSrcStat => Row.fltSrcStat
  | .fltSrcInst0 => Row.fltSrcInst0
  | .fltSrcInst1 => Row.fltSrcInst1
  | .islClkOk => Row.islClkOk
  | .islRstStat => Row.islRstStat
  | .islPwrStat => Row.islPwrStat
  | .islStale => Row.islStale
  | .islRstCtl => Row.islRstCtl
  | .islPwrCtl => Row.islPwrCtl
  | .islDropCnt => Row.islDropCnt
  | .cdcOverrunCnt => Row.cdcOverrunCnt
  | .islRstCnt => Row.islRstCnt
  | .secStat => Row.secStat
  | .secOtpCnt => Row.secOtpCnt
  | .secDevid => Row.secDevid
  | .secOwnerStat => Row.secOwnerStat
  | .secOwnerCtl => Row.secOwnerCtl
  | .secOwnerHash => Row.secOwnerHash
  | .secBkey => Row.secBkey
  | .secPkey => Row.secPkey
  | .secKeystat => Row.secKeystat
  | .secCredDeny => Row.secCredDeny
  | .secSessSel => Row.secSessSel
  | .secSessInfo => Row.secSessInfo
  | .secDbgCtl => Row.secDbgCtl
  | .secDbgStat => Row.secDbgStat
  | .secDbgChal => Row.secDbgChal
  | .secDbgToken => Row.secDbgToken

/-! ### Every register family, in pieces -/

def regsA : List Reg :=
  [.ctlPartid, .ctlVariant, .ctlUid, .ctlFwver, .ctlFwslot, .ctlNode, .ctlPairaddr, .ctlState, .ctlRstcause,
   .ctlSeccfg, .ctlSesscfg, .ctlSessstat, .ctlDenycnt, .ctlCmdto, .ctlScratch, .lnkCfg, .lnkCtl, .lnkState,
   .lnkNbr0, .lnkNbr1, .lnkNbr2, .lnkCnt, .lnkMod0, .lnkMod1, .lnkMod2, .lnkByp, .lnkRpt,
   .lnkDualSingle, .prsCfg, .prsStat, .prsCnt, .prsGaprec0, .prsGaprec1, .prsGaprec2, .prsGaprec3, .prsGapctl,
   .swcPoolCfg, .swcPoolStat0, .swcPoolStat1, .swcPoolStat2, .swcMcCfg, .swcCapCfg, .swcPoolStat3, .swcVatStat, .swcVatErraddr]
def regsB : List Reg :=
  [.swcCnt, .swcQcfg0, .swcQcfg1, .swcQocc, .swcQpeak, .swcQenq, .swcQdrop, .mcResidueDrop, .swcFwdAct,
   .swcFwdShd, .swcFwdCtl, .swcGrp, .lpCfg, .lpFlow, .lpFmask, .capCtl, .capWptr, .capReccnt,
   .capStat, .timCfg, .timStat, .timNow, .timEpoch, .timInc, .timOffset, .timMaster, .timStep,
   .timStepAt, .timLnkdly, .timAsym, .timSchedCfg, .timSchedStat, .timSchedCancel, .timSnapId, .timSnapTime, .timSnapStale,
   .timCnt, .timEntTime, .timEntCtl, .timEntSrc, .timEntId, .engCtl, .engStatus, .engClk, .engPinmap0]
def regsC : List Reg :=
  [.engPinmap1, .engQcfg, .engQstat, .engInject, .engOsr, .engIsr, .engXy, .engPattern, .engCrcCfg,
   .engCrcPoly, .engCrcInit, .engCrcVal, .engProg, .pinCfg, .cluDin, .cluDout, .cluDoutSet, .cluDoutClr,
   .cluCtl, .cluCfg, .cluStat, .cluCosCfg, .cluCosDest, .cluPcnt, .cluCnt, .winCfg, .winStat,
   .canCtl, .canCfg, .canBtNom, .canBtFd, .canBtXl, .canXpwm, .canSsp, .canPack, .canStat,
   .canClash, .canRdCtl, .canRdStat, .canRefCfg, .canRefId, .canRefFid, .canRefStat, .canWakeCfg, .canWufId]
def regsD : List Reg :=
  [.canWufIdmask, .canWufData, .canWufDmask, .canWakeStat, .canTsqRec, .canTsqCtl, .canCnt, .macCfg, .macPack,
   .macAddr0, .macAddr1, .macHash, .macPeer0, .macPeer1, .macStat, .macEvtCfg, .macEvtDest, .macCntHalf,
   .macTsqRec, .macTsqCtl, .macWakeCfg, .macWupMask, .macWakeStat, .macWupData, .macCnt, .macMdioCtl, .macMdioData,
   .hbrCfg, .hbrStat, .hbrIrq, .hbrCnt, .hbrRxqDrop, .hbrWinNode, .hbrWinOff, .hbrWinAttr, .hbrKeySess,
   .hbrKey, .hbrTxrBaseLo, .hbrTxrBaseHi, .hbrTxrCfg, .hbrTxrTail, .hbrTxrHead, .hbrRxrBaseLo, .hbrRxrBaseHi, .hbrRxrCfg]
def regsE : List Reg :=
  [.hbrRxrTail, .hbrRxrHead, .hbrRxmap, .hbrElogHead, .hbrElogTail, .hbrElogOvf, .hbrElog, .pwrChCtl, .pwrChCfg,
   .pwrChLim, .pwrChRamp, .pwrChTherm0, .pwrChTherm1, .pwrChSns, .pwrChCal, .pwrChStat, .pwrChFault, .pwrChFtime,
   .pwrChMeas0, .pwrChMeas1, .pwrChMeas2, .pwrCnt, .pwrCfg, .pwrStat, .pwrPg, .pwrCmd, .parCfg,
   .parCtl, .parStat, .parPartner, .parOrder, .parLastTime, .parLastCause, .parCnt, .mgtCfg, .mgtStat,
   .mgtLsStat, .mgtWdg, .mgtWdgInfo, .mgtTemp, .mgtPtemp, .mgtSup, .mgtSensCfg, .mgtLogStat, .mgtLogSeq]
def regsF : List Reg :=
  [.mgtLlStat, .mgtLlMbox, .mgtCnt, .fltCfg, .fltStat, .fltPin, .fltEvtCfg, .fltEvtDest, .fltSafe,
   .fltChk, .fltLastreact, .fltLastreactTime, .fltCnt, .fltSrcCfg, .fltSrcStat, .fltSrcInst0, .fltSrcInst1, .islClkOk,
   .islRstStat, .islPwrStat, .islStale, .islRstCtl, .islPwrCtl, .islDropCnt, .cdcOverrunCnt, .islRstCnt, .secStat,
   .secOtpCnt, .secDevid, .secOwnerStat, .secOwnerCtl, .secOwnerHash, .secBkey, .secPkey, .secKeystat, .secCredDeny,
   .secSessSel, .secSessInfo, .secDbgCtl, .secDbgStat, .secDbgChal, .secDbgToken]

/-- Every register family. -/
def allRegs : List Reg := regsA ++ regsB ++ regsC ++ regsD ++ regsE ++ regsF

namespace F
abbrev CTL_PARTID_PART : Fld := ⟨.ctlPartid, 31, 16⟩
abbrev CTL_PARTID_FAMILY : Fld := ⟨.ctlPartid, 15, 8⟩
abbrev CTL_PARTID_STEP_MAJOR : Fld := ⟨.ctlPartid, 7, 4⟩
abbrev CTL_PARTID_STEP_MINOR : Fld := ⟨.ctlPartid, 3, 0⟩
abbrev CTL_VARIANT_ORDER_CODE : Fld := ⟨.ctlVariant, 1, 0⟩
abbrev CTL_UID_UID : Fld := ⟨.ctlUid, 31, 0⟩
abbrev CTL_FWVER_MAJOR : Fld := ⟨.ctlFwver, 31, 24⟩
abbrev CTL_FWVER_MINOR : Fld := ⟨.ctlFwver, 23, 16⟩
abbrev CTL_FWVER_BUILD : Fld := ⟨.ctlFwver, 15, 0⟩
abbrev CTL_FWSLOT_TRIAL : Fld := ⟨.ctlFwslot, 1, 1⟩
abbrev CTL_FWSLOT_SLOT : Fld := ⟨.ctlFwslot, 0, 0⟩
abbrev CTL_NODE_NODE_ADDR : Fld := ⟨.ctlNode, 23, 0⟩
abbrev CTL_PAIRADDR_PAIR_VALID : Fld := ⟨.ctlPairaddr, 31, 31⟩
abbrev CTL_PAIRADDR_PAIR_ADDR : Fld := ⟨.ctlPairaddr, 23, 0⟩
abbrev CTL_STATE_VIEW : Fld := ⟨.ctlState, 20, 20⟩
abbrev CTL_STATE_PAIRED : Fld := ⟨.ctlState, 16, 16⟩
abbrev CTL_STATE_BOOTSEL_PIN : Fld := ⟨.ctlState, 13, 13⟩
abbrev CTL_STATE_SPLIT_PIN : Fld := ⟨.ctlState, 12, 12⟩
abbrev CTL_STATE_PROF_PINS : Fld := ⟨.ctlState, 9, 8⟩
abbrev CTL_STATE_ACTIVE_PROF : Fld := ⟨.ctlState, 5, 4⟩
abbrev CTL_STATE_MODE : Fld := ⟨.ctlState, 2, 0⟩
abbrev CTL_RSTCAUSE_SLP : Fld := ⟨.ctlRstcause, 6, 6⟩
abbrev CTL_RSTCAUSE_PSW : Fld := ⟨.ctlRstcause, 5, 5⟩
abbrev CTL_RSTCAUSE_ISL : Fld := ⟨.ctlRstcause, 4, 4⟩
abbrev CTL_RSTCAUSE_CMD : Fld := ⟨.ctlRstcause, 3, 3⟩
abbrev CTL_RSTCAUSE_WDG : Fld := ⟨.ctlRstcause, 2, 2⟩
abbrev CTL_RSTCAUSE_PIN : Fld := ⟨.ctlRstcause, 1, 1⟩
abbrev CTL_RSTCAUSE_POR : Fld := ⟨.ctlRstcause, 0, 0⟩
abbrev CTL_SECCFG_OWNED : Fld := ⟨.ctlSeccfg, 19, 19⟩
abbrev CTL_SECCFG_SPLIT_ACTIVE : Fld := ⟨.ctlSeccfg, 18, 18⟩
abbrev CTL_SECCFG_DEBUG_LOCKED : Fld := ⟨.ctlSeccfg, 17, 17⟩
abbrev CTL_SECCFG_CERTIFIED : Fld := ⟨.ctlSeccfg, 16, 16⟩
abbrev CTL_SECCFG_OPEN_OPERATE : Fld := ⟨.ctlSeccfg, 0, 0⟩
abbrev CTL_SESSCFG_IDLE_S : Fld := ⟨.ctlSesscfg, 15, 0⟩
abbrev CTL_SESSSTAT_AUTH_FAIL_CNT : Fld := ⟨.ctlSessstat, 31, 16⟩
abbrev CTL_SESSSTAT_OPEN_MAINT : Fld := ⟨.ctlSessstat, 11, 8⟩
abbrev CTL_SESSSTAT_OPEN_ALL : Fld := ⟨.ctlSessstat, 5, 0⟩
abbrev CTL_DENYCNT_BADADDR_CNT : Fld := ⟨.ctlDenycnt, 31, 16⟩
abbrev CTL_DENYCNT_DENIED_CNT : Fld := ⟨.ctlDenycnt, 15, 0⟩
abbrev CTL_CMDTO_TIMEOUT_US : Fld := ⟨.ctlCmdto, 19, 0⟩
abbrev CTL_SCRATCH_SCRATCH : Fld := ⟨.ctlScratch, 31, 0⟩
abbrev LNK_CFG_ENABLE : Fld := ⟨.lnkCfg, 31, 31⟩
abbrev LNK_CFG_MEDIA : Fld := ⟨.lnkCfg, 30, 29⟩
abbrev LNK_CFG_RATE_MAX : Fld := ⟨.lnkCfg, 28, 28⟩
abbrev LNK_CFG_CT_CLASS : Fld := ⟨.lnkCfg, 23, 16⟩
abbrev LNK_CFG_TX_PRE : Fld := ⟨.lnkCfg, 11, 8⟩
abbrev LNK_CFG_TX_POST : Fld := ⟨.lnkCfg, 7, 4⟩
abbrev LNK_CFG_TX_SWING : Fld := ⟨.lnkCfg, 3, 0⟩
abbrev LNK_CTL_CLR_HOLD : Fld := ⟨.lnkCtl, 1, 1⟩
abbrev LNK_CTL_RETRAIN : Fld := ⟨.lnkCtl, 0, 0⟩
abbrev LNK_STATE_FLAP_CNT : Fld := ⟨.lnkState, 23, 16⟩
abbrev LNK_STATE_FALLBACK_CNT : Fld := ⟨.lnkState, 15, 8⟩
abbrev LNK_STATE_NBR_STALE : Fld := ⟨.lnkState, 7, 7⟩
abbrev LNK_STATE_NBR_VALID : Fld := ⟨.lnkState, 6, 6⟩
abbrev LNK_STATE_PARTNER_REPEAT : Fld := ⟨.lnkState, 5, 5⟩
abbrev LNK_STATE_RATE : Fld := ⟨.lnkState, 4, 4⟩
abbrev LNK_STATE_STATE : Fld := ⟨.lnkState, 3, 0⟩
abbrev LNK_NBR0_NODE : Fld := ⟨.lnkNbr0, 31, 8⟩
abbrev LNK_NBR0_PORT : Fld := ⟨.lnkNbr0, 7, 0⟩
abbrev LNK_NBR1_PAIR_VALID : Fld := ⟨.lnkNbr1, 31, 31⟩
abbrev LNK_NBR1_PAIR_ADDR : Fld := ⟨.lnkNbr1, 23, 0⟩
abbrev LNK_NBR2_UID_LO : Fld := ⟨.lnkNbr2, 31, 0⟩
abbrev LNK_CNT_COUNT : Fld := ⟨.lnkCnt, 31, 0⟩
abbrev LNK_MOD0_TEMP : Fld := ⟨.lnkMod0, 31, 16⟩
abbrev LNK_MOD0_VCC : Fld := ⟨.lnkMod0, 15, 0⟩
abbrev LNK_MOD1_TX_BIAS : Fld := ⟨.lnkMod1, 31, 16⟩
abbrev LNK_MOD1_TX_POWER : Fld := ⟨.lnkMod1, 15, 0⟩
abbrev LNK_MOD2_RX_POWER : Fld := ⟨.lnkMod2, 31, 16⟩
abbrev LNK_MOD2_NOT_SFP : Fld := ⟨.lnkMod2, 6, 6⟩
abbrev LNK_MOD2_DIAG_STALE : Fld := ⟨.lnkMod2, 5, 5⟩
abbrev LNK_MOD2_WARN : Fld := ⟨.lnkMod2, 4, 4⟩
abbrev LNK_MOD2_ALARM : Fld := ⟨.lnkMod2, 3, 3⟩
abbrev LNK_MOD2_TX_FAULT : Fld := ⟨.lnkMod2, 2, 2⟩
abbrev LNK_MOD2_LOS : Fld := ⟨.lnkMod2, 1, 1⟩
abbrev LNK_MOD2_ABSENT : Fld := ⟨.lnkMod2, 0, 0⟩
abbrev LNK_BYP_HOLD : Fld := ⟨.lnkByp, 2, 2⟩
abbrev LNK_BYP_TEST_RELEASE : Fld := ⟨.lnkByp, 0, 0⟩
abbrev LNK_RPT_LAST_CAUSE : Fld := ⟨.lnkRpt, 17, 16⟩
abbrev LNK_RPT_ENTRY_CNT : Fld := ⟨.lnkRpt, 15, 8⟩
abbrev LNK_RPT_SPUR_JOINED : Fld := ⟨.lnkRpt, 1, 1⟩
abbrev LNK_RPT_RING_JOINED : Fld := ⟨.lnkRpt, 0, 0⟩
abbrev LNK_DUAL_SINGLE_COUNT : Fld := ⟨.lnkDualSingle, 31, 0⟩
abbrev PRS_CFG_IDLE_MS : Fld := ⟨.prsCfg, 21, 16⟩
abbrev PRS_CFG_WAIT_US : Fld := ⟨.prsCfg, 13, 0⟩
abbrev PRS_STAT_EVICT_CNT : Fld := ⟨.prsStat, 31, 16⟩
abbrev PRS_STAT_ACTIVE : Fld := ⟨.prsStat, 12, 0⟩
abbrev PRS_CNT_COUNT : Fld := ⟨.prsCnt, 31, 0⟩
abbrev PRS_GAPREC0_SRC_NODE : Fld := ⟨.prsGaprec0, 31, 8⟩
abbrev PRS_GAPREC0_DUAL : Fld := ⟨.prsGaprec0, 3, 3⟩
abbrev PRS_GAPREC0_CLASS : Fld := ⟨.prsGaprec0, 2, 0⟩
abbrev PRS_GAPREC1_FIRST_SEQ : Fld := ⟨.prsGaprec1, 31, 16⟩
abbrev PRS_GAPREC1_COUNT : Fld := ⟨.prsGaprec1, 15, 0⟩
abbrev PRS_GAPREC2_TIME : Fld := ⟨.prsGaprec2, 31, 0⟩
abbrev PRS_GAPREC3_CAUSE : Fld := ⟨.prsGaprec3, 1, 0⟩
abbrev PRS_GAPCTL_OVERFLOW_CNT : Fld := ⟨.prsGapctl, 31, 16⟩
abbrev PRS_GAPCTL_DEPTH : Fld := ⟨.prsGapctl, 4, 0⟩
abbrev SWC_POOL_CFG_HEADROOM : Fld := ⟨.swcPoolCfg, 16, 0⟩
abbrev SWC_POOL_STAT0_FREE : Fld := ⟨.swcPoolStat0, 18, 0⟩
abbrev SWC_POOL_STAT1_SHARED_SIZE : Fld := ⟨.swcPoolStat1, 18, 0⟩
abbrev SWC_POOL_STAT2_SHARED_USED : Fld := ⟨.swcPoolStat2, 18, 0⟩
abbrev SWC_MC_CFG_RESIDUE_US : Fld := ⟨.swcMcCfg, 13, 0⟩
abbrev SWC_CAP_CFG_CELLS : Fld := ⟨.swcCapCfg, 16, 0⟩
abbrev SWC_POOL_STAT3_HEAD_USED : Fld := ⟨.swcPoolStat3, 16, 0⟩
abbrev SWC_VAT_STAT_RETIRED : Fld := ⟨.swcVatStat, 24, 16⟩
abbrev SWC_VAT_STAT_SCRUB_PASSES : Fld := ⟨.swcVatStat, 15, 0⟩
abbrev SWC_VAT_ERRADDR_VALID : Fld := ⟨.swcVatErraddr, 31, 31⟩
abbrev SWC_VAT_ERRADDR_UE : Fld := ⟨.swcVatErraddr, 30, 30⟩
abbrev SWC_VAT_ERRADDR_WORD : Fld := ⟨.swcVatErraddr, 20, 0⟩
abbrev SWC_CNT_COUNT : Fld := ⟨.swcCnt, 31, 0⟩
abbrev SWC_QCFG0_PRIV : Fld := ⟨.swcQcfg0, 31, 31⟩
abbrev SWC_QCFG0_ALPHA : Fld := ⟨.swcQcfg0, 27, 24⟩
abbrev SWC_QCFG0_CURD : Fld := ⟨.swcQcfg0, 15, 0⟩
abbrev SWC_QCFG1_MAX : Fld := ⟨.swcQcfg1, 18, 0⟩
abbrev SWC_QOCC_OCC : Fld := ⟨.swcQocc, 18, 0⟩
abbrev SWC_QPEAK_PEAK : Fld := ⟨.swcQpeak, 18, 0⟩
abbrev SWC_QENQ_COUNT : Fld := ⟨.swcQenq, 31, 0⟩
abbrev SWC_QDROP_COUNT : Fld := ⟨.swcQdrop, 31, 0⟩
abbrev MC_RESIDUE_DROP_COUNT : Fld := ⟨.mcResidueDrop, 31, 0⟩
abbrev SWC_FWD_ACT_ENTRY : Fld := ⟨.swcFwdAct, 31, 0⟩
abbrev SWC_FWD_SHD_ENTRY : Fld := ⟨.swcFwdShd, 31, 0⟩
abbrev SWC_FWD_CTL_COMMIT : Fld := ⟨.swcFwdCtl, 31, 31⟩
abbrev SWC_FWD_CTL_GEN : Fld := ⟨.swcFwdCtl, 15, 0⟩
abbrev SWC_GRP_MEMBERS : Fld := ⟨.swcGrp, 31, 0⟩
abbrev LP_CFG_ENABLE : Fld := ⟨.lpCfg, 31, 31⟩
abbrev LP_CFG_DIR : Fld := ⟨.lpCfg, 30, 29⟩
abbrev LP_CFG_ANY_PORT : Fld := ⟨.lpCfg, 28, 28⟩
abbrev LP_CFG_SRC_PORT : Fld := ⟨.lpCfg, 22, 16⟩
abbrev LP_CFG_DEST : Fld := ⟨.lpCfg, 14, 8⟩
abbrev LP_CFG_CLASS : Fld := ⟨.lpCfg, 2, 0⟩
abbrev LP_FLOW_USE_SRC : Fld := ⟨.lpFlow, 31, 31⟩
abbrev LP_FLOW_FTYPE : Fld := ⟨.lpFlow, 27, 24⟩
abbrev LP_FLOW_NODE : Fld := ⟨.lpFlow, 23, 0⟩
abbrev LP_FMASK_FTYPE : Fld := ⟨.lpFmask, 27, 24⟩
abbrev LP_FMASK_NODE : Fld := ⟨.lpFmask, 23, 0⟩
abbrev CAP_CTL_WRAP : Fld := ⟨.capCtl, 1, 1⟩
abbrev CAP_CTL_ENABLE : Fld := ⟨.capCtl, 0, 0⟩
abbrev CAP_WPTR_OFFSET : Fld := ⟨.capWptr, 23, 0⟩
abbrev CAP_RECCNT_COUNT : Fld := ⟨.capReccnt, 31, 0⟩
abbrev CAP_STAT_FULL : Fld := ⟨.capStat, 0, 0⟩
abbrev TIM_CFG_MASTER_CAP : Fld := ⟨.timCfg, 31, 31⟩
abbrev TIM_CFG_PRIORITY : Fld := ⟨.timCfg, 23, 16⟩
abbrev TIM_CFG_TIME_EN : Fld := ⟨.timCfg, 12, 8⟩
abbrev TIM_STAT_HOPS : Fld := ⟨.timStat, 23, 16⟩
abbrev TIM_STAT_UPSTREAM : Fld := ⟨.timStat, 14, 12⟩
abbrev TIM_STAT_STEP_LATE : Fld := ⟨.timStat, 10, 10⟩
abbrev TIM_STAT_STEP_PENDING : Fld := ⟨.timStat, 9, 9⟩
abbrev TIM_STAT_STEP_LOCK : Fld := ⟨.timStat, 8, 8⟩
abbrev TIM_STAT_VALID : Fld := ⟨.timStat, 3, 3⟩
abbrev TIM_STAT_STATE : Fld := ⟨.timStat, 2, 0⟩
abbrev TIM_NOW_NOW : Fld := ⟨.timNow, 31, 0⟩
abbrev TIM_EPOCH_EPOCH : Fld := ⟨.timEpoch, 31, 0⟩
abbrev TIM_INC_INC : Fld := ⟨.timInc, 31, 0⟩
abbrev TIM_OFFSET_OFFSET : Fld := ⟨.timOffset, 31, 0⟩
abbrev TIM_MASTER_UID : Fld := ⟨.timMaster, 31, 0⟩
abbrev TIM_STEP_STEP_SEQ : Fld := ⟨.timStep, 7, 0⟩
abbrev TIM_STEP_AT_STEP_AT : Fld := ⟨.timStepAt, 31, 0⟩
abbrev TIM_LNKDLY_DELAY : Fld := ⟨.timLnkdly, 27, 0⟩
abbrev TIM_ASYM_ASYM : Fld := ⟨.timAsym, 15, 0⟩
abbrev TIM_SCHED_CFG_LEAD_US : Fld := ⟨.timSchedCfg, 9, 0⟩
abbrev TIM_SCHED_STAT_PEAK : Fld := ⟨.timSchedStat, 24, 16⟩
abbrev TIM_SCHED_STAT_USED : Fld := ⟨.timSchedStat, 8, 0⟩
abbrev TIM_SCHED_CANCEL_ENTRY : Fld := ⟨.timSchedCancel, 7, 0⟩
abbrev TIM_SNAP_ID_VALID : Fld := ⟨.timSnapId, 31, 31⟩
abbrev TIM_SNAP_ID_BANK : Fld := ⟨.timSnapId, 16, 16⟩
abbrev TIM_SNAP_ID_SNAP_ID : Fld := ⟨.timSnapId, 15, 0⟩
abbrev TIM_SNAP_TIME_T : Fld := ⟨.timSnapTime, 31, 0⟩
abbrev TIM_SNAP_STALE_ISLANDS : Fld := ⟨.timSnapStale, 20, 0⟩
abbrev TIM_CNT_COUNT : Fld := ⟨.timCnt, 31, 0⟩
abbrev TIM_ENT_TIME_T : Fld := ⟨.timEntTime, 31, 0⟩
abbrev TIM_ENT_CTL_USED : Fld := ⟨.timEntCtl, 31, 31⟩
abbrev TIM_ENT_CTL_KIND : Fld := ⟨.timEntCtl, 30, 28⟩
abbrev TIM_ENT_CTL_PORT : Fld := ⟨.timEntCtl, 23, 16⟩
abbrev TIM_ENT_CTL_ACTION : Fld := ⟨.timEntCtl, 15, 8⟩
abbrev TIM_ENT_CTL_NOTIFY : Fld := ⟨.timEntCtl, 0, 0⟩
abbrev TIM_ENT_SRC_NODE : Fld := ⟨.timEntSrc, 31, 8⟩
abbrev TIM_ENT_SRC_PORT : Fld := ⟨.timEntSrc, 7, 0⟩
abbrev TIM_ENT_ID_ID : Fld := ⟨.timEntId, 31, 16⟩
abbrev TIM_ENT_ID_SESSION : Fld := ⟨.timEntId, 15, 0⟩
abbrev ENG_CTL_START : Fld := ⟨.engCtl, 31, 31⟩
abbrev ENG_CTL_STOP : Fld := ⟨.engCtl, 30, 30⟩
abbrev ENG_CTL_CLEAR : Fld := ⟨.engCtl, 29, 29⟩
abbrev ENG_CTL_FLUSH_TX : Fld := ⟨.engCtl, 28, 28⟩
abbrev ENG_CTL_FLUSH_RX : Fld := ⟨.engCtl, 27, 27⟩
abbrev ENG_CTL_START_PC : Fld := ⟨.engCtl, 22, 16⟩
abbrev ENG_STATUS_ISR_CNT : Fld := ⟨.engStatus, 29, 24⟩
abbrev ENG_STATUS_OSR_CNT : Fld := ⟨.engStatus, 21, 16⟩
abbrev ENG_STATUS_PC : Fld := ⟨.engStatus, 14, 8⟩
abbrev ENG_STATUS_STOP_CAUSE : Fld := ⟨.engStatus, 7, 5⟩
abbrev ENG_STATUS_INJ_STALL : Fld := ⟨.engStatus, 4, 4⟩
abbrev ENG_STATUS_RX_LOST : Fld := ⟨.engStatus, 3, 3⟩
abbrev ENG_STATUS_PARTIAL : Fld := ⟨.engStatus, 2, 2⟩
abbrev ENG_STATUS_STALLED : Fld := ⟨.engStatus, 1, 1⟩
abbrev ENG_STATUS_RUNNING : Fld := ⟨.engStatus, 0, 0⟩
abbrev ENG_CLK_INT : Fld := ⟨.engClk, 31, 16⟩
abbrev ENG_CLK_DEN : Fld := ⟨.engClk, 15, 8⟩
abbrev ENG_CLK_NUM : Fld := ⟨.engClk, 7, 0⟩
abbrev ENG_PINMAP0_OUT_CNT : Fld := ⟨.engPinmap0, 27, 24⟩
abbrev ENG_PINMAP0_OUT_BASE : Fld := ⟨.engPinmap0, 20, 16⟩
abbrev ENG_PINMAP0_IN_CNT : Fld := ⟨.engPinmap0, 11, 8⟩
abbrev ENG_PINMAP0_IN_BASE : Fld := ⟨.engPinmap0, 4, 0⟩
abbrev ENG_PINMAP1_SIDE_EN0 : Fld := ⟨.engPinmap1, 7, 7⟩
abbrev ENG_PINMAP1_SIDE_EN1 : Fld := ⟨.engPinmap1, 15, 15⟩
abbrev ENG_PINMAP1_SIDE_EN2 : Fld := ⟨.engPinmap1, 23, 23⟩
abbrev ENG_PINMAP1_SIDE_EN3 : Fld := ⟨.engPinmap1, 31, 31⟩
abbrev ENG_PINMAP1_SIDE0 : Fld := ⟨.engPinmap1, 4, 0⟩
abbrev ENG_PINMAP1_SIDE1 : Fld := ⟨.engPinmap1, 12, 8⟩
abbrev ENG_PINMAP1_SIDE2 : Fld := ⟨.engPinmap1, 20, 16⟩
abbrev ENG_PINMAP1_SIDE3 : Fld := ⟨.engPinmap1, 28, 24⟩
abbrev ENG_QCFG_RX_PACK_US : Fld := ⟨.engQcfg, 31, 16⟩
abbrev ENG_QCFG_RX_MAX_W : Fld := ⟨.engQcfg, 14, 6⟩
abbrev ENG_QCFG_TX_DEPTH : Fld := ⟨.engQcfg, 5, 3⟩
abbrev ENG_QCFG_POISON_HALT : Fld := ⟨.engQcfg, 1, 1⟩
abbrev ENG_QCFG_TX_LENWORD : Fld := ⟨.engQcfg, 0, 0⟩
abbrev ENG_QSTAT_RX_WORDS : Fld := ⟨.engQstat, 11, 8⟩
abbrev ENG_QSTAT_TX_WORDS : Fld := ⟨.engQstat, 3, 0⟩
abbrev ENG_INJECT_PENDING : Fld := ⟨.engInject, 31, 31⟩
abbrev ENG_INJECT_INSTR : Fld := ⟨.engInject, 23, 0⟩
abbrev ENG_OSR_VALUE : Fld := ⟨.engOsr, 31, 0⟩
abbrev ENG_ISR_VALUE : Fld := ⟨.engIsr, 31, 0⟩
abbrev ENG_XY_Y : Fld := ⟨.engXy, 31, 16⟩
abbrev ENG_XY_X : Fld := ⟨.engXy, 15, 0⟩
abbrev ENG_PATTERN_PATTERN : Fld := ⟨.engPattern, 31, 0⟩
abbrev ENG_CRC_CFG_REFLECT : Fld := ⟨.engCrcCfg, 2, 2⟩
abbrev ENG_CRC_CFG_WIDTH : Fld := ⟨.engCrcCfg, 1, 0⟩
abbrev ENG_CRC_POLY_POLY : Fld := ⟨.engCrcPoly, 31, 0⟩
abbrev ENG_CRC_INIT_INIT : Fld := ⟨.engCrcInit, 31, 0⟩
abbrev ENG_CRC_VAL_VALUE : Fld := ⟨.engCrcVal, 31, 0⟩
abbrev ENG_PROG_INSTR : Fld := ⟨.engProg, 23, 0⟩
abbrev PIN_CFG_COS : Fld := ⟨.pinCfg, 30, 30⟩
abbrev PIN_CFG_EDGE : Fld := ⟨.pinCfg, 29, 28⟩
abbrev PIN_CFG_DEB_US : Fld := ⟨.pinCfg, 27, 18⟩
abbrev PIN_CFG_SAFE : Fld := ⟨.pinCfg, 17, 16⟩
abbrev PIN_CFG_DRIVE : Fld := ⟨.pinCfg, 13, 12⟩
abbrev PIN_CFG_INV : Fld := ⟨.pinCfg, 11, 11⟩
abbrev PIN_CFG_OD : Fld := ⟨.pinCfg, 10, 10⟩
abbrev PIN_CFG_PULL : Fld := ⟨.pinCfg, 9, 8⟩
abbrev PIN_CFG_OWNER : Fld := ⟨.pinCfg, 6, 4⟩
abbrev PIN_CFG_MODE : Fld := ⟨.pinCfg, 2, 0⟩
abbrev CLU_DIN_LEVEL : Fld := ⟨.cluDin, 31, 0⟩
abbrev CLU_DOUT_LEVEL : Fld := ⟨.cluDout, 31, 0⟩
abbrev CLU_DOUT_SET_SET : Fld := ⟨.cluDoutSet, 31, 0⟩
abbrev CLU_DOUT_CLR_CLR : Fld := ⟨.cluDoutClr, 31, 0⟩
abbrev CLU_CTL_CLK_RESTART : Fld := ⟨.cluCtl, 16, 16⟩
abbrev CLU_CTL_STOP_MASK : Fld := ⟨.cluCtl, 15, 8⟩
abbrev CLU_CTL_START_MASK : Fld := ⟨.cluCtl, 7, 0⟩
abbrev CLU_CFG_OUT_EN : Fld := ⟨.cluCfg, 31, 31⟩
abbrev CLU_CFG_BANK_V : Fld := ⟨.cluCfg, 1, 0⟩
abbrev CLU_STAT_SCHED_SKIP : Fld := ⟨.cluStat, 23, 16⟩
abbrev CLU_STAT_RUNNING : Fld := ⟨.cluStat, 15, 8⟩
abbrev CLU_STAT_ILK_GATED : Fld := ⟨.cluStat, 1, 1⟩
abbrev CLU_STAT_BANK_OK : Fld := ⟨.cluStat, 0, 0⟩
abbrev CLU_COS_CFG_HOLDOFF_US : Fld := ⟨.cluCosCfg, 31, 16⟩
abbrev CLU_COS_CFG_DUAL : Fld := ⟨.cluCosCfg, 8, 8⟩
abbrev CLU_COS_CFG_CLASS : Fld := ⟨.cluCosCfg, 2, 0⟩
abbrev CLU_COS_DEST_NODE : Fld := ⟨.cluCosDest, 31, 8⟩
abbrev CLU_COS_DEST_PORT : Fld := ⟨.cluCosDest, 7, 0⟩
abbrev CLU_PCNT_COUNT : Fld := ⟨.cluPcnt, 31, 0⟩
abbrev CLU_CNT_COUNT : Fld := ⟨.cluCnt, 31, 0⟩
abbrev WIN_CFG_ENABLE : Fld := ⟨.winCfg, 31, 31⟩
abbrev WIN_CFG_PRIV : Fld := ⟨.winCfg, 30, 30⟩
abbrev WIN_CFG_ENGINE : Fld := ⟨.winCfg, 18, 16⟩
abbrev WIN_CFG_TIMEOUT_US : Fld := ⟨.winCfg, 12, 0⟩
abbrev WIN_STAT_BUSY : Fld := ⟨.winStat, 16, 16⟩
abbrev WIN_STAT_RID : Fld := ⟨.winStat, 15, 8⟩
abbrev WIN_STAT_LAST_STATUS : Fld := ⟨.winStat, 7, 0⟩
abbrev CAN_CTL_RECOVER : Fld := ⟨.canCtl, 4, 4⟩
abbrev CAN_CTL_OPMODE : Fld := ⟨.canCtl, 2, 0⟩
abbrev CAN_CFG_OUT_EN : Fld := ⟨.canCfg, 31, 31⟩
abbrev CAN_CFG_FD_EN : Fld := ⟨.canCfg, 30, 30⟩
abbrev CAN_CFG_XL_EN : Fld := ⟨.canCfg, 29, 29⟩
abbrev CAN_CFG_XL_TMS : Fld := ⟨.canCfg, 28, 28⟩
abbrev CAN_CFG_AUTO_RECOVER : Fld := ⟨.canCfg, 27, 27⟩
abbrev CAN_CFG_SAFE_ACT : Fld := ⟨.canCfg, 26, 26⟩
abbrev CAN_CFG_PEX_EN : Fld := ⟨.canCfg, 25, 25⟩
abbrev CAN_CFG_RETRY_LIM : Fld := ⟨.canCfg, 23, 16⟩
abbrev CAN_BT_NOM_PRESC : Fld := ⟨.canBtNom, 31, 24⟩
abbrev CAN_BT_NOM_NQ : Fld := ⟨.canBtNom, 23, 16⟩
abbrev CAN_BT_NOM_SPQ : Fld := ⟨.canBtNom, 15, 8⟩
abbrev CAN_BT_NOM_SJW : Fld := ⟨.canBtNom, 6, 0⟩
abbrev CAN_BT_FD_PRESC : Fld := ⟨.canBtFd, 28, 24⟩
abbrev CAN_BT_FD_NQ : Fld := ⟨.canBtFd, 22, 16⟩
abbrev CAN_BT_FD_SPQ : Fld := ⟨.canBtFd, 14, 8⟩
abbrev CAN_BT_FD_SJW : Fld := ⟨.canBtFd, 5, 0⟩
abbrev CAN_BT_XL_PRESC : Fld := ⟨.canBtXl, 28, 24⟩
abbrev CAN_BT_XL_NQ : Fld := ⟨.canBtXl, 22, 16⟩
abbrev CAN_BT_XL_SPQ : Fld := ⟨.canBtXl, 14, 8⟩
abbrev CAN_BT_XL_SJW : Fld := ⟨.canBtXl, 5, 0⟩
abbrev CAN_XPWM_PWMS : Fld := ⟨.canXpwm, 21, 16⟩
abbrev CAN_XPWM_PWML : Fld := ⟨.canXpwm, 13, 8⟩
abbrev CAN_XPWM_PWMO : Fld := ⟨.canXpwm, 5, 0⟩
abbrev CAN_SSP_SSP_EN : Fld := ⟨.canSsp, 31, 31⟩
abbrev CAN_SSP_SSP_OFS : Fld := ⟨.canSsp, 23, 16⟩
abbrev CAN_SSP_LOOP_DLY : Fld := ⟨.canSsp, 7, 0⟩
abbrev CAN_PACK_RX_PACK_US : Fld := ⟨.canPack, 31, 16⟩
abbrev CAN_PACK_RX_MAX_W : Fld := ⟨.canPack, 8, 0⟩
abbrev CAN_STAT_STATE : Fld := ⟨.canStat, 31, 30⟩
abbrev CAN_STAT_TX_GATED : Fld := ⟨.canStat, 29, 29⟩
abbrev CAN_STAT_BUS_IDLE : Fld := ⟨.canStat, 28, 28⟩
abbrev CAN_STAT_REC : Fld := ⟨.canStat, 23, 16⟩
abbrev CAN_STAT_TEC : Fld := ⟨.canStat, 8, 0⟩
abbrev CAN_CLASH_VALID : Fld := ⟨.canClash, 31, 31⟩
abbrev CAN_CLASH_IDE : Fld := ⟨.canClash, 30, 30⟩
abbrev CAN_CLASH_ID : Fld := ⟨.canClash, 28, 0⟩
abbrev CAN_RD_CTL_START : Fld := ⟨.canRdCtl, 31, 31⟩
abbrev CAN_RD_CTL_ABORT : Fld := ⟨.canRdCtl, 30, 30⟩
abbrev CAN_RD_CTL_APPLY : Fld := ⟨.canRdCtl, 29, 29⟩
abbrev CAN_RD_CTL_DWELL_MS : Fld := ⟨.canRdCtl, 15, 8⟩
abbrev CAN_RD_CTL_TIMEOUT_S : Fld := ⟨.canRdCtl, 7, 0⟩
abbrev CAN_RD_STAT_BUSY : Fld := ⟨.canRdStat, 31, 31⟩
abbrev CAN_RD_STAT_DONE : Fld := ⟨.canRdStat, 30, 30⟩
abbrev CAN_RD_STAT_FAILED : Fld := ⟨.canRdStat, 29, 29⟩
abbrev CAN_RD_STAT_FD_SEEN : Fld := ⟨.canRdStat, 28, 28⟩
abbrev CAN_RD_STAT_XL_SEEN : Fld := ⟨.canRdStat, 27, 27⟩
abbrev CAN_RD_STAT_DATA_IDX : Fld := ⟨.canRdStat, 11, 8⟩
abbrev CAN_RD_STAT_NOM_IDX : Fld := ⟨.canRdStat, 3, 0⟩
abbrev CAN_REF_CFG_ENABLE : Fld := ⟨.canRefCfg, 31, 31⟩
abbrev CAN_REF_CFG_PERIOD_US : Fld := ⟨.canRefCfg, 19, 0⟩
abbrev CAN_REF_ID_IDE : Fld := ⟨.canRefId, 31, 31⟩
abbrev CAN_REF_ID_ID : Fld := ⟨.canRefId, 28, 0⟩
abbrev CAN_REF_FID_IDE : Fld := ⟨.canRefFid, 31, 31⟩
abbrev CAN_REF_FID_ID : Fld := ⟨.canRefFid, 28, 0⟩
abbrev CAN_REF_STAT_SKIP_CNT : Fld := ⟨.canRefStat, 31, 16⟩
abbrev CAN_REF_STAT_LAST_ABANDONED : Fld := ⟨.canRefStat, 8, 8⟩
abbrev CAN_REF_STAT_SC : Fld := ⟨.canRefStat, 7, 0⟩
abbrev CAN_WAKE_CFG_WAKE_MODE : Fld := ⟨.canWakeCfg, 29, 28⟩
abbrev CAN_WAKE_CFG_STB_SLEEP : Fld := ⟨.canWakeCfg, 27, 27⟩
abbrev CAN_WAKE_CFG_STB_RUN : Fld := ⟨.canWakeCfg, 26, 26⟩
abbrev CAN_WAKE_CFG_WUP_FILT_US : Fld := ⟨.canWakeCfg, 5, 0⟩
abbrev CAN_WUF_ID_IDE : Fld := ⟨.canWufId, 31, 31⟩
abbrev CAN_WUF_ID_ID : Fld := ⟨.canWufId, 28, 0⟩
abbrev CAN_WUF_IDMASK_MASK : Fld := ⟨.canWufIdmask, 28, 0⟩
abbrev CAN_WUF_DATA_DATA : Fld := ⟨.canWufData, 31, 0⟩
abbrev CAN_WUF_DMASK_MASK : Fld := ⟨.canWufDmask, 31, 0⟩
abbrev CAN_WAKE_STAT_WOKE : Fld := ⟨.canWakeStat, 31, 31⟩
abbrev CAN_WAKE_STAT_CAUSE : Fld := ⟨.canWakeStat, 30, 29⟩
abbrev CAN_WAKE_STAT_ID : Fld := ⟨.canWakeStat, 28, 0⟩
abbrev CAN_TSQ_REC_WORD : Fld := ⟨.canTsqRec, 31, 0⟩
abbrev CAN_TSQ_CTL_DEPTH : Fld := ⟨.canTsqCtl, 4, 0⟩
abbrev CAN_CNT_COUNT : Fld := ⟨.canCnt, 31, 0⟩
abbrev MAC_CFG_OUT_EN : Fld := ⟨.macCfg, 31, 31⟩
abbrev MAC_CFG_MAC_EN : Fld := ⟨.macCfg, 30, 30⟩
abbrev MAC_CFG_SPEED : Fld := ⟨.macCfg, 29, 28⟩
abbrev MAC_CFG_FULL_DUPLEX : Fld := ⟨.macCfg, 27, 27⟩
abbrev MAC_CFG_INBAND : Fld := ⟨.macCfg, 26, 26⟩
abbrev MAC_CFG_TX_DLY : Fld := ⟨.macCfg, 25, 25⟩
abbrev MAC_CFG_RX_DLY : Fld := ⟨.macCfg, 24, 24⟩
abbrev MAC_CFG_TERM : Fld := ⟨.macCfg, 23, 23⟩
abbrev MAC_CFG_PROMISC : Fld := ⟨.macCfg, 22, 22⟩
abbrev MAC_CFG_RX_FCS_KEEP : Fld := ⟨.macCfg, 21, 21⟩
abbrev MAC_CFG_PEER_LEARN : Fld := ⟨.macCfg, 20, 20⟩
abbrev MAC_CFG_CTRL_PRIO : Fld := ⟨.macCfg, 19, 18⟩
abbrev MAC_CFG_COMM_PORT : Fld := ⟨.macCfg, 17, 17⟩
abbrev MAC_CFG_MAX_LEN : Fld := ⟨.macCfg, 13, 0⟩
abbrev MAC_PACK_RX_PACK_US : Fld := ⟨.macPack, 31, 16⟩
abbrev MAC_PACK_RX_MAX_W : Fld := ⟨.macPack, 8, 0⟩
abbrev MAC_ADDR0_ADDR_HI : Fld := ⟨.macAddr0, 31, 0⟩
abbrev MAC_ADDR1_ADDR_LO : Fld := ⟨.macAddr1, 15, 0⟩
abbrev MAC_HASH_BINS : Fld := ⟨.macHash, 31, 0⟩
abbrev MAC_PEER0_PEER_HI : Fld := ⟨.macPeer0, 31, 0⟩
abbrev MAC_PEER1_PEER_LO : Fld := ⟨.macPeer1, 15, 0⟩
abbrev MAC_STAT_TX_GATED : Fld := ⟨.macStat, 5, 5⟩
abbrev MAC_STAT_TX_BUSY : Fld := ⟨.macStat, 4, 4⟩
abbrev MAC_STAT_DUPLEX : Fld := ⟨.macStat, 3, 3⟩
abbrev MAC_STAT_SPEED : Fld := ⟨.macStat, 2, 1⟩
abbrev MAC_STAT_LINK : Fld := ⟨.macStat, 0, 0⟩
abbrev MAC_EVT_CFG_DUAL : Fld := ⟨.macEvtCfg, 8, 8⟩
abbrev MAC_EVT_CFG_CLASS : Fld := ⟨.macEvtCfg, 2, 0⟩
abbrev MAC_EVT_DEST_NODE : Fld := ⟨.macEvtDest, 31, 8⟩
abbrev MAC_EVT_DEST_PORT : Fld := ⟨.macEvtDest, 7, 0⟩
abbrev MAC_CNT_HALF_HALF : Fld := ⟨.macCntHalf, 27, 0⟩
abbrev MAC_TSQ_REC_WORD : Fld := ⟨.macTsqRec, 31, 0⟩
abbrev MAC_TSQ_CTL_DEPTH : Fld := ⟨.macTsqCtl, 4, 0⟩
abbrev MAC_WAKE_CFG_WAKE_MODE : Fld := ⟨.macWakeCfg, 1, 0⟩
abbrev MAC_WUP_MASK_MASK : Fld := ⟨.macWupMask, 31, 0⟩
abbrev MAC_WAKE_STAT_WOKE : Fld := ⟨.macWakeStat, 31, 31⟩
abbrev MAC_WAKE_STAT_CAUSE : Fld := ⟨.macWakeStat, 30, 29⟩
abbrev MAC_WUP_DATA_DATA : Fld := ⟨.macWupData, 31, 0⟩
abbrev MAC_CNT_COUNT : Fld := ⟨.macCnt, 31, 0⟩
abbrev MAC_MDIO_CTL_GO : Fld := ⟨.macMdioCtl, 31, 31⟩
abbrev MAC_MDIO_CTL_BUSY : Fld := ⟨.macMdioCtl, 30, 30⟩
abbrev MAC_MDIO_CTL_C45 : Fld := ⟨.macMdioCtl, 29, 29⟩
abbrev MAC_MDIO_CTL_OP : Fld := ⟨.macMdioCtl, 28, 27⟩
abbrev MAC_MDIO_CTL_PHYAD : Fld := ⟨.macMdioCtl, 25, 21⟩
abbrev MAC_MDIO_CTL_REGAD : Fld := ⟨.macMdioCtl, 20, 16⟩
abbrev MAC_MDIO_DATA_DATA : Fld := ⟨.macMdioData, 15, 0⟩
abbrev HBR_CFG_RAW_TAGS : Fld := ⟨.hbrCfg, 24, 16⟩
abbrev HBR_CFG_NC_RETRY_US : Fld := ⟨.hbrCfg, 15, 8⟩
abbrev HBR_CFG_NC_RETRY : Fld := ⟨.hbrCfg, 3, 0⟩
abbrev HBR_STAT_LINK_UP : Fld := ⟨.hbrStat, 31, 31⟩
abbrev HBR_STAT_SPEED : Fld := ⟨.hbrStat, 30, 28⟩
abbrev HBR_STAT_WIDTH : Fld := ⟨.hbrStat, 27, 26⟩
abbrev HBR_STAT_TRK_USED : Fld := ⟨.hbrStat, 9, 0⟩
abbrev HBR_IRQ_MODE_CHG : Fld := ⟨.hbrIrq, 2, 2⟩
abbrev HBR_IRQ_TRK_FULL : Fld := ⟨.hbrIrq, 1, 1⟩
abbrev HBR_IRQ_ERR_PEND : Fld := ⟨.hbrIrq, 0, 0⟩
abbrev HBR_CNT_COUNT : Fld := ⟨.hbrCnt, 31, 0⟩
abbrev HBR_RXQ_DROP_COUNT : Fld := ⟨.hbrRxqDrop, 31, 0⟩
abbrev HBR_WIN_NODE_NODE : Fld := ⟨.hbrWinNode, 31, 8⟩
abbrev HBR_WIN_NODE_VIEW : Fld := ⟨.hbrWinNode, 7, 7⟩
abbrev HBR_WIN_OFF_OFF_HI : Fld := ⟨.hbrWinOff, 10, 0⟩
abbrev HBR_WIN_ATTR_ENABLE : Fld := ⟨.hbrWinAttr, 31, 31⟩
abbrev HBR_WIN_ATTR_PREFETCH : Fld := ⟨.hbrWinAttr, 30, 30⟩
abbrev HBR_WIN_ATTR_POSTED : Fld := ⟨.hbrWinAttr, 29, 29⟩
abbrev HBR_WIN_ATTR_ERR_RESP : Fld := ⟨.hbrWinAttr, 28, 28⟩
abbrev HBR_WIN_ATTR_SEAL : Fld := ⟨.hbrWinAttr, 27, 27⟩
abbrev HBR_WIN_ATTR_CLASS : Fld := ⟨.hbrWinAttr, 26, 24⟩
abbrev HBR_WIN_ATTR_DUAL : Fld := ⟨.hbrWinAttr, 23, 23⟩
abbrev HBR_WIN_ATTR_SLOT : Fld := ⟨.hbrWinAttr, 19, 16⟩
abbrev HBR_WIN_ATTR_PF_QW : Fld := ⟨.hbrWinAttr, 14, 8⟩
abbrev HBR_WIN_ATTR_PF_LIFE_US : Fld := ⟨.hbrWinAttr, 7, 0⟩
abbrev HBR_KEY_SESS_VALID : Fld := ⟨.hbrKeySess, 31, 31⟩
abbrev HBR_KEY_SESS_SESSION : Fld := ⟨.hbrKeySess, 15, 0⟩
abbrev HBR_KEY_KEY : Fld := ⟨.hbrKey, 31, 0⟩
abbrev HBR_TXR_BASE_LO_BASE : Fld := ⟨.hbrTxrBaseLo, 31, 6⟩
abbrev HBR_TXR_BASE_HI_BASE : Fld := ⟨.hbrTxrBaseHi, 31, 0⟩
abbrev HBR_TXR_CFG_ENABLE : Fld := ⟨.hbrTxrCfg, 31, 31⟩
abbrev HBR_TXR_CFG_LOG2 : Fld := ⟨.hbrTxrCfg, 3, 0⟩
abbrev HBR_TXR_TAIL_TAIL : Fld := ⟨.hbrTxrTail, 11, 0⟩
abbrev HBR_TXR_HEAD_HEAD : Fld := ⟨.hbrTxrHead, 11, 0⟩
abbrev HBR_RXR_BASE_LO_BASE : Fld := ⟨.hbrRxrBaseLo, 31, 6⟩
abbrev HBR_RXR_BASE_HI_BASE : Fld := ⟨.hbrRxrBaseHi, 31, 0⟩
abbrev HBR_RXR_CFG_ENABLE : Fld := ⟨.hbrRxrCfg, 31, 31⟩
abbrev HBR_RXR_CFG_DROP : Fld := ⟨.hbrRxrCfg, 30, 30⟩
abbrev HBR_RXR_CFG_INT_US : Fld := ⟨.hbrRxrCfg, 25, 16⟩
abbrev HBR_RXR_CFG_LOG2 : Fld := ⟨.hbrRxrCfg, 3, 0⟩
abbrev HBR_RXR_TAIL_TAIL : Fld := ⟨.hbrRxrTail, 11, 0⟩
abbrev HBR_RXR_HEAD_HEAD : Fld := ⟨.hbrRxrHead, 11, 0⟩
abbrev HBR_RXMAP_Q0 : Fld := ⟨.hbrRxmap, 2, 0⟩
abbrev HBR_RXMAP_Q1 : Fld := ⟨.hbrRxmap, 5, 3⟩
abbrev HBR_RXMAP_Q2 : Fld := ⟨.hbrRxmap, 8, 6⟩
abbrev HBR_RXMAP_Q3 : Fld := ⟨.hbrRxmap, 11, 9⟩
abbrev HBR_RXMAP_Q4 : Fld := ⟨.hbrRxmap, 14, 12⟩
abbrev HBR_RXMAP_Q5 : Fld := ⟨.hbrRxmap, 17, 15⟩
abbrev HBR_RXMAP_Q6 : Fld := ⟨.hbrRxmap, 20, 18⟩
abbrev HBR_RXMAP_Q7 : Fld := ⟨.hbrRxmap, 23, 21⟩
abbrev HBR_RXMAP_LOUPE_Q : Fld := ⟨.hbrRxmap, 26, 24⟩
abbrev HBR_ELOG_HEAD_HEAD : Fld := ⟨.hbrElogHead, 7, 0⟩
abbrev HBR_ELOG_TAIL_TAIL : Fld := ⟨.hbrElogTail, 7, 0⟩
abbrev HBR_ELOG_OVF_COUNT : Fld := ⟨.hbrElogOvf, 31, 0⟩
abbrev HBR_ELOG_WORD : Fld := ⟨.hbrElog, 31, 0⟩
abbrev PWR_CH_CTL_CLR_LATCH : Fld := ⟨.pwrChCtl, 2, 2⟩
abbrev PWR_CH_CTL_OFF : Fld := ⟨.pwrChCtl, 1, 1⟩
abbrev PWR_CH_CTL_ON : Fld := ⟨.pwrChCtl, 0, 0⟩
abbrev PWR_CH_CFG_INIT_ON : Fld := ⟨.pwrChCfg, 31, 31⟩
abbrev PWR_CH_CFG_HOLD_ON_RELEASE : Fld := ⟨.pwrChCfg, 30, 30⟩
abbrev PWR_CH_CFG_SAFE : Fld := ⟨.pwrChCfg, 29, 28⟩
abbrev PWR_CH_CFG_PG_EARLY : Fld := ⟨.pwrChCfg, 27, 27⟩
abbrev PWR_CH_CFG_TMP_MODE : Fld := ⟨.pwrChCfg, 26, 25⟩
abbrev PWR_CH_CFG_RETRY_MAX : Fld := ⟨.pwrChCfg, 23, 20⟩
abbrev PWR_CH_CFG_PG_QUAL_US : Fld := ⟨.pwrChCfg, 15, 0⟩
abbrev PWR_CH_LIM_ILIM_SNS : Fld := ⟨.pwrChLim, 29, 20⟩
abbrev PWR_CH_LIM_FT_US : Fld := ⟨.pwrChLim, 19, 0⟩
abbrev PWR_CH_RAMP_SLEW : Fld := ⟨.pwrChRamp, 25, 16⟩
abbrev PWR_CH_RAMP_RAMP_MAX_MS : Fld := ⟨.pwrChRamp, 15, 0⟩
abbrev PWR_CH_THERM0_RTH : Fld := ⟨.pwrChTherm0, 31, 16⟩
abbrev PWR_CH_THERM0_TAU : Fld := ⟨.pwrChTherm0, 15, 0⟩
abbrev PWR_CH_THERM1_RDS : Fld := ⟨.pwrChTherm1, 31, 16⟩
abbrev PWR_CH_THERM1_TFET_MAX : Fld := ⟨.pwrChTherm1, 8, 0⟩
abbrev PWR_CH_SNS_RSHUNT : Fld := ⟨.pwrChSns, 31, 16⟩
abbrev PWR_CH_SNS_OPEN_MA : Fld := ⟨.pwrChSns, 15, 0⟩
abbrev PWR_CH_CAL_OFFSET : Fld := ⟨.pwrChCal, 31, 16⟩
abbrev PWR_CH_CAL_GAIN : Fld := ⟨.pwrChCal, 15, 0⟩
abbrev PWR_CH_STAT_STATE : Fld := ⟨.pwrChStat, 31, 28⟩
abbrev PWR_CH_STAT_CMD_ON : Fld := ⟨.pwrChStat, 27, 27⟩
abbrev PWR_CH_STAT_PG : Fld := ⟨.pwrChStat, 26, 26⟩
abbrev PWR_CH_STAT_LIMITING : Fld := ⟨.pwrChStat, 25, 25⟩
abbrev PWR_CH_STAT_DRIVING : Fld := ⟨.pwrChStat, 24, 24⟩
abbrev PWR_CH_STAT_CODE : Fld := ⟨.pwrChStat, 23, 16⟩
abbrev PWR_CH_STAT_OPEN_LOAD : Fld := ⟨.pwrChStat, 15, 15⟩
abbrev PWR_CH_STAT_FT_PM : Fld := ⟨.pwrChStat, 9, 0⟩
abbrev PWR_CH_FAULT_CODE : Fld := ⟨.pwrChFault, 31, 24⟩
abbrev PWR_CH_FAULT_RETRY_CNT : Fld := ⟨.pwrChFault, 23, 20⟩
abbrev PWR_CH_FAULT_RETRY_IN_S : Fld := ⟨.pwrChFault, 19, 16⟩
abbrev PWR_CH_FAULT_END : Fld := ⟨.pwrChFault, 15, 14⟩
abbrev PWR_CH_FTIME_TIME : Fld := ⟨.pwrChFtime, 31, 0⟩
abbrev PWR_CH_MEAS0_I : Fld := ⟨.pwrChMeas0, 31, 16⟩
abbrev PWR_CH_MEAS0_VOUT : Fld := ⟨.pwrChMeas0, 15, 0⟩
abbrev PWR_CH_MEAS1_VGS : Fld := ⟨.pwrChMeas1, 31, 16⟩
abbrev PWR_CH_MEAS1_VIN : Fld := ⟨.pwrChMeas1, 15, 0⟩
abbrev PWR_CH_MEAS2_T_EST : Fld := ⟨.pwrChMeas2, 31, 16⟩
abbrev PWR_CH_MEAS2_T_MEAS : Fld := ⟨.pwrChMeas2, 15, 0⟩
abbrev PWR_CNT_COUNT : Fld := ⟨.pwrCnt, 31, 0⟩
abbrev PWR_CFG_OUT_EN : Fld := ⟨.pwrCfg, 31, 31⟩
abbrev PWR_CFG_PFW_DV : Fld := ⟨.pwrCfg, 30, 20⟩
abbrev PWR_CFG_PFW_HYST : Fld := ⟨.pwrCfg, 19, 14⟩
abbrev PWR_CFG_PARK_US : Fld := ⟨.pwrCfg, 9, 0⟩
abbrev PWR_STAT_VIN : Fld := ⟨.pwrStat, 31, 16⟩
abbrev PWR_STAT_PFWARN : Fld := ⟨.pwrStat, 4, 4⟩
abbrev PWR_STAT_VIN_OV : Fld := ⟨.pwrStat, 3, 3⟩
abbrev PWR_STAT_VIN_UV : Fld := ⟨.pwrStat, 2, 2⟩
abbrev PWR_STAT_DRIVE_RIGHT : Fld := ⟨.pwrStat, 1, 1⟩
abbrev PWR_STAT_LINK_OK : Fld := ⟨.pwrStat, 0, 0⟩
abbrev PWR_PG_CMD_ON : Fld := ⟨.pwrPg, 31, 16⟩
abbrev PWR_PG_PG : Fld := ⟨.pwrPg, 15, 0⟩
abbrev PWR_CMD_OFF_MASK : Fld := ⟨.pwrCmd, 31, 16⟩
abbrev PWR_CMD_ON_MASK : Fld := ⟨.pwrCmd, 15, 0⟩
abbrev PAR_CFG_PAIR_WAIT_MS : Fld := ⟨.parCfg, 23, 16⟩
abbrev PAR_CFG_HOLD_MS : Fld := ⟨.parCfg, 15, 8⟩
abbrev PAR_CFG_PAIR_ID : Fld := ⟨.parCfg, 0, 0⟩
abbrev PAR_CTL_REJOIN : Fld := ⟨.parCtl, 1, 1⟩
abbrev PAR_CTL_RESYNC : Fld := ⟨.parCtl, 0, 0⟩
abbrev PAR_STAT_STATE : Fld := ⟨.parStat, 30, 28⟩
abbrev PAR_STAT_ILK_DRIVE : Fld := ⟨.parStat, 27, 27⟩
abbrev PAR_STAT_ILK_LOW : Fld := ⟨.parStat, 26, 26⟩
abbrev PAR_STAT_TWIN_HB : Fld := ⟨.parStat, 25, 25⟩
abbrev PAR_STAT_PIN_HB : Fld := ⟨.parStat, 24, 24⟩
abbrev PAR_STAT_PARTNER_FAULT : Fld := ⟨.parStat, 23, 23⟩
abbrev PAR_STAT_NO_PAIR : Fld := ⟨.parStat, 22, 22⟩
abbrev PAR_STAT_PARTNER_DIG_OK : Fld := ⟨.parStat, 21, 21⟩
abbrev PAR_STAT_DIG_MISS_RUN : Fld := ⟨.parStat, 10, 8⟩
abbrev PAR_STAT_REJECT : Fld := ⟨.parStat, 7, 4⟩
abbrev PAR_PARTNER_NODE : Fld := ⟨.parPartner, 31, 8⟩
abbrev PAR_PARTNER_PAIR_ID : Fld := ⟨.parPartner, 7, 7⟩
abbrev PAR_PARTNER_STATE : Fld := ⟨.parPartner, 6, 4⟩
abbrev PAR_PARTNER_ILK_DRIVE : Fld := ⟨.parPartner, 3, 3⟩
abbrev PAR_PARTNER_MODE : Fld := ⟨.parPartner, 2, 0⟩
abbrev PAR_ORDER_ON : Fld := ⟨.parOrder, 31, 16⟩
abbrev PAR_ORDER_BACKLOG : Fld := ⟨.parOrder, 9, 0⟩
abbrev PAR_LAST_TIME_TIME : Fld := ⟨.parLastTime, 31, 0⟩
abbrev PAR_LAST_CAUSE_CLAIMED : Fld := ⟨.parLastCause, 8, 8⟩
abbrev PAR_LAST_CAUSE_CAUSE : Fld := ⟨.parLastCause, 1, 0⟩
abbrev PAR_CNT_COUNT : Fld := ⟨.parCnt, 31, 0⟩
abbrev MGT_CFG_LOG_INFO_FLASH : Fld := ⟨.mgtCfg, 31, 31⟩
abbrev MGT_CFG_LL_QUIET_MS : Fld := ⟨.mgtCfg, 15, 0⟩
abbrev MGT_STAT_SPLIT_REFUSED : Fld := ⟨.mgtStat, 7, 4⟩
abbrev MGT_STAT_LOCKSTEP : Fld := ⟨.mgtStat, 0, 0⟩
abbrev MGT_LS_STAT_LAST_GROUP : Fld := ⟨.mgtLsStat, 31, 28⟩
abbrev MGT_LS_STAT_PASS : Fld := ⟨.mgtLsStat, 15, 15⟩
abbrev MGT_LS_STAT_DETECT : Fld := ⟨.mgtLsStat, 11, 0⟩
abbrev MGT_WDG_LEFT_US : Fld := ⟨.mgtWdg, 25, 16⟩
abbrev MGT_WDG_KICK : Fld := ⟨.mgtWdg, 15, 0⟩
abbrev MGT_WDG_INFO_VALID : Fld := ⟨.mgtWdgInfo, 31, 31⟩
abbrev MGT_WDG_INFO_ISLAND : Fld := ⟨.mgtWdgInfo, 20, 16⟩
abbrev MGT_WDG_INFO_PENDING : Fld := ⟨.mgtWdgInfo, 15, 15⟩
abbrev MGT_TEMP_T_HI : Fld := ⟨.mgtTemp, 31, 16⟩
abbrev MGT_TEMP_T_LO : Fld := ⟨.mgtTemp, 15, 0⟩
abbrev MGT_PTEMP_T1 : Fld := ⟨.mgtPtemp, 31, 16⟩
abbrev MGT_PTEMP_T0 : Fld := ⟨.mgtPtemp, 15, 0⟩
abbrev MGT_SUP_V_HI : Fld := ⟨.mgtSup, 31, 16⟩
abbrev MGT_SUP_V_LO : Fld := ⟨.mgtSup, 15, 0⟩
abbrev MGT_SENS_CFG_TEMP_WARN : Fld := ⟨.mgtSensCfg, 31, 24⟩
abbrev MGT_SENS_CFG_TEMP_CRIT : Fld := ⟨.mgtSensCfg, 23, 16⟩
abbrev MGT_LOG_STAT_BACKLOG : Fld := ⟨.mgtLogStat, 24, 16⟩
abbrev MGT_LOG_STAT_RAM_USED : Fld := ⟨.mgtLogStat, 8, 0⟩
abbrev MGT_LOG_SEQ_NEXT : Fld := ⟨.mgtLogSeq, 31, 0⟩
abbrev MGT_LL_STAT_RUNNING : Fld := ⟨.mgtLlStat, 31, 31⟩
abbrev MGT_LL_STAT_RING_QUIET : Fld := ⟨.mgtLlStat, 30, 30⟩
abbrev MGT_LL_STAT_LL_RESTARTS : Fld := ⟨.mgtLlStat, 7, 0⟩
abbrev MGT_LL_MBOX_REQ_TAIL : Fld := ⟨.mgtLlMbox, 31, 24⟩
abbrev MGT_LL_MBOX_REQ_HEAD : Fld := ⟨.mgtLlMbox, 23, 16⟩
abbrev MGT_LL_MBOX_RSP_TAIL : Fld := ⟨.mgtLlMbox, 15, 8⟩
abbrev MGT_LL_MBOX_RSP_HEAD : Fld := ⟨.mgtLlMbox, 7, 0⟩
abbrev MGT_CNT_COUNT : Fld := ⟨.mgtCnt, 31, 0⟩
abbrev FLT_CFG_FAULTN_EN : Fld := ⟨.fltCfg, 31, 31⟩
abbrev FLT_CFG_ALIVE_EN : Fld := ⟨.fltCfg, 30, 30⟩
abbrev FLT_CFG_ISL_ESC : Fld := ⟨.fltCfg, 27, 24⟩
abbrev FLT_STAT_CHECK_FAIL : Fld := ⟨.fltStat, 31, 31⟩
abbrev FLT_STAT_UNFIT : Fld := ⟨.fltStat, 30, 30⟩
abbrev FLT_STAT_REACTING : Fld := ⟨.fltStat, 29, 29⟩
abbrev FLT_STAT_HIGHEST : Fld := ⟨.fltStat, 18, 16⟩
abbrev FLT_STAT_UNACKED : Fld := ⟨.fltStat, 15, 8⟩
abbrev FLT_STAT_LATCHED_SF : Fld := ⟨.fltStat, 7, 0⟩
abbrev FLT_PIN_LEVEL : Fld := ⟨.fltPin, 31, 31⟩
abbrev FLT_PIN_PULSING : Fld := ⟨.fltPin, 30, 30⟩
abbrev FLT_PIN_ALIVE_RUN : Fld := ⟨.fltPin, 29, 29⟩
abbrev FLT_PIN_FOLLOW : Fld := ⟨.fltPin, 1, 1⟩
abbrev FLT_PIN_ASSERT : Fld := ⟨.fltPin, 0, 0⟩
abbrev FLT_EVT_CFG_HOLDOFF_MS : Fld := ⟨.fltEvtCfg, 31, 16⟩
abbrev FLT_EVT_CFG_MIN_CLASS : Fld := ⟨.fltEvtCfg, 10, 8⟩
abbrev FLT_EVT_CFG_DUAL : Fld := ⟨.fltEvtCfg, 3, 3⟩
abbrev FLT_EVT_CFG_CLASS : Fld := ⟨.fltEvtCfg, 2, 0⟩
abbrev FLT_EVT_DEST_NODE : Fld := ⟨.fltEvtDest, 31, 8⟩
abbrev FLT_EVT_DEST_PORT : Fld := ⟨.fltEvtDest, 7, 0⟩
abbrev FLT_SAFE_IN_SAFE : Fld := ⟨.fltSafe, 31, 31⟩
abbrev FLT_SAFE_FROM : Fld := ⟨.fltSafe, 30, 28⟩
abbrev FLT_SAFE_CAUSE : Fld := ⟨.fltSafe, 27, 24⟩
abbrev FLT_SAFE_SOURCE : Fld := ⟨.fltSafe, 23, 16⟩
abbrev FLT_SAFE_REASON : Fld := ⟨.fltSafe, 15, 0⟩
abbrev FLT_CHK_INJECT : Fld := ⟨.fltChk, 31, 31⟩
abbrev FLT_CHK_TEST_PASS : Fld := ⟨.fltChk, 1, 1⟩
abbrev FLT_CHK_MISMATCH : Fld := ⟨.fltChk, 0, 0⟩
abbrev FLT_LASTREACT_VALID : Fld := ⟨.fltLastreact, 31, 31⟩
abbrev FLT_LASTREACT_REACTION : Fld := ⟨.fltLastreact, 26, 24⟩
abbrev FLT_LASTREACT_SOURCE : Fld := ⟨.fltLastreact, 23, 16⟩
abbrev FLT_LASTREACT_TIME_TIME : Fld := ⟨.fltLastreactTime, 31, 0⟩
abbrev FLT_CNT_COUNT : Fld := ⟨.fltCnt, 31, 0⟩
abbrev FLT_SRC_CFG_CLASS : Fld := ⟨.fltSrcCfg, 30, 28⟩
abbrev FLT_SRC_CFG_REACTION : Fld := ⟨.fltSrcCfg, 26, 24⟩
abbrev FLT_SRC_CFG_GRACE : Fld := ⟨.fltSrcCfg, 9, 0⟩
abbrev FLT_SRC_STAT_LIVE : Fld := ⟨.fltSrcStat, 31, 31⟩
abbrev FLT_SRC_STAT_LATCHED : Fld := ⟨.fltSrcStat, 30, 30⟩
abbrev FLT_SRC_STAT_ACKED : Fld := ⟨.fltSrcStat, 29, 29⟩
abbrev FLT_SRC_STAT_PENDING : Fld := ⟨.fltSrcStat, 28, 28⟩
abbrev FLT_SRC_STAT_REACTED : Fld := ⟨.fltSrcStat, 27, 27⟩
abbrev FLT_SRC_STAT_GRACE_LEFT : Fld := ⟨.fltSrcStat, 25, 16⟩
abbrev FLT_SRC_STAT_RAISE_CNT : Fld := ⟨.fltSrcStat, 15, 0⟩
abbrev FLT_SRC_INST0_INST_LO : Fld := ⟨.fltSrcInst0, 31, 0⟩
abbrev FLT_SRC_INST1_INST_HI : Fld := ⟨.fltSrcInst1, 31, 0⟩
abbrev ISL_CLK_OK_OK : Fld := ⟨.islClkOk, 20, 0⟩
abbrev ISL_RST_STAT_IN_RESET : Fld := ⟨.islRstStat, 20, 0⟩
abbrev ISL_PWR_STAT_POWERED : Fld := ⟨.islPwrStat, 20, 0⟩
abbrev ISL_STALE_STALE : Fld := ⟨.islStale, 20, 0⟩
abbrev ISL_RST_CTL_RESET : Fld := ⟨.islRstCtl, 20, 0⟩
abbrev ISL_PWR_CTL_DOWN : Fld := ⟨.islPwrCtl, 20, 0⟩
abbrev ISL_DROP_CNT_COUNT : Fld := ⟨.islDropCnt, 31, 0⟩
abbrev CDC_OVERRUN_CNT_COUNT : Fld := ⟨.cdcOverrunCnt, 31, 0⟩
abbrev ISL_RST_CNT_COUNT : Fld := ⟨.islRstCnt, 31, 0⟩
abbrev SEC_STAT_DEBUG_OPEN : Fld := ⟨.secStat, 2, 2⟩
abbrev SEC_STAT_OTP_ERR : Fld := ⟨.secStat, 1, 1⟩
abbrev SEC_STAT_OTP_BUSY : Fld := ⟨.secStat, 0, 0⟩
abbrev SEC_OTP_CNT_COUNT : Fld := ⟨.secOtpCnt, 6, 0⟩
abbrev SEC_DEVID_DEVID : Fld := ⟨.secDevid, 31, 0⟩
abbrev SEC_OWNER_STAT_REVOKED : Fld := ⟨.secOwnerStat, 7, 4⟩
abbrev SEC_OWNER_STAT_BURNT : Fld := ⟨.secOwnerStat, 3, 0⟩
abbrev SEC_OWNER_CTL_CONFIRM : Fld := ⟨.secOwnerCtl, 31, 16⟩
abbrev SEC_OWNER_CTL_SLOT : Fld := ⟨.secOwnerCtl, 9, 8⟩
abbrev SEC_OWNER_CTL_REVOKE : Fld := ⟨.secOwnerCtl, 1, 1⟩
abbrev SEC_OWNER_CTL_BURN : Fld := ⟨.secOwnerCtl, 0, 0⟩
abbrev SEC_OWNER_HASH_HASH : Fld := ⟨.secOwnerHash, 31, 0⟩
abbrev SEC_BKEY_KEY : Fld := ⟨.secBkey, 31, 0⟩
abbrev SEC_PKEY_KEY : Fld := ⟨.secPkey, 31, 0⟩
abbrev SEC_KEYSTAT_PKEY_VALID : Fld := ⟨.secKeystat, 1, 1⟩
abbrev SEC_KEYSTAT_BKEY_VALID : Fld := ⟨.secKeystat, 0, 0⟩
abbrev SEC_CRED_DENY_CRED_ID : Fld := ⟨.secCredDeny, 31, 0⟩
abbrev SEC_SESS_SEL_SESSION : Fld := ⟨.secSessSel, 15, 0⟩
abbrev SEC_SESS_INFO_OPEN : Fld := ⟨.secSessInfo, 31, 31⟩
abbrev SEC_SESS_INFO_MAINTAIN : Fld := ⟨.secSessInfo, 30, 30⟩
abbrev SEC_SESS_INFO_SPENT : Fld := ⟨.secSessInfo, 29, 29⟩
abbrev SEC_SESS_INFO_CLOSING : Fld := ⟨.secSessInfo, 28, 28⟩
abbrev SEC_SESS_INFO_KEY_INDEX : Fld := ⟨.secSessInfo, 27, 26⟩
abbrev SEC_SESS_INFO_HEADROOM : Fld := ⟨.secSessInfo, 16, 0⟩
abbrev SEC_DBG_CTL_KEY_INDEX : Fld := ⟨.secDbgCtl, 3, 2⟩
abbrev SEC_DBG_CTL_UNLOCK : Fld := ⟨.secDbgCtl, 0, 0⟩
abbrev SEC_DBG_STAT_CHECKING : Fld := ⟨.secDbgStat, 3, 3⟩
abbrev SEC_DBG_STAT_LOCKOUT : Fld := ⟨.secDbgStat, 2, 2⟩
abbrev SEC_DBG_STAT_FAILS : Fld := ⟨.secDbgStat, 1, 0⟩
abbrev SEC_DBG_CHAL_CHAL : Fld := ⟨.secDbgChal, 31, 0⟩
abbrev SEC_DBG_TOKEN_TOKEN : Fld := ⟨.secDbgToken, 31, 0⟩
end F

end Sys2Proof.Machine
end

