-- ==== Sys2Proof/Machine/State.lean ====
section
/-!
DEFINITION. The state of the hub: every register (`regs`, whose default is the Reset column of RegMap) and, block by block,
the state of Machine/Parts.lean. Plain data. `State.reset` is the hub right after its power-on reset is released.
-/
namespace Sys2Proof.Machine

/-- Why a command stops the machine. -/
inductive Fault where
  /-- Raised by SCRUB_WORD for a word number that the vat does not have (R141: 2,097,152 words): no such word exists. Safe. -/
  | noSuchWord
  deriving DecidableEq, Repr

/-- Why a command has no meaning. -/
inductive Refusal where
  /-- Raised by the dispatcher for a row of the table that has no meaning yet. Safe. -/
  | notModelled (mnemonic : String)
  deriving DecidableEq, Repr

structure State where
  /-- interval clock in ns since the power-on reset was released (model's own clock; every timer counts on it) -/
  now : Nat := 0
  /-- number of free values drawn so far (model's own, log entry 1) -/
  freeIx : Nat := 0
  /-- commands waiting, first in first out (model's own) -/
  pending : List Instr := []
  /-- the registers that do not hold their Reset-column value, by local offset -/
  regs : Tab Word := []
  /-- running timers and their deadlines on `now` -/
  timers : List (Timer × Nat) := []
  mode : Mode := .boot
  /-- the 60-bit ring-time accumulator of R165: 32 bits of ns and 28 of fraction -/
  ringAcc : BitVec 60 := 0
  mgt : MgtS := {}
  flt : FltS := {}
  isl : IslS := {}
  boot : BootS := {}
  profiles : Tab Profile := []
  pair : PairS := {}
  cmd : CmdS := {}
  upd : UpdS := {}
  sec : SecS := {}
  /-- units that wait for their lookup, first in first out -/
  ingress : List UnitIn := []
  /-- frames that have left by an output port, oldest first (model's own: what the world outside has seen) -/
  sent : List SentRec := []
  sw : SwS := {}
  lanes : Tab LaneS := []
  time : TimS := {}
  sched : Tab Entry := []
  snap : SnapS := {}
  ports : Tab PortCfg := []
  clus : Tab CluS := []
  engs : Tab EngS := []
  wins : Tab WinS := []
  cans : Tab CanS := []
  macs : Tab MacS := []
  hbr : HbrS := {}
  pchs : Tab PchS := []
  /-- what has left by the CAN and Ethernet balls: port and bytes (model's own: what the world outside has seen) -/
  wire : List (Nat × List Byte) := []
  /-- level of BYP_HOLD_E and BYP_HOLD_W (R114) -/
  bypHold : Bool := false
  deriving DecidableEq, Repr

/-- The hub right after POR is released (R405, R408): every register at its Reset column, mode BOOT, every island but AON and
MGT in reset, the boot steps not yet begun, the management watchdog counting its 1 ms (R363), and no command waiting. -/
def State.reset : State :=
  { isl := { rst := 0x1FFEFE }, timers := [(.wdg, 1000000)] }

end Sys2Proof.Machine
end

