-- ==== Sys2Proof/Machine/Ops.lean ====
section
/-!
DEFINITION. The named operations over the state that every family shares: tables, registers and their fields, counters,
time and timers, free values, frames, the event log and EVENT frames.
-/
namespace Sys2Proof.Machine

/-! ### Tables -/

/-- The entry of key `k`, if there is one. -/
def tfind {α : Type} : Tab α → Nat → Option α
  | [], _ => none
  | (k', v) :: t, k => if k' = k then some v else tfind t k

/-- The entry of key `k`, or `d`. -/
def tget {α : Type} (d : α) (t : Tab α) (k : Nat) : α := (tfind t k).getD d

/-- The table with `v` at key `k`, keys still rising. -/
def tset {α : Type} : Tab α → Nat → α → Tab α
  | [], k, v => [(k, v)]
  | (k', v') :: t, k, v =>
    if k' = k then (k, v) :: t else if k < k' then (k, v) :: (k', v') :: t else (k', v') :: tset t k v

/-- The table without key `k`. -/
def terase {α : Type} (t : Tab α) (k : Nat) : Tab α := t.filter (fun e => e.1 != k)

/-- Keys rise strictly. -/
def twf {α : Type} : Tab α → Bool
  | [] => true
  | [_] => true
  | (a, _) :: (b, x) :: t => decide (a < b) && twf ((b, x) :: t)

/-! ### Registers -/

/-- Offset of instance (i, j) of a register family in the local map (R30). -/
def Reg.addr (r : Reg) (i j : Nat := 0) : Nat := let w := r.row; w.base + i * w.s1 + j * w.s2

/-- The instance of row `w` that lies at offset `off`, if one does. -/
def RegRow.instanceAt (w : RegRow) (off : Nat) : Option (Nat × Nat) :=
  if off < w.base then none else
  let d := off - w.base
  if w.s1 = 0 then (if d = 0 then some (0, 0) else none) else
  let i := d / w.s1
  let e := d % w.s1
  if i ≥ w.n1 then none else
  if w.s2 = 0 then (if e = 0 then some (i, 0) else none) else
  if e % w.s2 = 0 ∧ e / w.s2 < w.n2 then some (i, e / w.s2) else none

/-- Search of a list of families for the register at an offset. -/
def locateIn (off : Nat) : List Reg → Option (Reg × Nat × Nat)
  | [] => none
  | r :: rs => match r.row.instanceAt off with
    | some (i, j) => some (r, i, j)
    | none => locateIn off rs

/-- The register at a local offset. -/
def locate (off : Nat) : Option (Reg × Nat × Nat) := if off % 4 = 0 then locateIn off allRegs else none

/-- Where a fault source's reaction acts (R372, home island). -/
inductive Home where
  | chip | island (i : Nat) | instance_ | lane | cluster | engine
  deriving DecidableEq, Repr

/-- The source table of R372: number, default class (R370), default reaction (R374), home island. -/
def fltTable : List (Nat × Nat × Nat × Home) :=
  [ (0x01, 5, 2, .chip), (0x02, 4, 3, .chip), (0x03, 1, 0, .chip), (0x04, 3, 0, .chip), (0x05, 3, 0, .chip),
    (0x10, 5, 4, .island 8), (0x11, 4, 2, .island 8), (0x12, 5, 4, .island 8), (0x13, 4, 1, .island 8),
    (0x14, 3, 0, .chip), (0x15, 4, 3, .chip), (0x16, 4, 3, .chip), (0x17, 3, 0, .island 8),
    (0x20, 3, 0, .instance_), (0x21, 3, 0, .instance_), (0x22, 4, 1, .instance_),
    (0x30, 3, 0, .lane), (0x31, 3, 0, .lane), (0x32, 3, 0, .lane),
    (0x40, 2, 0, .island 6), (0x41, 3, 0, .island 6), (0x42, 4, 3, .island 6), (0x43, 4, 3, .island 6),
    (0x44, 1, 0, .island 6), (0x50, 3, 0, .island 7), (0x51, 3, 0, .island 7) ]
  ++ [ (0x60, 3, 0, .cluster), (0x61, 3, 0, .engine), (0x62, 3, 0, .engine), (0x63, 3, 0, .engine),
    (0x70, 1, 0, .island 17), (0x71, 3, 0, .island 17), (0x72, 3, 0, .island 17), (0x78, 1, 0, .island 18),
    (0x7C, 1, 0, .island 19), (0x80, 3, 0, .island 20), (0x81, 3, 0, .island 20), (0x82, 3, 0, .island 20),
    (0x83, 3, 0, .island 20), (0x84, 4, 2, .island 20), (0x85, 3, 0, .island 20), (0x86, 1, 0, .island 20),
    (0x87, 3, 0, .island 20), (0x88, 3, 0, .island 20), (0x89, 1, 0, .island 20), (0x8A, 4, 3, .island 20),
    (0x90, 1, 0, .island 5), (0x91, 3, 0, .island 5), (0x92, 3, 0, .island 5), (0x93, 3, 0, .island 5),
    (0x94, 4, 2, .chip), (0x95, 3, 0, .island 5), (0x96, 3, 0, .island 5), (0xA0, 1, 0, .island 8), (0xA1, 1, 0, .chip) ]

/-- The row of a source, if the number is not reserved (R368). -/
def fltRow (src : Nat) : Option (Nat × Nat × Home) := (fltTable.find? (fun e => e.1 == src)).map (·.2)

/-- The Reset-column word of a register instance (R10), with the values that depend on the index: FLT_SRC_CFG by R372,
SWC_QCFG0.PRIV by R147, MAC_CFG.SPEED and FULL_DUPLEX by MAC kind. A number that is no source has registers that are
reserved (R368) and read zero. -/
def resetWord (r : Reg) (i _j : Nat) : Word :=
  let base := r.row.fields.foldl (fun w f => w.setBits f.hi f.lo f.reset) (0 : Word)
  match r with
  | .fltSrcCfg => match fltRow i with
    | some (c, x, _) => (base.setBits 30 28 c).setBits 26 24 x
    | none => 0
  | .swcQcfg0 => if i % 8 = 7 ∨ i / 8 = 122 then base.setBits 31 31 1 else base
  | .macCfg => if i ≥ 16 then (base.setBits 29 28 2).setBits 27 27 1 else base
  | _ => base

/-- The stored word of a register. -/
def State.rd (s : State) (r : Reg) (i j : Nat := 0) : Word := (tfind s.regs (r.addr i j)).getD (resetWord r i j)

/-- The register set to a word; a register at its Reset-column word is not listed, so that equal registers are equal data. -/
def State.wr (s : State) (r : Reg) (i j : Nat) (w : Word) : State :=
  { s with regs := if w = resetWord r i j then terase s.regs (r.addr i j) else tset s.regs (r.addr i j) w }

/-- The value of a field. -/
def State.get (s : State) (f : Fld) (i j : Nat := 0) : Nat := (s.rd f.reg i j).bits f.hi f.lo

/-- A one-bit field as a Boolean. -/
def State.is (s : State) (f : Fld) (i j : Nat := 0) : Bool := s.get f i j == 1

/-- The field set to the low bits of `v`. -/
def State.put (s : State) (f : Fld) (v : Nat) (i j : Nat := 0) : State :=
  s.wr f.reg i j ((s.rd f.reg i j).setBits f.hi f.lo v)

/-- A wrapping counter register plus `n`. -/
def State.bump (s : State) (r : Reg) (i j : Nat := 0) (n : Nat := 1) : State :=
  s.wr r i j (s.rd r i j + BitVec.ofNat 32 n)

/-- A saturating counter field plus one. -/
def State.sat (s : State) (f : Fld) (i j : Nat := 0) : State :=
  let top := 2 ^ (f.hi + 1 - f.lo) - 1
  if s.get f i j < top then s.put f (s.get f i j + 1) i j else s

/-! ### Time, timers, free values -/

/-- The ring time in ns (R165). -/
def State.ringNs (s : State) : Nat := s.ringAcc.toNat / 2 ^ 28

/-- The 64-bit ring time: epoch and ns. -/
def State.ring64 (s : State) : Nat := 2 ^ 32 * s.get F.TIM_EPOCH_EPOCH + s.ringNs

/-- Island `i`'s copy of ring time (R174): for 1 µs from its last load it counts on by itself, after that it has been loaded anew and
shows TIM's (log entry 46). -/
def State.ringCopy (s : State) (i : Nat) : Nat :=
  match tfind s.time.copies i with
  | some (v, t) => if s.now < t + 1000 then v + (s.now - t) else s.ring64
  | none => s.ring64

/-- The ring time with which island `i` stamps (R174, R180). -/
def State.stampNs (s : State) (i : Nat) : Word := BitVec.ofNat 32 (s.ringCopy i)

/-- Is island `i` powered and out of reset (R391, R401)? -/
def State.outOfReset (s : State) (i : Nat) : Bool := !(s.isl.rst.getLsbD i) && (s.rd .islPwrStat).getLsbD i

/-- Is island `i` out of reset, powered, released and resynchronised (R397, R398, R401)? -/
def State.islandUp (s : State) (i : Nat) : Bool :=
  !(s.isl.rst.getLsbD i) && !(s.isl.resync.getLsbD i) && (s.rd .islPwrStat).getLsbD i

/-- Does island `i` run: up, and its clock not stopped (R390, R399)? -/
def State.islandRuns (s : State) (i : Nat) : Bool := s.islandUp i && (s.rd .islClkOk).getLsbD i

/-- `n` clocks of the TIM island (R165): each adds TIM_INC to the accumulator, and a wrap adds one to the epoch. None comes while the
island is in reset or its clock stands (R390). -/
def State.timClocks (s : State) (n : Nat) : State :=
  if s.isl.rst.getLsbD 7 || !(s.rd .islClkOk).getLsbD 7 then s else
  let t := s.ringAcc.toNat + n * (s.rd .timInc).toNat
  let s := { s with ringAcc := BitVec.ofNat 60 t }
  if t / 2 ^ 60 = 0 then s else s.bump .timEpoch 0 0 (t / 2 ^ 60)

/-- `dt` ns pass: one TIM clock each 2 ns. -/
def State.advance (s : State) (dt : Nat) : State := { s.timClocks ((s.now + dt) / 2 - s.now / 2) with now := s.now + dt }

/-- Time passes until the ring time has reached the 64-bit instant `t`. -/
def State.advanceRing (s : State) (t : Nat) : State :=
  let need := 2 ^ 28 * t - (2 ^ 60 * s.get F.TIM_EPOCH_EPOCH + s.ringAcc.toNat)
  let inc := (s.rd .timInc).toNat
  if inc = 0 then s else s.advance (2 * ((need + inc - 1) / inc))

/-- The deadline of a timer, if it runs. -/
def State.deadline (s : State) (t : Timer) : Option Nat := (s.timers.find? (fun e => e.1 == t)).map (·.2)

def State.disarm (s : State) (t : Timer) : State := { s with timers := s.timers.filter (fun e => e.1 != t) }

/-- Start (or restart) a timer that ends `d` ns from now. -/
def State.arm (s : State) (t : Timer) (d : Nat) : State :=
  { s with timers := (t, s.now + d) :: s.timers.filter (fun e => e.1 != t) }

/-- The expiry of a running timer: time passes to its deadline and it stops. `none` when it does not run. -/
def State.expire (s : State) (t : Timer) : Option State :=
  match s.deadline t with
  | none => none
  | some d => some ((s.advance (d - s.now)).disarm t)

/-- Stop every timer that `p` names. -/
def State.disarmAll (s : State) (p : Timer → Bool) : State := { s with timers := s.timers.filter (fun e => !p e.1) }

/-- A free word. -/
def State.fresh (s : State) : Word × State := (Config.freeWord s.freeIx, { s with freeIx := s.freeIx + 1 })

/-- `n` free words. -/
def State.freshWords : Nat → State → List Word × State
  | 0, s => ([], s)
  | n + 1, s =>
    let (w, s) := s.fresh
    let (ws, s) := State.freshWords n s
    (w :: ws, s)

/-- A free number of the range `lo` to `hi`. -/
def State.freeIn (s : State) (lo hi : Nat) : Nat × State :=
  (lo + Config.freeNat s.freeIx % (hi - lo + 1), { s with freeIx := s.freeIx + 1 })

/-! ### Frames -/

/-- One bit of the IEEE 802.3 CRC-32, least significant bit first (R50). -/
def crcBit (c : BitVec 32) : BitVec 32 := if c.getLsbD 0 then (c >>> 1) ^^^ 0xEDB88320 else c >>> 1

def crcByte (c : BitVec 32) (b : Byte) : BitVec 32 :=
  let c := c ^^^ b.setWidth 32
  crcBit (crcBit (crcBit (crcBit (crcBit (crcBit (crcBit (crcBit c)))))))

/-- The CRC-32 of R50 over bytes. -/
def crc32 (bs : List Byte) : Word := ~~~ (bs.foldl crcByte 0xFFFFFFFF)

/-- The bytes of a word, most significant first (R49). -/
def wordBytes (w : Word) : List Byte :=
  [(w >>> 24).setWidth 8, (w >>> 16).setWidth 8, (w >>> 8).setWidth 8, w.setWidth 8]

def wordsBytes (ws : List Word) : List Byte := ws.flatMap wordBytes

/-- The CRC-32 of R50 over words. -/
def crcWords (ws : List Word) : Word := crc32 (wordsBytes ws)

/-- A word from four bytes, most significant first. -/
def word4 (a b c d : Byte) : Word := a ++ b ++ c ++ d

/-- Bytes as words, a short last word filled with zero bytes. -/
def bytesWords : List Byte → List Word
  | [] => []
  | [a] => [word4 a 0 0 0]
  | [a, b] => [word4 a b 0 0]
  | [a, b, c] => [word4 a b c 0]
  | a :: b :: c :: d :: t => word4 a b c d :: bytesWords t

end Sys2Proof.Machine

namespace Sys2Proof
open Machine

/-- Header word 0 (R51). -/
def Frame.word0 (f : Frame) : Word :=
  f.fver ++ f.ftype ++ f.cls ++ BitVec.ofBool f.dual ++ BitVec.ofBool f.poison ++ f.hop ++ (0 : BitVec 2) ++ f.lenW

/-- Header word 5 (R51): OPCODE, TAG, FLAGS (RETRY, TIME_INVALID), STATUS. -/
def Frame.word5 (f : Frame) : Word :=
  f.opcode ++ f.tag ++ BitVec.ofBool f.retry ++ BitVec.ofBool f.timeInvalid ++ (0 : BitVec 5) ++ f.status

/-- The eight header words (R51). -/
def Frame.header (f : Frame) : List Word :=
  [f.word0, f.dstNode ++ f.dstPort, f.srcNode ++ f.srcPort, f.seq ++ f.session, f.time, f.word5, f.w6, f.w7]

/-- The IV under which a frame is sealed (R454), as three words: SRC_NODE, SRC_PORT, SEQ, TIME, CLASS, DUAL and FTYPE. -/
def Frame.iv (f : Frame) : List Word :=
  let b : BitVec 96 := f.srcNode ++ f.srcPort ++ f.seq ++ f.time ++ (0 : BitVec 5) ++ f.cls ++
    (0 : BitVec 3) ++ BitVec.ofBool f.dual ++ f.ftype
  [(b >>> 64).setWidth 32, (b >>> 32).setWidth 32, b.setWidth 32]

/-- The additional data under which a frame is sealed (R54, R454): its header, HOP_LIMIT and POISON taken as zero. -/
def Frame.aad (f : Frame) : List Word := { f with hop := 0, poison := false }.header

/-- The frame check (R50): over header, payload and GCM tag. -/
def Frame.fcs (f : Frame) : Word := crcWords (f.header ++ f.payload ++ f.gcm)

/-- The length in bytes (R48). -/
def Frame.size (f : Frame) : Nat := 40 + 4 * f.lenW.toNat + (if f.session = 0 then 0 else 16)

/-- The frame with this payload and its LEN_W. -/
def Frame.withPayload (f : Frame) (ws : List Word) : Frame := { f with payload := ws, lenW := BitVec.ofNat 9 ws.length }

/-- Does the frame break a rule of R52? -/
def Frame.malformed (f : Frame) : Bool :=
  f.fver != 2 || f.ftype == 0 || decide (f.ftype.toNat ≥ 9) || decide (f.lenW.toNat > 256) ||
  decide (f.payload.length ≠ f.lenW.toNat) || decide (f.gcm.length ≠ (if f.session = 0 then 0 else 4))

/-- The global address that header words 6 and 7 hold (R27): node, view, offset. -/
def Frame.addrNode (f : Frame) : BitVec 24 := (f.w6 >>> 8).setWidth 24
def Frame.addrView (f : Frame) : Bool := f.w6.getLsbD 7
def Frame.addrOff (f : Frame) : Nat := 2 ^ 32 * (f.w6.toNat % 128) + f.w7.toNat

/-- The frame that a list of header and payload words spells (R51): with SESSION ≠ 0 the last four words are the GCM tag. -/
def Frame.ofWords (ws : List Word) : Frame :=
  let h := fun i => ws.getD i 0
  let session : BitVec 16 := (h 3).setWidth 16
  let body := ws.drop 8
  let n := if session = 0 then body.length else body.length - 4
  { fver := (h 0 >>> 28).setWidth 4, ftype := (h 0 >>> 24).setWidth 4, cls := (h 0 >>> 21).setWidth 3,
    dual := (h 0).getLsbD 20, poison := (h 0).getLsbD 19, hop := (h 0 >>> 11).setWidth 8, lenW := (h 0).setWidth 9,
    dstNode := (h 1 >>> 8).setWidth 24, dstPort := (h 1).setWidth 8, srcNode := (h 2 >>> 8).setWidth 24,
    srcPort := (h 2).setWidth 8, seq := (h 3 >>> 16).setWidth 16, session := session, time := h 4,
    opcode := (h 5 >>> 24).setWidth 8, tag := (h 5 >>> 15).setWidth 9, retry := (h 5).getLsbD 14,
    timeInvalid := (h 5).getLsbD 13, status := (h 5).setWidth 8, w6 := h 6, w7 := h 7, payload := body.take n,
    gcm := body.drop n }

end Sys2Proof

namespace Sys2Proof.Machine

/-- Frame types of R51. -/
def ftCommand : BitVec 4 := 1
def ftReply : BitVec 4 := 2
def ftPortData : BitVec 4 := 3
def ftEvent : BitVec 4 := 4
def ftTime : BitVec 4 := 5
def ftLinkCtrl : BitVec 4 := 6
def ftSnapshot : BitVec 4 := 7
def ftUpdate : BitVec 4 := 8

/-- Status codes of R61. -/
abbrev Status := BitVec 8
def stOk : Status := 0x00
def stBusy : Status := 0x01
def stBadOpcode : Status := 0x02
def stBadParam : Status := 0x03
def stDenied : Status := 0x04
def stAuthFail : Status := 0x05
def stTimeout : Status := 0x06
def stIslandDown : Status := 0x07
def stNotInMode : Status := 0x08
def stPoisoned : Status := 0x09
def stStepLocked : Status := 0x0A
def stTooLate : Status := 0x0B
def stUncorrectable : Status := 0x0C
def stNoCredit : Status := 0x0D
def stIncompatible : Status := 0x0E
def stTableBusy : Status := 0x0F

/-! ### Node identity, profile, mode -/

/-- CTL_STATE.MODE code of a mode (R403). SLEEP has none; LEAVING sent at entry into SLEEP carries 0 (DESIGN CHOICE, log entry 50). -/
def Mode.code : Mode → Nat
  | .boot => 0 | .recovery => 1 | .commission => 2 | .run => 3 | .safe => 4 | .sleep => 0

def Mode.ofCode : Nat → Mode
  | 1 => .recovery | 2 => .commission | 3 => .run | 4 => .safe | _ => .boot

def State.ownNode (s : State) : BitVec 24 := BitVec.ofNat 24 (s.get F.CTL_NODE_NODE_ADDR)
def State.paired (s : State) : Bool := s.is F.CTL_PAIRADDR_PAIR_VALID
def State.pairNode (s : State) : BitVec 24 := BitVec.ofNat 24 (s.get F.CTL_PAIRADDR_PAIR_ADDR)

/-- Pair states of R331. -/
def psStandalone : Nat := 0
def psPairing : Nat := 1
def psActive : Nat := 2
def psActiveAlone : Nat := 3
def psShadowSync : Nat := 4
def psShadow : Nat := 5
def psClaiming : Nat := 6
def psOutOfStep : Nat := 7

/-- Does this hub serve the pair address (R331)? -/
def State.servesPair (s : State) : Bool :=
  s.paired && (s.get F.PAR_STAT_STATE == psActive || s.get F.PAR_STAT_STATE == psActiveAlone) && s.pair.handover.isNone

/-- Does the shadow follow with its channels (R335): a paired hub in the role of shadow that does not drive ILK? -/
def State.tracking (s : State) : Bool :=
  s.paired && decide (s.get F.PAR_STAT_STATE ≥ psShadowSync) && !s.is F.PAR_STAT_ILK_DRIVE

/-- A broadcast address that includes this hub (R13). -/
def State.broadcastHere (s : State) (n : BitVec 24) : Bool :=
  n == 0xFFFFFF || (n.setWidth 16 == (0xFFFF : BitVec 16) && (n >>> 16) == (s.ownNode >>> 16))

def isBroadcast (n : BitVec 24) : Bool := n.setWidth 16 == (0xFFFF : BitVec 16)

/-- The active profile, or the defaults of R415 when none is active. -/
def State.profile (s : State) : Profile :=
  if s.boot.noProfile then {} else tget {} s.profiles (s.get F.CTL_STATE_ACTIVE_PROF)

/-- The default DUAL of class `c` (R55, R414 DUAL_MASK). -/
def State.dualOf (s : State) (c : Nat) : Bool := s.profile.dualMask.getLsbD c

/-- Is this the hub of a pair that does not serve it, and builds its field frames under the pair address only to hold them (R336)? -/
def State.holdsBack (s : State) : Bool :=
  s.paired && !s.servesPair &&
  (s.get F.PAR_STAT_STATE == psShadow || s.get F.PAR_STAT_STATE == psShadowSync || s.get F.PAR_STAT_STATE == psClaiming ||
    s.pair.handover.isSome)

/-- The node under which field data leaves: the pair's on a hub that serves the pair (R21) or holds back for it (R336). -/
def State.sourceNode (s : State) : BitVec 24 := if s.servesPair || s.holdsBack then s.pairNode else s.ownNode

/-- A unit at the end of those that wait for their lookup. -/
def State.enqueue (s : State) (x : UnitIn) : State := { s with ingress := s.ingress ++ [x] }

/-- A frame built in this hub handed to the switch core for lookup; the active profile's DUAL_MASK may take its DUAL away (R55, R414;
DEDUCED that it does so for a REPLY too, log entry 50). -/
def State.emit (s : State) (f : Frame) (inPort : Nat := 122) (slot : Option Nat := none) : State :=
  s.enqueue { frame := { f with dual := f.dual && s.dualOf f.cls.toNat }, inPort := inPort, own := true, slot := slot }

/-- A PORT_DATA or EVENT frame of a field port: under the pair address a hub that does not serve the pair holds it, without
SEQ, for HOLD_MS (R336). -/
def State.emitOut (s : State) (f : Frame) (inPort : Nat) : State :=
  if s.paired && f.srcNode == s.pairNode && !s.servesPair then
    if s.holdsBack then
      { s with pair := { s.pair with
          heldFrames := s.pair.heldFrames ++ [(s.now + 1000000 * s.get F.PAR_CFG_HOLD_MS, f)] } }
    else s
  else s.emit f inPort

/-- Is the ring time not valid (R171)? -/
def State.timeInvalid (s : State) : Bool := !s.is F.TIM_STAT_VALID

/-- An EVENT frame (R59, R60, R485); SEQ and the seal are set at lookup. -/
def State.event (s : State) (src : BitVec 24) (srcPort : Nat) (dst : BitVec 24) (dstPort : Nat) (cls : Nat) (dual : Bool)
    (payload : List Word) : Frame :=
  ({ ftype := ftEvent, cls := BitVec.ofNat 3 cls, dual := dual, dstNode := dst, dstPort := BitVec.ofNat 8 dstPort,
     srcNode := src, srcPort := BitVec.ofNat 8 srcPort, time := BitVec.ofNat 32 s.ringNs,
     timeInvalid := s.timeInvalid } : Frame).withPayload payload

/-! ### The event log (R357-R362) -/

/-- The sixteen words of a record (R358). -/
def LogRec.words (r : LogRec) : List Word :=
  let w3 := ((((0 : Word).setBits 31 31 (bit r.audit)).setBits 30 28 r.cls).setBits 27 24 r.origin).setBits 23 16 r.source
  let ws := [BitVec.ofNat 32 r.seqno, r.time, r.epoch, w3.setBits 15 0 r.code, r.node ++ r.port,
    r.session ++ r.opcode ++ r.status] ++ (r.data ++ List.replicate (8 - r.data.length) 0).take 8
    ++ [((0 : Word).setBits 30 28 r.mode).setBits 23 0 r.boots]
  ws ++ [crcWords ws]

/-- Records of the RAM log that await mirroring (MGT_LOG_STAT.BACKLOG). -/
def State.logBacklog (s : State) : Nat := (s.mgt.ramLog.filter (fun e => !e.2)).length

/-- The record that is mirrored next: the oldest audit record, else the oldest operational one (R360). -/
def nextToMirror (l : List (LogRec × Bool)) : Option LogRec :=
  match l.find? (fun e => !e.2 && e.1.audit) with
  | some e => some e.1
  | none => (l.find? (fun e => !e.2)).map (·.1)

/-- Mark the record of running number `n` as mirrored or skipped. -/
def markDone (n : Nat) (l : List (LogRec × Bool)) : List (LogRec × Bool) :=
  l.map (fun e => if e.1.seqno = n then (e.1, true) else e)

/-- Erases in the last 24 h (R360). -/
def State.recentErases (s : State) : List Nat := s.mgt.erases.filter (fun t => s.now < t + 86400000000000)

/-- May a record be skipped (R360)? Operational records of class INFO or none: always with LOG_INFO_FLASH = 0, else when
the sector erase that the write needs would exceed one per 200 s averaged over 24 h. -/
def State.skipRecord (s : State) (r : LogRec) : Bool :=
  !r.audit && decide (r.cls ≤ 1) &&
  (!s.is F.MGT_CFG_LOG_INFO_FLASH || (decide (s.mgt.flashLog.length ≥ 4096) && decide (s.recentErases.length ≥ 432)))

/-- Copy one record to the flash log, or skip it (R360). -/
def State.mirrorOne (s : State) : State :=
  match nextToMirror s.mgt.ramLog with
  | none => s
  | some r =>
    let m := { s.mgt with ramLog := markDone r.seqno s.mgt.ramLog }
    if s.skipRecord r then
      ({ s with mgt := { m with gapRun := m.gapRun + 1 } }).bump .mgtCnt 6
    else
      let m := if m.flashLog.length ≥ 4096
        then { m with flashLog := m.flashLog.drop 64, erases := s.now :: s.recentErases } else m
      { s with mgt := { m with flashLog := m.flashLog ++ [r] } }

/-- Take away the oldest record that has been mirrored or skipped. -/
def dropDone : List (LogRec × Bool) → List (LogRec × Bool)
  | [] => []
  | e :: t => if e.2 then t else e :: dropDone t

/-- The command an audit record names (R358 words 4 and 5): initiator, session, opcode, status. -/
structure Who where
  node : BitVec 24 := 0
  port : BitVec 8 := 0
  session : BitVec 16 := 0
  opcode : BitVec 8 := 0
  status : BitVec 8 := 0
  deriving DecidableEq, Repr

/-- The number of the next record: above every record that either log still holds. -/
def State.nextSeqno (s : State) : Nat :=
  (s.mgt.flashLog.map (fun (r : LogRec) => r.seqno + 1) ++
    s.mgt.ramLog.map (fun (e : LogRec × Bool) => e.1.seqno + 1)).foldl max 0

/-- Write a record (R357, R358) when the management island runs and its cores do not stand halted (R349). With 256 records held, the oldest mirrored or skipped
one makes room; when all await mirroring, the oldest is mirrored or skipped first. -/
def State.log (s : State) (audit : Bool) (cls origin source code : Nat) (who : Who) (data : List Word) : State :=
  if s.isl.rst.getLsbD 8 || s.mgt.halted then s else
  let s := if s.mgt.ramLog.length ≥ 256 ∧ s.logBacklog = s.mgt.ramLog.length then s.mirrorOne else s
  let l := if s.mgt.ramLog.length ≥ 256 then dropDone s.mgt.ramLog else s.mgt.ramLog
  let n := (s.rd .mgtLogSeq).toNat
  let t := if s.timeInvalid then (0, 0) else (BitVec.ofNat 32 s.ringNs, s.rd .timEpoch)
  let r : LogRec :=
  { seqno := n, time := t.1, epoch := t.2, audit := audit, cls := cls, origin := origin, source := source,
    code := code, node := who.node, port := who.port, session := who.session, opcode := who.opcode, status := who.status,
    data := data, mode := s.mode.code, boots := s.mgt.flashBoots }
  let s := { s with mgt := { s.mgt with ramLog := l ++ [(r, false)] } }
  s.wr .mgtLogSeq 0 0 (s.rd .mgtLogSeq + 1)

/-- Event codes of R359. -/
def evBoot : Nat := 0x0001
def evBootStepFail : Nat := 0x0002
def evWdg : Nat := 0x0003
def evMode : Nat := 0x0004
def evFault : Nat := 0x0005
def evReaction : Nat := 0x0006
def evPairRole : Nat := 0x0007
def evSplitRefused : Nat := 0x0008
def evLogGap : Nat := 0x0009
def evSessionOpen : Nat := 0x0101
def evSessionClose : Nat := 0x0102
def evAuthFail : Nat := 0x0103
def evDenied : Nat := 0x0104
def evPrivWrite : Nat := 0x0105
def evProfile : Nat := 0x0106
def evUpdate : Nat := 0x0107
def evTime : Nat := 0x0108
def evResetChip : Nat := 0x0109
def evDebug : Nat := 0x010A
def evOpenOperate : Nat := 0x010B

end Sys2Proof.Machine
end

