-- ==== Sys2Proof/Machine/Operands.lean ====
section
/-!
DEFINITION. The forms of a command (spec/03_command_packets.md): the behaviour table of R74 (modes, retry behaviour, background)
and the parameters that R73 lays into header words 6 and 7.
-/
namespace Sys2Proof.Machine

/-- The retry column of R74: answered again, answered from the retry cache, or neither. -/
inductive Retry where
  | yes | cache | never
  deriving DecidableEq, Repr

/-- A row of R74: opcode, the modes BOOT, RECOVERY, COMMISSION, RUN, SAFE, retry behaviour, background. -/
structure OpRow where
  code : BitVec 8
  boot : Bool
  recovery : Bool
  commission : Bool
  run : Bool
  safe : Bool
  retry : Retry
  bg : Bool
  deriving DecidableEq, Repr

/-- The opcodes in the order of R74. In SAFE the three writes pass and are judged by R77. -/
def opTable : List OpRow :=
  [ ⟨0x01, true, true, true, true, true, .yes, false⟩,
    ⟨0x02, false, false, true, true, true, .cache, false⟩,
    ⟨0x03, false, false, true, true, false, .never, false⟩,
    ⟨0x04, false, false, true, true, true, .cache, false⟩,
    ⟨0x05, true, true, true, true, true, .yes, false⟩,
    ⟨0x06, false, false, true, true, true, .cache, false⟩,
    ⟨0x10, false, false, true, true, false, .cache, false⟩,
    ⟨0x11, false, false, true, true, false, .yes, false⟩,
    ⟨0x12, false, false, true, true, false, .yes, false⟩,
    ⟨0x18, false, false, true, true, false, .cache, false⟩,
    ⟨0x19, false, false, true, true, false, .cache, false⟩,
    ⟨0x1A, false, false, true, true, true, .cache, false⟩,
    ⟨0x20, true, true, true, true, true, .cache, false⟩,
    ⟨0x21, true, true, true, true, true, .yes, false⟩,
    ⟨0x28, false, false, true, true, false, .yes, false⟩,
    ⟨0x29, false, false, true, false, false, .cache, true⟩,
    ⟨0x30, false, false, true, true, true, .cache, true⟩,
    ⟨0x31, true, true, true, true, true, .yes, false⟩,
    ⟨0x38, false, false, true, true, true, .yes, false⟩ ]
  ++ [ ⟨0x39, false, false, true, true, true, .yes, false⟩,
    ⟨0x3A, false, false, false, false, true, .yes, false⟩,
    ⟨0x40, false, true, true, true, true, .cache, false⟩,
    ⟨0x41, false, true, true, true, true, .yes, false⟩,
    ⟨0x42, false, true, true, true, true, .yes, true⟩,
    ⟨0x43, false, true, true, true, true, .yes, false⟩,
    ⟨0x44, false, false, true, true, true, .yes, false⟩,
    ⟨0x45, false, true, true, true, true, .cache, true⟩,
    ⟨0x46, false, true, true, true, true, .yes, false⟩,
    ⟨0x50, false, false, true, true, false, .cache, false⟩,
    ⟨0x51, false, false, true, true, false, .yes, false⟩,
    ⟨0x52, false, false, true, true, false, .yes, false⟩,
    ⟨0x58, false, false, true, true, false, .yes, false⟩,
    ⟨0x60, false, false, true, true, false, .cache, false⟩,
    ⟨0x61, true, false, true, true, true, .yes, false⟩,
    ⟨0x70, true, true, true, true, true, .yes, false⟩,
    ⟨0x7E, true, true, true, true, true, .yes, false⟩,
    ⟨0x7F, true, true, true, true, true, .yes, false⟩ ]

/-- The row of an opcode. -/
def opRow (c : BitVec 8) : Option OpRow := opTable.find? (fun r => r.code == c)

/-- Is the opcode accepted in a mode (R74)? In SLEEP nothing is. -/
def OpRow.inMode (r : OpRow) : Mode → Bool
  | .boot => r.boot
  | .recovery => r.recovery
  | .commission => r.commission
  | .run => r.run
  | .safe => r.safe
  | .sleep => false

/-- Opcodes of R73 that rules name. -/
def ocRead : BitVec 8 := 0x01
def ocWrite : BitVec 8 := 0x02
def ocWritePosted : BitVec 8 := 0x03
def ocReadBlock : BitVec 8 := 0x05
def ocWriteBlock : BitVec 8 := 0x06
def ocPortSend : BitVec 8 := 0x10
def ocApplyAt : BitVec 8 := 0x18
def ocSampleAt : BitVec 8 := 0x19
def ocSnapshotAt : BitVec 8 := 0x1A
def ocSessionOpen : BitVec 8 := 0x20
def ocSafeEnter : BitVec 8 := 0x39
def ocUpdateRelay : BitVec 8 := 0x45
def ocEcho : BitVec 8 := 0x7E
def ocResetChip : BitVec 8 := 0x7F

end Sys2Proof.Machine

namespace Sys2Proof

/-- PORT of W6 (R73: PORT_SEND, PORT_CONFIG, PORT_FLUSH, APPLY_AT, SAMPLE_AT). -/
def Frame.portOp (f : Frame) : Nat := f.w6.bits 7 0

/-- PRIO and BYTES of PORT_SEND. -/
def Frame.prioOp (f : Frame) : Nat := f.w6.bits 9 8
def Frame.bytesOp (f : Frame) : Nat := f.w7.bits 10 0

/-- ACTION, NOTIFY and USER_ID of APPLY_AT and SAMPLE_AT (R183). -/
def Frame.actionOp (f : Frame) : Nat := f.w7.bits 7 0
def Frame.notifyOp (f : Frame) : Bool := f.w7.getLsbD 8
def Frame.userOp (f : Frame) : Nat := f.w7.bits 31 16

/-- INDEX, SRC and COUNT of LOG_READ. -/
def Frame.logSrcOp (f : Frame) : Bool := f.w6.getLsbD 31
def Frame.logIndexOp (f : Frame) : Nat := f.w6.bits 11 0
def Frame.logCountOp (f : Frame) : Nat := f.w7.bits 4 0

end Sys2Proof
end

