-- ==== Sys2Proof/Machine/Ranges.lean ====
section
/-!
DEFINITION. The values that the rows of the register tables refuse with BAD_PARAM, register by register (R7, R8). A check
looks only at the fields that the access may write, so the caller gives the word as it would stand after the write.
-/
namespace Sys2Proof.Machine

/-- A node address that R13 bars from a hub or a pair. -/
def barredNode (n : Nat) : Bool := n % 65536 == 0 || n % 65536 == 0xFFFF || n / 65536 == 0xFF

/-- Is a field of the word outside `lo` to `hi`? -/
def outside (w : Word) (h l lo hi : Nat) : Bool := decide (w.bits h l < lo) || decide (w.bits h l > hi)

/-- The period of a CAN bit in CAN clocks, PRESC × NQ, of a nominal and of a data timing word (R251). -/
def nomPeriod (w : Word) : Nat := w.bits 31 24 * w.bits 23 16
def dataPeriod (w : Word) : Nat := w.bits 28 24 * w.bits 22 16

/-- Are SPQ and SJW out of place for NQ (R251)? -/
def badSample (nq spq sjw : Nat) : Bool :=
  decide (spq < 2) || decide (spq + 1 > nq) || decide (sjw < 1) || decide (sjw + 1 > spq) || decide (sjw + spq > nq)

/-- R251 for CAN_BT_NOM: ranges, and a nominal rate of at most 1 Mb/s. -/
def badNominal (w : Word) : Bool :=
  outside w 31 24 1 255 || outside w 23 16 4 255 || badSample (w.bits 23 16) (w.bits 15 8) (w.bits 6 0) ||
  decide (nomPeriod w < 160)

/-- R251 for CAN_BT_FD and CAN_BT_XL: ranges, and a data rate whose period is at least `least` CAN clocks. -/
def badData (w : Word) (least : Nat) : Bool :=
  outside w 28 24 1 31 || outside w 22 16 4 127 || badSample (w.bits 22 16) (w.bits 14 8) (w.bits 5 0) ||
  decide (dataPeriod w < least)

/-- Do these two place a channel's limit outside 0.5-20 A (R313)? -/
def badLimit (sns shunt : Nat) : Bool := decide (shunt > 20 * sns) || decide (sns > 2 * shunt)

/-- The values that the rows of the field-bus, power and bridge chapters refuse (spec/10 to spec/13). -/
def State.badFieldValue (s : State) (r : Reg) (i : Nat) (w : Word) : Bool :=
  match r with
  | .canCtl => w.bits 2 0 > 3
  | .canBtNom => badNominal w || decide (nomPeriod w < dataPeriod (s.rd .canBtFd i)) ||
      decide (nomPeriod w < dataPeriod (s.rd .canBtXl i))
  | .canBtFd => badData w 20 || decide (dataPeriod w > nomPeriod (s.rd .canBtNom i))
  | .canBtXl => badData w 8 || decide (dataPeriod w > nomPeriod (s.rd .canBtNom i))
  | .canXpwm => outside w 21 16 1 63 || outside w 13 8 1 63
  | .canPack => outside w 8 0 6 256
  | .canRdCtl => outside w 15 8 10 255 || w.bits 7 0 == 0
  | .canRefCfg => outside w 19 0 100 1000000
  | .canWakeCfg => w.bits 29 28 == 3 || w.bits 5 0 == 0
  | .macCfg => w.bits 29 28 == 3 || (w.bits 29 28 == 2 && w.bits 27 27 == 0) || outside w 13 0 64 2000 ||
      (decide (i < 16) && (w.bits 29 28 != 0 || w.bits 27 27 != 0))
  | .macPack => outside w 8 0 3 256
  | .hbrCfg => outside w 24 16 0 256 || outside w 15 8 1 255
  | .hbrWinAttr => outside w 14 8 4 64 || w.bits 7 0 == 0
  | .hbrTxrCfg | .hbrRxrCfg => outside w 3 0 4 12
  | .pwrChCtl => w.bits 1 0 == 3
  | .pwrChCfg => w.bits 29 28 == 3 || w.bits 26 25 == 3 || outside w 15 0 10 10000
  | .pwrChLim => outside w 29 20 50 500 || outside w 19 0 10 100000 ||
      badLimit (w.bits 29 20) (s.get F.PWR_CH_SNS_RSHUNT i)
  | .pwrChRamp => outside w 25 16 1 1000 || outside w 15 0 1 1000
  | .pwrChTherm0 => outside w 31 16 1 10000 || w.bits 15 0 == 0
  | .pwrChTherm1 => w.bits 31 16 == 0 || outside w 8 0 25 175
  | .pwrChSns => outside w 31 16 100 10000 || badLimit (s.get F.PWR_CH_LIM_ILIM_SNS i) (w.bits 31 16)
  | .pwrCfg => outside w 30 20 90 360 || outside w 19 14 1 50 || outside w 9 0 10 1000
  | .pwrCmd => w.bits 31 16 &&& w.bits 15 0 != 0
  | _ => false

/-- The values that the rows of the switch, time and facet chapters refuse (spec/05 to spec/08). -/
def badCoreValue (r : Reg) (w : Word) : Bool :=
  match r with
  | .lnkCfg => decide (w.bits 30 29 > 1)
  | .prsCfg => outside w 21 16 1 50 || outside w 13 0 10 10000
  | .swcPoolCfg => decide (w.bits 16 0 > 65536)
  | .swcMcCfg => outside w 13 0 10 10000
  | .swcCapCfg => decide (w.bits 16 0 > 65536)
  | .swcQcfg0 => decide (10 ≤ w.bits 27 24) && decide (w.bits 27 24 ≤ 14)
  | .swcQcfg1 => outside w 18 0 5 262144
  | .lpCfg => w.bits 30 29 == 0 || decide (w.bits 22 16 > 122) || !([5, 6, 7, 8, 9, 123].contains (w.bits 14 8))
  | .timSchedCfg => outside w 9 0 5 1000
  | .engClk => w.bits 31 16 == 0 || w.bits 15 8 == 0 || decide (w.bits 7 0 ≥ w.bits 15 8)
  | .engPinmap0 => decide (w.bits 27 24 > 8) || decide (w.bits 11 8 > 8) || decide (w.bits 27 24 + w.bits 20 16 > 32) ||
      decide (w.bits 11 8 + w.bits 4 0 > 32)
  | .engQcfg => decide (w.bits 5 3 > 4) || outside w 14 6 1 256
  | .engCrcCfg => w.bits 1 0 == 3
  | .pinCfg => decide (w.bits 2 0 > 3)
  | .cluCfg => w.bits 1 0 == 3
  | .winCfg => outside w 12 0 10 4900
  | _ => false

/-- Does the row of the register refuse the word `w` with BAD_PARAM? -/
def State.badValue (s : State) (r : Reg) (i _j : Nat) (w : Word) : Bool :=
  match r with
  | .ctlNode => barredNode (w.bits 23 0)
  | .ctlPairaddr => w.bits 31 31 == 1 && (barredNode (w.bits 23 0) || w.bits 23 16 != s.ownNode.toNat / 65536)
  | .ctlCmdto => w.bits 19 0 < 10 || w.bits 19 0 > 1000000
  | .parCfg => w.bits 23 16 < 10 || w.bits 15 8 < 1 || w.bits 15 8 > 100
  | .mgtCfg => w.bits 15 0 < 1 || w.bits 15 0 > 60000
  | .mgtSensCfg => w.bits 31 24 < 60 || w.bits 31 24 > 140 || w.bits 23 16 < 60 || w.bits 23 16 > 140 ||
      w.bits 23 16 ≤ w.bits 31 24
  | .fltCfg => w.bits 27 24 == 0
  | .fltEvtCfg => w.bits 31 16 < 1 || w.bits 31 16 > 60000 || w.bits 10 8 < 1 || w.bits 10 8 > 5
  | .fltSrcCfg => match fltRow i with
    | none => false
    | some (c, x, home) =>
      let c' := w.bits 30 28
      let x' := w.bits 26 24
      c' == 0 || c' ≥ 6 || x' ≥ 5 || c' < c || (c' ≥ 4 && x' == 0) || (c' < 4 && x' != 0) || (x' == 1 && home == .chip) ||
      w.bits 9 0 > 1000 || (i == 1 && w != s.rd .fltSrcCfg 1) || (c == 5 && x' != x && x' != 3 && x' != 4 && i != 1)
  | .islRstCtl => w.bits 0 0 == 1
  | .islPwrCtl => w.bits 0 0 == 1 || w.bits 7 7 == 1 || w.bits 8 8 == 1 || w.bits 20 20 == 1
  | _ => badCoreValue r w || s.badFieldValue r i w

end Sys2Proof.Machine
end

