-- ==== Sys2Proof/Machine/Flags.lean ====
section
/-!
DEFINITION. Fault sources and the flags computed from them (spec/16_fault_collection.md, R368-R387): raising, the counts and
classes of FLT_STAT, fitness, the levels of FAULT_N and ALIVE, fault EVENTs and FAULT records. Reactions that are due
without grace are noted in `flt.due` and taken by `State.settle` (Machine/Reactions.lean).
-/
namespace Sys2Proof.Machine

/-- The configured class of a source. -/
def State.srcClass (s : State) (src : Nat) : Nat := s.get F.FLT_SRC_CFG_CLASS src

/-- Sources of configured class SEVERE or FATAL that satisfy `p` (FLT_STAT, R384, R385). -/
def State.countSevere (s : State) (p : Nat → Bool) : Nat :=
  (fltTable.filter (fun e => decide (s.srcClass e.1 ≥ 4) && s.is F.FLT_SRC_STAT_LATCHED e.1 && p e.1)).length

/-- Number of SEVERE and FATAL sources LATCHED with ACKED = 0. -/
def State.unacked (s : State) : Nat := s.countSevere (fun n => !s.is F.FLT_SRC_STAT_ACKED n)

/-- Number of SEVERE and FATAL sources LATCHED. -/
def State.latchedSF (s : State) : Nat := s.countSevere (fun _ => true)

/-- Highest configured class among LATCHED sources (FLT_STAT.HIGHEST). -/
def State.highest (s : State) : Nat :=
  fltTable.foldl (fun h e => if s.is F.FLT_SRC_STAT_LATCHED e.1 then max h (s.srcClass e.1) else h) 0

/-- Is the hub fit (R332)? -/
def State.fit (s : State) : Bool :=
  s.boot.powered && !s.boot.held && s.mode != .sleep && !s.is F.FLT_STAT_UNFIT

/-- Do the conditions of R385 for ALIVE hold? -/
def State.aliveOk (s : State) : Bool :=
  s.is F.FLT_CFG_ALIVE_EN && (s.mode == .commission || s.mode == .run) && s.unacked == 0 && s.flt.reacting.isNone && s.fit

/-- ALIVE after a change of its conditions (R385): low at once when one fails; when all hold again it resumes within 1 ms,
with a high half-period first. -/
def State.updateAlive (s : State) : State :=
  if s.aliveOk then
    if (s.deadline .alive).isSome then s else
      let (d, s) := s.freeIn 0 1000000
      s.arm .alive d
  else { s.disarm .alive with flt := { s.flt with alive := false } }

/-- Is COLLECTOR_CHECK in force (R383)? -/
def State.checkFail (s : State) : Bool := s.is F.FLT_SRC_STAT_LATCHED 1

/-- Is FAULT_N driven low (R383, R384)? -/
def State.faultNLow (s : State) : Bool :=
  s.checkFail || (s.is F.FLT_CFG_FAULTN_EN &&
    (s.flt.pulse == .low || s.is F.FLT_PIN_ASSERT || (s.is F.FLT_PIN_FOLLOW && decide (s.unacked > 0))))

/-- A native FAULT_N pulse (R384): held 10-12 µs; one further pulse may be queued, more merge into it. -/
def State.faultPulse (s : State) : State :=
  if !s.is F.FLT_CFG_FAULTN_EN then s else
  match s.flt.pulse with
  | .idle =>
    let (d, s) := s.freeIn 10000 12000
    { s with flt := { s.flt with pulse := .low } }.arm .pulse d
  | _ => if s.flt.pulseQueued then s.bump .fltCnt 3 else { s with flt := { s.flt with pulseQueued := true } }

/-- The island where a source's instance is at home, if it has one (R372). -/
def homeIsland (src inst : Nat) : Option Nat :=
  match fltRow src with
  | none => none
  | some (_, _, h) => match h with
    | .chip => none
    | .island i => some i
    | .instance_ => some inst
    | .lane => some (inst + 1)
    | .cluster => some (inst + 9)
    | .engine => some (inst / 8 + 9)

/-- An instance number that the source has (R372). -/
def instOk (src inst : Nat) : Bool :=
  if src == 0x14 || src == 0x15 then decide (inst < 10)
  else if src == 0x16 then decide (inst < 6)
  else if src == 0x20 || src == 0x21 || src == 0x22 then decide (inst < 21)
  else if src == 0x30 || src == 0x31 || src == 0x32 then decide (inst < 5)
  else if src == 0x60 then decide (inst < 8)
  else if src == 0x61 || src == 0x62 || src == 0x63 then decide (inst < 64)
  else if src == 0x70 || src == 0x71 || src == 0x72 then decide (inst < 32)
  else if src == 0x78 then decide (inst < 20)
  else if decide (0x80 ≤ src) && decide (src ≤ 0x88) then decide (inst < 16)
  else if src == 0x92 then decide (inst < 2)
  else inst == 0

/-- A fault EVENT (R386): KIND 1 RAISE, 2 REACTION, 3 CLEARED. No destination node, no event. -/
def State.faultEvent (s : State) (kind src reaction : Nat) : State :=
  if s.get F.FLT_EVT_DEST_NODE = 0 then s else
  let w0 := (((0 : Word).setBits 31 24 kind).setBits 23 16 src).setBits 10 8 (s.srcClass src)
  let pl := [w0.setBits 2 0 reaction, s.rd .fltSrcStat src, s.rd .fltSrcInst0 src, s.rd .fltSrcInst1 src,
    BitVec.ofNat 32 (tget 0 s.flt.sinceEvt src), BitVec.ofNat 32 s.ringNs]
  let f := s.event s.ownNode 0xFF (BitVec.ofNat 24 (s.get F.FLT_EVT_DEST_NODE)) (s.get F.FLT_EVT_DEST_PORT)
    (s.get F.FLT_EVT_CFG_CLASS) (s.is F.FLT_EVT_CFG_DUAL) pl
  let s := (s.emit f).bump .fltCnt 4
  { s with flt := { s.flt with sinceEvt := tset s.flt.sinceEvt src 0 } }

/-- The RAISE event of a source (R386): when its class is at or above MIN_CLASS, at most one per HOLDOFF_MS. -/
def State.raiseEvent (s : State) (src : Nat) : State :=
  if s.srcClass src < s.get F.FLT_EVT_CFG_MIN_CLASS then s else
  let hold := 1000000 * s.get F.FLT_EVT_CFG_HOLDOFF_MS
  let s := { s with flt := { s.flt with sinceEvt := tset s.flt.sinceEvt src (tget 0 s.flt.sinceEvt src + 1) } }
  if s.get F.FLT_EVT_DEST_NODE = 0 then s
  else if (tfind s.flt.lastEvt src).any (fun t => s.now < t + hold) then s.bump .fltCnt 5
  else
    let s := s.faultEvent 1 src 0
    { s with flt := { s.flt with lastEvt := tset s.flt.lastEvt src s.now } }

/-- The FAULT record of a raise or of a clearing (R387): a raise within 1 s of the last raise record of the source writes
none and is merged. `raised` is false for a clearing. Halted cores write none (R349). -/
def State.faultRecord (s : State) (src : Nat) (raised : Bool) : State :=
  if s.mgt.halted then s else
  let (t, m) := tget (0, 0) s.mgt.raiseRec src
  let had := (tfind s.mgt.raiseRec src).isSome
  if raised && had && decide (s.now < t + 1000000000) then
    { s with mgt := { s.mgt with raiseRec := tset s.mgt.raiseRec src (t, m + 1) } }
  else
    let s := s.log false (s.srcClass src) 1 src evFault {}
      [BitVec.ofNat 32 src, BitVec.ofNat 32 (s.srcClass src), if raised then 1 else 0, BitVec.ofNat 32 m]
    { s with mgt := { s.mgt with raiseRec := tset s.mgt.raiseRec src (if raised then s.now else t, 0) } }

/-- Is the instance's condition present now (R369)? -/
def State.isLive (s : State) (src inst : Nat) : Bool := (tget 0 s.flt.live src).getLsbD inst

/-- What a raise does (R369, R370, R373): latch, instance bit, counts, FAULT_N pulse, grace or the due reaction, event, record. -/
def State.raiseCore (s : State) (src inst : Nat) : State :=
  let r := if inst < 32 then Reg.fltSrcInst0 else Reg.fltSrcInst1
  let s := s.wr r src 0 (s.rd r src ||| (1#32 <<< (inst % 32)))
  let s := { s with flt := { s.flt with lastRaise := tset s.flt.lastRaise src (s.now, inst) } }
  let s := (((s.put F.FLT_SRC_STAT_LATCHED 1 src).put F.FLT_SRC_STAT_ACKED 0 src).sat F.FLT_SRC_STAT_RAISE_CNT src).bump .fltCnt 0
  let c := s.srcClass src
  let s := if c ≥ 4 then s.faultPulse else s
  let s :=
    if c = 5 then { s with flt := { s.flt with due := s.flt.due ++ [src] } }
    else if c = 4 then
      if s.is F.FLT_SRC_STAT_PENDING src then s
      else if s.get F.FLT_SRC_CFG_GRACE src = 0 then { s with flt := { s.flt with due := s.flt.due ++ [src] } }
      else (s.put F.FLT_SRC_STAT_PENDING 1 src).arm (.grace src) (100000 * s.get F.FLT_SRC_CFG_GRACE src)
    else s
  ((s.raiseEvent src).faultRecord src true).updateAlive

/-- May the source raise now: it exists, its home island is out of reset and resynchronised (R375), the hub is awake (R377); LOCKSTEP
only in lockstep (R353)? -/
def State.canRaise (s : State) (src inst : Nat) : Bool :=
  (fltRow src).isSome && instOk src inst && s.boot.powered && (s.mode != .sleep || src == 1) &&
  (src != 0x10 || s.is F.MGT_STAT_LOCKSTEP) &&
  match homeIsland src inst with | none => true | some i => s.islandUp i

/-- An event-type condition: LIVE for one AON clock (R369). -/
def State.raise (s : State) (src : Nat) (inst : Nat := 0) : State :=
  if s.canRaise src inst then s.raiseCore src inst else s

/-- A condition that comes: LIVE rises and the source raises unless the instance was live already (R369). -/
def State.setLive (s : State) (src : Nat) (inst : Nat := 0) : State :=
  if s.canRaise src inst && !s.isLive src inst then
    let s := { s with flt := { s.flt with live := tset s.flt.live src (tget 0 s.flt.live src ||| (1#64 <<< inst)) } }
    (s.put F.FLT_SRC_STAT_LIVE 1 src).raiseCore src inst
  else s

/-- A condition that goes. -/
def State.clearLive (s : State) (src : Nat) (inst : Nat := 0) : State :=
  let l := tget 0 s.flt.live src &&& ~~~(1#64 <<< inst)
  let s := { s with flt := { s.flt with live := tset s.flt.live src l } }
  if l = 0 then s.put F.FLT_SRC_STAT_LIVE 0 src else s

/-- A control event from island `i` into AON (R393, R394): carried unless 15 already pend behind the one in flight. -/
def State.crossToAon (s : State) (i : Nat) : State × Bool :=
  let n := tget 0 s.isl.cdc (21 * i)
  if n ≥ 16 then ((s.bump .cdcOverrunCnt i).raise 0x20 i, false)
  else ({ s with isl := { s.isl with cdc := tset s.isl.cdc (21 * i) (n + 1) } }, true)

end Sys2Proof.Machine
end

