-- ==== Sys2Proof/Machine/SwitchOps.lean ====
section
/-!
DEFINITION. The vat and its queues (spec/06_switch_core_and_vat.md, R141-R152, R155, R157-R163): memory, the division of the
cells, the admission test, linking and freeing, residue lists, loupe copies, and emptying a port.
-/
namespace Sys2Proof.Machine

/-! ### The vat's bytes (R161): an unlisted byte reads 0 (log entry 4) -/

/-- The byte at address `a`. -/
def mread (m : List Host.Cell) (a : Nat) : Byte := tget 0 m a

/-- The memory with byte `b` at `a`, in canonical form: rising addresses and no entry equal to 0. -/
def mwrite (m : List Host.Cell) (a : Nat) (b : Byte) : List Host.Cell := if b = 0 then terase m a else tset m a b

/-- Canonical form. -/
def Memory.wf (m : List Host.Cell) : Bool := twf m && m.all (fun c => c.2 != 0)

/-- Bytes written at rising addresses. -/
def mwrites (m : List Host.Cell) (a : Nat) : List Byte → List Host.Cell
  | [] => m
  | b :: bs => mwrites (mwrite m a b) (a + 1) bs

/-- The 32-bit word at byte address `a` (R49: most significant byte first). -/
def mreadWord (m : List Host.Cell) (a : Nat) : Word :=
  word4 (mread m a) (mread m (a + 1)) (mread m (a + 2)) (mread m (a + 3))

/-- Cells of the vat (R141). -/
def vatCells : Nat := 262144

/-- A unit's bytes laid into its cells, 256 to a cell. -/
def writeCells (m : List Host.Cell) : List Nat → List Byte → List Host.Cell
  | [], _ => m
  | c :: cs, bs => writeCells (mwrites m (256 * c) (bs.take 256)) cs (bs.drop 256)

/-! ### Ports and queues -/

/-- The island of an output port (spec/01, Blocks, islands and ports). -/
def portIsland (p : Nat) : Nat :=
  if p < 4 then p + 1 else if p = 4 then 5 else if p = 5 then 19 else if p < 26 then 18 else if p < 58 then 17
  else if p < 122 then (p - 58) / 8 + 9 else if p = 122 then 8 else 6

/-- Cells of a unit of `b` bytes (R141). -/
def cellsFor (b : Nat) : Nat := (b + 255) / 256

def State.unit? (s : State) (u : Nat) : Option VUnit := tfind s.sw.units u
def State.setUnit (s : State) (u : Nat) (v : VUnit) : State := { s with sw := { s.sw with units := tset s.sw.units u v } }
def State.queue (s : State) (q : Nat) : List Link := tget [] s.sw.queues q
def State.setQueue (s : State) (q : Nat) (l : List Link) : State := { s with sw := { s.sw with queues := tset s.sw.queues q l } }
def State.residue (s : State) (q : Nat) : List ResEntry := tget [] s.sw.residue q
def State.setResidue (s : State) (q : Nat) (l : List ResEntry) : State :=
  { s with sw := { s.sw with residue := tset s.sw.residue q l } }

def State.unitCells (s : State) (u : Nat) : Nat := match s.unit? u with | some v => v.cells.length | none => 0

/-- Q_q of R147: cells of the units linked to the queue, those held for it included; residue entries are not counted. -/
def State.qocc (s : State) (q : Nat) : Nat :=
  ((s.queue q).map (fun l => s.unitCells l.uid)).sum + ((s.sw.holds.filter (fun h => h.2 == q)).map (fun h => s.unitCells h.1)).sum

/-- Σ CURD_q (R146): 16 for each of the 1,024 queues, corrected by the queues that hold another value. -/
def State.curdSum (s : State) : Nat :=
  s.regs.foldl (fun n e => match locate e.1 with
    | some (.swcQcfg0, _, _) => n + e.2.bits 15 0 - 16
    | _ => n) (16 * 1024)

/-- S of R146 with the given CAP, Σ CURD and headroom. -/
def poolSize (cap ret curds head : Nat) : Nat := vatCells - (cap + ret + curds + head)

def State.sharedSize (s : State) : Nat :=
  poolSize (s.get F.SWC_CAP_CFG_CELLS) s.sw.retired.length s.curdSum (s.get F.SWC_POOL_CFG_HEADROOM)

/-- Would the write make S negative (R146)? -/
def State.badPool (s : State) (r : Reg) (i : Nat) (w : Word) : Bool :=
  let cap := if r = .swcCapCfg then w.bits 16 0 else s.get F.SWC_CAP_CFG_CELLS
  let head := if r = .swcPoolCfg then w.bits 16 0 else s.get F.SWC_POOL_CFG_HEADROOM
  let curds := if r = .swcQcfg0 then s.curdSum + w.bits 15 0 - s.get F.SWC_QCFG0_CURD i else s.curdSum
  (r == .swcCapCfg || r == .swcPoolCfg || r == .swcQcfg0) && decide (cap + s.sw.retired.length + curds + head > vatCells)

/-- Cells drawn from a tier. -/
def State.tierUsed (s : State) (t : Tier) : Nat :=
  (s.sw.units.map (fun e => if e.2.tier = t then e.2.cells.length else 0)).sum

/-- Cells in use by units. -/
def State.cellsUsed (s : State) : Nat := (s.sw.units.map (fun e => e.2.cells.length)).sum

/-- The tiers of R147 for `k` cells to queue `q`: the first that passes. -/
def State.tierFor (s : State) (q k : Nat) : Option Tier :=
  let occ := s.qocc q
  if occ + k > s.get F.SWC_QCFG1_MAX q then none else
  let curd := s.get F.SWC_QCFG0_CURD q
  if occ + k ≤ curd then some .curd else
  let sz := s.sharedSize
  let used := s.tierUsed .shared
  let a := s.get F.SWC_QCFG0_ALPHA q
  if a ≠ 15 ∧ used + k ≤ sz ∧ 64 * ((occ - curd) + k) ≤ 2 ^ a * (sz - used) then some .shared
  else if s.is F.SWC_QCFG0_PRIV q && decide (s.tierUsed .headroom + k ≤ s.get F.SWC_POOL_CFG_HEADROOM) then some .headroom
  else none

/-- Is cell `c` free to allocate: in no unit, not retired, not in the capture range (R145, R159)? -/
def State.cellFree (s : State) (c : Nat) : Bool :=
  decide (c < vatCells - s.get F.SWC_CAP_CFG_CELLS) && !s.sw.retired.contains c && s.sw.units.all (fun e => !e.2.cells.contains c)

/-- The `k` lowest-numbered free cells from `c` on (the order of allocation is the model's choice, log entry 9);
fewer where no more are free, as after a raised CURD (DESIGN CHOICE, log entry 50). -/
def State.pickCells (s : State) : Nat → Nat → Nat → List Nat
  | 0, _, _ => []
  | _ + 1, _, 0 => []
  | fuel + 1, c, k + 1 => if s.cellFree c then c :: State.pickCells s fuel (c + 1) k else State.pickCells s fuel (c + 1) (k + 1)

/-- Does anything still refer to the unit (R149)? -/
def State.referenced (s : State) (u : Nat) : Bool :=
  s.sw.queues.any (fun e => e.2.any (fun l => l.uid == u)) || s.sw.holds.any (fun h => h.1 == u) ||
  s.sw.residue.any (fun e => e.2.any (fun x => x.uid == u)) || s.sw.cutting.any (fun e => e.2 == u) ||
  s.sw.ctxs.any (fun e => e.2.held.any (fun h => h.2.1 == u))

/-- Is the unit still in reception on a lane? -/
def State.receiving (s : State) (u : Nat) : Bool := s.sw.rx.any (fun e => e.2.1 == some u)

/-- Retire a cell when it is freed (R145): at most 256; the 257th goes back to use and VAT_RETIRE_FULL raises. -/
def State.retireCell (s : State) (c : Nat) : State :=
  if !s.sw.badCells.contains c then s else
  let s := { s with sw := { s.sw with badCells := s.sw.badCells.filter (· != c) } }
  if s.sw.retired.length < 256 then
    ({ s with sw := { s.sw with retired := s.sw.retired ++ [c] } }).put F.SWC_VAT_STAT_RETIRED (s.sw.retired.length + 1)
  else s.raise 0x42

/-- Free the unit's cells when the last reference has gone; answers the cells freed. Of a unit that is still in reception only its
header is remembered until its tail comes. -/
def State.gc (s : State) (u : Nat) : State × Nat :=
  match s.unit? u with
  | none => (s, 0)
  | some v => if s.referenced u then (s, 0) else
    let units := if s.receiving u then tset s.sw.units u { v with cells := [] } else terase s.sw.units u
    let s := { s with sw := { s.sw with units := units } }
    (v.cells.foldl State.retireCell s, v.cells.length)

/-- SWC_QPEAK follows Q_q. -/
def State.notePeak (s : State) (q : Nat) : State :=
  if s.qocc q > s.get F.SWC_QPEAK_PEAK q then s.put F.SWC_QPEAK_PEAK (s.qocc q) q else s

/-- Link a unit to a queue (R147, QENQ, QPEAK). -/
def State.linkQ (s : State) (q : Nat) (l : Link) : State :=
  ((s.setQueue q (s.queue q ++ [l])).bump .swcQenq q).notePeak q

/-- Hold a unit for a queue: it counts in Q_q (R132, R147). -/
def State.holdFor (s : State) (u q : Nat) : State :=
  { s with sw := { s.sw with holds := s.sw.holds ++ [(u, q)] } }.notePeak q

/-- Does a loupe session's flow match select the frame (R157)? -/
def State.loupeFlow (s : State) (m : Nat) (f : Frame) : Bool :=
  let node := if s.is F.LP_FLOW_USE_SRC m then f.srcNode else f.dstNode
  ((f.ftype ^^^ BitVec.ofNat 4 (s.get F.LP_FLOW_FTYPE m)) &&& BitVec.ofNat 4 (s.get F.LP_FMASK_FTYPE m)) == 0 &&
  ((node ^^^ BitVec.ofNat 24 (s.get F.LP_FLOW_NODE m)) &&& BitVec.ofNat 24 (s.get F.LP_FMASK_NODE m)) == 0

/-- Does session `m` take a unit that enters at (or, `egress`, is linked to) port `p`? -/
def State.loupeTakes (s : State) (m p : Nat) (egress : Bool) (f : Frame) : Bool :=
  s.is F.LP_CFG_ENABLE m && (s.get F.LP_CFG_DIR m / (if egress then 2 else 1)) % 2 == 1 &&
  (s.is F.LP_CFG_ANY_PORT m || s.get F.LP_CFG_SRC_PORT m == p) && s.loupeFlow m f

/-- Does port `p` take no unit because its island is in reset or resynchronises (R163, R397)? -/
def State.portDead (s : State) (p : Nat) : Bool := s.isl.rst.getLsbD (portIsland p) || s.isl.resync.getLsbD (portIsland p)

/-- A loupe copy (R158): a further reference to the unit's cells in queue 8 * port + class. It joins a residue list that is not empty
(R152), and is dropped when it is not admitted, or when the port takes none (R163). -/
def State.loupeCopy (s : State) (m u : Nat) : State :=
  let q := 8 * s.get F.LP_CFG_DEST m + s.get F.LP_CFG_CLASS m
  if s.portDead (q / 8) then s.bump .islDropCnt (portIsland (q / 8))
  else if !(s.residue q).isEmpty && decide ((s.residue q).length < 16) then
    s.setResidue q (s.residue q ++ [{ uid := u, loupe := some m, until_ := s.now + 1000 * s.get F.SWC_MC_CFG_RESIDUE_US }])
  else match (if (s.residue q).isEmpty then s.tierFor q (s.unitCells u) else none) with
  | some _ => s.linkQ q { uid := u, loupe := some m }
  | none => (s.bump .swcCnt 7).bump .swcQdrop q

/-- Has loupe session `m` copied unit `u` already? A unit is copied once per session (R157). -/
def State.loupeDone (s : State) (m u : Nat) : Bool := (s.unit? u).any (fun v => v.louped.getLsbD m)

/-- Note that session `m` has met unit `u`. -/
def State.loupeMark (s : State) (m u : Nat) : State :=
  match s.unit? u with
  | some v => s.setUnit u { v with louped := v.louped ||| (1#4 <<< m) }
  | none => s

/-- All loupe copies of a unit at a point of its way. -/
def State.loupes (s : State) (u p : Nat) (egress : Bool) (f : Frame) : State :=
  [0, 1, 2, 3].foldl (fun s m =>
    if s.loupeTakes m p egress f && !s.loupeDone m u then (s.loupeMark m u).loupeCopy m u else s) s

/-- Link a unit to an output queue, with its egress loupe copies. A port whose island is in reset discards it (R163). -/
def State.linkUnit (s : State) (q u : Nat) (cut : Bool) : State :=
  if s.portDead (q / 8) then ((s.bump .islDropCnt (portIsland (q / 8))).gc u).1 else
  let s := s.linkQ q { uid := u, cut := cut }
  match s.unit? u with | some v => s.loupes u (q / 8) true v.frame | none => s

/-- Is queue `q` the queue of a local port, not of a link? -/
def isLocalQ (q : Nat) : Bool := decide (q ≥ 40)

/-- Distance of SEQ `q` above `n`, modulo 2^16. -/
def seqDist (q n : Nat) : Nat := (q + 65536 - n % 65536) % 65536

/-- Does the transit press hold unit `u` on a rind (R137)? -/
def State.transitHeld (s : State) (u : Nat) : Bool :=
  s.sw.ctxs.any (fun e => decide (e.1 ≥ 2 ^ 27) && e.2.held.any (fun h => h.2.1 == u))

/-- Has a unit that waits for queue `q` been released: by the press, or by the transit press? -/
def State.released (s : State) (q u : Nat) : Bool :=
  if isLocalQ q then (s.unit? u).any (·.ready) else !s.transitHeld u

/-- Is `x` of the same stream as `v`, with an earlier SEQ (R122, R134)? -/
def VUnit.before (x v : VUnit) : Bool :=
  x.frame.srcNode == v.frame.srcNode && x.frame.cls == v.frame.cls && x.frame.dual == v.frame.dual &&
  decide (0 < seqDist v.frame.seq.toNat x.frame.seq.toNat) && decide (seqDist v.frame.seq.toNat x.frame.seq.toNat < 32768)

/-- Must a released unit wait, so that its stream leaves for a local port in ascending SEQ order (R134): does an earlier one, released
too, stand in the residue list of the queue or wait for it? -/
def State.blocked (s : State) (q u : Nat) : Bool :=
  isLocalQ q && match s.unit? u with
  | none => false
  | some v => ((s.residue q).map (·.uid) ++ (s.sw.holds.filter (fun h => h.2 == q)).map (·.1)).any
      (fun w => (s.unit? w).any (fun x => x.ready && x.before v))

/-- The units that wait for a queue and may be linked are linked, one after the other (R130, R134, R137). -/
def State.unblock (s : State) (q : Nat) : Nat → State
  | 0 => s
  | fuel + 1 =>
    match s.sw.holds.find? (fun h => h.2 == q && s.released q h.1 && !s.blocked q h.1) with
    | none => s
    | some h =>
      let s := { s with sw := { s.sw with holds := s.sw.holds.erase h } }
      State.unblock (s.linkUnit q h.1 false) q fuel

/-- As many links as units wait. -/
def State.unblockAll (s : State) (q : Nat) : State := s.unblock q s.sw.holds.length

/-- The head residue entries of a queue are tested, in order, until one is neither due nor admitted (R152). One that is admitted
and that the press still holds waits on, and counts in Q_q from here. -/
def State.residueTest (s : State) (q : Nat) : Nat → State
  | 0 => s
  | fuel + 1 =>
    match s.residue q with
    | [] => s
    | e :: rest =>
      if s.now ≥ e.until_ then
        State.residueTest ((((s.setResidue q rest).bump .mcResidueDrop (q / 8)).gc e.uid).1.unblockAll q) q fuel
      else match s.tierFor q (s.unitCells e.uid) with
        | some _ =>
          let s := s.setResidue q rest
          let s := if e.wait then (s.holdFor e.uid q).unblockAll q
            else match e.loupe with
              | some m => s.linkQ q { uid := e.uid, loupe := some m }
              | none => s.linkUnit q e.uid e.cut
          State.residueTest s q fuel
        | none => s

/-- Remove a link (R149): free the unit if it was the last reference, and test the residue list. Answers the cells freed. -/
def State.unlink (s : State) (q u : Nat) (loupe : Option Nat) : State × Nat :=
  let l := s.queue q
  let l' := match l.findIdx? (fun x => x.uid == u && x.loupe == loupe) with
    | some i => l.eraseIdx i
    | none => l
  let (s, n) := (s.setQueue q l').gc u
  (s.residueTest q 17, n)

/-- Discard the units held for the queues of a port (R163); answers their number. -/
def State.dropHolds (s : State) (p : Nat) : State × Nat :=
  let gone := s.sw.holds.filter (fun h => h.2 / 8 == p)
  let s := { s with sw := { s.sw with holds := s.sw.holds.filter (fun h => h.2 / 8 != p) } }
  (gone.foldl (fun s h => (s.gc h.1).1) s, gone.length)

/-- Empty one queue and its residue list, with the units that wait behind that list; answers the cells whose last reference went. -/
def State.emptyQueue (s : State) (q : Nat) : State × Nat :=
  let free := s.sw.holds.filter (fun h => h.2 == q && (s.unit? h.1).any (·.ready))
  let us := (s.queue q).map (·.uid) ++ (s.residue q).map (·.uid) ++ free.map (·.1)
  let s := { (s.setQueue q []).setResidue q [] with
    sw := { ((s.setQueue q []).setResidue q []).sw with holds := s.sw.holds.filter (fun h => !free.contains h) } }
  us.foldl (fun (p : State × Nat) u => let (s, n) := p.1.gc u; (s, p.2 + n)) (s, 0)

/-- Number of units a port's queues and residue lists hold. -/
def State.portUnits (s : State) (p : Nat) : Nat :=
  ((List.range 8).map (fun c => (s.queue (8 * p + c)).length + (s.residue (8 * p + c)).length)).sum

/-- Empty the eight queues of a port (R162). -/
def State.emptyPort (s : State) (p : Nat) : State × Nat :=
  (List.range 8).foldl (fun (a : State × Nat) c => let (s, n) := a.1.emptyQueue (8 * p + c); (s, a.2 + n)) (s, 0)

/-- A frame that leaves by a port. -/
def State.transmit (s : State) (p : Nat) (f : Frame) (rind : Word) : State :=
  let s := { s with sent := s.sent ++ [{ port := p, frame := f, rind := rind }] }
  if p ≤ 4 then s.bump .lnkCnt p 1 else s

/-- Rinds of R112. -/
def rindGood : Word := 0x5A5A0000
def rindBadFcs : Word := 0x5A5A0001
def rindBadAuth : Word := 0x5A5A0002
def rindUncorrectable : Word := 0x5A5A0003
def rindTruncated : Word := 0x5A5A0004

/-- The frame of a unit as it leaves port `p`: HOP_LIMIT is one less for a frame forwarded from lane to lane (R53). -/
def VUnit.leaving (v : VUnit) (p : Nat) : Frame :=
  if !v.own && decide (v.inPort < 4) && decide (p < 4) then { v.frame with hop := v.frame.hop - 1 } else v.frame

/-- A frame received on a lane has a non-GOOD rind, or this hub turns it non-GOOD: it counts once in LNK_RIND_BAD of its input lane
(R112). -/
def State.ruined (s : State) (u : Nat) : State :=
  match s.unit? u with
  | none => s
  | some v => if v.own || v.counted || decide (v.inPort > 4) then s
    else (s.bump .lnkCnt v.inPort 2).setUnit u { v with counted := true }

/-- End the frame a port is sending cut-through, with a TRUNCATED rind (R102, R115, R162); answers the cells whose last reference
went. -/
def State.endCut (s : State) (p : Nat) : State × Nat :=
  match tfind s.sw.cutting p with
  | none => (s, 0)
  | some u =>
    let s1 := { s with sw := { s.sw with cutting := terase s.sw.cutting p } }
    match s.unit? u with
    | none => (s1, 0)
    | some v => ((s1.transmit p (v.leaving p) rindTruncated).ruined u).gc u

def State.truncate (s : State) (p : Nat) : State := (s.endCut p).1

/-- The vat words that hold a unit of `b` bytes in these cells (R141). -/
def unitWords : List Nat → Nat → List Nat
  | [], _ => []
  | c :: cs, b => (List.range (min 8 ((b + 31) / 32))).map (fun i => 8 * c + i) ++ unitWords cs (b - 256)

/-- The bytes of a frame in the vat, up to its tag, and the words that follow. -/
def frameBytes (f : Frame) (tail : List Word) : List Byte := wordsBytes (f.header ++ f.payload ++ f.gcm ++ tail)

/-- Allocate a new unit: `k` cells of a tier, stamped with the current generation (R148, R149, R153). -/
def State.newUnit (s : State) (f : Frame) (inPort : Nat) (own complete authOk : Bool) (tier : Tier) (k : Nat) : State × Nat :=
  let u := s.sw.nextUid
  let cs := s.pickCells vatCells 0 k
  let v : VUnit :=
    { frame := f, inPort := inPort, own := own, cells := cs, tier := tier, gen := s.get F.SWC_FWD_CTL_GEN,
      complete := complete, ready := complete, rind := rindGood, authOk := authOk, time := s.stampNs 6 }
  let bytes := frameBytes f (if complete then [f.fcs, rindGood] else [])
  let fresh := fun w => !(unitWords cs f.size).contains w
  ({ s with sw := { s.sw with
      nextUid := u + 1, units := tset s.sw.units u v, vat := writeCells s.sw.vat cs bytes,
      ueWords := s.sw.ueWords.filter fresh, ceWords := s.sw.ceWords.filter (fun e => fresh e.1) } }, u)

/-- The unit is written into its cells as it now stands, with the words that follow its payload and tag: frame check and rind
(R141, R161). -/
def State.layUnit (s : State) (u : Nat) (tail : List Word) : State :=
  match s.unit? u with
  | none => s
  | some v => { s with sw := { s.sw with vat := writeCells s.sw.vat v.cells (frameBytes v.frame tail) } }

/-- One destination of a unit: its queue, whether it may leave cut-through there, whether the link waits for the unit's tail
(and the press) and whether the unit crosses to another segment (transit press, R137). -/
structure Dest where
  port : Nat
  cut : Bool := false
  wait : Bool := false
  transit : Bool := false
  deriving DecidableEq, Repr

/-- Admission of a unit to all its destinations (R148, R149, R152). Answers the unit's number, or `none` when no destination
admitted it or put it on a residue list; a destination whose island is in reset discards it (R163). -/
def State.admitUnit (s : State) (f : Frame) (inPort : Nat) (own complete authOk : Bool) (ds : List Dest) :
    State × Option Nat :=
  let c := f.cls.toNat
  let k := cellsFor f.size
  let dead := ds.filter (fun d => s.portDead d.port)
  let ds := ds.filter (fun d => !s.portDead d.port)
  let s := dead.foldl (fun s d => s.bump .islDropCnt (portIsland d.port)) s
  let verdict := ds.map (fun d =>
    let q := 8 * d.port + c
    (d, q, if (s.residue q).isEmpty then s.tierFor q k else none))
  let ok := verdict.filter (fun v => v.2.2.isSome)
  let multi := ds.length > 1
  let toResidue := verdict.filter (fun v => v.2.2.isNone &&
    (!(s.residue v.2.1).isEmpty || (multi && !ok.isEmpty)) && (s.residue v.2.1).length < 16)
  let tier : Option Tier := match ok with
    | (_, _, some t) :: _ => some t
    | _ => match toResidue with
      | [] => none
      | rs =>
        if s.tierUsed .shared + k ≤ s.sharedSize then some .shared
        else if rs.any (fun r => s.is F.SWC_QCFG0_PRIV r.2.1) &&
            decide (s.tierUsed .headroom + k ≤ s.get F.SWC_POOL_CFG_HEADROOM) then some .headroom
        else none
  -- drawn from the headroom for residue entries only, the unit joins no list of a queue with PRIV = 0
  let toResidue := if ok.isEmpty ∧ tier = some .headroom then toResidue.filter (fun r => s.is F.SWC_QCFG0_PRIV r.2.1) else toResidue
  let drops := fun (s : State) (p : (Dest × Nat × Option Tier) → Bool) =>
    (verdict.filter p).foldl (fun s v => s.bump .swcQdrop v.2.1) s
  match tier with
  | none => (drops s (fun _ => true), none)
  | some t =>
    let s := drops s (fun v => v.2.2.isNone && !toResidue.contains v)
    let (s, u) := s.newUnit f inPort own complete authOk t k
    let until_ := s.now + 1000 * s.get F.SWC_MC_CFG_RESIDUE_US
    let s := toResidue.foldl (fun s v => s.setResidue v.2.1
      (s.residue v.2.1 ++ [{ uid := u, cut := v.1.cut, wait := v.1.wait, until_ := until_ }])) s
    let s := ok.foldl (fun s v =>
      if v.1.wait then s.holdFor u v.2.1
      else s.linkUnit v.2.1 u v.1.cut) s
    (s, some u)

/-- Would a unit be taken for a field port's queue now (PORT_SEND, R79): admitted, or, where the residue list is not empty, into that
list with cells of its own (R149, R152)? -/
def State.portAdmits (s : State) (q bytes : Nat) : Bool :=
  let k := cellsFor bytes
  if (s.residue q).isEmpty then (s.tierFor q k).isSome
  else decide ((s.residue q).length < 16) && (decide (s.tierUsed .shared + k ≤ s.sharedSize) ||
    (s.is F.SWC_QCFG0_PRIV q && decide (s.tierUsed .headroom + k ≤ s.get F.SWC_POOL_CFG_HEADROOM)))

end Sys2Proof.Machine
end

