-- ==== Sys2Proof/Machine/PressOps.lean ====
section
/-!
DEFINITION. The press (spec/05_ordering_and_the_press.md, R122-R137): contexts, the window, declarations of loss, the wait
timer, and the transit press of a gateway.
-/
namespace Sys2Proof.Machine

/-- Key of the press context of a stream (R122): source node and class; DUAL is always 1 here. -/
def pressKey (f : Frame) : Nat := f.srcNode.toNat * 8 + f.cls.toNat

/-- Key of the transit context of a stream (R137). -/
def transitKey (f : Frame) : Nat := 2 ^ 27 + pressKey f

def State.ctx? (s : State) (k : Nat) : Option PressCtx := tfind s.sw.ctxs k
def State.setCtx (s : State) (k : Nat) (c : PressCtx) : State := { s with sw := { s.sw with ctxs := tset s.sw.ctxs k c } }

/-- The runs of missing numbers among the first `n` places above NEXT, given the distances that are held, rising: (distance,
length). -/
def missingRuns (prev n : Nat) : List Nat → List (Nat × Nat)
  | [] => if prev < n then [(prev, n - prev)] else []
  | h :: hs =>
    if h ≥ n then (if prev < n then [(prev, n - prev)] else [])
    else if prev < h then (prev, h - prev) :: missingRuns (h + 1) n hs else missingRuns (h + 1) n hs

/-- A declaration of loss (R133): counts, one gap record a run, one raise of PRESS_GAP. The gap log keeps 16 records. -/
def State.declareLost (s : State) (k next cause : Nat) (runs : List (Nat × Nat)) : State :=
  if runs.isEmpty then s else
  let total := (runs.map (·.2)).sum
  let s := (s.bump .prsCnt 2 0 total).bump .prsCnt 3
  let s := runs.foldl (fun s r =>
    if s.sw.gaps.length < 16 then
      let g : GapRec :=
        { node := BitVec.ofNat 24 (k / 8), cls := BitVec.ofNat 3 k, first := (next + r.1) % 65536, count := r.2,
          time := s.stampNs 6, cause := cause }
      { s with sw := { s.sw with gaps := s.sw.gaps ++ [g] } }
    else s.sat F.PRS_GAPCTL_OVERFLOW_CNT) s
  s.raise 0x44

/-- Link the destinations of a unit that has been released and that `p` names (R130, R137, R150); one for which no destination is left
is freed (R149). -/
def State.linkWaiting (s : State) (u : Nat) (p : Nat → Bool) : State :=
  let qs := (s.sw.holds.filter (fun h => h.1 == u && p h.2)).map (·.2)
  ((qs.foldl State.unblockAll s).gc u).1

/-- Take away the destinations of a unit that wait, and its residue entries, in the queues that `p` names; what they held back is
linked or tested (R152). Loupe copies are no destinations. -/
def State.dropWaiting (s : State) (u : Nat) (p : Nat → Bool) : State :=
  let mine := fun (e : ResEntry) => e.uid == u && e.loupe.isNone
  let qs := (s.sw.holds.filter (fun h => h.1 == u && p h.2)).map (·.2) ++
    (s.sw.residue.filter (fun e => p e.1 && e.2.any mine)).map (·.1)
  let holds := s.sw.holds.filter (fun h => !(h.1 == u && p h.2))
  let residue := s.sw.residue.map (fun (e : Nat × List ResEntry) => (e.1, if p e.1 then e.2.filter (fun x => !mine x) else e.2))
  qs.foldl (fun s q => (s.unblockAll q).residueTest q 17)
    (State.gc { s with sw := { s.sw with holds := holds, residue := residue } } u).1

/-- Deliver the local copies of a unit: the press, where it applies, releases it. -/
def State.deliverLocal (s : State) (u : Nat) : State :=
  let s := match s.unit? u with | some v => s.setUnit u { v with ready := true } | none => s
  s.linkWaiting u isLocalQ

/-- Discard the local copies of a unit. -/
def State.discardLocal (s : State) (u : Nat) : State := s.dropWaiting u isLocalQ

/-- The history after NEXT moves up by `n` (R129): a number passed over is lost unless `held` says it was held. -/
def history (old : BitVec 64) (n : Nat) (held : List Nat) : BitVec 64 :=
  (List.range 64).foldl (fun b i =>
    let lost := if i < n then !held.contains (n - 1 - i) else old.getLsbD (i - n)
    if lost then b ||| (1#64 <<< i) else b) 0

/-- Move NEXT up by `n`: the frames held below it are delivered in SEQ order. -/
def State.pressAdvance (s : State) (k n : Nat) : State :=
  match s.ctx? k with
  | none => s
  | some c =>
    let out := c.held.filter (fun h => seqDist h.1 c.next < n)
    let c' := { c with
      next := (c.next + n) % 65536
      held := c.held.filter (fun h => !(seqDist h.1 c.next < n))
      lost := history c.lost n (out.map (fun h => seqDist h.1 c.next)) }
    out.foldl (fun s h => s.deliverLocal h.2.1) (s.setCtx k c')

/-- Deliver the held frames at NEXT while one is held there. -/
def State.pressDrain (s : State) (k : Nat) : Nat → State
  | 0 => s
  | fuel + 1 =>
    match s.ctx? k with
    | none => s
    | some c => match c.held with
      | h :: _ => if h.1 = c.next then State.pressDrain (s.pressAdvance k 1) k fuel else s
      | [] => s

/-- Start the wait timer of a context at the instant `t`, with WAIT_US as it stands now (PRS_CFG). -/
def State.startWait (s : State) (k t : Nat) : State :=
  match s.ctx? k with
  | none => s
  | some c =>
    let s := s.setCtx k { c with start := t }
    { s with timers := (.pressWait k, t + 1000 * s.get F.PRS_CFG_WAIT_US) :: s.timers.filter (fun e => e.1 != .pressWait k) }

/-- The wait timer after a change of the held frames (R131): it runs from the arrival of the earliest frame that is held, or from
its last expiry when that is later. A timer whose start has not changed runs on. -/
def State.pressTimer (s : State) (k : Nat) : State :=
  match s.ctx? k with
  | none => s.disarm (.pressWait k)
  | some c => match c.held with
    | [] => s.disarm (.pressWait k)
    | h :: hs =>
      let t := max c.start (hs.foldl (fun m x => min m x.2.2) h.2.2)
      if c.start = t ∧ (s.deadline (.pressWait k)).isSome then s else s.startWait k t

/-- A delivery restarts the idle time of the context (R129). A new IDLE_MS counts from the next delivery of each context (DESIGN
CHOICE, log entry 50). -/
def State.pressTouch (s : State) (k : Nat) : State := s.arm (.pressIdle k) (1000000 * s.get F.PRS_CFG_IDLE_MS)

/-- Empty a context that is freed while it holds frames (R129, cause FREED), and free it. A transit context forwards every
copy it holds (R137). -/
def State.freeCtx (s : State) (k : Nat) : State :=
  match s.ctx? k with
  | none => s
  | some c =>
    let s := if k ≥ 2 ^ 27 then
        c.held.foldl (fun s h => s.linkWaiting h.2.1 (fun q => !isLocalQ q)) { s with sw := { s.sw with ctxs := terase s.sw.ctxs k } }
      else match c.held.getLast? with
        | none => s
        | some h =>
          let n := seqDist h.1 c.next + 1
          (s.declareLost k c.next 2 (missingRuns 0 n (c.held.map (fun h => seqDist h.1 c.next)))).pressAdvance k n
    let s := { s with sw := { s.sw with ctxs := terase s.sw.ctxs k } }
    (s.disarm (.pressWait k)).disarm (.pressIdle k)

/-- Make room for a new context (R129): with 4,096 in use the least recently used one is freed. -/
def State.roomForCtx (s : State) : State :=
  if s.sw.ctxs.length < 4096 then s else
  match s.sw.ctxs with
  | [] => s
  | e :: es =>
    let lru := es.foldl (fun m x => if x.2.lastUse < m.2.lastUse then x else m) e
    (s.sat F.PRS_STAT_EVICT_CNT).freeCtx lru.1

/-- Insert a held frame by its distance above NEXT. -/
def insertHeld (next : Nat) (h : Nat × Nat × Nat) : List (Nat × Nat × Nat) → List (Nat × Nat × Nat)
  | [] => [h]
  | x :: xs => if seqDist h.1 next < seqDist x.1 next then h :: x :: xs else x :: insertHeld next h xs

/-- A frame of SEQ `q` within the window of an existing context: the rows d = 0 and d = 1-63 of R130. DESIGN CHOICE (log entry 43):
use, for the least recently used context of R129, is the opening of a context, a delivery on arrival and a hold; a duplicate is no
use, and neither is a delivery at the end of the wait. -/
def State.pressWindow (s : State) (k u q : Nat) : State :=
  match s.ctx? k with
  | none => s
  | some c =>
    let d := seqDist q c.next
    if d = 0 then
      let c' := { c with next := (c.next + 1) % 65536, lost := c.lost <<< 1, lastUse := s.now }
      ((((s.setCtx k c').deliverLocal u).pressDrain k 64).pressTimer k).pressTouch k
    else if c.held.any (fun h => h.1 == q) then (s.bump .prsCnt 0).discardLocal u
    else
      let c' := { c with held := insertHeld c.next (q, u, s.now) c.held, lastUse := s.now }
      let s := s.setCtx k c'
      if (s.deadline (.pressWait k)).isSome then s else s.startWait k s.now

/-- A good DUAL frame for local delivery reaches the press (R129, R130, R135). -/
def State.pressArrive (s : State) (u : Nat) (f : Frame) : State :=
  let k := pressKey f
  let q := f.seq.toNat
  match s.ctx? k with
  | none =>
    let s := s.roomForCtx
    ((s.setCtx k { next := (q + 1) % 65536, lastUse := s.now }).deliverLocal u).pressTouch k
  | some c =>
    let d := seqDist q c.next
    if d < 64 then s.pressWindow k u q
    else if d < 32768 then
      let n := d - 63
      let s := s.declareLost k c.next 1 (missingRuns 0 n (c.held.map (fun h => seqDist h.1 c.next)))
      let s := ((s.pressAdvance k n).pressDrain k 64).pressTouch k
      (s.pressWindow k u q).pressTimer k
    else
      let back := seqDist c.next q
      let s := if back ≤ 64 && c.lost.getLsbD (back - 1) then s.bump .prsCnt 1 else s
      (s.bump .prsCnt 0).discardLocal u

/-- The wait timer of a context expires (R131). -/
def State.pressWaitEnd (s : State) (k : Nat) : State :=
  match s.ctx? k with
  | none => s
  | some c => match c.held with
    | [] => s
    | h :: _ =>
      let n := seqDist h.1 c.next
      let s := s.declareLost k c.next 0 (missingRuns 0 n [])
      let s := ((s.pressAdvance k n).pressDrain k 64).pressTouch k
      match s.ctx? k with
      | some c => if c.held.isEmpty then s else s.startWait k s.now
      | none => s

/-- The idle time of a context ends (R129): it is freed unless it holds frames; one that does is due as soon as it holds none. -/
def State.ctxIdle (s : State) (k : Nat) : State :=
  if (s.ctx? k).any (fun c => !c.held.isEmpty) then s.arm (.pressIdle k) 0 else s.freeCtx k

/-- What the transit press says of an arriving copy (R137). -/
inductive Transit where
  | take | hold | discard
  deriving DecidableEq, Repr

/-- The transit press meets a copy with SEQ `q` (R137); answers its verdict and the context so far. DESIGN CHOICE (log entry 43): in
a context that has just been opened every place of the history below H is open, so that older copies are admitted. -/
def State.transitArrive (s : State) (f : Frame) : State × Transit :=
  let k := transitKey f
  let q := f.seq.toNat
  match s.ctx? k with
  | none =>
    let s := s.roomForCtx
    ((s.setCtx k { next := q, lost := 1, lastUse := s.now }).pressTouch k, .take)
  | some c =>
    let up := seqDist q c.next
    let back := seqDist c.next q
    if 0 < up ∧ up < 32768 then
      ((s.setCtx k { c with next := q, lost := (if up < 64 then c.lost <<< up else 0) ||| 1, lastUse := s.now }).pressTouch k, .take)
    else if back < 64 then
      if !c.lost.getLsbD back then
        ((s.setCtx k { c with lost := c.lost ||| (1#64 <<< back), lastUse := s.now }).pressTouch k, .take)
      else if c.recv.any (fun r => r.1 == q) then (s, .hold)
      else (s.bump .prsCnt 4, .discard)
    else (s.bump .prsCnt 4, .discard)

/-- The unit number of a copy that the transit press admitted or holds. -/
def State.transitNote (s : State) (f : Frame) (u : Nat) (v : Transit) : State :=
  let k := transitKey f
  match s.ctx? k with
  | none => s
  | some c => match v with
    | .take => s.setCtx k { c with recv := c.recv ++ [(f.seq.toNat, u)] }
    | .hold => s.setCtx k { c with held := c.held ++ [(f.seq.toNat, u, s.now)] }
    | .discard => s

/-- The rind of a copy that the transit press admitted is evaluated (R137): a bad one reopens the place and the copy that
waits is forwarded; a good one discards and counts the copies that wait. Of several that wait the first is forwarded and the others
are discarded, or wait on it (DESIGN CHOICE, log entry 50). -/
def State.transitEnd (s : State) (f : Frame) (u : Nat) (good : Bool) : State :=
  let k := transitKey f
  let q := f.seq.toNat
  match s.ctx? k with
  | none => s
  | some c =>
    if c.recv.any (fun r => r.2 == u) then
      let waiting := c.held.filter (fun h => h.1 == q)
      let c := { c with recv := c.recv.filter (fun r => r.2 != u), held := c.held.filter (fun h => h.1 != q) }
      if good then waiting.foldl (fun s h => (s.bump .prsCnt 4).dropWaiting h.2.1 (fun q => !isLocalQ q)) (s.setCtx k c)
      else match waiting with
        | [] => s.setCtx k { c with lost := c.lost &&& ~~~(1#64 <<< seqDist c.next q) }
        | h :: hs =>
          if (s.unit? h.2.1).any (·.complete) then
            hs.foldl (fun s h => (s.bump .prsCnt 4).dropWaiting h.2.1 (fun q => !isLocalQ q))
              ((s.setCtx k c).linkWaiting h.2.1 (fun q => !isLocalQ q))
          else (s.setCtx k { c with recv := c.recv ++ [(q, h.2.1)], held := c.held ++ hs }).linkWaiting h.2.1
            (fun q => !isLocalQ q)
    else if !good then s.setCtx k { c with held := c.held.filter (fun h => h.2.1 != u) }
    else s

end Sys2Proof.Machine
end

