-- ==== Sys2Proof/Machine/OrderOps.lean ====
section
/-!
DEFINITION. The order stream of a pair as its active sends it (spec/14_duplex_pair.md, R333, R334, R337) and the state
transfer (R346).
-/
namespace Sys2Proof.Machine

/-- A pair ordered set sent (R337). -/
def State.orderedSet (s : State) (d1 d2 d3 : BitVec 8) : State :=
  { s with pair := { s.pair with out := s.pair.out ++ [(d1, d2, d3)] } }

/-- An ordered set that carries an order number. -/
def State.orderSet (s : State) (d1 : BitVec 8) (on : Nat) : State :=
  s.orderedSet d1 (BitVec.ofNat 8 (on / 256)) (BitVec.ofNat 8 on)

/-- Is lane 4 in service? -/
def State.twinUp (s : State) : Bool := s.get F.LNK_STATE_STATE 4 == 6 || s.get F.LNK_STATE_STATE 4 == 7

/-- A pair event (R334). -/
def State.pairEvent (s : State) (kind : Nat) (ws : List Word) : Frame :=
  { s.event s.ownNode 4 (BitVec.ofNat 24 (s.get F.PAR_PARTNER_NODE)) 0xFF 7 false
      (((0 : Word).setBits 31 24 kind) :: ws) with hop := 0 }

/-- Does the active send orders now: it serves the pair, the twin link is up, and a shadow follows or a transfer runs? -/
def State.streaming (s : State) : Bool :=
  s.servesPair && s.twinUp && (s.get F.PAR_STAT_STATE == psActive || s.pair.syncing)

/-- Words of a record whose layout and cipher text the spec leaves to the image (R334, R456). -/
def State.privateWords (s : State) : List Word × State :=
  let (n, s) := s.freeIn 1 200
  s.freshWords n

/-- Start a state transfer (R346): the record in one SYNC event, in clear only its salt; earlier orders are dropped. -/
def State.startTransfer (s : State) : State :=
  let (salt, s) := s.freshWords 8
  let (ws, s) := s.privateWords
  let s := { s with pair := { s.pair with syncing := true, unacked := [], waiting := [], digests := [] } }
  let s := (s.disarm .ack).disarm .backlog
  (s.transmit 4 (s.pairEvent 6 (salt ++ ws)) rindGood).arm .transfer 50000000

/-- The twin link has gone down: orders not delivered are dropped and a transfer ends. -/
def State.twinDown (s : State) : State :=
  let s := { s with pair := { s.pair with unacked := [], waiting := [], syncing := false, digests := [] } }
  ((s.disarm .ack).disarm .backlog).disarm .transfer

/-- A transfer of the active has failed: it starts again, but for the third in a row (R346). -/
def State.transferAgain (s : State) : State :=
  let n := s.pair.failed + 1
  let s := { s.bump .parCnt 3 with pair := { s.pair with failed := n } }
  if n ≥ 3 then s.twinDown else s.startTransfer

/-- An order takes the next ON and leaves on the twin link (R333, R337). -/
def State.placeOrder (s : State) (f : Frame) : State :=
  let on := (s.get F.PAR_ORDER_ON + 1) % 65536
  let s := (s.orderSet 2 on).transmit 4 f rindGood
  let s := { s with pair := { s.pair with unacked := s.pair.unacked ++ [(on, f)] } }.put F.PAR_ORDER_ON on
  let s := if (s.deadline .ack).isSome then s else s.arm .ack 10000
  if s.pair.unacked.length ≥ 512 && (s.deadline .backlog).isNone then s.arm .backlog 100000 else s

/-- Send an order. With all 512 places in use it waits for one (DESIGN CHOICE, log entry 50), while the 100 µs of R337 run; during
a transfer that starts it again (R346). -/
def State.sendOrder (s : State) (f : Frame) : State :=
  if !s.streaming then s
  else if s.pair.unacked.length < 512 then s.placeOrder f
  else if s.pair.syncing then s.transferAgain
  else { s with pair := { s.pair with waiting := s.pair.waiting ++ [f] } }

/-- Orders that waited take the places that have come free. -/
def State.placeWaiting (s : State) : State :=
  let n := 512 - s.pair.unacked.length
  (s.pair.waiting.take n).foldl State.placeOrder { s with pair := { s.pair with waiting := s.pair.waiting.drop n } }

/-- An order that is a pair event. -/
def State.sendPairOrder (s : State) (kind : Nat) (ws : List Word) : State := s.sendOrder (s.pairEvent kind ws)

/-- The PROGRESS order of a unit that left a transmit slot. -/
def State.progressOrder (s : State) (port outcome : Nat) (seq : BitVec 16) : State :=
  s.sendPairOrder 3 [(((0 : Word).setBits 31 16 seq.toNat).setBits 11 8 outcome).setBits 7 0 port]

/-- The CHANNEL order: 1 fault turn-off, 2 retry start, 3 latched. -/
def State.channelOrder (s : State) (c what code : Nat) : State :=
  s.sendPairOrder 4 [(((0 : Word).setBits 15 8 code).setBits 7 4 what).setBits 3 0 c]

/-- The SESSION order of a session opened, closed or expired at the pair address; its record is sealed (R334, R456). -/
def State.sessionOrder (s : State) : State :=
  if !s.streaming then s else
  let (ws, s) := s.privateWords
  s.sendPairOrder 5 ws

/-- Send every unacknowledged order again, from number `first` on (R337). -/
def State.resendOrders (s : State) (first : Nat) : State :=
  let l := s.pair.unacked.filter (fun e => decide ((e.1 + 65536 - first) % 65536 < 32768))
  let s := l.foldl (fun s e => ((s.orderSet 2 e.1).transmit 4 e.2 rindGood).bump .parCnt 4) s
  if s.pair.unacked.isEmpty then s.disarm .ack else s.arm .ack 10000

/-- Frames originated under the pair address go into the stream with their SEQ (R333). -/
def State.orderOf (s : State) (f : Frame) : State :=
  if s.paired && f.srcNode == s.pairNode && (f.ftype == ftReply || f.ftype == ftPortData || f.ftype == ftEvent)
  then s.sendOrder f else s

end Sys2Proof.Machine
end

