-- ==== Sys2Proof/Machine/RouteOps.lean ====
section
/-!
DEFINITION. Lookup and passage through the switch core: which queues a frame goes to (R56, R107-R110, R119, R151, R153), the
reception of ring frames and of their tails (R52, R53, R108, R112, R113), the service of an output port (R150), the capture
memory (R159, R160), the scrubber (R143-R145), and the commit of the forwarding table (R155).
-/
namespace Sys2Proof.Machine

/-! ### Lanes and addresses -/

/-- Is lane `l` in service: UP_25 or UP_10 (R99)? -/
def State.laneUp (s : State) (l : Nat) : Bool := s.get F.LNK_STATE_STATE l == 6 || s.get F.LNK_STATE_STATE l == 7

def State.lane (s : State) (l : Nat) : LaneS := tget {} s.lanes l
def State.setLane (s : State) (l : Nat) (x : LaneS) : State := { s with lanes := tset s.lanes l x }

/-- The other port of a ring or spur pair of lanes (R107, R119). -/
def opposite (l : Nat) : Nat := if l % 2 = 0 then l + 1 else l - 1

/-- The segment of a node address (R12). -/
def segOf (n : BitVec 24) : BitVec 8 := (n >>> 16).setWidth 8

/-- Does the hub hold a node address (R14)? -/
def State.addressed (s : State) : Bool := s.ownNode.setWidth 16 != (0 : BitVec 16)

/-- Is the frame addressed to this hub as R107 and R53 mean it? -/
def State.ownAddress (s : State) (n : BitVec 24) : Bool := s.addressed && (n == s.ownNode || (s.servesPair && n == s.pairNode))

/-- The segment that a lane faces: the own segment on L0 and L1; on a spur port the subordinate segment of R119, if known. -/
def State.segmentAt (s : State) (l : Nat) : Option (BitVec 8) :=
  if l < 2 then some (segOf s.ownNode)
  else if s.is F.LNK_STATE_NBR_VALID l && s.get F.LNK_NBR0_NODE l != 0 then
    some (segOf (BitVec.ofNat 24 (s.get F.LNK_NBR0_NODE l)))
  else none

/-- A broadcast address of a segment that a spur port faces: there it includes this hub (R107, R119). -/
def State.spurBroadcast (s : State) (n : BitVec 24) : Bool :=
  isBroadcast n && (s.segmentAt 2 == some (segOf n) || s.segmentAt 3 == some (segOf n))

/-- Do both spur ports face the same subordinate ring (R119)? -/
def State.spursJoin (s : State) : Bool :=
  s.laneUp 2 && s.laneUp 3 && (s.segmentAt 2).isSome && s.segmentAt 2 == s.segmentAt 3

/-- Do lanes `a` and `b` face the same segment? -/
def State.sameSide (s : State) (a b : Nat) : Bool :=
  (decide (a < 2) && decide (b < 2)) || a == b || (decide (2 ≤ a) && decide (2 ≤ b) && s.spursJoin)

/-- The port number of the commissioning port (R25, R415), if there is one. -/
def State.commPort (s : State) : Option Nat := if s.profile.commPort < 4 then some (6 + s.profile.commPort) else none

/-- Frames that belong to a stream (R122). -/
def inStream (f : Frame) : Bool := f.ftype == ftCommand || f.ftype == ftReply || f.ftype == ftPortData || f.ftype == ftEvent

/-! ### Local ports (R56, R151) -/

/-- The local ports to which a frame addressed to this hub is delivered. No port: it is discarded. -/
def State.localPorts (s : State) (f : Frame) : List Nat :=
  let p := f.dstPort.toNat
  if p = 0xFF ∨ p = 122 then [122]
  else if 0x80 ≤ p ∧ p ≤ 0xBF then
    (List.range 118).filterMap (fun i =>
      let q := i + 5
      if (s.rd .swcGrp (4 * (p - 0x80) + q / 32)).getLsbD (q % 32) then some q else none)
  else if f.ftype == ftCommand then (if p = 5 ∨ s.commPort = some p then [p] else [])
  else if p < 5 ∨ p > 122 then []
  else if f.ftype == ftReply then (if p = 5 ∨ s.commPort = some p then [p] else [])
  else [p]

/-! ### Forwarding table (R153, R154) -/

/-- The active entry of a segment, unless it is not valid or an uncorrectable error makes it read so (R155). -/
def State.fwdEntry (s : State) (seg : BitVec 8) : Option Word :=
  let e := s.rd .swcFwdAct seg.toNat
  if e.getLsbD 31 && !s.sw.fwdBad.contains seg.toNat then some e else none

def entryDual (e : Word) : List Nat := [0, 1, 2, 3].filter (fun n => e.getLsbD (24 + n))
def entryPrimary (e : Word) : Nat := e.bits 21 20
def entryAlt (e : Word) : Option Nat := if e.getLsbD 19 then some (e.bits 17 16) else none

/-- The ports that an entry names for a unit (R153 step 4). -/
def entryPorts (dual : Bool) (e : Word) : List Nat :=
  if dual then entryDual e
  else entryPrimary e :: (match entryAlt e with | some a => if a = entryPrimary e then [] else [a] | none => [])

/-- PRIMARY, or ALTERNATE when PRIMARY is down. -/
def State.entrySingle (s : State) (e : Word) : Nat :=
  if s.laneUp (entryPrimary e) then entryPrimary e else (entryAlt e).getD (entryPrimary e)

/-- Ports whose links are down are left out (R109): of a DUAL = 1 unit one left of several is counted in LNK_DUAL_SINGLE; none left
is counted in LNK_DOWN_DROP of the lowest. -/
def State.upPorts (s : State) (dual : Bool) (ps : List Nat) : State × List Nat :=
  match ps with
  | [] => (s, [])
  | p :: _ =>
    let up := ps.filter s.laneUp
    if up.isEmpty then (s.bump .lnkCnt (ps.foldl min p) 7, [])
    else if dual ∧ up.length = 1 ∧ ps.length > 1 then (s.bump .lnkDualSingle, up)
    else (s, up)

/-- Ports of the own segment for a unit that originates in the hub (R153 step 3). -/
def State.ownSegmentPorts (s : State) (dual : Bool) : List Nat :=
  if dual then [0, 1]
  else match s.fwdEntry (segOf s.ownNode) with
    | some e => [s.entrySingle e]
    | none => [if s.laneUp 0 then 0 else 1]

/-- Where both spur ports are named but do not face the same ring, the one that faces the destination (R119). -/
def State.facing (s : State) (seg : BitVec 8) (ps : List Nat) : List Nat :=
  if ps.contains 2 && ps.contains 3 && !s.spursJoin then
    let here := ps.filter (fun p => p ≥ 2 ∧ s.segmentAt p = some seg)
    if here.isEmpty then ps else ps.filter (fun p => p < 2 ∨ here.contains p)
  else ps

/-- Ports of another segment (R153 step 4), the receiving port left out. A gateway places a DUAL = 1 frame from a spur for its own
segment on both ring ports (R109). -/
def State.otherSegmentPorts (s : State) (dual : Bool) (seg : BitVec 8) (inLane : Option Nat) : List Nat :=
  if dual && seg == segOf s.ownNode && inLane.any (fun l => decide (l ≥ 2)) then [0, 1] else
  match s.fwdEntry seg with
  | none => []
  | some e =>
    let named := entryPorts dual e
    let ringPair := match inLane with
      | some l => !named.isEmpty && named.all (fun p => p / 2 == l / 2)
      | none => false
    match inLane, ringPair with
    | some l, true => [opposite l]
    | _, _ =>
      let ps := if dual then s.facing seg named else [s.entrySingle e]
      ps.filter (fun p => some p != inLane)

/-- Ports named by any valid entry, for a unit addressed to 0xFF_FFFF (R153); the entry of the own segment names PRIMARY and
ALTERNATE only (R154). -/
def State.allSegmentPorts (s : State) (dual : Bool) (inLane : Option Nat) : List Nat :=
  let named := [0, 1, 2, 3].filter (fun p =>
    (List.range 256).any (fun g => match s.fwdEntry (BitVec.ofNat 8 g) with
      | some e => (entryPorts (dual && BitVec.ofNat 8 g != segOf s.ownNode) e).contains p
      | none => false))
  let away := fun p => match inLane with
    | none => decide (p ≥ 2)
    | some l => p != l && !(if l < 2 then decide (p < 2) else decide (p ≥ 2) && (s.segmentAt l).isSome && s.segmentAt p == s.segmentAt l)
  named.filter away

/-! ### Lookup of units that originate in the hub (R153, R123) -/

/-- Destinations of a unit that originates in the hub, with the counts of what is left out. A unit for the address that it carries
as its source is for this hub: the reply to a write of CTL_NODE still carries the old address. -/
def State.ownDests (s : State) (f : Frame) : State × List Dest :=
  let n := f.dstNode
  let mine := n == s.ownNode || n == f.srcNode || (s.servesPair && n == s.pairNode)
  let bcast := s.broadcastHere n
  let ports := if mine || bcast then s.localPorts f else []
  let s1 := if (mine || bcast) && ports.isEmpty then s.bump .swcCnt 1 else s
  let out := if mine then ([] : List Nat)
    else if n == 0xFFFFFF then s.ownSegmentPorts f.dual
    else if segOf n == segOf s.ownNode then s.ownSegmentPorts f.dual
    else s.otherSegmentPorts f.dual (segOf n) none
  let (s2, up) := s1.upPorts f.dual out
  let (s3, more) := if n == 0xFFFFFF then s2.upPorts f.dual (s.allSegmentPorts f.dual none) else (s2, [])
  let s4 := if !mine && !bcast && out.isEmpty then s3.bump .swcCnt 0 else s3
  (s4, (up ++ more.filter (fun p => !up.contains p)).map (fun p => ({ port := p } : Dest)) ++ ports.map (fun p => ({ port := p } : Dest)))

/-- The counter of a stream this hub originates (R124). -/
def State.seqKey (s : State) (f : Frame) : Nat :=
  2 * f.cls.toNat + bit f.dual + (if s.paired && f.srcNode == s.pairNode then 16 else 0)

/-- Has a stream advanced by 65,536 SEQ values under the session's key (R455)? -/
def State.streamFull (s : State) (x : Session) : Bool :=
  x.streams.any (fun k => decide (tget 0 s.sw.seqs k ≥ tget 0 x.base k + 65536))

/-- Sessions whose key has reached its limit become spent, and close 1 s later (R42, R455). -/
def State.spendSessions (s : State) : State :=
  s.cmd.sessions.foldl (fun s x =>
    if s.streamFull x && !x.spent then
      let xs := s.cmd.sessions.map (fun y => if y.num = x.num then { y with spent := true } else y)
      { s with cmd := { s.cmd with sessions := xs } }.arm (.sessSpent x.num.toNat) 1000000000
    else s) s

/-- The key under which this hub seals a frame of SESSION `n` (R454): that of bridge key slot `slot` for the bridge (R294, R304), that
of the session, which may have closed since (R42), for Hihovos. -/
def State.sealKey (s : State) (slot : Option Nat) (n : BitVec 16) : List Word :=
  match slot with
  | some k => (List.range 8).map (fun j => s.rd .hbrKey k j)
  | none => (((s.cmd.sessions ++ s.cmd.gone).find? (fun x => x.num == n)).map (·.key)).getD []

/-- Seal a frame (R54, R454): the payload is encrypted word by word with the key stream, and the tag covers the header with HOP_LIMIT
and POISON taken as zero. The arithmetic of AES-256-GCM is left open (log entry 5). -/
def sealWith (f : Frame) (key : List Word) : Frame :=
  let c := (f.payload.zip (List.range f.payload.length)).map (fun e => e.1 ^^^ Config.gcmStream key f.iv e.2)
  { f with payload := c, gcm := (List.range 4).map (Config.gcmTag key f.iv f.aad c) }

/-- The next SEQ of the stream of a frame that leaves (R123, R124). -/
def State.takeSeq (s : State) (f : Frame) : Frame × State :=
  let k := s.seqKey f
  let n := tget 0 s.sw.seqs k
  ({ f with seq := BitVec.ofNat 16 n }, { s with sw := { s.sw with seqs := tset s.sw.seqs k (n + 1) } })

/-- The seal of a frame whose SESSION is not 0, and the stream noted under the session's key (R454, R455). -/
def State.sealFrame (s : State) (slot : Option Nat) (f : Frame) : Frame × State :=
  let k := s.seqKey f
  let xs := s.cmd.sessions.map (fun x =>
    if x.num = f.session ∧ !x.streams.contains k then { x with streams := x.streams ++ [k] } else x)
  (sealWith f (s.sealKey slot f.session), { s with cmd := { s.cmd with sessions := xs } })

/-- SEQ of an admitted unit (R123), the TIME of a REPLY of Hihovos (R57: the frame is written and sealed here once, log entry 44),
and its seal when SESSION ≠ 0 (R454). -/
def State.assignSeq (s : State) (u : Nat) (v : VUnit) (slot : Option Nat := none) : State :=
  if !inStream v.frame then s else
  let (f, s) := s.takeSeq v.frame
  let f := if v.inPort = 122 ∧ f.ftype = ftReply then { f with time := BitVec.ofNat 32 s.ringNs } else f
  let (f, s) := if f.session = 0 ∨ (v.inPort ≠ 122 ∧ !f.gcm.isEmpty) then (f, s) else s.sealFrame slot f
  ((s.setUnit u { v with frame := f }).layUnit u [f.fcs, rindGood]).spendSessions

/-- Port of MAC `m` (R268): T1S MACs are 0-15, RGMII MACs 16-19. -/
def macPort (m : Nat) : Nat := if m < 16 then 10 + m else m - 10

/-- The MAC of port `p`, 6-25. -/
def portMac (p : Nat) : Nat := if p < 10 then p + 10 else p - 10

/-- A MAC counter counts `n` (R285): a change of bit 31 sets its bit in MAC_CNT_HALF, and that bit's rise sends an EVENT
(R286). -/
def State.macCount (s : State) (m k : Nat) (n : Nat := 1) : State :=
  let old := s.rd .macCnt m k
  let s := s.bump .macCnt m k n
  if (s.rd .macCnt m k).getLsbD 31 == old.getLsbD 31 || (s.rd .macCntHalf m).getLsbD k then s else
  let s := s.wr .macCntHalf m 0 ((s.rd .macCntHalf m).setBits k k 1)
  if s.get F.MAC_EVT_DEST_NODE m = 0 then s else
  s.emit (s.event s.ownNode (macPort m) (BitVec.ofNat 24 (s.get F.MAC_EVT_DEST_NODE m)) (s.get F.MAC_EVT_DEST_PORT m)
    (s.get F.MAC_EVT_CFG_CLASS m) (s.is F.MAC_EVT_CFG_DUAL m)
    [BitVec.ofNat 32 (macPort m), s.rd .macCntHalf m, s.stampNs 18]) (macPort m)

/-- The next frame of a CAN or MAC port that waits at its input carries LOST_BEFORE in its first record (R257); answers whether there
is one. -/
def markLost (p : Nat) : List UnitIn → List UnitIn × Bool
  | [] => ([], false)
  | x :: xs =>
    if x.inPort = p ∧ x.frame.ftype = ftPortData then
      ({ x with frame := { x.frame with payload := x.frame.payload.modifyHead (fun w => w.setBits 22 22 1) } } :: xs, true)
    else let (ys, b) := markLost p xs; (x :: ys, b)

/-- A unit of a field port that failed admission is counted in the drop counter of its port (R209, R257, R283); the next frame of a
CAN or MAC port, whether it waits or is still to be closed, carries LOST_BEFORE in its first record. -/
def State.ownDropped (s : State) (p : Nat) : State :=
  if p < 6 then s
  else if p < 26 then
    let m := portMac p
    let s := s.macCount m 22
    let (q, told) := markLost p s.ingress
    { s with ingress := q, macs := tset s.macs m { tget {} s.macs m with gap := (tget {} s.macs m).gap || !told } }
  else if p < 58 then
    let n := p - 26
    let (q, told) := markLost p s.ingress
    { s.bump .canCnt n 2 with ingress := q, cans := tset s.cans n { tget {} s.cans n with gap := (tget {} s.cans n).gap || !told } }
  else if p < 122 then (s.bump .cluCnt ((p - 58) / 8) 2).put F.ENG_STATUS_RX_LOST 1 ((p - 58) / 8) ((p - 58) % 8)
  else s

/-- The outcome of a transmit-ring frame: refused at admission (BUSY), or its SEQ (R304). -/
def State.txResult (s : State) (x : UnitIn) (st : Status) (seq : BitVec 16) : State :=
  if x.txr then { s with hbr := { s.hbr with txDone := some (st, seq) } } else s

/-- The tracker notes the SEQ that a window command took (R310, word 6). -/
def State.noteSeq (s : State) (f : Frame) (inPort : Nat) : State :=
  if inPort ≠ 5 ∨ f.ftype ≠ ftCommand then s
  else if f.opcode = ocWritePosted then
    match tfind s.hbr.posted f.tag.toNat with
    | none => s
    | some c => { s with hbr := { s.hbr with posted := tset s.hbr.posted f.tag.toNat { c with frame := { c.frame with seq := f.seq } } } }
  else match tfind s.hbr.trk f.tag.toNat with
  | none => s
  | some e =>
    let c := { e.cmd with frame := { e.cmd.frame with seq := f.seq } }
    { s with hbr := { s.hbr with trk := tset s.hbr.trk f.tag.toNat { e with cmd := c } } }

/-- A read of entry `k` of the forwarding table (the active copy at 0-255, the shadow copy at 256-511) passes the code of R142: one or two
flipped bits are corrected and counted; with more the entry is lost, which in the active copy raises FWD_UE (R155). -/
def State.fwdRead (s : State) (k : Nat) : State :=
  let n := tget 0 s.sw.fwdErr k
  if n = 0 then s else
  let s := { s with sw := { s.sw with fwdErr := terase s.sw.fwdErr k } }
  if n ≤ 2 then s.bump .swcCnt 8
  else
    let bad := if s.sw.fwdBad.contains k then s.sw.fwdBad else s.sw.fwdBad ++ [k]
    let s := { s with sw := { s.sw with fwdBad := bad } }
    if k < 256 then s.raise 0x43 else s

/-- The entries that a lookup reads: that of the destination's segment when `one`; every entry for a unit addressed to 0xFF_FFFF
(R153). -/
def State.tableRead (s : State) (n : BitVec 24) (one : Bool) : State :=
  if n = 0xFFFFFF then ((s.sw.fwdErr.map (·.1)).filter (· < 256)).foldl State.fwdRead s
  else if one then s.fwdRead (segOf n).toNat else s

/-- Does a unit of this hub read the entry of its destination's segment (R153 steps 3 and 4)? -/
def State.ownReadsTable (s : State) (f : Frame) : Bool :=
  f.dstNode != s.ownNode && f.dstNode != f.srcNode && !(s.servesPair && f.dstNode == s.pairNode) && f.dstNode != 0xFFFFFF &&
  (segOf f.dstNode != segOf s.ownNode || !f.dual)

/-- A unit that enters the core and that no queue admits (it has no route, no port, or fails admission; the transit press discards
it) is still seen by the loupes at its input port (R128, R157, R158): the first session whose queue takes it draws its cells.
Answers the unit. -/
def State.loupeOnly (s : State) (f : Frame) (inPort : Nat) (own authOk : Bool) : State × Option Nat :=
  let takes := [0, 1, 2, 3].filter (fun m => s.loupeTakes m inPort false f)
  let q := fun m => 8 * s.get F.LP_CFG_DEST m + s.get F.LP_CFG_CLASS m
  let k := cellsFor f.size
  match takes.find? (fun m => !s.portDead (q m / 8) && (s.residue (q m)).isEmpty && (s.tierFor (q m) k).isSome) with
  | none => (takes.foldl (fun s m => if s.portDead (q m / 8) then s.bump .islDropCnt (portIsland (q m / 8))
      else (s.bump .swcCnt 7).bump .swcQdrop (q m)) s, none)
  | some m =>
    let (s, u) := s.newUnit f inPort own own authOk ((s.tierFor (q m) k).getD .shared) k
    (s.loupes u inPort false f, some u)

/-- UNIT_LOOKUP (R153): the unit at the head is looked up, admitted, stamped and written once to the vat; then it takes its SEQ
(R123). For the first 64 ms after power-on no DUAL = 1 frame leaves from the node address (R124): such a unit waits, and with it
every later unit, also of DUAL = 0 (DESIGN CHOICE, log entry 43). -/
def State.lookupNext (s : State) : State :=
  match s.ingress with
  | [] => s
  | x :: rest =>
    let f := { x.frame with hop := 255 }
    if !s.islandUp 6 then ({ s with ingress := rest }.bump .islDropCnt 6).txResult x stBusy 0
    else if f.dual && inStream f && f.srcNode == s.ownNode && decide (s.now < s.boot.porAt + 64000000) then s
    else
      let s := { s with ingress := rest }
      let s := s.tableRead f.dstNode (s.ownReadsTable f)
      let (s, ds) := s.ownDests f
      if ds.isEmpty then ((s.loupeOnly f x.inPort true x.authOk).1).txResult x stBusy 0 else
      let (s, r) := s.admitUnit f x.inPort true true x.authOk ds
      match r with
      | none =>
        let s := (s.loupeOnly f x.inPort true x.authOk).1
        (if x.frame.ftype = ftPortData then s.ownDropped x.inPort else s).txResult x stBusy 0
      | some u => match s.unit? u with
        | none => s
        | some v =>
          let s := s.assignSeq u v x.slot
          let f := match s.unit? u with | some v => v.frame | none => f
          (((s.noteSeq f x.inPort).txResult x stOk f.seq).orderOf f).loupes u x.inPort false f

/-! ### Reception on a lane -/

/-- May a frame received on lane `l` leave lane `p` cut-through (R110)? -/
def State.cutOk (s : State) (l p : Nat) (f : Frame) : Bool :=
  decide (p < 4) && (BitVec.ofNat 8 (s.get F.LNK_CFG_CT_CLASS p)).getLsbD f.cls.toNat &&
  (s.get F.LNK_STATE_STATE l == 6 || s.get F.LNK_STATE_STATE p == 7)

/-- Does a frame received on lane `l` stay on its ring: is its destination in the segment that the lane faces (R107, R119)? A hub
without a node address forwards ring traffic whatever its segment (R14). -/
def State.staysOnRing (s : State) (l : Nat) (n : BitVec 24) : Bool :=
  n != 0xFFFFFF && (s.segmentAt l == some (segOf n) || (decide (l < 2) && !s.addressed))

/-- Does a frame received on lane `l` read the entry of its destination's segment (R153 steps 1 and 4)? -/
def State.ringReadsTable (s : State) (l : Nat) (n : BitVec 24) : Bool :=
  !s.ownAddress n && n != 0xFFFFFF && !s.staysOnRing l n

/-- Destinations of a frame received on L0-L3 (R107, R119, R153), HOP_LIMIT allowing, and the verdict of the transit press. -/
def State.ringDests (s : State) (l : Nat) (f : Frame) : State × List Dest × Transit :=
  let n := f.dstNode
  let mine := s.ownAddress n
  let seg := s.segmentAt l
  let bcast := s.addressed && (s.broadcastHere n || (isBroadcast n && seg == some (segOf n)))
  let inSeg := s.staysOnRing l n
  let shadow := s.paired && !s.servesPair && n == s.pairNode
  let ports := if mine || bcast then s.localPorts f else []
  let s := if (mine || bcast) && ports.isEmpty then s.bump .swcCnt 1 else s
  let s := if shadow then s.bump .parCnt 7 else s
  let here : List Dest := ports.map (fun p => { port := p, wait := true })
  if f.hop = 0 then (s, here, .take) else
  let pass : List Nat := if mine then []
    else if n == 0xFFFFFF then (if seg.isSome then [opposite l] else [])
    else if inSeg then [opposite l] else []
  let other : List Nat := if mine || inSeg then []
    else if n == 0xFFFFFF then (s.allSegmentPorts f.dual (some l)).filter (fun p => !pass.contains p)
    else s.otherSegmentPorts f.dual (segOf n) (some l)
  let s := if !mine && !inSeg && n != 0xFFFFFF && other.isEmpty then s.bump .swcCnt 0 else s
  let dn := pass.filter (fun p => !s.laneUp p)
  let s := dn.foldl (fun s p => s.bump .lnkCnt p 7) s
  let (s, otherUp) := s.upPorts f.dual other
  let crossing := f.dual && (pass.filter s.laneUp ++ otherUp).any (fun p => !s.sameSide l p)
  let (s, verdict) := if crossing then s.transitArrive f else (s, .take)
  let mk : Nat → Dest := fun p => { port := p, cut := s.cutOk l p f, transit := crossing && !s.sameSide l p }
  let through := ((pass.filter s.laneUp) ++ otherUp).map mk
  let through := match verdict with
    | .take => through
    | .hold => through.map (fun d => if d.transit then { d with wait := true, cut := false } else d)
    | .discard => through.filter (fun d => !d.transit)
  (s, through ++ here, verdict)

/-- Put a frame in reception on lane `l`. -/
def State.setRx (s : State) (l : Nat) (u : Option Nat) (f : Frame) : State :=
  { s with sw := { s.sw with rx := tset s.sw.rx l (u, f) } }

/-- Sort destinations by port. -/
def insertDest (d : Dest) : List Dest → List Dest
  | [] => [d]
  | x :: xs => if d.port < x.port then d :: x :: xs else x :: insertDest d xs

def sortDests (ds : List Dest) : List Dest := ds.foldl (fun l d => insertDest d l) []

/-- The rind of a received frame after this hub's own check (R112). -/
def rindOf (f : Frame) (t : Tail) : Word :=
  if !t.lengthOk then rindTruncated
  else if t.rind ≠ rindGood then
    (if t.rind = rindBadFcs ∨ t.rind = rindBadAuth ∨ t.rind = rindUncorrectable ∨ t.rind = rindTruncated then t.rind
     else rindBadFcs)
  else if t.fcs ≠ f.fcs then rindBadFcs
  else if f.session = 0xFFFF ∧ !t.authOk then rindBadAuth
  else rindGood

/-- The vat words of a unit that read as uncorrectable. -/
def State.ueOf (s : State) (v : VUnit) : List Nat := (unitWords v.cells v.frame.size).filter (fun w => s.sw.ueWords.contains w)

/-- Counts, address and fault source of one uncorrectable word met (R144); its cell is retired when it is freed (R145). -/
def State.ueMet (s : State) (w : Nat) : State :=
  let s := s.bump .swcCnt 5
  let s := s.wr .swcVatErraddr 0 0 ((((0 : Word).setBits 31 31 1).setBits 30 30 1).setBits 20 0 w)
  let s := if s.sw.badCells.contains (w / 8) then s else { s with sw := { s.sw with badCells := s.sw.badCells ++ [w / 8] } }
  s.raise 0x41

/-- Counts, address and fault source of one word of which `n` bits are corrected (R144). -/
def State.ceMet (s : State) (w n : Nat) : State :=
  let s := s.bump .swcCnt (if n = 1 then 3 else 4)
  (s.wr .swcVatErraddr 0 0 (((0 : Word).setBits 31 31 1).setBits 20 0 w)).raise 0x40

/-- Vat words are read: each that has an error is corrected, or met as uncorrectable (R142, R144). -/
def State.meetWords (s : State) (ws : List Nat) : State :=
  ws.foldl (fun s w =>
    if s.sw.ueWords.contains w then s.ueMet w
    else match tfind s.sw.ceWords w with
      | some n => s.ceMet w n
      | none => s) s

/-- The vat words of a unit are read. -/
def State.meetUnit (s : State) (v : VUnit) : State := s.meetWords (unitWords v.cells v.frame.size)

/-- The transmission of a unit on a lane ends with `rind`, or with UNCORRECTABLE where a vat word of it cannot be corrected and no
row of R112 before that applies: not a rind that was received, and not TRUNCATED. -/
def State.endSend (s : State) (p u : Nat) (v : VUnit) (rind : Word) : State :=
  let ue := s.ueOf v
  let s := s.meetUnit v
  if ue.isEmpty || v.fixed then s.transmit p (v.leaving p) rind
  else (s.transmit p (v.leaving p) rindUncorrectable).ruined u

/-- The ports that are sending a unit cut-through when its tail arrives end it with its rind. -/
def State.endCuts (s : State) (u : Nat) (v : VUnit) (rind : Word) : State :=
  let ports := (s.sw.cutting.filter (fun e => e.2 == u)).map (·.1)
  let s := { s with sw := { s.sw with cutting := s.sw.cutting.filter (fun e => e.2 != u) } }
  ports.foldl (fun s p => s.endSend p u v rind) s

/-- Unlink a bad unit where it may not leave: store-and-forward links, loupe copies (LOUPE_BAD), waiting destinations and
residue entries (R113, R150, R158). -/
def State.purgeBad (s : State) (u : Nat) : State :=
  let qs := (s.sw.queues.filter (fun e => e.2.any (fun l => l.uid == u))).map (·.1)
  let copy := fun (e : ResEntry) => e.uid == u && e.loupe.isSome
  let loupes := (s.sw.queues.map (fun e => (e.2.filter (fun l => l.uid == u && l.loupe.isSome)).length)).sum +
    (s.sw.residue.map (fun e => (e.2.filter copy).length)).sum
  let queues := s.sw.queues.map (fun (e : Nat × List Link) => (e.1, e.2.filter (fun l => !(l.uid == u && !l.cut))))
  let residue := s.sw.residue.map (fun (e : Nat × List ResEntry) => (e.1, e.2.filter (fun x => !copy x)))
  let s := ({ s with sw := { s.sw with queues := queues, residue := residue } }.bump .swcCnt 6 0 loupes).dropWaiting u (fun _ => true)
  qs.foldl (fun s q => s.residueTest q 17) s

/-- Does the press handle the local copy of the unit (R125)? -/
def VUnit.pressed (v : VUnit) : Bool := !v.own && decide (v.inPort < 4) && v.frame.dual && inStream v.frame

/-- Does the unit still await local delivery? -/
def State.awaitsLocal (s : State) (u : Nat) : Bool :=
  s.sw.holds.any (fun h => h.1 == u && isLocalQ h.2) || s.sw.residue.any (fun e => isLocalQ e.1 && e.2.any (fun x => x.uid == u && x.loupe.isNone))

/-- The joined lane sends on a frame that it repeats, unchanged and uncounted (R115). -/
def State.repeatOut (s : State) (l : Nat) (f : Frame) (rind : Word) : State :=
  { s with sent := s.sent ++ [{ port := opposite l, frame := f, rind := rind }],
           lanes := tset s.lanes l { s.lane l with repeating := false } }

/-- The counts of a frame that has ended on a lane (R52, R112), and whether its rind has been counted for the unit already. -/
def State.countEnd (s : State) (l : Nat) (f : Frame) (t : Tail) (ou : Option Nat) : State :=
  let s := if t.lengthOk then s.bump .lnkCnt l 0 else if f.malformed then s else s.bump .lnkCnt l 4
  let s := if t.lengthOk ∧ t.fcs ≠ f.fcs then s.bump .lnkCnt l 3 else s
  let done := (ou.bind s.unit?).any (·.counted)
  if rindOf f t ≠ rindGood ∧ !done then s.bump .lnkCnt l 2 else s

/-- FRAME_END_RECEIVE (R112): the tail of the frame in reception on lane `l`, with the blocks in error since the last. A frame whose
length does not match R48 is discarded (R52); the ports that send it cut-through end it as truncated. A repeated frame goes out as
it came (R115). -/
def State.frameEnd (s : State) (l : Nat) (t : Tail) : State :=
  let s := if t.blkErr = 0 then s else s.bump .lnkCnt l 8 t.blkErr
  match tfind s.sw.rx l with
  | none => s
  | some (ou, f) =>
    let s := { s with sw := { s.sw with rx := terase s.sw.rx l } }
    if (s.lane l).repeating then s.repeatOut l f (if t.lengthOk then t.rind else rindTruncated)
    else if s.get F.LNK_STATE_STATE l = 8 then s
    else
    let s := s.countEnd l f t ou
    let rind := rindOf f t
    match ou with
    | none => s
    | some u => match s.unit? u with
      | none => s.transitEnd f u (rind == rindGood)
      | some v =>
        let v := { v with complete := true, rind := rind, authOk := t.authOk, time := s.stampNs (l + 1),
                          counted := v.counted || rind != rindGood, fixed := !t.lengthOk || t.rind != rindGood }
        let s := (s.setUnit u v).endCuts u v rind
        let s := s.transitEnd f u (rind == rindGood)
        if rind ≠ rindGood then (s.purgeBad u).gc u |>.1
        else
          let s := if s.awaitsLocal u then (if v.pressed then s.pressArrive u v.frame else s.deliverLocal u) else s
          (s.gc u).1

/-- A LINK_CTRL frame of a subtype that R97 does not list is discarded and counted in LNK_FMT_DISCARD (R98). -/
def unknownCtrl (f : Frame) : Bool :=
  f.ftype == ftLinkCtrl && !f.malformed && !(decide (1 ≤ f.opcode.toNat) && decide (f.opcode.toNat ≤ 3))

/-- A frame begins on a lane of the repeat path: the joined lane, if it repeats too, sends it on, whatever it is (R115). -/
def State.repeatIn (s : State) (l : Nat) (f : Frame) : State :=
  let on := s.get F.LNK_STATE_STATE (opposite l) == 8
  { s.setRx l none f with lanes := tset s.lanes l { s.lane l with repeating := on } }

/-- A frame that another row of the table brings: LINK_CTRL of a known subtype. -/
def ownRow (f : Frame) : Bool := f.ftype == ftLinkCtrl && !f.malformed && !unknownCtrl f

/-- The tail of the frame in reception on lane `l` is written behind it in the vat (R161). -/
def State.layTail (s : State) (l : Nat) (t : Tail) : State :=
  match tfind s.sw.rx l with
  | some (some u, _) => s.layUnit u [t.fcs, t.rind]
  | _ => s

/-- RING_FRAME_RECEIVE (R107): the header of a frame received on lane `l` (L0-L3). A frame whose tail never came ends as
truncated first (R94). A repeating lane passes the frame on (R115). The frames of a stream are switched here; those of the lanes themselves have rows of their own. -/
def State.ringFrame (s : State) (l : Nat) (f : Frame) : State :=
  let st := s.get F.LNK_STATE_STATE l
  if (f.malformed || unknownCtrl f) && decide (4 ≤ st ∧ st ≤ 7) then
    let s := if (tfind s.sw.rx l).isSome then s.frameEnd l { lengthOk := false } else s
    (s.bump .lnkCnt l 4).setRx l none f
  else if l ≥ 4 || !(st == 6 || st == 7 || st == 8) || (!inStream f && (st != 8 || ownRow f)) then s else
  let s := if (tfind s.sw.rx l).isSome then s.frameEnd l { lengthOk := false } else s
  if st == 8 then s.repeatIn l f
  else if !s.islandUp 6 then s.setRx l none f
  else if s.addressed && (f.srcNode == s.ownNode || (s.servesPair && f.srcNode == s.pairNode)) then
    (s.bump .lnkCnt l 6).setRx l none f
  else if f.hop = 0 ∧ !(s.ownAddress f.dstNode || (s.addressed && (s.broadcastHere f.dstNode ||
      (isBroadcast f.dstNode && s.segmentAt l == some (segOf f.dstNode))))) then
    (s.bump .lnkCnt l 5).setRx l none f
  else
    let s := s.tableRead f.dstNode (s.ringReadsTable l f.dstNode)
    let (s, ds, verdict) := s.ringDests l f
    let (s, r) := if ds.isEmpty then (s, none) else s.admitUnit f l false false true (sortDests ds)
    match r with
    | none =>
      let (s, lu) := s.loupeOnly f l false true
      -- a copy that the transit press took and no queue admitted: its rind still decides whether the place reopens (R137)
      if ds.any (·.transit) && verdict == .take then
        let u := lu.getD s.sw.nextUid
        ({ s with sw := { s.sw with nextUid := max s.sw.nextUid (u + 1) } }.transitNote f u .take).setRx l (some u) f
      else s.setRx l lu f
    | some u =>
      let s := if ds.any (·.transit) then s.transitNote f u verdict else s
      (s.setRx l (some u) f).loupes u l false f

/-! ### The scrubber (R143, R144) -/

/-- SCRUB_WORD (R143): the scrubber reads vat word `w`. -/
def State.scrub (s : State) (w : Nat) (found : EccResult) : State :=
  if !s.islandUp 6 then s else
  let c := w / 8
  let s := match found with
    | .clean => { s with sw := { s.sw with corrected := s.sw.corrected.filter (· != w), ceWords := terase s.sw.ceWords w } }
    | .corrected1 | .corrected2 =>
      let s := s.ceMet w (if found = .corrected1 then 1 else 2)
      let again := s.sw.corrected.contains w
      let bad := if again ∧ !s.sw.badCells.contains c then s.sw.badCells ++ [c] else s.sw.badCells
      let corr := if again then s.sw.corrected.filter (· != w) else s.sw.corrected ++ [w]
      { s with sw := { s.sw with badCells := bad, corrected := corr, ceWords := terase s.sw.ceWords w } }
    | .uncorrectable =>
      let s := s.ueMet w
      let used := !s.cellFree c && !s.sw.retired.contains c
      if used then { s with sw := { s.sw with ueWords := w :: s.sw.ueWords.filter (· != w) } }
      else { s with sw := { s.sw with
          ueWords := s.sw.ueWords.filter (· != w), vat := mwrites s.sw.vat (32 * w) (List.replicate 32 0) } }
  if w + 1 = 8 * vatCells then s.put F.SWC_VAT_STAT_SCRUB_PASSES (s.get F.SWC_VAT_STAT_SCRUB_PASSES + 1) else s

/-! ### Service of output ports (R150) -/

/-- May this link leave now: the unit is complete, or it may leave cut-through and is not a loupe copy? -/
def State.mayLeave (s : State) (l : Link) : Bool :=
  match s.unit? l.uid with
  | none => false
  | some v => v.complete || (l.cut && l.loupe.isNone)

/-- The queue of port `p` that is served next: the highest class whose head may leave. -/
def State.nextQueue (s : State) (p : Nat) : Option (Nat × Link) :=
  [7, 6, 5, 4, 3, 2, 1, 0].findSome? (fun c => match s.queue (8 * p + c) with
    | l :: _ => if s.mayLeave l then some (8 * p + c, l) else none
    | [] => none)

/-- The first byte of a command of the bridge leaves: its timeout runs (R64), for the time that CTL_CMDTO gives now (R47). -/
def State.startTimeout (s : State) (t : Nat) : State :=
  match tfind s.hbr.trk t with
  | none => s
  | some e =>
    if !e.waits then s else
    let p := 1000 * s.get F.CTL_CMDTO_TIMEOUT_US
    { s with hbr := { s.hbr with trk := tset s.hbr.trk t { e with waits := false, period := p } } }.arm (.cmdTimeout 5 t) p

/-- A frame of this hub begins to leave. -/
def State.commandLeaves (s : State) (f : Frame) : State :=
  if f.ftype = ftCommand ∧ f.srcPort = 5 ∧ f.srcNode = s.ownNode ∧ f.opcode ≠ ocWritePosted then s.startTimeout f.tag.toNat else s

/-- A unit leaves by a lane (R110, R112, R150): whole, or cut-through while its tail still arrives. A lane that still repeats a
frame sends none of the switch core's (R116). -/
def State.laneTransmit (s : State) (p : Nat) : State :=
  if !s.laneUp p || (tfind s.sw.cutting p).isSome || (decide (p < 4) && (s.lane (opposite p)).repeating) then s else
  match s.nextQueue p with
  | none => s
  | some (q, l) => match s.unit? l.uid with
    | none => s
    | some v =>
      let s := if v.own then s.commandLeaves v.frame else s
      if v.complete then ((s.endSend p l.uid v v.rind).unlink q l.uid l.loupe).1
      else
        let s := { s with sw := { s.sw with cutting := tset s.sw.cutting p l.uid } }
        (s.unlink q l.uid l.loupe).1

/-- Take the head unit of a local port: `none` when nothing may leave, or when the unit has an uncorrectable word and is
discarded (R144). -/
def State.takeLocal (s : State) (p : Nat) : State × Option (VUnit × Link) :=
  match s.nextQueue p with
  | none => (s, none)
  | some (q, l) => match s.unit? l.uid with
    | none => (s, none)
    | some v =>
      let ue := s.ueOf v
      let s1 := (s.unlink q l.uid l.loupe).1
      if ue.isEmpty then (s1.meetUnit v, some (v, l)) else ((s1.meetUnit v).bump .swcCnt 2, none)

/-! ### Capture memory (R159, R160) -/

/-- Store a loupe copy as a capture record. -/
def State.capture (s : State) (v : VUnit) (session : Nat) : State :=
  if !s.is F.CAP_CTL_ENABLE then s else
  let cells := s.get F.SWC_CAP_CFG_CELLS
  let size := 256 * cells
  let base := 256 * (vatCells - cells)
  let b := v.frame.size
  let len := 16 + (b + 15) / 16 * 16
  if s.is F.CAP_STAT_FULL || size < len then s.bump .swcCnt 7 else
  let w := if s.sw.capEnd then size else s.get F.CAP_WPTR_OFFSET
  let fits := decide (w + len ≤ size)
  let s := if fits || w == size then s else
    let (fw, s) := s.freshWords 3
    let w1 := ((0 : Word).setBits 31 24 0xFF).setBits 11 0 (size - w)
    let words := match fw with | [a, b, c] => [a, w1, b, c] | _ => [0, w1, 0, 0]
    { s with sw := { s.sw with vat := mwrites s.sw.vat (base + w) (wordsBytes words) } }
  let endAt := fun (s : State) (n : Nat) => { s.put F.CAP_WPTR_OFFSET n with sw := { s.sw with capEnd := n == size } }
  if !fits && !s.is F.CAP_CTL_WRAP then (endAt s size).put F.CAP_STAT_FULL 1 |>.bump .swcCnt 7
  else
    let at_ := if fits then w else 0
    let n := s.rd .capReccnt
    let w1 := (((0 : Word).setBits 31 24 v.inPort).setBits 23 16 session).setBits 11 0 b
    let unit := wordsBytes (v.frame.header ++ v.frame.payload ++ v.frame.gcm ++ [v.frame.fcs, v.rind])
    let bytes := wordsBytes [v.time, w1, n, v.rind] ++ unit ++ List.replicate (len - 16 - b) 0
    let s := { s with sw := { s.sw with vat := mwrites s.sw.vat (base + at_) bytes } }
    (endAt s (at_ + len)).bump .capReccnt

/-- Port 123 stores its head copy. -/
def State.captureNext (s : State) : State :=
  match s.takeLocal 123 with
  | (s, none) => s
  | (s, some (v, l)) => s.capture v (l.loupe.getD 0)

/-- CAPTURE_ENABLE (R160): what setting ENABLE resets. -/
def State.captureStart (s : State) : State :=
  { (s.put F.CAP_WPTR_OFFSET 0).wr .capReccnt 0 0 0 with sw := { s.sw with capEnd := false } }.put F.CAP_STAT_FULL 0

/-! ### The forwarding table and the gap log -/

/-- Is a unit stamped with generation GEN - 15 present (R155)? -/
def State.commitBusy (s : State) : Bool :=
  s.sw.units.any (fun e => decide (e.2.gen = (s.get F.SWC_FWD_CTL_GEN + 65536 - 15) % 65536))

/-- The shadow forwarding table is copied to the active one (R155). An entry of the shadow that cannot be corrected is copied as it
stands, and the next lookup that reads it meets the error (R142). -/
def State.fwdCopy (s : State) : State :=
  let s := ((s.sw.fwdErr.map (·.1)).filter (256 ≤ ·)).foldl State.fwdRead s
  let shadow := s.sw.fwdBad.filter (256 ≤ ·)
  let a := Reg.swcFwdAct.addr
  let b := Reg.swcFwdShd.addr
  let shd := s.regs.filter (fun e => b ≤ e.1 ∧ e.1 < b + 1024)
  let rest := s.regs.filter (fun e => !(a ≤ e.1 ∧ e.1 < a + 1024))
  { s with
    regs := shd.foldl (fun t e => tset t (e.1 - b + a) e.2) rest
    sw := { s.sw with
            fwdBad := shadow
            fwdErr := shadow.foldl (fun t k => tset t (k - 256) 3) [] } }

/-- Copy the shadow table to the active one and advance GEN (R155). -/
def State.fwdCommit (s : State) : State :=
  let s := s.fwdCopy
  s.put F.SWC_FWD_CTL_GEN (s.get F.SWC_FWD_CTL_GEN + 1)

/-- GAP_RECORD_REMOVE (R139): the oldest gap record goes. -/
def State.gapRemove (s : State) : State := { s with sw := { s.sw with gaps := s.sw.gaps.drop 1 } }

/-- Has every unit of a generation before `g` left (R156)? -/
def State.fenceClear (s : State) (g : Nat) : Bool :=
  s.sw.units.all (fun e => decide (seqDist g e.2.gen = 0 ∨ seqDist g e.2.gen ≥ 32768))

end Sys2Proof.Machine
end

