-- ==== Sys2Proof/Machine/LinkOps.lean ====
section
/-!
DEFINITION. The link lanes (spec/04_yarru_ring_links.md, R93-R118): LINK_CTRL frames, the training sequence, link-down, modules,
the bypass outputs and the repeat path.
-/
namespace Sys2Proof.Machine

/-- State codes of R99. -/
def lsOff : Nat := 0
def lsNoSignal : Nat := 1
def lsCdrLock : Nat := 2
def lsBlockLock : Nat := 3
def lsIdent : Nat := 4
def lsVerify : Nat := 5
def lsUp25 : Nat := 6
def lsUp10 : Nat := 7
def lsRepeat : Nat := 8
def lsCabling : Nat := 9
def lsHeldDown : Nat := 10

def State.lst (s : State) (l : Nat) : Nat := s.get F.LNK_STATE_STATE l
def State.setLst (s : State) (l st : Nat) : State := s.put F.LNK_STATE_STATE st l

/-- Is the lane in service or in the repeat path? -/
def State.laneLinked (s : State) (l : Nat) : Bool := s.laneUp l || s.lst l == lsRepeat

/-- Is lane `l` enabled and its island powered and out of reset? -/
def State.laneOn (s : State) (l : Nat) : Bool := s.outOfReset (l + 1) && s.is F.LNK_CFG_ENABLE l

/-- Does lane `l` receive frames of its own: in IDENT, in VERIFY, or up? -/
def State.laneLocked (s : State) (l : Nat) : Bool := decide (lsIdent ≤ s.lst l) && decide (s.lst l ≤ lsUp10)

/-! ### The physical coding sublayer (R94; block types PRESUMED, IEEE 802.3 Clause 49, log entry 6) -/

/-- A 64b/66b block: control or data, and its eight bytes in the order of the line. -/
structure Block where
  control : Bool
  bytes : List Byte
  deriving DecidableEq, Repr

/-- The block type of a Terminate control block with `k` data bytes. -/
def termType (k : Nat) : Byte := [0x87, 0x99, 0xAA, 0xB4, 0xCC, 0xD2, 0xE1, 0xFF].getD k 0xFF

/-- The blocks after the Start block: data blocks of eight bytes, and the Terminate block with the rest. -/
def dataBlocks : Nat → List Byte → List Block
  | 0, bs => [⟨true, termType bs.length :: (bs ++ List.replicate (7 - bs.length) 0)⟩]
  | fuel + 1, bs =>
    if bs.length < 8 then [⟨true, termType bs.length :: (bs ++ List.replicate (7 - bs.length) 0)⟩]
    else ⟨false, bs.take 8⟩ :: dataBlocks fuel (bs.drop 8)

/-- The idle control block, at least one of which separates two frames. -/
def idleBlock : Block := ⟨true, 0x1E :: List.replicate 7 0⟩

/-- A frame on the line: a Start block with the start in lane 0 and no preamble, its bytes, Terminate, an idle block. -/
def lineBlocks (bs : List Byte) : List Block :=
  ⟨true, 0x78 :: bs.take 7⟩ :: (dataBlocks bs.length (bs.drop 7) ++ [idleBlock])

/-- The bytes of a frame after its Start block, when they end with a Terminate block; `none`: the frame is truncated. -/
def readBlocks : List Block → Option (List Byte)
  | [] => none
  | b :: rest =>
    if !b.control then (readBlocks rest).map (b.bytes ++ ·)
    else match (List.range 8).find? (fun k => b.bytes.head? == some (termType k)) with
      | some k => some ((b.bytes.drop 1).take k)
      | none => none

/-- A frame as received: its Start block and what follows; `none`: no frame, or a truncated one. -/
def lineFrame : List Block → Option (List Byte)
  | [] => none
  | b :: rest => if b.control && b.bytes.head? == some 0x78 then (readBlocks rest).map (b.bytes.drop 1 ++ ·) else none

/-- One payload bit through the self-synchronising scrambler 1 + x^39 + x^58; the state holds the last 58 bits sent, the latest in
bit 0. The two bits of the block header are not scrambled. -/
def scrambleBit (st : BitVec 58) (d : Bool) : Bool × BitVec 58 :=
  let o := d ^^ st.getLsbD 38 ^^ st.getLsbD 57
  (o, st <<< 1 ||| (if o then 1 else 0))

/-- The descrambler keeps the bits received. -/
def descrambleBit (st : BitVec 58) (o : Bool) : Bool × BitVec 58 :=
  (o ^^ st.getLsbD 38 ^^ st.getLsbD 57, st <<< 1 ||| (if o then 1 else 0))

/-- A run of payload bits through the scrambler, the descrambler. -/
def scramble : BitVec 58 → List Bool → List Bool
  | _, [] => []
  | st, d :: ds => (scrambleBit st d).1 :: scramble (scrambleBit st d).2 ds
def descramble : BitVec 58 → List Bool → List Bool
  | _, [] => []
  | st, o :: os => (descrambleBit st o).1 :: descramble (descrambleBit st o).2 os

/-! ### LINK_CTRL frames (R97) -/

def lcTrainId : BitVec 8 := 1
def lcHello : BitVec 8 := 2
def lcLeaving : BitVec 8 := 3

/-- The payload of every LINK_CTRL frame. -/
def State.linkPayload (s : State) (l : Nat) : List Word :=
  let rpt := s.is F.LNK_RPT_RING_JOINED
  let node : BitVec 24 := if rpt || !s.addressed then 0 else s.ownNode
  [ node ++ BitVec.ofNat 8 l,
    ((0 : Word).setBits 31 31 (bit s.paired)).setBits 23 0 s.pairNode.toNat,
    s.rd .ctlUid 0,
    (((0 : Word).setBits 15 8 1).setBits 3 3 (bit (s.is F.LNK_RPT_SPUR_JOINED))).setBits 2 0 (if rpt then 7 else s.mode.code) ]

/-- A LINK_CTRL frame of lane `l`. -/
def State.linkFrame (s : State) (l : Nat) (sub : BitVec 8) : Frame :=
  ({ ftype := ftLinkCtrl, cls := 7, dual := false, hop := 0, dstNode := 0, dstPort := 0xFF, srcNode := s.ownNode,
     srcPort := BitVec.ofNat 8 l, opcode := sub,
     time := if s.timeInvalid then 0 else BitVec.ofNat 32 s.ringNs } : Frame).withPayload (s.linkPayload l)

def State.sendLink (s : State) (l : Nat) (sub : BitVec 8) : State := s.transmit l (s.linkFrame l sub) rindGood

/-! ### The training sequence (R99, R100) -/

/-- Timers that belong to a lane's state; the LEAVING frames of a lane that has been disabled do not (R97). -/
def laneTimer (l : Nat) (t : Timer) : Bool :=
  t == .trainSend l || t == .train l || t == .hello l || t == .nbr l || t == .timeSend l || t == .fallback l || t == .heldDown l

/-- Enter a training state with its limit in ns. -/
def State.enterTraining (s : State) (l st limit : Nat) : State := (s.setLst l st).arm (.train l) limit

/-- The attachment of lane `l` (R105): a write of MEDIA takes effect at the next training (R121). -/
def State.mediaOf (s : State) (l : Nat) : Nat := if s.lst l ≤ lsNoSignal then s.get F.LNK_CFG_MEDIA l else (s.lane l).media

/-- Is MODn_TXDIS high: held low on a lane that has no module (R105)? -/
def State.modTxDis (s : State) (l : Nat) : Bool := s.mediaOf l == 0 && (s.lane l).txDis

/-- The module sequence of R106 follows MODn_ABS and MEDIA: no module, or none used, ends it; a module present is waited for 300 ms,
and one that declares diagnostics is polled once a second. Hihovos runs it. -/
def State.modRun (s : State) (l : Nat) : State :=
  let x := s.lane l
  if s.mediaOf l != 0 || x.modAbs then
    (((s.setLane l { x with txDis := true, modReady := false, modDiag := false }).disarm (.modWait l)).disarm (.modPoll l)).clearLive
      0x31 l
  else if !s.outOfReset (l + 1) || !s.outOfReset 8 then s
  else if !x.modReady then (if (s.deadline (.modWait l)).isSome then s else s.arm (.modWait l) 300000000)
  else if x.modDiag && (s.deadline (.modPoll l)).isNone then s.arm (.modPoll l) 1000000000
  else s

/-- Is the fallback rate imposed: by RATE_MAX, or for this boot by the alternate of the ring bring-up step (R101)? -/
def State.rateCapped (s : State) (l : Nat) : Bool := s.is F.LNK_CFG_RATE_MAX l || s.boot.slowRing

/-- The rate of the next attempt (R100): the fallback rate where it is imposed or the lane has fallen back. -/
def State.wantRate (s : State) (l : Nat) : Nat := if s.rateCapped l || (s.lane l).fallen then 0 else 1

/-- RATE shows the rate of the next attempt; a change counts in FALLBACK_CNT and starts the count of failed attempts anew (R100). -/
def State.setRate (s : State) (l : Nat) : State :=
  if s.get F.LNK_STATE_RATE l = s.wantRate l then s else
  let s := s.setLane l { s.lane l with fails := 0 }
  (s.put F.LNK_STATE_RATE (s.wantRate l) l).sat F.LNK_STATE_FALLBACK_CNT l

/-- The lane leaves the fallback rate: its attempts are full-rate ones again, unless the fallback rate is imposed (R100). -/
def State.fullRate (s : State) (l : Nat) : State := (s.setLane l { s.lane l with fails := 0, fallen := false }).setRate l

/-- Enter NO_SIGNAL: what RATE_MAX and MEDIA say now holds for the next training (R121). -/
def State.enterNoSignal (s : State) (l : Nat) : State :=
  (((s.disarmAll (laneTimer l)).setLst l lsNoSignal).setRate l).modRun l

/-- ENABLE set: what LEAVING frames are left are not sent, and a lane in OFF starts to train. Disabling a lane does not end its
fallback (R100). -/
def State.laneStart (s : State) (l : Nat) : State :=
  let s := s.disarm (.leaving l)
  if s.laneOn l && s.lst l == lsOff then (s.put F.LNK_STATE_RATE (s.wantRate l) l).enterNoSignal l else s

/-- SIGNAL_DETECT (R99): signal has been present for 100 µs, and a module's LOS is low with it. A loss that lasted 10 ms or more ends
the fallback (R100). -/
def State.signalDetect (s : State) (l : Nat) : State :=
  let media := s.get F.LNK_CFG_MEDIA l
  let modOk := media != 0 || (s.lane l).modReady
  if !s.laneOn l || s.lst l != lsNoSignal || (s.deadline (.fallback l)).isSome || !modOk then s else
  let s := match (s.lane l).lostAt with
    | some t => if s.now ≥ t + 10000000 then s.fullRate l else s
    | none => s
  ((s.setLane l { s.lane l with lostAt := none, media := media }).put F.LNK_MOD2_LOS 0 l).enterTraining l lsCdrLock 3000000

/-- CDR_LOCK: lock held for 50 µs. -/
def State.cdrLock (s : State) (l : Nat) : State :=
  if s.lst l != lsCdrLock then s else s.enterTraining l lsBlockLock 500000

/-- BLOCK_LOCK: 64 consecutive valid sync headers. The receiver has reached IDENT, so remote fault ends (R102). The first TRAIN_ID goes
out one period after the entry (DESIGN CHOICE, log entry 50). -/
def State.blockLock (s : State) (l : Nat) : State :=
  if s.lst l != lsBlockLock then s else
  let s := s.setLane l { s.lane l with trainId := [], trainRun := 0, remoteFault := false }
  (s.enterTraining l lsIdent 1000000).arm (.trainSend l) 10000

/-- Partners that R96 permits for lane `l`, by their lane number. -/
def partnerOk (l p : Nat) : Bool :=
  match l with
  | 0 => p == 1 || p == 3
  | 1 => p == 0 || p == 2
  | 2 => p == 1
  | 3 => p == 0
  | _ => p == 4

/-- Record a LINK_CTRL payload in LNK_NBR0-LNK_NBR2 (R104). -/
def State.recordNbr (s : State) (l : Nat) (p : List Word) : State :=
  let s := s.wr .lnkNbr0 l 0 (p.getD 0 0)
  let s := s.wr .lnkNbr1 l 0 (p.getD 1 0 &&& 0x80FFFFFF)
  let s := if l = 4 then s.put F.PAR_PARTNER_NODE ((p.getD 0 0).bits 31 8) else s
  (s.wr .lnkNbr2 l 0 (p.getD 2 0)).put F.LNK_STATE_NBR_VALID 1 l

/-- Is a received LINK_CTRL frame valid: its frame check holds, its rind is GOOD and it has four payload words (R97, R98)? -/
def linkValid (p : List Word) (t : CtrlTail) : Bool := t.fcsOk && t.rind == rindGood && p.length == 4

/-- The counts of a LINK_CTRL frame received by a lane that trains or is up (R98, R112, R115). -/
def State.countCtrl (s : State) (l : Nat) (p : List Word) (t : CtrlTail) : State :=
  let s := s.bump .lnkCnt l 0
  let s := if t.fcsOk then s else s.bump .lnkCnt l 3
  let s := if t.fcsOk && t.rind == rindGood then s else s.bump .lnkCnt l 2
  if linkValid p t then s else s.bump .lnkCnt l 4

/-- The spur lanes join in the repeat path while the ring is joined, once both are trained and their partners named the same
non-zero segment (R115). -/
def State.spurJoin (s : State) : State :=
  if s.is F.LNK_RPT_RING_JOINED && !s.is F.LNK_RPT_SPUR_JOINED && s.spursJoin && s.segmentAt 2 != some 0 then
    [2, 3].foldl (fun s l => { (s.disarmAll (laneTimer l)).setLst l lsRepeat with
      sw := { s.sw with rx := terase s.sw.rx l } }) ((s.put F.LNK_RPT_SPUR_JOINED 1).truncate 2 |>.truncate 3)
  else s

/-- The lane has trained: it is in service, or repeats while the repeat path joins it (R99, R115). The first HELLO goes out one period
after the entry (DESIGN CHOICE, log entry 50). -/
def State.laneVerified (s : State) (l : Nat) : State :=
  let s := s.disarm (.train l)
  let s := s.setLane l { s.lane l with fails := 0 }
  let joined := (decide (l < 2) && s.is F.LNK_RPT_RING_JOINED) || (decide (l = 2 ∨ l = 3) && s.is F.LNK_RPT_SPUR_JOINED)
  if joined then s.setLst l lsRepeat
  else ((((s.setLst l (if s.is F.LNK_STATE_RATE l then lsUp25 else lsUp10)).arm (.hello l) 1000000).arm (.nbr l) 4000000).arm
    (.timeSend l) 125000).spurJoin

/-- A repeating lane passes on a LINK_CTRL frame unchanged, as it passes all blocks (R98, R115). -/
def State.passCtrl (s : State) (l : Nat) (sub : BitVec 8) (p : List Word) (t : CtrlTail) : State :=
  if s.lst l != lsRepeat || s.lst (opposite l) != lsRepeat then s else
  let w := p.getD 0 0
  let f := ({ ftype := ftLinkCtrl, cls := 7, dual := false, hop := 0, dstNode := 0, dstPort := 0xFF,
              srcNode := (w >>> 8).setWidth 24, srcPort := w.setWidth 8, opcode := sub, time := t.time } : Frame).withPayload p
  { s with sent := s.sent ++ [{ port := opposite l, frame := f, rind := t.rind }] }

/-- TRAIN_ID received (R96, R99, R104). The identical frames that it counts are consecutive among the valid ones: one with a bad frame
check does not start the run anew. The record of the frame that ends IDENT is taken at once, before the lane is up
(DESIGN CHOICE for both, log entry 43). -/
def State.trainIdIn (s : State) (l : Nat) (p : List Word) (t : CtrlTail) : State :=
  if s.lst l == lsRepeat then s.passCtrl l lcTrainId p t else
  if !s.laneLocked l then s else
  let s := s.countCtrl l p t
  if !linkValid p t then s else
  let x := s.lane l
  let run := if x.trainId = p then x.trainRun + 1 else 1
  let s := s.setLane l { x with trainId := p, trainRun := run, fromRepeat := (p.getD 3 0).bits 2 0 == 7 }
  if s.laneUp l then s.recordNbr l p
  else if s.lst l != lsIdent || run < 3 then s
  else if !partnerOk l ((p.getD 0 0).bits 7 0) || p.getD 2 0 == s.rd .ctlUid 0 then
    ((s.disarmAll (laneTimer l)).setLst l lsCabling).setLive 0x32 l
  else (s.disarm (.trainSend l)).recordNbr l p |>.enterTraining l lsVerify 1000000

/-- VERIFY: 1 ms without an invalid sync header or errored block. -/
def State.verifyDone (s : State) (l : Nat) : State :=
  if s.lst l != lsVerify then s else
  match s.expire (.train l) with
  | none => s
  | some s => s.laneVerified l

/-- HELLO received (R104). The hub that it names is told apart by its CTL_UID0 (DESIGN CHOICE, log entry 50). -/
def State.helloIn (s : State) (l : Nat) (p : List Word) (t : CtrlTail) : State :=
  if s.lst l == lsRepeat then s.passCtrl l lcHello p t else
  if !s.laneLocked l then s else
  let s := s.countCtrl l p t
  if !linkValid p t || !s.laneUp l then s else
  let s := s.recordNbr l p
  let x := s.lane l
  let s := s.put F.LNK_STATE_PARTNER_REPEAT (bit (x.fromRepeat && p.getD 2 0 != x.trainId.getD 2 0)) l
  ((s.put F.LNK_STATE_NBR_STALE 0 l).arm (.nbr l) 4000000).spurJoin

/-- TRAINING_LIMIT_EXPIRE (R99, R100): a failed attempt. -/
def State.trainingFailed (s : State) (l : Nat) : State :=
  if s.lst l < lsCdrLock || s.lst l > lsVerify then s else
  match s.expire (.train l) with
  | none => s
  | some s =>
    let n := (s.lane l).fails + 1
    let s := (s.setLane l { s.lane l with fails := n }).enterNoSignal l
    if n < 3 || (s.lane l).fails < n then s
    else if s.is F.LNK_STATE_RATE l then (s.setLane l { s.lane l with fallen := true }).setRate l
    else (s.setLane l { s.lane l with fails := 0 }).arm (.fallback l) 100000000

/-! ### Link-down (R102, R103) -/

/-- Discard every frame and residue entry queued to a lane, and what the transit press holds for it, each counted in LNK_DOWN_DROP. -/
def State.dropLane (s : State) (l : Nat) : State :=
  let (s, h) := s.dropHolds l
  ((s.bump .lnkCnt l 7 (s.portUnits l + h)).emptyPort l).1

/-- A lane that stops ends what it transmits with a TRUNCATED rind, a frame that it repeats as well, and the frame that it receives
is cut, on the joined lane too (R102, R115). -/
def State.cutLane (s : State) (l : Nat) : State :=
  let s := s.truncate l
  let s := if l < 4 && (s.lane (opposite l)).repeating then
      match tfind s.sw.rx (opposite l) with
      | some (_, f) => s.repeatOut (opposite l) f rindTruncated
      | none => s
    else s
  if (tfind s.sw.rx l).isSome then s.frameEnd l { lengthOk := false } else s

/-- Declare the link of lane `l` down. -/
def State.declareDown (s : State) (l : Nat) : State :=
  if !s.laneLinked l then s else
  let s := (s.cutLane l).dropLane l
  let x := s.lane l
  let downs := s.now :: x.downs.filter (fun t => decide (s.now < t + 1000000000))
  let s := (s.bump .lnkCnt l 9).setLane l { x with downs := downs, remoteFault := true }
  let s := if l = 4 then (s.enterNoSignal l).twinDown else s.enterNoSignal l
  if downs.length > 8 then ((s.setLst l lsHeldDown).arm (.heldDown l) 1000000000).raise 0x30 l else s

/-- LINK_DOWN (R102) with its cause. A lane that is not up takes note of the loss (R100) and of the module's indication. The sixteen
sync headers that were invalid count in LNK_BLK_ERR; those met otherwise come with the end of a frame. -/
def State.linkDown (s : State) (l : Nat) (c : DownCause) : State :=
  let used := s.mediaOf l == 0 && s.outOfReset (l + 1)
  match c with
  | .signalLoss => (s.setLane l { s.lane l with lostAt := some s.now }).declareDown l
  | .syncErrors => if s.laneLinked l then (s.bump .lnkCnt l 8 16).declareDown l else s
  | .remoteFault => s.declareDown l
  | .moduleTxFault => if used then (s.put F.LNK_MOD2_TX_FAULT 1 l).declareDown l else s
  | .moduleLos => if used then (s.put F.LNK_MOD2_LOS 1 l).declareDown l else s

/-- Lane to OFF. -/
def State.laneOff (s : State) (l : Nat) : State :=
  let s := if s.laneLinked l then (s.cutLane l).dropLane l else s
  let s := if l = 4 then s.twinDown else s
  ((((s.disarmAll (laneTimer l)).disarm (.leaving l)).setLst l lsOff).modRun l).clearLive 0x32 l

/-- LNK_CFG.ENABLE has been cleared: LEAVING goes out three times before a lane that is up or repeats turns off (R97, R121). -/
def State.laneDisable (s : State) (l : Nat) : State :=
  if (s.deadline (.leaving l)).isSome then s
  else if s.laneLinked l then (s.setLane l { s.lane l with leavingLeft := 3 }).arm (.leaving l) 0 else s.laneOff l

/-- LEAVING_SEND (R97): three frames 10 µs apart, then the lane is off. -/
def State.leavingSend (s : State) (l : Nat) : State :=
  match s.expire (.leaving l) with
  | none => s
  | some s =>
    let n := (s.lane l).leavingLeft
    let s := (s.sendLink l lcLeaving).setLane l { s.lane l with leavingLeft := n - 1 }
    if n > 1 then s.arm (.leaving l) 10000 else s.laneOff l

/-- Before lanes are powered down or the hub sleeps, each that is up or repeats sends LEAVING three times, 10 µs apart (R97, R118). -/
def State.sayLeaving (s : State) (ls : List Nat) : State :=
  let up := ls.filter s.laneLinked
  let say := fun (s : State) => up.foldl (fun s l => s.sendLink l lcLeaving) s
  if up.isEmpty then s else say ((say ((say s).advance 10000)).advance 10000)

/-- RETRAIN (R99, R100, R121). -/
def State.retrain (s : State) (l : Nat) : State :=
  let s := s.declareDown l
  let s := s.fullRate l
  if s.lst l = lsOff ∨ s.lst l = lsHeldDown then s else (s.enterNoSignal l).clearLive 0x32 l

/-- TRAIN_ID_SEND: every 10 µs in IDENT (R97). -/
def State.trainIdSend (s : State) (l : Nat) : State :=
  match s.expire (.trainSend l) with
  | none => s
  | some s => if s.lst l = lsIdent then (s.sendLink l lcTrainId).arm (.trainSend l) 10000 else s

/-- HELLO_SEND: every 1 ms while the link is up (R97). -/
def State.helloSend (s : State) (l : Nat) : State :=
  match s.expire (.hello l) with
  | none => s
  | some s => if s.laneUp l then (s.sendLink l lcHello).arm (.hello l) 1000000 else s

/-- LEAVING received: the link goes down (R102). A repeating lane passes it on as well (R98). -/
def State.leavingIn (s : State) (l : Nat) (p : List Word) (t : CtrlTail) : State :=
  let s := if s.lst l == lsRepeat then s.passCtrl l lcLeaving p t else if s.laneLocked l then s.countCtrl l p t else s
  if linkValid p t then s.declareDown l else s

/-- NBR_STALE: no HELLO for 4 ms (R104). -/
def State.nbrStale (s : State) (l : Nat) : State :=
  match s.expire (.nbr l) with
  | none => s
  | some s => if s.laneUp l then s.put F.LNK_STATE_NBR_STALE 1 l else s

/-- FALLBACK_WAIT_EXPIRE: attempts start again at full rate (R100). -/
def State.fallbackEnd (s : State) (l : Nat) : State :=
  match s.expire (.fallback l) with
  | none => s
  | some s => s.fullRate l

/-- The end of HELD_DOWN, after 1 s or by CLR_HOLD (R103). -/
def State.holdEnd (s : State) (l : Nat) : State := if s.lst l = lsHeldDown then s.enterNoSignal l else s

/-- HELD_DOWN_EXPIRE. -/
def State.heldDownEnd (s : State) (l : Nat) : State :=
  match s.expire (.heldDown l) with
  | none => s
  | some s => s.holdEnd l

/-- CABLING_SIGNAL_LOST: the signal of a wrongly cabled lane has been lost for 10 ms (R99). -/
def State.cablingLost (s : State) (l : Nat) : State :=
  if s.lst l = lsCabling then ((s.fullRate l).enterNoSignal l).clearLive 0x32 l else s

/-! ### Modules (R105, R106) -/

/-- MODn_ABS changes. A lane whose module is gone stays in NO_SIGNAL: a link that was up is declared down. -/
def State.moduleAbs (s : State) (l : Nat) (absent : Bool) : State :=
  let used := s.mediaOf l == 0
  let s := s.setLane l { s.lane l with modAbs := absent }
  if !s.outOfReset (l + 1) then s else
  let s := (s.put F.LNK_MOD2_ABSENT (bit absent) l).modRun l
  if !(absent && used) then s
  else if s.laneLinked l then s.declareDown l
  else if s.lst l = lsOff ∨ s.lst l = lsHeldDown then s
  else (s.enterNoSignal l).clearLive 0x32 l

/-- 300 ms after insertion the identification page is read and MODn_TXDIS goes low; the module is enabled whatever it says, and
polled if it declares diagnostics. -/
def State.moduleId (s : State) (l : Nat) (r : ModuleId) : State :=
  match s.expire (.modWait l) with
  | none => s
  | some s =>
    let (sfp, diag) := match r with | .sfp d => (true, d) | .notSfp d => (false, d) | .unreadable => (false, false)
    let s := s.setLane l { s.lane l with txDis := false, modReady := true, modDiag := diag }
    (s.put F.LNK_MOD2_NOT_SFP (bit (!sfp)) l).modRun l

/-- The poll of the diagnostics, once a second; `none` is a transfer that failed three times in succession. -/
def State.modulePoll (s : State) (l : Nat) (d : Option ModuleDiag) : State :=
  match s.expire (.modPoll l) with
  | none => s
  | some s =>
    let s := s.arm (.modPoll l) 1000000000
    match d with
    | none => s.put F.LNK_MOD2_DIAG_STALE 1 l
    | some d =>
      let s := s.wr .lnkMod0 l 0 (d.temp ++ d.vcc)
      let s := s.wr .lnkMod1 l 0 (d.bias ++ d.txPower)
      let s := s.put F.LNK_MOD2_RX_POWER d.rxPower.toNat l
      let s := (s.put F.LNK_MOD2_DIAG_STALE 0 l).put F.LNK_MOD2_WARN (bit d.warn) l
      let s := (s.put F.LNK_MOD2_ALARM (bit d.alarm) l).put F.LNK_MOD2_TX_FAULT (bit d.txFault) l
      let s := s.put F.LNK_MOD2_LOS (bit d.los) l
      if d.alarm then s.setLive 0x31 l else s.clearLive 0x31 l

/-! ### Bypass outputs and the repeat path (R114-R116) -/

/-- Do the conditions of R114 for driving BYP_HOLD high hold? -/
def State.holdOk (s : State) : Bool :=
  s.boot.powered && !s.boot.held && s.boot.pll && !s.isLive 2 0 && (s.rd .islPwrStat).getLsbD 1 && (s.rd .islPwrStat).getLsbD 2 &&
  (s.rd .islClkOk).getLsbD 1 && (s.rd .islClkOk).getLsbD 2 && s.mode != .sleep && !s.is F.LNK_BYP_TEST_RELEASE

/-- Both outputs go to the level their conditions give. -/
def State.setHold (s : State) (h : Bool) : State := if s.holdOk == h then { s with bypHold := h } else s

/-- Join the repeat path when the SWC island is in reset or powered down (R115, R116). -/
def State.repeatJoin (s : State) : State :=
  let down := s.isl.rst.getLsbD 6
  let off := !(s.rd .islPwrStat).getLsbD 6
  if !(down || off) || s.is F.LNK_RPT_RING_JOINED || !s.islandUp 1 || !s.islandUp 2 then s else
  let s := [0, 1, 2, 3].foldl (fun s p => s.truncate p) s
  let s := s.put F.LNK_RPT_RING_JOINED 1
  let s := (s.put F.LNK_RPT_LAST_CAUSE (if off then 2 else 1)).sat F.LNK_RPT_ENTRY_CNT
  let s := { s with sw := { s.sw with rx := s.sw.rx.filter (fun e => e.1 ≥ 2) } }
  ([0, 1].foldl (fun s l => if s.laneUp l then (s.disarmAll (laneTimer l)).setLst l lsRepeat else s) s).spurJoin

/-- Leave the repeat path of the ring or of the spur lanes (R116): the lanes return to service at their rate. A frame that is being
repeated goes out whole first: `frameEnd` sends it on, and `laneTransmit` waits for it. -/
def State.repeatLeave (s : State) (spur : Bool) : State :=
  if !s.islandUp 6 then s else
  let fld := if spur then F.LNK_RPT_SPUR_JOINED else F.LNK_RPT_RING_JOINED
  if !s.is fld then s else
  let s := s.put fld 0
  (if spur then [2, 3] else [0, 1]).foldl (fun s l => if s.lst l = lsRepeat then s.laneVerified l else s) s

end Sys2Proof.Machine
end

