-- ==== Sys2Proof/Machine/TimeOps.lean ====
section
/-!
DEFINITION. Ring time and the schedule table (spec/07_time_and_coherent_io.md, R165-R193, R483): the master and its followers,
TIME frames, steps, schedule entries, fire EVENTs and snapshots.
-/
namespace Sys2Proof.Machine

/-- States of TIM_STAT.STATE (R171). -/
def tsListen : Nat := 0
def tsAcquire : Nat := 1
def tsLocked : Nat := 2
def tsHoldover : Nat := 3
def tsMaster : Nat := 4

def State.tst (s : State) : Nat := s.get F.TIM_STAT_STATE

/-- Ring time is not valid: every word on its way to a PORT_DATA frame of an engine says so (R209), and every frame that a controller
or a MAC is packing (R65). -/
def State.wordsInvalid (s : State) : State :=
  let mark := fun (l : List QWord) => l.map (fun w => { w with invalid := true })
  { s with
    engs := s.engs.map (fun e => (e.1, { e.2 with rxq := mark e.2.rxq, frame := mark e.2.frame }))
    cans := s.cans.map (fun e => (e.1, { e.2 with packInv := true }))
    macs := s.macs.map (fun e => (e.1, { e.2 with packInv := true })) }

def State.setTst (s : State) (n : Nat) : State :=
  let s := if n < 2 then s.wordsInvalid else s
  (s.put F.TIM_STAT_STATE n).put F.TIM_STAT_VALID (bit (decide (n ≥ 2)))

/-- Does `a` lie after `b` by the wrap comparison of R179? -/
def wrapAfter (a b : Word) : Bool := decide (1 ≤ (a - b).toNat) && decide ((a - b).toNat < 2 ^ 31)

/-- Extension of a 32-bit ring time against a 64-bit reference (R179). -/
def extTime (t : Word) (ref : Nat) : Nat :=
  let d := (t - BitVec.ofNat 32 ref).toNat
  if d ≥ 2 ^ 31 then ref + d - 2 ^ 32 else ref + d

/-! ### Setting the time (R177, R178) -/

/-- Mark the entries whose instants a forward step passes over: they fire at once, with STEPPED (R178). -/
def State.markStepped (s : State) (old new : Nat) : State :=
  { s with sched := s.sched.map (fun (e : Nat × Entry) =>
      if old < e.2.t ∧ e.2.t < new then (e.1, { e.2 with stepped := true }) else e) }

/-- Ring time set to `new` (64 bits): a step, or a local step. Timestamps of points before it stay as they were (R178). -/
def State.setRing (s : State) (new : Nat) : State :=
  let by_ := Int.ofNat new - Int.ofNat s.ring64
  let s := s.markStepped s.ring64 new
  let s := { s with time := { s.time with jumps := (s.now, by_) :: s.time.jumps.take 15 } }
  { s.wr .timEpoch 0 0 (BitVec.ofNat 32 (new / 2 ^ 32)) with ringAcc := BitVec.ofNat 60 (2 ^ 28 * (new % 2 ^ 32)) }

/-- Apply the step of TIM_STEP: STEP is added to the 64-bit ring time (R177). -/
def State.applyStep (s : State) : State :=
  let new := ((Int.ofNat s.ring64 + s.time.step.toInt) % 2 ^ 64).toNat
  let s := s.setRing new
  let last := (s.get F.TIM_STEP_STEP_SEQ, s.time.step, s.rd .timStepAt)
  { s.put F.TIM_STAT_STEP_PENDING 0 with
    time := { s.time with stepDone := true, stepAt := none, steps := s.time.steps + 1, steppedAt := s.now, last := last, carry := false } }

/-- A step becomes pending. -/
def State.pendStep (s : State) (seq : Nat) (v at_ : Word) (t : Nat) : State :=
  let s := ((s.put F.TIM_STEP_STEP_SEQ seq).wr .timStepAt 0 0 at_).put F.TIM_STAT_STEP_PENDING 1
  { s with time := { s.time with step := v, stepDone := false, stepAt := some t, carry := false } }

/-- A step is learnt from an upstream frame: one whose STEP_AT has passed is applied at once and sets STEP_LATE, one whose STEP_AT is
this instant is applied in time (R177). -/
def State.learnStep (s : State) (seq : Nat) (v at_ : Word) : State :=
  if seq = 0 ∨ seq = s.time.last.1 ∨ (seq = s.get F.TIM_STEP_STEP_SEQ ∧ s.is F.TIM_STAT_STEP_PENDING) then s else
  let s := s.pendStep seq v at_ (extTime at_ s.ring64)
  let now := BitVec.ofNat 32 s.ringNs
  if wrapAfter at_ now then s else if at_ = now then s.applyStep else s.applyStep.put F.TIM_STAT_STEP_LATE 1

/-- The step of a frame from which the time was set: with STEP_DONE = 1 it is recorded, not applied (R177). -/
def State.recordStep (s : State) (seq : Nat) (v at_ : Word) (done : Bool) : State :=
  if !done then s.learnStep seq v at_
  else
    let s := ((s.put F.TIM_STEP_STEP_SEQ seq).wr .timStepAt 0 0 at_).put F.TIM_STAT_STEP_PENDING 0
    { s with time := { s.time with step := v, stepDone := true, stepAt := none, last := (seq, v, at_), carry := false } }

/-- STEP_APPLY: ring time reaches STEP_AT. The entries whose instants do not lie after it fire before the step (R178): it waits for
them. -/
def State.stepApply (s : State) : State :=
  match s.time.stepAt with
  | none => s
  | some t => if s.sched.any (fun e => e.2.stepped || decide (e.2.t ≤ t)) then s else (s.advanceRing t).applyStep

/-- TIME_RATE (R175). -/
def State.timeRate (s : State) (v : Word) : Status × State :=
  if s.tst ≠ tsMaster then (stBadParam, s)
  else if v.toNat < 0x1FFBE76D ∨ v.toNat > 0x20041893 then (stBadParam, s)
  else (stOk, s.wr .timInc 0 0 v)

/-- TIME_STEP (R175, R176). -/
def State.timeStep (s : State) (v : Word) : Status × State :=
  if s.tst ≠ tsMaster ∨ v = 0x80000000 then (stBadParam, s)
  else if s.is F.TIM_STAT_STEP_LOCK then (stStepLocked, s)
  else
    let t := s.ring64 + 100000000
    let seq := if s.get F.TIM_STEP_STEP_SEQ = 255 then 1 else s.get F.TIM_STEP_STEP_SEQ + 1
    (stOk, (s.put F.TIM_STAT_STEP_LOCK 1).pendStep seq v (BitVec.ofNat 32 t) t)

/-- STEP_REARM (R176). -/
def State.stepRearm (s : State) : State := s.put F.TIM_STAT_STEP_LOCK 0

/-! ### TIME frames (R169-R172) -/

def State.tlane (s : State) (l : Nat) : TLane := tget {} s.time.lanes l
def State.setTlane (s : State) (l : Nat) (x : TLane) : State := { s with time := { s.time with lanes := tset s.time.lanes l x } }

/-- Are TIME frames sent and accepted on lane `l`? -/
def State.timeLane (s : State) (l : Nat) : Bool := s.islandUp 7 && s.laneUp l && (s.rd .timCfg).getLsbD (8 + l)

/-- The step that TIME frames carry: STEP_SEQ, STEP, STEP_AT and STEP_DONE (R177). -/
def State.carriedStep (s : State) : Nat × Word × Word × Bool :=
  if s.time.carry then (s.time.last.1, s.time.last.2.1, s.time.last.2.2, true)
  else (s.get F.TIM_STEP_STEP_SEQ, s.time.step, s.rd .timStepAt, s.time.stepDone)

/-- The TIME frame of lane `l`. -/
def State.timeFrame (s : State) (l : Nat) : Frame :=
  let x := s.tlane l
  let prio := if s.tst = tsMaster then s.get F.TIM_CFG_PRIORITY else s.time.prio
  let (seq, step, stepAt, done) := s.carriedStep
  let w1 := (((0 : Word).setBits 31 24 prio).setBits 23 16 (s.get F.TIM_STAT_HOPS)).setBits 0 0 (s.get F.TIM_STAT_VALID)
  let w5 := ((0 : Word).setBits 8 8 (bit done)).setBits 7 0 seq
  ({ ftype := ftTime, cls := 7, dual := false, hop := 0, dstNode := 0, dstPort := 0xFF, srcNode := s.ownNode,
     srcPort := BitVec.ofNat 8 l, opcode := 1, time := BitVec.ofNat 32 s.ringNs } : Frame).withPayload
    [s.rd .timMaster, w1, s.rd .timEpoch, x.rx, x.rxAt, w5, step, stepAt]

/-- TIME_FRAME_SEND (R169): every 125 µs on an enabled lane that is up. -/
def State.timeSend (s : State) (l : Nat) : State :=
  match s.expire (.timeSend l) with
  | none => s
  | some s =>
    let s := s.arm (.timeSend l) 125000
    if s.timeLane l then s.transmit l (s.timeFrame l) rindGood else s

/-- Priority and UID of this hub as a candidate (R168); the lower wins. -/
def State.ownRank (s : State) : Nat := 2 ^ 32 * s.get F.TIM_CFG_PRIORITY + (s.rd .ctlUid 0).toNat

/-- Valid TIME frames heard within the last 500 µs: (rank, HOPS, lane). -/
def State.heardLanes (s : State) : List (Nat × Nat × Nat) :=
  [0, 1, 2, 3, 4].filterMap (fun l => match (s.tlane l).heard with
    | some (t, p, u, h) => if s.timeLane l && decide (s.now < t + 500000) then some (2 ^ 32 * p + u, h, l) else none
    | none => none)

/-- The better of two heard lanes: best master, then lowest HOPS, then lowest lane (R171). -/
def betterLane (a b : Nat × Nat × Nat) : Nat × Nat × Nat :=
  if b.1 < a.1 ∨ (b.1 = a.1 ∧ (b.2.1 < a.2.1 ∨ (b.2.1 = a.2.1 ∧ b.2.2 < a.2.2))) then b else a

/-- The upstream lane that R171 selects. -/
def State.bestLane (s : State) : Option (Nat × Nat × Nat) :=
  match s.heardLanes with
  | [] => none
  | x :: xs => some (xs.foldl betterLane x)

/-- This hub becomes master and continues from the ring time it holds (R168). It carries the step last applied or recorded as done; one
that is pending is applied at its instant as before (R177). -/
def State.becomeMaster (s : State) : State :=
  let s := ((s.disarm .upstream).disarm .listen).setTst tsMaster
  let s := ((s.put F.TIM_STAT_HOPS 0).put F.TIM_STAT_UPSTREAM 7).wr .timMaster 0 0 (s.rd .ctlUid 0)
  let pend := s.time.stepAt.isSome
  { s with time := { s.time with prio := s.get F.TIM_CFG_PRIORITY, run := 0, stepDone := !pend, carry := pend } }

/-- Start listening as a candidate for 2 ms (R168). -/
def State.startListen (s : State) : State :=
  if s.is F.TIM_CFG_MASTER_CAP && s.outOfReset 7 && s.tst == tsListen then s.arm .listen 2000000 else s

/-- MASTER_LISTEN_EXPIRE (R168): no valid TIME frame within 2 ms. -/
def State.listenEnd (s : State) : State :=
  match s.expire .listen with
  | none => s
  | some s => if s.tst = tsListen ∧ s.is F.TIM_CFG_MASTER_CAP then s.becomeMaster else s

/-- The hub takes lane `l` as upstream. -/
def State.setUpstream (s : State) (l : Nat) : State :=
  match (s.tlane l).heard with
  | none => s
  | some (_, p, u, h) =>
    let s := ((s.put F.TIM_STAT_UPSTREAM l).put F.TIM_STAT_HOPS (h + 1)).wr .timMaster 0 0 (BitVec.ofNat 32 u)
    { s with time := { s.time with prio := p } }

/-- The link delay of lane `l`, averaged over the last 16 frames (R171), in 1/16 ns. -/
def meanDelay (x : TLane) : Int := if x.delays.isEmpty then 0 else x.delays.sum / x.delays.length

/-- What an upstream frame does to the time (R171, R172): a large offset sets it in ACQUIRE and HOLDOVER, else the servo
slews; TIM_INC is a free value within R167 (log entry 1). Sixteen offsets below 4 ns in a row give LOCKED. -/
def State.trackUpstream (s : State) (l : Nat) (f : Frame) : State :=
  let p := f.payload
  let partner := 2 ^ 32 * (p.getD 2 0).toNat + f.time.toNat
  let delay := meanDelay (s.tlane l)
  let off : Int := 16 * (Int.ofNat s.ring64 - Int.ofNat partner) - delay
  let seq := (p.getD 5 0).bits 7 0
  let done := (p.getD 5 0).getLsbD 8
  let s := s.wr .timOffset 0 0 (BitVec.ofInt 32 off)
  let st := s.tst
  if off.natAbs > 16000 ∧ (st = tsAcquire ∨ st = tsHoldover) then
    let s := (s.setRing (Int.ofNat partner + delay / 16).toNat).recordStep seq (p.getD 6 0) (p.getD 7 0) done
    let s := { s with time := { s.time with run := 0 } }
    if st = tsHoldover then s.raise 0x51 else s
  else
    let s := s.learnStep seq (p.getD 6 0) (p.getD 7 0)
    let (inc, s) := s.freeIn 0x1FFBE76D 0x20041893
    let s := s.wr .timInc 0 0 (BitVec.ofNat 32 inc)
    let run := if off.natAbs < 64 then s.time.run + 1 else 0
    let s := { s with time := { s.time with run := run } }
    if run ≥ 16 ∧ (st = tsAcquire ∨ st = tsHoldover) then s.setTst tsLocked else s

/-- Master selection after a valid TIME frame on lane `l` (R168, R171). -/
def State.selectMaster (s : State) (l : Nat) (f : Frame) : State :=
  match s.bestLane with
  | none => s
  | some (rank, _, up) =>
    let st := s.tst
    let cap := s.is F.TIM_CFG_MASTER_CAP
    if st = tsMaster then
      if rank < s.ownRank then
        let s := { s.setTst tsHoldover with time := { s.time with run := 0, carry := false } }
        if up = l then ((s.setUpstream l).arm .upstream 500000).trackUpstream l f else s
      else s
    else if st = tsLocked ∧ cap ∧ s.ownRank < rank then s.becomeMaster
    else if up ≠ l then s
    else
      let s := if st = tsListen then (s.disarm .listen).setTst tsAcquire else s
      ((s.setUpstream l).arm .upstream 500000).trackUpstream l f

/-- Links that a TIME frame on lane `l` has behind it since its sender: two through a hub that repeats, which counts as a hop too
(R170; DEDUCED, log entry 46). -/
def State.hopsOver (s : State) (l : Nat) : Nat := if s.is F.LNK_STATE_PARTNER_REPEAT l then 1 else 0

/-- The counts of a link-local frame received whole (R52, R112), and whether its form, check and rind are good. -/
def State.linkLocalIn (s : State) (l : Nat) (f : Frame) (t : Tail) : State × Bool :=
  let s := if t.lengthOk then s.bump .lnkCnt l 0 else s
  let s := if !t.lengthOk || f.malformed then s.bump .lnkCnt l 4 else s
  let s := if t.lengthOk ∧ t.fcs ≠ f.fcs then s.bump .lnkCnt l 3 else s
  let good := rindOf f t == rindGood
  (if good then s else s.bump .lnkCnt l 2, good && !f.malformed)

/-- A repeating lane passes a frame on unchanged and uncounted (R115). -/
def State.passOn (s : State) (l : Nat) (f : Frame) (t : Tail) : State :=
  { s with sent := s.sent ++ [{ port := opposite l, frame := f, rind := if t.lengthOk then t.rind else rindTruncated }] }

/-- What lane `l` holds of a good TIME frame (R171): its times, a link delay, and whom it heard, if the sender's time is valid. -/
def State.timeHeard (s : State) (l : Nat) (f : Frame) : State :=
  let p := f.payload
  let d := BitVec.ofNat 32 s.ringNs
  let x := s.tlane l
  let x := { x with rx := f.time, rxAt := d }
  let asym := (BitVec.ofNat 16 (s.get F.TIM_ASYM_ASYM l)).toInt
  let a := p.getD 3 0
  let b := p.getD 4 0
  let x := if a = 0 ∧ b = 0 then x else
    { x with delays := (8 * ((d - a).toInt - (f.time - b).toInt) + asym) :: x.delays.take 15 }
  let heard := if (p.getD 1 0).getLsbD 0
    then some (s.now, (p.getD 1 0).bits 31 24, (p.getD 0 0).toNat, (p.getD 1 0).bits 23 16 + s.hopsOver l) else none
  let x := { x with heard := heard }
  (s.setTlane l x).put F.TIM_LNKDLY_DELAY (meanDelay x).toNat l

/-- TIME_FRAME_RECEIVE (R170, R171). A repeating lane passes the frame on (R115). -/
def State.timeReceive (s : State) (l : Nat) (t : TimeRx) : State :=
  if s.lst l == lsRepeat then (if s.lst (opposite l) == lsRepeat then s.passOn l t.frame t.tail else s)
  else if !s.laneUp l then s else
  let (s, good) := s.linkLocalIn l t.frame t.tail
  if t.frame.malformed || !t.tail.lengthOk || !s.timeLane l then s else
  if !good then s.bump .timCnt 0 else
  let s := s.timeHeard l t.frame
  if (t.frame.payload.getD 1 0).getLsbD 0 then s.selectMaster l t.frame else s

/-- UPSTREAM_LOSS (R171, R172): no valid frame from the upstream lane. Another lane with the same master takes over within
250 µs; otherwise after 500 µs LOCKED becomes HOLDOVER, and ACQUIRE becomes LISTEN. -/
def State.upstreamLoss (s : State) : State :=
  match s.deadline .upstream with
  | none => s
  | some d =>
    let up := s.get F.TIM_STAT_UPSTREAM
    let s := s.setTlane up { s.tlane up with heard := none }
    let same := s.heardLanes.filter (fun x => x.1 == 2 ^ 32 * s.time.prio + (s.rd .timMaster).toNat)
    match same with
    | x :: xs =>
      let s := s.advance (d - 250000 - s.now)
      (s.setUpstream (xs.foldl betterLane x).2.2).arm .upstream 500000
    | [] =>
      let s := (s.advance (d - s.now)).disarm .upstream
      let s := { s.put F.TIM_STAT_UPSTREAM 7 with time := { s.time with run := 0 } }
      if s.tst = tsLocked then ((s.setTst tsHoldover).bump .timCnt 4).raise 0x50
      else if s.tst = tsAcquire then (s.setTst tsListen).startListen
      else s

/-- TIME_COPY_RESYNC (R174): every island out of reset that acts on ring time loads its copy. -/
def State.copyResync (s : State) : State :=
  let is := [1, 2, 3, 4, 5, 6, 9, 10, 11, 12, 13, 14, 15, 16, 17, 18, 20].filter s.islandUp
  if !s.islandUp 7 then s else
  { s with time := { s.time with copies := is.foldl (fun t i => tset t i (s.ring64, s.now)) s.time.copies } }

/-! ### The schedule table (R182-R188) -/

/-- The lowest free entry. -/
def State.freeEntry (s : State) : Option Nat := (List.range 256).find? (fun e => (tfind s.sched e).isNone)

/-- Does `T` lie at least LEAD_US ahead (R182)? -/
def State.leadOk (s : State) (t : Word) : Bool :=
  let d := (t - BitVec.ofNat 32 s.ringNs).toNat
  decide (1000 * s.get F.TIM_SCHED_CFG_LEAD_US ≤ d) && decide (d < 2 ^ 31)

/-- Place an entry, with its TIM_ENT registers and PEAK. -/
def State.enterEntry (s : State) (n : Nat) (e : Entry) : State :=
  let s := { s with sched := tset s.sched n e }
  let ctl := (((((0 : Word).setBits 31 31 1).setBits 30 28 e.kind).setBits 23 16 e.port).setBits 15 8 e.action).setBits 0 0
    (bit e.notify)
  let s := (s.wr .timEntTime n 0 (BitVec.ofNat 32 e.t)).wr .timEntCtl n 0 ctl
  let s := s.wr .timEntSrc n 0 (e.node ++ e.sport)
  let s := s.wr .timEntId n 0 (((0 : Word).setBits 31 16 e.id).setBits 15 0 e.session.toNat)
  if s.sched.length > s.get F.TIM_SCHED_STAT_PEAK then s.put F.TIM_SCHED_STAT_PEAK s.sched.length else s

/-- Free an entry. -/
def State.dropEntry (s : State) (n : Nat) : State :=
  { s with sched := terase s.sched n }.put F.TIM_ENT_CTL_USED 0 n

/-- Members of a 64-bit mask given as two words, low word first. -/
def maskMembers (lo hi : Word) : List Nat :=
  (List.range 64).filter (fun i => if i < 32 then lo.getLsbD i else hi.getLsbD (i - 32))

/-- The engines an ENG_START, ENG_STOP or ENG_TRIGGER entry names. -/
def Entry.engines (e : Entry) : List Nat := maskMembers (e.data.getD 0 0) (e.data.getD 1 0)

/-- The cluster of a PIN_SET, PIN_SAMPLE or COUNT_SAMPLE entry, and its pin mask. -/
def Entry.cluster (e : Entry) : Nat := (e.data.getD 0 0).bits 2 0
def Entry.pins (e : Entry) : Word := e.data.getD 1 0

/-- The target islands of an entry (R185). -/
def Entry.islands (e : Entry) : List Nat :=
  if e.kind = 3 then []
  else if e.action = 0x01 ∨ e.action = 0x02 ∨ e.action = 0x42 then (e.engines.map (fun n => 9 + n / 8)).eraseDups
  else if e.action = 0x10 then [portIsland e.port]
  else if e.action = 0x20 ∨ e.action = 0x40 ∨ e.action = 0x41 then [9 + e.cluster]
  else [20]

/-- Target islands found in reset are skipped, each counted once (R185). -/
def State.skipDown (s : State) (n : Nat) : State :=
  match tfind s.sched n with
  | none => s
  | some e =>
    let down := e.islands.filter (fun i => !s.islandUp i && !e.skipped.contains i)
    let s := down.foldl (fun s i => s.bump .islDropCnt i) s
    { s with sched := tset s.sched n { e with skipped := e.skipped ++ down } }

/-- SCHEDULE_HANDOFF (R185): 2 µs before T the action goes to its target islands. -/
def State.handoff (s : State) (n : Nat) : State :=
  match tfind s.sched n with
  | none => s
  | some e => (if e.stepped then s else s.advanceRing (e.t - 2000)).skipDown n

/-- Is the session of an entry still open and not spent (R485)? One that is closing because it was rekeyed (R453) counts as closed
(DESIGN CHOICE, log entry 43). -/
def State.entrySession (s : State) (e : Entry) : BitVec 16 :=
  if e.session = 0xFFFF then 0
  else if s.cmd.sessions.any (fun x => x.num == e.session && !x.spent && !x.closing) then e.session else 0

/-- The fire EVENT of an entry (R184, R485). -/
def State.fireEvent (s : State) (n : Nat) (e : Entry) (outcome : Status) (cancelled : Bool) (results : List Word) : State :=
  let w0 := (((0 : Word).setBits 31 16 e.id).setBits 15 8 e.action).setBits 7 0 n
  let w2 := (((0 : Word).setBits 23 16 outcome.toNat).setBits 1 1 (bit e.stepped)).setBits 0 0 (bit cancelled)
  let f := s.event e.from_ 0xFF e.node e.sport.toNat e.cls.toNat e.dual
    ([w0, BitVec.ofNat 32 e.t, w2, BitVec.ofNat 32 s.ringNs] ++ results)
  s.emitOut { f with session := s.entrySession e } 122

/-- Does entry `a` fire before entry `b`: entries passed over by a step first, in entry order (R178), then by instant, and of equal
instants the lower number (R186)? -/
def firesBefore (a b : Nat × Entry) : Bool :=
  if a.2.stepped != b.2.stepped then a.2.stepped
  else if a.2.stepped || a.2.t == b.2.t then decide (a.1 < b.1)
  else decide (a.2.t < b.2.t)

/-- Is entry `n` the next that fires? -/
def State.nextEntry (s : State) (n : Nat) (e : Entry) : Bool := s.sched.all (fun x => x.1 == n || !firesBefore x (n, e))

/-- Take an entry of the given kind and action that is due and whose turn it is: time passes to T, its dead targets are skipped, it is
freed and counted. Answers the entry as it stands at T. -/
def State.takeEntry (s : State) (n kind action : Nat) : Option (State × Entry) :=
  match tfind s.sched n with
  | none => none
  | some e =>
    if e.kind ≠ kind ∨ e.action ≠ action ∨ !s.islandUp 7 ∨ !(s.rd .islClkOk).getLsbD 7 ∨ !s.nextEntry n e then none else
    let s := (if e.stepped then s else s.advanceRing e.t).skipDown n
    match tfind s.sched n with
    | none => none
    | some e =>
      let s := (s.dropEntry n).bump .timCnt 1
      some (if e.stepped then s.bump .timCnt 2 else s, e)

/-- The end of a firing: the fire EVENT, when the entry sends one. -/
def State.fired (s : State) (n : Nat) (e : Entry) (outcome : Status) (results : List Word) : State :=
  let outcome := if e.skipped.isEmpty then outcome else stIslandDown
  if e.kind = 2 ∨ e.notify then s.fireEvent n e outcome false results else s

/-- Cancel an entry (R187); `force`: its EVENT leaves whatever NOTIFY holds. -/
def State.cancelEntry (s : State) (force : Bool) (n : Nat) : State :=
  match tfind s.sched n with
  | none => s
  | some e =>
    let s := s.dropEntry n
    if e.kind = 3 then s
    else if force || e.kind == 2 || e.notify then s.fireEvent n e stNotInMode true [] else s

/-- Entry into SAFE cancels every APPLY_AT and SAMPLE_AT entry (R187). -/
def State.cancelForSafe (s : State) : State :=
  ((s.sched.filter (fun e => e.2.kind != 3)).map (·.1)).foldl (State.cancelEntry · true) s

/-! ### Snapshots (R190-R193, R483) -/

/-- Pairs (SNAP_ID, T) that still count as seen. -/
def State.snapSeen (s : State) (id : Nat) (t : Word) : Bool :=
  s.time.seen.any (fun x => x.1 == id && x.2.1 == t && decide (s.now < x.2.2))

def State.markSeen (s : State) (id : Nat) (t : Word) : State :=
  { s with time := { s.time with
      seen := (id, t, s.now + 4000000000) :: s.time.seen.filter (fun x => decide (s.now < x.2.2)) } }

/-- A SNAPSHOT frame on every ring and spur lane that is up, but for one (R190). -/
def State.floodSnap (s : State) (id : Nat) (t : Word) (node : BitVec 24) (but : Option Nat) : State :=
  [0, 1, 2, 3].foldl (fun s l =>
    if s.laneUp l && but != some l then
      let f : Frame :=
        { ftype := ftSnapshot, cls := 7, dual := false, hop := 0, dstNode := 0, dstPort := 0xFF, srcNode := s.ownNode,
          srcPort := BitVec.ofNat 8 l, time := t, w6 := BitVec.ofNat 32 (id % 65536), w7 := node.setWidth 32 }
      s.transmit l f rindGood
    else s) s

/-- SNAPSHOT_FRAME_RECEIVE (R190). A repeating lane passes the frame on (R115). -/
def State.snapReceive (s : State) (l : Nat) (f : Frame) (t : Tail) : State :=
  if l < 4 && s.lst l == lsRepeat && s.lst (opposite l) == lsRepeat then s.passOn l f t
  else if l ≥ 4 || !s.laneUp l then s else
  let (s, good) := s.linkLocalIn l f t
  if !good || !s.islandUp 7 then s else
  let id := f.w6.bits 15 0
  if s.snapSeen id f.time then s else
  let s := s.markSeen id f.time
  match s.freeEntry with
  | none => s.bump .timCnt 3
  | some n =>
    if s.timeInvalid || !s.leadOk f.time then s.bump .timCnt 3 else
    let node := f.w7.setWidth 24
    (s.enterEntry n { kind := 3, node := node, id := id, t := extTime f.time s.ring64 }).floodSnap id f.time node (some l)

/-- Is the island of a counter stale: in reset, unpowered or its clock stopped (R191)? -/
def State.islandStale (s : State) (i : Nat) : Bool := !s.islandUp i || !(s.rd .islClkOk).getLsbD i

/-- The counters that hold a value other than zero and take part in the snapshot, with their islands. -/
def State.counters (s : State) : List (Nat × Word × Nat) :=
  s.regs.filterMap (fun (e : Nat × Word) => match locate e.1 with
    | some (r, i, _) => if r.row.snap && e.2 != 0 then some (e.1, e.2, r.row.isl + i * r.row.islStep) else none
    | none => none)

/-- Keep the last values of an island's counters before it is reset (R191). -/
def State.keepCounters (s : State) (i : Nat) : State :=
  let keep := s.counters.filter (fun e => e.2.2 == i)
  let other := s.snap.last.filter (fun (e : Nat × Word) => match locate e.1 with
    | some (r, j, _) => r.row.isl + j * r.row.islStep != i
    | none => true)
  { s with snap := { s.snap with last := keep.foldl (fun t e => tset t e.1 e.2.1) other } }

/-- SNAPSHOT_FIRE (R191): every counter is copied to the inactive bank, which then becomes visible. -/
def State.snapFire (s : State) (n : Nat) : State :=
  match s.takeEntry n 3 0 with
  | none => s
  | some (s, e) =>
    let stale := (List.range 21).filter s.islandStale
    let live := (s.counters.filter (fun c => !(s.isl.rst.getLsbD c.2.2))).map (fun c => (c.1, c.2.1))
    let old := s.snap.last.filter (fun c => match locate c.1 with
      | some (r, i, _) => s.isl.rst.getLsbD (r.row.isl + i * r.row.islStep)
      | none => false)
    let bank := live.foldl (fun t c => tset t c.1 c.2) old
    let b := s.get F.TIM_SNAP_ID_BANK
    let s := { s with snap := if b = 0 then { s.snap with bank1 := bank } else { s.snap with bank0 := bank } }
    let s := ((s.put F.TIM_SNAP_ID_BANK (1 - b)).put F.TIM_SNAP_ID_SNAP_ID e.id).put F.TIM_SNAP_ID_VALID 1
    let s := s.wr .timSnapTime 0 0 (BitVec.ofNat 32 e.t)
    s.wr .timSnapStale 0 0 (stale.foldl (fun w i => w.setBits i i 1) 0)

/-- The word of the visible bank for the live counter at `off` (R192). -/
def State.bankRead (s : State) (off : Nat) : Word :=
  tget 0 (if s.get F.TIM_SNAP_ID_BANK = 0 then s.snap.bank0 else s.snap.bank1) off

/-- The hidden state of the TIM island after its reset (R171, R187, R483). The last values of islands in reset stay (R191). -/
def State.timCleared (s : State) : State :=
  let s := s.wordsInvalid
  { ((s.disarm .listen).disarm .upstream) with ringAcc := 0, time := {}, sched := [], snap := { last := s.snap.last } }

end Sys2Proof.Machine
end

