-- ==== Sys2Proof/Machine/ClusterOps.lean ====
section
/-!
DEFINITION. Clusters, facet pins and the engine as a port (spec/08_facet_engines.md, R195-R222): what each pin drives and reads,
debounce, pulse counters and change-of-state events, the queues of an engine, its feeder and packer, start, stop and clear.
-/
namespace Sys2Proof.Machine

def State.clu (s : State) (k : Nat) : CluS := tget {} s.clus k
def State.setClu (s : State) (k : Nat) (x : CluS) : State := { s with clus := tset s.clus k x }
def State.eng (s : State) (n : Nat) : EngS := tget {} s.engs n
def State.setEng (s : State) (n : Nat) (x : EngS) : State := { s with engs := tset s.engs n x }
def State.portCfg (s : State) (p : Nat) : PortCfg := tget {} s.ports p

/-- A field of engine `n` (0-63): its registers are indexed by cluster and local engine (R195). -/
def State.eget (s : State) (f : Fld) (n : Nat) : Nat := s.get f (n / 8) (n % 8)
def State.eis (s : State) (f : Fld) (n : Nat) : Bool := s.is f (n / 8) (n % 8)
def State.eput (s : State) (f : Fld) (v n : Nat) : State := s.put f v (n / 8) (n % 8)
def State.running (s : State) (n : Nat) : Bool := s.eis F.ENG_STATUS_RUNNING n
def State.cluUp (s : State) (k : Nat) : Bool := s.islandUp (9 + k)

/-! ### What a pin drives (R197, R198, R200, R241) -/

/-- Does this hub's ILK condition allow shared outputs (R198)? -/
def State.ilkOk (s : State) : Bool := !s.paired || (s.is F.PAR_STAT_ILK_DRIVE && s.is F.PAR_STAT_ILK_LOW)

/-- The conditions of R198 that a whole cluster shares. -/
def State.cluDrives (s : State) (k : Nat) : Bool :=
  s.cluUp k && s.is F.CLU_CFG_OUT_EN k && s.is F.CLU_STAT_BANK_OK k && s.mode != .boot && s.mode != .recovery && s.ilkOk

def sideEn : Nat → Fld
  | 0 => F.ENG_PINMAP1_SIDE_EN0 | 1 => F.ENG_PINMAP1_SIDE_EN1 | 2 => F.ENG_PINMAP1_SIDE_EN2 | _ => F.ENG_PINMAP1_SIDE_EN3
def sidePin : Nat → Fld
  | 0 => F.ENG_PINMAP1_SIDE0 | 1 => F.ENG_PINMAP1_SIDE1 | 2 => F.ENG_PINMAP1_SIDE2 | _ => F.ENG_PINMAP1_SIDE3

/-- Is pin `p` a side pin in use of engine `n`? -/
def State.isSide (s : State) (n p : Nat) : Bool := [0, 1, 2, 3].any (fun i => s.eis (sideEn i) n && s.eget (sidePin i) n == p)

/-- Does engine `n` own pin `p` of its cluster (R197)? -/
def State.owns (s : State) (n p : Nat) : Bool :=
  s.get F.PIN_CFG_MODE (n / 8) p == 3 && s.get F.PIN_CFG_OWNER (n / 8) p == n % 8

/-- Is pin `p` of cluster `k` an output by its mode: DIRECT_OUT, or ENGINE with the owner's direction set to output? -/
def State.isOutput (s : State) (k p : Nat) : Bool :=
  let m := s.get F.PIN_CFG_MODE k p
  m == 2 || (m == 3 && ((s.clu k).ballDirs.getLsbD p || s.isSide (8 * k + s.get F.PIN_CFG_OWNER k p) p))

/-- The ball level that the latch of a pin gives, through INV. -/
def State.latchLevel (s : State) (k p : Nat) : Bool :=
  let b := if s.get F.PIN_CFG_MODE k p = 2 then (s.rd .cluDout k).getLsbD p else (s.clu k).ballLatch.getLsbD p
  b != s.is F.PIN_CFG_INV k p

/-- The ball level that an output pin would drive: its latch through INV, or its SAFE level (R200). -/
def State.outLevel (s : State) (k p : Nat) : Bool :=
  match tfind (s.clu k).safe p with
  | some 1 | some 4 => false
  | some 2 | some 5 => true
  | _ => s.latchLevel k p

/-- Does pin `p` of cluster `k` drive its ball now (R198)? An open-drain pin drives low only. -/
def State.pinDrives (s : State) (k p : Nat) : Bool :=
  s.cluDrives k && s.isOutput k p && tfind (s.clu k).safe p != some 3 && !(s.is F.PIN_CFG_OD k p && s.outLevel k p)

/-- The pins of a cluster that drive their balls. -/
def State.driving (s : State) (k : Nat) : Word :=
  if s.cluDrives k then (List.range 32).foldl (fun (w : Word) p => w.setBits p p (bit (s.pinDrives k p))) 0 else 0

/-- The level of ball `p` of cluster `k` once it has ceased to drive: the pull's, or with a keeper or no pull the last (R198). -/
def State.releasedLevel (s : State) (k p : Nat) : Bool :=
  match s.get F.PIN_CFG_PULL k p with
  | 1 => true
  | 2 => false
  | _ => (s.clu k).net.getLsbD p

/-- The balls take new levels at the instant `t`; the levels of the 12 ns before stay known (R215). -/
def CluS.setNet (x : CluS) (t : Nat) (net : Word) : CluS :=
  if net = x.net then x else
  let h := (if x.hist.isEmpty then [(0, x.net)] else x.hist).filter (fun e => e.1 != t)
  let recent := h.takeWhile (fun e => decide (t < e.1 + 12))
  { x with net := net, hist := (t, net) :: recent ++ (h.drop recent.length).take 1 }

/-- The levels that the balls had at the instant `t`. -/
def CluS.netAt (x : CluS) (t : Nat) : Word :=
  match x.hist.find? (fun e => decide (e.1 ≤ t)) with
  | some e => e.2
  | none => (x.hist.getLast?.map (·.2)).getD x.net

/-- The balls of a cluster after a change at `t`: every pin that drives takes its level, a pin that ceases to drive is released to its
pull or keeper, the others keep theirs (R198). -/
def State.settleAt (s : State) (k t : Nat) : State :=
  let x := s.clu k
  let now := s.driving k
  if now = 0 ∧ x.drv = 0 then s else
  let net := (List.range 32).foldl (fun (w : Word) p =>
    if now.getLsbD p then w.setBits p p (bit (s.outLevel k p))
    else if x.drv.getLsbD p then w.setBits p p (bit (s.releasedLevel k p))
    else w) x.net
  s.setClu k { x.setNet t net with drv := now }

/-- A change of what the pins of a cluster drive takes effect now. -/
def State.settleNet (s : State) (k : Nat) : State := s.settleAt k s.now

/-- The cluster clock of 250 MHz: its first edge at or after `t`. -/
def cluEdge (t : Nat) : Nat := (t + 3) / 4 * 4

/-- Latches and directions that were on their way reach the balls, each at its instant (R215). -/
def State.flowPins (s : State) (k : Nat) : State :=
  let due := (s.clu k).outs.filter (fun o => decide (o.1 ≤ s.now))
  if due.isEmpty then s else
  let x := s.clu k
  due.foldl (fun (s : State) (o : Nat × Word × Word) =>
      (s.setClu k { s.clu k with ballLatch := o.2.1, ballDirs := o.2.2 }).settleAt k o.1)
    (s.setClu k { x with outs := x.outs.filter (fun o => decide (s.now < o.1)) })

/-- Has every output level reached its ball that is due? -/
def State.pinsFlowed (s : State) : Bool := s.clus.all (fun e => e.2.outs.all (fun o => decide (s.now < o.1)))

/-- Every output level reaches its ball that is due. -/
def State.flowAll (s : State) : State := (s.clus.map (·.1)).foldl State.flowPins s

/-- New latches and directions start on their way to the balls: 3 cluster clocks (R215). -/
def State.setLatch (s : State) (k : Nat) (latch dirs : Word) : State :=
  let x := s.clu k
  let d := s.now + 12
  s.setClu k { x with latch := latch, dirs := dirs, outs := x.outs.filter (fun o => o.1 != d) ++ [(d, latch, dirs)] }

/-- The level that an instruction reads at pin `p`: the one at the ball 3 cluster clocks before (R201, R215). -/
def State.pinIn (s : State) (k p : Nat) : Bool := ((s.clu k).netAt (s.now - 12)).getLsbD p != s.is F.PIN_CFG_INV k p

/-- CLU_DIN (R201): with DEB_US = 0 the accepted level is the synchronised one. -/
def State.cluDinWord (s : State) (k : Nat) : Word :=
  let s := s.flowPins k
  (List.range 32).foldl (fun (w : Word) p =>
    let raw := if s.get F.PIN_CFG_MODE k p = 1 ∧ s.get F.PIN_CFG_DEB_US k p ≠ 0 then (s.clu k).acc.getLsbD p else (s.clu k).net.getLsbD p
    w.setBits p p (bit (raw != s.is F.PIN_CFG_INV k p))) 0

/-! ### Debounce, pulse counters, change-of-state events (R201, R202, R205) -/

/-- A new level of a DIRECT_IN pin is accepted. -/
def State.acceptLevel (s : State) (k p : Nat) : State :=
  let x := s.clu k
  let new := !x.acc.getLsbD p
  let x := { x with acc := x.acc.setBits p p (bit new), runs := terase x.runs p }
  let rising := new != s.is F.PIN_CFG_INV k p
  let e := s.get F.PIN_CFG_EDGE k p
  let counts := e == 3 || (e == 1 && rising) || (e == 2 && !rising)
  let x := if s.is F.PIN_CFG_COS k p then
      { x with cosTime := (if x.cosMask = 0 then s.stampNs (9 + k) else x.cosTime), cosMask := x.cosMask.setBits p p 1 }
    else x
  let s := s.setClu k x
  if counts then s.bump .cluPcnt k p else s

/-- PIN_CFG of pin `p` written: a pin that becomes DIRECT_IN begins with the synchronised level as accepted, without a transition
(DESIGN CHOICE, log entry 47); one whose DEB_US becomes 0 takes it at once (R201). Samples taken before do not count on. -/
def State.pinCfgWritten (s : State) (k p : Nat) (old : Word) : State :=
  let x := s.clu k
  let x := if s.get F.PIN_CFG_MODE k p ≠ 1 ∨ old.bits 2 0 ≠ 1 ∨ s.get F.PIN_CFG_DEB_US k p = 0 then { x with runs := terase x.runs p } else x
  let s := s.setClu k x
  if s.get F.PIN_CFG_MODE k p ≠ 1 || x.net.getLsbD p == x.acc.getLsbD p then s
  else if old.bits 2 0 ≠ 1 then s.setClu k { x with acc := x.acc.setBits p p (bit (x.net.getLsbD p)), runs := terase x.runs p }
  else if s.get F.PIN_CFG_DEB_US k p = 0 then s.acceptLevel k p
  else s

/-- FACET_PIN_CHANGE (R201): the level outside changes. A pin that drives keeps its level. -/
def State.pinChange (s : State) (k p : Nat) (level : Bool) : State :=
  let s := s.flowPins k
  if s.pinDrives k p || (s.clu k).net.getLsbD p == level then s else
  let s := s.setClu k ((s.clu k).setNet s.now ((s.clu k).net.setBits p p (bit level)))
  if s.cluUp k && s.get F.PIN_CFG_MODE k p == 1 && s.get F.PIN_CFG_DEB_US k p == 0 && (s.clu k).acc.getLsbD p != level
  then s.acceptLevel k p else s

/-- One sample of one pin: DEB_US consecutive samples of a new level accept it. -/
def State.debouncePin (s : State) (k p : Nat) : State :=
  let d := s.get F.PIN_CFG_DEB_US k p
  let x := s.clu k
  if s.get F.PIN_CFG_MODE k p ≠ 1 ∨ d = 0 then s else
  if x.net.getLsbD p == x.acc.getLsbD p then s.setClu k { x with runs := terase x.runs p }
  else
    let n := tget 0 x.runs p + 1
    if n ≥ d then s.acceptLevel k p else s.setClu k { x with runs := tset x.runs p n }

/-- DEBOUNCE_SAMPLE (R201): the 1 µs sample of every DIRECT_IN pin of a cluster. -/
def State.debounce (s : State) (k : Nat) : State :=
  if s.cluUp k then (List.range 32).foldl (fun s p => s.debouncePin k p) (s.flowPins k) else s

/-- COS_EVENT (R205): the accumulated changes leave, no two events closer together than HOLDOFF_US. -/
def State.cosEvent (s : State) (k : Nat) : State :=
  let x := s.clu k
  if !s.cluUp k || x.cosMask == 0 || s.get F.CLU_COS_DEST_NODE k == 0 then s else
  let s := (s.expire (.cosHold k 0)).getD s
  let f := s.event s.sourceNode 0xFF (BitVec.ofNat 24 (s.get F.CLU_COS_DEST_NODE k)) (s.get F.CLU_COS_DEST_PORT k)
    (s.get F.CLU_COS_CFG_CLASS k) (s.is F.CLU_COS_CFG_DUAL k) [BitVec.ofNat 32 k, s.cluDinWord k, x.cosMask, x.cosTime]
  let s := (s.setClu k { x with cosMask := 0 }).bump .cluCnt k 5
  (s.emitOut f 122).arm (.cosHold k 0) (1000 * s.get F.CLU_COS_CFG_HOLDOFF_US k)

/-- A write to CLU_DOUT: SAFE values of DIRECT_OUT pins end (R200, R203). -/
def State.setDout (s : State) (k : Nat) (w : Word) : State :=
  let s := s.wr .cluDout k 0 w
  let x := s.clu k
  let s := if s.mode = .safe then s else
    s.setClu k { x with safe := x.safe.filter (fun e => s.get F.PIN_CFG_MODE k e.1 != 2) }
  s.settleNet k

/-- Does the bank's supply lie in the range of the level that BANK_V selects (R196)? -/
def State.bankOk (s : State) (k : Nat) : Bool :=
  match (s.clu k).supply with
  | .selected => true
  | .level v => v == s.get F.CLU_CFG_BANK_V k
  | .out => false

/-- The cluster compares its bank's supply with BANK_V (R196): outside the range its outputs are released and BANK_SUPPLY is raised. -/
def State.bankCompare (s : State) (k : Nat) : State :=
  if !s.cluUp k then s
  else if s.bankOk k then ((s.put F.CLU_STAT_BANK_OK 1 k).clearLive 0x60 k).settleNet k
  else ((s.put F.CLU_STAT_BANK_OK 0 k).setLive 0x60 k).settleNet k

/-- BANK_SUPPLY_LOSS and BANK_SUPPLY_RETURN (R196): the supply leaves every range, or lies in that of the level selected now. -/
def State.bankSupply (s : State) (k : Nat) (ok : Bool) : State :=
  (s.setClu k { s.clu k with supply := if ok then .level (s.get F.CLU_CFG_BANK_V k) else .out }).bankCompare k

/-- CLU_CFG written: the supply stays what it is, and is compared with the level that is selected now. -/
def State.cluCfgWritten (s : State) (k : Nat) (old : Word) : State :=
  let x := s.clu k
  let x := if x.supply = .selected ∧ old.bits 1 0 ≠ s.get F.CLU_CFG_BANK_V k then { x with supply := .level (old.bits 1 0) } else x
  (s.setClu k x).bankCompare k

/-! ### Queues of an engine (R206-R212) -/

/-- Depths of TXQ and RXQ in words. -/
def State.txCap (s : State) (n : Nat) : Nat := 2 * s.eget F.ENG_QCFG_TX_DEPTH n
def State.rxCap (s : State) (n : Nat) : Nat := 8 - s.txCap n

/-- The words in TXQ now. -/
def EngS.txq (x : EngS) : List QWord := x.path.take x.txn

/-- Mark the final word. -/
def markLast : List QWord → List QWord
  | [] => []
  | [x] => [{ x with last := true }]
  | x :: xs => x :: markLast xs

/-- The words of one item of `bytes` valid bytes (R208): bytes beyond them read as zero; with TX_LENWORD an extra word opens
the item. -/
def itemWords (ws : List Word) (bytes : Nat) (lenWord poison : Bool) : List QWord :=
  let n := ws.length
  let body := ws.zipIdx.map (fun (w, i) =>
    if i + 1 = n ∧ bytes < 4 * n then w &&& ~~~(BitVec.ofNat 32 (2 ^ (8 * (4 * n - bytes)) - 1)) else w)
  let ws := if lenWord then BitVec.ofNat 32 (bytes % 2048) :: body else body
  markLast (ws.map (fun w => ({ w := w, poison := poison } : QWord)))

/-- Valid bytes of a port unit: PORT_SEND's BYTES, kept in word 7 of the internal unit, else the whole payload. -/
def unitBytes (f : Frame) : Nat := if f.opcode = 0 then 4 * f.payload.length else f.w7.toNat

/-- The item that a unit for an engine port becomes. -/
def State.itemOf (s : State) (n : Nat) (f : Frame) : List QWord :=
  itemWords f.payload (unitBytes f) (s.eis F.ENG_QCFG_TX_LENWORD n) f.poison

/-- Fill TXQ as credit allows. -/
def State.fillTxq (s : State) (n : Nat) : State :=
  let x := s.eng n
  s.setEng n { x with txn := min (s.txCap n) x.path.length }

/-- Draw words from the unit that is being fed, as credit allows; a unit of which every word has been drawn leaves its vat queue
(R207), and the items that wait behind it follow. -/
def State.drawFeed (s : State) (n : Nat) : State :=
  let x := s.eng n
  match x.feed with
  | none => s
  | some (q, u, ws) =>
    let room := s.txCap n - x.path.length
    let x := { x with path := x.path ++ ws.take room, feed := some (q, u, ws.drop room) }
    if (ws.drop room).isEmpty then
      ((s.setEng n { x with feed := none, path := x.path ++ x.next.flatten, next := [] }).unlink q u none).1
    else s.setEng n x

/-- TXQ_FEED (R207, R208): the feeder draws words of the port's vat queues as credits allow. -/
def State.txqFeed (s : State) (n : Nat) : State :=
  if !s.cluUp (n / 8) then s else
  let x := s.eng n
  let s := match x.feed with
    | some _ => s
    | none => match s.nextQueue (58 + n) with
      | none => s
      | some (q, l) => match s.unit? l.uid with
        | none => s
        | some v =>
          let ue := s.ueOf v
          if !ue.isEmpty then (((ue.foldl State.ueMet s).unlink q l.uid l.loupe).1).bump .swcCnt 2
          else if v.frame.ftype ≠ ftPortData ∨ (s.itemOf n v.frame).isEmpty then (s.unlink q l.uid l.loupe).1
          else s.setEng n { x with feed := some (q, l.uid, s.itemOf n v.frame) }
  (s.drawFeed n).fillTxq n

/-- Split a word list after the first LAST. -/
def splitItem : List QWord → List QWord × List QWord
  | [] => ([], [])
  | x :: xs => if x.last then ([x], xs) else let (a, b) := splitItem xs; (x :: a, b)

/-- A scheduled SEND to an engine port (R183, R208): it goes ahead of every item of which no word has been taken, behind what is
still to be drawn of one of which some have. -/
def State.sendAhead (s : State) (n : Nat) (item : List QWord) : State :=
  let x := s.eng n
  if x.mid then
    let (cur, rest) := splitItem x.path
    if cur.any (·.last) then (s.setEng n { x with path := cur ++ item ++ rest }).fillTxq n
    else if x.feed.isSome then s.setEng n { x with next := item :: x.next }
    else (s.setEng n { x with path := cur ++ item }).fillTxq n
  else (s.setEng n { x with path := item ++ x.path }).fillTxq n

/-- Is engine `n` the window engine of an enabled window, and of which (R223)? -/
def State.windowOf (s : State) (n : Nat) : Option Nat :=
  [0, 1].findSome? (fun j => if s.is F.WIN_CFG_ENABLE (n / 8) j && s.get F.WIN_CFG_ENGINE (n / 8) j == n % 8
    then some (2 * (n / 8) + j) else none)

/-- Close the frame that the packer builds and offer it to the switch core (R209). A port without a subscriber sends nothing:
its words are discarded and counted as with ENABLE = 0. -/
def State.closeFrame (s : State) (n : Nat) : State :=
  let x := s.eng n
  match x.frame with
  | [] => s
  | w :: ws =>
    let s := (s.setEng n { x with frame := [] }).disarm (.rxPack n)
    let c := s.portCfg (58 + n)
    if !c.enable || (c.node == 0 && c.port == 0) then (s.bump .cluCnt (n / 8) 2).eput F.ENG_STATUS_RX_LOST 1 n else
    let inv := s.timeInvalid || (w :: ws).any (·.invalid)
    let f : Frame := Frame.withPayload
      { ftype := ftPortData, cls := c.cls, dual := c.dual, dstNode := c.node, dstPort := c.port, srcNode := s.sourceNode,
        srcPort := BitVec.ofNat 8 (58 + n), time := w.time, poison := (w :: ws).any (·.poison), timeInvalid := inv }
      ((w :: ws).map (·.w))
    (s.bump .cluCnt (n / 8) 1).emitOut f (58 + n)

/-- The local engine of cluster `k` whose turn it is at the packer: the first with a waiting word after the one served last (R209). -/
def State.packTurn (s : State) (k : Nat) : Option Nat :=
  ((List.range 8).map (fun i => ((s.clu k).turn + 1 + i) % 8)).find? (fun e => !(s.eng (8 * k + e)).rxq.isEmpty)

/-- A queue word as its reader sees it: one whose parity fails is poisoned (R210). -/
def QWord.read (w : QWord) : QWord := { w with poison := w.poison || w.parity }

/-- A poisoned word that is read counts once and raises ENG_POISON (R210). -/
def State.notePoison (s : State) (n : Nat) (w : QWord) : State :=
  if w.read.poison && !w.counted then (s.bump .cluCnt (n / 8) 0).raise 0x61 n else s

/-- PACKER_WORD (R209, R225): the RXQ word of the engine whose turn it is moves on, into the frame of its port or into the answer of
its window. -/
def State.packerWord (s : State) (n : Nat) : State :=
  let x := s.eng n
  match x.rxq with
  | [] => s
  | w :: rest =>
    if !s.cluUp (n / 8) || s.packTurn (n / 8) != some (n % 8) then s else
    let s := s.setClu (n / 8) { s.clu (n / 8) with turn := n % 8 }
    let s := (s.setEng n { x with rxq := rest }).notePoison n w
    let w := w.read
    match s.windowOf n with
    | some i => let v := tget {} s.wins i; { s with wins := tset s.wins i { v with answer := v.answer ++ [w] } }
    | none =>
      if !(s.portCfg (58 + n)).enable then (s.bump .cluCnt (n / 8) 2).eput F.ENG_STATUS_RX_LOST 1 n else
      let x := s.eng n
      let us := 1000 * s.eget F.ENG_QCFG_RX_PACK_US n
      let s := if x.frame.isEmpty ∧ us ≠ 0 then s.arm (.rxPack n) (w.at_ + us - s.now) else s
      let s := s.setEng n { x with frame := x.frame ++ [w] }
      let full := decide (x.frame.length + 1 ≥ s.eget F.ENG_QCFG_RX_MAX_W n)
      if w.last then s.closeFrame n
      else if full then (s.bump .cluCnt (n / 8) 3).closeFrame n
      else s

/-- RX_PACK_EXPIRE (R209). -/
def State.rxPackEnd (s : State) (n : Nat) : State :=
  match s.expire (.rxPack n) with
  | none => s
  | some s => s.closeFrame n

/-! ### Start, stop, clear (R216-R219) -/

/-- Stop causes of ENG_STATUS. -/
def scStop : Nat := 1
def scHalt : Nat := 2
def scParity : Nat := 3
def scPoison : Nat := 4
def scMode : Nat := 5
def scSafe : Nat := 6
def scSched : Nat := 7

/-- Stop an engine (R219). -/
def State.stopEngine (s : State) (n cause : Nat) : State :=
  if !s.running n then s else
  let part := s.eget F.ENG_STATUS_ISR_CNT n != 0 || s.eget F.ENG_STATUS_OSR_CNT n != 0
  let s := ((s.eput F.ENG_STATUS_RUNNING 0 n).eput F.ENG_STATUS_STALLED 0 n).eput F.ENG_STATUS_STOP_CAUSE cause n
  let s := if part then s.eput F.ENG_STATUS_PARTIAL 1 n else s
  s.setEng n { s.eng n with hold := 0 }

/-- Start an engine at `pc` (R216): its divider restarts at phase 0, and pins at a SAFE value return to it (R200). Its first instruction
executes `after` ns from the cluster clock edge at which the start reaches the island (R218). -/
def State.startEngine (s : State) (n pc : Nat) (after : Nat := 8) : State :=
  if s.running n then s else
  let s := ((s.eput F.ENG_STATUS_RUNNING 1 n).eput F.ENG_STATUS_STOP_CAUSE 0 n).eput F.ENG_STATUS_PC pc n
  let s := s.setEng n { s.eng n with rem := 0, edge := cluEdge s.now + after, first := true, hold := 0 }
  let k := n / 8
  let x := s.clu k
  (s.setClu k { x with safe := x.safe.filter (fun e => !s.owns n e.1) }).settleNet k

/-- The CRC register width of ENG_CRC_CFG, and INIT within it. -/
def State.crcWidth (s : State) (n : Nat) : Nat := 8 * 2 ^ s.eget F.ENG_CRC_CFG_WIDTH n
def State.crcInit (s : State) (n : Nat) : Nat := s.eget F.ENG_CRC_INIT_INIT n % 2 ^ s.crcWidth n

/-- CLEAR (R219, R233). -/
def State.clearEngine (s : State) (n : Nat) : State :=
  let k := n / 8
  let e := n % 8
  let s := ((s.wr .engOsr k e 0).wr .engIsr k e 0).wr .engXy k e 0
  let s := s.wr .engCrcVal k e (BitVec.ofNat 32 (s.crcInit n))
  let s := ((s.eput F.ENG_STATUS_ISR_CNT 0 n).eput F.ENG_STATUS_OSR_CNT 0 n).eput F.ENG_STATUS_PARTIAL 0 n
  s.setEng n { s.eng n with m := false, l := false, e := false, trig := false, stampBad := false, osrBad := false }

/-- CLK_RESTART (R217): every divider of the cluster restarts with its remainder cleared. -/
def State.clkRestart (s : State) (k : Nat) : State :=
  (List.range 8).foldl (fun s e =>
    let n := 8 * k + e
    s.setEng n { s.eng n with rem := 0, edge := cluEdge s.now + 4 * s.eget F.ENG_CLK_INT n }) s

/-- Engines of cluster `k` that an 8-bit mask names. -/
def maskEngines (k m : Nat) : List Nat := ((List.range 8).filter (fun e => m / 2 ^ e % 2 == 1)).map (fun e => 8 * k + e)

/-- START_MASK and STOP_MASK (R216): each engine starts at its own START_PC. -/
def State.startMask (s : State) (k m : Nat) : State :=
  (maskEngines k m).foldl (fun s n => s.startEngine n (s.eget F.ENG_CTL_START_PC n)) s
def State.stopMask (s : State) (k m : Nat) : State := (maskEngines k m).foldl (fun s n => s.stopEngine n scStop) s

/-- ENG_INJECT written (R221): the instruction waits for its edge. -/
def State.injectWrite (s : State) (n : Nat) (w : Word) : State :=
  (s.eput F.ENG_INJECT_PENDING 1 n).setEng n { s.eng n with inj := w &&& 0xFFFFFF, injAt := cluEdge s.now + 8 }

/-! ### SAFE, resets -/

/-- Entry into SAFE (R200): engines stop, and every output pin takes its SAFE value; HOLD keeps the level that it has. The pins of a
cluster in reset have theirs when it is released. -/
def State.cluSafe (s : State) (k : Nat) : State :=
  let s := (List.range 8).foldl (fun s e => s.stopEngine (8 * k + e) scSafe) s
  let x := s.clu k
  let s := (s.setClu k { x with ballLatch := x.latch, ballDirs := x.dirs, outs := [] }).settleNet k
  let codes := (List.range 32).filterMap (fun p =>
    let c := s.get F.PIN_CFG_SAFE k p
    if s.isOutput k p then some (p, if c = 0 then 4 + bit (s.outLevel k p) else c) else none)
  (s.setClu k { s.clu k with safe := codes }).settleNet k

/-- Entry into COMMISSION clears OUT_EN in every cluster (R199). -/
def State.cluCommission (s : State) : State := (List.range 8).foldl (fun s k => s.put F.CLU_CFG_OUT_EN 0 k) s

/-- Entry into RUN stops engines that run with NUM ≠ 0 (R214). -/
def State.cluRun (s : State) : State :=
  (List.range 64).foldl (fun s n =>
    if s.running n && s.eget F.ENG_CLK_NUM n != 0 then (s.stopEngine n scMode).raise 0x62 n else s) s

/-- A change of mode or of ILK moves the outputs of every cluster. -/
def State.settleAll (s : State) : State := (List.range 8).foldl State.settleNet s

/-- Hidden state of a cluster after its reset (R222): balls are released; the program memory, the supply and the SAFE values of pins
stay, everything else is cleared. The windows answer nothing any more. -/
def State.cluCleared (s : State) (k : Nat) : State :=
  let x := s.clu k
  let net := (List.range 32).foldl (fun (w : Word) p =>
    if x.drv.getLsbD p then w.setBits p p (bit (s.releasedLevel k p)) else w) x.net
  let y := x.setNet s.now net
  let s := s.setClu k { net := net, hist := y.hist, acc := net, supply := x.supply, safe := x.safe }
  let ws := s.wins.map (fun e => if e.1 / 2 = k then (e.1, { e.2 with answer := [] }) else e)
  let es := s.engs.map (fun (e : Nat × EngS) => if e.1 / 8 = k then (e.1, { badProg := e.2.badProg }) else e)
  let s := { s with engs := es, wins := ws }
  s.disarmAll (fun t => match t with
    | .rxPack n => n / 8 == k
    | .cosHold j _ => j == k
    | _ => false)

/-- A cluster comes out of reset: its bank monitor compares again (R196), and its inputs begin with the levels at the balls. -/
def State.cluReleased (s : State) (k : Nat) : State := (s.setClu k { s.clu k with acc := (s.clu k).net }).bankCompare k

end Sys2Proof.Machine
end

