-- ==== Sys2Proof/Machine/FacetOps.lean ====
section
/-!
DEFINITION. The instruction set of the facet engines (spec/09_facet_instruction_set.md, R227-R245), one operation an instruction,
and the engine clock edge that runs it (R213, R228, R229) or an injected one (R221).
-/
namespace Sys2Proof.Machine

/-- Operation code of an instruction word (R227). -/
def opOf (w : Word) : Nat := w.bits 23 20

/-- What an instruction does to the program counter (R228, R239, R245, R210). -/
inductive Flow where
  | next | jump (t : Nat) | halt | poison
  deriving DecidableEq, Repr

/-! ### Registers of an engine (R232) -/

def State.osr (s : State) (n : Nat) : Word := s.rd .engOsr (n / 8) (n % 8)
def State.isr (s : State) (n : Nat) : Word := s.rd .engIsr (n / 8) (n % 8)
def State.xReg (s : State) (n : Nat) : Nat := s.eget F.ENG_XY_X n
def State.yReg (s : State) (n : Nat) : Nat := s.eget F.ENG_XY_Y n
def State.pattern (s : State) (n : Nat) : Word := s.rd .engPattern (n / 8) (n % 8)
def State.crcVal (s : State) (n : Nat) : Word := s.rd .engCrcVal (n / 8) (n % 8)

def State.setOsr (s : State) (n : Nat) (w : Word) (cnt : Nat) : State :=
  ((s.wr .engOsr (n / 8) (n % 8) w).eput F.ENG_STATUS_OSR_CNT cnt n).setEng n { s.eng n with osrBad := false }
def State.setIsr (s : State) (n : Nat) (w : Word) (cnt : Nat) : State :=
  ((s.wr .engIsr (n / 8) (n % 8) w).eput F.ENG_STATUS_ISR_CNT cnt n).setEng n { s.eng n with stampBad := false }
def State.setX (s : State) (n v : Nat) : State := s.eput F.ENG_XY_X v n
def State.setY (s : State) (n v : Nat) : State := s.eput F.ENG_XY_Y v n
def State.setPattern (s : State) (n : Nat) (w : Word) : State :=
  (s.wr .engPattern (n / 8) (n % 8) w).setEng n { s.eng n with patBad := false }
def State.setCrc (s : State) (n : Nat) (w : Word) : State := s.wr .engCrcVal (n / 8) (n % 8) w

/-- Levels of the input pins: bit i from pin IN_BASE + i for i < IN_CNT, 0 above. -/
def State.inputPins (s : State) (n : Nat) : Word :=
  let base := s.eget F.ENG_PINMAP0_IN_BASE n
  (List.range (s.eget F.ENG_PINMAP0_IN_CNT n)).foldl (fun (w : Word) i => w.setBits i i (bit (s.pinIn (n / 8) (base + i)))) 0

/-- Write the output latches of the pins that the engine owns: pin OUT_BASE + i takes bit i, for i < OUT_CNT (R241). -/
def State.driveLatch (s : State) (n : Nat) (v : Word) : State :=
  let k := n / 8
  let base := s.eget F.ENG_PINMAP0_OUT_BASE n
  let x := s.clu k
  let latch := (List.range (s.eget F.ENG_PINMAP0_OUT_CNT n)).foldl (fun (w : Word) i =>
    if s.owns n (base + i) then w.setBits (base + i) (base + i) (bit (v.getLsbD i)) else w) x.latch
  s.setLatch k latch x.dirs

/-- Set the directions of the output pins that the engine owns (R241). -/
def State.setDirs (s : State) (n : Nat) (v : Word) : State :=
  let k := n / 8
  let base := s.eget F.ENG_PINMAP0_OUT_BASE n
  let x := s.clu k
  let dirs := (List.range (s.eget F.ENG_PINMAP0_OUT_CNT n)).foldl (fun (w : Word) i =>
    if s.owns n (base + i) then w.setBits (base + i) (base + i) (bit (v.getLsbD i)) else w) x.dirs
  s.setLatch k x.latch dirs

/-- Side-set of an instruction (R227): each side pin in use that the engine owns takes its level. -/
def State.sideSet (s : State) (n : Nat) (w : Word) : State :=
  if !w.getLsbD 19 then s else
  let k := n / 8
  let x := s.clu k
  let latch := [0, 1, 2, 3].foldl (fun (l : Word) i =>
    let p := s.eget (sidePin i) n
    if s.eis (sideEn i) n && s.owns n p then l.setBits p p (bit (w.getLsbD (15 + i))) else l) x.latch
  s.setLatch k latch x.dirs

/-- A source register by its code (R232). -/
def State.srcReg (s : State) (n c : Nat) : Word :=
  match c with
  | 0 => BitVec.ofNat 32 (s.xReg n)
  | 1 => BitVec.ofNat 32 (s.yReg n)
  | 2 => s.osr n
  | 3 => s.isr n
  | 4 => s.pattern n
  | 5 => s.inputPins n
  | 6 => s.crcVal n
  | _ => 0

/-- A destination register by its code (R232). -/
def State.dstReg (s : State) (n c : Nat) (v : Word) : State :=
  match c with
  | 0 => s.setX n (v.bits 15 0)
  | 1 => s.setY n (v.bits 15 0)
  | 2 => s.setOsr n v 0
  | 3 => s.setIsr n v 32
  | 4 => s.setPattern n v
  | 5 => s.driveLatch n v
  | 6 => s.setCrc n (BitVec.ofNat 32 (v.toNat % 2 ^ s.crcWidth n))
  | _ => s

/-! ### The CRC unit (R242) -/

/-- The low `w` bits in reverse order. -/
def revBits (w v : Nat) : Nat := (List.range w).foldl (fun r i => if v / 2 ^ i % 2 = 1 then r + 2 ^ (w - 1 - i) else r) 0

/-- One bit into the CRC register of width `w`. -/
def crcStep (w poly : Nat) (reflect : Bool) (c b : Nat) : Nat :=
  if reflect then
    let x := c / 2
    if (c + b) % 2 = 1 then Nat.xor x (revBits w poly) else x
  else
    let x := c * 2 % 2 ^ w
    if (c / 2 ^ (w - 1) + b) % 2 = 1 then Nat.xor x poly else x

/-- Feed the low `m` bits of `v`: bit 0 first when REFLECT = 1, else bit m - 1 first. -/
def State.crcFeed (s : State) (n : Nat) (v : Word) (m : Nat) : State :=
  let w := s.crcWidth n
  let poly := s.eget F.ENG_CRC_POLY_POLY n % 2 ^ w
  let refl := s.eis F.ENG_CRC_CFG_REFLECT n
  let order := if refl then List.range m else (List.range m).reverse
  let c := order.foldl (fun c i => crcStep w poly refl c (bit (v.getLsbD i))) ((s.crcVal n).toNat % 2 ^ w)
  s.setCrc n (BitVec.ofNat 32 c)

/-! ### Queues (R235) -/

/-- A word enters RXQ, or is discarded when the engine has no RXQ. `bad`: it is a stamp taken while ring time was not valid (R244). -/
def State.giveWord (s : State) (n : Nat) (w : Word) (last : Bool) (bad : Bool := false) : State :=
  if s.rxCap n = 0 then s.eput F.ENG_STATUS_RX_LOST 1 n else
  let x := s.eng n
  let q : QWord := { w := w, last := last, time := s.stampNs (9 + n / 8), at_ := s.now, invalid := s.timeInvalid || bad }
  s.setEng n { x with rxq := x.rxq ++ [q] }

/-- Does RXQ lack credit? -/
def State.rxFull (s : State) (n : Nat) : Bool := s.rxCap n != 0 && decide ((s.eng n).rxq.length ≥ s.rxCap n)

/-! ### Stalls (R229, R231, R236) -/

/-- Is the condition of a HOLD not met? -/
def State.holdWaits (s : State) (n : Nat) (w : Word) : Bool :=
  match w.bits 14 12 with
  | 0 => decide ((s.eng n).hold < w.bits 11 0)
  | 1 => !s.pinIn (n / 8) (w.bits 4 0)
  | 2 => s.pinIn (n / 8) (w.bits 4 0)
  | 3 => !(s.eng n).trig
  | 4 => (s.eng n).txq.isEmpty
  | 5 => !(s.clu (n / 8)).signals.getLsbD (w.bits 2 0)
  | _ => false

/-- Does the instruction stall in this clock? TAKE, GIVE, HOLD and STAMP with TO_RXQ are the only ones that can. -/
def State.stalls (s : State) (n : Nat) (w : Word) : Bool :=
  match opOf w with
  | 2 => !w.getLsbD 12 && (s.eng n).txq.isEmpty
  | 3 => s.rxFull n
  | 4 => s.holdWaits n w
  | 14 => w.getLsbD 14 && s.rxFull n
  | _ => false

/-! ### The operations (R231-R245) -/

/-- The bit count N of an instruction, if it is not reserved (R230, R231). -/
def bitCount (w : Word) : Option Nat := let n := w.bits 5 0; if n = 0 ∨ n > 32 then none else some n

/-- The low `n` bits of a word. -/
def lowBits (n : Nat) (w : Word) : Word := BitVec.ofNat 32 (w.toNat % 2 ^ n)

/-- SHIFTIN (R234). -/
def State.opShiftin (s : State) (n : Nat) (w : Word) : State × Flow :=
  match bitCount w with
  | none => (s, .next)
  | some m =>
    let v := match w.bits 14 13 with
      | 0 => s.inputPins n
      | 1 => BitVec.ofNat 32 (s.xReg n)
      | 2 => BitVec.ofNat 32 (s.yReg n)
      | _ => if w.getLsbD 9 then 0xFFFFFFFF else 0
    let v := lowBits m (if w.getLsbD 10 then ~~~v else v)
    let r := if w.getLsbD 12 then (s.isr n <<< m) ||| v else (s.isr n >>> m) ||| (v <<< (32 - m))
    let s := s.setIsr n r (min 32 (s.eget F.ENG_STATUS_ISR_CNT n + m))
    (if w.getLsbD 11 then s.crcFeed n v m else s, .next)

/-- SHIFTOUT (R234). -/
def State.opShiftout (s : State) (n : Nat) (w : Word) : State × Flow :=
  match bitCount w with
  | none => (s, .next)
  | some m =>
    let o := s.osr n
    let (v, o') := if w.getLsbD 12 then (o >>> (32 - m), o <<< m) else (lowBits m o, o >>> m)
    let v := if w.getLsbD 10 then lowBits m (~~~v) else v
    let s := s.setOsr n o' (min 32 (s.eget F.ENG_STATUS_OSR_CNT n + m))
    let s := match w.bits 14 13 with
      | 0 => s.driveLatch n v
      | 1 => s.setX n (v.bits 15 0)
      | 2 => s.setY n (v.bits 15 0)
      | _ => s.setPattern n ((s.pattern n <<< m) ||| v)
    (if w.getLsbD 11 then s.crcFeed n v m else s, .next)

/-- TAKE (R235, R210, R233). -/
def State.opTake (s : State) (n : Nat) (w : Word) : State × Flow :=
  let x := s.eng n
  match x.txq with
  | [] => (s.setEng n { x with e := true }, .next)
  | q :: _ =>
    let s := s.notePoison n q
    let q := { q.read with counted := true }
    let x := { s.eng n with path := q :: x.path.drop 1 }
    if q.poison && s.eis F.ENG_QCFG_POISON_HALT n then (s.setEng n x, .poison)
    else
      let s := s.setEng n { x with path := x.path.drop 1, txn := x.txn - 1, mid := !q.last, l := q.last, e := false }
      let s := match w.bits 14 13 with
        | 0 => s.setOsr n q.w 0
        | 1 => s.setX n (q.w.bits 15 0)
        | 2 => s.setY n (q.w.bits 15 0)
        | _ => s.setPattern n q.w
      (s, .next)

/-- GIVE (R235). -/
def State.opGive (s : State) (n : Nat) (w : Word) : State × Flow :=
  let last := w.getLsbD 12
  let src := w.bits 14 13
  let cnt := s.eget F.ENG_STATUS_ISR_CNT n
  let v : Word := match src with
    | 0 => if !w.getLsbD 11 then s.isr n else if cnt = 0 then 0 else s.isr n >>> (32 - cnt)
    | 1 => s.rd .engXy (n / 8) (n % 8)
    | 2 => s.crcVal n
    | _ => s.pattern n
  let s := s.giveWord n v last ((src == 0 && (s.eng n).stampBad) || (src == 3 && (s.eng n).patBad))
  (if src = 0 ∧ !w.getLsbD 10 then s.setIsr n 0 0 else s, .next)

/-- HOLD, when its condition is met (R236). -/
def State.opHold (s : State) (n : Nat) (w : Word) : State × Flow :=
  let s := match w.bits 14 12 with
    | 3 => s.setEng n { s.eng n with trig := false }
    | 5 =>
      let x := s.clu (n / 8)
      if w.getLsbD 3 then s.setClu (n / 8) { x with sigClr := x.sigClr ||| (1#8 <<< w.bits 2 0), sigAt := s.now } else s
    | _ => s
  (s, .next)

/-- BRANCH (R239). -/
def State.opBranch (s : State) (n : Nat) (w : Word) : State × Flow :=
  let x := s.eng n
  let holds := match w.bits 14 12 with
    | 0 => true
    | 1 => s.pinIn (n / 8) (w.bits 11 7)
    | 2 => !s.pinIn (n / 8) (w.bits 11 7)
    | 3 => s.xReg n != 0
    | 4 => s.yReg n != 0
    | 5 => x.m
    | 6 => x.l
    | _ => x.e
  (s, if holds then .jump (w.bits 6 0) else .next)

/-- LOOP (R239). -/
def State.opLoop (s : State) (n : Nat) (w : Word) : State × Flow :=
  if w.getLsbD 14 then
    if s.yReg n = 0 then (s, .next) else (s.setY n (s.yReg n - 1), .jump (w.bits 6 0))
  else
    if s.xReg n = 0 then (s, .next) else (s.setX n (s.xReg n - 1), .jump (w.bits 6 0))

/-- LOAD (R240). -/
def State.opLoad (s : State) (n : Nat) (w : Word) : State × Flow :=
  let v := w.bits 12 0
  let s := match w.bits 14 13 with
    | 0 => s.setX n v
    | 1 => s.setY n v
    | 2 => s.setOsr n (BitVec.ofNat 32 v) 0
    | _ => s.setCrc n (BitVec.ofNat 32 (s.crcInit n))
  (s, .next)

/-- The four bytes of a word in reverse order. -/
def swapBytes (w : Word) : Word := word4 (w.setWidth 8) ((w >>> 8).setWidth 8) ((w >>> 16).setWidth 8) ((w >>> 24).setWidth 8)

/-- Does a register hold a stamp taken while ring time was not valid (R244)? -/
def EngS.badStamp (x : EngS) (c : Nat) : Bool := (c == 2 && x.osrBad) || (c == 3 && x.stampBad) || (c == 4 && x.patBad)

/-- MOVE (R240); a stamp that it carries on stays what it is (R244). -/
def State.opMove (s : State) (n : Nat) (w : Word) : State × Flow :=
  let v := s.srcReg n (w.bits 14 12)
  let r := match w.bits 8 7 with
    | 0 => v
    | 1 => ~~~v
    | 2 => swapBytes v
    | _ => v + 1
  let bad := (s.eng n).badStamp (w.bits 14 12)
  let s := s.dstReg n (w.bits 11 9) r
  let x := s.eng n
  (if !bad then s else match w.bits 11 9 with
    | 2 => s.setEng n { x with osrBad := true }
    | 3 => s.setEng n { x with stampBad := true }
    | 4 => s.setEng n { x with patBad := true }
    | _ => s, .next)

/-- DRIVE and DIR (R241). -/
def State.opDrive (s : State) (n : Nat) (w : Word) : State × Flow := (s.driveLatch n (lowBits 8 w), .next)
def State.opDir (s : State) (n : Nat) (w : Word) : State × Flow := (s.setDirs n (lowBits 8 w), .next)

/-- SIGNAL (R238): the change takes effect at the next cluster clock. -/
def State.opSignal (s : State) (n : Nat) (w : Word) : State × Flow :=
  let x := s.clu (n / 8)
  let m : BitVec 8 := w.setWidth 8
  let x := if w.getLsbD 14 then { x with sigClr := x.sigClr ||| m } else { x with sigSet := x.sigSet ||| m }
  (s.setClu (n / 8) { x with sigAt := s.now }, .next)

/-- The signal bits at a later cluster clock: clears are applied before sets (R238). -/
def State.flowSignals (s : State) (k : Nat) : State :=
  let x := s.clu k
  if s.now ≤ x.sigAt then s
  else s.setClu k { x with signals := (x.signals &&& ~~~x.sigClr) ||| x.sigSet, sigClr := 0, sigSet := 0 }

/-- CRC (R242). -/
def State.opCrc (s : State) (n : Nat) (w : Word) : State × Flow :=
  match bitCount w with
  | none => (s, .next)
  | some m =>
    let v := match w.bits 14 13 with
      | 0 => s.osr n
      | 1 => s.isr n
      | 2 => BitVec.ofNat 32 (s.xReg n)
      | _ => BitVec.ofNat 32 (s.yReg n)
    let s := if w.getLsbD 12 then s.setCrc n (BitVec.ofNat 32 (s.crcInit n)) else s
    (s.crcFeed n v m, .next)

/-- MATCH (R243). -/
def State.opMatch (s : State) (n : Nat) (w : Word) : State × Flow :=
  match bitCount w with
  | none => (s, .next)
  | some m =>
    let eq := lowBits m (s.srcReg n (w.bits 14 12) ^^^ s.pattern n) == 0
    (s.setEng n { s.eng n with m := eq != w.getLsbD 11 }, .next)

/-- STAMP (R244). -/
def State.opStamp (s : State) (n : Nat) (w : Word) : State × Flow :=
  let t := s.stampNs (9 + n / 8)
  if w.getLsbD 14 then (s.giveWord n t (w.getLsbD 13), .next)
  else
    let s := s.setIsr n t 32
    (s.setEng n { s.eng n with stampBad := s.timeInvalid }, .next)

/-- HALT (R245). -/
def State.opHalt (s : State) (_n : Nat) (_w : Word) : State × Flow := (s, .halt)

/-- NOP (R245). -/
def State.opNop (s : State) (_n : Nat) (_w : Word) : State × Flow := (s, .next)

/-! ### The engine clock edge (R213, R228, R229) -/

/-- The divider at an edge: the next period in cluster clocks and the new remainder (R213). -/
def State.nextPeriod (s : State) (n : Nat) : Nat × Nat :=
  let sum := (s.eng n).rem + s.eget F.ENG_CLK_NUM n
  let den := s.eget F.ENG_CLK_DEN n
  if s.eget F.ENG_CLK_NUM n ≠ 0 ∧ sum ≥ den then (s.eget F.ENG_CLK_INT n + 1, sum - den) else (s.eget F.ENG_CLK_INT n, sum)

/-- Time passes to the next edge of the engine, and its divider runs on; pins and signals stand as they do at that edge (R228). -/
def State.toEdge (s : State) (n : Nat) : State :=
  let (p, r) := s.nextPeriod n
  let x := s.eng n
  let s := (s.advance (x.edge - s.now)).setEng n { x with edge := x.edge + 4 * p, rem := r }
  (s.flowPins (n / 8)).flowSignals (n / 8)

/-- The divider of a stopped engine has kept running (R221): its next edge is the first at or after `t`. -/
def State.divideTo (s : State) (n t : Nat) : State :=
  let x := s.eng n
  if t ≤ x.edge then s else
  let num := s.eget F.ENG_CLK_NUM n
  let den := s.eget F.ENG_CLK_DEN n
  let step := s.eget F.ENG_CLK_INT n * den + num
  let need := (t - x.edge + 3) / 4
  if step = 0 then s else
  let m := (need * den - x.rem + step - 1) / step
  let sum := x.rem + m * step
  s.setEng n { x with edge := x.edge + 4 * (sum / den), rem := sum % den }

/-- The program counter after an instruction. -/
def State.flow (s : State) (n : Nat) (f : Flow) : State :=
  let go := fun (pc : Nat) =>
    ((s.eput F.ENG_STATUS_PC (pc % 128) n).eput F.ENG_STATUS_STALLED 0 n).setEng n { s.eng n with first := true, hold := 0 }
  match f with
  | .next => go (s.eget F.ENG_STATUS_PC n + 1)
  | .jump t => go t
  | .halt => s.stopEngine n scHalt
  | .poison => s.stopEngine n scPoison

/-- The instruction at the program counter. -/
def State.fetch (s : State) (n : Nat) : Word := s.rd .engProg (n / 8) (128 * (n % 8) + s.eget F.ENG_STATUS_PC n)

/-- What a TAKE at this edge changes, as it stands before. -/
def State.takeNote (s : State) (n : Nat) (w : Word) : Took :=
  let x := s.eng n
  { at_ := s.now, instr := w, osr := s.osr n, xy := s.rd .engXy (n / 8) (n % 8), pattern := s.pattern n,
    status := s.rd .engStatus (n / 8) (n % 8), mid := x.mid, l := x.l, e := x.e, osrBad := x.osrBad, patBad := x.patBad,
    first := x.first, hold := x.hold }

/-- One engine clock edge that executes the instruction at PC, if it is of the kind `want` (R228, R229): a stalled instruction
applies its side-set in its first clock only, and HOLD CYCLES counts. An instruction whose parity fails at fetch stops the engine
(R220). -/
def State.engineEdge (s : State) (n : Nat) (want : Word → Bool) (op : State → Nat → Word → State × Flow) : State :=
  let w := s.fetch n
  let due := s.eis F.ENG_INJECT_PENDING n && decide ((s.eng n).edge ≥ (s.eng n).injAt)
  if !s.running n || !s.islandRuns (9 + n / 8) || due || !want w then s else
  let s := s.toEdge n
  if (s.eng n).badProg.contains (s.eget F.ENG_STATUS_PC n) then (s.stopEngine n scParity).raise 0x63 n else
  if s.stalls n w then
    let s := if (s.eng n).first then s.sideSet n w else s
    let x := s.eng n
    (s.setEng n { x with first := false, hold := x.hold + 1, stallAt := some s.now }).eput F.ENG_STATUS_STALLED 1 n
  else
    let first := (s.eng n).first
    let took := if opOf w == 2 then some (s.takeNote n w) else none
    let (s, f) := op s n w
    let s := if took.isSome then s.setEng n { s.eng n with took := took } else s
    let s := if first && f != .poison then s.sideSet n w else s
    s.flow n f

/-- The operation of an instruction word. -/
def State.operate (s : State) (n : Nat) (w : Word) : State × Flow :=
  match opOf w with
  | 0 => s.opShiftin n w
  | 1 => s.opShiftout n w
  | 2 => s.opTake n w
  | 3 => s.opGive n w
  | 4 => s.opHold n w
  | 5 => s.opBranch n w
  | 6 => s.opLoop n w
  | 7 => s.opLoad n w
  | 8 => s.opMove n w
  | 9 => s.opDrive n w
  | 10 => s.opDir n w
  | 11 => s.opSignal n w
  | 12 => s.opCrc n w
  | 13 => s.opMatch n w
  | 14 => s.opStamp n w
  | _ => if w.getLsbD 0 then s.opNop n w else s.opHalt n w

/-- FLUSH_TX (R211): the rest of an item that was being taken follows as long as its LAST word was not flushed. A TAKE of the same
cluster clock finds TXQ empty (R235): what it took is undone. -/
def State.flushTx (s : State) (n : Nat) : State :=
  let x := s.eng n
  let cut := { x with path := x.path.drop x.txn, txn := 0, mid := x.mid && !x.txq.any (·.last) }
  match x.took.filter (fun t => t.at_ / 4 == s.now / 4) with
  | none => s.setEng n cut
  | some t =>
    let s := ((s.wr .engOsr (n / 8) (n % 8) t.osr).wr .engXy (n / 8) (n % 8) t.xy).wr .engPattern (n / 8) (n % 8) t.pattern
    let s := s.wr .engStatus (n / 8) (n % 8) t.status
    let y := { cut with mid := t.mid && !x.l && !x.txq.any (·.last), l := t.l, osrBad := t.osrBad, patBad := t.patBad, took := none }
    if t.instr.getLsbD 12 then (s.setEng n { y with e := true }).flow n .next
    else (s.setEng n { y with e := t.e, first := false, hold := t.hold + 1 }).eput F.ENG_STATUS_STALLED 1 n

/-- FLUSH_RX (R211): a word given in the same cluster clock enters the emptied queue, and so does that of a GIVE or STAMP which stalled
in it (R235). -/
def State.flushRx (s : State) (n : Nat) : State :=
  let x := s.eng n
  let s := s.setEng n { x with rxq := x.rxq.filter (fun q => q.at_ / 4 == s.now / 4), stallAt := none }
  let w := s.fetch n
  if s.running n && x.stallAt.any (fun t => t / 4 == s.now / 4) && (opOf w == 3 || opOf w == 14) && !s.stalls n w then
    let (s, f) := s.operate n w
    s.flow n f
  else s

/-- Does an injected instruction stall? A HOLD CYCLES counts from nothing. -/
def State.injectStalls (s : State) (n : Nat) (w : Word) : Bool :=
  (s.setEng n { s.eng n with hold := 0 }).stalls n w

/-- INJECT_EXECUTE (R221): the injected instruction runs once in place of a fetch. One that would stall is not executed and sets
INJ_STALL. The program counter stays where it is but for a taken BRANCH or LOOP; a HALT stops a running engine. The edge is the first
that meets the timing of R218. -/
def State.injectEdge (s : State) (n : Nat) : State :=
  let run := s.running n
  let at_ := (s.eng n).injAt
  if !s.eis F.ENG_INJECT_PENDING n || !s.cluUp (n / 8) || (run && decide ((s.eng n).edge < at_)) then s else
  let w := (s.eng n).inj
  let s := (if run then s else s.divideTo n at_).toEdge n
  let s := s.eput F.ENG_INJECT_PENDING 0 n
  if s.injectStalls n w then s.eput F.ENG_STATUS_INJ_STALL 1 n else
  let (s, f) := s.operate n w
  match f with
  | .next => s.sideSet n w
  | .jump t =>
    let s := (s.sideSet n w).eput F.ENG_STATUS_PC (t % 128) n
    if run then (s.eput F.ENG_STATUS_STALLED 0 n).setEng n { s.eng n with first := true, hold := 0 } else s
  | .halt => if run then (s.sideSet n w).stopEngine n scHalt else s.sideSet n w
  | .poison => s.stopEngine n scPoison

end Sys2Proof.Machine
end

