-- ==== Sys2Proof/Machine/CanOps.lean ====
section
/-!
DEFINITION. The CAN controllers (spec/10_can_controllers.md, R246-R267): how a controller acts, records and their packing, the
transmit slot, retries, error states, identifier clash, rate detection, reference messages, wake. The error counters follow
ISO 11898-1 (R261; log entry 6).
-/
namespace Sys2Proof.Machine

def State.can (s : State) (n : Nat) : CanS := tget {} s.cans n
def State.setCan (s : State) (n : Nat) (x : CanS) : State := { s with cans := tset s.cans n x }
def State.canUp (s : State) : Bool := s.islandRuns 17

/-! ### How a controller acts (R248-R250) -/

/-- Does CANn_TX drive (R249)? -/
def State.canDrives (s : State) (n : Nat) : Bool :=
  s.islandUp 17 && s.is F.CAN_CFG_OUT_EN n && s.mode != .boot && s.mode != .recovery && s.ilkOk

/-- The OPMODE as which the controller behaves: 0 OFF, 1 NORMAL, 2 LISTEN, 3 RESTRICTED. -/
def State.canActs (s : State) (n : Nat) : Nat :=
  let m := (s.can n).opmode
  if (s.can n).rd.stage ≠ 0 then 2
  else if (m = 1 ∨ m = 3) ∧ !s.canDrives n then 2
  else if m = 1 ∧ s.mode = .safe then (if s.is F.CAN_CFG_SAFE_ACT n then 3 else 2)
  else m

/-- Does an attempt from before SLEEP still run (R266)? -/
def State.canLateRuns (s : State) (n : Nat) : Bool := (s.can n).late.any (fun e => decide (s.now ≤ e.2))

/-- The level of CANn_STB (R266). -/
def State.canStb (s : State) (n : Nat) : Bool :=
  if s.mode = .sleep ∧ !s.canLateRuns n then s.is F.CAN_WAKE_CFG_STB_SLEEP n else s.is F.CAN_WAKE_CFG_STB_RUN n

/-! ### Frame records (R254, R255) -/

/-- Fields of a record header. -/
def crFmt (h : List Word) : Nat := (h.getD 0 0).bits 29 28
def crIde (h : List Word) : Bool := (h.getD 0 0).getLsbD 27
def crRtr (h : List Word) : Bool := (h.getD 0 0).getLsbD 26
def crBrs (h : List Word) : Bool := (h.getD 0 0).getLsbD 25
def crTs (h : List Word) : Bool := (h.getD 0 0).getLsbD 21
def crEcho (h : List Word) : Bool := (h.getD 0 0).getLsbD 20
def crLen (h : List Word) : Nat := (h.getD 0 0).bits 11 0
def crId (h : List Word) : Nat := (h.getD 1 0).bits 28 0

/-- Valid data lengths of a format (R255). -/
def canLenOk (fmt len : Nat) : Bool :=
  if fmt = 0 then decide (len ≤ 8)
  else if fmt = 1 then decide (len ≤ 8) || [12, 16, 20, 24, 32, 48, 64].contains len
  else decide (1 ≤ len) && decide (len ≤ 1004)

/-- The checks of R255 on the words of a PORT_SEND or scheduled SEND with `bytes` valid bytes. -/
def State.canRecordOk (s : State) (n : Nat) (ws : List Word) (bytes : Nat) : Bool :=
  let fmt := crFmt ws
  decide (ws.length ≥ 5) && bytes == (if crRtr ws then 20 else 20 + crLen ws) &&
  (ws.getD 0 0).bits 31 30 == 0 && fmt != 3 && (fmt != 1 || s.is F.CAN_CFG_FD_EN n) && (fmt != 2 || s.is F.CAN_CFG_XL_EN n) &&
  canLenOk fmt (crLen ws) && !(crRtr ws && fmt != 0) && !(crBrs ws && fmt != 1) &&
  !((!crIde ws || fmt == 2) && decide (crId ws > 0x7FF))

/-- The header of a received frame's record, TIME being the ring time of its start-of-frame bit; LOST_BEFORE is set when it is
packed. -/
def canHeader (f : CanFrame) (time : Word) : List Word :=
  let w0 := ((((0 : Word).setBits 29 28 f.fmt.toNat).setBits 27 27 (bit f.ide)).setBits 26 26 (bit f.rtr)).setBits 25 25 (bit f.brs)
  let w0 := (w0.setBits 24 24 (bit f.esi)).setBits 23 23 (bit f.sec)
  let xl := f.fmt == 2
  [ w0.setBits 11 0 f.len.toNat, BitVec.ofNat 32 f.id.toNat,
    if xl then ((0 : Word).setBits 31 24 f.sdt.toNat).setBits 23 16 f.vcid.toNat else 0, if xl then f.af else 0, time ]

/-! ### Packing and delivery (R257) -/

/-- Does the port deliver at all: ENABLE and a SUBSCRIBER? -/
def State.portOpen (s : State) (p : Nat) : Bool :=
  let c := s.portCfg p
  c.enable && !(c.node == 0 && c.port == 0)

/-- A PORT_DATA frame of port `p` to its subscriber; `inv`: ring time has not been valid at some moment since its first word (R65). -/
def State.portData (s : State) (p : Nat) (time : Word) (inv : Bool) (ws : List Word) : Frame :=
  let c := s.portCfg p
  Frame.withPayload
    { ftype := ftPortData, cls := c.cls, dual := c.dual, dstNode := c.node, dstPort := c.port, srcNode := s.sourceNode,
      srcPort := BitVec.ofNat 8 p, time := time, timeInvalid := inv || s.timeInvalid } ws

/-- Records meet a closed port: counted, and noted for LOST_BEFORE. -/
def State.canLose (s : State) (n count : Nat) : State := (s.bump .canCnt n 2 count).setCan n { s.can n with lost := true }

/-- A record with LOST_BEFORE, when `lost`. -/
def lostBefore (lost : Bool) (ws : List Word) : List Word := if lost then ws.modifyHead (fun w => w.setBits 22 22 1) else ws

/-- Close the PORT_DATA frame being packed: the port delivers it, or its records are lost. -/
def State.canClose (s : State) (n : Nat) : State :=
  let x := s.can n
  if x.pack.isEmpty then s else
  let s := s.disarm (.canPack n)
  if s.portOpen (26 + n) then
    (s.setCan n { x with pack := [], packN := 0, gap := false, packLost := false }).emitOut
      (s.portData (26 + n) x.packTime x.packInv (lostBefore x.gap x.pack)) (26 + n)
  else (s.bump .canCnt n 2 x.packN).setCan n { x with pack := [], packN := 0, gap := true, packLost := false }

/-- Add one record to the frame being packed; `alone`: it opens its own frame. -/
def State.canPackRec (s : State) (n : Nat) (time : Word) (alone : Bool) (ws : List Word) : State :=
  let s := if alone || decide ((s.can n).pack.length + ws.length > s.get F.CAN_PACK_RX_MAX_W n) then s.canClose n else s
  let us := s.get F.CAN_PACK_RX_PACK_US n
  let first := (s.can n).pack.isEmpty
  let x := s.can n
  let s := s.setCan n { x with pack := x.pack ++ lostBefore x.lost ws, packTime := if first then time else x.packTime,
                               packInv := s.timeInvalid || (!first && x.packInv), packN := x.packN + 1, lost := false,
                               packLost := x.packLost || x.lost }
  if us = 0 then s.canClose n else if first then s.arm (.canPack n) (1000 * us) else s

/-- The data of an XL frame of more than 1,004 bytes in records: the first of 1,004 bytes, continuations of up to 1,020. -/
def canContinuations : Nat → List Byte → List (List Word)
  | 0, _ => []
  | _ + 1, [] => []
  | fuel + 1, bs =>
    let part := bs.take 1020
    ([((0 : Word).setBits 31 30 2).setBits 11 0 part.length] ++ bytesWords part) :: canContinuations fuel (bs.drop 1020)

/-- Deliver a record, with its data and its continuations; a port that is closed discards them. -/
def State.canDeliver (s : State) (n : Nat) (hdr : List Word) (data : List Byte) : State :=
  let more := canContinuations 2 (data.drop 1004)
  if !s.portOpen (26 + n) then s.canLose n (1 + more.length) else
  let time := hdr.getD 4 0
  let s := s.canPackRec n time false (hdr ++ bytesWords (data.take 1004))
  more.foldl (fun s r => s.canPackRec n time true r) s

/-- CAN_PACK_EXPIRE. -/
def State.canPackEnd (s : State) (n : Nat) : State :=
  match s.expire (.canPack n) with
  | none => s
  | some s => s.canClose n

/-! ### Transmit slot (R256, R258, R259) -/

/-- A unit of the vat as a frame for the bus; `none` when its record breaks R255. -/
def State.canTxOf (s : State) (n : Nat) (f : Frame) : Option CanTx :=
  if f.ftype = ftPortData ∧ s.canRecordOk n f.payload (unitBytes f) then
    some { hdr := f.payload.take 5, data := f.payload.drop 5, seq := f.seq, node := f.srcNode }
  else none

/-- May the controller begin to transmit: NORMAL, error-active or error-passive? -/
def State.canSends (s : State) (n : Nat) : Bool := s.canUp && s.canActs n == 1 && decide (s.get F.CAN_STAT_STATE n < 2)

/-- Put a frame into the slot. -/
def State.canLoad (s : State) (n : Nat) (t : CanTx) : State :=
  s.setCan n { s.can n with slot := some t, fails := 0, clash := 0, flush := false, started := false }

/-- Fill an empty slot with the first of what was due at instant `at_`: reference or follow-up, scheduled SEND, head unit of the vat
queues (R256). -/
def State.canFillAt (s : State) (n at_ : Nat) : State :=
  let x := s.can n
  if !s.canSends n || x.slot.isSome then s else
  match x.ref.filter (fun t => t.due ≤ at_), x.sends.filter (fun t => t.due ≤ at_), x.back with
  | some t, _, _ => (s.setCan n { x with ref := none }).canLoad n t
  | none, t :: _, _ => (s.setCan n { x with sends := x.sends.drop 1 }).canLoad n t
  | none, [], some t => (s.setCan n { x with back := none }).canLoad n t
  | none, [], none => match s.takeLocal (26 + n) with
    | (s, none) => s
    | (s, some (v, _)) => match s.canTxOf n v.frame with
      | some t => s.canLoad n t
      | none => s

def State.canFill (s : State) (n : Nat) : State := s.canFillAt n s.now

/-- A transmit report (R258). -/
def State.canReport (s : State) (n : Nat) (t : CanTx) (outcome : Nat) (time : Word) : State :=
  if t.ref ≠ 0 ∨ !crEcho t.hdr then s else
  let w0 := ((t.hdr.getD 0 0).setBits 31 30 1).setBits 19 16 outcome
  s.canDeliver n [w0, t.hdr.getD 1 0, t.hdr.getD 2 0, t.hdr.getD 3 0, time] []

/-- A record for the timestamp queue of a port (R181): the queue, whether records were lost, and whether this one was. -/
def tsRecord (s : State) (port : Nat) (time epoch : Word) (seq : BitVec 16) (node : BitVec 24) (lost : Bool) : List Word :=
  [ time, epoch, ((0 : Word).setBits 31 16 seq.toNat).setBits 7 0 port,
    (((0 : Word).setBits 31 8 node.toNat).setBits 1 1 (bit s.timeInvalid)).setBits 0 0 (bit lost) ]

/-- The 64-bit ring time of island `i` at a point `ago` ns ago (R180): the clocks since then have added TIM_INC each, and a step since
then does not move it (R178). -/
def State.ringAgo (s : State) (i ago : Nat) : Nat :=
  let seen := match tfind s.time.copies i with
    | some (_, t) => if s.now < t + 1000 then t else s.now
    | none => s.now
  let after := s.time.jumps.filter (fun j => decide (s.now < j.1 + ago) && decide (j.1 ≤ seen))
  let back := Int.ofNat (ago * (s.rd .timInc).toNat / 2 ^ 29) + (after.map (·.2)).sum
  (Int.ofNat (s.ringCopy i) - back).toNat

/-- Timestamp of a frame that was sent (R181, R258): the 17th record is lost and counted. -/
def State.canStamp (s : State) (n : Nat) (t : CanTx) (at_ : Nat) : State :=
  if t.ref ≠ 0 ∨ !crTs t.hdr then s else
  let x := s.can n
  if x.tsq.length ≥ 16 then (s.bump .canCnt n 14).setCan n { x with tsLost := true } else
  let r := tsRecord s (26 + n) (BitVec.ofNat 32 at_) (BitVec.ofNat 32 (at_ / 2 ^ 32)) t.seq t.node x.tsLost
  s.setCan n { x with tsq := x.tsq ++ [r], tsLost := false }

/-- CAN_TSQ_CTL (R181): the oldest record goes. -/
def State.canTsqPop (s : State) (n : Nat) : State := s.setCan n { s.can n with tsq := (s.can n).tsq.drop 1 }

/-- The frame leaves the slot. -/
def State.canLeave (s : State) (n : Nat) (t : CanTx) (outcome : Nat) (time : Word) : State :=
  let s := s.setCan n { s.can n with slot := none, fails := 0, clash := 0, flush := false, started := false }
  (if t.ref = 0 then s.progressOrder (26 + n) outcome t.seq else s).canReport n t outcome time

/-- The frame is abandoned (R260, R261): OUTCOME 1 ABANDONED or 3 BUS_OFF; a reference has no follow-up (R265). -/
def State.canAbandon (s : State) (n : Nat) (t : CanTx) (outcome : Nat) (time : Word) : State :=
  let s := if t.ref = 1 then s.put F.CAN_REF_STAT_LAST_ABANDONED 1 n else s
  (s.bump .canCnt n 9).canLeave n t outcome time

/-- The frame in the slot is flushed (R259). -/
def State.canGone (s : State) (n : Nat) (t : CanTx) (time : Word) : State := (s.bump .canCnt n 10).canLeave n t 2 time

/-- May an attempt of the frame in the slot end: NORMAL with CANn_TX driving; a frame in transmission at entry into SAFE
finishes (R250)? -/
def State.canTransmits (s : State) (n : Nat) : Bool :=
  s.canUp && (s.can n).opmode == 1 && (s.can n).rd.stage == 0 && s.canDrives n && decide (s.get F.CAN_STAT_STATE n < 2)

/-- A flush meets the frame in the slot (R259): one in transmission stays, with `cur` until the end of its current attempt; any other
goes at once. The spec does not show at what instants the bus lets an attempt run, so while one may run, whether one runs at the
flush is a free value (DESIGN CHOICE, log entry 50). -/
def State.canFlushSlot (s : State) (n : Nat) (cur : Bool) : State :=
  let x := s.can n
  match x.slot with
  | none => s
  | some t =>
    if x.started && !cur then s else
    let (runs, s) := if s.canTransmits n then s.freeIn 0 1 else (0, s)
    if runs = 1 then s.setCan n { s.can n with started := true, flush := x.flush || cur }
    else s.canGone n t (s.stampNs 17)

/-- PORT_FLUSH with TX (R259), and with `cur` = 0 entry into SAFE (R250): every queued frame goes at once; in the slot a frame in
transmission stays, until the end of its attempt if `cur`. Each is counted. Answers the cells freed in the vat. -/
def State.canFlushTx (s : State) (n : Nat) (cur : Bool) : State × Nat :=
  let x := s.can n
  let s := s.bump .canCnt n 10 (s.portUnits (26 + n) + x.sends.length + bit x.back.isSome + bit x.ref.isSome)
  ((s.setCan n { x with sends := [], back := none, ref := none }).canFlushSlot n cur).emptyPort (26 + n)

/-- The frame of an attempt whose start-of-frame bit was `sof` ns ago takes the slot and is in transmission: one that had not started
gave way to a reference, a follow-up or a SEND that was due by then (R183, R256). -/
def State.canBegin (s : State) (n sof : Nat) : State :=
  let at_ := s.now - sof
  let x := s.can n
  if x.started then s else
  let s := match x.slot with
    | none => s
    | some t =>
      let due (u : CanTx) : Bool := decide (u.due ≤ at_)
      if t.ref ≠ 0 ∨ !s.canSends n ∨ !(x.ref.any due || (!t.sched && x.sends.any due)) then s
      else if t.sched then s.setCan n { x with slot := none, sends := t :: x.sends }
      else s.setCan n { x with slot := none, back := some t }
  let s := s.canFillAt n at_
  s.setCan n { s.can n with started := (s.can n).slot.isSome }

/-- PORT_FLUSH with RX: records not yet offered to the switch core go; a loss that the first of them told of is told by the next. -/
def State.canFlushRx (s : State) (n : Nat) : State :=
  let x := s.can n
  (s.setCan n { x with pack := [], packN := 0, lost := x.lost || x.packLost, packLost := false }).disarm (.canPack n)

/-! ### Error states (R261) -/

/-- The error state that the counters give; entry into error-passive raises CAN_ERR_PASSIVE, entry into bus-off raises
CAN_BUS_OFF and abandons the frame in the slot. -/
def State.canState (s : State) (n : Nat) (time : Word) : State :=
  let st := s.get F.CAN_STAT_STATE n
  if st ≥ 2 then s else
  let tec := s.get F.CAN_STAT_TEC n
  if tec ≥ 256 then
    let s := (s.put F.CAN_STAT_STATE (if s.is F.CAN_CFG_AUTO_RECOVER n then 3 else 2) n).bump .canCnt n 11
    let s := s.raise 0x71 n
    match (s.can n).slot with
    | some t => s.canAbandon n t 3 time
    | none => s
  else if tec ≥ 128 ∨ s.get F.CAN_STAT_REC n ≥ 128 then
    if st = 0 then (s.put F.CAN_STAT_STATE 1 n).raise 0x70 n else s
  else s.put F.CAN_STAT_STATE 0 n

/-- The counter of an error kind. -/
def canErrIx : CanErr → Nat
  | .bit => 4 | .form => 6 | .stuff => 5 | .ack => 7 | .crc => 8 | .overload => 12 | .exception => 13

/-- Entry into SAFE (R250). -/
def State.canSafe (s : State) : State :=
  if !s.canUp then s else (List.range 32).foldl (fun s n => (s.canFlushTx n false).1) s

/-- Entry into COMMISSION clears OUT_EN in every controller (R249). -/
def State.canCommission (s : State) : State := (List.range 32).foldl (fun s n => s.put F.CAN_CFG_OUT_EN 0 n) s

/-- A write of RECOVER (R261): ignored when not bus-off. -/
def State.canRecover (s : State) (n : Nat) : State := if s.get F.CAN_STAT_STATE n = 2 then s.put F.CAN_STAT_STATE 3 n else s

/-- BUS_OFF_RECOVERY_DONE: the counters return to zero. -/
def State.canRecovered (s : State) (n : Nat) : State :=
  if !s.canUp || s.get F.CAN_STAT_STATE n != 3 then s else
  (((s.put F.CAN_STAT_STATE 0 n).put F.CAN_STAT_TEC 0 n).put F.CAN_STAT_REC 0 n).canFill n

/-- OPMODE_APPLY (R248): the OPMODE of CAN_CTL takes effect. -/
def State.canOpmode (s : State) (n : Nat) : State :=
  if !s.canUp || (s.can n).opmode == s.get F.CAN_CTL_OPMODE n then s else
  (s.setCan n { s.can n with opmode := s.get F.CAN_CTL_OPMODE n }).canFill n

/-- A write of OPMODE: a change to OFF is at once. -/
def State.canOpmodeWritten (s : State) (n : Nat) : State :=
  if s.get F.CAN_CTL_OPMODE n = 0 then s.setCan n { s.can n with opmode := 0 } else s

/-! ### Rate detection (R263, R264) -/

/-- Nominal candidates: PRESC, NQ, SPQ, SJW. -/
def canNominal : List (Nat × Nat × Nat × Nat) :=
  [(200, 80, 70, 10), (100, 80, 70, 10), (40, 80, 70, 10), (24, 80, 70, 10), (20, 80, 70, 10), (16, 80, 70, 10),
   (8, 80, 70, 10), (4, 80, 70, 10), (2, 100, 80, 20), (2, 80, 64, 16)]

/-- Data candidates. -/
def canData : List (Nat × Nat × Nat × Nat) := [(2, 80, 60, 20), (1, 80, 60, 20), (1, 40, 30, 10), (1, 32, 24, 8), (1, 20, 15, 5)]

/-- A bit-timing word of R251. -/
def canTiming (c : Nat × Nat × Nat × Nat) : Word :=
  ((((0 : Word).setBits 31 24 c.1).setBits 23 16 c.2.1).setBits 15 8 c.2.2.1).setBits 6 0 c.2.2.2

/-- Distance of a candidate's bit time from a pulse of `ns`, in 4/25 CAN clocks. -/
def canDistance (ns i : Nat) : Nat :=
  let c := canNominal.getD i (0, 0, 0, 0)
  (Int.ofNat (4 * ns) - Int.ofNat (25 * c.1 * c.2.1)).natAbs

/-- Insert a candidate by its distance, earlier ones first. -/
def insertCand (ns i : Nat) : List Nat → List Nat
  | [] => [i]
  | j :: js => if canDistance ns i < canDistance ns j then i :: j :: js else j :: insertCand ns i js

/-- Candidates from the nearest outwards; in table order when no pulse was seen. -/
def canOrder : List Nat → List Nat
  | [] => List.range 10
  | p :: ps => let ns := ps.foldl min p; (List.range 10).foldl (fun l i => insertCand ns i l) []

/-- START, its mode already checked: the survey begins. -/
def State.canRdStart (s : State) (n : Nat) : State :=
  let s := ((s.put F.CAN_RD_STAT_DONE 0 n).put F.CAN_RD_STAT_FAILED 0 n).put F.CAN_RD_STAT_FD_SEEN 0 n
  let s := (s.put F.CAN_RD_STAT_XL_SEEN 0 n).put F.CAN_RD_STAT_DATA_IDX 0xF n
  let s := (s.put F.CAN_RD_STAT_BUSY 1 n).setCan n { s.can n with rd := { stage := 1 } }
  (s.arm (.survey n) 50000000).arm (.rdTimeout n) (1000000000 * s.get F.CAN_RD_CTL_TIMEOUT_S n)

/-- Detection ends; the controller returns to its OPMODE. -/
def State.canRdEnd (s : State) (n : Nat) : State :=
  let s := (s.put F.CAN_RD_STAT_BUSY 0 n).setCan n { s.can n with rd := {} }
  (((s.disarm (.survey n)).disarm (.dwell n)).disarm (.rdTimeout n)).canFill n

/-- ABORT: no result. -/
def State.canRdAbort (s : State) (n : Nat) : State :=
  if s.is F.CAN_RD_STAT_BUSY n then (s.put F.CAN_RD_STAT_DONE 0 n).canRdEnd n else s

/-- RATE_DETECT_TIMEOUT. -/
def State.canRdTimeout (s : State) (n : Nat) : State :=
  match s.expire (.rdTimeout n) with
  | none => s
  | some s => (s.put F.CAN_RD_STAT_FAILED 1 n).canRdEnd n

/-- Hold the candidates in this order, the first one first. -/
def State.canHold (s : State) (n stage : Nat) (cands : List Nat) : State :=
  (s.setCan n { s.can n with rd := { stage := stage, cands := cands } }).arm (.dwell n)
    (1000000 * s.get F.CAN_RD_CTL_DWELL_MS n)

/-- RATE_SURVEY_END: 64 pulses, or 50 ms. -/
def State.canSurveyEnd (s : State) (n : Nat) (pulses : List Nat) : State :=
  if (s.can n).rd.stage ≠ 1 then s else
  let t := if pulses.length ≥ 64 then some s else s.expire (.survey n)
  match t with
  | none => s
  | some s => (s.disarm (.survey n)).canHold n 2 (canOrder (pulses.take 64))

/-- CANDIDATE_DWELL_EXPIRE: the next candidate, and after the last the first again. -/
def State.canDwellEnd (s : State) (n : Nat) : State :=
  match s.expire (.dwell n) with
  | none => s
  | some s => match (s.can n).rd.cands with
    | [] => s
    | c :: cs => s.canHold n (s.can n).rd.stage (cs ++ [c])

/-- A successful result is applied when APPLY is set (R263): the nominal candidate, and a data candidate when one is confirmed. -/
def State.canRdDone (s : State) (n nom : Nat) (data : Option Nat) : State :=
  let s := s.canRdEnd n
  if !s.is F.CAN_RD_CTL_APPLY n then s else
  let s := s.wr .canBtNom n 0 (canTiming (canNominal.getD nom (0, 0, 0, 0)))
  match data with
  | none => s
  | some d =>
    let c := canData.getD d (0, 0, 0, 0)
    ((s.wr .canBtFd n 0 (canTiming c)).put F.CAN_SSP_SSP_EN 1 n).put F.CAN_SSP_SSP_OFS (c.1 * c.2.2.1) n

/-- A frame seen while detection runs. -/
def State.canRdFrame (s : State) (n : Nat) (f : CanFrame) : State :=
  let r := (s.can n).rd
  let fd := f.fmt == 1
  let s := if fd then s.put F.CAN_RD_STAT_FD_SEEN 1 n else s
  let s := if f.fmt == 2 then s.put F.CAN_RD_STAT_XL_SEEN 1 n else s
  match r.cands with
  | [] => s
  | c :: _ =>
    if r.stage = 2 then
      let r := { r with conf := r.conf + bit f.crcOk, brs := r.brs || (fd && f.brs) }
      let s := s.setCan n { s.can n with rd := r }
      if r.conf < 2 then s else
      let s := (s.put F.CAN_RD_STAT_DONE 1 n).put F.CAN_RD_STAT_NOM_IDX c n
      if r.brs then s.canHold n 3 (List.range 5) else s.canRdDone n c none
    else if r.stage = 3 ∧ fd ∧ f.brs ∧ f.crcOk then
      let s := s.setCan n { s.can n with rd := { r with conf := r.conf + 1 } }
      if r.conf + 1 < 2 then s
      else (s.put F.CAN_RD_STAT_DATA_IDX c n).canRdDone n (s.get F.CAN_RD_STAT_NOM_IDX n) (some c)
    else s

/-! ### Reception and attempts (R257, R260-R262) -/

/-- Does the controller take part in the bus: not OFF and not bus-off? -/
def State.canOnBus (s : State) (n : Nat) : Bool := s.canUp && s.canActs n != 0 && decide (s.get F.CAN_STAT_STATE n < 2)

/-- REC after a frame received without error (ISO 11898-1): one less; above 127, a free value of 119 to 127. -/
def State.canRecGood (s : State) (n : Nat) : State :=
  let r := s.get F.CAN_STAT_REC n
  if r = 0 then s
  else if r ≤ 127 then s.put F.CAN_STAT_REC (r - 1) n
  else let (v, s) := s.freeIn 119 127; s.put F.CAN_STAT_REC v n

/-- Does CANn_TX drive, and does the OPMODE let it: not OFF (R248, R249)? -/
def State.canTx (s : State) (n : Nat) : Bool := s.canDrives n && s.canActs n != 0

/-- Does the controller acknowledge a frame that is correct through the CRC delimiter: NORMAL and RESTRICTED do, LISTEN does not
(R248)? -/
def State.canAcks (s : State) (n : Nat) : Bool := s.canTx n && (s.canActs n == 1 || s.canActs n == 3)

/-- Does the controller send error and overload flags: only NORMAL does (R248)? -/
def State.canFlags (s : State) (n : Nat) : Bool := s.canTx n && s.canActs n == 1

/-- CAN_FRAME_RECEIVE (R257). A controller does not receive a format that is not enabled. -/
def State.canReceive (s : State) (n : Nat) (f : CanFrame) : State :=
  if !s.canOnBus n then s else
  let s := s.setCan n { s.can n with acked := f.crcOk && s.canAcks n }
  let detecting := (s.can n).rd.stage != 0
  let s1 := if detecting then s.canRdFrame n f else s
  if !f.good || !f.crcOk || f.fmt == 3 || (f.fmt == 1 && !s.is F.CAN_CFG_FD_EN n) || (f.fmt == 2 && !s.is F.CAN_CFG_XL_EN n)
  then s1 else
  let s := s1.bump .canCnt n 0
  let s := if detecting then s else (s.canRecGood n).canState n 0
  s.canDeliver n (canHeader f (BitVec.ofNat 32 (s.ringAgo 17 f.sof))) f.bytes

/-- Is the condition by itself no error: an overload frame, a protocol exception? -/
def canErrQuiet : CanErr → Bool
  | .overload | .exception => true
  | .bit | .form | .stuff | .ack | .crc => false

/-- CAN_BUS_ERROR (R261): an error detected while receiving. An overload frame or a protocol exception is by itself no error; each
run of eight dominant bits after a flag adds 8 (ISO 11898-1), to TEC where the controller had sent the frame before it. An exception
is one only with PEX_EN. Rate detection, and a gated CANn_TX for TEC, leave the error counters unchanged (R249, R263). -/
def State.canBusErr (s : State) (n : Nat) (e : CanError) : State :=
  if !s.canOnBus n || (e.kind == .exception && !s.is F.CAN_CFG_PEX_EN n) then s else
  let s := (s.setCan n { s.can n with flagged := s.canFlags n && e.kind != .exception }).bump .canCnt n (canErrIx e.kind)
  if (s.can n).rd.stage ≠ 0 then s else
  let r := s.get F.CAN_STAT_REC n + (if e.exempt || canErrQuiet e.kind then 0 else 1) + (if e.own then 0 else 8 * e.extra8)
  let s := s.put F.CAN_STAT_REC (min r 255) n
  let s := if e.own && s.canFlags n then s.put F.CAN_STAT_TEC (min (s.get F.CAN_STAT_TEC n + 8 * e.extra8) 256) n else s
  s.canState n (s.stampNs 17)

/-- The steps of ring time applied up to the instant `ago` ns ago (R265). -/
def State.stepsAgo (s : State) (ago : Nat) : Nat := s.time.steps - bit (decide (s.now - ago < s.time.steppedAt))

/-- The coding of an XL frame between ADS and DAS with XL_TMS = 1 (R253): PWM with this symbol length and offset in CAN clocks. -/
def State.canPwm (s : State) (n : Nat) (t : CanTx) : Option (Nat × Nat) :=
  if crFmt t.hdr = 2 ∧ s.is F.CAN_CFG_XL_TMS n then
    some (s.get F.CAN_XPWM_PWMS n + s.get F.CAN_XPWM_PWML n, s.get F.CAN_XPWM_PWMO n)
  else none

/-- The frame in the slot has been sent (R258, R265); its start-of-frame bit lay `ago` ns ago. -/
def State.canSent (s : State) (n : Nat) (t : CanTx) (ago : Nat) : State :=
  let at_ := s.ringAgo 17 ago
  let steps := s.stepsAgo ago
  let s := s.bump .canCnt n 1
  let s := { s with wire := s.wire ++ [(26 + n, wordsBytes (t.hdr ++ t.data))] }
  let s := s.put F.CAN_STAT_TEC (s.get F.CAN_STAT_TEC n - 1) n
  let s := (s.canStamp n t at_).canLeave n t 0 (BitVec.ofNat 32 at_)
  let s :=
    if t.ref ≠ 1 then s else
    let w0 := 2 ^ 24 * (t.data.getD 0 0).bits 31 24 + 2 ^ 16 * (bit (!s.timeInvalid) + 2 * bit (steps != (s.can n).refSteps)) +
      (at_ / 2 ^ 32) % 2 ^ 16
    let fid := s.rd .canRefFid n
    let h0 := ((0 : Word).setBits 27 27 (bit (fid.getLsbD 31))).setBits 11 0 8
    let fu : CanTx :=
      { hdr := [h0, fid &&& 0x1FFFFFFF, 0, 0, 0], data := [BitVec.ofNat 32 w0, BitVec.ofNat 32 at_], ref := 2,
        due := s.now }
    (s.put F.CAN_REF_STAT_LAST_ABANDONED 0 n).setCan n { s.can n with ref := some fu, refSteps := steps }
  s.canState n (BitVec.ofNat 32 at_)

/-- A failed attempt (R260-R262). -/
def State.canFailed (s : State) (n : Nat) (t : CanTx) (e : CanError) (at_ : Word) : State :=
  let s := s.bump .canCnt n (canErrIx e.kind)
  let tec := s.get F.CAN_STAT_TEC n + (if e.exempt || canErrQuiet e.kind then 0 else 8) + 8 * e.extra8
  let s := s.put F.CAN_STAT_TEC (min tec 256) n
  let x := s.can n
  let fails := x.fails + 1
  let clash := if e.clash then x.clash + 1 else 0
  let s := s.setCan n { x with fails := fails, clash := if clash ≥ 3 then 0 else clash,
                               flagged := s.canFlags n && e.kind != .exception }
  let s :=
    if clash < 3 then s else
    let w := (((0 : Word).setBits 31 31 1).setBits 30 30 (bit (crIde t.hdr))).setBits 28 0 (crId t.hdr)
    ((s.wr .canClash n 0 w).bump .canCnt n 15).raise 0x72 n
  let s := s.canState n at_
  if (s.can n).slot.isNone then s
  else if x.flush then s.canGone n t at_
  else
    let lim := s.get F.CAN_CFG_RETRY_LIM n
    if lim ≠ 255 ∧ fails ≥ lim + 1 then s.canAbandon n t 1 at_ else s

/-- Where the controller checks a data bit it sends, in CAN clocks after the start of the bit (R252): at the secondary sample point
LOOP_DLY + SSP_OFS with SSP_EN = 1, else at the sample point PRESC × SPQ of the data phase. -/
def State.canCheckPoint (s : State) (n : Nat) (t : CanTx) : Nat :=
  if s.is F.CAN_SSP_SSP_EN n then s.get F.CAN_SSP_LOOP_DLY n + s.get F.CAN_SSP_SSP_OFS n
  else if crFmt t.hdr = 2 then s.get F.CAN_BT_XL_PRESC n * s.get F.CAN_BT_XL_SPQ n
  else s.get F.CAN_BT_FD_PRESC n * s.get F.CAN_BT_FD_SPQ n

/-- What an attempt leaves in the controller: the loop delay measured at the edge of R252, where it checked its data bits, and the
coding of an XL frame's data phase (R253). -/
def State.canLoop (s : State) (n : Nat) (t : CanTx) (a : CanAttempt) : State :=
  if crFmt t.hdr = 0 then s else
  let s := match a.loopDly with
    | some d => s.put F.CAN_SSP_LOOP_DLY (min d 255) n
    | none => s
  let x := s.can n
  s.setCan n { x with ssp := some (s.canCheckPoint n t), pwm := if crFmt t.hdr = 2 then s.canPwm n t else x.pwm }

/-- Has the frame a data phase at the data bit rate: XL, or FD with BRS? -/
def crFast (h : List Word) : Bool := crFmt h == 2 || (crFmt h == 1 && crBrs h)

/-- How the attempt ends (R252): a loop delay above 127 clocks ends an FD or XL frame with a bit error, and so does a returning level
that is not the bit's where the controller checks it; the latter is the error of R262 when that bit was recessive. -/
def State.canResult (s : State) (n : Nat) (t : CanTx) (a : CanAttempt) : CanOutcome :=
  if crFmt t.hdr ≠ 0 ∧ a.loopDly.any (fun d => d > 127) then .error { kind := .bit }
  else if crFast t.hdr ∧ a.wrong.contains (s.canCheckPoint n t) then .error { kind := .bit, clash := a.recessive }
  else a.result

/-- The end of the attempt that ran at entry into SLEEP (R266): a frame that was sent was on the bus. -/
def State.canLateEnd (s : State) (n : Nat) (a : CanAttempt) : State :=
  match (s.can n).late with
  | none => s
  | some (t, d) =>
    let sent := decide (s.now ≤ d) && decide (s.now - a.sof + 1000000 ≤ d) && a.result == .sent
    let s := s.setCan n { s.can n with late := none }
    if sent then { s with wire := s.wire ++ [(26 + n, wordsBytes (t.hdr ++ t.data))] } else s

/-- CAN_ATTEMPT_END (R260). -/
def State.canAttempt (s : State) (n : Nat) (a : CanAttempt) : State :=
  if s.mode = .sleep then s.canLateEnd n a
  else if !s.canTransmits n then s else
  let s := s.canBegin n a.sof
  match (s.can n).slot with
  | none => s
  | some t =>
    let s := s.canLoop n t a
    let w := BitVec.ofNat 32 (s.ringAgo 17 a.sof)
    let s := match s.canResult n t a with
      | .sent => s.canSent n t a.sof
      | .arbLost =>
        let s := s.bump .canCnt n 3
        if (s.can n).flush then s.canGone n t w else s
      | .error e => s.canFailed n t e w
    s.canFill n

/-! ### Reference messages (R265) -/

/-- REFERENCE_RELEASE: at the next instant at which the 64-bit ring time is a multiple of the period, in NORMAL with CANn_TX driving;
bus-off only holds what is released. -/
def State.canReference (s : State) (n : Nat) : State :=
  if !s.is F.CAN_REF_CFG_ENABLE n || !s.canUp || s.canActs n != 1 then s else
  let p := 1000 * s.get F.CAN_REF_CFG_PERIOD_US n
  if p = 0 then s else
  let s := s.advanceRing ((s.ring64 / p + 1) * p)
  let x := s.can n
  if x.ref.isSome || x.slot.any (fun t => t.ref != 0) then s.sat F.CAN_REF_STAT_SKIP_CNT n else
  let sc := (s.get F.CAN_REF_STAT_SC n + 1) % 256
  let s := s.put F.CAN_REF_STAT_SC sc n
  let id := s.rd .canRefId n
  let h0 := ((0 : Word).setBits 27 27 (bit (id.getLsbD 31))).setBits 11 0 1
  let t : CanTx :=
    { hdr := [h0, id &&& 0x1FFFFFFF, 0, 0, 0], data := [BitVec.ofNat 32 (2 ^ 24 * sc)], ref := 1, due := s.now }
  (s.setCan n { x with ref := some t }).canFill n

/-! ### Wake (R266) -/

/-- The data bytes 0-7 of a frame as two words. -/
def canWakeData (f : CanFrame) : List Word := (bytesWords (f.bytes.take 8) ++ [0, 0]).take 2

/-- The number of data bytes that the mask pair selects up to its highest selected byte. -/
def maskBytes (m0 m1 : Word) : Nat :=
  let bs := wordsBytes [m0, m1]
  (List.range 8).foldl (fun n i => if bs.getD i 0 = 0 then n else i + 1) 0

/-- Is the frame a wake frame of controller `n`? -/
def State.canWakes (s : State) (n : Nat) (f : CanFrame) : Bool :=
  let m0 := s.rd .canWufDmask n 0
  let m1 := s.rd .canWufDmask n 1
  let d := canWakeData f
  f.crcOk && !f.rtr && (f.fmt == 0 || (f.fmt == 1 && m0 == 0 && m1 == 0)) &&
  f.ide == s.is F.CAN_WUF_ID_IDE n &&
  ((BitVec.ofNat 32 f.id.toNat ^^^ s.rd .canWufId n) &&& s.rd .canWufIdmask n &&& 0x1FFFFFFF) == 0 &&
  ((d.getD 0 0 ^^^ s.rd .canWufData n 0) &&& m0) == 0 && ((d.getD 1 0 ^^^ s.rd .canWufData n 1) &&& m1) == 0 &&
  decide (maskBytes m0 m1 ≤ f.len.toNat)

/-- Does what controller `n` sees in SLEEP wake the hub: a dominant level (`none`) or a frame? -/
def State.canWakeHit (s : State) (n : Nat) (f : Option CanFrame) : Bool :=
  s.mode == .sleep && match f with
  | none => s.get F.CAN_WAKE_CFG_WAKE_MODE n == 1
  | some f => s.get F.CAN_WAKE_CFG_WAKE_MODE n == 2 && s.canWakes n f

/-- CAN_WAKE_STAT of the controller that wakes the hub. -/
def State.canWoke (s : State) (n : Nat) (f : Option CanFrame) : State :=
  s.wr .canWakeStat n 0 (match f with
    | none => ((0 : Word).setBits 31 31 1).setBits 30 29 1
    | some f => (((0 : Word).setBits 31 31 1).setBits 30 29 2).setBits 28 0 f.id.toNat)

/-- Hidden state of the controllers after a reset of their island. -/
def State.canCleared (s : State) : State :=
  { s.disarmAll (fun t => match t with
      | .canPack _ => true | .survey _ => true | .dwell _ => true | .rdTimeout _ => true | _ => false) with cans := [] }

/-- What SLEEP leaves of the controllers: the frames whose attempts may still run, for 1 ms at most (R266). -/
def State.canLate (s : State) : Tab CanS :=
  s.cans.filterMap (fun e => match e.2.slot with
    | some t => if s.canTransmits e.1 then some (e.1, { late := some (t, s.now + 1000000) }) else none
    | none => none)

/-- CAN_STAT as it reads: TX_GATED is derived, BUS_IDLE is a free value of the bus unless the controller is off (log entry 1). -/
def State.canStat (s : State) (n : Nat) : Word :=
  let w := (s.rd .canStat n).setBits 29 29 (bit (!s.canDrives n))
  w.setBits 28 28 (if s.canUp && s.canActs n != 0 then Config.freeResult n s.now else 0)

end Sys2Proof.Machine
end

