-- ==== Sys2Proof/Machine/MacOps.lean ====
section
/-!
DEFINITION. The Ethernet MACs (spec/11_ethernet_macs.md, R268-R289): link state, output gating, queues and the transmit slot,
collisions and back-off, reception and filtering, commissioning and loupe frames, packing, timestamps, MDIO, wake.
-/
namespace Sys2Proof.Machine

def State.mac (s : State) (m : Nat) : MacS := tget {} s.macs m
def State.setMac (s : State) (m : Nat) (x : MacS) : State := { s with macs := tset s.macs m x }
def State.macUp (s : State) : Bool := s.islandRuns 18
def macRgmii (m : Nat) : Bool := decide (m ≥ 16)

/-! ### Link state, gating (R270, R273, R274) -/

def State.macEn (s : State) (m : Nat) : Bool := s.is F.MAC_CFG_MAC_EN m

/-- Speed in use: 0 10 Mb/s, 1 100 Mb/s, 2 1000 Mb/s. -/
def State.macSpeed (s : State) (m : Nat) : Nat :=
  if macRgmii m then (if s.is F.MAC_CFG_INBAND m then (s.mac m).inSpeed.toNat else s.get F.MAC_CFG_SPEED m) else 0

def State.macFull (s : State) (m : Nat) : Bool :=
  macRgmii m && (if s.is F.MAC_CFG_INBAND m then (s.mac m).inDuplex else s.is F.MAC_CFG_FULL_DUPLEX m)

def State.macLink (s : State) (m : Nat) : Bool :=
  if macRgmii m then (if s.is F.MAC_CFG_INBAND m then (s.mac m).inLink else (s.mac m).rxc) else s.macEn m

/-- One bit time in ns. -/
def State.macBit (s : State) (m : Nat) : Nat := match s.macSpeed m with | 0 => 100 | 1 => 10 | _ => 1

/-- May the MAC drive its medium: a T1S MAC by R273, an RGMII MAC outside BOOT and RECOVERY (R274)? -/
def State.macDrives (s : State) (m : Nat) : Bool :=
  s.islandUp 18 && s.mode != .boot && s.mode != .recovery &&
  (macRgmii m || (s.is F.MAC_CFG_OUT_EN m && s.ilkOk))

/-- May an attempt run (R272-R274)? -/
def State.macMayRun (s : State) (m : Nat) : Bool := s.macUp && s.macEn m && s.macDrives m

/-- May this frame take the slot now: OUT_EN gates data of PORT_SEND and scheduled SEND on an RGMII MAC (R274)? -/
def State.macMay (s : State) (m : Nat) (t : MacTx) : Bool := decide (t.kind ≥ 2) || s.is F.MAC_CFG_OUT_EN m

/-- Is the MAC the commissioning port (R25)? -/
def State.isComm (s : State) (m : Nat) : Bool := s.commPort == some (macPort m)

/-- Apply a change that may move the link: a fall counts in MAC_LINK_DOWN, and raises MAC_LINK_DOWN while MAC_EN = 1. -/
def State.macLinkChange (s : State) (m : Nat) (f : State → State) : State :=
  let t := f s
  if s.macUp && s.macLink m && !t.macLink m then
    let t := t.macCount m 27
    if t.macEn m then t.raise 0x78 m else t
  else t

/-- GMN_RXC_CHANGE (R270). -/
def State.macRxc (s : State) (m : Nat) (runs : Bool) : State :=
  s.macLinkChange m (fun s => s.setMac m { s.mac m with rxc := runs })

/-- A frame holds the slot from the start of its first attempt (R279): does the one in it still wait for that? -/
def MacS.waits (x : MacS) (now : Nat) : Bool :=
  decide (x.phase = 0) && !x.tried || decide (x.phase = 1) && decide (now < x.start)

/-- MAC_STAT as it reads; TX_BUSY tells of a frame that holds the slot (R279, R289). -/
def State.macStat (s : State) (m : Nat) : Word :=
  let w := ((0 : Word).setBits 5 5 (bit (!s.macDrives m))).setBits 4 4 (bit ((s.mac m).slot.isSome && !(s.mac m).waits s.now))
  ((w.setBits 3 3 (bit (s.macFull m))).setBits 2 1 (s.macSpeed m)).setBits 0 0 (bit (s.macLink m))

/-! ### Addresses and frame bytes -/

/-- The six bytes of an address held in two registers. -/
def macAddrBytes (hi lo : Word) : List Byte := wordBytes hi ++ (wordBytes lo).drop 2
def State.macAddr (s : State) (m : Nat) : List Byte := macAddrBytes (s.rd .macAddr0 m) (s.rd .macAddr1 m)
def State.macPeer (s : State) (m : Nat) : List Byte := macAddrBytes (s.rd .macPeer0 m) (s.rd .macPeer1 m)
def macBroadcast : List Byte := List.replicate 6 0xFF
def isBcastAddr (a : List Byte) : Bool := a == macBroadcast
def isMcastAddr (a : List Byte) : Bool := (a.getD 0 0).getLsbD 0 && !isBcastAddr a

/-- EtherType 0x88B5 of Yarru frames (R25). -/
def commType : List Byte := [0x88, 0xB5]

/-- The frame check of Ethernet bytes, in the order of the medium: least significant byte first (PRESUMED, IEEE 802.3; log
entry 7). -/
def macFcs (bs : List Byte) : List Byte := (wordBytes (crc32 bs)).reverse

/-- Zero bytes up to 60 bytes. -/
def padTo60 (bs : List Byte) : List Byte := bs ++ List.replicate (60 - bs.length) 0

/-- The bytes that go onto the medium (R278): unchanged with FCS_KEEP, else padded and with their frame check. -/
def MacTx.onWire (t : MacTx) : List Byte :=
  if t.hdr.getLsbD 29 then t.bytes else let p := padTo60 t.bytes; p ++ macFcs p

/-- Do the last four bytes check the others? -/
def fcsGood (bs : List Byte) : Bool :=
  decide (bs.length ≥ 4) && macFcs (bs.take (bs.length - 4)) == bs.drop (bs.length - 4)

/-! ### Transmit records (R276, R277) -/

/-- The checks of R277 on a record with `bytes` valid bytes. -/
def macRecordOk (ws : List Word) (bytes : Nat) : Bool :=
  let h := ws.getD 0 0
  let len := h.bits 10 0
  decide (ws.length ≥ 1) && bytes == 4 + len && h.bits 31 30 == 0 && len != 0 &&
  decide (len ≥ (if h.getLsbD 29 then 64 else 14))

/-- A record as a frame for the medium. -/
def macTxOf (f : Frame) (kind : Nat) : Option MacTx :=
  if macRecordOk f.payload (unitBytes f) then
    let h := f.payload.getD 0 0
    some { hdr := h, bytes := (wordsBytes (f.payload.drop 1)).take (h.bits 10 0), kind := kind, seq := f.seq, node := f.srcNode }
  else none

/-- A Yarru frame framed for an RGMII port (R25, R284). -/
def State.macYarru (s : State) (m : Nat) (v : VUnit) (kind : Nat) : MacTx :=
  let f := v.frame
  let body := wordsBytes (f.header ++ f.payload ++ f.gcm ++ [f.fcs, v.rind])
  { bytes := s.macPeer m ++ s.macAddr m ++ commType ++ body, kind := kind, seq := f.seq, node := f.srcNode }

/-- What a vat unit becomes, and its MAC queue (R279): PORT_SEND's PRIO stands in word 6 of the internal unit; PORT_DATA from
elsewhere for the commissioning port is a frame for its host. `none`: nothing that this port can send. -/
def State.macUnit (s : State) (m : Nat) (v : VUnit) (l : Link) : Option (MacTx × Nat) :=
  if l.loupe.isSome then (if macRgmii m then some (s.macYarru m v 3, 0) else none)
  else if v.frame.ftype = ftPortData ∧ !(v.frame.opcode = 0 && s.isComm m) then
    (macTxOf v.frame 0).map (fun t => (t, if v.frame.opcode = 0 then 0 else v.frame.w6.bits 9 8))
  else if s.isComm m then some (s.macYarru m v 2, s.get F.MAC_CFG_CTRL_PRIO m)
  else none

/-! ### Queues and slot (R279) -/

def State.macQueue (s : State) (m q : Nat) : List MacTx := tget [] (s.mac m).queues q
def State.setMacQueue (s : State) (m q : Nat) (l : List MacTx) : State :=
  let x := s.mac m
  s.setMac m { x with queues := tset x.queues q l }

/-- The bytes in a queue of 2,048; a frame that it gave and that waits for its first attempt is one of them. -/
def State.macBytes (s : State) (m q : Nat) : Nat :=
  let x := s.mac m
  let waiting := match x.slot with
    | some t => if t.kind ≠ 1 ∧ x.slotQueue = q ∧ x.waits s.now = true then t.bytes.length else 0
    | none => 0
  ((s.macQueue m q).map (fun y => y.bytes.length)).sum + waiting

/-- Has a queue of 2,048 bytes room for the frame? -/
def State.macRoom (s : State) (m q : Nat) (t : MacTx) : Bool := decide (s.macBytes m q + t.bytes.length ≤ 2048)

/-- The first head unit, class 7 first, that its MAC queue has room for or that the port cannot send. -/
def State.macHead (s : State) (m : Nat) : Option (Nat × Link × VUnit × Option (MacTx × Nat)) :=
  [7, 6, 5, 4, 3, 2, 1, 0].findSome? (fun c =>
    let q := 8 * macPort m + c
    match s.queue q with
    | [] => none
    | l :: _ => if !s.mayLeave l then none else
      match s.unit? l.uid with
      | none => none
      | some v => match s.macUnit m v l with
        | some (t, mq) => if s.macRoom m mq t then some (q, l, v, some (t, mq)) else none
        | none => some (q, l, v, none))

/-- The feeder takes one unit from the port's vat queues. -/
def State.macFeed (s : State) (m : Nat) : State :=
  if !s.macUp || !s.macEn m then s else
  match s.macHead m with
  | none => s
  | some (q, l, v, x) =>
    let ue := s.ueOf v
    let s := (s.unlink q l.uid l.loupe).1
    if !ue.isEmpty then (ue.foldl State.ueMet s).bump .swcCnt 2
    else match x with
      | none => s
      | some (t, mq) => s.setMacQueue m mq (s.macQueue m mq ++ [t])

/-- The attempt of the frame in the slot starts at instant `at_` on the interval clock; its start-frame delimiter ends 64 bit
times later. -/
def State.macStart (s : State) (m at_ : Nat) : State :=
  let d := at_ - s.now + 64 * s.macBit m
  let sfd := (s.advance d).ringCopy 18
  s.setMac m { s.mac m with phase := 1, tried := true, start := at_, sfd := sfd }

/-- A frame takes the slot: in half duplex it defers, in full duplex it starts when the gap of 96 bit times is over. -/
def State.macLoad (s : State) (m : Nat) (t : MacTx) : State :=
  let x := s.mac m
  let s := s.setMac m { x with slot := some t, phase := 0, cols := 0, tried := false, flush := false }
  if s.macFull m then s.macStart m (max s.now (x.lastEnd + 96 * s.macBit m)) else s

/-- The oldest frame that may go of the highest-numbered queue that has one: (queue, position, frame). -/
def State.macNext (s : State) (m : Nat) : Option (Nat × Nat × MacTx) :=
  [3, 2, 1, 0].findSome? (fun q =>
    let l := s.macQueue m q
    match l.findIdx? (s.macMay m) with
    | some i => l[i]?.map (fun t => (q, i, t))
    | none => none)

/-- A frame in the slot that waits for its first attempt heads its queue again, or the SENDs. -/
def State.macYield (s : State) (m : Nat) : State :=
  let x := s.mac m
  match x.slot with
  | none => s
  | some t =>
    if x.flush ∨ !x.waits s.now then s
    else if t.kind = 1 then s.setMac m { x with slot := none, phase := 0, sends := t :: x.sends }
    else (s.setMac m { x with slot := none, phase := 0 }).setMacQueue m x.slotQueue (t :: s.macQueue m x.slotQueue)

/-- Fill the slot unless a frame holds it: a scheduled SEND whose instant has come, else a queued frame. -/
def State.macFill (s : State) (m : Nat) : State :=
  if !s.macMayRun m then s else
  let s := s.macYield m
  let x := s.mac m
  if x.slot.isSome then s else
  match x.sends.findIdx? (s.macMay m) with
  | some i => match x.sends[i]? with
    | some t => (s.setMac m { x with sends := x.sends.eraseIdx i }).macLoad m t
    | none => s
  | none => match s.macNext m with
    | some (q, i, t) =>
      let s := s.setMacQueue m q ((s.macQueue m q).eraseIdx i)
      (s.setMac m { s.mac m with slotQueue := q }).macLoad m t
    | none => s

/-- UNIT_TRANSMIT for a MAC port: the feeder moves one unit and the slot is filled. -/
def State.macTransmit (s : State) (m : Nat) : State := (s.macFeed m).macFill m

/-! ### Packing and delivery (R283) -/

/-- Records meet a closed port: counted, and noted for LOST_BEFORE. -/
def State.macLose (s : State) (m count : Nat) : State :=
  let s := s.macCount m 22 count
  s.setMac m { s.mac m with lost := true }

/-- Close the PORT_DATA frame being packed: the port delivers it, or its records are lost. -/
def State.macClose (s : State) (m : Nat) : State :=
  let x := s.mac m
  if x.pack.isEmpty then s else
  let s := s.disarm (.macPack m)
  let p := macPort m
  if s.portOpen p then
    (s.setMac m { x with pack := [], packN := 0, gap := false, packLost := false }).emitOut (s.portData p x.packTime x.packInv (lostBefore x.gap x.pack)) p
  else (s.setMac m { x with pack := [], packN := 0, gap := true, packLost := false }).macCount m 22 x.packN

/-- Add one record to the frame being packed; `alone`: it opens its own frame. -/
def State.macPackRec (s : State) (m : Nat) (time : Word) (alone : Bool) (ws : List Word) : State :=
  let s := if alone || decide ((s.mac m).pack.length + ws.length > s.get F.MAC_PACK_RX_MAX_W m) then s.macClose m else s
  let us := s.get F.MAC_PACK_RX_PACK_US m
  let x := s.mac m
  let first := x.pack.isEmpty
  let s := s.setMac m { x with pack := x.pack ++ lostBefore x.lost ws, packTime := if first then time else x.packTime,
                               packInv := s.timeInvalid || (!first && x.packInv), packN := x.packN + 1, lost := false,
                               packLost := x.packLost || x.lost }
  if us = 0 then s.macClose m else if first then s.arm (.macPack m) (1000 * us) else s

/-- Deliver a record: header word, TIME, and the frame bytes, those above 1,016 in continuations. -/
def State.macDeliver (s : State) (m : Nat) (hdr time : Word) (data : List Byte) : State :=
  let more := canContinuations 2 (data.drop 1016)
  if !s.portOpen (macPort m) then s.macLose m (1 + more.length) else
  let s := s.macPackRec m time false ([hdr, time] ++ bytesWords (data.take 1016))
  more.foldl (fun s r => s.macPackRec m time true r) s

/-- MAC_PACK_EXPIRE. -/
def State.macPackEnd (s : State) (m : Nat) : State :=
  match s.expire (.macPack m) with
  | none => s
  | some s => s.macClose m

/-! ### Ends of attempts (R278-R281) -/

/-- A transmit report (R280): OUTCOME 0 SENT, 1 ABANDONED, 2 FLUSHED, 3 LATE_COL. -/
def State.macReport (s : State) (m : Nat) (t : MacTx) (outcome : Nat) : State :=
  if !t.hdr.getLsbD 20 || decide (t.kind ≥ 2) then s else
  let w := ((0 : Word).setBits 31 30 1).setBits 21 20 (t.hdr.bits 21 20)
  s.macDeliver m ((w.setBits 19 16 outcome).setBits 10 0 (t.hdr.bits 10 0)) (BitVec.ofNat 32 (s.mac m).sfd) []

/-- The frame leaves the slot, which is filled again. -/
def State.macLeave (s : State) (m : Nat) (t : MacTx) (outcome : Nat) : State :=
  let s := s.setMac m { s.mac m with slot := none, phase := 0 }
  let s := if m < 16 ∧ t.kind < 2 then s.progressOrder (macPort m) outcome t.seq else s
  (s.macReport m t outcome).macFill m

/-- Timestamp of a sent frame (R181, R280). -/
def State.macStamp (s : State) (m : Nat) (t : MacTx) : State :=
  let x := s.mac m
  if !t.hdr.getLsbD 21 || decide (t.kind ≥ 2) then s
  else if x.tsq.length ≥ 16 then
    let s := s.macCount m 26
    s.setMac m { s.mac m with tsLost := true }
  else
    let r := tsRecord s (macPort m) (BitVec.ofNat 32 x.sfd) (BitVec.ofNat 32 (x.sfd / 2 ^ 32)) t.seq t.node x.tsLost
    s.setMac m { x with tsq := x.tsq ++ [r], tsLost := false }

/-- MAC_TSQ_CTL (R287). -/
def State.macTsqPop (s : State) (m : Nat) : State := s.setMac m { s.mac m with tsq := (s.mac m).tsq.drop 1 }

/-- May the attempt of the frame in the slot run? -/
def State.macRuns (s : State) (m : Nat) : Bool := s.macMayRun m && (s.mac m).slot.all (s.macMay m)

/-- The slot after a gate, the duplex mode or MAC_EN has changed: a frame that waits for its first attempt gives way to one that may
go; an attempt that may no longer run is cut, which ends a frame that is to be flushed (R281); in full duplex there is no deferral,
and a frame between attempts starts when the gap is over (R278). -/
def State.macGate (s : State) (m : Nat) : State :=
  let s := s.macYield m
  let x := s.mac m
  match x.slot with
  | none => s.macFill m
  | some t =>
    if x.phase = 1 then
      if s.macRuns m then s
      else if x.flush then (s.macCount m 9).macLeave m t 2
      else s.setMac m { x with phase := 0, lastEnd := s.now }
    else if s.macFull m && s.macRuns m then
      (s.disarm (.backoff m)).macStart m (max s.now (x.lastEnd + 96 * s.macBit m))
    else s

/-- INBAND_STATUS (R270). -/
def State.macInband (s : State) (m : Nat) (speed : BitVec 2) (duplex link : Bool) : State :=
  (s.macLinkChange m (fun s => s.setMac m { s.mac m with inSpeed := speed, inDuplex := duplex, inLink := link })).macGate m

/-- MAC_DEFER_END (R278): carrier has ended and the gap has passed; `carrier`: this frame waited on carrier. The gap is at least 96
bit times after what this MAC sent last. -/
def State.macDefer (s : State) (m : Nat) (carrier : Bool) : State :=
  let x := s.mac m
  if x.slot.isNone || x.phase != 0 || s.macFull m || !s.macRuns m then s else
  let s := if carrier && !x.tried then s.macCount m 4 else s
  s.macStart m (max s.now (x.lastEnd + 96 * s.macBit m))

/-- COLLISION (R278): `bits` bits of the frame had been sent. It ends the attempt, and a frame that is to be flushed with it (R281). -/
def State.macCollision (s : State) (m bits : Nat) : State :=
  let x := s.mac m
  match x.slot with
  | none => if x.late.isSome then s.setMac m { x with late := none } else s
  | some t =>
    if x.phase ≠ 1 ∨ s.macFull m then s
    else if !s.macRuns m then s.macGate m
    else
    let s := (s.advance (x.start - s.now)).macCount m 10
    let c := x.cols + 1
    let bt := s.macBit m
    let s := s.setMac m { s.mac m with cols := c, lastEnd := s.now + 32 * bt }
    if x.flush then (s.macCount m 9).macLeave m t 2
    else if bits > 512 then (s.macCount m 7).macLeave m t 3
    else if c ≥ 16 then (s.macCount m 8).macLeave m t 1
    else
      let (r, s) := s.freeIn 0 (2 ^ min c 10 - 1)
      (s.setMac m { s.mac m with phase := 2 }).arm (.backoff m) (32 * bt + 512 * r * bt)

/-- BACKOFF_EXPIRE (R278). -/
def State.macBackoff (s : State) (m : Nat) : State :=
  match s.expire (.backoff m) with
  | none => s
  | some s => if (s.mac m).phase = 2 then s.setMac m { s.mac m with phase := 0 } else s

/-- The attempt that ran at entry into SLEEP has ended: in time, its frame was on the medium (R288). -/
def State.macLateEnd (s : State) (m : Nat) : State :=
  let x := s.mac m
  match x.late with
  | none => s
  | some (t, d) =>
    let end_ := x.start + (8 + t.onWire.length) * 8 * s.macBit m
    let s := s.setMac m { x with late := none }
    if end_ ≤ d then { s with wire := s.wire ++ [(macPort m, t.onWire)] } else s

/-- MAC_TX_END (R279): the last bit of the frame check has been sent. -/
def State.macTxEnd (s : State) (m : Nat) : State :=
  let x := s.mac m
  match x.slot with
  | none => s.macLateEnd m
  | some t =>
    if x.phase ≠ 1 then s
    else if !s.macRuns m then s.macGate m
    else
      let wire := t.onWire
      let s := s.advance (x.start + (8 + wire.length) * 8 * s.macBit m - s.now)
      let s := { s.setMac m { s.mac m with lastEnd := s.now } with wire := s.wire ++ [(macPort m, wire)] }
      let s := (s.macCount m 0).macCount m 1 wire.length
      let s := if isMcastAddr (wire.take 6) then s.macCount m 2 else s
      let s := if isBcastAddr (wire.take 6) then s.macCount m 3 else s
      let s := if x.cols = 1 then s.macCount m 5 else if x.cols ≥ 2 then s.macCount m 6 else s
      (s.macStamp m t).macLeave m t 0

/-! ### Flush, SAFE (R275, R281) -/

/-- PORT_FLUSH with TX (R281): every queued frame goes; the one in the slot at the end of its attempt, unless none runs.
Answers the cells freed. -/
def State.macFlushTx (s : State) (m : Nat) : State × Nat :=
  let x := s.mac m
  let n := x.sends.length + (x.queues.map (fun e => e.2.length)).sum + s.portUnits (macPort m)
  let s := s.macCount m 9 n
  let x := s.mac m
  let s := s.setMac m { x with sends := [], queues := [], flush := x.flush || x.slot.isSome }
  let s := match x.slot with
    | some t => if x.phase = 1 && !x.waits s.now then s else
      ((s.disarm (.backoff m)).macCount m 9).macLeave m t 2
    | none => s
  s.emptyPort (macPort m)

/-- PORT_FLUSH with RX; a loss that the first record told of is told by the next. -/
def State.macFlushRx (s : State) (m : Nat) : State :=
  let x := s.mac m
  (s.setMac m { x with pack := [], packN := 0, lost := x.lost || x.packLost, packLost := false }).disarm (.macPack m)

/-- Entry into SAFE of one MAC (R275): the data of PORT_SEND and SEND is flushed and counted; loupe copies, commissioning frames
and the frame that holds the slot stay. -/
def State.macSafe1 (s : State) (m : Nat) : State :=
  let s := s.macYield m
  let x := s.mac m
  let gone := x.sends.length + (x.queues.map (fun e => (e.2.filter (fun t => t.kind = 0)).length)).sum
  let queues := x.queues.map (fun (e : Nat × List MacTx) => (e.1, e.2.filter (fun t => t.kind != 0)))
  let s := (s.setMac m { x with sends := [], queues := queues }).macCount m 9 gone
  let s := (List.range 8).foldl (fun s c =>
    let q := 8 * macPort m + c
    let data := (s.queue q).filter (fun l => l.loupe.isNone && (s.unit? l.uid).any (fun v =>
      v.frame.ftype == ftPortData && !(v.frame.opcode == 0 && s.isComm m)))
    data.foldl (fun s l => ((s.unlink q l.uid none).1).macCount m 9) s) s
  s.macFill m

def State.macSafe (s : State) : State := if !s.macUp then s else (List.range 20).foldl State.macSafe1 s

/-- Entry into COMMISSION clears OUT_EN in every T1S MAC (R273). -/
def State.macCommission (s : State) : State := (List.range 16).foldl (fun s m => s.put F.MAC_CFG_OUT_EN 0 m) s

/-! ### Reception (R282, R284) -/

/-- The hash bin of an address (R282). -/
def macBin (a : List Byte) : Nat := (crc32 a).toNat / 2 ^ 26

/-- Does the address filter pass the destination? -/
def State.macPasses (s : State) (m : Nat) (a : List Byte) : Bool :=
  s.is F.MAC_CFG_PROMISC m || a == s.macAddr m || isBcastAddr a ||
  (isMcastAddr a && (s.rd .macHash m (macBin a / 32)).getLsbD (macBin a % 32))

/-- The largest frame received (R282, R284). -/
def State.macMaxLen (s : State) (m : Nat) : Nat :=
  let n := s.get F.MAC_CFG_MAX_LEN m
  if s.isComm m then max n 1098 else n

/-- The first error row of R282 that applies, as its counter. -/
def State.macReject (s : State) (m : Nat) (r : MacRx) : Option Nat :=
  let n := r.bytes.length
  let good := fcsGood r.bytes
  if r.symbolErr then some 20
  else if n < 64 ∧ !good then some 18
  else if !good && r.aligned then some 15
  else if !good then some 16
  else if n < 64 then some 17
  else if n > s.macMaxLen m then some 19
  else none

/-- A Yarru frame in the payload of an Ethernet frame: `none` when it is shorter than R48 says or breaks R52. -/
def commFrame (body : List Byte) : Option Frame :=
  let ws := bytesWords body
  let len := (ws.getD 0 0).bits 8 0
  let n := 10 + len + (if (ws.getD 3 0).bits 15 0 = 0 then 0 else 4)
  if body.length < 4 * n then none else
  let f := Frame.ofWords (ws.take (n - 2))
  if f.malformed then none else some f

/-- A commissioning frame (R284): its payload enters the switch core with source node and port filled in (R24). -/
def State.macComm (s : State) (m : Nat) (r : MacRx) : State :=
  let s := s.macCount m 24
  match commFrame ((r.bytes.take (r.bytes.length - 4)).drop 14) with
  | none => s.macCount m 25
  | some f =>
    let s := if s.is F.MAC_CFG_PEER_LEARN m then
        let ws := bytesWords ((r.bytes.drop 6).take 4 ++ [0, 0] ++ (r.bytes.drop 10).take 2)
        (s.wr .macPeer0 m 0 (ws.getD 0 0)).wr .macPeer1 m 0 (ws.getD 1 0)
      else s
    let f := { f with srcNode := s.ownNode, srcPort := BitVec.ofNat 8 (macPort m) }
    { s with ingress := s.ingress ++ [{ frame := f, inPort := macPort m, own := true, authOk := r.authOk }] }

/-- MAC_FRAME_RECEIVE (R282). -/
def State.macReceive (s : State) (m : Nat) (r : MacRx) : State :=
  if !s.macUp || !s.macEn m then s else
  match s.macReject m r with
  | some k => s.macCount m k
  | none =>
    let a := r.bytes.take 6
    let s := (s.macCount m 11).macCount m 12 r.bytes.length
    let s := if isMcastAddr a then s.macCount m 13 else s
    let s := if isBcastAddr a then s.macCount m 14 else s
    let type := (r.bytes.drop 12).take 2
    let s := if type == [0x88, 0x08] && (r.bytes.drop 14).take 2 == [0x00, 0x01] then s.macCount m 23 else s
    if s.isComm m && type == commType && (a == s.macAddr m || isBcastAddr a) then s.macComm m r
    else if !s.macPasses m a then s.macCount m 21
    else
      let keep := s.is F.MAC_CFG_RX_FCS_KEEP m
      let data := if keep then r.bytes else r.bytes.take (r.bytes.length - 4)
      s.macDeliver m (((0 : Word).setBits 29 29 (bit keep)).setBits 10 0 data.length)
        (BitVec.ofNat 32 (s.ringAgo 18 r.sfd)) data

/-! ### Management interface (R289) -/

/-- GO: start the management frame described; the fields are already written. -/
def State.mdioGo (s : State) : State := s.put F.MAC_MDIO_CTL_BUSY 1

/-- MDIO_DONE: BUSY clears, and a read leaves its data. -/
def State.mdioEnd (s : State) (data : BitVec 16) : State :=
  if !s.macUp || !s.is F.MAC_MDIO_CTL_BUSY then s else
  let op := s.get F.MAC_MDIO_CTL_OP
  let read := decide (op = 2) || (s.is F.MAC_MDIO_CTL_C45 && decide (op = 3))
  let s := s.put F.MAC_MDIO_CTL_BUSY 0
  if read then s.put F.MAC_MDIO_DATA_DATA data.toNat else s

/-! ### Wake (R288) -/

/-- Does the byte list hold six 0xFF bytes followed by sixteen copies of the address? -/
def holdsMagic (a : List Byte) : List Byte → Bool
  | [] => false
  | b :: bs => (List.isPrefixOf (macBroadcast ++ (List.replicate 16 a).flatten) (b :: bs)) || holdsMagic a bs

/-- Does the frame match the wake pattern at every masked byte? -/
def State.wupMatches (s : State) (m : Nat) (bs : List Byte) : Bool :=
  (List.range 64).all (fun i =>
    !(s.rd .macWupMask m (i / 32)).getLsbD (i % 32) ||
    bs[i]? == some ((wordBytes (s.rd .macWupData m (i / 4))).getD (i % 4) 0))

/-- Does the frame wake the hub? -/
def State.macWakeHit (s : State) (m : Nat) (r : MacRx) : Bool :=
  s.mode == .sleep && !r.symbolErr && fcsGood r.bytes &&
  match s.get F.MAC_WAKE_CFG_WAKE_MODE m with
  | 0 => false
  | 1 => true
  | 2 => (r.bytes.take 6 == s.macAddr m || isBcastAddr (r.bytes.take 6)) && holdsMagic (s.macAddr m) (r.bytes.drop 14)
  | _ => s.wupMatches m r.bytes

/-- MAC_WAKE_STAT of the MAC that wakes the hub: the WAKE_MODE that it had in SLEEP. -/
def State.macWoke (s : State) (m mode : Nat) : State :=
  s.wr .macWakeStat m 0 (((0 : Word).setBits 31 31 1).setBits 30 29 mode)

/-- What SLEEP keeps of the frames whose attempts run: they may end for 1 ms at most (R288). -/
def State.macLate (s : State) : Tab (MacTx × Nat × Nat) :=
  s.macs.filterMap (fun e => match e.2.slot with
    | some t => if e.2.phase = 1 ∧ s.macMayRun e.1 then some (e.1, (t, e.2.start, s.now + 1000000)) else none
    | none => none)

/-- Hidden state of the MACs after a reset of their island: the PHYs' clocks and in-band status go on. -/
def State.macCleared (s : State) : State :=
  let keep := s.macs.map (fun (e : Nat × MacS) =>
    (e.1, ({ inSpeed := e.2.inSpeed, inDuplex := e.2.inDuplex, inLink := e.2.inLink, rxc := e.2.rxc } : MacS)))
  { s.disarmAll (fun t => match t with | .macPack _ => true | .backoff _ => true | _ => false) with macs := keep }

end Sys2Proof.Machine
end

