-- ==== Sys2Proof/Machine/BridgeOps.lean ====
section
/-!
DEFINITION. The PCIe host bridge (spec/12_host_bridge.md, R290-R312): windows, the tracker and its ordering, prefetch, the
transmit ring, the receive queues, MSI-X and the error log.
-/
namespace Sys2Proof.Machine

def State.setHbr (s : State) (h : HbrS) : State := { s with hbr := h }
def State.hostOut (s : State) (o : HostOut) : State := s.setHbr { s.hbr with out := s.hbr.out ++ [o] }

/-- Can TLPs reach the bridge: PCI out of reset and clocked, and the link up? -/
def State.pcieUp (s : State) : Bool := s.islandRuns 19 && s.is F.HBR_STAT_LINK_UP

/-! ### MSI-X (R309): a masked vector pends; vector control resets to masked (PRESUMED, PCI Express Base 3.0, log entry 8) -/

def State.msixMasked (s : State) (v : Nat) : Bool := (tget 1 s.hbr.msix (4 * v + 3)).getLsbD 0

/-- Request a vector. -/
def State.msi (s : State) (v : Nat) : State :=
  if s.msixMasked v then s.setHbr { s.hbr with pba := s.hbr.pba ||| (1#64 <<< v) } else s.hostOut (.msi v)

/-- Set a cause of HBR_IRQ; its vector is requested when the bit was 0. -/
def State.hbrIrq (s : State) (f : Fld) (v : Nat) : State := if s.is f then s else (s.put f 1).msi v

/-- A dword of BAR4: table at 0x0000, pending bits at 0x2000. -/
def State.bar4Read (s : State) (off : Nat) : Word :=
  if off < 0x400 then tget (if off / 4 % 4 = 3 then 1 else 0) s.hbr.msix (off / 4)
  else if off = 0x2000 then s.hbr.pba.setWidth 32
  else if off = 0x2004 then (s.hbr.pba >>> 32).setWidth 32
  else 0

/-- A write to BAR4: an unmasked vector that pends is sent. -/
def State.bar4Write (s : State) (off : Nat) (w : Word) : State :=
  if off ≥ 0x400 then s else
  let v := off / 16
  let s := s.setHbr { s.hbr with msix := tset s.hbr.msix (off / 4) w }
  if off / 4 % 4 = 3 ∧ !s.msixMasked v ∧ s.hbr.pba.getLsbD v then
    (s.setHbr { s.hbr with pba := s.hbr.pba &&& ~~~(1#64 <<< v) }).hostOut (.msi v)
  else s

/-! ### The endpoint function (R290) -/

/-- Bytes that a BAR of R292 decodes; 0 where there is none. -/
def barSize : Nat → Nat
  | 0 => 2 ^ 16 | 2 => 2 ^ 32 | 4 => 2 ^ 14 | _ => 0

/-- A dword of configuration space that R290 and R292 fix: Vendor and Device ID, class code and Revision ID, the kind of each BAR (64-bit
memory, not prefetchable; the upper halves of the pairs), Subsystem IDs. Where they lie is PRESUMED (PCI Express Base 3.0, log
entry 8). The table has no configuration request, so the function is taken as its host has set it up. -/
def State.pcieConfig (s : State) (off : Nat) : Option Word :=
  if off = 0x00 then some 0x09601F5B
  else if off = 0x08 then some 0x088000B1
  else if off = 0x10 ∨ off = 0x18 ∨ off = 0x20 then some 4
  else if off = 0x14 ∨ off = 0x1C ∨ off = 0x24 then some 0
  else if off = 0x2C then
    let ids := s.profile.subsys
    some (ids <<< 16 ||| ids >>> 16)
  else none

/-- Advanced Error Reporting notes an uncorrectable error: bit 20 Unsupported Request, bit 15 Completer Abort (PRESUMED, PCI Express
Base 3.0, log entry 8). -/
def State.aerNote (s : State) (b : Nat) : State := s.setHbr { s.hbr with aer := s.hbr.aer ||| (1#32 <<< b) }

/-- A TLP that BAR0 and BAR4 do not take (R292). -/
def State.tlpBad (s : State) (read : Bool) : State :=
  let s := (s.bump .hbrCnt 6).aerNote 20
  if read then s.hostOut .unsupported else s

/-- BAR4_ACCESS (R292). -/
def State.bar4 (s : State) (off : Nat) (wr : Option Word) (beOk : Bool) : State :=
  if !s.pcieUp then s
  else if !beOk then s.tlpBad wr.isNone
  else match wr with
    | none => s.hostOut (.data (s.bar4Read off))
    | some w => s.bar4Write off w

/-! ### Error log (R310) -/

/-- Write an entry. -/
def State.elog (s : State) (e : List Word) : State :=
  let no := s.hbr.elogNo
  let s := s.setHbr { s.hbr with elogNo := no + 1 }
  let h := s.get F.HBR_ELOG_HEAD_HEAD
  if (h + 256 - s.get F.HBR_ELOG_TAIL_TAIL) % 256 ≥ 64 then s.bump .hbrElogOvf else
  let ws := e ++ [BitVec.ofNat 32 no]
  let s := (List.range 8).foldl (fun s i => s.wr .hbrElog (8 * (h % 64) + i) 0 (ws.getD i 0)) s
  (s.put F.HBR_ELOG_HEAD_HEAD (h + 1)).hbrIrq F.HBR_IRQ_ERR_PEND 1

/-- The entry of a command that ended with a status other than OK. `src`: source node of the error reply, none when local. -/
def State.elogCmd (s : State) (c : HbrCmd) (st : Status) (src : Option (BitVec 24)) (sent : Bool) : State :=
  if st = stOk then s else
  let f := c.frame
  let w2 := ((((0 : Word).setBits 31 24 f.opcode.toNat).setBits 23 15 f.tag.toNat).setBits 14 11 c.win).setBits 10 10 (bit src.isNone)
  let w2 := (w2.setBits 9 9 (bit !c.write)).setBits 7 0 st.toNat
  s.elog [f.w6, f.w7, w2, ((0 : Word).setBits 31 8 (src.getD 0).toNat).setBits 2 0 f.cls.toNat, BitVec.ofNat 32 s.ringNs,
    if c.write then f.payload.getD 0 0 else 0,
    ((0 : Word).setBits 31 16 f.session.toNat).setBits 15 0 (if sent then f.seq.toNat else 0)]

/-- HBR_ELOG_TAIL: a value more than 64 behind HEAD is refused. -/
def State.elogTailOk (s : State) (t : Nat) : Bool := decide ((s.get F.HBR_ELOG_HEAD_HEAD + 256 - t % 256) % 256 ≤ 64)

/-- ERR_PEND_CLEAR: while entries remain it is set again and vector 1 requested. -/
def State.errPendClear (s : State) : State :=
  let s := s.put F.HBR_IRQ_ERR_PEND 0
  if s.get F.HBR_ELOG_HEAD_HEAD = s.get F.HBR_ELOG_TAIL_TAIL then s else s.hbrIrq F.HBR_IRQ_ERR_PEND 1

/-! ### Forming window commands (R294-R297) -/

def winOf (off : Nat) : Nat := off / 2 ^ 28 % 16

/-- The frame of a window for the dword at BAR2 offset `off`. -/
def State.winFrame (s : State) (off : Nat) (op : BitVec 8) (payload : List Word) : Frame :=
  let w := winOf off
  let slot := s.get F.HBR_WIN_ATTR_SLOT w
  let o := 2 ^ 28 * s.get F.HBR_WIN_OFF_OFF_HI w + off % 2 ^ 28
  let node : BitVec 24 := BitVec.ofNat 24 (s.get F.HBR_WIN_NODE_NODE w)
  Frame.withPayload
    { ftype := ftCommand, cls := BitVec.ofNat 3 (s.get F.HBR_WIN_ATTR_CLASS w), dual := s.is F.HBR_WIN_ATTR_DUAL w,
      dstNode := node, dstPort := 0xFF, srcNode := s.ownNode, srcPort := 5,
      session := if s.is F.HBR_WIN_ATTR_SEAL w then BitVec.ofNat 16 (s.get F.HBR_KEY_SESS_SESSION slot) else 0,
      opcode := op, w6 := ((node.setWidth 32) <<< 8) ||| BitVec.ofNat 32 (128 * s.get F.HBR_WIN_NODE_VIEW w + o / 2 ^ 32),
      w7 := BitVec.ofNat 32 o } payload

/-- The key slot that seals the commands of window `w` (R294). -/
def State.winSlot (s : State) (w : Nat) : Option Nat :=
  if s.is F.HBR_WIN_ATTR_SEAL w then some (s.get F.HBR_WIN_ATTR_SLOT w) else none

/-- The local condition of R297 that ends an access at once, in the table's order. -/
def State.winLocal (s : State) (w : Nat) (write beOk : Bool) : Option Status :=
  if !s.is F.HBR_WIN_ATTR_ENABLE w then some stBadParam
  else if write && !beOk then some stBadParam
  else if s.is F.HBR_WIN_ATTR_SEAL w && !s.is F.HBR_KEY_SESS_VALID (s.get F.HBR_WIN_ATTR_SLOT w) then some stAuthFail
  else if s.mode = .boot ∨ s.mode = .recovery then some stNotInMode
  else if isBroadcast (BitVec.ofNat 24 (s.get F.HBR_WIN_NODE_NODE w)) && (!write || !s.is F.HBR_WIN_ATTR_POSTED w)
    then some stBadParam
  else none

/-! ### Prefetch buffers (R302, R303) -/

/-- Discard a buffer: each word not returned counts. -/
def State.pfDrop (s : State) (i : Nat) : State :=
  match tfind s.hbr.pf i with
  | none => s
  | some b =>
    let s := s.bump .hbrCnt 3 0 (b.taken.filter (! ·)).length
    (s.setHbr { s.hbr with pf := terase s.hbr.pf i }).disarm (.prefetch i)

/-- Discard the buffers of a window; what a block already asked for would keep of it is discarded when it comes (R303). -/
def State.pfDropWin (s : State) (w : Nat) : State :=
  let s := ((s.hbr.pf.filter (fun e => e.2.win == w)).map (·.1)).foldl State.pfDrop s
  let mark := fun (c : HbrCmd) => if c.win == w && c.pf then { c with stale := true } else c
  s.setHbr { s.hbr with wait := s.hbr.wait.map mark, trk := s.hbr.trk.map (fun e => (e.1, { e.2 with cmd := mark e.2.cmd })) }

/-- PREFETCH_EXPIRE. -/
def State.pfEnd (s : State) (i : Nat) : State :=
  match s.expire (.prefetch i) with
  | none => s
  | some s => s.pfDrop i

/-- The buffer that holds `n` words from `off` on. -/
def State.pfFind (s : State) (off n : Nat) : Option (Nat × PfBuf) :=
  s.hbr.pf.find? (fun e => e.2.win == winOf off && decide (e.2.base ≤ off) && decide (off + 4 * n ≤ e.2.base + 4 * e.2.words.length))

/-- Keep the rest of a block in one of the four buffers, the least recently used one when all are in use. -/
def State.pfKeep (s : State) (off : Nat) (ws : List Word) : State :=
  if ws.isEmpty then s else
  let free := (List.range 4).find? (fun i => (tfind s.hbr.pf i).isNone)
  let i := match free with
    | some i => i
    | none => match s.hbr.pf with
      | [] => 0
      | e :: es => (es.foldl (fun m x => if x.2.lastUse < m.2.lastUse then x else m) e).1
  let s := s.pfDrop i
  let b : PfBuf := { win := winOf off, base := off, words := ws, taken := ws.map (fun _ => false), lastUse := s.hbr.pfUses }
  (s.setHbr { s.hbr with pf := tset s.hbr.pf i b, pfUses := s.hbr.pfUses + 1 }).arm (.prefetch i) (1000 * s.get F.HBR_WIN_ATTR_PF_LIFE_US (winOf off))

/-! ### Reads and their completions (R297) -/

/-- The words of a read from `off` on, split at 64-byte boundaries (R296). -/
def split64 : Nat → Nat → List Word → List (List Word)
  | 0, _, _ => []
  | fuel + 1, off, ws =>
    if ws.isEmpty then [] else
    let k := (64 - off % 64 + 3) / 4
    ws.take k :: split64 fuel (off + 4 * k) (ws.drop k)

/-- Complete a read TLP whose parts have all ended, in address order: data, words that did not come as all ones; with ERR_RESP,
Completer Abort. -/
def State.readEnd (s : State) (id : Nat) : State :=
  match tfind s.hbr.reads id with
  | none => s
  | some r =>
    let s := (s.setHbr { s.hbr with reads := terase s.hbr.reads id }).disarm (.readDeadline id)
    if r.bad && s.is F.HBR_WIN_ATTR_ERR_RESP r.win then (s.aerNote 15).hostOut (.abort id)
    else
      let ws := (List.range r.n).map (fun i => tget 0xFFFFFFFF r.words i)
      (split64 r.n r.off ws).foldl (fun s c => s.hostOut (.completion id c)) s

/-- A part of a read TLP ends with these words. -/
def State.readPart (s : State) (id at_ : Nat) (ws : List Word) (ok : Bool) : State :=
  match tfind s.hbr.reads id with
  | none => s
  | some r =>
    let words := ws.zipIdx.foldl (fun t x => tset t (at_ + x.2) x.1) r.words
    let r := { r with words := words, left := r.left - 1, bad := r.bad || !ok }
    let s := s.setHbr { s.hbr with reads := tset s.hbr.reads id r }
    if r.left = 0 then s.readEnd id else s

/-! ### Tracker and ordering (R299, R301) -/

/-- Number of tags of the tracker. -/
def State.trkSize (s : State) : Nat := 512 - s.get F.HBR_CFG_RAW_TAGS

/-- A tag of the tracker that is free (R299); which one is a free value (log entry 1). -/
def State.freeTag (s : State) : Option Nat :=
  let b := Config.freeNat s.freeIx
  ((List.range s.trkSize).find? (fun i => (tfind s.hbr.trk ((b + i) % s.trkSize)).isNone)).map (fun i => (b + i) % s.trkSize)

/-- Same target: destination node and class. -/
def sameTarget (a b : Frame) : Bool := a.dstNode == b.dstNode && a.cls == b.cls

/-- Must a read wait for an earlier tracked write to another target (R301)? -/
def State.readHeld (s : State) (c : HbrCmd) : Bool :=
  s.hbr.trk.any (fun e => e.2.cmd.write && decide (e.2.cmd.order < c.order) && !e.2.quarantine && !e.2.dead &&
    !sameTarget e.2.cmd.frame c.frame)

/-- Does a prefetch buffer serve a read that waits (R302)? -/
def State.pfHit (s : State) (c : HbrCmd) : Option (Nat × PfBuf) := if c.pf then s.pfFind c.off c.want else none

/-- May the command be sent, or be completed from a prefetch buffer, given those that wait before it? -/
def State.mayGo (s : State) (before : List HbrCmd) (c : HbrCmd) : Bool :=
  if c.write then before.all (fun b => !b.write) && (c.posted || s.freeTag.isSome)
  else before.all (fun b => b.write && b.posted && !sameTarget b.frame c.frame) && !s.readHeld c &&
    (s.freeTag.isSome || (s.pfHit c).isSome)

/-- A read is completed from a prefetch buffer (R302). -/
def State.pfServe (s : State) (c : HbrCmd) (i : Nat) (b : PfBuf) : State :=
  let k := (c.off - b.base) / 4
  let taken := b.taken.zipIdx.map (fun x => x.1 || (decide (k ≤ x.2) && decide (x.2 < k + c.want)))
  let pf := tset s.hbr.pf i { b with taken := taken, lastUse := s.hbr.pfUses }
  let s := (s.setHbr { s.hbr with pf := pf, pfUses := s.hbr.pfUses + 1 }).bump .hbrCnt 2
  match c.rd with
  | none => s
  | some id => s.readPart id c.at_ ((b.words.drop k).take c.want) true

/-- Send a command: it takes a tag of the tracker and enters the switch core; its timeout runs from its departure (R64). A posted write
has a TAG of the tracker (R294) but no entry of it (R298): which one is a free value (log entry 1). A read that a prefetch buffer
holds by now is completed from it. -/
def State.hbrSend (s : State) (c : HbrCmd) : State :=
  match s.pfHit c with
  | some (i, b) => s.pfServe c i b
  | none =>
    let s := s.bump .hbrCnt (if c.write then 0 else 1)
    if c.posted then
      let t := s.freeTag.getD (Config.freeNat s.freeIx % s.trkSize)
      let c := { c with frame := { c.frame with tag := BitVec.ofNat 9 t } }
      let s := { s with freeIx := s.freeIx + 1 }
      (s.setHbr { s.hbr with posted := tset s.hbr.posted t c }).emit c.frame 5 c.slot
    else match s.freeTag with
      | none => s
      | some t =>
        let c := { c with frame := { c.frame with tag := BitVec.ofNat 9 t } }
        let s := { s with freeIx := s.freeIx + 1 }
        (s.setHbr { s.hbr with trk := tset s.hbr.trk t { cmd := c, waits := true } }).emit c.frame 5 c.slot

/-- The first waiting command that may be sent, with those before and after it. -/
def State.nextGo (s : State) : List HbrCmd → List HbrCmd → Option (HbrCmd × List HbrCmd)
  | _, [] => none
  | before, c :: cs => if s.mayGo before c then some (c, before ++ cs) else State.nextGo s (before ++ [c]) cs

/-- Send what may be sent; with every entry in use TRK_FULL is raised. -/
def State.hbrPump : Nat → State → State
  | 0, s => s
  | fuel + 1, s =>
    match s.nextGo [] s.hbr.wait with
    | some (c, rest) => State.hbrPump fuel ((s.setHbr { s.hbr with wait := rest }).hbrSend c)
    | none => if s.freeTag.isNone then s.hbrIrq F.HBR_IRQ_TRK_FULL 0 else s

/-- Put commands at the end of the waiting list and send what may go. -/
def State.hbrQueue (s : State) (cs : List HbrCmd) : State :=
  let s := s.setHbr { s.hbr with wait := s.hbr.wait ++ cs }
  s.hbrPump (s.hbr.wait.length + 1)

/-- Next place in arrival order. -/
def State.nextOrder (s : State) : Nat × State := (s.hbr.nextOrder, s.setHbr { s.hbr with nextOrder := s.hbr.nextOrder + 1 })

/-- Does the 64-TLP input buffer have room (R299)? -/
def State.tlpRoom (s : State) : Bool := decide ((s.hbr.wait.map (·.order)).eraseDups.length < 64)

/-- WINDOW_WRITE_TLP (R295). -/
def State.winWrite (s : State) (off : Nat) (ws : List Word) (beOk : Bool) : State :=
  let w := winOf off
  if !s.pcieUp || !s.tlpRoom || ws.isEmpty || decide (ws.length > 64) then s else
  let s := s.pfDropWin w
  let (o, s) := s.nextOrder
  let posted := s.is F.HBR_WIN_ATTR_POSTED w
  let op := if posted then ocWritePosted else if ws.length = 1 then ocWrite else ocWriteBlock
  let c : HbrCmd := { frame := s.winFrame off op ws, win := w, off := off, write := true, order := o, slot := s.winSlot w }
  match s.winLocal w true beOk with
  | some st => s.elogCmd c st none false
  | none =>
    if posted then
      s.hbrQueue (ws.zipIdx.map (fun x =>
        { c with frame := s.winFrame (off + 4 * x.2) ocWritePosted [x.1], off := off + 4 * x.2, posted := true }))
    else s.hbrQueue [c]

/-- The commands of a read of `n` words from `off` (R296): one READ, or READ_BLOCKs of up to 256 words in address order. -/
def State.readBlocks (s : State) (id off n order : Nat) : List HbrCmd :=
  (List.range ((n + 255) / 256)).map (fun i =>
    let k := min 256 (n - 256 * i)
    let o := off + 1024 * i
    let f := if n = 1 then s.winFrame o ocRead [] else s.winFrame o ocReadBlock [BitVec.ofNat 32 k]
    { frame := f, win := winOf off, off := o, write := false, rd := some id, at_ := 256 * i, n := k, want := k, order := order,
      slot := s.winSlot (winOf off) })

/-- WINDOW_READ_TLP (R296, R302) of `n` dwords: whole dwords are read and returned, of which the host takes the bytes it asked for. With
PREFETCH = 1 the read waits its turn (R301) and is then completed from a buffer or becomes one READ_BLOCK. -/
def State.winRead (s : State) (off n : Nat) : State :=
  let w := winOf off
  if !s.pcieUp || !s.tlpRoom || n = 0 || decide (n > 1024) then s else
  let (o, s) := s.nextOrder
  let id := s.hbr.nextRead
  let s := s.setHbr { s.hbr with nextRead := id + 1 }
  let parts := (n + 255) / 256
  let s := s.setHbr { s.hbr with reads := tset s.hbr.reads id { win := w, n := n, off := off, left := parts } }
  let c : HbrCmd := { frame := s.winFrame off (if n = 1 then ocRead else ocReadBlock) [], win := w, off := off, write := false, order := o,
                      slot := s.winSlot w }
  match s.winLocal w false true with
  | some st => (List.range parts).foldl (fun s i => s.readPart id (256 * i) [] false) (s.elogCmd c st none false)
  | none =>
    let s := s.arm (.readDeadline id) (3000 * s.get F.CTL_CMDTO_TIMEOUT_US)
    if s.is F.HBR_WIN_ATTR_PREFETCH w && decide (n ≤ 256) then
      let room := (2 ^ 28 - off % 2 ^ 28) / 4
      let block := min (max (4 * s.get F.HBR_WIN_ATTR_PF_QW w) n) room
      let f := if block ≤ 1 then s.winFrame off ocRead [] else s.winFrame off ocReadBlock [BitVec.ofNat 32 block]
      s.hbrQueue [{ c with frame := f, rd := some id, n := block, want := n, pf := true }]
    else s.hbrQueue (s.readBlocks id off n o)

/-! ### Replies, timeouts, retries (R297-R300) -/

/-- Is the reply one with which R34 refuses a block as a whole: DENIED (R8, R33), or BAD_PARAM (R9, R29)? -/
def wholeRefusal (st : Status) (ws : List Word) : Bool := ws.isEmpty && (st == stBadParam || st == stDenied)

/-- A command has ended with a final status and the words its reply brought; the word of a READ that was not OK is no data (R297). -/
def State.cmdEnd (s : State) (c : HbrCmd) (st : Status) (ws : List Word) (src : Option (BitVec 24)) (sent : Bool) : State :=
  let s := s.elogCmd c st src sent
  let ws := if st = stOk ∨ c.frame.opcode = ocReadBlock then ws else []
  match c.rd with
  | none => s
  | some id =>
    if c.pf && c.frame.opcode == ocReadBlock && wholeRefusal st ws then
      if (tfind s.hbr.reads id).isSome then s.hbrQueue (s.readBlocks id c.off c.want c.order) else s
    else
      let s := s.readPart id c.at_ (ws.take c.want) (st == stOk || decide (ws.length ≥ c.want))
      if !c.pf then s
      else if c.stale || !s.is F.HBR_WIN_ATTR_ENABLE c.win then s.bump .hbrCnt 3 0 (ws.drop c.want).length
      else s.pfKeep (c.off + 4 * c.want) (ws.drop c.want)

/-- Free a tracker entry and send what waited for it. -/
def State.trkFree (s : State) (t : Nat) : State :=
  let s := ((s.setHbr { s.hbr with trk := terase s.hbr.trk t }).disarm (.cmdTimeout 5 t)).disarm (.quarantine 5 t)
  s.disarm (.ncRetry t)

/-- A REPLY to port 5 with a tracker tag (R299). -/
def State.trkReply (s : State) (f : Frame) (authOk : Bool) : State :=
  let t := f.tag.toNat
  match tfind s.hbr.trk t with
  | none => s.bump .hbrCnt 4
  | some e =>
    if e.quarantine then s.bump .hbrCnt 4
    else if e.dead then
      let s := (s.bump .hbrCnt 4).trkFree t
      s.hbrPump (s.hbr.wait.length + 1)
    else
      let bad := f.session ≠ 0 ∧ !authOk
      if !bad && f.status == stNoCredit && decide (e.retries < s.get F.HBR_CFG_NC_RETRY) then
        (s.disarm (.cmdTimeout 5 t)).arm (.ncRetry t) (1000 * s.get F.HBR_CFG_NC_RETRY_US)
      else
        let s := s.trkFree t
        let s := if bad then s.cmdEnd e.cmd stAuthFail [] none true
          else s.cmdEnd e.cmd f.status f.payload (some f.srcNode) true
        s.hbrPump (s.hbr.wait.length + 1)

/-- A REPLY that reports a failed posted write enters the error log (R299, R310). Window, first data word and SEQ of one that the bridge
has no note of (it was sent before a reset, or by host software) are free (log entry 1). -/
def State.postedReply (s : State) (f : Frame) : State :=
  match tfind s.hbr.posted f.tag.toNat with
  | some c => ((s.setHbr { s.hbr with posted := terase s.hbr.posted f.tag.toNat }).elogCmd { c with frame := { c.frame with w6 := f.w6, w7 := f.w7 } }
      f.status (some f.srcNode) true)
  | none =>
    let (a, s) := s.fresh
    let (b, s) := s.fresh
    let w2 := ((((0 : Word).setBits 31 24 f.opcode.toNat).setBits 23 15 f.tag.toNat).setBits 14 11 (a.bits 3 0)).setBits 7 0 f.status.toNat
    s.elog [f.w6, f.w7, w2, ((0 : Word).setBits 31 8 f.srcNode.toNat).setBits 2 0 f.cls.toNat, BitVec.ofNat 32 s.ringNs, b,
      ((0 : Word).setBits 31 16 f.session.toNat).setBits 15 0 (a.bits 31 16)]

/-- NC_RETRY_EXPIRE (R298): the command is sent again. -/
def State.ncRetry (s : State) (t : Nat) : State :=
  match s.expire (.ncRetry t) with
  | none => s
  | some s => match tfind s.hbr.trk t with
    | none => s
    | some e =>
      let trk := tset s.hbr.trk t { e with retries := e.retries + 1, waits := true }
      ((s.setHbr { s.hbr with trk := trk }).bump .hbrCnt 5).emit e.cmd.frame 5 e.cmd.slot

/-- COMMAND_TIMEOUT of a tracker entry (R64, R297): it ends with TIMEOUT and its tag is held for one further period. -/
def State.trkTimeout (s : State) (t : Nat) : State :=
  match s.expire (.cmdTimeout 5 t) with
  | none => s
  | some s => match tfind s.hbr.trk t with
    | none => s
    | some e =>
      let s := s.setHbr { s.hbr with trk := tset s.hbr.trk t { e with quarantine := true } }
      let s := s.arm (.quarantine 5 t) e.period
      if e.dead then s else
      let s := s.cmdEnd e.cmd stTimeout [] none true
      s.hbrPump (s.hbr.wait.length + 1)

/-- QUARANTINE_END of a tracker entry. -/
def State.trkRelease (s : State) (t : Nat) : State :=
  match s.expire (.quarantine 5 t) with
  | none => s
  | some s => let s := s.trkFree t; s.hbrPump (s.hbr.wait.length + 1)

/-- READ_DEADLINE (R300): the read completes with TIMEOUT; its commands that wait are not sent. -/
def State.readDeadline (s : State) (id : Nat) : State :=
  match s.expire (.readDeadline id) with
  | none => s
  | some s => match tfind s.hbr.reads id with
    | none => s
    | some r =>
      let own := s.hbr.wait.filter (fun c => c.rd == some id)
      let sent := s.hbr.trk.filterMap (fun (e : Nat × HbrTrk) => if e.2.cmd.rd == some id then some e.2.cmd else none)
      let s := s.setHbr { s.hbr with wait := s.hbr.wait.filter (fun c => c.rd != some id) }
      let s := match own.head?, sent.head? with
        | some c, _ => s.elogCmd c stTimeout none false
        | none, some c => s.elogCmd c stTimeout none true
        | none, none => s
      (s.setHbr { s.hbr with reads := tset s.hbr.reads id { r with bad := true } }).readEnd id

/-! ### Transmit ring (R304, R305) -/

/-- The frame of a descriptor as the bridge sends it, SESSION from the slot when SEAL = 1. -/
def State.txFrame (s : State) (d : TxDesc) : Frame :=
  let ws := if d.doSeal then d.words.set 3 ((d.words.getD 3 0).setBits 15 0 0) else d.words
  let f := Frame.ofWords ws
  let f := { f with srcNode := s.ownNode, srcPort := 5 }
  if d.doSeal then { f with session := BitVec.ofNat 16 (s.get F.HBR_KEY_SESS_SESSION d.slot) } else f

/-- Does the ROM in RECOVERY take the frame (R437)? -/
def State.romAccepts (s : State) (f : Frame) : Bool :=
  f.ftype == ftCommand && f.dstNode == s.ownNode && f.dstPort == 0xFF && (opRow f.opcode).any (·.recovery)

/-- The refusal of R305, in the order BOOT and RECOVERY, form, slot. -/
def State.txRefusal (s : State) (d : TxDesc) : Option Status :=
  let f := s.txFrame d
  let len := 32 + 4 * f.lenW.toNat + (if !d.doSeal ∧ f.session ≠ 0 then 16 else 0)
  let plain := if d.doSeal then { f with session := 0 } else f
  if s.mode = .boot ∨ (s.mode = .recovery ∧ !s.romAccepts f) then some stNotInMode
  else if plain.malformed || decide (d.len ≠ len) ||
      !(f.ftype == ftCommand || f.ftype == ftReply || f.ftype == ftEvent || f.ftype == ftPortData) ||
      (f.ftype == ftCommand && decide (f.tag.toNat < s.trkSize)) then some stBadParam
  else if d.doSeal && !s.is F.HBR_KEY_SESS_VALID d.slot then some stAuthFail
  else none

/-- Write back the descriptor at HEAD and advance HEAD; vector 2. -/
def State.txBack (s : State) (st : Status) (seq : BitVec 16) : State :=
  match s.hbr.tx with
  | [] => s
  | d :: ds =>
    let h := s.get F.HBR_TXR_HEAD_HEAD
    let size := 2 ^ s.get F.HBR_TXR_CFG_LOG2
    let w2 := ((((0 : Word).setBits 31 31 1).setBits 23 16 st.toNat).setBits 15 12 d.slot).setBits 11 11 (bit d.doSeal)
    let s := s.setHbr { s.hbr with tx := ds, txBusy := false, txDone := none }
    let s := s.hostOut (.txDone h (w2.setBits 10 0 d.len) (((0 : Word).setBits 31 16 seq.toNat)))
    let s := if st = stOk then s.bump .hbrCnt 7 else s
    (s.put F.HBR_TXR_HEAD_HEAD ((h + 1) % size)).msi 2

/-- Process descriptors from HEAD on: a refused one is written back at once; a frame enters the switch core and waits for its
lookup; in RECOVERY the ROM takes it directly, with a SEQ of its own (a free value, log entry 1). -/
def State.txPump : Nat → State → State
  | 0, s => s
  | fuel + 1, s =>
    match s.hbr.tx with
    | [] => s
    | d :: _ =>
      if s.hbr.txBusy || !s.is F.HBR_TXR_CFG_ENABLE then s else
      match s.txRefusal d with
      | some st => State.txPump fuel (s.txBack st 0)
      | none =>
        if s.mode = .recovery then let (w, s) := s.fresh; State.txPump fuel (s.txBack stOk (w.setWidth 16))
        else
          let x : UnitIn := { frame := s.txFrame d, inPort := 5, own := true, authOk := d.authOk, txr := true,
                              slot := if d.doSeal then some d.slot else none }
          let s := s.setHbr { s.hbr with txBusy := true }
          s.enqueue x

/-- HBR_TXR_TAIL: the host gives descriptors, to a ring that is enabled (enabling it starts HEAD at TAIL). -/
def State.txTail (s : State) (tail : Nat) (ds : List TxDesc) : State :=
  let s := s.put F.HBR_TXR_TAIL_TAIL tail
  if !s.is F.HBR_TXR_CFG_ENABLE then s else
  let size := 2 ^ s.get F.HBR_TXR_CFG_LOG2
  let held := (tail + size - s.get F.HBR_TXR_HEAD_HEAD) % size
  let s := s.setHbr { s.hbr with tx := s.hbr.tx ++ ds.take (held - s.hbr.tx.length) }
  s.txPump (s.hbr.tx.length + 1)

/-- After a lookup: a transmit-ring frame that was looked up is written back, and the next descriptor is taken. -/
def State.txLooked (s : State) : State :=
  match s.hbr.txDone with
  | none => s
  | some (st, seq) => let s := s.txBack st seq; s.txPump (s.hbr.tx.length + 1)

/-! ### Receive queues (R306-R308) -/

def rxMapFld : Nat → Fld
  | 0 => F.HBR_RXMAP_Q0 | 1 => F.HBR_RXMAP_Q1 | 2 => F.HBR_RXMAP_Q2 | 3 => F.HBR_RXMAP_Q3
  | 4 => F.HBR_RXMAP_Q4 | 5 => F.HBR_RXMAP_Q5 | 6 => F.HBR_RXMAP_Q6 | _ => F.HBR_RXMAP_Q7

/-- The receive queue of a unit. -/
def State.rxQueue (s : State) (v : VUnit) (l : Link) : Nat :=
  if l.loupe.isSome then s.get F.HBR_RXMAP_LOUPE_Q else s.get (rxMapFld v.frame.cls.toNat)

/-- Free descriptors of queue `q`: those from HEAD to TAIL. -/
def State.rxFree (s : State) (q : Nat) : Nat :=
  let size := 2 ^ s.get F.HBR_RXR_CFG_LOG2 q
  (s.get F.HBR_RXR_TAIL_TAIL q + size - s.get F.HBR_RXR_HEAD_HEAD q % size) % size

/-- HBR_RXR_TAIL: buffers are posted, to a ring that is enabled. -/
def State.rxTail (s : State) (q tail : Nat) (bufs : List RxDesc) : State :=
  let s := s.put F.HBR_RXR_TAIL_TAIL tail q
  if !s.is F.HBR_RXR_CFG_ENABLE q then s else
  s.setHbr { s.hbr with rx := tset s.hbr.rx q (tget [] s.hbr.rx q ++ bufs) }

/-- A write-back in queue `q` asks for its vector (R308). -/
def State.rxVector (s : State) (q : Nat) : State :=
  let us := s.get F.HBR_RXR_CFG_INT_US q
  if us = 0 then s.msi (8 + q)
  else if (s.deadline (.intMod q)).isSome then
    if s.hbr.intWait.contains q then s else s.setHbr { s.hbr with intWait := s.hbr.intWait ++ [q] }
  else (s.msi (8 + q)).arm (.intMod q) (1000 * us)

/-- INT_MODERATION_EXPIRE. -/
def State.intModEnd (s : State) (q : Nat) : State :=
  match s.expire (.intMod q) with
  | none => s
  | some s =>
    if s.hbr.intWait.contains q then
      ((s.setHbr { s.hbr with intWait := s.hbr.intWait.filter (· != q) }).msi (8 + q)).arm (.intMod q)
        (1000 * s.get F.HBR_RXR_CFG_INT_US q)
    else s

/-- The slot whose SESSION a frame names. -/
def State.slotOf (s : State) (n : BitVec 16) : Option Nat :=
  (List.range 16).find? (fun k => s.is F.HBR_KEY_SESS_VALID k && s.get F.HBR_KEY_SESS_SESSION k == n.toNat)

/-- Write a frame into the next buffer of queue `q`; one delivered sealed is cipher text, a free value (log entry 1). -/
def State.rxWrite (s : State) (q : Nat) (v : VUnit) (loupe : Bool) : State :=
  let f := v.frame
  let sealed_ := f.session != 0 && (loupe || (s.slotOf f.session).isNone)
  let auth := if f.session = 0 then 0 else if sealed_ then 2 else 1
  let (body, s) := if sealed_ then s.freshWords f.payload.length else (f.payload, s)
  let ws := f.header ++ body ++ (if sealed_ then f.gcm else [])
  let buf := (tget [] s.hbr.rx q).headD {}
  let w2 := ((((0 : Word).setBits 31 31 1).setBits 30 29 auth).setBits 28 28 (bit loupe)).setBits 10 0 (4 * ws.length)
  let s := s.setHbr { s.hbr with rx := tset s.hbr.rx q ((tget [] s.hbr.rx q).drop 1) }
  let s := s.hostOut (.frame q buf.addr ws w2)
  let size := 2 ^ s.get F.HBR_RXR_CFG_LOG2 q
  ((s.put F.HBR_RXR_HEAD_HEAD ((s.get F.HBR_RXR_HEAD_HEAD q + 1) % size) q).bump .hbrCnt 8).rxVector q

/-- Is the unit a REPLY with a tag of the tracker (R299, R306)? -/
def State.isTrkReply (s : State) (v : VUnit) (l : Link) : Bool :=
  l.loupe.isNone && v.frame.ftype == ftReply && decide (v.frame.tag.toNat < s.trkSize)

/-- Is it a REPLY that reports a failed posted write, whichever its tag (R299)? -/
def isPostedReply (v : VUnit) (l : Link) : Bool := l.loupe.isNone && v.frame.ftype == ftReply && v.frame.opcode == ocWritePosted

/-- Must the head of a class of port 5 wait for a descriptor (R307)? -/
def State.rxHolds (s : State) (v : VUnit) (l : Link) : Bool :=
  let q := s.rxQueue v l
  s.pcieUp && !s.isTrkReply v l && s.is F.HBR_RXR_CFG_ENABLE q && s.rxFree q == 0 && !s.is F.HBR_RXR_CFG_DROP q

/-- The head unit of port 5 that is served next: the highest class whose head may leave and is not held. -/
def State.rxHead (s : State) : Option (Nat × Link × VUnit) :=
  [7, 6, 5, 4, 3, 2, 1, 0].findSome? (fun c => match s.queue (40 + c) with
    | [] => none
    | l :: _ => if !s.mayLeave l then none else match s.unit? l.uid with
      | none => none
      | some v => if s.rxHolds v l then none else some (40 + c, l, v))

/-- RX_DELIVER (R306, R307): one frame of port 5. -/
def State.rxDeliver (s : State) : State :=
  if !s.islandUp 19 then s else
  match s.rxHead with
  | none => s
  | some (vq, l, v) =>
    let ue := s.ueOf v
    let q := s.rxQueue v l
    let s := (s.unlink vq l.uid l.loupe).1
    let s := s.meetUnit v
    if !ue.isEmpty then s.bump .swcCnt 2
    else if !s.is F.HBR_STAT_LINK_UP then s.bump .hbrRxqDrop q
    else
    let s := if isPostedReply v l then s.postedReply v.frame else s
    if s.isTrkReply v l then (if isPostedReply v l then s else s.trkReply v.frame v.authOk)
    else if !s.is F.HBR_RXR_CFG_ENABLE q || s.rxFree q == 0 then s.bump .hbrRxqDrop q
    else if l.loupe.isNone && v.frame.session != 0 && (s.slotOf v.frame.session).isSome && !v.authOk then s.bump .hbrCnt 9
    else s.rxWrite q v l.loupe.isSome

/-! ### Link, resets (R291, R307, R311) -/

/-- PCIE_LINK_UP. -/
def State.linkUpPcie (s : State) (speed width : Nat) : State :=
  if !s.islandUp 19 then s else
  ((s.put F.HBR_STAT_LINK_UP 1).put F.HBR_STAT_SPEED speed).put F.HBR_STAT_WIDTH width

/-- PCIE_LINK_DOWN: source PCIE_LINK_DOWN rises when the link falls. -/
def State.linkDownPcie (s : State) : State :=
  if !s.pcieUp then s else
  (((s.put F.HBR_STAT_LINK_UP 0).put F.HBR_STAT_SPEED 0).put F.HBR_STAT_WIDTH 0).raise 0x7C

/-- Does tag `t` still wait for a reply, a timeout or the end of its quarantine? One that awaits an NC retry has its reply. -/
def State.tagHeld (s : State) (t : Nat) (e : HbrTrk) : Bool :=
  e.waits || (s.deadline (.cmdTimeout 5 t)).isSome || (s.deadline (.quarantine 5 t)).isSome

/-- Hidden state of the bridge after a reset: commands that were sent keep their tags (R291). -/
def State.hbrCleared (s : State) : State :=
  let s := ((List.range 4).map id).foldl State.pfDrop s
  let held := s.hbr.trk.filter (fun e => s.tagHeld e.1 e.2)
  let keep := held.map (fun (e : Nat × HbrTrk) => (e.1, { e.2 with dead := true }))
  let s := s.disarmAll (fun t => match t with
    | .ncRetry _ => true | .readDeadline _ => true | .prefetch _ => true | .intMod _ => true | _ => false)
  let s := { s with ingress := s.ingress.map (fun (x : UnitIn) => { x with txr := false }) }
  s.setHbr { trk := keep, nextRead := s.hbr.nextRead, nextOrder := s.hbr.nextOrder, aer := s.hbr.aer, out := s.hbr.out }

/-- A change of mode (R311). -/
def State.hbrMode (s : State) : State := if s.islandUp 19 then s.hbrIrq F.HBR_IRQ_MODE_CHG 0 else s

end Sys2Proof.Machine
end

