-- ==== Sys2Proof/Machine/PowerOps.lean ====
section
/-!
DEFINITION. The field power channels (spec/13_field_power_channels.md, R313-R328): the right to drive, switching on and off,
parking, the fault timer, the thermal model, faults and retries, power good, the supply, measurement.
-/
namespace Sys2Proof.Machine

def State.pch (s : State) (c : Nat) : PchS := tget {} s.pchs c
def State.setPch (s : State) (c : Nat) (x : PchS) : State := { s with pchs := tset s.pchs c x }
def State.pwrUp (s : State) : Bool := s.islandUp 20

/-- STATE codes of PWR_CH_STAT. -/
def pcOff : Nat := 0
def pcRamp : Nat := 1
def pcEnhance : Nat := 2
def pcOn : Nat := 3
def pcRetryWait : Nat := 4
def pcLatched : Nat := 5
def pcHeld : Nat := 6
def pcParked : Nat := 7

def State.pst (s : State) (c : Nat) : Nat := s.get F.PWR_CH_STAT_STATE c
def State.setPst (s : State) (c st : Nat) : State := s.put F.PWR_CH_STAT_STATE st c

/-! ### The right to drive (R314) -/

/-- The conditions of R314 whose loss lets a channel park: ILK and the die-to-die link. -/
def State.pwrSoft (s : State) : Bool := s.is F.PWR_STAT_LINK_OK && s.ilkOk

/-- The other conditions except VIN. -/
def State.pwrHard (s : State) : Bool :=
  s.pwrUp && s.is F.PWR_CFG_OUT_EN && s.mode != .boot && s.mode != .recovery && s.mode != .sleep

/-- VIN lies within the range of R325. -/
def State.vinOk (s : State) : Bool := !s.is F.PWR_STAT_VIN_UV && !s.is F.PWR_STAT_VIN_OV

/-- The right to drive. -/
def State.pwrRight (s : State) : Bool := s.pwrSoft && s.pwrHard && s.vinOk

/-- Is the channel in RAMP, ENHANCE or ON? -/
def State.pchOn (s : State) (c : Nat) : Bool := let st := s.pst c; st == pcRamp || st == pcEnhance || st == pcOn

/-- Does this hub drive the gate? -/
def State.pchDriving (s : State) (c : Nat) : Bool := s.pst c == pcParked || (s.pchOn c && s.pwrRight)

/-! ### Fault timer (R317) -/

/-- The fault timer now, in ticks. -/
def State.ftNow (s : State) (c : Nat) : Nat :=
  let x := s.pch c
  let dt := (s.now - x.ftAt) / 1000
  if s.is F.PWR_CH_STAT_LIMITING c then x.ft + dt else x.ft - dt / 8

/-- Instant from which the timer is idle, when it counts down. -/
def State.ftIdleAt (s : State) (c : Nat) : Nat := let x := s.pch c; x.ftAt + 8000 * x.ft

/-- The channel stops limiting: the timer begins to count down. -/
def State.stopLimit (s : State) (c : Nat) : State :=
  if !s.is F.PWR_CH_STAT_LIMITING c then s else
  let ft := s.ftNow c
  ((s.setPch c { s.pch c with ft := ft, ftAt := s.now }).put F.PWR_CH_STAT_LIMITING 0 c).disarm (.ft c)

/-! ### Power good (R322) -/

/-- Start or restart the qualification of PG: in ON or PARKED, PG_QUAL_US after the ramp is complete and the timer idle, both from `from_`
on. -/
def State.pgQualify (s : State) (c from_ : Nat) : State :=
  if (s.pst c ≠ pcOn ∧ s.pst c ≠ pcParked) ∨ s.is F.PWR_CH_STAT_LIMITING c ∨ s.is F.PWR_CH_STAT_PG c then s.disarm (.pg c) else
  let t := max from_ (s.ftIdleAt c) + 1000 * s.get F.PWR_CH_CFG_PG_QUAL_US c
  { s with timers := (.pg c, t) :: s.timers.filter (fun e => e.1 != .pg c) }

/-- PG deasserts; each deassertion counts. -/
def State.pgDrop (s : State) (c : Nat) : State :=
  let s := s.disarm (.pg c)
  if !s.is F.PWR_CH_STAT_PG c then s else ((s.put F.PWR_CH_STAT_PG 0 c).bump .pwrCnt c 3).disarm (.retryReset c)

/-- PG_ASSERT: qualified for PG_QUAL_US. -/
def State.pgAssert (s : State) (c : Nat) : State :=
  match s.expire (.pg c) with
  | none => s
  | some s =>
    let s := (s.put F.PWR_CH_STAT_PG 1 c).setPch c { s.pch c with pgAt := s.now }
    s.arm (.retryReset c) 60000000000

/-! ### On, off, parking (R315, R316, R320) -/

/-- Timers of a channel that belong to the gate being driven. -/
def State.gateTimers (s : State) (c : Nat) : State := ((s.disarm (.ramp c)).disarm (.park c)).disarm (.ft c)

/-- Discharge the gate and go to state `st`. -/
def State.gateOff (s : State) (c st : Nat) : State :=
  let s := ((s.stopLimit c).pgDrop c).gateTimers c
  (s.setPch c { s.pch c with handed := false, lowV := false }).setPst c st

/-- A ramp starts, or the channel is HELD without the right to drive. -/
def State.startRamp (s : State) (c : Nat) : State :=
  if s.pwrRight then
    ((s.setPch c { s.pch c with handed := false }).setPst c pcRamp).arm (.ramp c) (1000000 * s.get F.PWR_CH_RAMP_RAMP_MAX_MS c)
  else s.setPst c pcHeld

/-- CLR_LATCH (R321). -/
def State.pchClrLatch (s : State) (c : Nat) : State :=
  if s.pst c = pcLatched then (s.put F.PWR_CH_STAT_CMD_ON 0 c).setPst c pcOff else s

/-- The gate is parked (R315). -/
def State.park (s : State) (c : Nat) : State :=
  ((s.setPch c { s.pch c with pairPark := s.paired }).setPst c pcParked).arm (.park c) (1000 * s.get F.PWR_CFG_PARK_US)

/-- DRIVE_RIGHT_LOSS (R314, R315): a channel in ON with HOLD_ON_RELEASE parks when only ILK or the link fails; any other that
drives discharges its gate and is HELD. -/
def State.pchLose (s : State) (c : Nat) : State :=
  if s.pwrRight || !s.pchOn c || (s.pch c).handed then s
  else if s.pst c == pcOn && s.is F.PWR_CH_CFG_HOLD_ON_RELEASE c && s.pwrHard && s.vinOk then
    s.park c
  else s.gateOff c pcHeld

/-- The right to drive returns: a parked channel is ON again with no gap, one commanded on and waiting starts its ramp; a
gate the partner drives is taken over without a gap. -/
def State.pchRegain (s : State) (c : Nat) : State :=
  if !s.pwrRight then s else
  let st := s.pst c
  if st = pcParked then ((s.setPst c pcOn).disarm (.park c)).pgQualify c (s.pch c).rampAt
  else if (st = pcHeld ∨ st = pcOff) ∧ s.is F.PWR_CH_STAT_CMD_ON c then
    if (s.pch c).handed then
      let s := (s.setPch c { s.pch c with handed := false, rampAt := s.now }).setPst c pcOn
      s.pgQualify c s.now
    else s.startRamp c
  else s

/-- All channels after a change of the right to drive. -/
def State.pwrSettle (s : State) : State := (List.range 16).foldl State.pchRegain s

/-- PARK_TIMEOUT (R315): the gate is discharged and the channel goes OFF; the commanded state is kept. -/
def State.parkTimeout (s : State) (c : Nat) : State :=
  match s.expire (.park c) with
  | none => s
  | some s => if s.pst c = pcParked then s.gateOff c pcOff else s

/-- PARK_HANDOFF (R315, R343): ILK has been low and driven by the partner for 2 µs. A core reset that parked the channel has cleared
CTL_PAIRADDR. -/
def State.parkHandoff (s : State) (c : Nat) : State :=
  if s.pst c ≠ pcParked ∨ !(s.pch c).pairPark ∨ s.is F.PAR_STAT_ILK_DRIVE ∨ !s.is F.PAR_STAT_ILK_LOW then s else
  let s := s.gateOff c pcHeld
  s.setPch c { s.pch c with handed := true }

/-- RAMP_COMPLETE (R316): through ENHANCE, or the ramp is complete. -/
def State.rampDone (s : State) (c : Nat) (enhance : Bool) : State :=
  if !s.pwrRight then s
  else if enhance then (if s.pst c = pcRamp then s.setPst c pcEnhance else s)
  else if s.pst c = pcRamp ∨ s.pst c = pcEnhance then
    let s := ((s.setPst c pcOn).disarm (.ramp c)).setPch c { s.pch c with rampAt := s.now }
    s.pgQualify c s.now
  else s

/-! ### Faults (R319, R321) -/

/-- Codes of R319. -/
def fcShort : Nat := 1
def fcOver : Nat := 2
def fcTemp : Nat := 3
def fcGate : Nat := 4
def fcStuck : Nat := 5
def fcRamp : Nat := 6
def fcOpen : Nat := 7
def fcVinUv : Nat := 8
def fcVinOv : Nat := 9

/-- An OFF of this PWR tick has turned the channel off: its retry count before. A fault of the tick still comes first (R320). -/
def State.offNow (s : State) (c : Nat) : Option Nat :=
  if (s.pch c).offTick == some (s.now / 1000) && s.pst c == pcOff then (s.pch c).offFrom else none

/-- The state a fault turn-off leads to: LATCHED by code 4 or when no retry is left, HELD after VIN, else RETRY_WAIT; an OFF of the
same tick acts after it. -/
def State.faultNext (s : State) (c code : Nat) : Nat :=
  let n := (s.offNow c).getD (s.get F.PWR_CH_FAULT_RETRY_CNT c)
  if code ≠ fcVinUv ∧ code ≠ fcVinOv ∧ (code = fcGate ∨ n ≥ s.get F.PWR_CH_CFG_RETRY_MAX c) then pcLatched
  else if (s.offNow c).isSome then pcOff
  else if code = fcVinUv ∨ code = fcVinOv then pcHeld
  else pcRetryWait

/-- Does a fault of R319 turn the channel off: it is on or parked, or an OFF of this tick has just turned it off? The faults of a
channel that only tracks come as orders (R335). -/
def State.faultable (s : State) (c : Nat) : Bool :=
  s.pst c == pcParked || (!s.tracking && (s.pchOn c || (s.offNow c).isSome))

/-- A fault turn-off: gate discharged, code, ending cause and ring time stored, counted, its source raised. -/
def State.faultOff (s : State) (c code end_ : Nat) : State :=
  if !s.faultable c then s else
  let next := s.faultNext c code
  let s := s.gateOff c next
  let s := (s.put F.PWR_CH_FAULT_CODE code c).put F.PWR_CH_FAULT_END end_ c
  let s := ((s.wr .pwrChFtime c 0 (s.stampNs 20)).put F.PWR_CH_STAT_CODE code c).bump .pwrCnt c 1
  let s := if next = pcRetryWait then s.arm (.retry c) 10000000000 else s
  let s := s.channelOrder c 1 code
  let s := if next = pcLatched then s.channelOrder c 3 code else s
  if code = fcVinUv ∨ code = fcVinOv then s.setLive (0x7F + code) c else s.raise (0x7F + code) c

/-- The code of an episode: by the phase in which the timer started. -/
def State.episodeCode (s : State) (c : Nat) : Nat := if (s.pch c).ftRamp then fcShort else fcOver

/-- LIMIT_ONSET (R317). A timer that starts in the tick in which PG asserted undoes it (R322). -/
def State.limitOnset (s : State) (c : Nat) : State :=
  if !s.pwrUp || s.is F.PWR_CH_STAT_LIMITING c || !(s.pchOn c || s.pst c == pcParked) then s else
  let ft := s.ftNow c
  let x := s.pch c
  let starts := decide (ft = 0)
  let x := { x with ft := ft, ftAt := s.now, ftRamp := if starts then s.pst c != pcOn && s.pst c != pcParked else x.ftRamp }
  let s := ((s.setPch c x).put F.PWR_CH_STAT_LIMITING 1 c).arm (.ft c) (1000 * (s.get F.PWR_CH_LIM_FT_US c - ft))
  if !starts then s.disarm (.pg c) else
  let s := s.bump .pwrCnt c 0
  if !s.is F.PWR_CH_STAT_PG c then s.disarm (.pg c)
  else if x.pgAt / 1000 = s.now / 1000 then (s.put F.PWR_CH_STAT_PG 0 c).disarm (.retryReset c)
  else if s.is F.PWR_CH_CFG_PG_EARLY c then s.pgDrop c
  else s

/-- LIMIT_END (R317). -/
def State.limitEnd (s : State) (c : Nat) : State :=
  if !s.pwrUp || !s.is F.PWR_CH_STAT_LIMITING c then s else
  let s := s.stopLimit c
  s.pgQualify c (s.pch c).rampAt

/-- FAULT_TIMER_EXPIRE (R319). -/
def State.ftExpire (s : State) (c : Nat) : State :=
  match s.expire (.ft c) with
  | none => s
  | some s => s.faultOff c (s.episodeCode c) 1

/-! ### Commands (R320, R321) -/

/-- A fault turn-off takes effect before any command of its tick. -/
def State.tickFault (s : State) (c : Nat) : State :=
  let due := fun t => (s.deadline t).any (fun t => t / 1000 ≤ s.now / 1000)
  if due (.ft c) then s.faultOff c (s.episodeCode c) 1
  else if due (.ramp c) then s.faultOff c fcRamp 0
  else s

/-- ON: RETRY_WAIT and LATCHED stay, and an OFF of the same tick wins. -/
def State.pchCmdOn (s : State) (c : Nat) : State :=
  let s := s.tickFault c
  let st := s.pst c
  if st = pcRetryWait ∨ st = pcLatched ∨ (s.pch c).offTick = some (s.now / 1000) then s else
  let s := s.put F.PWR_CH_STAT_CMD_ON 1 c
  if st = pcOff then s.startRamp c else if st = pcHeld then s.pchRegain c else s

/-- OFF: cancels RETRY_WAIT and clears the count; a latch stays. -/
def State.pchCmdOff (s : State) (c : Nat) : State :=
  let s := s.tickFault c
  let from_ := match s.offNow c with
    | some n => some n
    | none => if s.pchOn c || s.pst c == pcParked then some (s.get F.PWR_CH_FAULT_RETRY_CNT c) else none
  let s := s.setPch c { s.pch c with offTick := some (s.now / 1000), offFrom := from_, offEntry := none }
  let s := ((s.put F.PWR_CH_STAT_CMD_ON 0 c).put F.PWR_CH_FAULT_RETRY_CNT 0 c).disarm (.retry c)
  let st := s.pst c
  if st = pcLatched ∨ st = pcOff then s else s.gateOff c pcOff

/-! ### Thermal model (R318) -/

/-- A signed 16-bit field. -/
def s16 (n : Nat) : Int := (BitVec.ofNat 16 n).toInt

/-- P × RTH in 1e-9 °C. The rounding of the model is the hub's own (log entry 10). -/
def State.heat (s : State) (c : Nat) : Int :=
  let i := s16 (s.get F.PWR_CH_MEAS0_I c)
  let rth : Int := s.get F.PWR_CH_THERM0_RTH c
  let vin : Int := s.get F.PWR_CH_MEAS1_VIN c
  let st := s.pst c
  let on := st == pcOn || st == pcParked
  if !(s.pchOn c || st == pcParked) then 0
  else if on && !s.is F.PWR_CH_STAT_LIMITING c then i * i * s.get F.PWR_CH_THERM1_RDS c * rth / 1000
  else (vin - s16 (s.get F.PWR_CH_MEAS0_VOUT c)) * i * rth * 100

/-- T_ref in 0.125 °C: the FET's sensor, or the hotter power-die sensor. -/
def State.tRef (s : State) (c : Nat) : Int :=
  if s.get F.PWR_CH_CFG_TMP_MODE c ≠ 0 then s16 (s.get F.PWR_CH_MEAS2_T_MEAS c)
  else max (s16 (s.isl.ptemp.bits 31 16)) (s16 (s.isl.ptemp.bits 15 0))

/-- THERMAL_UPDATE (R318, R319). -/
def State.thermal (s : State) (c : Nat) : State :=
  if !s.pwrUp then s else
  let x := s.pch c
  let dT := x.dT + (s.heat c - x.dT) / (10 * s.get F.PWR_CH_THERM0_TAU c : Nat)
  let est := s.tRef c + dT / 125000000
  let s := (s.setPch c { x with dT := dT }).put F.PWR_CH_MEAS2_T_EST (BitVec.ofInt 16 est).toNat c
  let top : Int := 8 * s.get F.PWR_CH_THERM1_TFET_MAX c
  let hot := decide (est ≥ top) || (s.get F.PWR_CH_CFG_TMP_MODE c != 0 && decide (s16 (s.get F.PWR_CH_MEAS2_T_MEAS c) ≥ top))
  if !hot then s
  else if s.is F.PWR_CH_STAT_LIMITING c then s.faultOff c (s.episodeCode c) 2
  else s.faultOff c fcTemp 2

/-- May a channel turned off by OVERTEMP retry: T_est ≤ TFET_MAX − 20 °C? -/
def State.cool (s : State) (c : Nat) : Bool :=
  decide (s16 (s.get F.PWR_CH_MEAS2_T_EST c) ≤ 8 * (Int.ofNat (s.get F.PWR_CH_THERM1_TFET_MAX c) - 20))

/-! ### Other events of a channel -/

/-- FET_GATE_FAIL. -/
def State.gateFail (s : State) (c : Nat) : State :=
  if s.pwrUp && (s.pchDriving c || (s.offNow c).isSome) then s.faultOff c fcGate 0 else s

/-- FET_STUCK_ON: reported and latched; nothing was turned off. -/
def State.stuckOn (s : State) (c : Nat) : State :=
  if !s.pwrUp || s.pchOn c || s.pst c == pcParked || (s.pch c).handed || s.tracking then s else
  let s := ((s.put F.PWR_CH_STAT_CODE fcStuck c).setPst c pcLatched).disarm (.retry c)
  (s.channelOrder c 3 fcStuck).raise 0x84 c

/-- RAMP_TIMEOUT. -/
def State.rampTimeout (s : State) (c : Nat) : State :=
  match s.expire (.ramp c) with
  | none => s
  | some s => s.faultOff c fcRamp 0

/-- OPEN_LOAD: the flag is set and nothing is turned off. -/
def State.openLoad (s : State) (c : Nat) : State :=
  if !s.pwrUp || s.pst c != pcOn || s.get F.PWR_CH_SNS_OPEN_MA c == 0 || s.is F.PWR_CH_STAT_OPEN_LOAD c then s else
  ((s.put F.PWR_CH_STAT_OPEN_LOAD 1 c).put F.PWR_CH_STAT_CODE fcOpen c).setLive 0x86 c

/-- RETRY_EXPIRE (R321): the ramp starts again, after OVERTEMP only once the FET has cooled. -/
def State.retryEnd (s : State) (c : Nat) : State :=
  match s.expire (.retry c) with
  | none => s
  | some s =>
    if s.pst c ≠ pcRetryWait then s
    else if s.tracking ∨ (s.get F.PWR_CH_FAULT_CODE c = fcTemp ∧ !s.cool c) then s.arm (.retry c) 10000
    else
      let s := ((s.put F.PWR_CH_FAULT_RETRY_CNT (s.get F.PWR_CH_FAULT_RETRY_CNT c + 1) c).bump .pwrCnt c 2).startRamp c
      s.channelOrder c 2 0

/-- RETRY_COUNT_RESET (R321). -/
def State.retryReset (s : State) (c : Nat) : State :=
  match s.expire (.retryReset c) with
  | none => s
  | some s => s.put F.PWR_CH_FAULT_RETRY_CNT 0 c

/-! ### Supply (R325, R326) -/

/-- VIN_OUT_OF_RANGE. -/
def State.vinOut (s : State) (ov : Bool) : State :=
  if !s.pwrUp then s else
  let s := s.put (if ov then F.PWR_STAT_VIN_OV else F.PWR_STAT_VIN_UV) 1
  (List.range 16).foldl (fun s c => s.faultOff c (if ov then fcVinOv else fcVinUv) 0) s

/-- VIN_RESTORED. -/
def State.vinBack (s : State) : State :=
  if !s.pwrUp then s else
  let s := (s.put F.PWR_STAT_VIN_OV 0).put F.PWR_STAT_VIN_UV 0
  ((List.range 16).foldl (fun s c => (s.clearLive 0x87 c).clearLive 0x88 c) s).pwrSettle

/-- PFWARN_ASSERT and PFWARN_RELEASE. -/
def State.pfwarn (s : State) (on : Bool) : State :=
  if !s.pwrUp || s.is F.PWR_STAT_PFWARN == on then s
  else if on then (s.put F.PWR_STAT_PFWARN 1).setLive 0x89
  else (s.put F.PWR_STAT_PFWARN 0).clearLive 0x89

/-! ### Measurement (R327) -/

/-- A tracking channel commanded on reports the state that its gate and VOUT imply (R316, R335). -/
def State.trackState (s : State) (c : Nat) (m : Meas) : State :=
  let st := s.pst c
  if !s.tracking || !s.is F.PWR_CH_STAT_CMD_ON c || st == pcRetryWait || st == pcLatched || st == pcParked then s else
  let vin := Int.ofNat m.vin.toNat
  let gate := m.vgs.toInt + m.vout.toInt
  let st := (
    if decide (gate ≥ vin + 400) && decide (m.vout.toInt ≥ vin - 50) then pcOn
    else if m.vout.toInt ≥ vin - 100 then pcEnhance
    else if m.vgs.toInt > 100 then pcRamp
    else pcHeld)
  let at_ := if s.pst c == pcOn then (s.pch c).rampAt else s.now
  (s.setPch c { s.pch c with handed := st != pcHeld, rampAt := at_ }).setPst c st

/-- A tracking hub has won ILK (R335, R343): a timer that had expired takes effect; a channel in ON with HOLD_ON_RELEASE is
driven from its own state with no ramp; any other that is commanded on ramps from RAMP. -/
def State.takeChannel (s : State) (c : Nat) : State :=
  if !s.pchOn c then s else
  let s := s.setPch c { s.pch c with handed := false }
  if s.is F.PWR_CH_STAT_LIMITING c && decide (s.ftNow c ≥ s.get F.PWR_CH_LIM_FT_US c) then
    s.faultOff c (s.episodeCode c) 1
  else if s.pst c == pcOn && s.is F.PWR_CH_CFG_HOLD_ON_RELEASE c then s.pgQualify c (s.pch c).rampAt
  else s.startRamp c

/-- A CHANNEL order at the shadow (R333): turn-off by code, retry start, latch. -/
def State.channelApply (s : State) (c what code : Nat) : State :=
  if what = 1 then
    let next := if code = fcVinUv ∨ code = fcVinOv then pcHeld else pcRetryWait
    let s := ((s.gateOff c next).put F.PWR_CH_FAULT_CODE code c).put F.PWR_CH_STAT_CODE code c
    let s := (s.wr .pwrChFtime c 0 (s.stampNs 20)).bump .pwrCnt c 1
    if next = pcRetryWait then s.arm (.retry c) 10000000000 else s
  else if what = 2 then
    let s := (s.put F.PWR_CH_FAULT_RETRY_CNT (s.get F.PWR_CH_FAULT_RETRY_CNT c + 1) c).bump .pwrCnt c 2
    (s.startRamp c).disarm (.retry c)
  else if what = 3 then ((s.put F.PWR_CH_STAT_CODE code c).gateOff c pcLatched).disarm (.retry c)
  else s

/-- MEASUREMENT: the record of a channel, OPEN_LOAD's end and the loss of PG by a low output. -/
def State.measure (s : State) (c : Nat) (m : Meas) : State :=
  if !s.pwrUp then s else
  let tm := if s.get F.PWR_CH_CFG_TMP_MODE c = 0 then 0x8000 else m.tMeas
  let s := ((s.wr .pwrChMeas0 c 0 (m.i ++ m.vout)).wr .pwrChMeas1 c 0 (m.vgs ++ m.vin)).put F.PWR_CH_MEAS2_T_MEAS tm.toNat c
  let s := (s.put F.PWR_STAT_VIN m.vin.toNat).trackState c m
  let s := if s.is F.PWR_CH_STAT_OPEN_LOAD c && decide (m.i.toInt > s.get F.PWR_CH_SNS_OPEN_MA c) then
      (s.put F.PWR_CH_STAT_OPEN_LOAD 0 c).clearLive 0x86 c else s
  let low := decide (m.vout.toInt < Int.ofNat m.vin.toNat - 150)
  let was := (s.pch c).lowV
  let s := s.setPch c { s.pch c with lowV := low }
  if low && was && s.is F.PWR_CH_STAT_PG c then
    ((s.setPch c { s.pch c with rampAt := s.now }).pgDrop c).pgQualify c s.now
  else s

/-! ### Link, modes, resets (R314, R324) -/

/-- DIE_TO_DIE_LINK_LOSS: LINK_OK clears, and PWR_LINK raises while neither die is in reset. -/
def State.dieLinkLoss (s : State) : State :=
  let s := s.put F.PWR_STAT_LINK_OK 0
  if s.pwrUp then s.setLive 0x8A else s

/-- DIE_TO_DIE_LINK_RETURN. -/
def State.dieLinkReturn (s : State) : State := ((s.put F.PWR_STAT_LINK_OK 1).clearLive 0x8A).pwrSettle

/-- Entry into SAFE. -/
def State.pwrSafe (s : State) : State :=
  if !s.pwrUp then s else
  (List.range 16).foldl (fun s c => match s.get F.PWR_CH_CFG_SAFE c with
    | 1 => s.pchCmdOff c
    | 2 => s.pchCmdOn c
    | _ => s) s

/-- Entry into COMMISSION: OUT_EN clears and every channel that is on becomes HELD. -/
def State.pwrCommission (s : State) : State :=
  if !s.pwrUp then s else
  let s := s.put F.PWR_CFG_OUT_EN 0
  (List.range 16).foldl (fun s c => if s.pchOn c || s.pst c == pcParked then s.gateOff c pcHeld else s) s

/-- Entry into RUN from BOOT. -/
def State.pwrRun (s : State) : State :=
  if !s.pwrUp then s else
  (List.range 16).foldl (fun s c => if s.is F.PWR_CH_CFG_INIT_ON c then s.pchCmdOn c else s) s

/-- Entry into SLEEP: every channel is turned off and PFWARN_N released. -/
def State.pwrSleep (s : State) : State :=
  (((List.range 16).foldl State.pchCmdOff s).put F.PWR_STAT_PFWARN 0).clearLive 0x89

/-- A core reset of kind PIN, WDG or CMD (R324): a loss of the right to drive; answers whether a channel parks. The gate of a channel
that this hub does not drive stays as it is. -/
def State.pwrCoreReset (s : State) : State × Bool :=
  let s := (List.range 16).foldl (fun s c =>
    if !s.pchDriving c || s.pst c == pcParked then s
    else if s.pst c == pcOn && s.is F.PWR_CH_CFG_HOLD_ON_RELEASE c then s.park c
    else s.gateOff c pcHeld) s
  (s, (List.range 16).any (fun c => s.pst c == pcParked))

/-- Hidden state of the channels after a reset of their island: gates handed to the partner stay at high impedance (R324). -/
def State.pwrCleared (s : State) : State :=
  let s := s.disarmAll (fun t => match t with
    | .ramp _ | .retry _ | .retryReset _ | .pg _ | .park _ | .ft _ => true | _ => false)
  let s := ((List.range 16).foldl (fun s c => ((s.clearLive 0x86 c).clearLive 0x87 c).clearLive 0x88 c) s).clearLive 0x89
  { s with pchs := s.pchs.filterMap (fun (e : Nat × PchS) => if e.2.handed then some (e.1, { handed := true }) else none) }

/-- PWR_CH_STAT, PWR_CH_FAULT, PWR_PG and PWR_STAT as they read. -/
def State.pwrChStat (s : State) (c : Nat) : Word :=
  let w := (s.rd .pwrChStat c).setBits 24 24 (bit (s.pchDriving c))
  w.setBits 9 0 (min 1000 (1000 * s.ftNow c / max 1 (s.get F.PWR_CH_LIM_FT_US c)))
def State.pwrChFault (s : State) (c : Nat) : Word :=
  (s.rd .pwrChFault c).setBits 19 16 (match s.deadline (.retry c) with
    | some t => min 10 ((t - s.now + 999999999) / 1000000000)
    | none => 0)
def State.pwrPgWord (s : State) : Word :=
  (List.range 16).foldl (fun (w : Word) c =>
    (w.setBits c c (s.get F.PWR_CH_STAT_PG c)).setBits (16 + c) (16 + c) (s.get F.PWR_CH_STAT_CMD_ON c)) 0
def State.pwrStatWord (s : State) : Word := (s.rd .pwrStat).setBits 1 1 (bit (s.pwrSoft && s.pwrHard))

/-- PWR_CMD and PWR_CH_CTL act in the order of R320: OFF wins. -/
def State.pwrMasks (s : State) (on off : BitVec 16) : State :=
  (List.range 16).foldl (fun s c =>
    if off.getLsbD c then s.pchCmdOff c else if on.getLsbD c then s.pchCmdOn c else s) s

/-- Calibration of a channel (R327): PWR_CH_CAL takes what was measured, a free offset and, with `gain`, a free gain. -/
def State.pchCalibrate (s : State) (gain : Bool) (c : Nat) : State :=
  let (w, s) := s.fresh
  s.wr .pwrChCal c 0 (if gain then w else (s.rd .pwrChCal c).setBits 31 16 (w.bits 31 16))

/-- Channels of a mask that are in state OFF; with `any`, those that are not on, in whatever state (R85, R327). -/
def State.pchOffOf (s : State) (m : Nat) (any : Bool := false) : List Nat :=
  (List.range 16).filter (fun c => bitOf m c && (s.pst c == pcOff || (any && !s.pchOn c && s.pst c != pcParked)))

end Sys2Proof.Machine
end

