-- ==== Sys2Proof/Machine/FireOps.lean ====
section
/-!
DEFINITION. The actions of the schedule table at their instant (R183, R185, R204, R216, R237, R323, R327).
-/
namespace Sys2Proof.Machine

/-- Was island `i` found in reset at hand-over or at T (R185)? -/
def Entry.dead (e : Entry) (i : Nat) : Bool := e.skipped.contains i

/-- May engine `m` start in the present mode (R214)? -/
def State.startOk (s : State) (m : Nat) : Bool := !(s.mode == .run && s.eget F.ENG_CLK_NUM m != 0)

/-- Is field port `p` in service with its outputs enabled (R79, R80)? -/
def State.portOutOk (s : State) (p : Nat) : Bool :=
  (s.portCfg p).enable &&
    (if p < 26 then s.is F.MAC_CFG_OUT_EN (portMac p)
     else if p < 58 then s.is F.CAN_CFG_OUT_EN (p - 26)
     else s.is F.CLU_CFG_OUT_EN ((p - 58) / 8))

/-- ENG_START (R216): an engine that runs already is left as it is and its bit set in SCHED_SKIP; one that R214 bars by then is not
started, which the fire EVENT reports as NOT_IN_MODE. -/
def State.fireStart (s : State) (n : Nat) : State :=
  match s.takeEntry n 1 0x01 with
  | none => s
  | some (s, e) =>
    let live := e.engines.filter (fun m => !e.dead (9 + m / 8))
    let bad := live.any (fun m => !s.running m && !s.startOk m)
    let s := live.foldl (fun s m =>
      if s.running m then s.put F.CLU_STAT_SCHED_SKIP (s.get F.CLU_STAT_SCHED_SKIP (m / 8) ||| 2 ^ (m % 8)) (m / 8)
      else if !s.startOk m then s
      else s.startEngine m (s.eget F.ENG_CTL_START_PC m) 0) s
    s.fired n e (if bad then stNotInMode else stOk) []

/-- ENG_STOP. -/
def State.fireStop (s : State) (n : Nat) : State :=
  match s.takeEntry n 1 0x02 with
  | none => s
  | some (s, e) =>
    let s := (e.engines.filter (fun m => !e.dead (9 + m / 8))).foldl (fun s m => s.stopEngine m scSched) s
    s.fired n e stOk []

/-- The data of a SEND at the head of its port's transmit path. -/
def State.sendNow (s : State) (e : Entry) : State :=
  let bytes := (e.data.getD 0 0).bits 10 0
  let ws := e.data.drop 1
  let p := e.port
  if p < 26 then
    let m := portMac p
    let h := ws.getD 0 0
    let t : MacTx :=
      { hdr := h, bytes := (wordsBytes (ws.drop 1)).take (h.bits 10 0), kind := 1, seq := e.seq, node := e.node }
    (s.setMac m { s.mac m with sends := (s.mac m).sends ++ [t] }).macFill m
  else if p < 58 then
    let c := p - 26
    let t : CanTx :=
      { hdr := ws.take 5, data := ws.drop 5, seq := e.seq, node := e.node, sched := true, due := s.now }
    (s.setCan c { s.can c with sends := (s.can c).sends ++ [t] }).canFill c
  else s.sendAhead (p - 58) (itemWords ws bytes (s.eis F.ENG_QCFG_TX_LENWORD (p - 58)) false)

/-- SEND: a port whose outputs are no longer enabled sends nothing. -/
def State.fireSend (s : State) (n : Nat) : State :=
  match s.takeEntry n 1 0x10 with
  | none => s
  | some (s, e) =>
    if e.dead (portIsland e.port) then s.fired n e stOk []
    else if !s.portOutOk e.port then s.fired n e stNotInMode []
    else (s.sendNow e).fired n e stOk []

/-- PIN_SET (R204): a pin that has left DIRECT_OUT is skipped. -/
def State.firePinSet (s : State) (n : Nat) : State :=
  match s.takeEntry n 1 0x20 with
  | none => s
  | some (s, e) =>
    let k := e.cluster
    let lv := e.data.getD 2 0
    let w := (List.range 32).foldl (fun (w : Word) p =>
      if e.pins.getLsbD p && s.get F.PIN_CFG_MODE k p == 2 then w.setBits p p (bit (lv.getLsbD p)) else w) (s.rd .cluDout k)
    (if e.dead (9 + k) then s else s.setDout k w).fired n e stOk []

/-- PIN_SAMPLE: the CLU_DIN bits of the masked pins. -/
def State.firePinSample (s : State) (n : Nat) : State :=
  match s.takeEntry n 2 0x40 with
  | none => s
  | some (s, e) =>
    let k := e.cluster
    s.fired n e stOk [if e.dead (9 + k) then 0 else s.cluDinWord k &&& e.pins]

/-- COUNT_SAMPLE: one word per masked pin; a pin that has left DIRECT_IN gives 0. -/
def State.fireCountSample (s : State) (n : Nat) : State :=
  match s.takeEntry n 2 0x41 with
  | none => s
  | some (s, e) =>
    let k := e.cluster
    let pins := (List.range 32).filter e.pins.getLsbD
    s.fired n e stOk (pins.map (fun p =>
      if e.dead (9 + k) || s.get F.PIN_CFG_MODE k p != 1 then 0 else s.rd .cluPcnt k p))

/-- ENG_TRIGGER (R237). -/
def State.fireTrigger (s : State) (n : Nat) : State :=
  match s.takeEntry n 2 0x42 with
  | none => s
  | some (s, e) =>
    let s := (e.engines.filter (fun m => !e.dead (9 + m / 8))).foldl (fun s m => s.setEng m { s.eng m with trig := true }) s
    s.fired n e stOk []

/-- Channels of a mask word. -/
def Entry.channels (e : Entry) : List Nat := (List.range 16).filter (e.data.getD 0 0).getLsbD

/-- Of two entries of one instant the higher-numbered one's value stands (R186): an OFF of the lower does not win over it. R320 has
OFF win over ON in one tick whatever they come from; for two entries of one instant the model follows R186 (DEDUCED, log entry 50). -/
def State.entryOver (s : State) (e : Entry) (c : Nat) : State :=
  if (s.pch c).offEntry = some e.t then s.setPch c { s.pch c with offTick := none } else s

/-- A channel as an entry of PWR_ON or of PWR_OFF commands it. -/
def State.entryOn (s : State) (e : Entry) (c : Nat) : State := (s.entryOver e c).pchCmdOn c
def State.entryOff (s : State) (e : Entry) (c : Nat) : State :=
  (s.pchCmdOff c).setPch c { (s.pchCmdOff c).pch c with offEntry := some e.t }

/-- PWR_ON (R323): channels that cannot follow give NOT_IN_MODE. -/
def State.firePwrOn (s : State) (n : Nat) : State :=
  match s.takeEntry n 1 0x30 with
  | none => s
  | some (s, e) =>
    if e.dead 20 then s.fired n e stOk [] else
    let s := e.channels.foldl (fun s c => s.entryOn e c) s
    let bad := e.channels.any (fun c => let st := s.pst c; st == pcHeld || st == pcRetryWait || st == pcLatched)
    s.fired n e (if bad then stNotInMode else stOk) []

/-- PWR_OFF (R323): a latched channel does not follow. -/
def State.firePwrOff (s : State) (n : Nat) : State :=
  match s.takeEntry n 1 0x31 with
  | none => s
  | some (s, e) =>
    if e.dead 20 then s.fired n e stOk [] else
    let s := e.channels.foldl (fun s c => s.entryOff e c) s
    s.fired n e (if e.channels.any (fun c => s.pst c == pcLatched) then stNotInMode else stOk) []

/-- PWR_SAMPLE (R327): four words per masked channel. -/
def State.firePwrSample (s : State) (n : Nat) : State :=
  match s.takeEntry n 2 0x43 with
  | none => s
  | some (s, e) =>
    s.fired n e stOk (e.channels.flatMap (fun c =>
      if e.dead 20 then [0, 0, 0, 0]
      else [s.rd .pwrChMeas0 c, s.rd .pwrChMeas1 c, s.rd .pwrChMeas2 c, s.pwrChStat c]))

/-- A write of an entry number to TIM_SCHED_CANCEL (R187). -/
def State.schedCancel (s : State) (n : Nat) : State := if s.islandUp 7 then s.cancelEntry false n else s

end Sys2Proof.Machine
end

