-- ==== Sys2Proof/Machine/SafeOps.lean ====
section
/-!
DEFINITION. Modes and their records (R359, R403, R404): entry into SAFE and the way out (R380, R381), and what a change of mode
does to the blocks.
-/
namespace Sys2Proof.Machine

/-- Outputs after their gates have changed: pins, field power channels, and the controllers that may send again. -/
def State.settleOutputs (s : State) : State :=
  let s := s.settleAll.pwrSettle
  let s := (List.range 32).foldl State.canFill s
  (List.range 20).foldl State.macGate s

/-- The MODE record (R359). The cause of an entry into SAFE is the code of FLT_SAFE.CAUSE; of any other change the spec gives no
code, and the word is a free value (log entry 12). -/
def State.logMode (s : State) (old : Mode) (cause : Option Nat) (reason : Word) : State :=
  let (w, s) := match cause with
    | some c => (BitVec.ofNat 32 c, s)
    | none => s.fresh
  s.log false 0 0 0 evMode {} [BitVec.ofNat 32 old.code, BitVec.ofNat 32 s.mode.code, w, reason]

/-- The bypass test release is cleared on leaving COMMISSION (R121). -/
def State.endTestRelease (s : State) (m : Mode) : State :=
  if m ≠ .commission ∧ s.is F.LNK_BYP_TEST_RELEASE then s.put F.LNK_BYP_TEST_RELEASE 0 else s

/-- The mode changes: CTL_STATE.MODE is derived from it; the window bridge, ALIVE and the output gates follow. -/
def State.setMode (s : State) (m : Mode) : State :=
  let t := { s.endTestRelease m with mode := m }
  ((if s.mode.code = m.code then t else t.hbrMode).updateAlive).settleOutputs

/-- SAFE reaches every island with FLT_SAFE = `w`: the blocks' safe behaviour, schedule entries cancelled (R187), a MODE record. -/
def State.toSafe (s : State) (w : Word) : State :=
  let old := s.mode
  let s := { s.wr .fltSafe 0 0 w with mode := .safe }
  let s := (List.range 8).foldl State.cluSafe s
  let s := s.canSafe.macSafe.pwrSafe.cancelForSafe
  (s.setMode .safe).logMode old (some (w.bits 27 24)) (BitVec.ofNat 32 (w.bits 15 0))

/-- FLT_SAFE. -/
def safeWord (from_ : Mode) (cause source reason : Nat) : Word :=
  (((((0 : Word).setBits 31 31 1).setBits 30 28 from_.code).setBits 27 24 cause).setBits 23 16 source).setBits 15 0 reason

/-- Entry into SAFE (R380). -/
def State.enterSafe (s : State) (cause source reason : Nat) : State :=
  if s.mode ≠ .commission ∧ s.mode ≠ .run then s else s.toSafe (safeWord s.mode cause source reason)

/-- Outputs disabled until the explicit enable of each block, at an entry into COMMISSION (R249, R275, R324, R381). -/
def State.commissionOutputs (s : State) : State := s.cluCommission.canCommission.macCommission.pwrCommission

/-- SAFE_LEAVE (R381) once nothing bars it: back to FLT_SAFE.FROM. -/
def State.leaveSafe (s : State) : State :=
  let m := Mode.ofCode (s.get F.FLT_SAFE_FROM)
  let m := if m = .commission then .commission else .run
  let s := (s.put F.FLT_SAFE_IN_SAFE 0)
  let s := if m = .commission then s.commissionOutputs else s
  (s.setMode m).logMode .safe none 0

/-- Is SAFE_LEAVE barred (R381)? -/
def State.safeHeld (s : State) : Bool := decide (s.unacked > 0) || s.checkFail || s.is F.FLT_STAT_UNFIT

end Sys2Proof.Machine
end

