-- ==== Sys2Proof/Machine/PairOps.lean ====
section
/-!
DEFINITION. The duplex pair (spec/14_duplex_pair.md, R329-R347): roles, heartbeats, the claim, pairing, the shadow's side of
the order stream, digests, state transfer and handover.
-/
namespace Sys2Proof.Machine

def State.parSt (s : State) : Nat := s.get F.PAR_STAT_STATE

/-! ### Roles (R331, R340) -/

/-- Drive or release ILK; releasing gates the field outputs at once. -/
def State.driveIlk (s : State) (on : Bool) : State :=
  if s.is F.PAR_STAT_ILK_DRIVE == on then s else (s.put F.PAR_STAT_ILK_DRIVE (bit on)).settleOutputs

/-- Enter a pair state: CTL_STATE.PAIRED, ILK where the state does not drive it, heartbeats, and the PAIR_ROLE record. -/
def State.setPair (s : State) (st : Nat) : State :=
  let old := s.parSt
  if old = st then s else
  let s := (s.put F.PAR_STAT_STATE st).put F.CTL_STATE_PAIRED (bit (decide (st ≥ psActive)))
  let s := if st = psActive ∨ st = psActiveAlone ∨ st = psClaiming then s else s.driveIlk false
  let s := if st = psStandalone then s.disarm .hbSend else if (s.deadline .hbSend).isSome then s else s.arm .hbSend 1000
  s.log false 0 0 0 evPairRole {} [BitVec.ofNat 32 old, BitVec.ofNat 32 st, s.rd .parLastCause]

/-- SHADOW_SYNC: the hub asks for the state by its JOINs; a transfer ends within 50 ms (R346). -/
def State.enterSync (s : State) : State :=
  let s := s.setPair psShadowSync
  let s := { s with pair := { s.pair with synced := false, claim := 0 } }
  if !s.fit then s else (s.arm .transfer 50000000).arm .joinSend 0

/-- OUT_OF_STEP. -/
def State.enterOos (s : State) (stuck : Bool) : State :=
  let s := (s.disarm .transfer).disarm .joinSend
  { s.setPair psOutOfStep with pair := { s.pair with claim := 0, stuck := stuck } }

/-- OUT_OF_STEP is left once the twin link is up (R331). -/
def State.leaveOos (s : State) : State :=
  if s.parSt == psOutOfStep && !s.pair.stuck && s.twinUp && s.fit then s.enterSync else s

/-! ### Heartbeats (R337, R339) -/

/-- Does the hub take part in pairing (R331)? -/
def State.pairs (s : State) : Bool := s.paired && s.parSt != psStandalone && s.boot.powered

/-- Does the hub apply orders now? -/
def State.follows (s : State) : Bool :=
  s.pairs && s.twinUp && (s.parSt == psShadow || (s.parSt == psShadowSync && s.pair.synced))

/-- FAULT of the heartbeats sent. -/
def State.faultReport (s : State) : Bool := decide (s.unacked > 0)

/-- The ACK of a shadow goes out with each of its heartbeats, so at least every 2 µs (R337). -/
def State.ackSend (s : State) : State := if s.follows then s.orderSet 3 ((s.pair.expect + 65535) % 65536) else s

/-- HEARTBEAT_SEND: every 1 µs a HEARTBEAT on an up twin link, and HB_OUT toggles; with a fault report HB_OUT toggles every 0.25 µs
(R339). -/
def State.heartbeatSend (s : State) : State :=
  match s.expire .hbSend with
  | none => s
  | some s =>
    if s.parSt = psStandalone ∨ !s.fit then s else
    let d2 := (((((0 : Word).setBits 7 5 s.parSt).setBits 4 4 (bit s.faultReport)).setBits 3 3
      (s.get F.PAR_STAT_ILK_DRIVE)).setBits 2 2 (s.get F.PAR_CFG_PAIR_ID)).setBits 1 0 s.pair.beat.toNat
    let p : PairS := { s.pair with hbOut := !s.pair.hbOut, quarter := if s.faultReport then s.pair.quarter + 1 else 0 }
    let s := { s with pair := p }.arm .hbSend (if s.faultReport then 250 else 1000)
    if s.faultReport && p.quarter != 1 then s else
    let s := if s.twinUp then (s.orderedSet 1 (d2.setWidth 8) (BitVec.ofNat 8 s.mode.code)).ackSend else s
    { s with pair := { s.pair with beat := s.pair.beat + 1 } }

/-- Start the claim wait of R341, for claims in PAIRING with the further wait of R345. -/
def State.startClaim (s : State) (cause : Nat) : State :=
  let id1 := cause = 6 ∨ s.is F.PAR_CFG_PAIR_ID
  let further := if cause ≥ 4 then 512 * ((s.rd .ctlUid 0).toNat % 64) else 0
  { s with pair := { s.pair with claim := cause } }.arm .claimWait ((if id1 then 8000 else 4000) + further)

/-- The claim is given up (R341, R345): a shadow returns to SHADOW or goes out of step; in PAIRING the other hub has won. -/
def State.claimAbort (s : State) : State :=
  let c := s.pair.claim
  let s := { s with pair := { s.pair with claim := 0 } }.disarm .claimWait
  if c = 6 then s.setPair psStandalone else
  let s := s.bump .parCnt 5
  if c = 4 then s.enterSync
  else if c = 5 then s.arm .pairWait (1000000 * s.get F.PAR_CFG_PAIR_WAIT_MS)
  else if s.is F.PAR_STAT_TWIN_HB then s.setPair psShadow
  else s.enterOos false

/-- The shadow declares the active failed (R341). -/
def State.declare (s : State) (cause : Nat) : State :=
  let s := ((s.setPair psClaiming).disarm .pinWait).startClaim cause
  if s.is F.PAR_STAT_ILK_LOW then s.claimAbort else s

/-- Is the other path silent, or does it carry a fault report? -/
def State.pathSilent (s : State) (pin : Bool) : Bool := !s.is (if pin then F.PAR_STAT_PIN_HB else F.PAR_STAT_TWIN_HB)
def State.pathFault (s : State) (pin : Bool) : Bool := if pin then s.pair.pinFault else s.pair.twinFault

/-- PAR_STAT.PARTNER_FAULT after a change, and the declaration of R341 by a silent path and a fault report on the other. -/
def State.judgePaths (s : State) : State :=
  let s := s.put F.PAR_STAT_PARTNER_FAULT (bit (s.pair.twinFault || s.pair.pinFault))
  let hit := fun pin => s.pathSilent pin && !s.pathSilent (!pin) && s.pathFault (!pin)
  if s.parSt == psShadow && (hit true || hit false) then s.declare 2 else s

/-- HEARTBEAT: the partner's state and fault report. -/
def State.heartbeatIn (s : State) (d2 d3 : BitVec 8) : State :=
  if !s.pairs || !s.twinUp then s else
  let w : Word := d2.setWidth 32
  let s := (s.put F.PAR_STAT_TWIN_HB 1).put F.PAR_PARTNER_PAIR_ID (w.bits 2 2)
  let s := ((s.put F.PAR_PARTNER_STATE (w.bits 7 5)).put F.PAR_PARTNER_ILK_DRIVE (w.bits 3 3)).put F.PAR_PARTNER_MODE
    (d3.toNat % 8)
  let s := { s with pair := { s.pair with twinFault := w.getLsbD 4 } }
  (((s.arm .hbTwin 8000).clearLive 0x92 0).judgePaths).leaveOos

/-- HB_IN_EDGE: `interval` ns after the edge before it. -/
def State.hbInEdge (s : State) (interval : Nat) : State :=
  if !s.pairs then s else
  let n := if interval < 500 then s.pair.fastRun + 1 else 0
  let s := s.put F.PAR_STAT_PIN_HB 1
  let s := { s with pair := { s.pair with fastRun := n, pinFault := decide (n ≥ 4) } }
  ((s.arm .hbPin 8000).clearLive 0x92 1).judgePaths

/-- A path is silent: 8 µs without a beat, or, on the twin path, lane 4 not up (R339). -/
def State.silence (s : State) (pin : Bool) : Option State :=
  let t := if pin then Timer.hbPin else Timer.hbTwin
  if !pin && !s.twinUp && (s.deadline t).isSome then some (s.disarm t) else s.expire t

/-- The shadow is not heard while a handover runs: it is given up. PAIR_HANDOVER is answered with BUSY, and a fault reaction is taken
as SAFE, as without a shadow (R344; DESIGN CHOICE, log entry 50). -/
def State.handoverFails (s : State) : State :=
  match s.pair.handover with
  | none => s
  | some (some c) => { s with pair := { s.pair with handover := none, answer := some c, abandoned := true } }
  | some none => { s with pair := { s.pair with handover := none } }.enterSafe 2 (s.get F.FLT_LASTREACT_SOURCE) 0

/-- A path has fallen silent (R339). -/
def State.pathLost (s : State) (pin : Bool) : State :=
  let s := s.put (if pin then F.PAR_STAT_PIN_HB else F.PAR_STAT_TWIN_HB) 0
  let p := s.pair
  let s := { s with pair := if pin then { p with pinFault := false, fastRun := 0 } else { p with twinFault := false } }
  let s := s.put F.PAR_STAT_PARTNER_FAULT (bit (s.pair.twinFault || s.pair.pinFault))
  if !s.pairs then s else
  let s := if pin && !s.pathSilent false then s else s.handoverFails
  if s.pathSilent (!pin) then
    if s.parSt = psShadow then s.declare 1
    else if s.parSt = psActive then (s.twinDown.setPair psActiveAlone).raise 0x93
    else s
  else
    let s := if s.pathFault (!pin) then s else (s.bump .parCnt 6).setLive 0x92 (bit pin)
    if s.parSt ≠ psShadow then s
    else if s.pathFault (!pin) then s.declare 2
    else if pin then s
    else s.arm .pinWait 2000

/-- HEARTBEAT_SILENT (R339). -/
def State.heartbeatSilent (s : State) (pin : Bool) : State :=
  match s.silence pin with
  | none => s
  | some s => s.pathLost pin

/-- PIN_PATH_WAIT_EXPIRE (R339): 2 µs later the pin path is still normal with no fault report. -/
def State.pinWaitEnd (s : State) : State :=
  match s.expire .pinWait with
  | none => s
  | some s =>
    if s.parSt ≠ psShadow ∨ s.is F.PAR_STAT_TWIN_HB ∨ !s.is F.PAR_STAT_PIN_HB then s
    else if s.pair.pinFault then s.declare 2
    else s.enterOos false

/-! ### ILK and the claim (R340, R341) -/

/-- Insert by header TIME, earlier first under the wrap comparison of R179. -/
def insertTime (f : Frame) : List Frame → List Frame
  | [] => [f]
  | x :: xs => if (f.time - x.time).toNat ≥ 2 ^ 31 then f :: x :: xs else x :: insertTime f xs

/-- The frames still held are released in TIME order (R336). -/
def State.releaseHeld (s : State) : State :=
  let fs := (s.pair.heldFrames.map (·.2)).foldl (fun l f => insertTime f l) []
  fs.foldl (fun s f => s.emit f (if f.srcPort = 0xFF then 122 else f.srcPort.toNat)) { s with pair := { s.pair with heldFrames := [] } }

/-- The claimant holds ILK (R341, R343-R345). A claim made in PAIRING has no cause of PAR_LAST_CAUSE: it reads 0 (DEDUCED, log entry
50). -/
def State.claimWon (s : State) : State :=
  let c := s.pair.claim
  let s := ({ s with pair := { s.pair with claim := 0, scheds := [] } }.disarm .claimCheck).disarm .claimWait
  let s := s.setPair psActiveAlone
  let s := (s.wr .parLastTime 0 0 (BitVec.ofNat 32 s.ringNs)).wr .parLastCause 0 0 (BitVec.ofNat 32 (256 + if c ≥ 4 then 0 else c))
  let s := if c = 3 then s.bump .parCnt 1 else (s.bump .parCnt 0).raise 0x95
  let s := if c ≥ 4 then s else (List.range 16).foldl State.takeChannel s
  s.releaseHeld.settleOutputs

/-- Drive ILK at the end of a claim. -/
def State.claimDrive (s : State) : State := (s.driveIlk true).arm .claimCheck 1000

/-- CLAIM_WAIT_EXPIRE. -/
def State.claimWaitEnd (s : State) : State :=
  match s.expire .claimWait with
  | none => s
  | some s => if s.pair.claim = 0 ∨ !s.fit then s else if s.is F.PAR_STAT_ILK_LOW then s.claimAbort else s.claimDrive

/-- CLAIM_CHECK (R341): ILK not read low 1 µs after it was driven. -/
def State.claimCheck (s : State) : State :=
  match s.expire .claimCheck with
  | none => s
  | some s =>
    if s.pair.claim = 0 then s
    else if s.is F.PAR_STAT_ILK_LOW then s.claimWon
    else ((s.driveIlk false).enterOos true).raise 0x94

/-- ILK_CHANGE (R340, R341, R344, R345). -/
def State.ilkChange (s : State) (low : Bool) : State :=
  if s.is F.PAR_STAT_ILK_LOW == low then s else
  let s := s.put F.PAR_STAT_ILK_LOW (bit low)
  if !s.paired then s else
  let s := s.settleOutputs
  if low then
    if s.pair.claim = 0 then s
    else if s.is F.PAR_STAT_ILK_DRIVE then s.claimWon
    else if s.pair.claim = 3 then s
    else s.claimAbort
  else if s.pair.claim = 3 && !s.is F.PAR_STAT_ILK_DRIVE && s.fit then s.claimDrive
  else if s.parSt == psPairing && s.pair.claim == 0 && (s.deadline .pairWait).isNone && s.pair.join.isNone then s.startClaim 5
  else s

/-- FITNESS_LOSS (R332): both heartbeat paths stop and ILK is released. -/
def State.fitnessLoss (s : State) : State :=
  if s.fit then s else
  let s := (((s.disarm .hbSend).disarm .claimWait).disarm .claimCheck).disarm .joinSend
  { s with pair := { s.pair with claim := 0 } }.driveIlk false

/-! ### JOIN and pairing (R334, R345) -/

/-- CRC-32 over the pair-compatibility vector of the running image (R426). -/
def State.compatCrc (s : State) : Word :=
  crcWords (if s.is F.CTL_FWSLOT_SLOT then s.upd.b else s.upd.a).head.pairVec

/-- Is the register part of CRC_CFG (R338): class F of ENG, CAN, PWR and SWC, and of MACs TS00-TS15? -/
def inCfgCrc (r : Reg) (i : Nat) : Bool :=
  let w := r.row
  w.cls == .f && (w.isl == 6 && decide (w.base ≥ 0x200000 ∧ w.base < 0x300000) || decide (9 ≤ w.isl + i * w.islStep ∧
    w.isl + i * w.islStep ≤ 17) || w.isl == 20 || (w.isl == 18 && decide (i < 16)))

/-- The words of every register that `p` names, in ascending offset order. -/
def State.wordsOf (s : State) (p : Reg → Nat → Bool) : List Word :=
  let cells := allRegs.flatMap (fun r => (List.range r.row.n1).flatMap (fun i =>
    if p r i then (List.range r.row.n2).map (fun j => (r.addr i j, s.rd r i j)) else []))
  (cells.foldl (fun (t : Tab Word) e => tset t e.1 e.2) []).map (·.2)

def State.crcCfg (s : State) : Word := crcWords (s.wordsOf inCfgCrc)

/-- The JOIN of this hub. -/
def State.joinFrame (s : State) : Frame :=
  let w1 := (((0 : Word).setBits 27 25 s.parSt).setBits 24 24 (s.get F.PAR_CFG_PAIR_ID)).setBits 23 0 s.pairNode.toNat
  s.pairEvent 1 [w1, s.compatCrc, s.crcCfg]

/-- JOIN_SEND: every 1 ms in PAIRING, and in SHADOW_SYNC until the transfer's record has come. -/
def State.joinSend (s : State) : State :=
  match s.expire .joinSend with
  | none => s
  | some s =>
    let due := (s.parSt == psPairing && !s.is F.PAR_STAT_NO_PAIR) || (s.parSt == psShadowSync && !s.pair.synced)
    if !due || !s.fit then s else
    let s := s.arm .joinSend 1000000
    if !s.twinUp then s else
    let s := s.transmit 4 s.joinFrame rindGood
    let s := { s with pair := { s.pair with joinSent := true } }
    if s.parSt == psPairing && s.pair.join.isSome && s.pair.claim == 0 && !s.is F.PAR_STAT_ILK_LOW then s.startClaim 4 else s

/-- Which check of a JOIN fails (R345): 1 PAIR_ADDR, 2 PAIR_ID equal, 3 image, 4 configuration; 0 none. -/
def State.joinCheck (s : State) (j : JoinRec) : Nat :=
  if j.pairAddr ≠ s.pairNode then 1
  else if j.pairId = s.is F.PAR_CFG_PAIR_ID then 2
  else if j.compat ≠ s.compatCrc then 3
  else if j.cfg ≠ s.crcCfg then 4
  else 0

/-- JOIN received on the twin link. A hub that serves keeps the last one whatever it says: PAIR_HANDOVER judges by it (R90, R344). -/
def State.joinIn (s : State) (p : List Word) : State :=
  if !s.pairs || !s.twinUp || s.is F.PAR_STAT_NO_PAIR then s else
  let w1 := p.getD 1 0
  let j : JoinRec :=
    { node := BitVec.ofNat 24 (s.get F.PAR_PARTNER_NODE), pairAddr := w1.setWidth 24, pairId := w1.getLsbD 24,
      state := w1.bits 27 25, compat := p.getD 2 0, cfg := p.getD 3 0 }
  let c := s.joinCheck j
  let serving := s.parSt == psActive || s.parSt == psActiveAlone
  let s := if serving then s.transmit 4 s.joinFrame rindGood else s
  if c ≠ 0 then
    let s := (s.put F.PAR_STAT_REJECT c).raise 0x96
    if serving then { s with pair := { s.pair with join := some j } }
    else (({ s with pair := { s.pair with claim := 0 } }.disarm .claimWait).driveIlk false).setPair psStandalone
  else
    let s := { s with pair := { s.pair with join := some j } }
    if serving then (if j.state == psShadowSync && !s.pair.syncing then s.startTransfer else s)
    else if s.parSt ≠ psPairing then s
    else if s.is F.PAR_STAT_ILK_LOW then (s.disarm .pairWait).enterSync
    else if s.pair.joinSent && s.pair.claim == 0 then (s.disarm .pairWait).startClaim 4
    else s

/-- Enter PAIRING (R345); `alt`: the alternate of the pairing step. -/
def State.startPairing (s : State) (alt : Bool) : State :=
  if !s.paired then s.setPair psStandalone else
  let s := { s with pair := { s.pair with join := none, joinSent := false, claim := 0, stuck := false, failed := 0 } }
  let s := (s.put F.PAR_STAT_REJECT 0).put F.PAR_STAT_NO_PAIR (bit alt)
  let s := s.setPair psPairing
  if alt then (if s.is F.PAR_STAT_ILK_LOW then s.setPair psStandalone else s.startClaim 6)
  else (s.arm .pairWait (1000000 * s.get F.PAR_CFG_PAIR_WAIT_MS)).arm .joinSend 0

/-- PAIR_WAIT_EXPIRE: no JOIN within PAIR_WAIT_MS. -/
def State.pairWaitEnd (s : State) : State :=
  match s.expire .pairWait with
  | none => s
  | some s =>
    if s.parSt == psPairing && s.pair.claim == 0 && s.pair.join.isNone && !s.is F.PAR_STAT_ILK_LOW then s.startClaim 5 else s

/-- REJOIN: ignored in states other than STANDALONE. -/
def State.rejoin (s : State) : State := if s.paired && s.parSt == psStandalone then s.startPairing false else s

/-- RESYNC while no transfer runs: the count of failed transfers starts anew. -/
def State.resync (s : State) : State :=
  if s.servesPair && s.twinUp && !s.pair.syncing then { s with pair := { s.pair with failed := 0 } }.startTransfer else s

/-! ### The order stream at the shadow (R333, R335, R337) -/

/-- Take an order by its number: in sequence it is applied and acknowledged, a repeated one is acknowledged, a later one
answered with NAK. -/
def State.takeOrder (s : State) (on : BitVec 16) : State × Bool :=
  if !s.follows then (s, false) else
  let d := (on.toNat + 65536 - s.pair.expect % 65536) % 65536
  if d = 0 then
    let s := { s with pair := { s.pair with expect := (on.toNat + 1) % 65536 } }.put F.PAR_ORDER_ON on.toNat
    (s.orderSet 3 on.toNat, true)
  else if d ≥ 32768 then (s.orderSet 3 ((s.pair.expect + 65535) % 65536), false)
  else (s.orderSet 4 (s.pair.expect % 65536), false)

/-- The pair SEQ counter of a frame's class and DUAL value becomes SEQ + 1 (R124, R333). -/
def State.seqFollow (s : State) (f : Frame) : State :=
  let k := s.seqKey f
  let n := tget 0 s.sw.seqs k
  let n' := n + (f.seq.toNat + 1 + 65536 - n % 65536) % 65536
  { s with sw := { s.sw with seqs := tset s.sw.seqs k n' } }.spendSessions

/-- The press context of a command's stream as though its frame had been delivered here (R333). -/
def State.pressFollow (s : State) (f : Frame) : State :=
  if !f.dual then s else
  let k := pressKey f
  let q := f.seq.toNat
  match s.ctx? k with
  | none => (s.roomForCtx.setCtx k { next := (q + 1) % 65536, lastUse := s.now, pair := true }).pressTouch k
  | some c =>
    let d := seqDist q c.next
    if d ≥ 32768 then s else
    (s.setCtx k { c with next := (q + 1) % 65536, lost := history c.lost (d + 1) [d], lastUse := s.now,
                         pair := true }).pressTouch k

/-- The order of a PORT_DATA or EVENT frame cancels held frames of its port whose TIME does not lie after its own (R336). -/
def State.cancelHeld (s : State) (f : Frame) : State :=
  let keep := s.pair.heldFrames.filter (fun e =>
    !(e.2.srcPort == f.srcPort && decide ((f.time - e.2.time).toNat < 2 ^ 31)))
  { s with pair := { s.pair with heldFrames := keep } }

/-- The units of a port in the vat: queue and unit, by the SEQ of the frame. -/
def State.unitBySeq (s : State) (p : Nat) (seq : BitVec 16) : Option (Nat × Link) :=
  (List.range 8).findSome? (fun c => ((s.queue (8 * p + c)).find? (fun l =>
    l.loupe.isNone && (s.unit? l.uid).any (fun v => v.frame.seq == seq))).map (fun l => (8 * p + c, l)))

/-- A PROGRESS order: the same unit leaves its queue or slot here without being sent. -/
def State.progressIn (s : State) (p : Nat) (seq : BitVec 16) : State :=
  let s := match s.unitBySeq p seq with
    | some (q, l) => (s.unlink q l.uid none).1
    | none => s
  if 26 ≤ p ∧ p < 58 then
    let n := p - 26
    let x := s.can n
    let same (t : CanTx) : Bool := t.ref == 0 && t.seq == seq
    let s := s.setCan n { x with
      slot := if x.slot.any same then none else x.slot
      back := if x.back.any same then none else x.back
      sends := x.sends.filter (fun t => !same t) }
    s.canFill n
  else if 10 ≤ p ∧ p < 26 then
    let m := portMac p
    let x := s.mac m
    let s := s.setMac m { x with
      slot := if x.slot.any (fun t => t.seq == seq) then none else x.slot
      sends := x.sends.filter (fun t => t.seq != seq)
      queues := x.queues.map (fun (e : Nat × List MacTx) => (e.1, e.2.filter (fun t => t.seq != seq))) }
    s.macFill m
  else s

/-- HOLD_EXPIRE: the frame held longest has been held for HOLD_MS. -/
def State.holdExpire (s : State) : State :=
  match s.pair.heldFrames with
  | [] => s
  | e :: rest => { s.advance (e.1 - s.now) with pair := { s.pair with heldFrames := rest } }.bump .parCnt 8

/-! ### Digests (R338) -/

def State.pairSessions (s : State) : List Session := s.cmd.sessions.filter (·.pair)

/-- CRC_PORTQ: per field port (R79) the number of units queued and the SEQ of the head unit. -/
def State.portqWords (s : State) : List Word :=
  ((List.range 122).drop 6).map (fun p =>
    let head := (List.range 8).reverse.findSome? (fun c => ((s.queue (8 * p + c)).head?.bind (fun l => s.unit? l.uid)).map
      (fun v => v.frame.seq))
    BitVec.ofNat 32 (65536 * s.portUnits p + (head.getD 0).toNat))

/-- The digest of this hub for the order number `on`, words 1-25. A retry-cache entry counts without the SEQ and TIME that its REPLY
takes as it leaves, which the hub that does not send it does not give (DESIGN CHOICE, log entry 50). -/
def State.digestWords (s : State) (on : Nat) : List Word :=
  let seqs := (List.range 16).map (fun i => BitVec.ofNat 32 (tget 0 s.sw.seqs (16 + i) % 65536))
  let sess := s.pairSessions.flatMap (fun x => [x.num.setWidth 32, BitVec.ofNat 32 (bit x.maint),
    BitVec.ofNat 32 ((s.now - x.lastAccept) / 1000000000)])
  let cache := (s.cmd.cache.filter (·.pair)).flatMap (fun c => [c.node ++ c.port, c.session ++ c.opcode ++ (0 : BitVec 8),
    c.tag.setWidth 32] ++ Frame.header { c.reply with seq := 0, time := 0 } ++ c.reply.payload)
  let sched := s.sched.flatMap (fun e => [s.rd .timEntTime e.1, s.rd .timEntCtl e.1, s.rd .timEntId e.1])
  let w9 := (((0 : Word).setBits 24 16 s.sched.length).setBits 5 4 (s.get F.CTL_STATE_ACTIVE_PROF)).setBits 2 0 s.mode.code
  let chans := (List.range 16).map (fun c => (((0 : Word).setBits 31 28 (s.pst c)).setBits 25 16
    ((s.pwrChStat c).bits 9 0)).setBits 15 0 (s.get F.PWR_CH_MEAS2_T_EST c))
  [BitVec.ofNat 32 on, BitVec.ofNat 32 s.ringNs, crcWords seqs, crcWords sess, crcWords cache, crcWords sched, s.crcCfg,
    crcWords s.portqWords, w9] ++ chans

/-- Do two channel words compare: STATE exact, FT_PM within 20, T_EST within 40? -/
def chanEq (a b : Word) : Bool :=
  a.bits 31 28 == b.bits 31 28 &&
  decide ((Int.ofNat (a.bits 25 16) - Int.ofNat (b.bits 25 16)).natAbs ≤ 20) &&
  decide ((s16 (a.bits 15 0) - s16 (b.bits 15 0)).natAbs ≤ 40)

/-- Do two digests (words 1-25) compare equal? TIM_NOW is not compared. -/
def digestEq (a b : List Word) : Bool :=
  a.getD 0 0 == b.getD 0 0 && (List.range 7).all (fun i => a.getD (2 + i) 0 == b.getD (2 + i) 0) &&
  (List.range 16).all (fun c => chanEq (a.getD (9 + c) 0) (b.getD (9 + c) 0))

/-- DIGEST_SEND: every 100 µs while the stream runs. -/
def State.digestSend (s : State) : State :=
  let s := match s.deadline .digestSend with | some d => s.advance (d - s.now) | none => s
  if !s.streaming then s.disarm .digestSend else
  let on := (s.get F.PAR_ORDER_ON + 1) % 65536
  let ws := s.digestWords on
  let s := s.sendPairOrder 2 ws
  { s with pair := { s.pair with digests := tset s.pair.digests on ws } }.arm .digestSend 100000

/-- A digest that differs (R338). -/
def State.digestMiss (s : State) : State :=
  let s := (s.bump .parCnt 2).raise 0x90
  let n := min 3 (s.get F.PAR_STAT_DIG_MISS_RUN + 1)
  let s := s.put F.PAR_STAT_DIG_MISS_RUN n
  if n ≥ 3 && s.parSt == psShadow then (s.enterOos false).raise 0x91 else s

/-- DIGEST at the shadow, in order: compare and return the own digest. -/
def State.digestOrder (s : State) (p : List Word) : State :=
  let own := s.digestWords ((p.getD 1 0).toNat % 65536)
  let eq := digestEq own (p.drop 1)
  let s := if eq then
      let s := s.put F.PAR_STAT_DIG_MISS_RUN 0
      if s.parSt == psShadowSync then
        { (s.setPair psShadow).disarm .transfer with pair := { s.pair with failed := 0 } }
      else s
    else s.digestMiss
  s.transmit 4 (s.pairEvent 2 own) rindGood

/-- A digest came back to the active, equal to its own or not: PARTNER_DIG_OK; the first equal one after a transfer ends it. -/
def State.digestVerdict (s : State) (on : Nat) (eq : Bool) : State :=
  let s := { s with pair := { s.pair with digests := s.pair.digests.filter (fun e => e.1 != on) } }
  let s := s.put F.PAR_STAT_PARTNER_DIG_OK (bit eq)
  if eq && s.pair.syncing then
    { (s.setPair psActive).disarm .transfer with pair := { s.pair with syncing := false, failed := 0 } }
  else s

/-- DIGEST returned to the active. -/
def State.digestReturned (s : State) (on : Nat) (p : List Word) : State :=
  match tfind s.pair.digests on with
  | none => s
  | some mine => s.digestVerdict on (digestEq mine (p.drop 1))

/-- The digest names its order by the low half of its word 1. -/
def State.digestBack (s : State) (p : List Word) : State := s.digestReturned ((p.getD 1 0).toNat % 65536) p

/-- DIGEST received on the twin link. -/
def State.digestIn (s : State) (on : BitVec 16) (p : List Word) : State :=
  if s.servesPair then (if s.twinUp then s.digestBack p else s) else
  let (s, ok) := s.takeOrder on
  if ok then s.digestOrder p else s

/-! ### State transfer at the shadow (R346, R456) -/

/-- A record that fails its check, or a transfer that did not end: it starts again; the third failure leaves the shadow in
OUT_OF_STEP. -/
def State.transferFailed (s : State) : State :=
  if s.servesPair then s.transferAgain else
  let n := s.pair.failed + 1
  let s := { s.bump .parCnt 3 with pair := { s.pair with failed := n } }
  if n ≥ 3 then (s.enterOos true).raise 0x91
  else s.enterSync

/-- TRANSFER_TIMEOUT. -/
def State.transferTimeout (s : State) : State :=
  match s.expire .transfer with
  | none => s
  | some s => if s.pair.syncing || s.parSt == psShadowSync then s.transferFailed else s

/-- A pair session of the record: `age` ns since it was opened or last accepted a command, `left` ns of its idle time still to run
(R44). -/
def State.takeSession (s : State) (x : Session) (age : Nat) (left : Option Nat) : State :=
  let n := x.num.toNat
  let s := { s with cmd := { s.cmd with sessions := s.cmd.sessions ++ [{ x with lastAccept := s.now - age }] } }
  let s := match left with | some t => s.arm (.sessIdle n) t | none => s
  let s := if x.accepted then s else s.arm (.sessUnused n) (60000000000 - age)
  if x.spent then s.arm (.sessSpent n) 1000000000 else s

/-- The transmit queues of the ports that a pair shares, as the record has them (R346). -/
def State.takeQueues (s : State) (r : SyncRecord) : State :=
  let s := ((List.range 122).drop 10).foldl (fun s p => (s.emptyPort p).1) s
  let s := r.units.foldl (fun s e => (s.admitUnit e.2 122 true true true [{ port := e.1 / 8 }]).1) s
  let s := (List.range 32).foldl (fun s n => s.setCan n { s.can n with
    slot := tfind r.canSlots n, sends := tget [] r.canSends n, back := none, started := false, flush := false }) s
  let s := (List.range 16).foldl (fun s m => s.setMac m { s.mac m with
    slot := tfind r.macSlots m, sends := tget [] r.macSends m, queues := tget [] r.macQueues m, tried := false, flush := false }) s
  r.paths.foldl (fun s e => s.setEng e.1 { s.eng e.1 with path := e.2.1, txn := e.2.2, mid := false, feed := none, next := [] }) s

/-- SYNC: the record is taken over; orders follow it from its number on. A session of the record that has the number of one of this
hub's own is kept beside it, and a frame of that number is judged by the own one first (DESIGN CHOICE, log entry 43: R37 has numbers
unique within a hub, and does not say how two hubs keep them apart). -/
def State.syncIn (s : State) (r : SyncRecord) : State :=
  let ok := s.parSt == psShadow || s.parSt == psShadowSync || s.parSt == psOutOfStep
  if !s.pairs || !s.twinUp || !s.fit || !ok then s
  else if !r.ok then s.digestMiss.transferFailed
  else
    let s := if s.parSt = psShadowSync then s else s.enterSync
    let gone := s.pairSessions.map (·.num.toNat)
    let s := s.disarmAll (fun t => match t with
      | .sessIdle n => gone.contains n | .sessUnused n => gone.contains n | .sessSpent n => gone.contains n | _ => false)
    let s := { s with cmd := { s.cmd with sessions := s.cmd.sessions.filter (fun x => !x.pair) } }
    let s := r.sessions.foldl (fun s x => s.takeSession x (tget 0 r.ages x.num.toNat) (tfind r.idles x.num.toNat)) s
    let c := { s.cmd with
      cache := s.cmd.cache.filter (fun x => !x.pair) ++ r.cache }
    let sw := { s.sw with
      seqs := r.seqs.foldl (fun (t : Tab Nat) e => tset t e.1 e.2) s.sw.seqs
      ctxs := r.ctxs.foldl (fun (t : Tab PressCtx) e => tset t e.1 e.2) (s.sw.ctxs.filter (fun e => !e.2.pair)) }
    let s := { s with cmd := c, sw := sw }
    let s := (s.sched.map (·.1)).foldl State.dropEntry s
    let s := r.sched.foldl (fun s e => s.enterEntry e.1 e.2) s
    let s := s.takeQueues r
    let s := r.chans.foldl (fun s e => if e.1 < 16 then s.wr .pwrChStat e.1 0 e.2 else s) s
    { s.disarm .joinSend with pair := { s.pair with
        synced := true, stuck := false, expect := r.next.toNat, failed := if s.pair.stuck then 0 else s.pair.failed } }

/-! ### Acknowledgement and handover at the active (R337, R344) -/

/-- The active gives up the role (R344 step 3): after a fault reaction the hub is unfit and in SAFE. -/
def State.handoverRelease (s : State) (fault : Bool) : State :=
  let s := { s with pair := { s.pair with handover := none } }
  let s := (s.wr .parLastTime 0 0 (BitVec.ofNat 32 s.ringNs)).wr .parLastCause 0 0 3
  let s := s.twinDown.driveIlk false
  if fault then
    let s := (s.put F.FLT_STAT_UNFIT 1).setPair psShadowSync
    s.enterSafe 2 (s.get F.FLT_LASTREACT_SOURCE) 0
  else s.enterSync

/-- ACK: the orders up to `on` are acknowledged. -/
def State.ackIn (s : State) (on : BitVec 16) : State :=
  if !s.paired || !s.twinUp then s else
  let left := s.pair.unacked.filter (fun e => decide ((on.toNat + 65536 - e.1) % 65536 ≥ 32768))
  if left.length = s.pair.unacked.length then s else
  let s := { s with pair := { s.pair with unacked := left } }
  let s := if left.isEmpty then s.disarm .ack else s.arm .ack 10000
  let s := (if left.length < 512 then s.disarm .backlog else s).placeWaiting
  match s.pair.handover with
  | some h => if !s.pair.unacked.isEmpty then s else s.handoverRelease h.isNone
  | none => s

/-- NAK: every unacknowledged order again, from the first missing one. -/
def State.nakIn (s : State) (on : BitVec 16) : State :=
  if !s.paired || !s.twinUp || s.pair.unacked.isEmpty then s else s.resendOrders on.toNat

/-- ACK_TIMEOUT. -/
def State.ackTimeout (s : State) : State :=
  match s.expire .ack with
  | none => s
  | some s => match s.pair.unacked with
    | [] => s
    | e :: _ => if s.twinUp then s.resendOrders e.1 else s

/-- ORDER_BACKLOG_FULL: the stream stops and a state transfer starts. -/
def State.backlogFull (s : State) : State :=
  match s.expire .backlog with
  | none => s
  | some s => if s.servesPair && s.twinUp && decide (s.pair.unacked.length ≥ 512) then s.startTransfer else s

/-- May this hub hand over now: ACTIVE with its partner in SHADOW? -/
def State.canHandOver (s : State) : Bool :=
  s.servesPair && s.parSt == psActive && s.twinUp && s.is F.PAR_STAT_TWIN_HB && s.get F.PAR_PARTNER_STATE == psShadow

/-- HANDOVER as the last order (R344 step 2): it has been acknowledged when no order is left that has not. -/
def State.startHandover (s : State) (c : Option Cmd) : State :=
  let s := s.sendPairOrder 7 []
  { s with pair := { s.pair with handover := some c } }

/-- HANDOVER applied at the shadow (R344 step 4): it claims as soon as ILK reads released. -/
def State.handoverIn (s : State) (on : BitVec 16) : State :=
  let (s, ok) := s.takeOrder on
  if !ok then s else
  let s := { s with pair := { s.pair with claim := 3 } }
  if s.is F.PAR_STAT_ILK_LOW || !s.fit then s else s.claimDrive

/-- PROGRESS and CHANNEL received. -/
def State.progressOrderIn (s : State) (on : BitVec 16) (p : List Word) : State :=
  let (s, ok) := s.takeOrder on
  let w := p.getD 1 0
  if ok then s.progressIn (w.bits 7 0) (BitVec.ofNat 16 (w.bits 31 16)) else s

def State.channelOrderIn (s : State) (on : BitVec 16) (p : List Word) : State :=
  let (s, ok) := s.takeOrder on
  let w := p.getD 1 0
  if ok then s.channelApply (w.bits 3 0) (w.bits 7 4) (w.bits 15 8) else s

/-- Pair state beside the registers after a chip reset. -/
def State.pairCleared (s : State) : State :=
  let s := s.disarmAll (fun t => match t with
    | .hbTwin | .hbPin | .pinWait | .claimWait | .claimCheck | .pairWait | .transfer | .ack | .backlog | .joinSend
    | .digestSend | .hbSend => true
    | _ => false)
  { s with pair := {} }

/-- PAIR_VALID has been cleared: the hub reads STATE 0, releases ILK and ignores its partner (R331). -/
def State.leavePair (s : State) : State :=
  let s := s.setPair psStandalone
  let s := ((s.put F.PAR_STAT_TWIN_HB 0).put F.PAR_STAT_PIN_HB 0).put F.PAR_STAT_PARTNER_FAULT 0
  { s.pairCleared with pair := { out := s.pair.out } }

end Sys2Proof.Machine
end

