-- ==== Sys2Proof/Machine/Quiesce.lean ====
section
/-!
DEFINITION. Retention (R11, R405): what a reset returns to default, and the reload of class-F registers (R414-R416).
-/
namespace Sys2Proof.Machine

/-! ### Registers and retention -/

/-- Bits of a register that hold a value software or a profile may set. -/
def Reg.writableMask (r : Reg) : Word :=
  r.row.fields.foldl (fun w f => match f.acc with
    | .rw | .rwp | .po | .poKey => w.setBits f.hi f.lo (2 ^ (f.hi + 1 - f.lo) - 1)
    | _ => w) (0 : Word)

/-- One entry of the register store after a reset that returns the classes and islands `p` names to default; a field that
states class A for itself keeps its value unless `p` names class A. -/
def resetEntry (p : Cls → Nat → Bool) (e : Nat × Word) : Option (Nat × Word) :=
  match locate e.1 with
  | none => some e
  | some (r, i, j) =>
    let isl := r.row.isl + i * r.row.islStep
    if p r.row.cls isl then
      let kept := r.row.fields.filter (fun f => f.cls == some .a && !p .a isl)
      let w := kept.foldl (fun w f => w.setBits f.hi f.lo (e.2.bits f.hi f.lo)) (resetWord r i j)
      if w = resetWord r i j then none else some (e.1, w)
    else some e

/-- Return the registers that `p` names to their Reset-column values. -/
def State.resetRegs (s : State) (p : Cls → Nat → Bool) : State := { s with regs := s.regs.filterMap (resetEntry p) }

/-- Write one profile record value (R415): class-F registers of the islands `isl` names; a reserved offset or a value its
register refuses is skipped. -/
def State.loadRecord (s : State) (isl : Nat → Bool) (e : Nat × Word) : State :=
  match locate e.1 with
  | none => s
  | some (r, i, j) =>
    let m := r.writableMask
    let w := (resetWord r i j &&& ~~~m) ||| (e.2 &&& m)
    if r.row.cls == .f && isl (r.row.isl + i * r.row.islStep) && !s.badValue r i j w && !s.badPool r i w then s.wr r i j w else s

/-- Is a profile record of the islands `isl` skipped: a reserved offset, or a value its register refuses (R415)? -/
def State.recordSkipped (s : State) (isl : Nat → Bool) (e : Nat × Word) : Bool :=
  match locate e.1 with
  | none => isl 0
  | some (r, i, j) =>
    let m := r.writableMask
    let w := (resetWord r i j &&& ~~~m) ||| (e.2 &&& m)
    isl (r.row.isl + i * r.row.islStep) && (r.row.cls != .f || s.badValue r i j w || s.badPool r i w)

/-- How many records of the active profile are skipped. -/
def State.skippedRecords (s : State) (isl : Nat → Bool) : Nat := (s.profile.records.filter (s.recordSkipped isl)).length

/-- Load the class-F registers of the islands `isl` names from the active profile (R11, R415): a register the profile does not
hold takes its Reset-column value. Both copies of the forwarding table take the profile's entries (R155). -/
def State.loadProfile (s : State) (isl : Nat → Bool) : State :=
  let s := s.resetRegs (fun c i => c == .f && isl i)
  let s := s.profile.records.foldl (fun s e => s.loadRecord isl e) s
  let es := s.engs.map (fun (e : Nat × EngS) => if isl (9 + e.1 / 8) then (e.1, { e.2 with badProg := [] }) else e)
  let s := { s with engs := es }
  if isl 6 then { s with sw := { s.sw with fwdBad := [], fwdErr := [] } }.fwdCopy else s

/-- The class-F registers as a profile would store them (R416): every one that differs from its Reset-column value. -/
def State.profileRecords (s : State) : Tab Word :=
  s.regs.filter (fun e => match locate e.1 with | some (r, _, _) => r.row.cls == .f | none => false)

end Sys2Proof.Machine
end

