-- ==== Sys2Proof/Machine/ResetOps.lean ====
section
/-!
DEFINITION. Resets: of an island (R391, R397-R401), of the chip (R405-R407), by a profile switch (R418) and on the way through
SLEEP (R423, R424).
-/
namespace Sys2Proof.Machine

/-! ### Islands -/

def State.setRst (s : State) (i : Nat) (on : Bool) : State :=
  { s with isl := { s.isl with rst := if on then s.isl.rst ||| (1#21 <<< i) else s.isl.rst &&& ~~~(1#21 <<< i) } }
def State.setResync (s : State) (i : Nat) (on : Bool) : State :=
  { s with isl := { s.isl with resync := if on then s.isl.resync ||| (1#21 <<< i) else s.isl.resync &&& ~~~(1#21 <<< i) } }
def State.setIslRst (s : State) (i : Nat) (on : Bool) : State :=
  { s with isl := { s.isl with islRst := if on then s.isl.islRst ||| (1#21 <<< i) else s.isl.islRst &&& ~~~(1#21 <<< i) } }

/-- BYP_HOLD falls when its conditions fail (R114). -/
def State.dropHold (s : State) : State := if s.holdOk then s else { s with bypHold := false }

/-- Units queued toward the ports of island `i` are discarded, each counted in ISL_DROP_CNT of the island (R163, R398). -/
def State.dropToward (s : State) (i : Nat) : State :=
  ((List.range 124).filter (fun p => portIsland p == i)).foldl (fun s p =>
    let n := s.portUnits p
    let (s, h) := s.dropHolds p
    if n + h = 0 then s else ((s.emptyPort p).1).bump .islDropCnt i 0 (n + h)) s

/-- Hidden state of the switch core after its reset (R163): the vat's bytes, the retire list, the sequence counters and the errors of
the forwarding table (R155: until a commit) stay. Its units are freed, and their marked cells retired (R145). -/
def State.swcCleared (s : State) : State :=
  let s := [0, 1, 2, 3, 4].foldl State.truncate s
  let s := (s.sw.units.flatMap (fun e => e.2.cells)).foldl State.retireCell s
  let s := s.disarmAll (fun t => match t with | .pressWait _ => true | .pressIdle _ => true | _ => false)
  let w := s.sw
  let s := s.ingress.foldl (fun (s : State) x => s.txResult x stBusy 0) s
  { s with ingress := [], sw := { nextUid := w.nextUid, retired := w.retired, badCells := w.badCells, ueWords := w.ueWords,
                                  ceWords := w.ceWords, corrected := w.corrected, vat := w.vat, seqs := w.seqs, fwdBad := w.fwdBad, fwdErr := w.fwdErr } }

/-- A PROFILE_STORE that a reset cuts off leaves the profile invalid (R416). -/
def State.dropStore (s : State) : State :=
  match s.upd.storing with
  | none => s
  | some (_, p, _) =>
    { s with profiles := tset s.profiles p { tget {} s.profiles p with valid := false }
             upd := { s.upd with storing := none } }

/-- Every session closes by a reset, each with its record (R43, cause 3). -/
def State.loseSessions (s : State) : State :=
  let s := s.cmd.sessions.foldl (fun s x =>
    s.log true 0 0 0 evSessionClose { session := x.num } [x.num.setWidth 32, 3]) s
  { s with cmd := { s.cmd with sessions := [], gone := s.cmd.gone ++ s.cmd.sessions } }

/-- Hidden state of the management island after its reset: the logs and what class A holds stay; sessions, the retry cache and
commands in service are lost, an open update or relay is abandoned (R429). -/
def State.mgtCleared (s : State) : State :=
  let s := s.loseSessions.dropStore
  let s := s.disarmAll (fun t => match t with
    | .cmdTimeout p _ => p == 255 | .quarantine p _ => p == 255
    | .sessIdle _ | .sessUnused _ | .sessSpent _ | .relayWindow | .relayProgress | .relaySend | .recoveryPull
    | .llWdg | .modWait _ | .modPoll _ => true
    | _ => false)
  let m := s.mgt
  { s with
    cmd := { lastWrite := s.cmd.lastWrite, gone := s.cmd.gone, outstanding := s.cmd.outstanding.filter (fun o => o.port != 0xFF) }
    mgt := { ramLog := m.ramLog, flashLog := m.flashLog, erases := m.erases, gapRun := m.gapRun, flashBoots := m.flashBoots,
             lastHostCmd := m.lastHostCmd, sram := m.sram }
    upd := { s.upd with open_ := none, pull := none, serve := none, storing := none } }

/-- Hidden state of a lane after its island's reset; a unit partly received from it is discarded and counted (R398). The level of
MODn_ABS stays. -/
def State.laneCleared (s : State) (l : Nat) : State :=
  let s := if (tfind s.sw.rx l).isSome then s.bump .islDropCnt (l + 1) else s
  let s := if s.laneLinked l then s.cutLane l else s
  let s := (((s.disarm (.modWait l)).disarm (.modPoll l)).disarm (.leaving l)).clearLive 0x31 l
  let s := if l = 4 then s.twinDown else s
  { s.disarmAll (laneTimer l) with
    lanes := tset s.lanes l { modAbs := (s.lane l).modAbs }
    sw := { s.sw with rx := terase s.sw.rx l, cutting := terase s.sw.cutting l } }

/-- Hidden state of island `i` after its reset. -/
def State.clearIsland (s : State) (i : Nat) : State :=
  if 1 ≤ i ∧ i ≤ 5 then s.laneCleared (i - 1)
  else if i = 6 then s.swcCleared
  else if i = 7 then s.timCleared
  else if i = 8 then s.mgtCleared
  else if 9 ≤ i ∧ i ≤ 16 then s.cluCleared (i - 9)
  else if i = 17 then s.canCleared
  else if i = 18 then s.macCleared
  else if i = 19 then
    let s := s.hbrCleared
    { s with hbr := { s.hbr with aer := 0 } }
  else if i = 20 then s.pwrCleared
  else s

/-- Island `i` goes into reset: the last values of its counters are kept for the snapshot (R191), its hidden state is cleared,
units toward it are discarded, its pending events are lost (R398), and the registers of the classes in `p` return to default. -/
def State.assertReset (s : State) (i : Nat) (p : Cls → Bool) : State :=
  let s := s.keepCounters i
  let s := s.clearIsland i
  let s := if i = 6 then s else s.dropToward i
  let s := ((s.setRst i true).setResync i false).resetRegs (fun c j => j == i && p c)
  let s := { s with isl := { s.isl with cdc := terase s.isl.cdc (21 * i) } }
  let s := if i = 6 ∨ i = 1 ∨ i = 2 then s.repeatJoin else s
  if 9 ≤ i ∧ i ≤ 16 then s.settleNet (i - 9) else s

/-- An ISL reset of island `i` (R391): class I returns to default; it counts, sets CTL_RSTCAUSE.ISL and lasts at least 1 µs and
16 periods, which is 1 µs for every island. -/
def State.islReset (s : State) (i : Nat) : State :=
  if i = 0 ∨ i > 20 ∨ !(s.rd .islPwrStat).getLsbD i then s else
  let s := (s.bump .islRstCnt i).put F.CTL_RSTCAUSE_ISL 1
  let was := s.isl.rst.getLsbD i
  let s := if was then s else s.assertReset i (fun c => c == .i)
  if was && !s.isl.islRst.getLsbD i then s else (s.setIslRst i true).arm (.islRelease i) 1000

/-- Release of island `i`: its crossings exchange tokens next (R397). -/
def State.releaseIsland (s : State) (i : Nat) : State :=
  if !s.isl.rst.getLsbD i then s else
  let s := (((s.setRst i false).setIslRst i false).setResync i true).disarm (.islRelease i)
  if 1 ≤ i ∧ i ≤ 5 then
    let l := i - 1
    ((s.put F.LNK_MOD2_ABSENT (bit (s.lane l).modAbs) l).modRun l).laneStart l
  else if i = 8 then [0, 1, 2, 3, 4].foldl State.modRun s
  else if i = 7 then s.startListen
  else s

/-- ISLAND_RESET_RELEASE: after its minimum length, once the clock runs. -/
def State.islRelease (s : State) (i : Nat) : State :=
  if !(s.rd .islClkOk).getLsbD i then s else
  match s.expire (.islRelease i) with
  | none => s
  | some s => s.releaseIsland i

/-- RESYNC_TOKEN (R397): traffic and take-its resume; a cluster's supply is compared again, its outputs act; ring lanes join in the
repeat path while SWC is in reset (R115). -/
def State.resyncToken (s : State) (i : Nat) : State :=
  if s.isl.rst.getLsbD i || !s.isl.resync.getLsbD i then s else
  let s := s.setResync i false
  if 9 ≤ i ∧ i ≤ 16 then s.cluReleased (i - 9)
  else if i = 20 then s.pwrSettle
  else if i = 1 ∨ i = 2 then s.repeatJoin
  else s

/-- HANDSHAKE_END (R394): one event of the crossing from `a` to `b` has been carried. -/
def State.handshakeEnd (s : State) (a b : Nat) : State :=
  let k := 21 * a + b
  let n := tget 0 s.isl.cdc k
  if n = 0 then s else { s with isl := { s.isl with cdc := if n = 1 then terase s.isl.cdc k else tset s.isl.cdc k (n - 1) } }

/-- CLOCK_STOP (R390): ISL_CLK_OK falls; ISL_CLK_STOP raises while the island is powered and out of reset. -/
def State.clockStop (s : State) (i : Nat) : State :=
  if i = 0 || !(s.rd .islClkOk).getLsbD i then s else
  let s := s.wr .islClkOk 0 0 ((s.rd .islClkOk).setBits i i 0)
  (if s.islandUp i then s.setLive 0x22 i else s).dropHold

/-- CLOCK_RESUME. -/
def State.clockResume (s : State) (i : Nat) : State :=
  if !(s.rd .islPwrStat).getLsbD i then s else
  (s.wr .islClkOk 0 0 ((s.rd .islClkOk).setBits i i 1)).clearLive 0x22 i

/-- Power-down of island `i` (R401): reset, class F and class I lost, its snapshot banks lost (R483). The repeat path is joined for
the power-down of SWC, not for the reset in it (LNK_RPT.LAST_CAUSE). -/
def State.powerDown (s : State) (i : Nat) : State :=
  if !(s.rd .islPwrStat).getLsbD i then s else
  let s := if 1 ≤ i ∧ i ≤ 5 then s.sayLeaving [i - 1] else s
  let s := if i = 6 then s.wr .islPwrStat 0 0 ((s.rd .islPwrStat).setBits i i 0) else s
  let s := if s.isl.rst.getLsbD i then s.resetRegs (fun c j => j == i && (c == .f || c == .i))
    else s.assertReset i (fun c => c != .a && c != .c)
  let s := (s.setIslRst i false).disarm (.islRelease i)
  let s := s.wr .islPwrStat 0 0 ((s.rd .islPwrStat).setBits i i 0)
  let s := s.wr .islClkOk 0 0 ((s.rd .islClkOk).setBits i i 0)
  let other := fun (e : Nat × Word) => match locate e.1 with
    | some (r, j, _) => r.row.isl + j * r.row.islStep != i
    | none => true
  let s := { s with snap := { bank0 := s.snap.bank0.filter other, bank1 := s.snap.bank1.filter other,
                              last := s.snap.last.filter other } }
  (if i = 6 then s.repeatJoin else s).dropHold

/-- ISL_PWR_CTL holds the mask `m` (R401): set bits power down, cleared ones power up within 200 µs. -/
def State.powerMask (s : State) (m : Nat) : State :=
  (List.range 21).foldl (fun s i =>
    if bitOf m i then (s.disarm (.islPower i)).powerDown i
    else if (s.rd .islPwrStat).getLsbD i then s
    else s.arm (.islPower i) 200000) s

/-- ISLAND_POWER_UP: class F is written from the active profile and the island released. -/
def State.powerUp (s : State) (i : Nat) : State :=
  match s.expire (.islPower i) with
  | none => s
  | some s =>
    let s := s.loadProfile (fun j => j == i)
    let s := s.wr .islPwrStat 0 0 ((s.rd .islPwrStat).setBits i i 1)
    let s := s.wr .islClkOk 0 0 ((s.rd .islClkOk).setBits i i 1)
    s.releaseIsland i

/-- The PWR island's own reset once every channel has ended parking (R324). -/
def State.pwrAfterPark (s : State) : State :=
  if s.isl.pwrWait && (List.range 16).all (fun c => s.pst c != pcParked) then
    let s := { s with isl := { s.isl with pwrWait := false } }
    ((s.pwrCleared.setRst 20 true).setResync 20 false).resetRegs (fun c j => j == 20 && c != .a)
  else s

/-! ### Chip resets (R405, R407) -/

/-- CTL_RSTCAUSE's bit of a kind. -/
def causeFld : ResetKind → Fld
  | .por => F.CTL_RSTCAUSE_POR | .pin => F.CTL_RSTCAUSE_PIN | .wdg => F.CTL_RSTCAUSE_WDG | .cmd => F.CTL_RSTCAUSE_CMD
  | .isl => F.CTL_RSTCAUSE_ISL | .psw => F.CTL_RSTCAUSE_PSW | .slp => F.CTL_RSTCAUSE_SLP

/-- Straps as CTL_STATE shows them. -/
def State.putStraps (s : State) (st : Straps) : State :=
  let s := { s with boot := { s.boot with straps := st } }
  ((s.put F.CTL_STATE_BOOTSEL_PIN (bit st.bootsel)).put F.CTL_STATE_SPLIT_PIN (bit st.split)).put F.CTL_STATE_PROF_PINS
    st.prof.toNat

/-- A start begins: mode BOOT, every island but AON and MGT in reset, the PLL not locked. -/
def State.startOver (s : State) (kind : ResetKind) : State :=
  let s := s.put (causeFld kind) 1
  { s with
    mode := .boot
    bypHold := false
    clus := s.clus.map (fun e => (e.1, { e.2 with safe := [] }))
    isl := { rst := if s.isl.pwrWait then 0x0FFEFE else 0x1FFEFE, pwrWait := s.isl.pwrWait, cdc := [] }
    boot := { s.boot with step := none, alt := false, kind := kind, noProfile := true, lastReset := s.now,
                          pll := false, switch := none, slowRing := false } }

/-- A chip reset of kind PIN, WDG or CMD: everything but class A returns to default. Channels that hold park first (R324). -/
def State.chipReset (s : State) (kind : ResetKind) : State :=
  let (s, parks) := if s.isl.rst.getLsbD 20 then (s, false) else s.pwrCoreReset
  let s := (List.range 21).foldl (fun s i => if s.isl.rst.getLsbD i then s else s.keepCounters i) s
  let s := (List.range 21).foldl (fun s i => if i = 20 ∧ parks then s else s.clearIsland i) s.pairCleared
  let s := { s with flt := {}, hbr := { out := s.hbr.out }, ports := [] }
  let s := s.disarmAll (fun t => match t with | .park _ => !parks | .ft _ => !parks | _ => true)
  let low := s.get F.PAR_STAT_ILK_LOW
  let s := s.resetRegs (fun c j => c != .a && !(parks && j == 20))
  let s := (s.put F.PAR_STAT_ILK_LOW low).putStraps s.boot.straps
  let s := { s with isl := { s.isl with pwrWait := parks } }
  ((s.startOver kind).arm .wdg 1000000).settleAll

/-- Power-on: what flash, fuses and the world outside hold stays, everything else is as `State.reset` has it. -/
def State.powerOn (s : State) (st : Straps) : State :=
  let s := s.dropStore
  let r := State.reset
  let r := { r with
    now := s.now, freeIx := s.freeIx, pending := s.pending, profiles := s.profiles, sent := s.sent, wire := s.wire
    upd := { s.upd with open_ := none, pull := none, serve := none, storing := none }
    sec := { s.sec with otp := none, unlock := none, tap := .idcode }
    hbr := { out := s.hbr.out }
    lanes := s.lanes.map (fun (e : Nat × LaneS) => (e.1, { modAbs := e.2.modAbs }))
    mgt := { flashLog := s.mgt.flashLog, erases := s.mgt.erases, flashBoots := s.mgt.flashBoots }
    boot := { r.boot with mirror := s.boot.mirror, porAt := s.now, lastReset := s.now } }
  let r := r.wr .mgtLogSeq 0 0 (BitVec.ofNat 32 r.nextSeqno)
  (r.putStraps st).arm .wdg 1000000

/-- POWER_ON (R466): after a loss of power, a POR; after the fall of another core rail, the end of the PIN reset it holds. At
the very start it gives the straps. -/
def State.powerOnEvent (s : State) (st : Straps) : State :=
  if !s.boot.powered then (s.advance 10000000).powerOn st
  else if s.boot.held then
    { (s.advance 10000000).putStraps st with boot := { s.boot with straps := st, held := false } }.arm .wdg 1000000
  else if s.mode == .boot && s.boot.step.isNone && s.now == s.boot.porAt then s.putStraps st
  else s

/-- A PIN reset is held: nothing counts, the watchdog among it. -/
def State.hold (s : State) : State := { s with boot := { s.boot with held := true } }.disarm .wdg

/-- RESET_N (R407, R470): low holds a PIN reset; the straps are sampled at its release. -/
def State.resetN (s : State) (low : Bool) (st : Straps) : State :=
  if !s.boot.powered || s.boot.held == low then s
  else if low then (s.chipReset .pin).hold
  else
    let s := { s with boot := { s.boot with held := false } }
    (s.putStraps st).arm .wdg 1000000

/-- RAIL_DROP (R467). -/
def State.railDrop (s : State) (r : Rail) : State :=
  if !s.boot.powered then s else
  match r with
  | .vddAon =>
    let s := s.chipReset .pin
    { s with timers := [], boot := { s.boot with powered := false } }
  | .core => (s.chipReset .pin).hold
  | .other m => s.setLive 0x16 m.val

/-! ### Profile switch (R418) -/

/-- Step 1 and 2 of a switch: entries cancelled without EVENT; SWC, MGT, the clusters, CAN, MAC and PWR reset together. -/
def State.switchReset (s : State) : State :=
  let s := s.sched.foldl (fun s e => s.dropEntry e.1) s
  let is := [6, 8, 9, 10, 11, 12, 13, 14, 15, 16, 17, 18, 20]
  let s := is.foldl (fun s i => s.assertReset i (fun c => c == .i)) s
  (s.put F.CTL_RSTCAUSE_PSW 1).settleOutputs

/-! ### SLEEP (R422-R424) -/

/-- Entry into SLEEP. -/
def State.enterSleep (s : State) : State :=
  let old := s.mode
  let cans := s.canLate
  let late := s.macLate
  let s := { s with boot := { s.boot with sleepMode := old, sleepSafe := s.rd .fltSafe } }
  let s := { s.endTestRelease .sleep with mode := .sleep }.logMode old none 0
  let s := s.sched.foldl (fun s e => s.dropEntry e.1) s
  let s := (List.range s.mgt.ramLog.length).foldl (fun s _ => s.mirrorOne) s
  let s := s.pwrSleep
  let s := s.sayLeaving [0, 1, 2, 3, 4]
  let s := s.driveIlk false
  let s := (List.range 21).foldl (fun s i => if i = 0 then s else s.clearIsland i) s.pairCleared
  let s := (s.put F.PAR_STAT_STATE 0).put F.CTL_STATE_PAIRED 0
  let s := (s.resetRegs (fun c j => (c == .f || c == .i) && decide (1 ≤ j ∧ j ≤ 5))).wr .islPwrStat 0 0 1
  let s := late.foldl (fun s e => s.setMac e.1 { s.mac e.1 with late := some (e.2.1, e.2.2.2), start := e.2.2.1 }) s
  let s := { s.wr .islClkOk 0 0 1 with
    cans := cans
    timers := s.timers.filter (fun e => match e.1 with | .cmdTimeout 5 _ => true | .quarantine 5 _ => true | _ => false)
    bypHold := false, isl := { rst := 0x1FFFFE }, flt := { s.flt with pulse := .idle } }
  s.updateAlive.settleAll

/-- WAKE_FALL: low for 100 ms. It counts in COMMISSION, RUN and SAFE with SLEEP_EN set, and not during an update. -/
def State.wakeFall (s : State) : State :=
  if !s.boot.wake then s else
  let s := { s with boot := { s.boot with wake := false } }
  if (s.mode == .commission || s.mode == .run || s.mode == .safe) && s.boot.powered && s.profile.sleepEn && s.upd.open_.isNone
    && s.boot.switch.isNone
  then (s.advance 100000000).enterSleep else s

/-- Wake (R424): reset kind SLP. Classes C and I stay in AON and return to default elsewhere. Every island that ISL_PWR_CTL does not
hold down has its power again. -/
def State.wakeUp (s : State) : State :=
  let on := ~~~s.rd .islPwrCtl &&& 0x1FFFFF
  let s := (s.wr .islPwrStat 0 0 on).wr .islClkOk 0 0 on
  let s := s.resetRegs (fun c j => c == .f || ((c == .c || c == .i) && j != 0))
  let s := { s with snap := {}, ports := [] }.putStraps s.boot.straps
  let s := { s with cans := [], macs := s.macs.map (fun (e : Nat × MacS) => (e.1, { e.2 with late := none })) }
  (s.startOver .slp).arm .wdg 1000000

/-- WAKE_HIGH, WAKE_RISE. -/
def State.wakeHigh (s : State) : State :=
  if s.mode ≠ .sleep then s else
  let s := { s with boot := { s.boot with wake := true } }
  (s.advance 1000000).wakeUp

def State.wakeRise (s : State) : State := if s.mode = .sleep then s else { s with boot := { s.boot with wake := true } }

/-- CAN_WAKE and MAC_WAKE: the wake status of the source survives the reset. -/
def State.canWakeUp (s : State) (n : Nat) (f : Option CanFrame) : State :=
  if s.canWakeHit n f then s.wakeUp.canWoke n f else s

end Sys2Proof.Machine
end

