-- ==== Sys2Proof/Machine/ReactOps.lean ====
section
/-!
DEFINITION. Reactions of the collector (spec/16_fault_collection.md, R373-R383, R484), acknowledgement (R379), the pins (R384,
R385) and the self-check (R383).
-/
namespace Sys2Proof.Machine

/-- The configured reaction of a source, as its code. -/
def State.srcReaction (s : State) (src : Nat) : Nat := s.get F.FLT_SRC_CFG_REACTION src

/-- Rank of a reaction in R375: CHIP_RESET, HANDOVER, SAFE, ISLAND_RESET. -/
def Reaction.rank : Reaction → Nat
  | .none => 0 | .islandReset => 1 | .safe => 2 | .handover => 3 | .chipReset => 4

/-- The REACTION record (R387). -/
def State.reactionRecord (s : State) (src r : Nat) : State :=
  s.log false (s.srcClass src) 1 src evReaction {} [BitVec.ofNat 32 src, BitVec.ofNat 32 r]

/-- A reaction that is not taken: REACTED and, where it is superseded, counted and recorded. -/
def State.reactedOnly (s : State) (src : Nat) (counted : Bool) : State :=
  let s := s.put F.FLT_SRC_STAT_REACTED 1 src
  if counted then (s.bump .fltCnt 2).reactionRecord src (s.srcReaction src) else s

/-- Sources that share one action `r` (R375): REACTED, a REACTION event and a record each; one count; FLT_LASTREACT records the
lowest-numbered. The record of a CHIP_RESET waits for the next boot (R387). -/
def State.reactTaken (s : State) (srcs : List Nat) (r : Nat) : State :=
  match srcs with
  | [] => s
  | x :: xs =>
    let low := xs.foldl min x
    let w := (((0 : Word).setBits 31 31 1).setBits 26 24 r).setBits 23 16 low
    let s := ((s.wr .fltLastreact 0 0 w).wr .fltLastreactTime 0 0 (BitVec.ofNat 32 s.ringNs)).bump .fltCnt 1
    srcs.foldl (fun s n =>
      let s := (s.put F.FLT_SRC_STAT_REACTED 1 n).faultEvent 2 n r
      if r = 4 then s else s.reactionRecord n r) s

/-- Islands an ISLAND_RESET reaction of a source resets: its home island, or the island of each instance bit (R374). -/
def State.reactIslands (s : State) (src : Nat) : List Nat :=
  let insts := (List.range 64).filter (fun i => if i < 32 then (s.rd .fltSrcInst0 src).getLsbD i
    else (s.rd .fltSrcInst1 src).getLsbD (i - 32))
  ((insts.filterMap (homeIsland src)).filter (fun i => i != 0 && i ≤ 20)).eraseDups

/-- Reaction resets of island `i` within the last second (R376). -/
def State.recentResets (s : State) (i : Nat) : Nat :=
  (s.flt.islHist.filter (fun e => e.2 == i && decide (s.now < e.1 + 1000000000))).length

/-- Islands that resets in progress cover (R375, R484). -/
def State.coveredIslands (s : State) : BitVec 21 := match s.flt.reacting with | some (_, m) => m | none => 0

/-- SAFE as a reaction. -/
def State.reactSafe (s : State) (srcs : List Nat) : State :=
  let low := match srcs with | [] => 0 | x :: xs => xs.foldl min x
  let s := { s with flt := { s.flt with reacting := some (.safe, s.coveredIslands) } }
  let s := s.enterSafe (if low = 1 then 3 else 2) low 0
  (s.reactTaken srcs 2).updateAlive

/-- SAFE or HANDOVER in BOOT is held: BOOT ends in SAFE (R377). -/
def State.holdReaction (s : State) (srcs : List Nat) : State :=
  let s := srcs.foldl (fun s n => s.reactedOnly n false) s
  { s with flt := { s.flt with heldSafe := some (s.flt.heldSafe.getD (srcs.headD 0)) } }

/-- SAFE in place of HANDOVER: a shadow stays unfit (R374). -/
def State.reactAsSafe (s : State) (srcs : List Nat) : State :=
  let s := if s.paired && decide (s.parSt ≥ psShadowSync) then s.put F.FLT_STAT_UNFIT 1 else s
  if s.mode == .safe then srcs.foldl (fun s n => s.reactedOnly n true) s else s.reactSafe srcs

/-- ISLAND_RESET of the sources `srcs` (R375, R376). -/
def State.reactIsland (s : State) (srcs : List Nat) : State :=
  let is := (srcs.flatMap s.reactIslands).eraseDups
  let esc := s.get F.FLT_CFG_ISL_ESC
  if is.any (fun i => decide (s.recentResets i ≥ esc)) then
    (if s.mode == .boot then s.holdReaction srcs
     else if s.mode == .safe then srcs.foldl (fun s n => s.reactedOnly n true) s else s.reactSafe srcs)
  else
    let mask := is.foldl (fun (m : BitVec 21) i => m ||| (1#21 <<< i)) s.coveredIslands
    let kind := match s.flt.reacting with | some (k, _) => k | none => .islandReset
    let hist := is.map (fun i => (s.now, i)) ++ s.flt.islHist.filter (fun e => decide (s.now < e.1 + 1000000000))
    let s := { s with flt := { s.flt with reacting := some (kind, mask), islHist := hist } }
    let s := s.reactTaken srcs 1
    (is.foldl State.islReset s).updateAlive

/-- HANDOVER (R344, R374). -/
def State.reactHandover (s : State) (srcs : List Nat) : State :=
  if s.canHandOver && s.mode != .safe then
    let s := { s with flt := { s.flt with reacting := some (.handover, s.coveredIslands) } }
    ((s.reactTaken srcs 3).startHandover none).updateAlive
  else s.reactAsSafe srcs

/-- CHIP_RESET: FLT_LASTREACT is class A. -/
def State.reactChip (s : State) (srcs : List Nat) : State := (s.reactTaken srcs 4).chipReset .cmd

/-- Does a reaction in progress bar one of rank `r` on the islands `is` (R375)? -/
def State.barred (s : State) (r : Nat) (is : List Nat) : Bool :=
  match s.flt.reacting with
  | none => false
  | some (k, m) => r != 4 && decide (k.rank ≥ r) && !(r == 1 && is.any (fun i => !s.isl.rst.getLsbD i && !m.getLsbD i))

/-- Take the sources that are due and share the strongest reaction `r`. -/
def State.reactBy (s : State) (r : Nat) (srcs : List Nat) : State :=
  if s.mode = .sleep ∧ !srcs.contains 1 then srcs.foldl (fun s n => s.reactedOnly n false) s
  else if r = 4 then s.reactChip srcs
  else if s.mode = .recovery then srcs.foldl (fun s n => s.reactedOnly n false) s
  else if s.checkFail && !srcs.contains 1 then srcs.foldl (fun s n => s.reactedOnly n true) s
  else if r ≥ 2 ∧ s.mode = .boot then s.holdReaction srcs
  else if s.barred r (srcs.flatMap s.reactIslands) then srcs.foldl (fun s n => s.reactedOnly n true) s
  else if r = 3 then s.reactHandover srcs
  else if r = 2 then (if s.mode = .safe then srcs.foldl (fun s n => s.reactedOnly n true) s else s.reactSafe srcs)
  else s.reactIsland srcs

/-- The reactions that are due (R375): the strongest is taken, the weaker ones are superseded. -/
def State.takeDue (s : State) : State :=
  let due := s.flt.due.eraseDups
  let s := { s with flt := { s.flt with due := [] } }
  let top := due.foldl (fun m n => max m (s.srcReaction n)) 0
  let strong := due.filter (fun n => s.srcReaction n == top)
  let weak := due.filter (fun n => s.srcReaction n != top)
  let s := weak.foldl (fun s n => s.reactedOnly n true) s
  if top = 0 then s else s.reactBy top strong

/-- The end of every command and event: reactions without grace begin. -/
def State.settle (s : State) : State := if s.flt.due.isEmpty then s else s.takeDue

/-- GRACE_EXPIRE (R373). -/
def State.graceExpire (s : State) (src : Nat) : State :=
  match s.expire (.grace src) with
  | none => s
  | some s =>
    let s := s.put F.FLT_SRC_STAT_PENDING 0 src
    { s with flt := { s.flt with due := s.flt.due ++ [src] } }

/-- REACTION_COMPLETE (R484): the reaction in progress ends once its own action has; resets of islands that are not yet back stay in
progress. -/
def State.reactionComplete (s : State) : State :=
  match s.flt.reacting with
  | none => s
  | some (k, m) =>
    let back := (List.range 21).all (fun i => !m.getLsbD i || s.islandUp i)
    if k == .handover && s.pair.handover.isSome then s
    else { s with flt := { s.flt with reacting := if back then none else some (.islandReset, m) } }.updateAlive

/-- Each instance bit of a source clears but those in `keep`. -/
def State.clearInst (s : State) (src : Nat) (keep : BitVec 64) : State :=
  (s.wr .fltSrcInst0 src 0 (s.rd .fltSrcInst0 src &&& keep.setWidth 32)).wr .fltSrcInst1 src 0
    (s.rd .fltSrcInst1 src &&& (keep >>> 32).setWidth 32)

/-- Does instant `t` lie in the present AON clock of 40 ns? -/
def State.thisAonClock (s : State) (t : Nat) : Bool := t / 40 == s.now / 40

/-- FAULT_ACK (R379). Of what meets it in one AON clock, the expiry of the grace timer acts before it, and a raise after a clearing:
the source stays as the raise left it (R375). With nothing latched or pending it has no effect (R84). -/
def State.faultAck (s : State) (src : Nat) (clear : Bool) : State :=
  if src = 1 then s else
  let s := if (s.deadline (.grace src)).any (fun t => t / 40 ≤ s.now / 40) then (s.graceExpire src).settle else s
  if !s.is F.FLT_SRC_STAT_LATCHED src && !s.is F.FLT_SRC_STAT_PENDING src then s else
  let live := tget 0 s.flt.live src
  match (tfind s.flt.lastRaise src).filter (fun e => clear && s.thisAonClock e.1) with
  | some (_, i) => s.clearInst src (live ||| 1#64 <<< i)
  | none =>
    let s := ((s.put F.FLT_SRC_STAT_ACKED 1 src).put F.FLT_SRC_STAT_PENDING 0 src).disarm (.grace src)
    let s := if !clear || !s.is F.FLT_SRC_STAT_LATCHED src then s else
      let s := s.clearInst src live
      if live ≠ 0 then s else
      let s := (s.put F.FLT_SRC_STAT_LATCHED 0 src).put F.FLT_SRC_STAT_REACTED 0 src
      (s.faultEvent 3 src 0).faultRecord src false
    s.updateAlive

/-- COLLECTOR_CHECK (R383): the two copies differ. -/
def State.collectorCheck (s : State) : State :=
  if !s.boot.powered then s else (s.put F.FLT_CHK_MISMATCH 1).raise 1

/-- INJECT (R383). -/
def State.fltInject (s : State) : State := s.put F.FLT_CHK_TEST_PASS 1

/-- FAULT_N_PULSE_END (R384): after a pulse its gap of 10 µs; after the gap a queued pulse begins. -/
def State.pulseEnd (s : State) : State :=
  match s.expire .pulse with
  | none => s
  | some s => match s.flt.pulse with
    | .low => { s with flt := { s.flt with pulse := .gap } }.arm .pulse 10000
    | .gap =>
      let s := { s with flt := { s.flt with pulse := .idle } }
      if s.flt.pulseQueued then { s with flt := { s.flt with pulseQueued := false } }.faultPulse else s
    | .idle => s

/-- ALIVE_TOGGLE (R385). -/
def State.aliveToggle (s : State) : State :=
  match s.expire .alive with
  | none => s
  | some s =>
    if s.aliveOk then { s with flt := { s.flt with alive := !s.flt.alive } }.arm .alive 1000000 else s.updateAlive

/-- Bits flip in a word that a source watches: a word of a crossing queue into island `inst`, of the unit `place` (0x21), an active
forwarding entry, or from 256 on one of the shadow copy (0x43), a word of the vat (0x40, 0x41), a word of an engine's TXQ and then RXQ (0x61), an instruction of an engine (0x63). An odd number of them
breaks a parity bit; the frame that carries a bad crossing word leaves with POISON set (R396). -/
def State.upset (s : State) (src inst place bits : Nat) : State :=
  let flip := fun (w : QWord) => { w with parity := w.parity != (bits % 2 == 1) }
  if src = 0x21 then
    if bits % 2 = 0 ∨ !s.islandUp inst then s else
    let units := s.sw.units.map (fun (e : Nat × VUnit) =>
      if e.1 = place then (e.1, { e.2 with frame := { e.2.frame with poison := true } }) else e)
    { s with sw := { s.sw with units := units } }.raise 0x21 inst
  else if (src = 0x40 ∨ src = 0x41) ∧ place < 8 * vatCells ∧ bits ≠ 0 then
    let n := tget 0 s.sw.ceWords place + bits
    if n ≤ 2 then { s with sw := { s.sw with ceWords := tset s.sw.ceWords place n } }
    else { s with sw := { s.sw with ceWords := terase s.sw.ceWords place, ueWords := place :: s.sw.ueWords.filter (· != place) } }
  else if src = 0x43 then
    if place < 512 then { s with sw := { s.sw with fwdErr := tset s.sw.fwdErr place (tget 0 s.sw.fwdErr place + bits) } } else s
  else if src = 0x61 then
    let x := s.eng inst
    if place < x.txn then s.setEng inst { x with path := x.path.modify place flip }
    else s.setEng inst { x with rxq := x.rxq.modify (place - x.txn) flip }
  else if src = 0x63 ∧ bits % 2 = 1 then
    let x := s.eng inst
    let a := place % 128
    s.setEng inst { x with badProg := if x.badProg.contains a then x.badProg.filter (· != a) else a :: x.badProg }
  else s

/-- SOURCE_RAISE (R369, R393): a detector in another island reports by a control event; ENG_PROG_PARITY stops its engine whether or
not the report gets through (R220). `pulse`: an event-type condition. -/
def State.sourceRaise (s : State) (src inst : Nat) (e : Edge) : State :=
  match e with
  | .upset place bits => s.upset src inst place bits
  | .fall => (s.clearLive src inst).updateAlive
  | _ =>
    if !s.canRaise src inst then s else
    let s := if src = 0x63 then s.stopEngine inst scParity else s
    let (s, ok) := match homeIsland src inst with
      | some i => s.crossToAon i
      | none => (s, true)
    if !ok then s else
    if e = .pulse then s.raise src inst else s.setLive src inst

end Sys2Proof.Machine
end

