-- ==== Sys2Proof/Machine/MgtOps.lean ====
section
/-!
DEFINITION. The management subsystem (spec/15_management_subsystem.md, R348-R366): lockstep, sensors, log mirroring, watchdog,
management SRAM.
-/
namespace Sys2Proof.Machine

/-- Does Hihovos (or the ROM) run: MGT out of reset and clocked, and the cores not halted (R349)? -/
def State.mgtUp (s : State) : Bool :=
  s.islandUp 8 && (s.rd .islClkOk).getLsbD 8 && !s.mgt.halted && !s.boot.held && s.boot.powered && s.mode != .sleep

/-- LOCKSTEP_MISMATCH (R349): in lockstep only. -/
def State.lockstep (s : State) (g : Nat) : State :=
  if !s.mgtUp || !s.is F.MGT_STAT_LOCKSTEP then s else
  let s := { s with mgt := { s.mgt with halted := true } }
  (s.put F.MGT_LS_STAT_LAST_GROUP g).raise 0x10

/-- LOCAL_WDG (R355): core B alone restarts. -/
def State.localWdg (s : State) : State :=
  if !s.is F.MGT_LL_STAT_RUNNING then s else
  (s.sat F.MGT_LL_STAT_LL_RESTARTS).raise 0x17

/-! ### Sensors (R356) -/

/-- The reading of temperature sensor `k` (0-7 core die, 8-9 power die), 0.125 °C; `none`: it takes no part. -/
def State.tempOf (s : State) (k : Nat) : Option Int :=
  if k < 8 then some (s16 (s.get (if k % 2 = 1 then F.MGT_TEMP_T_HI else F.MGT_TEMP_T_LO) (k / 2)))
  else if !s.is F.PWR_STAT_LINK_OK then none
  else some (s16 (s.get (if k = 9 then F.MGT_PTEMP_T1 else F.MGT_PTEMP_T0)))

/-- One temperature limit: the source raises at it, and clears once every sensor has stayed 5 °C below it for 1 s. -/
def State.tempLimit (s : State) (k : Nat) (src limit : Nat) (crit : Bool) : State :=
  let s := match s.tempOf k with
    | some t => if t ≥ 8 * Int.ofNat limit then s.setLive src k else s
    | none => s
  let below := (List.range 10).all (fun i => match s.tempOf i with
    | some t => decide (t ≤ 8 * Int.ofNat limit - 40)
    | none => true)
  if !s.is F.FLT_SRC_STAT_LIVE src || !below then s.disarm (.tempClear crit)
  else match s.deadline (.tempClear crit) with
    | none => s.arm (.tempClear crit) 1000000000
    | some d => if s.now < d then s else
      (List.range 10).foldl (fun s i => s.clearLive src i) (s.disarm (.tempClear crit))

/-- Both limits after a reading of sensor `k`. -/
def State.tempCheck (s : State) (k : Nat) : State :=
  (s.tempLimit k 0x14 (s.get F.MGT_SENS_CFG_TEMP_WARN) false).tempLimit k 0x15 (s.get F.MGT_SENS_CFG_TEMP_CRIT) true

/-- SENSOR_READ. -/
def State.sensorRead (s : State) (r : Sensor) : State :=
  let s := match r with
    | .powerTemp k t =>
      { s with isl := { s.isl with ptemp := s.isl.ptemp.setBits (16 * k.val + 15) (16 * k.val) t.toNat } }
    | _ => s
  if !s.mgtUp then s else
  (match r with
  | .coreTemp k t => (s.put (if k.val % 2 = 1 then F.MGT_TEMP_T_HI else F.MGT_TEMP_T_LO) t.toNat (k.val / 2)).tempCheck k.val
  | .powerTemp k t =>
    if !s.is F.PWR_STAT_LINK_OK then s else
    (s.put (if k.val = 1 then F.MGT_PTEMP_T1 else F.MGT_PTEMP_T0) t.toNat).tempCheck (8 + k.val)
  | .supply k mv out =>
    let s := s.put (if k.val % 2 = 1 then F.MGT_SUP_V_HI else F.MGT_SUP_V_LO) mv.toNat (k.val / 2)
    if k.val ≥ 6 then s else if out then s.setLive 0x16 k.val else s.clearLive 0x16 k.val).updateAlive

/-! ### Log (R360) -/

/-- LOG_MIRROR: one record to the flash log, or skipped; a LOG_GAP record once skipping has ended. -/
def State.logMirror (s : State) : State :=
  if !s.mgtUp || s.logBacklog == 0 then s else
  let n := s.mgt.gapRun
  let s := s.mirrorOne
  if n = 0 ∨ s.mgt.gapRun ≠ n then s else
  { s with mgt := { s.mgt with gapRun := 0 } }.log false 0 0 0 evLogGap {} [BitVec.ofNat 32 n]

/-! ### Watchdog (R363, R364), SRAM (R366) -/

/-- The watchdog expires: MGT_WDG_INFO and a WDG reset. -/
def State.wdgReset (s : State) (pending : Option Nat) : State :=
  let w := match pending with
    | some i => (((0 : Word).setBits 31 31 1).setBits 20 16 i).setBits 15 15 1
    | none => (0 : Word).setBits 31 31 1
  (s.wr .mgtWdgInfo 0 0 w).chipReset .wdg

/-- KICK by a management core. In a profile switch Hihovos goes on, although its island's registers are reset (R418). -/
def State.kick (s : State) (v : Nat) : State :=
  if !s.boot.powered || s.boot.held || s.mode == .sleep || s.mgt.halted || (s.isl.rst.getLsbD 8 && s.boot.switch.isNone) then s
  else if v = 0xC35A then s.arm .wdg 1000000
  else s.wdgReset none

/-- WDG_EXPIRE. -/
def State.wdgExpire (s : State) (pending : Option Nat) : State :=
  match s.expire .wdg with
  | none => s
  | some s => if s.mode = .sleep ∨ s.boot.held then s else s.wdgReset pending

/-- SRAM_SCRUB; `core`: the word was met by a core read. -/
def State.sramScrub (s : State) (found : EccResult) (core : Bool) : State :=
  if s.isl.rst.getLsbD 8 || s.mode == .sleep then s else
  match found with
  | .clean => s
  | .corrected1 | .corrected2 => s.bump .mgtCnt 4
  | .uncorrectable => (s.bump .mgtCnt 5).raise (if core then 0x12 else 0x13)

/-- MGT_WDG.LEFT_US and MGT_LL_STAT.RING_QUIET as they read. -/
def State.wdgLeft (s : State) : Nat := match s.deadline .wdg with | some d => min 1000 ((d - s.now) / 1000) | none => 1000
def State.ringQuiet (s : State) : Bool := decide (s.now ≥ s.mgt.lastHostCmd + 1000000 * s.get F.MGT_CFG_LL_QUIET_MS)

end Sys2Proof.Machine
end

