-- ==== Sys2Proof/Machine/BootOps.lean ====
section
/-!
DEFINITION. The boot steps (spec/18_modes_start_and_profiles.md, R408-R413, R417), the choice of the image slot (R431) and entry
into RECOVERY (R436).
-/
namespace Sys2Proof.Machine

/-! ### Image slots (R427, R431) -/

/-- Slot states of R427. -/
def slEmpty : Nat := 0
def slIncomplete : Nat := 1
def slUnverified : Nat := 2
def slVerified : Nat := 3
def slTrial : Nat := 4
def slGood : Nat := 5
def slRevoked : Nat := 6

def State.slot (s : State) (t : Nat) : Slot := if t = 0 then s.upd.a else s.upd.b
def State.setSlot (s : State) (t : Nat) (x : Slot) : State :=
  { s with upd := if t = 0 then { s.upd with a := x } else { s.upd with b := x } }
def State.slotState (s : State) (t : Nat) : Nat := (s.slot t).state

/-- The UPDATE record (R359, R427): opcode, slot, status. -/
def State.logUpdate (s : State) (op slot : Nat) (status : Status) : State :=
  s.log true 0 0 0 evUpdate { opcode := BitVec.ofNat 8 op, status := status }
    [BitVec.ofNat 32 op, BitVec.ofNat 32 slot, status.setWidth 32]

/-- The state of a slot changes by one journal entry. -/
def State.setSlotState (s : State) (t st : Nat) (op : Nat) (status : Status) : State :=
  (s.setSlot t { s.slot t with state := st }).logUpdate op t status

/-- Is an owner key burnt, and is slot `k` usable (R444, R445, R448)? -/
def State.owned (s : State) : Bool := s.sec.owner.any (fun e => !s.sec.badSlots.contains e.1)
def State.ownerOk (s : State) (k : Nat) : Bool :=
  (tfind s.sec.owner k).isSome && !s.sec.badSlots.contains k && !s.sec.revoked.contains k

/-- KEY_INDEX names a key (R445): while the hub is not owned, 0 names the release key. -/
def State.keyOk (s : State) (k : Nat) : Bool := if s.owned then s.ownerOk k else k == 0

/-- The running slot. -/
def State.runSlot (s : State) : Nat := s.get F.CTL_FWSLOT_SLOT
def State.runTrial (s : State) : Bool := s.is F.CTL_FWSLOT_TRIAL

/-- A slot whose ROLLBACK lies below the counter is REVOKED (R457), with its record (R427). -/
def State.revokeOld (s : State) (t : Nat) : State :=
  let x := s.slot t
  if x.state ≥ slVerified && x.state ≤ slGood && decide (x.head.rollback < s.sec.count) then
    let s := s.setSlot t { x with state := slRevoked }
    { s with upd := { s.upd with rolled := s.upd.rolled ++ [t] } } else s

/-- May the image of slot `t` boot under the checks of R430 marked B05? -/
def State.imageOk (s : State) (t : Nat) : Bool :=
  decide ((s.slot t).head.rollback ≥ s.sec.count) && s.keyOk (s.slot t).head.keyIndex

/-- The slot that B05 boots (R431), with the journal entries it writes; `none`: there is none. -/
def State.chooseSlot (s : State) : State × Option Nat :=
  let trial := if s.slotState 0 = slTrial then some 0 else if s.slotState 1 = slTrial then some 1 else none
  match trial with
  | some t =>
    if s.upd.trialCnt ≥ 3 then
      let s := s.setSlot t { s.slot t with state := slVerified }
      let s := { s with upd := { s.upd with bootSlot := s.upd.prev.getD s.upd.bootSlot, rolled := s.upd.rolled ++ [t] } }
      (s.raise 0x05, s.upd.prev)
    else ({ s with upd := { s.upd with trialCnt := s.upd.trialCnt + 1 } }, some t)
  | none => (s, if s.slotState s.upd.bootSlot = slGood then some s.upd.bootSlot else none)

/-- The alternate of B05: the other slot. -/
def State.otherSlot (s : State) : Option Nat :=
  let n := if s.slotState 0 = slTrial then 0 else if s.slotState 1 = slTrial then 1 else s.upd.bootSlot
  let o := 1 - n
  if s.slotState o = slGood ∨ s.slotState o = slTrial ∨ s.slotState o = slVerified then some o else none

/-! ### Marks (R410, R411) -/

/-- What a step does when its count is exhausted. -/
inductive Exhausted where
  | recovery | skip | defaults | safe | never
  deriving DecidableEq, Repr

/-- Policy of a step: retry with its limit, alternate, skip; and its exhaustion outcome (R408). -/
inductive Policy where
  | retry (limit : Nat) | alternate | skip
  deriving DecidableEq, Repr

def stepPolicy (n : Nat) : Policy × Exhausted :=
  match n with
  | 1 => (.retry 15, .never)
  | 2 => (.retry 3, .recovery)
  | 3 => (.alternate, .recovery)
  | 4 => (.retry 2, .recovery)
  | 5 => (.alternate, .recovery)
  | 6 => (.alternate, .recovery)
  | 7 => (.alternate, .defaults)
  | 8 => (.retry 2, .recovery)
  | 9 => (.alternate, .skip)
  | 13 => (.alternate, .skip)
  | 14 => (.retry 2, .skip)
  | 15 => (.retry 2, .safe)
  | _ => (.skip, .skip)

/-- What a step does when it is reached with count `c` (R412): 0 normal, 1 alternate, 2 skip, 3 exhausted. -/
def stepAction (n c : Nat) : Nat :=
  match (stepPolicy n).1 with
  | .retry l => if c ≤ l then 0 else 3
  | .alternate => if c = 0 then 0 else if c = 1 then 1 else 3
  | .skip => if c = 0 then 0 else 2

def State.stepFails (s : State) (n : Nat) : Nat := tget 0 s.boot.marks.fails n

/-- Change the marks; from B03 on the mirror in flash follows. -/
def State.setMarks (s : State) (n : Nat) (m : Marks) : State :=
  { s with boot := { s.boot with marks := m, mirror := if n ≥ 3 then m else s.boot.mirror } }

/-- Steps found with START = 1 and DONE = 0 count once more, and every mark is cleared (R411). -/
def Marks.restart (m : Marks) : Marks :=
  { fails := (List.range 16).foldl (fun t n =>
      if m.start.getLsbD n && !m.done.getLsbD n then tset t n (min 15 (tget 0 t n + 1)) else t) m.fails }

def Marks.withDone (m : Marks) (n : Nat) (skipped : Bool) : Marks :=
  { m with done := m.done ||| (1#16 <<< n), skipped := if skipped then m.skipped ||| (1#16 <<< n) else m.skipped }

/-! ### Outcomes -/

/-- Entry into RECOVERY (R436): the ROM takes its node address from the profile that R417 selects, or from Opal; the PCI island
is released. -/
def State.enterRecovery (s : State) (chosen : Nat) : State :=
  let nodeOf := fun (p : Nat) =>
    let x := tget ({} : Profile) s.profiles p
    if x.valid then tfind x.records (Reg.ctlNode.addr 0 0) else none
  let node := (nodeOf chosen).orElse (fun _ => nodeOf 0)
  let s := s.wr .ctlNode 0 0 (node.getD 0)
  let s := { s with mode := .recovery, boot := { s.boot with step := none } }
  (s.releaseIsland 19).arm .recoveryPull 300000000000

/-- The profile that a start loads (R417). -/
def State.chosenProfile (s : State) : Nat :=
  if s.boot.kind = .por ∨ s.boot.kind = .pin then s.boot.straps.prof.toNat else s.boot.lastProf

/-- B07 has loaded profile `p`, or the Reset-column defaults under that number. -/
def State.profileLoaded (s : State) (p : Nat) (defaults : Bool) : State :=
  { s.put F.CTL_STATE_ACTIVE_PROF p with boot := { s.boot with noProfile := defaults, lastProf := p } }

/-- End of boot (R413): the mode, INIT_ON, FLT_PIN.ASSERT, the marks, and the record of a trial start:
UPDATE with opcode 0, the slot, status OK, and TRIAL_CNT after the words of R359 (R431). -/
def State.endOfBoot (s : State) (forceSafe : Bool) : State :=
  let woken := s.boot.kind == .slp
  let m : Mode :=
    if forceSafe || s.flt.heldSafe.isSome || (woken && s.boot.sleepMode == .safe) then .safe
    else if woken then s.boot.sleepMode
    else if s.boot.straps.bootsel || s.boot.noProfile then .commission
    else .run
  let s := s.put F.FLT_PIN_ASSERT 0
  let s := s.setMarks 15 { s.boot.marks.withDone 15 false with fails := [] }
  let s := { s with boot := { s.boot with step := none } }
  let s := if m = .safe then
      s.toSafe (if woken && !forceSafe && s.flt.heldSafe.isNone then s.boot.sleepSafe
        else safeWord .run 4 (s.flt.heldSafe.getD 0) 0)
    else if m = .commission then (s.commissionOutputs.setMode .commission).logMode .boot none 0
    else ((s.setMode .run).pwrRun.cluRun).logMode .boot none 0
  let s := { s with flt := { s.flt with heldSafe := none } }
  if s.runTrial then s.log true 0 0 0 evUpdate {} [0, BitVec.ofNat 32 s.runSlot, 0, BitVec.ofNat 32 s.upd.trialCnt] else s

/-! ### The work of the steps (R408) -/

/-- The split decision of B08 (R352). -/
def State.splitDecision (s : State) : State :=
  if !s.boot.straps.split ∨ s.boot.kind = .slp then s else
  let p := s.profile
  let why := if !(p.localLogic && p.signed) then 1 else if s.paired then 2 else if !p.llOk then 3 else 0
  if why = 0 then (s.put F.MGT_STAT_LOCKSTEP 0).put F.MGT_LL_STAT_RUNNING 1
  else (s.put F.MGT_STAT_SPLIT_REFUSED why).log false 0 0 0 evSplitRefused {} [BitVec.ofNat 32 why]

/-- Records that the last life left to be written at B12: watchdog, chip-reset reaction, rollback. -/
def State.logLastLife (s : State) : State :=
  let s := if s.is F.MGT_WDG_INFO_VALID then
      (s.log false 0 0 0 evWdg {} [s.rd .mgtWdgInfo]).put F.MGT_WDG_INFO_VALID 0 else s
  let s := if s.boot.kind = .wdg then s.raise 0x03 else s
  let s := if s.boot.kind == .cmd && s.is F.FLT_LASTREACT_VALID && s.get F.FLT_LASTREACT_REACTION == 4 then
      s.reactionRecord (s.get F.FLT_LASTREACT_SOURCE) 4 else s
  let s := s.upd.rolled.foldl (fun s t => s.logUpdate 0 t stOk) s
  { s with upd := { s.upd with rolled := [] } }

/-- The records of steps that were found failed before the log ran. -/
def State.logStepRecs (s : State) : State :=
  let s := s.boot.recs.foldl (fun (s : State) (r : Nat × Nat × Nat) =>
    s.log false 3 2 4 evBootStepFail {} [BitVec.ofNat 32 r.1, BitVec.ofNat 32 r.2.1, BitVec.ofNat 32 r.2.2]) s
  { s with boot := { s.boot with recs := [] } }

/-- Completion of the burn of an image confirmed before a power loss (R428). -/
def State.finishBurn (s : State) : State :=
  let x := s.slot s.runSlot
  if x.state = slGood ∧ x.head.rollback > s.sec.count then { s with sec := { s.sec with count := x.head.rollback } } else s

/-- Log start of B12: the numbering, the BOOT record, a PROFILE record with the count of records skipped (R415), the records kept
since, and what the last life left to be recorded. -/
def State.logStart (s : State) : State :=
  let s := s.wr .mgtLogSeq 0 0 (BitVec.ofNat 32 s.nextSeqno)
  let s := s.log false 0 0 0 evBoot {} [s.rd .ctlRstcause, s.rd .ctlFwver, s.rd .ctlFwslot]
  let n := s.skippedRecords (fun _ => true)
  let s := if n = 0 then s else
    s.log true 0 0 0 evProfile {} [0, BitVec.ofNat 32 (s.get F.CTL_STATE_ACTIVE_PROF), BitVec.ofNat 32 n]
  s.logStepRecs.logLastLife.finishBurn

/-- The lanes after B08 has loaded LNK_CFG (R121): an enabled lane trains, a disabled one goes to OFF. -/
def State.lanesFollow (s : State) : State :=
  [0, 1, 2, 3, 4].foldl (fun (s : State) l => if s.laneOn l then s.laneStart l else if s.lst l = lsOff then s else s.laneDisable l) s

/-- What a step that ends well has done. -/
def State.stepWork (s : State) (n : Nat) (r : StepResult) : State :=
  match n with
  | 1 => [1, 2, 3, 4, 5].foldl State.releaseIsland { s with boot := { s.boot with pll := true } }
  | 2 =>
    if s.boot.kind ≠ .por then s else
    let m := s.boot.mirror.restart
    { s with boot := { s.boot with marks := { s.boot.marks with fails := m.fails } } }
  | 4 => (s.put F.MGT_LS_STAT_DETECT r.detect.toNat).put F.MGT_LS_STAT_PASS (bit (r.detect == 0xFFF))
  | 8 =>
    let s := (if s.boot.noProfile then s else (s.loadProfile (fun _ => true)).lanesFollow).fwdCommit
    ([6, 7, 9, 10, 11, 12, 13, 14, 15, 16, 17, 18].foldl State.releaseIsland s).splitDecision
  | 11 => s.releaseIsland 19
  | 12 => s.logStart
  | 14 =>
    let s := (s.releaseIsland 20).put F.PWR_STAT_LINK_OK 1
    (s.pchOffOf 0xFFFF).foldl (fun s c => s.pchCalibrate false c) s
  | _ => s

/-- Work that begins with a step: B13 enters PAIRING; B09 in its alternate form takes RATE_MAX as 1 for this boot (R101). -/
def State.stepBegin (s : State) (n : Nat) (alt : Bool) : State :=
  let m := { s.boot.marks with start := s.boot.marks.start ||| (1#16 <<< n) }
  let s := { s.setMarks n m with boot := { (s.setMarks n m).boot with step := some n, alt := alt } }
  if n = 13 then s.startPairing alt
  else if n = 9 ∧ alt then
    [0, 1, 2, 3, 4].foldl (fun s l => if s.lst l = lsNoSignal then s.setRate l else s) { s with boot := { s.boot with slowRing := true } }
  else s

/-- A count above zero found at a step (R412): BOOT_STEP_FAIL, and its record, kept until B12. -/
def State.stepFailNote (s : State) (n c act : Nat) : State :=
  let s := s.raise 0x04
  if n ≤ 12 then { s with boot := { s.boot with recs := s.boot.recs ++ [(n, c, act)] } }
  else s.log false 3 2 4 evBootStepFail {} [BitVec.ofNat 32 n, BitVec.ofNat 32 c, BitVec.ofNat 32 act]

/-- B14 exhausted: PWR_LINK raised; the island is released so that it can be. -/
def State.skipB14 (s : State) : State :=
  let s := (s.releaseIsland 20).setResync 20 false
  s.setLive 0x8A

/-- A step is reached (R412). -/
def State.reachStep : Nat → Nat → State → State
  | 0, _, s => s
  | fuel + 1, n, s =>
    let c := s.stepFails n
    let act := stepAction n c
    let s := if c = 0 then s else s.stepFailNote n c act
    if act = 0 then s.stepBegin n false
    else if act = 1 then s.stepBegin n true
    else
      let s := s.setMarks n (s.boot.marks.withDone n (act = 2 ∨ (stepPolicy n).2 = .skip))
      match (if act = 2 then Exhausted.skip else (stepPolicy n).2) with
      | .recovery => s.enterRecovery s.chosenProfile
      | .safe => s.endOfBoot true
      | .defaults => State.reachStep fuel (n + 1) (s.profileLoaded s.chosenProfile true)
      | .never => s.stepBegin n false
      | .skip => State.reachStep fuel (n + 1) (if n = 14 then s.skipB14 else s)

/-- A step ends well. -/
def State.stepDone (s : State) (n : Nat) (r : StepResult) : State :=
  let s := s.stepWork n r
  if n = 15 then s.endOfBoot false
  else State.reachStep 16 (n + 1) (s.setMarks n (s.boot.marks.withDone n false))

/-- A step finds its own failure (R411): its count rises and its policy applies at once; B01 waits 1 s. -/
def State.stepFailed (s : State) (n : Nat) : State :=
  let m := { s.boot.marks with fails := tset s.boot.marks.fails n (min 15 (s.stepFails n + 1)) }
  let s := if n = 1 then s.advance 1000000000 else s
  State.reachStep 16 n (s.setMarks n m)

/-- A new debug challenge (R460): free words. -/
def State.drawChallenge (s : State) : State :=
  let (ws, s) := s.freshWords 8
  (List.range 8).foldl (fun s i => s.wr .secDbgChal i 0 (ws.getD i 0)) s

/-- BOOT_START (R411). -/
def State.bootStart (s : State) : State :=
  if s.mode ≠ .boot ∨ s.boot.step.isSome ∨ s.boot.held ∨ !s.boot.powered then s else
  let s := s.drawChallenge
  let b := { s.boot with marks := s.boot.marks.restart, boots := s.boot.boots + 1 }
  let s := { s with boot := b, mgt := { s.mgt with flashBoots := (s.mgt.flashBoots + 1) % 2 ^ 24 } }
  State.reachStep 16 1 (s.arm .wdg 1000000)

/-- B05: the slot runs, or the step fails. -/
def State.bootImage (s : State) (r : StepResult) : State :=
  let alt := s.boot.alt
  let (s, t) := if alt then (s, s.otherSlot) else s.chooseSlot
  let s := (s.revokeOld 0).revokeOld 1
  match t with
  | none => s.stepFailed 5
  | some t =>
    if !r.ok || !s.imageOk t then s.stepFailed 5 else
    let s := (s.put F.CTL_FWSLOT_SLOT t).put F.CTL_FWSLOT_TRIAL (bit (s.slotState t = slTrial))
    (s.wr .ctlFwver 0 0 (s.slot t).head.version).stepDone 5 r

/-- B07: the chosen profile, or Opal in the alternate form (R417). -/
def State.bootProfile (s : State) (r : StepResult) : State :=
  let p := if s.boot.alt then 0 else s.chosenProfile
  if r.ok && (tget ({} : Profile) s.profiles p).valid then (s.profileLoaded p false).stepDone 7 r else s.stepFailed 7

/-- BOOT_STEP_DONE (R412). The pairing step ends in ACTIVE_ALONE, SHADOW_SYNC or STANDALONE (R345). -/
def State.bootStepDone (s : State) (r : StepResult) : State :=
  match s.boot.step with
  | none => s
  | some n =>
    if s.mode ≠ .boot ∨ s.mgt.halted then s
    else if n = 5 then s.bootImage r
    else if n = 7 then s.bootProfile r
    else if n = 4 then
      if r.ok ∧ r.detect = 0xFFF then s.stepDone 4 r else (s.stepWork 4 r).stepFailed 4
    else if !r.ok then s.stepFailed n
    else if n = 13 ∧ (s.parSt = psPairing ∨ s.parSt = psOutOfStep) then s
    else s.stepDone n r

end Sys2Proof.Machine
end

