-- ==== Sys2Proof/Machine/CmdOps.lean ====
section
/-!
DEFINITION. The life of a command at its target (spec/02_address_space_and_views.md, spec/03_command_packets.md): who it is for,
under which rights, its reply or completion EVENT, the retry cache, refusal counts and audit records, and the sessions.
-/
namespace Sys2Proof.Machine

/-! ### Refusal counts and audit (R41, R46, R362) -/

/-- Who sent a command, as an audit record names it. -/
def whoOf (f : Frame) (st : Status) : Who :=
  { node := f.srcNode, port := f.srcPort, session := f.session, opcode := f.opcode, status := st }

/-- An AUTH_FAIL or DENIED refusal is recorded, at most once per kind, node and second (R362). -/
def State.auditRefusal (s : State) (denied : Bool) (f : Frame) (st : Status) (data : List Word) : State :=
  let mine := fun (m : Bool × BitVec 24 × Nat × Nat) => m.1 == denied && m.2.1 == f.srcNode
  let rest := s.mgt.merges.filter (fun m => !mine m)
  match s.mgt.merges.find? mine with
  | some (_, _, t, n) =>
    if s.now < t + 1000000000 then
      { s with mgt := { s.mgt with merges := (denied, f.srcNode, t, n + 1) :: rest } }
    else
      let s := { s with mgt := { s.mgt with merges := (denied, f.srcNode, s.now, 0) :: rest } }
      s.log true 0 0 0 (if denied then evDenied else evAuthFail) (whoOf f st) (BitVec.ofNat 32 n :: data)
  | none =>
    let s := { s with mgt := { s.mgt with merges := (denied, f.srcNode, s.now, 0) :: rest } }
    s.log true 0 0 0 (if denied then evDenied else evAuthFail) (whoOf f st) (0 :: data)

/-- An AUTH_FAIL refusal: its count (R41), its record, and AUTH_FAIL_BURST at more than 16 within 1 s (R372). -/
def State.noteAuthFail (s : State) (f : Frame) : State :=
  let s := s.sat F.CTL_SESSSTAT_AUTH_FAIL_CNT
  let ts := s.mgt.authTimes.filter (fun t => s.now < t + 1000000000) ++ [s.now]
  let s := { s with mgt := { s.mgt with authTimes := ts } }
  let s := s.auditRefusal false f stAuthFail [f.session.setWidth 32]
  if ts.length > 16 then s.raise 0xA0 else s

/-- What a refusal with status `st` counts (R46); `step5`: it is a BAD_PARAM of step 5. -/
def State.noteRefusal (s : State) (f : Frame) (st : Status) (step5 : Bool) : State :=
  if st = stDenied then (s.sat F.CTL_DENYCNT_DENIED_CNT).auditRefusal true f st [f.w6, f.w7]
  else if st = stAuthFail then s.noteAuthFail f
  else if step5 then s.sat F.CTL_DENYCNT_BADADDR_CNT
  else s

/-- Opcodes whose execution leaves an audit record (R458), with its code and data. -/
def auditOf (f : Frame) (slot : Nat) (st : Status) : Option (Nat × List Word) :=
  let op := f.opcode.setWidth 32
  match f.opcode.toNat with
  | 0x28 => if st = stOk then none else some (evProfile, [op, f.w6 &&& 3])
  | 0x29 => some (evProfile, [op, f.w6 &&& 3])
  | 0x50 => some (evTime, [op, f.w6])
  | 0x51 => some (evTime, [op, f.w6])
  | 0x52 => some (evTime, [op, f.w6])
  | 0x7F => some (evResetChip, [])
  | n => if 0x40 ≤ n ∧ n ≤ 0x46 then some (evUpdate, [op, BitVec.ofNat 32 slot, st.setWidth 32]) else none

/-- The slot that an update command's record names: the running one for UPDATE_CONFIRM, else the other (R359). -/
def State.auditSlot (s : State) (f : Frame) : Nat := if f.opcode = 0x44 then s.runSlot else 1 - s.runSlot

def State.auditCmd (s : State) (f : Frame) (st : Status) : State :=
  match auditOf f (s.auditSlot f) st with
  | none => s
  | some (code, data) => s.log true 0 0 0 code (whoOf f st) data

/-! ### Sending (R57-R60, R437) -/

/-- The ROM in RECOVERY sends on both taps, with SEQ from the class-A counters (R117, R437), or to its bridge host. -/
def State.romSend (s : State) (f : Frame) : State :=
  let (f, s) := s.takeSeq { f with dual := true, time := if f.ftype = ftReply then BitVec.ofNat 32 s.ringNs else f.time }
  let (f, s) := if f.session = 0 then (f, s) else s.sealFrame none f
  let s := s.spendSessions
  if f.dstNode == s.ownNode && f.dstPort == 5 then
    let v : VUnit := { frame := f, inPort := 122, own := true, cells := [], tier := .shared, gen := 0, complete := true,
                       rind := rindGood, authOk := true }
    let q := s.rxQueue v { uid := 0 }
    if !s.pcieUp || !s.is F.HBR_RXR_CFG_ENABLE q || s.rxFree q == 0 then s.bump .hbrRxqDrop q else s.rxWrite q v false
  else [0, 1].foldl (fun s l => if s.lst l = lsRepeat then s.transmit l f rindGood else s) s

/-- A frame of Hihovos, or of the ROM. The ROM's frames have DUAL = 1 and wait for the end of the 64 ms after power-on (R124). -/
def State.sendOwn (s : State) (f : Frame) : State :=
  if s.mode = .recovery then
    (if s.now < s.boot.porAt + 64000000 then { s with cmd := { s.cmd with romWait := s.cmd.romWait ++ [f] } } else s.romSend f)
  else s.emitOut f 122

/-- The ROM sends what waited for the end of the 64 ms (R124). -/
def State.romFlush (s : State) : State :=
  if s.cmd.romWait.isEmpty || decide (s.now < s.boot.porAt + 64000000) then s else
  s.cmd.romWait.foldl State.romSend { s with cmd := { s.cmd with romWait := [] } }

/-- What serving a command yields. `wait`: no reply yet; `bg`: the OK reply of a background command; `after`: what
follows once the reply has left. -/
structure Answer where
  status : Status := stOk
  w6 : Option Word := none
  payload : List Word := []
  poison : Bool := false
  bg : Bool := false
  wait : Bool := false
  after : Option After := none
  deriving DecidableEq, Repr

/-- The REPLY to a command (R57). Its TIME is set where it is written to the vat (`State.assignSeq`). -/
def State.replyFrame (s : State) (f : Frame) (a : Answer) : Frame :=
  ({ ftype := ftReply, cls := f.cls, dual := f.dual, session := f.session, poison := a.poison, dstNode := f.srcNode,
     dstPort := f.srcPort, srcNode := f.dstNode, srcPort := 0xFF, time := BitVec.ofNat 32 s.ringNs, opcode := f.opcode,
     tag := f.tag, status := a.status, w6 := a.w6.getD f.w6, w7 := f.w7 } : Frame).withPayload a.payload

/-- Is the destination a broadcast address, or the pair address of a hub that does not serve the pair? Then no reply (R58). -/
def State.silentTo (s : State) (f : Frame) (ordered : Bool) : Bool :=
  isBroadcast f.dstNode || (ordered && !s.servesPair) || (f.dstNode == s.pairNode && s.paired && !s.servesPair)

/-- Is a reply or a completion EVENT still on its way out of the hub? -/
def State.stillHere (s : State) (r : Frame) : Bool :=
  let same := fun (f : Frame) => f.ftype == r.ftype && f.dstNode == r.dstNode && f.dstPort == r.dstPort && f.tag == r.tag &&
    f.opcode == r.opcode && f.session == r.session
  s.cmd.romWait.any same || s.ingress.any (fun x => same x.frame) || s.sw.units.any (fun u => same u.2.frame) || s.pair.heldFrames.any (fun h => same h.2)

/-- An entry of the retry cache: at most 256, the oldest displaced (R67). Its 1 s runs from the instant at which the reply has
left. -/
def State.cachePut (s : State) (f : Frame) (reply : Frame) : State :=
  if (opRow f.opcode).all (fun r => r.retry != .cache) then s else
  let e : CacheEntry := { node := f.srcNode, port := f.srcPort, session := f.session, tag := f.tag, opcode := f.opcode,
                          pair := s.paired && f.dstNode == s.pairNode, reply := reply, leaving := s.stillHere reply,
                          expires := s.now + 1000000000 }
  let l := s.cmd.cache.filter (fun c =>
    !(c.node == e.node && c.port == e.port && c.session == e.session && c.tag == e.tag && c.opcode == e.opcode))
  { s with cmd := { s.cmd with cache := (l.drop (l.length - 255)) ++ [e] } }

/-- Is it a background command whose work is not done (R59)? -/
def Service.working (e : Service) : Bool := e.bg && e.reply.isNone

/-- Take a command out of service. -/
def State.unserve (s : State) (c : Cmd) : State :=
  { s with cmd := { s.cmd with service := s.cmd.service.eraseP (fun x => x.cmd == c) } }

/-- Has the command a REPLY at all (R58, R333)? -/
def State.hasReply (s : State) (c : Cmd) (ordered : Bool) (a : Answer) : Bool :=
  !(c.frame.opcode == ocWritePosted && a.status == stOk) && (c.via == .localLogic || !s.silentTo c.frame ordered)

/-- Where the request ring and the response ring of R354 lie in management SRAM, and the size of a slot. -/
def llRequests : Nat := 0xFD000
def llResponses : Nat := 0xFE200
def llSlot : Nat := 1088

/-- A frame in its slot of a ring: a length word, then the frame from header word 0 through its payload (R354). The length is taken in
bytes, and each ring to have four slots (DESIGN CHOICE, log entry 42). -/
def State.putSlot (s : State) (ring tail : Nat) (f : Frame) : State :=
  let ws := BitVec.ofNat 32 (4 * (f.header ++ f.payload).length) :: (f.header ++ f.payload)
  { s with mgt := { s.mgt with sram := mwrites s.mgt.sram (ring + llSlot * (tail % 4)) (wordsBytes ws) } }

/-- A REPLY goes into the response ring (R354). -/
def State.respond (s : State) (f : Frame) : State :=
  let tail := s.get F.MGT_LL_MBOX_RSP_TAIL
  (s.putSlot llResponses tail f).put F.MGT_LL_MBOX_RSP_TAIL (tail + 1)

/-- Send the REPLY to a command, unless R58 lets it have none. A reply to core B goes into the response ring (R354). -/
def State.reply (s : State) (c : Cmd) (ordered : Bool) (a : Answer) : State :=
  if !s.hasReply c ordered a then s
  else if c.via = .localLogic then s.respond (s.replyFrame c.frame a)
  else s.sendOwn (s.replyFrame c.frame a)

/-- Answer a command that has been accepted: its REPLY, and the cache entry of that. -/
def State.answer (s : State) (c : Cmd) (ordered : Bool) (a : Answer) : State :=
  let t := s.reply c ordered a
  if s.hasReply c ordered a then t.cachePut c.frame (s.replyFrame c.frame a) else t

/-- The work of a command is done; it leaves service once its reply or completion EVENT `r`, if it has one, has left (R63). -/
def State.release (s : State) (c : Cmd) (r : Option Frame) : State :=
  if r.any s.stillHere then
    { s with cmd := { s.cmd with service := s.cmd.service.map (fun x => if x.cmd == c then { x with reply := r } else x) } }
  else s.unserve c

/-- The end of the foreground part of a command: reply, record, and its place in service. -/
def State.finish (s : State) (c : Cmd) (ordered : Bool) (a : Answer) : State :=
  let s := if a.status = stDenied ∨ a.status = stAuthFail then s.noteRefusal c.frame a.status false else s
  let r := if s.hasReply c ordered a then some (s.replyFrame c.frame a) else none
  let s := s.answer c ordered a
  let s := if ordered then s else s.auditCmd c.frame a.status
  let s := match a.after with
    | some x => { s with cmd := { s.cmd with after := s.cmd.after ++ [(s.replyFrame c.frame a, x)] } }
    | none => s
  if a.bg then
    { s with cmd := { s.cmd with service := s.cmd.service.map (fun x => if x.cmd == c then { x with bg := true } else x) } }
  else s.release c r

/-- The completion EVENT of a background command (R59, R485). Its CLASS is the command's (DESIGN CHOICE, log entry 50). -/
def State.complete (s : State) (c : Cmd) (st : Status) (payload : List Word) : State :=
  let f := c.frame
  let e := s.event f.dstNode 0xFF f.srcNode f.srcPort.toNat f.cls.toNat f.dual payload
  let e := { e with opcode := f.opcode, tag := f.tag, session := f.session, status := st }
  if s.cmd.service.any (fun x => x.cmd == c) then (s.sendOwn e).release c (some e) else s

/-! ### Sessions (R37-R44, R450-R455) -/

def State.session? (s : State) (n : BitVec 16) : Option Session := s.cmd.sessions.find? (fun x => x.num == n)

def State.setSession (s : State) (x : Session) : State :=
  { s with cmd := { s.cmd with sessions := s.cmd.sessions.map (fun y => if y.num == x.num then x else y) } }

/-- Sessions that count under R38: those that are not closing. -/
def State.openSessions (s : State) : List Session := s.cmd.sessions.filter (fun x => !x.closing)

/-- A verify whose update is given up ends with a status the spec does not state (log entry 1). -/
def State.dropVerify (s : State) : State :=
  match s.upd.open_.bind (·.verify) with
  | none => s
  | some c =>
    let (n, s) := s.freeIn 0 3
    s.complete c (match n with | 0 => stBadParam | 1 => stAuthFail | 2 => stIncompatible | _ => stUncorrectable) []

/-- The update of a session that closes is abandoned; its target keeps its state (R429). -/
def State.abandonUpdate (s : State) (n : BitVec 16) : State :=
  if s.upd.open_.any (fun u => u.session == n) then
    let s := s.dropVerify
    { s with upd := { s.upd with open_ := none } }
  else s

/-- Sessions that `p` names leave the table, with their timers; their keys stay as long as a command accepted before is to be replied
to under them (R42). -/
def State.dropSessions (s : State) (p : Session → Bool) : State :=
  let xs := s.cmd.sessions.filter p
  let s := s.disarmAll (fun t => xs.any (fun x => t == .sessIdle x.num.toNat || t == .sessUnused x.num.toNat || t == .sessSpent x.num.toNat))
  { s with cmd := { s.cmd with sessions := s.cmd.sessions.filter (fun x => !p x), gone := s.cmd.gone ++ xs } }

/-- Close a session, with its record; cause 1 command, 2 idle, 4 spent. -/
def State.closeSession (s : State) (n : BitVec 16) (cause : Nat) : State :=
  match s.session? n with
  | none => s
  | some x =>
    let s := s.dropSessions (fun y => y.num == n)
    let s := (s.log true 0 0 0 evSessionClose { session := n } [n.setWidth 32, BitVec.ofNat 32 cause]).abandonUpdate n
    if x.pair then s.sessionOrder else s

/-- Start the idle time of a session; IDLE_S = 0: none (R42). -/
def State.armIdle (s : State) (n : BitVec 16) : State :=
  if s.get F.CTL_SESSCFG_IDLE_S = 0 then s.disarm (.sessIdle n.toNat)
  else s.arm (.sessIdle n.toNat) (1000000000 * s.get F.CTL_SESSCFG_IDLE_S)

/-- A command has been accepted under a session. -/
def State.touchSession (s : State) (n : BitVec 16) : State :=
  match s.session? n with
  | none => s
  | some x => ((s.setSession { x with accepted := true, lastAccept := s.now }).disarm (.sessUnused n.toNat)).armIdle n

/-- A session number of 0x0001-0xFFFE that is not in use (R37): which one is free (log entry 1). -/
def State.freeSession (s : State) : BitVec 16 × State :=
  let b := Config.freeNat s.freeIx
  let num := fun i => BitVec.ofNat 16 ((b + i) % 65534 + 1)
  let used := fun n => (s.session? n).isSome || s.cmd.gone.any (fun x => x.num == n)
  let i := ((List.range (s.cmd.sessions.length + s.cmd.gone.length + 1)).find? (fun i => !used (num i))).getD 0
  (num i, { s with freeIx := s.freeIx + 1 })

/-- Do the limits of R38 refuse a SESSION_OPEN? In RECOVERY the ROM holds two sessions (R437). -/
def State.sessionsFull (s : State) (maint : Bool) (rekey : Option Session) : Bool :=
  let all := s.openSessions
  let left := match rekey with
    | some x => if x.maint == maint then all.filter (fun (y : Session) => y.num != x.num) else all
    | none => all
  let same := rekey.any (fun x => x.maint == maint)
  if same then false
  else if s.mode = .recovery then decide (left.length ≥ 2)
  else decide (left.length ≥ 32) || (maint && decide ((left.filter (fun (y : Session) => y.maint)).length ≥ 8))

/-- Does NODE_SCOPE of a credential cover the destination (R450)? -/
def scopeCovers (scope dst : BitVec 24) : Bool :=
  scope == 0xFFFFFF || (isBroadcast scope && (scope >>> 16) == (dst >>> 16)) || scope == dst

/-- Is a credential refused by SEC_CRED_DENY? -/
def State.credDenied (s : State) (id : Word) : Bool :=
  id != 0 && (List.range 16).any (fun i => s.rd .secCredDeny i == id)

/-- Does the record of R450, R451 open a session of the kind asked? -/
def State.exchangeOk (s : State) (f : Frame) (maint : Bool) (x : KeyExchange) : Bool :=
  let w := fun i => f.payload.getD i 0
  if (w 0).bits 31 24 ≠ 1 then false
  else if f.payload.length = 25 then !s.owned && s.mode == .commission
  else f.payload.length == 83 && x.ok && s.ownerOk ((w 0).bits 17 16) && !s.credDenied (w 25) &&
    (w 26).getLsbD (if maint then 1 else 0) && scopeCovers (BitVec.ofNat 24 ((w 26).bits 31 8)) f.dstNode

/-- SESSION_OPEN (R82, R450-R453): the new session, its response record (the hub's key, nonce and signature are free values), and
the session key, a free value too (log entry 5). A session that it rekeys is closing once the reply has left. -/
def State.openSession (s : State) (f : Frame) (x : KeyExchange) : State × Answer :=
  let maint := f.w6.getLsbD 0
  let old := if f.session = 0 then none else s.session? f.session
  if s.sessionsFull maint old then (s, { status := stBusy })
  else if !s.exchangeOk f maint x then (s, { status := stAuthFail })
  else
    let (n, s) := s.freeSession
    let w0 := f.payload.getD 0 0
    let (ws, s) := s.freshWords 40
    let (key, s) := s.freshWords 8
    let sess : Session :=
      { num := n, maint := maint, pair := s.paired && f.dstNode == s.pairNode, cred := f.payload.length == 83,
        keyIndex := w0.bits 17 16, peerHash := x.peerHash, lastAccept := s.now, key := key,
        base := s.sw.seqs }
    let s := { s with cmd := { s.cmd with sessions := s.cmd.sessions ++ [sess] } }
    let s := s.armIdle n
    let s := s.log true 0 0 0 evSessionOpen { whoOf f stOk with session := n }
      [n.setWidth 32, BitVec.ofNat 32 (bit maint), x.peerHash.getD 0 0, x.peerHash.getD 1 0]
    let s := if sess.pair then s.sessionOrder else s
    (s, { w6 := some (n.setWidth 32), payload := (((0x01000000 : Word) ||| n.setWidth 32) :: ws),
          after := some (.opened n (old.map (·.num))) })

/-- The cause under which a session that lapses is logged (R42): 4 when it is spent, else 2. -/
def State.lapseCause (s : State) (n : BitVec 16) : Nat := if (s.session? n).any (·.spent) then 4 else 2

/-- Is session `n` a pair session on a hub that does not serve the pair? The active ends it, by a SESSION order (R333); after a
takeover its time goes on (R44). -/
def State.ledSession (s : State) (n : BitVec 16) : Bool := (s.session? n).any (·.pair) && !s.servesPair

/-- SESSION_IDLE_EXPIRE, SESSION_UNUSED_EXPIRE, SPENT_CLOSE_EXPIRE. -/
def State.sessIdle (s : State) (n : BitVec 16) : State :=
  if s.ledSession n then s else
  match s.expire (.sessIdle n.toNat) with | none => s | some s => s.closeSession n (s.lapseCause n)
def State.sessUnused (s : State) (n : BitVec 16) : State :=
  if s.ledSession n then s else
  match s.expire (.sessUnused n.toNat) with | none => s | some s => s.closeSession n (s.lapseCause n)
def State.sessSpent (s : State) (n : BitVec 16) : State :=
  if s.ledSession n then s else
  match s.expire (.sessSpent n.toNat) with | none => s | some s => s.closeSession n 4

/-- The reply to the SESSION_OPEN of session `n` has left: from here it has 60 s to accept its first command (R42). -/
def State.sessionOpened (s : State) (n : BitVec 16) : State :=
  if (s.session? n).any (fun x => !x.accepted) then s.arm (.sessUnused n.toNat) 60000000000 else s

/-- The reply to a SESSION_OPEN that rekeys session `n` has left: `n` is closing (R453). -/
def State.sessionClosing (s : State) (n : BitVec 16) : State :=
  match s.session? n with
  | none => s
  | some x => (s.setSession { x with closing := true }).disarmAll (fun t => t == .sessIdle n.toNat || t == .sessUnused n.toNat)

/-- REKEY_CLOSE (R453): a closing session without a command in service closes. -/
def State.rekeyClose (s : State) (n : BitVec 16) : State :=
  if (s.session? n).any (·.closing) && !s.cmd.service.any (fun x => x.cmd.frame.session == n) then s.closeSession n 1 else s

/-- SEQ values left to a session in its least-headroom stream (R455). -/
def State.headroom (s : State) (x : Session) : Nat :=
  x.streams.foldl (fun h k => min h (65536 - (tget 0 s.sw.seqs k - tget 0 x.base k))) 65536

/-- A key is set: its eight words are not all zero (SEC_KEYSTAT). -/
def State.keySet (s : State) (r : Reg) : Bool := (List.range 8).any (fun i => s.rd r i != 0)

/-! ### Rights (R39, R41, R44, R71) -/

/-- Under which rights a command is served. -/
inductive Rights where
  | none | operate | maintain
  deriving DecidableEq, Repr

/-- For which of its addresses the hub takes a command. -/
inductive Target where
  | own | pair | broadcast
  deriving DecidableEq, Repr

/-- Is the command for this hub (R14, R21, R56, R437; by the broadcast address of a segment that a spur port faces, R119)? Commands of core B are for its own hub (R354). -/
def State.target (s : State) (c : Cmd) : Option Target :=
  let f := c.frame
  if c.via = .localLogic then some .own
  else if f.ftype ≠ ftCommand ∨ (c.via = .ring ∧ !s.addressed) then none
  else if s.mode = .recovery then (if f.dstPort = 0xFF ∧ f.dstNode = s.ownNode then some .own else none)
  else if f.dstPort ≠ 0xFF ∧ f.dstPort ≠ 122 then none
  else if f.dstNode = s.ownNode then some .own
  else if s.paired && f.dstNode == s.pairNode then (if s.servesPair then some .pair else none)
  else if s.broadcastHere f.dstNode || (c.via == .ring && s.spurBroadcast f.dstNode) then some .broadcast
  else none

def State.openOperate (s : State) : Bool := s.is F.CTL_SECCFG_OPEN_OPERATE

/-- Step 1 of R46: the rights, or `none` for AUTH_FAIL. A pair session serves the pair address, any other the own address (R44). -/
def State.rights (s : State) (c : Cmd) (t : Target) : Option Rights :=
  let f := c.frame
  if c.via = .localLogic then some .operate
  else if t = .broadcast then
    if f.session = 0 then some (if s.openOperate then .operate else .none)
    else if f.session = 0xFFFF ∧ c.authOk ∧ s.keySet .secBkey then some .operate else none
  else if f.session = 0 then some (if s.openOperate then .operate else .none)
  else match s.session? f.session with
    | none => none
    | some x =>
      if c.authOk && !x.spent && !x.closing && x.pair == (t == .pair) then some (if x.maint then .maintain else .operate)
      else none

/-- Opcodes that need a MAINTAIN session (R39). -/
def maintOp (op : BitVec 8) : Bool :=
  [0x30, 0x3A, 0x28, 0x29, 0x50, 0x51, 0x52, 0x60, 0x40, 0x41, 0x42, 0x43, 0x44, 0x45, 0x46, 0x7F].contains op.toNat

/-- Opcodes that a broadcast may carry (R71). -/
def broadcastOp (op : BitVec 8) : Bool := [0x03, 0x18, 0x19, 0x1A, 0x39, 0x7E].contains op.toNat

/-- Opcodes that a hub of a pair takes at the pair address only (R22). -/
def pairOnlyOp (op : BitVec 8) : Bool := [0x10, 0x11, 0x12, 0x18, 0x19].contains op.toNat

/-- Step 3 of R46: R39, R71 (a broadcast under no session is for a hub with OPEN_OPERATE only), R22 and the last row of R429. -/
def State.allowed (s : State) (c : Cmd) (t : Target) (r : Rights) : Bool :=
  let op := c.frame.opcode
  if t = .broadcast ∧ r = .none then false
  else if op = ocEcho ∨ op = ocSessionOpen then true
  else if op = 0x21 then c.frame.session != 0 && c.via != .localLogic && t != .broadcast
  else if maintOp op && r != .maintain then false
  else if r = .none then false
  else if t = .own ∧ s.paired ∧ pairOnlyOp op then false
  else if t = .pair ∧ 0x40 ≤ op.toNat ∧ op.toNat ≤ 0x46 then false
  else true

end Sys2Proof.Machine
end

