-- ==== Sys2Proof/Machine/SecOps.lean ====
section
/-!
DEFINITION. Ownership, debug unlock and the session view of the SEC block (spec/20_security_functions.md,
R448, R449, R455, R460, R461).
-/
namespace Sys2Proof.Machine

/-- The session of a register write that a row of the table makes without naming one: the MAINTAIN session that last had a
command accepted. -/
def State.lastMaint (s : State) : Option Session :=
  s.cmd.sessions.foldl (fun (b : Option Session) (x : Session) =>
    if !x.maint || x.closing then b else match b with
    | none => some x
    | some y => if y.lastAccept ≤ x.lastAccept then some x else b) none

/-- Is the session's credential signed by a burnt, unrevoked slot? -/
def State.credOk (s : State) (x : Option Session) : Bool := x.any (fun x => x.cred && s.ownerOk x.keyIndex)

/-- Does the write of SEC_OWNER_CTL with BURN = 1 or REVOKE = 1 pass (R448, R449)? -/
def State.ownerCheck (s : State) (x : Option Session) (w : Word) : Status :=
  let k := w.bits 9 8
  let burn := w.getLsbD 0
  let revoke := w.getLsbD 1
  if burn && revoke then stBadParam
  else if !burn && !revoke then stOk
  else if w.bits 31 16 ≠ 0x5A0C then stBadParam
  else if s.mode ≠ .commission then stNotInMode
  else if s.sec.otp.isSome then stBusy
  else if burn then
    if (tfind s.sec.owner k).isSome then stBadParam else if s.owned && !s.credOk x then stDenied else stOk
  else if (tfind s.sec.owner k).isNone || s.sec.revoked.contains k then stBadParam
  else if !s.credOk x || x.any (fun x => x.keyIndex == k) then stDenied
  else if (([0, 1, 2, 3] : List Nat).any (fun j => j != k && s.ownerOk j)) = false then stDenied
  else stOk

/-- The effect of that write: the operation starts, with the hash that is staged. -/
def State.ownerStart (s : State) (w : Word) : State :=
  if !w.getLsbD 0 && !w.getLsbD 1 then s else
  let hash := (List.range 12).map (fun i => s.rd .secOwnerHash i)
  { s with sec := { s.sec with otp := some (w.bits 9 8, w.getLsbD 1, hash) } }

/-- OTP_OPERATION_DONE: the read-back shows what was burnt, or does not. -/
def State.otpDone (s : State) (ok : Bool) : State :=
  match s.sec.otp with
  | none => s
  | some (k, revoke, hash) =>
    let s := ({ s with sec := { s.sec with otp := none } }).put F.SEC_STAT_OTP_ERR (bit !ok)
    if !revoke then
      { s with sec := { s.sec with owner := tset s.sec.owner k hash,
                                   badSlots := if ok then s.sec.badSlots else s.sec.badSlots ++ [k] } }
    else if !ok then s
    else
      let s := { s with sec := { s.sec with revoked := s.sec.revoked ++ [k] } }
      (s.cmd.sessions.filter (fun x => x.cred && x.keyIndex == k)).foldl (fun s x => s.closeSession x.num 1) s

/-- Does a write of SEC_DBG_CTL with UNLOCK = 1 pass (R460)? -/
def State.unlockCheck (s : State) : Status :=
  if s.mode ≠ .commission then stNotInMode
  else if s.is F.SEC_DBG_STAT_LOCKOUT || s.sec.unlock.isSome then stBusy
  else stOk

/-- An attempt starts. -/
def State.unlockStart (s : State) (k : Nat) : State :=
  ({ s with sec := { s.sec with unlock := some k } }).raise 0xA1

/-- UNLOCK_CHECK_DONE: the result, the record and a new challenge. Record word 6 is the number of the attempt among the failed
ones, word 7 is 1 for success. -/
def State.unlockDone (s : State) (tokenOk : Bool) : State :=
  match s.sec.unlock with
  | none => s
  | some k =>
    let ok := tokenOk && s.ownerOk k
    let s := { s with sec := { s.sec with unlock := none } }
    let n := s.get F.SEC_DBG_STAT_FAILS
    let s := if ok then s.put F.SEC_STAT_DEBUG_OPEN 1
      else
        let s := s.sat F.SEC_DBG_STAT_FAILS
        if s.get F.SEC_DBG_STAT_FAILS ≥ 3 then s.put F.SEC_DBG_STAT_LOCKOUT 1 else s
    (s.log true 0 0 0 evDebug {} [BitVec.ofNat 32 (n + 1), BitVec.ofNat 32 (bit ok)]).drawChallenge

/-! ### The IEEE 1149.1 port (R459). No row of the table shifts it: what follows says what a load of its instruction does (log entry
49). -/

/-- IDCODE: version 0x1, part 0x0960, manufacturer code 0x2F3 (spec/21_balls_supplies_and_package.md). -/
def tapIdcode : Word := 0x109605E7

/-- The instructions of boundary scan, which always remains available. -/
def TapInstr.boundary : TapInstr → Bool
  | .bypass | .idcode | .samplePreload | .extest => true
  | .coreDebug | .memoryAccess | .internalScan | .manufacturingTest => false

/-- Does the port serve the instruction: with DEBUG_LOCKED = 1, and debug not opened by a token (R460), boundary scan only? -/
def State.tapServes (s : State) (i : TapInstr) : Bool := i.boundary || !s.sec.debugLocked || s.is F.SEC_STAT_DEBUG_OPEN

/-- The instruction in effect: one that has been closed since it was loaded acts as BYPASS. -/
def State.tapNow (s : State) : TapInstr := if s.tapServes s.sec.tap then s.sec.tap else .bypass

/-- Load an instruction; a closed one selects BYPASS. -/
def State.tapLoad (s : State) (i : TapInstr) : State :=
  { s with sec := { s.sec with tap := if s.tapServes i then i else .bypass } }

/-- SEC_STAT, SEC_DBG_STAT, SEC_OWNER_STAT and SEC_SESS_INFO as they read. -/
def State.secStatWord (s : State) : Word := (s.rd .secStat).setBits 0 0 (bit s.sec.otp.isSome)
def State.dbgStatWord (s : State) : Word := (s.rd .secDbgStat).setBits 3 3 (bit s.sec.unlock.isSome)
def State.ownerStatWord (s : State) : Word :=
  let bits := fun (p : Nat → Bool) => [0, 1, 2, 3].foldl (fun (n k : Nat) => if p k then n + 2 ^ k else n) 0
  ((0 : Word).setBits 7 4 (bits s.sec.revoked.contains)).setBits 3 0 (bits (fun k => (tfind s.sec.owner k).isSome))
def State.sessInfoWord (s : State) : Word :=
  match s.session? (BitVec.ofNat 16 (s.get F.SEC_SESS_SEL_SESSION)) with
  | none => 0
  | some x =>
    let w := ((0 : Word).setBits 31 31 1).setBits 30 30 (bit x.maint)
    let w := ((w.setBits 29 29 (bit x.spent)).setBits 28 28 (bit x.closing)).setBits 27 26 x.keyIndex
    w.setBits 16 0 (s.headroom x)

end Sys2Proof.Machine
end

