-- ==== Sys2Proof/Machine/UpdateOps.lean ====
section
/-!
DEFINITION. Firmware update, relay and profile images (spec/19_firmware_update.md, R425-R441; R414-R416 of
spec/18_modes_start_and_profiles.md).
-/
namespace Sys2Proof.Machine

/-! ### Headers (R426) -/

/-- A big-endian number of `n` bytes at offset `o`. -/
def beAt (b : Nat → Nat) (o n : Nat) : Nat := (List.range n).foldl (fun v i => 256 * v + b (o + i)) 0

/-- The header fields of an image. -/
def headOf (b : Nat → Nat) : ImgHead :=
  { kind := beAt b 6 1, target := beAt b 7 1, length := beAt b 8 4, version := BitVec.ofNat 32 (beAt b 12 4),
    rollback := beAt b 0x10 1, keyIndex := beAt b 0x11 1, stepMask := beAt b 0x44 2, romMin := beAt b 0x46 2,
    profileFmt := beAt b 0x48 2, ringVer := beAt b 0x4A 2,
    pairVec := (List.range 8).map (fun i => BitVec.ofNat 32 (beAt b (0x4C + 4 * i) 4)) }

/-- The check of R430 on MAGIC, FORMAT and LENGTH (a KIND or TARGET that R426 does not list has no place and no bound). -/
def headFormOk (b : Nat → Nat) (length : Nat) : Bool :=
  let h := headOf b
  beAt b 0 4 == 0x5344494D && beAt b 4 2 == 1 && h.length == length && h.length % 4 == 0 && decide (h.length ≥ 352) &&
  ((h.kind == 1 && decide (h.length ≤ 0x800000)) ||
   (h.kind == 2 && decide (h.target < 4) && decide (h.length ≤ 0x100000 + 352)))

/-- The checks of R430 that give INCOMPATIBLE at BEGIN. -/
def State.headCompatible (s : State) (h : ImgHead) : Bool :=
  h.stepMask % 2 == 1 && decide (h.romMin ≤ 1) && h.ringVer == 0x2001 && decide (h.rollback ≥ s.sec.count)

/-- The bytes of words, by offset; beyond them zero. -/
def wordByte (ws : List Word) (i : Nat) : Nat := (ws.getD (i / 4) 0).toNat / 256 ^ (3 - i % 4) % 256

/-- A byte of a target as it reads back; one never programmed reads erased. -/
def Slot.byte (x : Slot) (i : Nat) : Nat := (tget (0xFF : Byte) x.cells i).toNat

/-! ### The open update (R428, R429) -/

/-- The slot of firmware that an update writes (R428, R437). -/
def State.updateSlot (s : State) : Nat :=
  if s.mode = .recovery then
    let held := fun t => s.slotState t == slGood || s.slotState t == slTrial
    if held 0 && !held 1 then 1 else 0
  else 1 - s.runSlot

/-- Is other update work in the way (R429)? -/
def State.updateBusy (s : State) : Bool := s.upd.open_.isSome || s.upd.pull.isSome || s.upd.storing.isSome

/-- Does the hub run an unconfirmed TRIAL slot? -/
def State.onTrial (s : State) : Bool := s.mode != .recovery && s.runTrial

/-- The target of an update becomes INCOMPLETE and its erase begins. -/
def State.openTarget (s : State) (h : ImgHead) : State :=
  if h.kind = 1 then s.setSlotState s.updateSlot slIncomplete 0x40 stOk |>.setSlot s.updateSlot { state := slIncomplete, head := h }
  else
    let s := { s with profiles := tset s.profiles h.target { tget ({} : Profile) s.profiles h.target with valid := false } }
    { s with upd := { s.upd with prof := { state := slIncomplete, head := h } } }

/-- The reply word of UPDATE_BEGIN (R427). -/
def State.beginWord (s : State) (h : ImgHead) : Word :=
  let w := ((0 : Word).setBits 10 8 (s.slotState 0)).setBits 14 12 (s.slotState 1)
  if h.kind = 1 then w.setBits 0 0 s.updateSlot else w.setBits 17 16 h.target

/-- UPDATE_BEGIN. -/
def State.updateBegin (s : State) (f : Frame) : State × Status × Word :=
  let b := wordByte f.payload
  let h := headOf b
  if s.updateBusy then (s, stBusy, 0)
  else if f.payload.length ≠ 64 ∨ !headFormOk b f.w6.toNat then (s, stBadParam, 0)
  else if h.kind = 1 ∧ s.onTrial then (s, stBusy, 0)
  else if h.kind = 2 ∧ !s.boot.noProfile ∧ s.get F.CTL_STATE_ACTIVE_PROF = h.target then (s, stBusy, 0)
  else if !s.headCompatible h then (s, stIncompatible, 0)
  else
    let s := s.openTarget h
    let t := if h.kind = 1 then s.updateSlot else h.target
    let u : Update := { session := f.session, kind := h.kind, target := t, length := h.length, erasing := true }
    let s := { s with upd := { s.upd with open_ := some u } }
    (s.disarm .recoveryPull, stOk, s.beginWord h)

/-- The target of the open update. -/
def State.updTarget (s : State) (u : Update) : Slot := if u.kind = 1 then s.slot u.target else s.upd.prof
def State.setUpdTarget (s : State) (u : Update) (x : Slot) : State :=
  if u.kind = 1 then s.setSlot u.target x else { s with upd := { s.upd with prof := x } }
def State.setUpdate (s : State) (u : Update) : State := { s with upd := { s.upd with open_ := some u } }

/-- Are all bytes of the target programmed? -/
def programmed (x : Slot) (length : Nat) : Bool := decide ((x.cells.filter (fun c => decide (c.1 < length))).length ≥ length)

/-- Program words at an offset. -/
def programAt (x : Slot) (off : Nat) (ws : List Word) : Slot :=
  { x with cells := (List.range (4 * ws.length)).foldl (fun (t : Tab Byte) i =>
      tset t (off + i) (BitVec.ofNat 8 (wordByte ws i))) x.cells }

/-- Would programming change a byte that is already programmed? -/
def clashes (x : Slot) (off : Nat) (ws : List Word) : Bool :=
  (List.range (4 * ws.length)).any (fun i => match tfind x.cells (off + i) with
    | some b => b.toNat != wordByte ws i
    | none => false)

/-- UPDATE_BLOCK; `readOk`: the read-back equals what was written; if not, what the target holds is free (log entry 1). With no
update open it gives BAD_PARAM, as UPDATE_VERIFY does, and during the verify of the open update BUSY (DESIGN CHOICE for both, log
entry 43). -/
def State.updateBlock (s : State) (f : Frame) (readOk : Bool) : State × Status :=
  match s.upd.open_ with
  | none => (s, stBadParam)
  | some u =>
    let off := f.w6.toNat
    let x := s.updTarget u
    if u.session ≠ f.session ∨ u.erasing ∨ u.verify.isSome then (s, stBusy)
    else if off % 4 ≠ 0 ∨ off + 4 * f.payload.length > u.length then (s, stBadParam)
    else if clashes x off f.payload then (s, stBadParam)
    else if readOk then (s.setUpdTarget u (programAt x off f.payload), stOk)
    else
      let (ws, s) := s.freshWords f.payload.length
      (s.setUpdTarget u (programAt x off ws), stUncorrectable)

/-- ERASE_COMPLETE of an open update. -/
def State.eraseDone (s : State) : State :=
  match s.upd.open_ with
  | some u => if u.erasing then s.setUpdate { u with erasing := false } else s
  | none => s

/-- UPDATE_VERIFY is accepted: the entry UNVERIFIED once every byte is programmed. -/
def State.verifyStart (s : State) (u : Update) (c : Option Cmd) : State :=
  let x := s.updTarget u
  let s := if programmed x u.length && x.state == slIncomplete then
      (s.setUpdTarget u { x with state := slUnverified }).logUpdate 0x42 (if u.kind = 1 then u.target else 0) stOk
    else s
  s.setUpdate { u with verify := c }

/-- The outcome of a verify (R428, R430), in the order written, hash and signature last. -/
def State.verifyStatus (s : State) (x : Slot) (length : Nat) (r : VerifyResult) : Status :=
  let h := headOf x.byte
  if !programmed x length then stBadParam
  else if !r.readOk then stUncorrectable
  else if h.rollback < s.sec.count then stIncompatible
  else if !s.keyOk h.keyIndex || !r.sigOk then stAuthFail
  else stOk

/-- The target of a verify that ends well is VERIFIED. -/
def State.verified (s : State) (u : Update) (r : VerifyResult) : State :=
  let x := s.updTarget u
  let y : Slot :=
    { x with state := slVerified, head := headOf x.byte, inner := r.innerOk, ll := r.llOk, keys := r.keysOk }
  (s.setUpdTarget u y).logUpdate 0x42 (if u.kind = 1 then u.target else 0) stOk

/-! ### Profile images (R414, R415) -/

/-- The big-endian words from offset `o` to `e`. -/
def wordsAt (b : Nat → Nat) (o e : Nat) : List Word :=
  (List.range ((e - o) / 4)).map (fun i => BitVec.ofNat 32 (beAt b (o + 4 * i) 4))

/-- The register records of a profile: offset, COUNT, values; a local-logic image (it opens with the MAGIC of R426) ends them. -/
def parseRecords : Nat → List Word → Tab Word → Tab Word
  | 0, _, t => t
  | fuel + 1, ws, t => match ws with
    | off :: n :: rest =>
      if off = 0x5344494D ∨ n.toNat = 0 ∨ n.toNat > 256 then t else
      let t := ((rest.take n.toNat).zipIdx).foldl (fun (t : Tab Word) (e : Word × Nat) => tset t (off.toNat + 4 * e.2) e.1) t
      parseRecords fuel (rest.drop n.toNat) t
    | _ => t

/-- Header and CRC checks of R415 for profile `p`; `b` reads the profile's bytes. -/
def profileFormOk (b : Nat → Nat) (p : Nat) : Bool :=
  let len := beAt b 8 4
  let flags := b 7
  let bytes := (List.range len).map (fun i => (BitVec.ofNat 8 (if 12 ≤ i ∧ i < 16 then 0 else b i) : Byte))
  beAt b 0 4 == 0x5346504C && beAt b 4 2 == 1 && b 6 == p && decide (flags < 8) && (flags % 2 == 0 || flags / 4 % 2 == 1) &&
  decide (len ≥ 0x40) && decide (len ≤ 0x100000 - 96) && (decide (b 0x14 < 4) || b 0x14 == 0xF) &&
  (List.range 34).all (fun i => b (0x1E + i) == 0) && (crc32 bytes).toNat == beAt b 12 4

/-- Is a local offset that of a stored key (R447)? -/
def isKeyOffset (off : Nat) : Bool := match locate off with
  | some (r, _, _) => r == .secBkey || r == .secPkey
  | none => false

/-- The profile that an image holds (R414), its body at byte 0x100. Key records are wrapped: unwrapped they are free words, or
nothing when they fail to unwrap (R447). -/
def State.profileOf (s : State) (x : Slot) : State × Profile :=
  let b := fun i => x.byte (0x100 + i)
  let len := beAt b 8 4
  let recs := parseRecords len (wordsAt b 0x40 len) []
  let plain := recs.filter (fun e => !isKeyOffset e.1)
  let keys := if x.keys then recs.filter (fun e => isKeyOffset e.1) else []
  let (ws, s) := s.freshWords keys.length
  let recs := (keys.zip ws).foldl (fun (t : Tab Word) (e : (Nat × Word) × Word) => tset t e.1.1 e.2) plain
  let signed := b 7 / 4 % 2 == 1
  (s, { valid := profileFormOk b x.head.target && (!signed || x.inner), localLogic := b 7 % 2 == 1,
        sleepEn := b 7 / 2 % 2 == 1, signed := signed, storeCount := beAt b 0x10 4, commPort := b 0x14,
        dualMask := BitVec.ofNat 8 (b 0x15), subsys := BitVec.ofNat 32 (beAt b 0x16 4),
        compat := BitVec.ofNat 32 (beAt b 0x1A 4), records := recs, llOk := x.ll })

/-- PROFILE_STORE_DONE (R416): the staged records, the header settings of the active profile. -/
def State.storeDone (s : State) : State :=
  match s.upd.storing with
  | none => s
  | some (c, p, recs) =>
    let a := s.profile
    let new : Profile :=
      { valid := true, localLogic := false, sleepEn := a.sleepEn, signed := false,
        storeCount := (tget ({} : Profile) s.profiles p).storeCount + 1, commPort := a.commPort, dualMask := a.dualMask,
        subsys := a.subsys, compat := s.compatCrc, records := recs }
    let s := { s with profiles := tset s.profiles p new, upd := { s.upd with storing := none } }
    s.complete c stOk []

/-! ### ACTIVATE, CONFIRM, ABORT (R428) -/

/-- ACTIVATE checks of R430 for firmware. -/
def State.activateOk (s : State) (h : ImgHead) : Bool :=
  (h.profileFmt % 2 == 1 || !s.profiles.any (fun e => e.2.valid)) &&
  (!s.paired || s.mode == .commission || h.pairVec == (s.slot s.runSlot).head.pairVec)

/-- The entry that makes slot `t` TRIAL. -/
def State.activateSlot (s : State) (t : Nat) : State :=
  let s := s.setSlot t { s.slot t with state := slTrial }
  { s with upd := { s.upd with trialCnt := 0, prev := if s.mode = .recovery then none else some s.runSlot } }

/-- UPDATE_ACTIVATE. In RECOVERY the CMD reset follows the reply (R437). -/
def State.updateActivate (s : State) (session : BitVec 16) : State × Status :=
  match s.upd.open_ with
  | some u =>
    let x := s.updTarget u
    if u.session ≠ session then (s, stBusy)
    else if x.state ≠ slVerified then (s, stBadParam)
    else if u.kind = 1 then
      if !s.activateOk x.head then (s, stIncompatible)
      else
        let s := { s with upd := { s.upd with open_ := none } }
        (s.activateSlot u.target, stOk)
    else
      let (s', p) := s.profileOf x
      if !p.valid then (s, stBadParam)
      else ({ s' with profiles := tset s'.profiles u.target p, upd := { s'.upd with open_ := none } }, stOk)
  | none =>
    let t := s.updateSlot
    if s.slotState t ≠ slVerified then (s, stBadParam)
    else if !s.activateOk (s.slot t).head then (s, stIncompatible)
    else (s.activateSlot t, stOk)

/-- UPDATE_CONFIRM. -/
def State.updateConfirm (s : State) : State :=
  if !s.runTrial then s else
  let t := s.runSlot
  let s := (s.setSlot t { s.slot t with state := slGood }).put F.CTL_FWSLOT_TRIAL 0
  let s := { s with upd := { s.upd with bootSlot := t }
                    sec := { s.sec with count := max s.sec.count (s.slot t).head.rollback } }
  let o := 1 - t
  if s.slotState o = slGood ∧ (s.slot o).head.rollback < s.sec.count then s.setSlotState o slRevoked 0x44 stOk else s

/-- UPDATE_ABORT. -/
def State.updateAbort (s : State) (session : BitVec 16) : State × Status :=
  match s.upd.open_ with
  | some u =>
    if u.session ≠ session then (s, stBusy) else
    let x := s.updTarget u
    let s := s.dropVerify
    let s := if x.state < slVerified then s.setUpdTarget u { x with state := slEmpty } else s
    ({ s with upd := { s.upd with open_ := none } }, stOk)
  | none => (if s.runTrial then { s with upd := { s.upd with trialCnt := 3 } } else s, stOk)

/-! ### Relay (R438-R441) -/

/-- An UPDATE frame (R438). -/
def State.relayFrame (s : State) (l : Nat) (ws : List Word) : Frame :=
  ({ ftype := ftUpdate, cls := 2, dual := false, hop := 0, dstNode := 0, dstPort := 0xFF,
     srcNode := if s.addressed then s.ownNode else 0, srcPort := BitVec.ofNat 8 l, opcode := ocUpdateRelay,
     time := BitVec.ofNat 32 s.ringNs } : Frame).withPayload ws

/-- Send it: on a lane in service, or through a tap of the ROM. -/
def State.relaySend (s : State) (l : Nat) (ws : List Word) : State :=
  if s.laneUp l || (s.mode == .recovery && s.lst l == lsRepeat) then s.transmit l (s.relayFrame l ws) rindGood else s

/-- Chunk size of a DATA frame. -/
def chunkBytes : Nat := 1008

/-- A REQ for `n` chunks from byte `off`. -/
def State.relayReq (s : State) (p : Pull) (off n : Nat) : State :=
  let w0 := ((0 : Word).setBits 31 24 1).setBits 16 16 p.slot
  (s.relaySend p.lane [w0, s.rd .lnkNbr2 p.lane, BitVec.ofNat 32 off, BitVec.ofNat 32 n]).arm .relayWindow 20000000

def State.setPull (s : State) (p : Option Pull) : State := { s with upd := { s.upd with pull := p } }

/-- The lane on which a source node lies (R439). -/
def State.relayLane (s : State) (node : BitVec 24) : Option Nat :=
  [0, 1].find? (fun l => s.laneUp l && s.is F.LNK_STATE_NBR_VALID l && s.get F.LNK_NBR0_NODE l == node.toNat && node != 0)

/-- A pull begins: chunk 0 is requested. -/
def State.startPull (s : State) (p : Pull) : State := ((s.setPull (some p)).relayReq p 0 1).arm .relayProgress 1000000000

/-- The window that is wanted: its first missing chunk and how many follow it, at most 16 in a window. -/
def windowLeft (p : Pull) (length : Nat) : Nat × Nat :=
  let total := (length + chunkBytes - 1) / chunkBytes
  let first := p.base / chunkBytes
  let last := min total (first + 16)
  let miss := ((List.range (last - first)).map (first + ·)).filter (fun i => !p.got.contains i)
  match miss with | [] => (last, 0) | i :: _ => (i, last - i)

/-- Length of the image that is pulled. -/
def State.pullLength (s : State) : Nat := (s.slot s.updateSlot).head.length

/-- The ROM's next attempt: the other neighbour, or the next period (R441). The slot it asks for is free (log entry 1). -/
def State.romPull (s : State) (lanes : List Nat) : State :=
  match lanes.find? (fun l => s.is F.LNK_STATE_NBR_VALID l) with
  | none => s
  | some l =>
    let (b, s) := s.freeIn 0 1
    s.startPull { lane := l, slot := b }

/-- The end of a pull. -/
def State.pullEnd (s : State) (p : Pull) (st : Status) : State :=
  let s := ((s.setPull none).disarm .relayWindow).disarm .relayProgress
  match p.cmd with
  | some c => s.complete c st []
  | none =>
    if st = stOk then
      let s := s.activateSlot s.updateSlot
      { s with upd := { s.upd with rolled := s.upd.rolled ++ [s.updateSlot] } }.chipReset .cmd
    else if p.lane = 0 then s.romPull [1] else s

/-- UPDATE_RELAY is accepted, or its refusal. -/
def State.updateRelay (s : State) (c : Cmd) : State × Status :=
  let node := BitVec.ofNat 24 (c.frame.w6.bits 23 0)
  if s.updateBusy || s.onTrial then (s, stBusy) else
  match s.relayLane node with
  | none => (s, stBadParam)
  | some l => (s.startPull { cmd := some c, node := node, lane := l, slot := c.frame.w7.bits 0 0 }, stOk)

/-- DATA of chunk 0: the header checks of R439 step 2, and the erase. A header that is no image is taken as INCOMPATIBLE. -/
def State.pullHeader (s : State) (p : Pull) (ws body : List Word) : State :=
  let b := wordByte body
  let h := headOf b
  if !headFormOk b (ws.getD 3 0).toNat || h.kind ≠ 1 || !s.headCompatible h then s.pullEnd p stIncompatible
  else
    let s := ((s.openTarget h).disarm .relayWindow).disarm .relayProgress
    s.setPull (some { p with stage := 1, chunk0 := wordsBytes body })

/-- After a chunk of the window: the next window, or the verify. -/
def State.pullNext (s : State) (p : Pull) : State :=
  let len := s.pullLength
  let (at_, n) := windowLeft p len
  if n > 0 then s.setPull (some p)
  else if at_ * chunkBytes ≥ len then
    let x := s.slot s.updateSlot
    let s := (s.setSlot s.updateSlot { x with state := slUnverified }).logUpdate 0x45 s.updateSlot stOk
    ((s.setPull (some { p with stage := 3 })).disarm .relayWindow).disarm .relayProgress
  else
    let q := { p with base := at_ * chunkBytes, got := [] }
    (s.setPull (some q)).relayReq q q.base (windowLeft q len).2

/-- ERASE_COMPLETE of a relay: chunk 0 is programmed and the first window is asked for. -/
def State.pullErased (s : State) : State :=
  match s.upd.pull with
  | none => s
  | some p =>
    if p.stage ≠ 1 then s else
    let s := s.setSlot s.updateSlot (programAt (s.slot s.updateSlot) 0 (bytesWords p.chunk0))
    let q := { p with stage := 2, base := 0, got := [0], chunk0 := [] }
    let (at_, n) := windowLeft q s.pullLength
    if n = 0 then s.pullNext q
    else ((s.setPull (some q)).relayReq q (at_ * chunkBytes) n).arm .relayProgress 1000000000

/-- Is an UPDATE frame for this hub (R438)? Any other is discarded and counted. -/
def State.relayForMe (s : State) (ws : List Word) : Bool := ws.getD 1 0 == s.rd .ctlUid 0

/-- DATA received. -/
def State.relayData (s : State) (l : Nat) (ws : List Word) (good : Bool) : State :=
  if !good || !s.relayForMe ws then s.bump .lnkCnt l 4 else
  match s.upd.pull with
  | none => s
  | some p =>
    let off := (ws.getD 2 0).toNat
    let body := ws.drop 4
    if p.lane ≠ l then s
    else if p.stage = 0 then (if off = 0 then s.pullHeader p ws body else s)
    else if p.stage ≠ 2 ∨ off % chunkBytes ≠ 0 then s
    else
      let i := off / chunkBytes
      let len := s.pullLength
      if p.got.contains i || decide (i < p.base / chunkBytes) || decide (i ≥ p.base / chunkBytes + 16) ||
          decide (4 * body.length < min chunkBytes (len - off)) then s
      else
        let ws' := body.take ((min chunkBytes (len - off) + 3) / 4)
        let s := s.setSlot s.updateSlot (programAt (s.slot s.updateSlot) off ws')
        (s.arm .relayProgress 1000000000).pullNext { p with got := p.got ++ [i] }

/-- REFUSE received. A status that R61 does not list stands for a failure of unknown cause: which code the completion EVENT carries is
free. -/
def State.relayRefuse (s : State) (l : Nat) (ws : List Word) : State :=
  if !s.relayForMe ws then s.bump .lnkCnt l 4 else
  match s.upd.pull with
  | some p =>
    if p.lane ≠ l then s else
    let st := (ws.getD 0 0).bits 7 0
    if st < 16 then s.pullEnd p (BitVec.ofNat 8 st)
    else
      let (n, s) := s.freeIn 1 15
      s.pullEnd p (BitVec.ofNat 8 n)
  | none => s

/-- RELAY_WINDOW_TIMEOUT. -/
def State.relayWindowEnd (s : State) : State :=
  match s.expire .relayWindow with
  | none => s
  | some s => match s.upd.pull with
    | none => s
    | some p =>
      if p.stage = 0 then s.relayReq p 0 1
      else if p.stage = 2 then
        let (at_, n) := windowLeft p s.pullLength
        s.relayReq p (at_ * chunkBytes) n
      else s

/-- RELAY_NO_PROGRESS. -/
def State.relayNoProgress (s : State) : State :=
  match s.expire .relayProgress with
  | none => s
  | some s => match s.upd.pull with | none => s | some p => s.pullEnd p stTimeout

/-- VERIFY_COMPLETE of an update or of a relay. -/
def State.verifyComplete (s : State) (r : VerifyResult) : State :=
  match s.upd.open_, s.upd.pull with
  | some u, _ => match u.verify with
    | none => s
    | some c =>
      let st := s.verifyStatus (s.updTarget u) u.length r
      let s := s.setUpdate { u with verify := none }
      let s := if st = stOk then s.verified u r else s
      s.complete c st []
  | none, some p =>
    if p.stage ≠ 3 then s else
    let u : Update := { target := s.updateSlot, length := s.pullLength }
    let st := s.verifyStatus (s.updTarget u) u.length r
    (if st = stOk then s.verified u r else s).pullEnd p st
  | none, none => s

/-- REQ received (R440). -/
def State.relayServe (s : State) (l : Nat) (ws : List Word) : State :=
  let w0 := ws.getD 0 0
  let t := w0.bits 16 16
  let n := (ws.getD 3 0).bits 4 0
  let uid := s.rd .lnkNbr2 l
  let refuse := fun (st : Status) =>
    s.relaySend l [((((0 : Word).setBits 31 24 3).setBits 16 16 t).setBits 7 0 st.toNat), uid, ws.getD 2 0, 0]
  if !s.relayForMe ws then s.bump .lnkCnt l 4
  else if s.mode ≠ .commission ∧ s.mode ≠ .run ∧ s.mode ≠ .safe then s
  else if s.upd.serve.any (fun v => decide (v.left > 0) && v.lane != l) then refuse stBusy
  else if s.slotState t < slVerified ∨ s.slotState t > slGood then refuse stBadParam
  else
    let v : Serve := { lane := l, uid := uid, slot := t, off := (ws.getD 2 0).toNat, left := min 16 (max 1 n) }
    let s := { s with upd := { s.upd with serve := some v } }
    if (s.deadline .relaySend).isSome then s else s.arm .relaySend 0

/-- The bytes of a chunk; those of a slot that this model did not program are free (log entry 1). -/
def State.chunkWords (s : State) (x : Slot) (off n : Nat) : List Word × State :=
  if (List.range n).all (fun i => (tfind x.cells (off + i)).isSome) then (wordsAt x.byte off (off + n), s)
  else s.freshWords (n / 4)

/-- RELAY_DATA_SEND: one DATA frame, at most one per 10 µs. -/
def State.relayDataSend (s : State) : State :=
  match s.expire .relaySend with
  | none => s
  | some s => match s.upd.serve with
    | none => s
    | some v =>
      let x := s.slot v.slot
      let len := x.head.length
      if v.left = 0 ∨ v.off ≥ len then { s with upd := { s.upd with serve := none } }
      else
        let (body, s) := s.chunkWords x v.off (min chunkBytes (len - v.off))
        let w0 := ((0 : Word).setBits 31 24 2).setBits 16 16 v.slot
        let s := s.relaySend v.lane ([w0, v.uid, BitVec.ofNat 32 v.off, BitVec.ofNat 32 len] ++ body)
        let s := { s with upd := { s.upd with serve := some { v with off := v.off + chunkBytes, left := v.left - 1 } } }
        s.arm .relaySend 10000

/-- RECOVERY_PULL_TIMER (R441). -/
def State.recoveryPull (s : State) : State :=
  match s.expire .recoveryPull with
  | none => s
  | some s =>
    if s.mode ≠ .recovery ∨ s.updateBusy then s
    else (s.arm .recoveryPull 300000000000).romPull [0, 1]

end Sys2Proof.Machine
end

