-- ==== Sys2Proof/Machine/ReadOps.lean ====
section
/-!
DEFINITION. What a register reads as (spec/02_address_space_and_views.md, R7-R9, R30-R34, R192): where an offset lies, the live
value of the registers that show other state, and what each view sees.
-/
namespace Sys2Proof.Machine

/-! ### Where an offset lies (R30, R192) -/

/-- What an offset of the local base map names. -/
inductive Place where
  | reg (r : Reg) (i j : Nat)
  /-- the visible snapshot bank of the counter at this offset -/
  | bank (live : Nat) (r : Reg) (i : Nat)
  /-- an offset of a block that nothing occupies -/
  | empty (off : Nat)
  /-- byte `b` of the vat -/
  | vat (b : Nat)
  /-- byte `o` of bridged device window `w` -/
  | window (w o : Nat)
  deriving DecidableEq, Repr

/-- The registers of a number that is no fault source are reserved (R368, R9). -/
def Reg.reserved (r : Reg) (i : Nat) : Bool :=
  (r == .fltSrcCfg || r == .fltSrcStat || r == .fltSrcInst0 || r == .fltSrcInst1) && (fltRow i).isNone

/-- The place of an offset; `none` outside every block and window. -/
def place (off : Nat) : Option Place :=
  if off < 0xE00000 then
    match locate off with
    | some (r, i, j) => some (if r.reserved i then .empty off else .reg r i j)
    | none => match locate (off ^^^ 0x80000) with
      | some (r, i, _) => if r.row.snap then some (.bank (off ^^^ 0x80000) r i) else some (.empty off)
      | none => some (.empty off)
  else if 0x100000000 ≤ off ∧ off < 0x104000000 then some (.vat (off - 0x100000000))
  else if 0x200000000 ≤ off ∧ off < 0x300000000 then
    some (.window ((off - 0x200000000) / 0x10000000) ((off - 0x200000000) % 0x10000000))
  else none

/-- The island of a register instance. -/
def Reg.island (r : Reg) (i : Nat) : Nat := r.row.isl + i * r.row.islStep

/-- The island that owns an unoccupied offset: that of its block, cluster or lane; 0 for blocks of the AON island. -/
def blockIsland (off : Nat) : Nat :=
  match off / 0x100000 with
  | 0 => 8 | 2 => 6 | 3 => 7 | 5 => 17 | 6 => 18 | 7 => 19 | 8 => 20 | 10 => 8
  | 1 => if off % 0x100000 < 0x5000 then off % 0x100000 / 0x1000 + 1 else 0
  | 4 => 9 + off / 0x10000 % 8
  | _ => 0

/-- The island that an access reaches. -/
def Place.island : Place → Nat
  | .reg r i _ => r.island i
  | .bank _ r i => r.island i
  | .empty off => blockIsland off
  | .vat _ => 6
  | .window w _ => 9 + w / 2

/-- Is the place in the block range of SEC (R33)? -/
def Place.inSec : Place → Bool
  | .reg r i j => decide (r.addr i j ≥ 0xD00000)
  | .bank l _ _ => decide (l ≥ 0xD00000)
  | .empty off => decide (off ≥ 0xD00000)
  | _ => false

/-- Does the place lie in the CTL, MGT or FLT block (R76)? -/
def Place.inRecovery (p : Place) : Bool :=
  let b := fun (off : Nat) => [0, 10, 11].contains (off / 0x100000)
  match p with
  | .reg r i j => b (r.addr i j)
  | .bank l _ _ => b l
  | .empty off => b off
  | _ => false

/-- Can island `i` answer an access: out of reset (R46 step 7), its clock running (R400), the power die reached through the
die-to-die link (R314)? -/
def State.reachable (s : State) (i : Nat) : Bool :=
  s.islandUp i && (i == 0 || i == 8 || (s.rd .islClkOk).getLsbD i) && (i != 20 || s.is F.PWR_STAT_LINK_OK)

def State.placeUp (s : State) (p : Place) : Bool := s.reachable p.island

/-! ### Live values -/

/-- The oldest gap record as PRS_GAPREC0-3 show it; zero when there is none (R134, R139). -/
def State.gapWord (s : State) (k : Nat) : Word :=
  match s.sw.gaps with
  | [] => 0
  | g :: _ => match k with
    | 0 => (((0 : Word).setBits 31 8 g.node.toNat).setBits 3 3 1).setBits 2 0 g.cls.toNat
    | 1 => ((0 : Word).setBits 31 16 g.first).setBits 15 0 g.count
    | 2 => g.time
    | _ => BitVec.ofNat 32 g.cause

/-- FLT_STAT as it reads. -/
def State.fltStatWord (s : State) : Word :=
  let w := ((s.rd .fltStat).setBits 31 31 (bit s.checkFail)).setBits 29 29 (bit s.flt.reacting.isSome)
  ((w.setBits 18 16 s.highest).setBits 15 8 (min 255 s.unacked)).setBits 7 0 (min 255 s.latchedSF)

def State.fltPinWord (s : State) : Word :=
  (((s.rd .fltPin).setBits 31 31 (bit s.faultNLow)).setBits 30 30 (bit (s.flt.pulse != .idle))).setBits 29 29
    (bit (s.deadline .alive).isSome)

/-- GRACE_LEFT: the remaining grace in units of 100 µs. -/
def State.graceLeft (s : State) (i : Nat) : Nat :=
  match s.deadline (.grace i) with | some d => (d - s.now + 99999) / 100000 | none => 0

/-- Bits of the islands that `p` names. -/
def islandBits (p : Nat → Bool) : Word := (List.range 21).foldl (fun w i => w.setBits i i (bit (p i))) (0 : Word)

def State.seccfgWord (s : State) : Word :=
  let split := !s.is F.MGT_STAT_LOCKSTEP
  let w := ((s.rd .ctlSeccfg).setBits 19 19 (bit s.owned)).setBits 18 18 (bit split)
  (w.setBits 17 17 (bit s.sec.debugLocked)).setBits 16 16 (bit (s.owned && !split && s.sec.debugLocked && !s.openOperate))

def State.cluStatWord (s : State) (k : Nat) : Word :=
  let run := (List.range 8).foldl (fun n e => if s.running (8 * k + e) then n + 2 ^ e else n) 0
  ((s.rd .cluStat k).setBits 15 8 run).setBits 1 1 (bit !s.ilkOk)

/-- A word of the record at the head of a timestamp queue; zero when it is empty (R181). -/
def tsqWord (q : List (List Word)) (j : Nat) : Word := (q.headD []).getD j 0

/-- Live values of the registers of the chip-wide blocks. -/
def State.liveCore (s : State) (r : Reg) (i _j : Nat) : Option Word :=
  match r with
  | .ctlState => some ((s.rd .ctlState).setBits 2 0 s.mode.code)
  | .ctlSeccfg => some s.seccfgWord
  | .ctlSessstat =>
    some (((s.rd .ctlSessstat).setBits 11 8 (s.openSessions.filter (·.maint)).length).setBits 5 0 s.openSessions.length)
  | .mgtWdg => some ((s.rd .mgtWdg).setBits 25 16 s.wdgLeft)
  | .mgtPtemp => some (if s.is F.PWR_STAT_LINK_OK then s.rd .mgtPtemp else 0x80008000)
  | .mgtLogStat => some (((0 : Word).setBits 24 16 s.logBacklog).setBits 8 0 s.mgt.ramLog.length)
  | .mgtLlStat => some ((s.rd .mgtLlStat).setBits 30 30 (bit s.ringQuiet))
  | .fltStat => some s.fltStatWord
  | .fltPin => some s.fltPinWord
  | .fltSrcStat => some ((s.rd .fltSrcStat i).setBits 25 16 (s.graceLeft i))
  | .islRstStat => some (islandBits (fun k => s.isl.rst.getLsbD k || s.isl.resync.getLsbD k))
  | .islStale => some (islandBits s.islandStale)
  | .parOrder => some ((s.rd .parOrder).setBits 9 0 (min 512 s.pair.unacked.length))
  | .secStat => some s.secStatWord
  | .secOtpCnt => some (BitVec.ofNat 32 s.sec.count)
  | .secOwnerStat => some s.ownerStatWord
  | .secKeystat => some (((0 : Word).setBits 1 1 (bit (s.keySet .secPkey))).setBits 0 0 (bit (s.keySet .secBkey)))
  | .secSessInfo => some s.sessInfoWord
  | .secDbgStat => some s.dbgStatWord
  | _ => none

/-- Live values of the registers of links, switch core, time and ports. -/
def State.livePort (s : State) (r : Reg) (i j : Nat) : Option Word :=
  match r with
  | .lnkState => some ((s.rd .lnkState i).setBits 23 16
      ((s.lane i).downs.filter (fun t => decide (s.now < t + 1000000000))).length)
  | .lnkMod0 | .lnkMod1 | .lnkMod2 => if s.mediaOf i = 1 then some 0 else none
  | .lnkByp => some ((s.rd .lnkByp).setBits 2 2 (bit s.bypHold))
  | .prsStat => some ((s.rd .prsStat).setBits 12 0 s.sw.ctxs.length)
  | .prsGaprec0 => some (s.gapWord 0)
  | .prsGaprec1 => some (s.gapWord 1)
  | .prsGaprec2 => some (s.gapWord 2)
  | .prsGaprec3 => some (s.gapWord 3)
  | .prsGapctl => some ((s.rd .prsGapctl).setBits 4 0 s.sw.gaps.length)
  | .swcPoolStat0 =>
    some (BitVec.ofNat 32 (vatCells - s.get F.SWC_CAP_CFG_CELLS - s.sw.retired.length - s.cellsUsed))
  | .swcPoolStat1 => some (BitVec.ofNat 32 s.sharedSize)
  | .swcPoolStat2 => some (BitVec.ofNat 32 (s.tierUsed .shared))
  | .swcPoolStat3 => some (BitVec.ofNat 32 (s.tierUsed .headroom))
  | .swcQocc => some (BitVec.ofNat 32 (s.qocc i))
  | .timNow => some (BitVec.ofNat 32 s.ringNs)
  | .timSchedStat => some ((s.rd .timSchedStat).setBits 8 0 s.sched.length)
  | .engQstat =>
    let x := s.eng (8 * i + j)
    some (((0 : Word).setBits 11 8 x.rxq.length).setBits 3 0 x.txn)
  | .cluDin => some (s.cluDinWord i)
  | .cluStat => some (s.cluStatWord i)
  | .canStat => some (s.canStat i)
  | .canTsqRec => some (tsqWord (s.can i).tsq j)
  | .canTsqCtl => some (BitVec.ofNat 32 (s.can i).tsq.length)
  | .macCfg => some ((s.rd .macCfg i).setBits 17 17 (bit (s.isComm i)))
  | .macStat => some (s.macStat i)
  | .macTsqRec => some (tsqWord (s.mac i).tsq j)
  | .macTsqCtl => some (BitVec.ofNat 32 (s.mac i).tsq.length)
  | .hbrStat => some ((s.rd .hbrStat).setBits 9 0 s.hbr.trk.length)
  | .pwrChStat => some (s.pwrChStat i)
  | .pwrChFault => some (s.pwrChFault i)
  | .pwrPg => some s.pwrPgWord
  | .pwrStat => some s.pwrStatWord
  | _ => none

/-- The word that a register instance holds or shows. -/
def State.liveRead (s : State) (r : Reg) (i j : Nat) : Word :=
  ((s.liveCore r i j).orElse (fun _ => s.livePort r i j)).getD (s.rd r i j)

/-! ### What a view sees (R7, R8) -/

/-- Does a read in the view return the field? -/
def Field.readable (f : Field) (priv : Bool) : Bool :=
  match f.acc with
  | .wo | .poKey => false
  | .po | .poStatus => priv
  | _ => true

/-- The fields of the word that the view may read; every other bit reads zero. -/
def Reg.view (r : Reg) (priv : Bool) (w : Word) : Word :=
  r.row.fields.foldl (fun v f => if f.readable priv then v.setBits f.hi f.lo (w.bits f.hi f.lo) else v) (0 : Word)

/-- A register as the view reads it; CTL_STATE.VIEW shows the view. -/
def State.readReg (s : State) (priv : Bool) (r : Reg) (i j : Nat) : Word :=
  let w := s.liveRead r i j
  r.view priv (if r = .ctlState then w.setBits 20 20 (bit priv) else w)

/-- Are all fields of the register PO, so that the unprivileged view is refused (R8)? DESIGN CHOICE (log entry 43): a reserved range
is no field, also where its row gives it the access RO (ISL_RST_CTL and ISL_PWR_CTL [31:21]), so such a register counts as all PO. -/
def Reg.allPo (r : Reg) : Bool :=
  !r.row.fields.isEmpty && r.row.fields.all (fun f => f.acc == .po || f.acc == .poStatus || f.acc == .poKey)

/-- Is an unprivileged access refused with DENIED (R8, R33)? -/
def State.deniedTo (s : State) (priv : Bool) (p : Place) : Bool :=
  !priv && (p.inSec || match p with
    | .reg r _ _ => r.allPo
    | .bank _ r _ => r.allPo
    | .empty _ => false
    | .vat _ => true
    | .window w _ => s.is F.WIN_CFG_PRIV (w / 2) (w % 2))

/-- Can entry `k` of the forwarding table, shadow copy from 256 on, not be corrected (R142, R155)? -/
def State.fwdLost (s : State) (k : Nat) : Bool := s.sw.fwdBad.contains k || decide (tget 0 s.sw.fwdErr k > 2)

/-- What a read of a place meets in storage under the code of R142 (R144, R155). -/
def State.readMet (s : State) : Place → State
  | .vat b => s.meetWords [b / 32]
  | .reg .swcFwdAct i _ => s.fwdRead i
  | .reg .swcFwdShd i _ => s.fwdRead (256 + i)
  | _ => s

/-- The value of a place that is no window; `none` when its word cannot be corrected (R75, R142, R161). -/
def State.readPlace (s : State) (priv : Bool) (p : Place) : Option Word :=
  match p with
  | .reg .swcFwdAct i j => if s.fwdLost i then none else some (s.readReg priv .swcFwdAct i j)
  | .reg .swcFwdShd i j => if s.fwdLost (256 + i) then none else some (s.readReg priv .swcFwdShd i j)
  | .reg r i j => some (s.readReg priv r i j)
  | .bank l _ _ => some (s.bankRead l)
  | .empty _ => some 0
  | .vat b => if s.sw.ueWords.contains (b / 32) then none else some (mreadWord s.sw.vat b)
  | .window _ _ => some 0

end Sys2Proof.Machine
end

