-- ==== Sys2Proof/Machine/WriteOps.lean ====
section
/-!
DEFINITION. Writes of a register (R7-R9, R77): which fields a view may write, the conditions that the rows of the register tables
place on a write, and what a write does.
-/
namespace Sys2Proof.Machine

/-! ### Fields (R7) -/

/-- May a write in the view reach the field? -/
def Field.writable (f : Field) (priv : Bool) : Bool :=
  match f.acc with
  | .ro | .poStatus => false
  | .rw | .w1c | .wo => true
  | .rwp | .po | .poKey => priv

/-- Has the register a field that the view may write? -/
def Reg.writable (r : Reg) (priv : Bool) : Bool := r.row.fields.any (·.writable priv)

/-- Registers of read-only fields where a write of any value removes the oldest record (R139, R181, R287). -/
def Reg.popsOnWrite (r : Reg) : Bool := r == .prsGapctl || r == .canTsqCtl || r == .macTsqCtl

/-- The word that the conditions of a row are judged on: what the write asks for in the fields it may write (R8). -/
def Reg.asked (r : Reg) (priv : Bool) (old w : Word) : Word :=
  r.row.fields.foldl (fun v f => if f.writable priv then v.setBits f.hi f.lo (w.bits f.hi f.lo) else v) old

/-- The word that the register holds after the write: an action field holds nothing, a 1 clears a W1C bit. -/
def Reg.merge (r : Reg) (priv : Bool) (old w : Word) : Word :=
  r.row.fields.foldl (fun v f =>
    if !f.writable priv then v else
    match f.acc with
    | .wo => v
    | .w1c => v.setBits f.hi f.lo ((old &&& ~~~w).bits f.hi f.lo)
    | _ => v.setBits f.hi f.lo (w.bits f.hi f.lo)) old

/-- Does the word change the field? -/
def changes (f : Fld) (old w : Word) : Bool := old.bits f.hi f.lo != w.bits f.hi f.lo

/-! ### Conditions -/

/-- NOT_IN_MODE: fields that a row lets be written in some modes only; a row that restricts one field of several is broken only
by a change of that field (log entry 14). `a` is the word asked for, `old` the present one. -/
def State.writeBarred (s : State) (r : Reg) (i j : Nat) (old a : Word) : Bool :=
  let notComm := s.mode != .commission
  match r with
  | .ctlNode | .ctlPairaddr | .ctlSeccfg | .lnkByp | .swcCapCfg | .timCfg | .islPwrCtl | .fltCfg | .fltSrcCfg => notComm
  | .parCfg => notComm && changes F.PAR_CFG_PAIR_ID old a
  | .cluCfg => notComm && changes F.CLU_CFG_BANK_V old a
  | .fltChk => notComm && a.getLsbD 31
  | .engClk => (s.mode == .run || s.mode == .safe) && a.bits 7 0 != 0
  | .engCtl => s.mode == .run && a.getLsbD 31 && s.get F.ENG_CLK_NUM i j != 0
  | .cluCtl => s.mode == .run && (maskEngines i (a.bits 7 0)).any (fun n => s.eget F.ENG_CLK_NUM n != 0)
  | .canRdCtl =>
    let m := s.get F.CAN_CTL_OPMODE i
    a.getLsbD 31 && !(m == 2 && (s.mode == .commission || s.mode == .run || s.mode == .safe)) &&
      !(m == 0 && s.mode == .commission)
  | _ => false

/-- BAD_PARAM: the values that rows refuse, the bound of the shared pool (R146), and the reach of HBR_ELOG_TAIL (R310). -/
def State.writeBad (s : State) (r : Reg) (i j : Nat) (a : Word) : Bool :=
  s.badValue r i j a || s.badPool r i a || (r == .hbrElogTail && !s.elogTailOk (a.bits 7 0))

/-- Is capture running, or is some cell of the new capture range held by a unit (R159)? A retired cell in the range counts as free
(DESIGN CHOICE, log entry 43). -/
def State.captureLocked (s : State) (cells : Nat) : Bool :=
  s.is F.CAP_CTL_ENABLE || s.sw.units.any (fun u => u.2.cells.any (fun c => decide (c ≥ vatCells - cells)))

/-- BUSY of the ENG and CLU registers (R219-R221, R223, R226). -/
def State.facetBusy (s : State) (r : Reg) (i j : Nat) (old a : Word) : Bool :=
  let run := s.running (8 * i + j)
  match r with
  | .engCtl => a.getLsbD 29 && run
  | .engClk | .engPinmap0 | .engPinmap1 | .engOsr | .engIsr | .engXy | .engPattern => run
  | .engQcfg => run && changes F.ENG_QCFG_TX_DEPTH old a
  | .engInject => s.is F.ENG_INJECT_PENDING i j
  | .engProg => s.running (8 * i + j / 128)
  | .pinCfg => changes F.PIN_CFG_OWNER old a && (s.running (8 * i + old.bits 6 4) || s.running (8 * i + a.bits 6 4))
  | .winCfg => (changes F.WIN_CFG_ENABLE old a || (a.getLsbD 31 && changes F.WIN_CFG_ENGINE old a)) &&
      (s.running (8 * i + old.bits 18 16) || s.running (8 * i + a.bits 18 16))
  | _ => false

/-- BUSY of the CAN, MAC and PWR registers (R248, R251, R263, R272, R289, R323). -/
def State.fieldBusy (s : State) (r : Reg) (i : Nat) (old a : Word) : Bool :=
  match r with
  | .canCtl => changes F.CAN_CTL_OPMODE old a && s.is F.CAN_RD_STAT_BUSY i
  | .canCfg => s.get F.CAN_CTL_OPMODE i != 0 &&
      (changes F.CAN_CFG_FD_EN old a || changes F.CAN_CFG_XL_EN old a || changes F.CAN_CFG_XL_TMS old a)
  | .canBtNom | .canBtFd | .canBtXl | .canSsp | .canXpwm => s.get F.CAN_CTL_OPMODE i != 0
  | .canRdCtl => s.is F.CAN_RD_STAT_BUSY i && !(a.getLsbD 30 && !a.getLsbD 31)
  | .macCfg => s.is F.MAC_CFG_MAC_EN i && old.bits 29 23 != a.bits 29 23
  | .macMdioCtl => s.is F.MAC_MDIO_CTL_BUSY
  | .pwrChLim | .pwrChRamp | .pwrChTherm0 | .pwrChTherm1 | .pwrChSns => s.pst i != pcOff && s.pst i != pcLatched
  | _ => false

/-- BUSY of the HBR registers (R299, R304, R312). -/
def State.hbrBusy (s : State) (r : Reg) (i : Nat) (old a : Word) : Bool :=
  let win := s.is F.HBR_WIN_ATTR_ENABLE i
  match r with
  | .hbrCfg => (List.range 16).any (fun w => s.is F.HBR_WIN_ATTR_ENABLE w) || s.is F.HBR_TXR_CFG_ENABLE ||
      (List.range 8).any (fun q => s.is F.HBR_RXR_CFG_ENABLE q)
  | .hbrWinNode | .hbrWinOff => win
  | .hbrWinAttr => win && a.getLsbD 31 && old.setBits 19 16 0 != a.setBits 19 16 0
  | .hbrTxrBaseLo | .hbrTxrBaseHi => s.is F.HBR_TXR_CFG_ENABLE
  | .hbrRxrBaseLo | .hbrRxrBaseHi => s.is F.HBR_RXR_CFG_ENABLE i
  | .hbrTxrCfg => s.is F.HBR_TXR_CFG_ENABLE && changes F.HBR_TXR_CFG_LOG2 old a
  | .hbrRxrCfg => s.is F.HBR_RXR_CFG_ENABLE i && changes F.HBR_RXR_CFG_LOG2 old a
  | _ => false

/-- BUSY: the register is locked by an operation in progress. -/
def State.writeBusy (s : State) (r : Reg) (i j : Nat) (old a : Word) : Bool :=
  match r with
  | .swcCapCfg => s.captureLocked (a.bits 16 0)
  | .swcFwdCtl => a.getLsbD 31 && s.commitBusy
  | .parCtl => a.getLsbD 0 && s.servesPair && s.pair.syncing
  | _ => s.facetBusy r i j old a || s.fieldBusy r i old a || s.hbrBusy r i old a

/-- The status of a write of `w` to a register in a view: mode, value, lock, in that order (R159). `x`: the session it comes
under, which SEC_OWNER_CTL asks for (R448, R449). -/
def State.writeStatus (s : State) (priv : Bool) (r : Reg) (i j : Nat) (w : Word) (x : Option Session) : Status :=
  if !r.writable priv then stOk else
  let old := s.liveRead r i j
  let a := r.asked priv old w
  if r = .secOwnerCtl then s.ownerCheck x a
  else if r = .secDbgCtl then (if a.getLsbD 0 then s.unlockCheck else stOk)
  else if s.writeBarred r i j old a then stNotInMode
  else if s.writeBad r i j a then stBadParam
  else if s.writeBusy r i j old a then stBusy
  else stOk

/-- Does R77 let the write pass in SAFE? -/
def State.safeWrite (s : State) (priv : Bool) (p : Place) : Bool :=
  match p with
  | .reg r i _ =>
    r == .islRstCtl || (r == .canRdCtl && s.get F.CAN_CTL_OPMODE i == 2) ||
    (r.row.fields.all (fun f => !f.writable priv || f.acc == .w1c) && !r.popsOnWrite)
  | .bank _ _ _ => true
  | .empty _ => true
  | .vat _ => false
  | .window _ _ => false

/-! ### Effects -/

/-- A transmit descriptor whose contents host memory holds and the model does not: free values (log entry 1). -/
def State.freeDesc (s : State) : TxDesc × State :=
  let (n, s) := s.freeIn 0 511
  let (ws, s) := s.freshWords n
  let (len, s) := s.freeIn 0 2047
  let (b, s) := s.freeIn 0 63
  ({ words := ws, len := len, doSeal := b % 2 == 1, slot := b / 2 % 16, authOk := decide (b ≥ 32) }, s)

/-- Lists of free descriptors and buffers for an index that is advanced without its row's operands. -/
def State.freeDescs : Nat → State → List TxDesc × State
  | 0, s => ([], s)
  | n + 1, s =>
    let (d, s) := s.freeDesc
    let (ds, s) := State.freeDescs n s
    (d :: ds, s)
def State.freeBufs : Nat → State → List RxDesc × State
  | 0, s => ([], s)
  | n + 1, s =>
    let (a, s) := s.freeIn 0 (2 ^ 64 - 1)
    let (ds, s) := State.freeBufs n s
    ({ addr := a } :: ds, s)

/-- HBR_TXR_TAIL and HBR_RXR_TAIL written as plain registers: the descriptors are those that host memory holds. -/
def State.txTailReg (s : State) (tail : Nat) : State :=
  let size := 2 ^ s.get F.HBR_TXR_CFG_LOG2
  let (ds, s) := State.freeDescs ((tail + size - s.get F.HBR_TXR_HEAD_HEAD) % size - s.hbr.tx.length) s
  s.txTail tail ds
def State.rxTailReg (s : State) (q tail : Nat) : State :=
  let size := 2 ^ s.get F.HBR_RXR_CFG_LOG2 q
  let (ds, s) := State.freeBufs ((tail + size - s.get F.HBR_RXR_HEAD_HEAD q % size) % size - (tget [] s.hbr.rx q).length) s
  s.rxTail q tail ds

/-- A ring is enabled from 0: HEAD starts at TAIL; disabled, it gives its descriptors back (R304). -/
def State.txEnable (s : State) (was : Bool) : State :=
  let on := s.is F.HBR_TXR_CFG_ENABLE
  if on && !was then s.put F.HBR_TXR_HEAD_HEAD (s.get F.HBR_TXR_TAIL_TAIL)
  else if !on && was then
    { s.setHbr { s.hbr with tx := [], txBusy := false, txDone := none } with
      ingress := s.ingress.map (fun (x : UnitIn) => { x with txr := false }) }
  else s
def State.rxEnable (s : State) (q : Nat) (was : Bool) : State :=
  let on := s.is F.HBR_RXR_CFG_ENABLE q
  if on && !was then s.put F.HBR_RXR_HEAD_HEAD (s.get F.HBR_RXR_TAIL_TAIL q) q
  else if !on && was then s.setHbr { s.hbr with rx := terase s.hbr.rx q }
  else s

/-- LNK_CFG written: ENABLE starts the lane or takes it OFF; MEDIA and RATE_MAX hold for the next training (R121). -/
def State.lnkCfgWritten (s : State) (l : Nat) (old : Word) : State :=
  let on := s.is F.LNK_CFG_ENABLE l
  let s := s.modRun l
  if on && !old.getLsbD 31 then s.laneStart l
  else if !on && old.getLsbD 31 then s.laneDisable l
  else if s.lst l = lsNoSignal then s.setRate l
  else s

/-- ENG_CTL written (R216, R219, R211): flushes and CLEAR, then STOP, then START. -/
def State.engCtlWritten (s : State) (n : Nat) (a : Word) : State :=
  let s := if a.getLsbD 28 then s.flushTx n else s
  let s := if a.getLsbD 27 then s.flushRx n else s
  let s := if a.getLsbD 29 then s.clearEngine n else s
  let s := if a.getLsbD 30 then s.stopEngine n scStop else s
  if a.getLsbD 31 then s.startEngine n (a.bits 22 16) else s

/-- CLU_CTL written (R216, R217). -/
def State.cluCtlWritten (s : State) (k : Nat) (a : Word) : State :=
  let s := if a.getLsbD 16 then s.clkRestart k else s
  (s.stopMask k (a.bits 15 8)).startMask k (a.bits 7 0)

/-- PWR_CFG written: a change of OUT_EN gives or takes the right to drive (R314). -/
def State.pwrCfgWritten (s : State) (old : Word) : State :=
  let on := s.is F.PWR_CFG_OUT_EN
  if on && !old.getLsbD 31 then s.pwrSettle
  else if !on && old.getLsbD 31 then (List.range 16).foldl State.pchLose s
  else s

/-- PWR_CH_CTL written (R320, R321). -/
def State.pchCtlWritten (s : State) (c : Nat) (a : Word) : State :=
  let s := if a.getLsbD 2 then s.pchClrLatch c else s
  if a.getLsbD 1 then s.pchCmdOff c else if a.getLsbD 0 then s.pchCmdOn c else s

/-- CTL_SECCFG written: a change of OPEN_OPERATE is recorded (R458). -/
def State.seccfgWritten (s : State) (old : Word) : State :=
  let now := s.openOperate
  if now != old.getLsbD 0 then s.log true 0 0 0 evOpenOperate {} [BitVec.ofNat 32 (bit now)] else s

/-- HBR_KEY_SESS written: VALID = 0 erases the key (R312). -/
def State.keySessWritten (s : State) (k : Nat) : State :=
  if s.is F.HBR_KEY_SESS_VALID k then s else (List.range 8).foldl (fun s j => s.wr .hbrKey k j 0) s

/-- What a stored write sets off in the facet, CAN, MAC and PWR blocks. `a`: the word asked for; the register holds its new word. -/
def State.portEffect (s : State) (r : Reg) (i j : Nat) (old a : Word) : State :=
  match r with
  | .engCtl => s.engCtlWritten (8 * i + j) a
  | .engQcfg => if changes F.ENG_QCFG_TX_DEPTH old a then (s.flushTx (8 * i + j)).flushRx (8 * i + j) else s
  | .engInject => s.injectWrite (8 * i + j) a
  | .engProg => let n := 8 * i + j / 128; s.setEng n { s.eng n with badProg := (s.eng n).badProg.filter (· != j % 128) }
  | .engIsr => let n := 8 * i + j; s.setEng n { s.eng n with stampBad := false }
  | .engOsr => let n := 8 * i + j; s.setEng n { s.eng n with osrBad := false }
  | .engPattern => let n := 8 * i + j; s.setEng n { s.eng n with patBad := false }
  | .pinCfg => (s.settleNet i).pinCfgWritten i j old
  | .cluCfg => s.cluCfgWritten i old
  | .engPinmap0 | .engPinmap1 => s.settleNet i
  | .cluDout => s.setDout i a
  | .cluDoutSet => s.setDout i (s.rd .cluDout i ||| a)
  | .cluDoutClr => s.setDout i (s.rd .cluDout i &&& ~~~a)
  | .cluCtl => s.cluCtlWritten i a
  | .canCtl => ((if a.getLsbD 4 then s.canRecover i else s).canOpmodeWritten i)
  | .canCfg => s.canFill i
  | .canRdCtl => if a.getLsbD 31 then s.canRdStart i else if a.getLsbD 30 then s.canRdAbort i else s
  | .canTsqCtl => s.canTsqPop i
  | .macTsqCtl => s.macTsqPop i
  | .macMdioCtl => if a.getLsbD 31 then s.mdioGo else s
  | .pwrChCtl => s.pchCtlWritten i a
  | .pwrCmd => s.pwrMasks (BitVec.ofNat 16 (a.bits 15 0)) (BitVec.ofNat 16 (a.bits 31 16))
  | .pwrCfg => s.pwrCfgWritten old
  | .pwrChCfg => if (s.deadline (.pg i)).isSome then s.pgQualify i (s.pch i).rampAt else s
  | .hbrKeySess => s.keySessWritten i
  | .hbrIrq => if a.getLsbD 0 && old.getLsbD 0 then s.errPendClear else s
  | .hbrTxrTail => s.txTailReg (a.bits 11 0)
  | .hbrRxrTail => s.rxTailReg i (a.bits 11 0)
  | .hbrTxrCfg => s.txEnable (old.getLsbD 31)
  | .hbrRxrCfg => s.rxEnable i (old.getLsbD 31)
  | .hbrWinNode | .hbrWinOff | .hbrWinAttr => s.pfDropWin i
  | _ => s

/-- A shadow forwarding entry has been written: it holds no error any more (R142). -/
def State.shadowSound (s : State) (i : Nat) : State :=
  { s with sw := { s.sw with fwdBad := s.sw.fwdBad.filter (· != 256 + i), fwdErr := terase s.sw.fwdErr (256 + i) } }

/-- The capture range has become smaller: its cells are freed, and marked ones retired (R145, R159). -/
def State.capLowered (s : State) (old : Nat) : State :=
  (s.sw.badCells.filter (fun c => decide (vatCells - old ≤ c) && decide (c < vatCells - s.get F.SWC_CAP_CFG_CELLS))).foldl State.retireCell s

/-- CTL_PAIRADDR.PAIR_VALID has changed: a hub with 0 is no longer one of a pair (R331), and the gates of its outputs follow (R198,
R249, R273, R314). -/
def State.pairValidWritten (s : State) : State :=
  let s := if s.paired then s else s.leavePair
  ((List.range 16).foldl State.pchLose s).settleOutputs

/-- What a stored write sets off in the other blocks; island resets are the caller's, who knows when the reply has left. -/
def State.coreEffect (s : State) (r : Reg) (i _j : Nat) (old a : Word) : State :=
  match r with
  | .ctlSeccfg => s.seccfgWritten old
  | .ctlPairaddr => if (old ^^^ a).getLsbD 31 then s.pairValidWritten else s
  | .lnkCfg => s.lnkCfgWritten i old
  | .lnkCtl =>
    let s := if a.getLsbD 1 then s.holdEnd i else s
    if a.getLsbD 0 then s.retrain i else s
  | .lnkByp => if a.getLsbD 0 then s.dropHold else s
  | .prsGapctl => s.gapRemove
  | .swcFwdCtl => if a.getLsbD 31 then s.fwdCommit else s
  | .swcFwdShd => s.shadowSound i
  | .swcCapCfg => s.capLowered (old.bits 16 0)
  | .capCtl => if a.getLsbD 0 then s.captureStart else s
  | .timCfg => if a.getLsbD 31 && !old.getLsbD 31 && s.tst == tsListen then s.startListen else s
  | .timSchedCancel => s.schedCancel (a.bits 7 0)
  | .parCtl =>
    let s := if a.getLsbD 1 then s.rejoin else s
    if a.getLsbD 0 then s.resync else s
  | .fltCfg | .fltSrcCfg => s.updateAlive
  | .fltChk => if a.getLsbD 31 then s.fltInject else s
  | .islPwrCtl => s.powerMask (a.bits 20 0)
  | .secOwnerCtl => (s.wr .secOwnerCtl 0 0 (a &&& 0xFFFFFFFC)).ownerStart a
  | .secDbgCtl =>
    let s := s.wr .secDbgCtl 0 0 (a &&& 0xFFFFFFFE)
    if a.getLsbD 0 then s.unlockStart (a.bits 3 2) else s
  | _ => s

/-- Store a write and do what it sets off. Its conditions have been met. HBR_KEY takes writes through BAR0 only (R293), KICK only
from the cores (R363); bits of ISL_RST_CTL are the caller's. -/
def State.writeReg (s : State) (priv : Bool) (r : Reg) (i j : Nat) (w : Word) : State :=
  if !r.writable priv && !r.popsOnWrite then s
  else if r = .hbrKey ∨ r = .mgtWdg ∨ r = .islRstCtl then s
  else
    let old := s.rd r i j
    let a := r.asked priv old w
    let n := r.merge priv old w
    let s := if r = .macCfg then s.macLinkChange i (fun s => (s.wr .macCfg i j n).macGate i) else s.wr r i j n
    (s.portEffect r i j old a).coreEffect r i j old a

/-! ### The vat diagnostic window (R161) -/

/-- The status of a write of a word at vat byte `b`. -/
def State.vatStatus (s : State) (b : Nat) : Status :=
  if s.mode ≠ .commission then stNotInMode else if s.sw.ueWords.contains (b / 32) then stUncorrectable else stOk

def State.vatWrite (s : State) (b : Nat) (w : Word) : State :=
  { s with sw := { s.sw with vat := mwrites s.sw.vat b (wordBytes w) } }

/-! ### Writes of a place -/

/-- Step 8 of R46 for a write of `w` at a place: R77, then the conditions of the place. A window takes its requests elsewhere. -/
def State.placeStatus (s : State) (priv : Bool) (p : Place) (w : Word) (x : Option Session) : Status :=
  if s.mode = .safe ∧ !s.safeWrite priv p then stNotInMode else
  match p with
  | .reg r i j => s.writeStatus priv r i j w x
  | .vat b => s.vatStatus b
  | .window _ _ => stBadParam
  | _ => stOk

/-- Word `w` of the vat has been encoded anew. -/
def State.vatSound (s : State) (w : Nat) : State := { s with sw := { s.sw with ceWords := terase s.sw.ceWords w } }

/-- Write a place, with the islands that a write of ISL_RST_CTL resets (R392). -/
def State.placeWrite (s : State) (priv : Bool) (p : Place) (w : Word) : State × BitVec 21 :=
  match p with
  | .reg r i j => (s.writeReg priv r i j w, if r = .islRstCtl ∧ r.writable priv then w.setWidth 21 else 0)
  | .vat b => (((s.meetWords [b / 32]).vatSound (b / 32)).vatWrite b w, 0)
  | _ => (s, 0)

/-- Reset the islands of a mask. -/
def State.resetIslands (s : State) (m : BitVec 21) : State :=
  (List.range 21).foldl (fun s k => if m.getLsbD k then s.islReset k else s) s

/-! ### Register writes that are rows of the table -/

/-- A register write that a row of the table makes is refused: it counts as a refused command, and once in CTL_DENYCNT for a DENIED
or for a BAD_PARAM of step 5 (R46). The row names no sender, so no audit record is written (log entry 14). -/
def State.refuseWrite (s : State) (st : Status) (step5 : Bool) : State :=
  let s := s.bump .mgtCnt 1
  let s := if st = stDenied then s.sat F.CTL_DENYCNT_DENIED_CNT
    else if step5 then s.sat F.CTL_DENYCNT_BADADDR_CNT else s
  { s with cmd := { s.cmd with lastWrite := st } }

/-- A write by host software that names its register instance and carries no frame: refused under R46 as a WRITE would be (mode,
place and alignment, view, island, R77), and under the row of its register. The status is kept in `lastWrite`. -/
def State.hostWrite (s : State) (priv : Bool) (off : Nat) (w : Word) : State :=
  if !s.mgtUp || s.boot.switch.isSome then s else
  if s.mode ≠ .commission ∧ s.mode ≠ .run ∧ s.mode ≠ .safe then s.refuseWrite stNotInMode false else
  match (if off % 4 = 0 then place off else none) with
  | none => s.refuseWrite stBadParam true
  | some p =>
    if s.deniedTo priv p then s.refuseWrite stDenied false
    else if !s.placeUp p then s.refuseWrite stIslandDown false
    else
      let st := s.placeStatus priv p w s.lastMaint
      if st ≠ stOk then s.refuseWrite st false else
      let (s, m) := s.placeWrite priv p w
      let s := s.resetIslands m
      { s with cmd := { s.cmd with lastWrite := stOk } }

/-- A privileged write to a register instance. -/
def State.setReg (s : State) (r : Reg) (i j : Nat) (w : Word) : State := s.hostWrite true (r.addr i j) w

end Sys2Proof.Machine
end

