-- ==== Sys2Proof/Machine/WindowOps.lean ====
section
/-!
DEFINITION. Bridged device windows (spec/08_facet_engines.md, R223-R225): a request becomes one item in the transmit path
of the window engine; the engine's answer, or the end of the time, becomes the reply.
-/
namespace Sys2Proof.Machine

/-! ### The end of a command that had no reply yet -/

/-- The service entry of a command. -/
def State.serviceOf (s : State) (c : Cmd) : Option Service := s.cmd.service.find? (fun x => x.cmd == c)

/-- Finish a command that is still in service. -/
def State.conclude (s : State) (c : Cmd) (a : Answer) : State :=
  match s.serviceOf c with
  | some e => s.finish c e.ordered a
  | none => s

/-- The audit record of a privileged write (R359, R458). -/
def State.auditWrite (s : State) (f : Frame) (count : Nat) (first : Word) (ordered : Bool) : State :=
  if f.addrView && !ordered then s.log true 0 0 0 evPrivWrite (whoOf f stOk) [f.w6, f.w7, BitVec.ofNat 32 count, first] else s

/-! ### Windows -/

def State.win (s : State) (w : Nat) : WinS := tget {} s.wins w
def State.setWin (s : State) (w : Nat) (x : WinS) : State := { s with wins := tset s.wins w x }

/-- The engine that WIN_CFG names. -/
def State.winEngine (s : State) (w : Nat) : Nat := 8 * (w / 2) + s.get F.WIN_CFG_ENGINE (w / 2) (w % 2)

/-- The time of a request, in ns (R225). -/
def State.winTime (s : State) (w : Nat) : Nat := 1000 * s.get F.WIN_CFG_TIMEOUT_US (w / 2) (w % 2)

/-- An item goes behind every word of the transmit path, the unit that is being fed included. -/
def State.sendBehind (s : State) (n : Nat) (item : List QWord) : State :=
  let x := s.eng n
  if x.feed.isSome then s.setEng n { x with next := x.next ++ [item] }
  else (s.setEng n { x with path := x.path ++ item }).fillTxq n

/-- The item of a request (R224). -/
def winItem (r : WinReq) (rid : Nat) : List QWord :=
  let w0 := (((0 : Word).setBits 31 31 (bit r.write)).setBits 23 16 rid).setBits 8 0 r.count
  markLast ((w0 :: BitVec.ofNat 32 r.off :: r.data).map (fun w => ({ w := w } : QWord)))

/-- A request enters TXQ under the next RID. -/
def State.winEnter (s : State) (w : Nat) (r : WinReq) : State :=
  let rid := (s.get F.WIN_STAT_RID (w / 2) (w % 2) + 1) % 256
  let s := (s.put F.WIN_STAT_RID rid (w / 2) (w % 2)).put F.WIN_STAT_BUSY 1 (w / 2) (w % 2)
  (s.setWin w { s.win w with cur := some r }).sendBehind (s.winEngine w) (winItem r rid)

/-- The timer of a window runs for the request that arrived first. -/
def State.winTimer (s : State) (w : Nat) : State :=
  let x := s.win w
  match x.cur.toList ++ x.waiting with
  | [] => s.disarm (.window w)
  | r :: rs => s.arm (.window w) (rs.foldl (fun a (x : WinReq) => min a x.arrival) r.arrival + s.winTime w - s.now)

/-- Reply to a request. -/
def State.winReply (s : State) (w : Nat) (r : WinReq) (a : Answer) : State :=
  (s.put F.WIN_STAT_LAST_STATUS a.status.toNat (w / 2) (w % 2)).conclude r.cmd a

/-- The next request in turn enters TXQ; one whose time has run out while it waited gets TIMEOUT and never enters. -/
def State.winNext (s : State) (w : Nat) : List WinReq → State
  | [] => (s.put F.WIN_STAT_BUSY 0 (w / 2) (w % 2)).setWin w { s.win w with cur := none, waiting := [] }
  | r :: rest =>
    if r.arrival + s.winTime w ≤ s.now then State.winNext (s.winReply w r { status := stTimeout }) w rest
    else (s.setWin w { s.win w with cur := none, waiting := rest }).winEnter w r

/-- The request in service ends. -/
def State.winEnd (s : State) (w : Nat) (r : WinReq) (a : Answer) : State :=
  let rest := (s.win w).waiting
  ((s.winReply w r a).winNext w rest).winTimer w

/-- A request that has passed its checks (R223): it waits in service for its turn. One whose time has run out meanwhile never enters
TXQ: it times out at once (R225). -/
def State.winRequest (s : State) (w : Nat) (r : WinReq) : State :=
  let x := s.win w
  let late := decide (r.arrival + s.winTime w ≤ s.now)
  let s := if x.cur.isSome || late then s.setWin w { x with waiting := x.waiting ++ [r] } else s.winEnter w r
  s.winTimer w

/-- Statuses that an answer may carry to the reply (R224). -/
def winStatus (b : Nat) : Status :=
  if [0, 1, 3, 6, 0x0C].contains b then BitVec.ofNat 8 b else stBadParam

/-- The reply that an answer gives (R224, R75): a read without all its words is BAD_PARAM; a read stops at the first poisoned word. -/
def winAnswerOf (r : WinReq) (st : Status) (ws : List QWord) : Answer :=
  let one := r.cmd.frame.opcode = ocRead
  if r.write then { status := st }
  else if st = stUncorrectable then { status := st, payload := if one then [0] else (ws.take (r.count - 1)).map (·.w) }
  else if st ≠ stOk then { status := st }
  else if ws.length < r.count then { status := stBadParam }
  else
    let ws := ws.take r.count
    if ws.any (·.poison) then
      if one then { status := stPoisoned, payload := ws.map (·.w), poison := true }
      else { status := stPoisoned, payload := (ws.takeWhile (fun q => !q.poison)).map (·.w) }
    else { payload := ws.map (·.w) }

/-- WINDOW_ANSWER (R224): one whole RXQ item of the window engine. One for no request in service is stale. -/
def State.windowAnswer (s : State) (w : Nat) : State :=
  if !s.cluUp (w / 2) || !s.mgtUp then s else
  let (item, rest) := splitItem (s.win w).answer
  if !item.any (·.last) then s else
  let s := s.setWin w { s.win w with answer := rest }
  let h := (item.headD { w := 0 }).w
  match (s.win w).cur with
  | none => s.bump .cluCnt (w / 2) 4
  | some r =>
    if h.bits 23 16 ≠ s.get F.WIN_STAT_RID (w / 2) (w % 2) then s.bump .cluCnt (w / 2) 4
    else
      let a := winAnswerOf r (winStatus (h.bits 7 0)) (item.drop 1)
      let ordered := (s.serviceOf r.cmd).any (·.ordered)
      let s := if r.write ∧ a.status = stOk then s.auditWrite r.cmd.frame r.count (r.data.headD 0) ordered else s
      s.winEnd w r a

/-- WINDOW_TIMEOUT (R225): every request whose time has run out gets TIMEOUT; the item of one in service stays where it is. -/
def State.windowTimeout (s : State) (w : Nat) : State :=
  match s.expire (.window w) with
  | none => s
  | some s =>
    let out := fun (r : WinReq) => decide (r.arrival + s.winTime w ≤ s.now)
    let late := (s.win w).waiting.filter out
    let s := s.setWin w { s.win w with waiting := (s.win w).waiting.filter (fun r => !out r) }
    let s := late.foldl (fun (s : State) r => s.winReply w r { status := stTimeout }) s
    match (s.win w).cur with
    | some r => if out r then s.winEnd w r { status := stTimeout } else s.winTimer w
    | none => s.winTimer w

/-- The request in service, and those that wait, after a loss: of their commands (a reset of MGT), or of the cluster (R396). -/
def State.winSweep (s : State) (w : Nat) : State :=
  let x := s.win w
  let all := x.cur.toList ++ x.waiting
  if all.isEmpty then s
  else if !s.cluUp (w / 2) then
    let s := (s.setWin w {}).disarm (.window w)
    all.foldl (fun (s : State) (r : WinReq) => s.conclude r.cmd { status := stIslandDown }) s
  else
    let gone := fun (r : WinReq) => (s.serviceOf r.cmd).isNone
    let left := x.waiting.filter (fun r => !gone r)
    if x.cur.any gone then ((s.setWin w { x with waiting := left }).winNext w left).winTimer w
    else s.setWin w { x with waiting := left }

end Sys2Proof.Machine
end

