-- ==== Sys2Proof/Machine/AccessOps.lean ====
section
/-!
DEFINITION. The register-access commands at step 8 of R46 and after (spec/03_command_packets.md, R34, R35, R75-R78): READ,
WRITE, WRITE_POSTED, READ_MODIFY_WRITE, READ_BLOCK and WRITE_BLOCK; and steps 5 to 7 of R46 for every opcode.
-/
namespace Sys2Proof

/-- The number of words that an access command covers; `none` when its payload gives none or too many (R73). -/
def Frame.accessCount (f : Frame) : Option Nat :=
  let n := f.payload.length
  match f.opcode.toNat with
  | 0x01 => some 1
  | 0x02 => if n = 1 then some 1 else none
  | 0x03 => if n = 1 then some 1 else none
  | 0x04 => if n = 2 then some 1 else none
  | 0x05 =>
    let k := (f.payload.headD 0).bits 8 0
    if n = 1 ∧ 1 ≤ k ∧ k ≤ 256 then some k else none
  | 0x06 => if n = 0 then none else some n
  | _ => none

/-- The island that a command without an address works on, if that may be in reset while Hihovos serves. -/
def Frame.workIsland (f : Frame) : Option Nat :=
  let op := f.opcode.toNat
  if 0x10 ≤ op ∧ op ≤ 0x12 then (if f.portOp ≤ 123 then some (Machine.portIsland f.portOp) else none)
  else if op = 0x18 ∨ op = 0x19 ∨ op = 0x1A ∨ op = 0x50 ∨ op = 0x51 ∨ op = 0x52 then some 7
  else if op = 0x58 then some 6
  else none

end Sys2Proof

namespace Sys2Proof.Machine

/-! ### Steps 5 to 7 of R46 -/

/-- Is it one of the six opcodes that carry an address? -/
def accessOp (op : BitVec 8) : Bool := decide (1 ≤ op.toNat) && decide (op.toNat ≤ 6)

/-- The places of `n` words from an offset on. -/
def placesOf (off n : Nat) : List (Option Place) := (List.range n).map (fun k => place (off + 4 * k))

/-- Steps 5 to 7 for an access: over its whole range (R34); the flag marks a BAD_PARAM of step 5. In RECOVERY the ROM reaches
three blocks (R76). -/
def State.accessRefused (s : State) (f : Frame) (maint : Bool) : Option (Status × Bool) :=
  let ps := placesOf f.addrOff (f.accessCount.getD 1)
  let all := ps.filterMap id
  if s.mode = .recovery ∧ ps.any (fun p => !p.any (·.inRecovery)) then some (stNotInMode, false)
  else if f.addrNode ≠ f.dstNode ∨ f.addrOff % 4 ≠ 0 ∨ ps.any (·.isNone) then some (stBadParam, true)
  else if f.addrView && !maint then some (stDenied, false)
  else if all.any (s.deniedTo f.addrView) then some (stDenied, false)
  else if all.any (fun p => !s.placeUp p) then some (stIslandDown, false)
  else none

/-- Steps 5 to 7 of R46. -/
def State.refused57 (s : State) (f : Frame) (maint : Bool) : Option (Status × Bool) :=
  if accessOp f.opcode then s.accessRefused f maint
  else match f.workIsland with
    | some i => if s.reachable i then none else some (stIslandDown, false)
    | none => none

/-! ### Windows -/

/-- A request of `n` words to window `w` from byte `o` on (R223). -/
def State.actWindow (s : State) (c : Cmd) (w o : Nat) (write : Bool) (n : Nat) (data : List Word) : State × Answer :=
  if !s.is F.WIN_CFG_ENABLE (w / 2) (w % 2) || decide (o + 4 * n > 0x10000000) then (s, { status := stBadParam })
  else if !s.running (s.winEngine w) then (s, { status := stBusy })
  else
    let at_ := ((s.serviceOf c).map (·.arrival)).getD s.now
    (s.winRequest w { cmd := c, write := write, count := n, off := o, data := data, arrival := at_ }, { wait := true })

/-! ### Reads (R75) -/

/-- Words of a block up to the first that cannot be read. -/
def State.readWords (s : State) (priv : Bool) : List Place → List Word
  | [] => []
  | p :: ps => match s.readPlace priv p with
    | some w => w :: State.readWords s priv ps
    | none => []

/-- READ and READ_BLOCK (R75): a poisoned word, or one that cannot be corrected, ends the read with its status. -/
def State.actRead (s : State) (c : Cmd) : State × Answer :=
  let f := c.frame
  match f.accessCount with
  | none => (s, { status := stBadParam })
  | some n =>
    match place f.addrOff with
    | some (.window w o) => s.actWindow c w o false n []
    | _ =>
      let ps := (placesOf f.addrOff n).filterMap id
      let ws := s.readWords f.addrView ps
      let s := (ps.take (ws.length + 1)).foldl State.readMet s
      match c.poisonAt.filter (· < ws.length) with
      | some k =>
        (s, if f.opcode = ocRead then { status := stPoisoned, payload := ws.take 1, poison := true }
          else { status := stPoisoned, payload := ws.take k })
      | none =>
      if ws.length = ps.length then (s, { payload := ws })
      else (s, { status := stUncorrectable, payload := if f.opcode = ocRead then [0] else ws })

/-! ### Writes (R34, R77, R78) -/

/-- Write words in ascending order, as long as each completes; the first refusal ends it. -/
def State.writeWords (s : State) (priv : Bool) (x : Option Session) : List (Place × Word) → State × BitVec 21 × Status
  | [] => (s, 0, stOk)
  | (p, w) :: rest =>
    let st := s.placeStatus priv p w x
    if st ≠ stOk then (s, 0, st) else
    let (s, m) := s.placeWrite priv p w
    let (s, m', st) := State.writeWords s priv x rest
    (s, m ||| m', st)

/-- A write of a range: nothing is written when any of its words would be refused. A reset of islands follows the reply (R392). -/
def State.actWrites (s : State) (f : Frame) (ordered : Bool) (l : List (Place × Word)) (first : Word) (payload : List Word) :
    State × Answer :=
  let (t, m, st) := s.writeWords f.addrView (s.session? f.session) l
  if st ≠ stOk then (if st = stUncorrectable then (l.map (·.1)).foldl State.readMet s else s, { status := st })
  else (t.auditWrite f l.length first ordered, { payload := payload, after := if m = 0 then none else some (.islands m) })

/-- WRITE, WRITE_POSTED and WRITE_BLOCK. The vat window takes WRITE only; the other two have BAD_PARAM there (DESIGN CHOICE, log entry
50: R161 names READ, READ_BLOCK and WRITE and gives the others no status). -/
def State.actWrite (s : State) (c : Cmd) (ordered : Bool) : State × Answer :=
  let f := c.frame
  match f.accessCount with
  | none => (s, { status := stBadParam })
  | some n =>
    let vat : Bool := match place f.addrOff with | some (.vat _) => true | _ => false
    if vat && f.opcode != ocWrite then (s, { status := stBadParam }) else
    match place f.addrOff with
    | some (.window w o) => if s.mode = Mode.safe then (s, { status := stNotInMode }) else s.actWindow c w o true n f.payload
    | _ => s.actWrites f ordered (((placesOf f.addrOff n).filterMap id).zip f.payload) (f.payload.headD 0) []

/-- READ_MODIFY_WRITE (R35, R75): the old value as the view reads it. One that was tagged poisoned on its way is answered like that of
a READ, and nothing is written (DESIGN CHOICE, log entry 43); nor is it when the old value cannot be corrected, or at the vat window
(BAD_PARAM; DESIGN CHOICE, log entry 50). -/
def State.actModify (s : State) (c : Cmd) (ordered : Bool) : State × Answer :=
  let f := c.frame
  match f.accessCount, place f.addrOff with
  | some _, some (.vat _) => (s, { status := stBadParam })
  | some _, some (.window _ _) => (s, { status := stBadParam })
  | some _, some p =>
    match s.readPlace f.addrView p with
    | none => (s.readMet p, { status := stUncorrectable })
    | some old =>
    let s := s.readMet p
    if c.poisonAt = some 0 then (s, { status := stPoisoned, payload := [old], poison := true }) else
    let m := f.payload.getD 0 0
    let v := f.payload.getD 1 0
    s.actWrites f ordered [(p, (old &&& ~~~m) ||| (v &&& m))] v [old]
  | _, _ => (s, { status := stBadParam })

end Sys2Proof.Machine
end

