-- ==== Sys2Proof/Machine/PortCmdOps.lean ====
section
/-!
DEFINITION. The port and schedule commands at step 8 of R46: PORT_SEND (R79), PORT_CONFIG (R80, R212), PORT_FLUSH (R162, R211),
APPLY_AT, SAMPLE_AT and SNAPSHOT_AT (R81, R182, R183, R190), TABLE_FENCE (R156).
-/
namespace Sys2Proof.Machine

/-! ### PORT_SEND (R79) -/

/-- Does the data of a PORT_SEND or scheduled SEND fit port `p` (R208, R212, R255, R277)? -/
def State.portDataOk (s : State) (p : Nat) (ws : List Word) (bytes : Nat) : Bool :=
  decide (bytes ≤ 4 * ws.length) && decide (4 * ws.length ≤ bytes + 3) &&
    (if p < 26 then macRecordOk ws bytes
     else if p < 58 then s.canRecordOk (p - 26) ws bytes
     else (s.windowOf (p - 58)).isNone)

/-- The unit in which the data of a PORT_SEND waits at its port: words 6 and 7 hold PRIO and BYTES. -/
def portUnit (f : Frame) : Frame :=
  let u : Frame :=
    { ftype := ftPortData, cls := f.cls, dual := f.dual, dstNode := f.dstNode, dstPort := BitVec.ofNat 8 f.portOp,
      srcNode := f.srcNode, srcPort := f.srcPort, seq := f.seq, opcode := f.opcode, w6 := f.w6,
      w7 := BitVec.ofNat 32 f.bytesOp }
  u.withPayload f.payload

def State.actPortSend (s : State) (f : Frame) : State × Answer :=
  let p := f.portOp
  if p < 6 ∨ p > 121 ∨ !s.portDataOk p f.payload f.bytesOp then (s, { status := stBadParam })
  else if !s.portOutOk p then (s, { status := stNotInMode })
  else if f.payload.isEmpty && !(decide (p ≥ 58) && s.eis F.ENG_QCFG_TX_LENWORD (p - 58)) then (s, {})
  else
    let u := portUnit f
    if !s.portAdmits (8 * p + f.cls.toNat) u.size then (s.bump .swcQdrop (8 * p + f.cls.toNat), { status := stBusy })
    else ((s.admitUnit u 122 true true true [{ port := p }]).1, {})

/-! ### PORT_CONFIG (R80) -/

/-- The registers that a kind-specific record writes, in the order in which they are written: R212 for an engine; CAN_CTL,
CAN_CFG, CAN_BT_NOM, CAN_BT_FD for a CAN port; MAC_CFG, MAC_PACK, MAC_ADDR0, MAC_ADDR1 for a MAC port. An empty record writes
none. -/
def kindRecord (p : Nat) : List Word → Option (List (Reg × Nat × Nat × Word))
  | [] => some []
  | [a, b] =>
    if p ≥ 58 then some [(.engQcfg, (p - 58) / 8, (p - 58) % 8, (a &&& 0x3B) ||| (b &&& 0xFFFF7FC0))] else none
  | [a, b, c, d] =>
    if p < 26 then some [(.macCfg, portMac p, 0, a), (.macPack, portMac p, 0, b), (.macAddr0, portMac p, 0, c),
      (.macAddr1, portMac p, 0, d)]
    else if p < 58 then some [(.canBtNom, p - 26, 0, c), (.canBtFd, p - 26, 0, d), (.canCfg, p - 26, 0, b), (.canCtl, p - 26, 0, a)]
    else none
  | _ => none

/-- The words that a record asks for, all at once. -/
def State.tentative (s : State) (l : List (Reg × Nat × Nat × Word)) : State :=
  l.foldl (fun (t : State) e => t.wr e.1 e.2.1 e.2.2.1 (e.1.asked true (s.rd e.1 e.2.1 e.2.2.1) e.2.2.2)) s

/-- Does the row of some register refuse its word, the record being judged as a whole? -/
def State.recordBad (s : State) (l : List (Reg × Nat × Nat × Word)) : Bool :=
  let t := s.tentative l
  l.any (fun e => t.badValue e.1 e.2.1 e.2.2.1 (t.rd e.1 e.2.1 e.2.2.1))

/-- Does the record change a register that is locked? -/
def State.recordBusy (s : State) (l : List (Reg × Nat × Nat × Word)) : Bool :=
  l.any (fun e =>
    let old := s.rd e.1 e.2.1 e.2.2.1
    let a := e.1.asked true old e.2.2.2
    a != old && (s.facetBusy e.1 e.2.1 e.2.2.1 old a || s.fieldBusy e.1 e.2.1 old a))

/-- Write the registers that the record changes. -/
def State.recordWrite (s : State) (l : List (Reg × Nat × Nat × Word)) : State :=
  l.foldl (fun (s : State) e =>
    let old := s.rd e.1 e.2.1 e.2.2.1
    if e.1.asked true old e.2.2.2 = old then s else s.writeReg true e.1 e.2.1 e.2.2.1 e.2.2.2) s

def State.actPortConfig (s : State) (f : Frame) : State × Answer :=
  let p := f.portOp
  let w := fun i => f.payload.getD i 0
  let n := (w 2).toNat
  if p < 6 ∨ p > 121 ∨ f.payload.length < 3 ∨ n > 253 ∨ f.payload.length ≠ 3 + n then (s, { status := stBadParam }) else
  match kindRecord p (f.payload.drop 3) with
  | none => (s, { status := stBadParam })
  | some l =>
    if s.recordBad l then (s, { status := stBadParam })
    else if s.recordBusy l then (s, { status := stBusy })
    else
      let cfg : PortCfg := { node := (w 0 >>> 8).setWidth 24, port := (w 0).setWidth 8, cls := (w 1).setWidth 3,
                             dual := (w 1).getLsbD 8, enable := (w 1).getLsbD 16 }
      let s := s.recordWrite l
      ({ s with ports := tset s.ports p cfg }, {})

/-! ### PORT_FLUSH (R162, R211) -/

/-- Flush the transmit side of a port; how many cells came free. -/
def State.flushPortTx (s : State) (p : Nat) : State × Nat :=
  if p ≤ 4 then
    let (s, n) := s.endCut p
    let (s, m) := s.emptyPort p
    (s, n + m)
  else if 6 ≤ p ∧ p < 26 then s.macFlushTx (portMac p)
  else if 26 ≤ p ∧ p < 58 then s.canFlushTx (p - 26) true
  else if 58 ≤ p ∧ p < 122 then
    let (s, n) := s.emptyPort p
    let s := s.flushTx (p - 58)
    (s.setEng (p - 58) { s.eng (p - 58) with path := [], txn := 0, feed := none, next := [], mid := false }, n)
  else s.emptyPort p

/-- Flush the receive side of a port: what it has not yet offered to the switch core. -/
def State.flushPortRx (s : State) (p : Nat) : State :=
  if 6 ≤ p ∧ p < 26 then s.macFlushRx (portMac p)
  else if 26 ≤ p ∧ p < 58 then s.canFlushRx (p - 26)
  else if 58 ≤ p ∧ p < 122 then
    let n := p - 58
    let s := s.flushRx n
    let s := (s.setEng n { s.eng n with frame := [] }).disarm (.rxPack n)
    match s.windowOf n with
    | some w => s.setWin w { s.win w with answer := [] }
    | none => s
  else s

def State.actPortFlush (s : State) (f : Frame) : State × Answer :=
  let p := f.portOp
  if p > 123 then (s, { status := stBadParam }) else
  let (s, n) := if f.w7.getLsbD 0 then s.flushPortTx p else (s, 0)
  (if f.w7.getLsbD 1 then s.flushPortRx p else s, { w6 := some (BitVec.ofNat 32 n) })

/-! ### The schedule (R182, R183) -/

/-- Words of action data that an action takes (R183). -/
def actionLen (apply : Bool) (action n : Nat) : Bool :=
  if apply then
    match action with
    | 0x01 | 0x02 => n == 2
    | 0x10 => decide (2 ≤ n) && decide (n ≤ 17)
    | 0x20 => n == 3
    | 0x30 | 0x31 => n == 1
    | _ => false
  else
    match action with
    | 0x40 | 0x41 | 0x42 => n == 2
    | 0x43 => n == 1
    | _ => false

/-- The entry that an APPLY_AT or SAMPLE_AT asks for. A hub that serves a broadcast fires under its own node address, and
TIM_ENT_ID shows 0xFFFF for it (R194). -/
def State.entryOf (s : State) (kind : Nat) (f : Frame) : Entry :=
  { kind := kind, port := f.portOp, action := f.actionOp, notify := f.notifyOp, node := f.srcNode, sport := f.srcPort,
    id := f.userOp, session := if isBroadcast f.dstNode then 0xFFFF else f.session, seq := f.seq, t := extTime f.time s.ring64, data := f.payload, cls := f.cls,
    dual := f.dual, from_ := if isBroadcast f.dstNode then s.ownNode else f.dstNode }

/-- Check 2 of R182: PORT, ACTION and action data, and the resources they name (R183, R204, R214, R216). -/
def State.actionBad (s : State) (apply : Bool) (e : Entry) : Bool :=
  let pinsAre := fun (m : Nat) => (List.range 32).all (fun p => !e.pins.getLsbD p || s.get F.PIN_CFG_MODE e.cluster p == m)
  !actionLen apply e.action e.data.length || (e.action != 0x10 && e.port != 0xFF) ||
  match e.action with
  | 0x01 => e.engines.any (fun n => s.running n || !s.startOk n)
  | 0x10 => decide (e.port < 6) || decide (e.port > 121) || !s.portDataOk e.port (e.data.drop 1) ((e.data.headD 0).bits 10 0)
  | 0x20 => !pinsAre 2
  | 0x41 => !pinsAre 1
  | _ => false

/-- Check 3 of R182: the outputs concerned are enabled. -/
def State.actionOutOk (s : State) (e : Entry) : Bool :=
  match e.action with
  | 0x10 => s.portOutOk e.port
  | 0x20 => s.is F.CLU_CFG_OUT_EN e.cluster
  | 0x30 | 0x31 => s.is F.PWR_CFG_OUT_EN
  | _ => true

/-- Checks 4 and 5 of R182, and the entry. -/
def State.schedule (s : State) (e : Entry) (t : Word) : State × Answer :=
  if !s.leadOk t then (s, { status := stTooLate }) else
  match s.freeEntry with
  | none => (s, { status := stBusy })
  | some n => (s.enterEntry n e, { w6 := some (BitVec.ofNat 32 n) })

/-- APPLY_AT (`apply`) and SAMPLE_AT. -/
def State.actSchedule (s : State) (apply : Bool) (f : Frame) : State × Answer :=
  let e := s.entryOf (if apply then 1 else 2) f
  if s.timeInvalid then (s, { status := stNotInMode })
  else if s.actionBad apply e then (s, { status := stBadParam })
  else if !s.actionOutOk e then (s, { status := stNotInMode })
  else s.schedule e f.time

/-- SNAPSHOT_AT (R190): the accepting hub counts it as seen and floods it. -/
def State.actSnapshot (s : State) (f : Frame) : State × Answer :=
  if s.timeInvalid then (s, { status := stNotInMode }) else
  let id := f.w6.bits 15 0
  let (s, a) := s.schedule { s.entryOf 3 f with port := 0, action := 0, notify := false, id := id, data := [] } f.time
  if a.status ≠ stOk then (s, a) else ((s.markSeen id f.time).floodSnap id f.time s.ownNode none, a)

/-! ### TABLE_FENCE (R156) -/

def State.actFence (s : State) (c : Cmd) : State × Answer :=
  let g := s.get F.SWC_FWD_CTL_GEN
  if s.fenceClear g then (s, { w6 := some (BitVec.ofNat 32 g) })
  else
    let at_ := ((s.serviceOf c).map (·.arrival)).getD s.now
    ({ s with cmd := { s.cmd with fences := s.cmd.fences ++ [{ cmd := c, gen := g, until_ := at_ + 5000000 }] } }, { wait := true })

/-- Reply to fences and take them off the list. -/
def State.endFences (s : State) (l : List Fence) (st : Status) : State :=
  let s := { s with cmd := { s.cmd with fences := s.cmd.fences.filter (fun x => !l.contains x) } }
  l.foldl (fun (s : State) (x : Fence) => s.conclude x.cmd
    { status := st, w6 := if st = stOk then some (BitVec.ofNat 32 x.gen) else none }) s

/-- FENCE_COMPLETE: the fences for which no older unit remains. -/
def State.fenceComplete (s : State) : State :=
  if !s.mgtUp then s else s.endFences (s.cmd.fences.filter (fun x => s.fenceClear x.gen)) stOk

/-- FENCE_TIMEOUT (R89): the fence that has waited longest has waited 5 ms; TABLE_BUSY if an older unit still remains. -/
def State.fenceTimeout (s : State) : State :=
  match s.cmd.fences with
  | [] => s
  | x :: _ => if s.mgtUp then (s.advance (x.until_ - s.now)).endFences [x] (if s.fenceClear x.gen then stOk else stTableBusy) else s

end Sys2Proof.Machine
end

