-- ==== Sys2Proof/Machine/HostCmdOps.lean ====
section
/-!
DEFINITION. The commands to the hub as a whole at step 8 of R46 (spec/03_command_packets.md, R71, R82-R92, and the chapters they
cite): profiles, self-tests, health, faults and SAFE, updates, time, the pair, the log, ECHO and RESET_CHIP.
-/
namespace Sys2Proof.Machine

/-! ### Profiles (R83, R416, R418) -/

/-- PROFILE_SELECT: the switch follows the reply. An open debug unlock bars it (R460). -/
def State.actProfileSelect (s : State) (f : Frame) : State × Answer :=
  let p := f.w6.bits 1 0
  if s.is F.SEC_STAT_DEBUG_OPEN then (s, { status := stNotInMode })
  else if !(tget ({} : Profile) s.profiles p).valid then (s, { status := stBadParam })
  else (s, { after := some (.profile p) })

/-- PROFILE_STORE: the class-F registers are staged at acceptance. -/
def State.actProfileStore (s : State) (c : Cmd) : State × Answer :=
  if s.updateBusy then (s, { status := stBusy }) else
  ({ s with upd := { s.upd with storing := some (c, c.frame.w6.bits 1 0, s.profileRecords) } }, { bg := true })

/-! ### Self-tests (R85, R351) -/

/-- TEST of SELFTEST_REQ. -/
def testOp (f : Frame) : Nat := f.w6.bits 7 0

/-- Does the self-test with this code run? -/
def State.testRuns (s : State) (t : Nat) : Bool :=
  s.cmd.service.any (fun e => e.working && e.cmd.frame.opcode == 0x30 && testOp e.cmd.frame == t)

def State.actSelftest (s : State) (f : Frame) : State × Answer :=
  let t := testOp f
  let online := [0x01, 0x02, 0x03, 0x04].contains t
  let offline := [0x10, 0x11, 0x12, 0x13].contains t
  if !online && !offline || (t == 2 && decide (f.w7.bits 2 0 > 4)) then (s, { status := stBadParam })
  else if offline && s.mode == .run then (s, { status := stNotInMode })
  else if s.testRuns t then (s, { status := stBusy })
  else (s, { bg := true })

/-- How many of the low `n` bits are set. -/
def popcount (n : Nat) (m : BitVec 64) : Nat := ((List.range n).filter (fun i => m.getLsbD i)).length

/-- What a self-test that ends finds and does: the failure count. `found`: the units that failed (groups of comparators, engines,
channels), or for a test of one unit the count itself. -/
def State.testResult (s : State) (t arg : Nat) (found : BitVec 128) : State × Nat :=
  match t with
  | 0x03 | 0x13 =>
    let off := s.pchOffOf (arg % 65536) (t == 0x03)
    let on := (List.range 16).filter (fun c => bitOf arg c && !off.contains c)
    let bad := (off.filter (fun c => found.getLsbD c)).length
    let s := off.foldl (fun s c => s.pchCalibrate (t == 0x13) c) s
    (s, bad + (if t == 0x13 || off.isEmpty then on.length else 0))
  | 0x04 =>
    let bad := (List.range 128).filter (fun q => bitOf arg (q % 64 / 8) && found.getLsbD q)
    (bad.foldl (fun (s : State) q => s.raise 0x61 (q % 64)) s, bad.length)
  | 0x12 =>
    let miss := found.toNat % 4096
    let s := (s.put F.MGT_LS_STAT_DETECT (4095 - miss)).put F.MGT_LS_STAT_PASS (bit (miss == 0))
    (if miss = 0 then s else s.raise 0x11, popcount 12 (found.setWidth 64))
  | _ => (s, found.toNat)

/-- SELFTEST_DONE: the completion EVENT with the failure count. -/
def State.selftestDone (s : State) (t : Nat) (found : BitVec 128) : State :=
  if !s.mgtUp then s else
  match s.cmd.service.find? (fun e => e.working && e.cmd.frame.opcode == 0x30 && testOp e.cmd.frame == t) with
  | none => s
  | some e =>
    let (s, n) := s.testResult t e.cmd.frame.w7.toNat found
    s.complete e.cmd stOk [BitVec.ofNat 32 n]

/-! ### Health (R86) -/

/-- The hottest of the sensors that take part; 0x8000 when none does. -/
def State.hottest (s : State) (ks : List Nat) : BitVec 16 :=
  match ks.filterMap s.tempOf with
  | [] => 0x8000
  | t :: ts => BitVec.ofInt 16 (ts.foldl max t)

/-- Pair role: 0 standalone, 1 active, 2 shadow, 3 pairing. -/
def State.pairRole (s : State) : Nat :=
  match s.parSt with
  | 1 => 3
  | 2 | 3 => 1
  | 4 | 5 | 6 | 7 => 2
  | _ => 0

/-- The eight words of R86; progress of the running background command is a free value (log
entry 1). Of several that run the first in service order is shown (DESIGN CHOICE, log entry 50). -/
def State.healthWords (s : State) (priv : Bool) : List Word × State :=
  let links := (List.range 5).foldl (fun (w : Word) l => w.setBits (4 * l + 3) (4 * l) (s.lst l)) 0
  let (n, s) := s.freeIn 0 100
  let run := match s.cmd.service.find? (·.working) with
    | some e => (((0 : Word).setBits 31 24 n).setBits 16 8 e.cmd.frame.tag.toNat).setBits 7 0 e.cmd.frame.opcode.toNat
    | none => 0
  ([s.readReg priv .ctlState 0 0, s.liveRead .ctlRstcause 0 0,
    ((0 : Word).setBits 18 16 s.highest).setBits 15 0 s.latchedSF,
    s.hottest [8, 9] ++ s.hottest [0, 1, 2, 3, 4, 5, 6, 7], links, run, BitVec.ofNat 32 s.pairRole,
    BitVec.ofNat 32 ((s.now - s.boot.lastReset) / 1000000000)], s)

/-- HEALTH_GET. It has no address that gives a view: word 0 is read in the privileged view under a MAINTAIN session and in the
unprivileged one under any other. DESIGN CHOICE, log entry 43. -/
def State.actHealth (s : State) (maint : Bool) : State × Answer :=
  let (ws, s) := s.healthWords maint
  (s, { payload := ws })

/-! ### Faults and SAFE (R84, R379-R381) -/

def State.actFaultAck (s : State) (f : Frame) : State × Answer :=
  let src := f.w6.bits 7 0
  if (fltRow src).isNone then (s, { status := stBadParam }) else (s.faultAck src (f.w7.getLsbD 0), {})

def State.actSafeEnter (s : State) (f : Frame) : State × Answer := (s.enterSafe 1 0 (f.w6.bits 15 0), {})

def State.actSafeLeave (s : State) : State × Answer :=
  if s.safeHeld then (s, { status := stBusy }) else (s.leaveSafe, {})

/-! ### Firmware (R87, R428, R437, R439) -/

def State.actUpdateBegin (s : State) (f : Frame) : State × Answer :=
  let (s, st, w) := s.updateBegin f
  (s, { status := st, w6 := if st = stOk then some w else none })

def State.actUpdateBlock (s : State) (c : Cmd) : State × Answer :=
  let (s, st) := s.updateBlock c.frame c.recordOk
  (s, { status := st })

/-- UPDATE_VERIFY: BAD_PARAM with no update open (DESIGN CHOICE, log entry 43). -/
def State.actUpdateVerify (s : State) (c : Cmd) : State × Answer :=
  match s.upd.open_ with
  | none => (s, { status := stBadParam })
  | some u =>
    if u.session ≠ c.frame.session ∨ u.erasing ∨ u.verify.isSome then (s, { status := stBusy })
    else (s.verifyStart u (some c), { bg := true })

/-- UPDATE_ACTIVATE: in RECOVERY a CMD reset follows the reply (R437). -/
def State.actUpdateActivate (s : State) (f : Frame) : State × Answer :=
  let (s, st) := s.updateActivate f.session
  (s, { status := st, after := if st = stOk ∧ s.mode = Mode.recovery then some .chip else none })

def State.actUpdateConfirm (s : State) : State × Answer := (s.updateConfirm, {})

def State.actUpdateRelay (s : State) (c : Cmd) : State × Answer :=
  let (s, st) := s.updateRelay c
  (s, { status := st, bg := st == stOk })

def State.actUpdateAbort (s : State) (f : Frame) : State × Answer :=
  let (s, st) := s.updateAbort f.session
  (s, { status := st })

/-! ### Time (R88, R175, R176) -/

def State.actTimeStep (s : State) (f : Frame) : State × Answer :=
  let (st, s) := s.timeStep f.w6
  (s, { status := st })
def State.actTimeRate (s : State) (f : Frame) : State × Answer :=
  let (st, s) := s.timeRate f.w6
  (s, { status := st })
def State.actStepRearm (s : State) : State × Answer := (s.stepRearm, {})

/-! ### The pair (R90, R344, R347) -/

/-- PAIR_HANDOVER at the active: the hub that takes over replies. At the shadow, from the order stream: it is the one that will.
Sent to the own address of the active (R22), it runs as well, and this hub replies once it has given up the role: the shadow has no
such command to answer. DESIGN CHOICE, log entry 43. -/
def State.actHandover (s : State) (c : Cmd) (ordered : Bool) : State × Answer :=
  if ordered then
    ({ s with pair := { s.pair with answer := some c } }, { wait := true })
  else if !s.canHandOver then (s, { status := stBusy })
  else if s.pair.join.any (fun j => j.compat != s.compatCrc) then (s, { status := stIncompatible })
  else
    let s := if c.frame.dstNode = s.ownNode then { s with pair := { s.pair with answer := some c } } else s.unserve c
    (s.startHandover (some c), { wait := true })

def State.actPairStatus (s : State) : State × Answer :=
  (s, { payload := [s.liveRead .parStat 0 0, s.liveRead .parPartner 0 0, s.liveRead .parOrder 0 0, s.liveRead .parLastTime 0 0] })

/-- The reply to PAIR_HANDOVER leaves the new active once it holds ILK, or the old one, where it was sent to that hub's own address,
once the handover is over; BUSY where it was given up. -/
def State.pairAnswer (s : State) : State :=
  match s.pair.answer with
  | some c =>
    if s.pair.abandoned || (if c.frame.dstNode = s.ownNode then s.pair.handover.isNone else s.parSt == psActiveAlone) then
      let st := if s.pair.abandoned then stBusy else stOk
      let s := { s with pair := { s.pair with answer := none, abandoned := false } }
      s.finish c false { status := st }
    else s
  | none => s

/-! ### The log (R40, R91, R361) -/

/-- LOG_READ: INDEX counts the records that the session may read. A flash record that fails its CRC ends the read; which one of
them does is a free value (log entry 1). -/
def State.actLogRead (s : State) (c : Cmd) (maint : Bool) : State × Answer :=
  let f := c.frame
  let n := f.logCountOp
  let all := if f.logSrcOp then s.mgt.flashLog else s.mgt.ramLog.map (·.1)
  let recs := ((if maint then all else all.filter (fun (r : LogRec) => !r.audit)).drop f.logIndexOp).take n
  if n < 1 ∨ n > 16 ∨ recs.isEmpty then (s, { status := stBadParam })
  else if f.logSrcOp && !c.recordOk then
    let (k, s) := s.freeIn 0 (recs.length - 1)
    (s, { status := stUncorrectable, payload := (recs.take k).flatMap LogRec.words })
  else (s, { payload := recs.flatMap LogRec.words })

/-! ### ECHO, RESET_CHIP, sessions -/

/-- ECHO; to a broadcast every hub answers with an EVENT (R60, R71), whose CLASS is the command's (DESIGN CHOICE, log entry 50). -/
def State.actEcho (s : State) (f : Frame) : State × Answer :=
  if isBroadcast f.dstNode then
    let e := s.event s.ownNode 0xFF f.srcNode f.srcPort.toNat f.cls.toNat f.dual f.payload
    (s.sendOwn { e with opcode := ocEcho, tag := f.tag, w6 := f.w6, w7 := f.w7 }, {})
  else (s, { payload := f.payload })

def State.actResetChip (s : State) (f : Frame) : State × Answer :=
  if f.w6 ≠ 0xA5C3 then (s, { status := stBadParam }) else (s, { after := some .chip })

/-- SESSION_CLOSE closes the session named in the header. -/
def State.actSessionClose (s : State) (f : Frame) : State × Answer := (s.closeSession f.session 1, {})

end Sys2Proof.Machine
end

