-- ==== Sys2Proof/Machine/ServeOps.lean ====
section
/-!
DEFINITION. Serving commands (spec/02_address_space_and_views.md R46, spec/03_command_packets.md R56-R71): the order of checks,
acceptance, execution in the order of R68, and what follows a reply that has left.
-/
namespace Sys2Proof.Machine

/-! ### Execution (step 8 of R46) -/

/-- Step 8 and the effect of a command in service. -/
def State.act (s : State) (e : Service) : State × Answer :=
  let c := e.cmd
  let f := c.frame
  match f.opcode.toNat with
  | 0x01 => s.actRead c
  | 0x02 => s.actWrite c e.ordered
  | 0x03 => s.actWrite c e.ordered
  | 0x04 => s.actModify c e.ordered
  | 0x05 => s.actRead c
  | 0x06 => s.actWrite c e.ordered
  | 0x10 => s.actPortSend f
  | 0x11 => s.actPortConfig f
  | 0x12 => s.actPortFlush f
  | 0x18 => s.actSchedule true f
  | 0x19 => s.actSchedule false f
  | 0x1A => s.actSnapshot f
  | 0x20 => s.openSession f e.x
  | 0x21 => s.actSessionClose f
  | 0x28 => s.actProfileSelect f
  | 0x29 => s.actProfileStore c
  | 0x30 => s.actSelftest f
  | 0x31 => s.actHealth e.maint
  | 0x38 => s.actFaultAck f
  | 0x39 => s.actSafeEnter f
  | 0x3A => s.actSafeLeave
  | 0x40 => s.actUpdateBegin f
  | 0x41 => s.actUpdateBlock c
  | 0x42 => s.actUpdateVerify c
  | 0x43 => s.actUpdateActivate f
  | 0x44 => s.actUpdateConfirm
  | 0x45 => s.actUpdateRelay c
  | 0x46 => s.actUpdateAbort f
  | 0x50 => s.actTimeStep f
  | 0x51 => s.actTimeRate f
  | 0x52 => s.actStepRearm
  | 0x58 => s.actFence c
  | 0x60 => s.actHandover c e.ordered
  | 0x61 => s.actPairStatus
  | 0x70 => s.actLogRead c e.maint
  | 0x7E => s.actEcho f
  | _ => s.actResetChip f

/-- A command in service is refused. -/
def State.refuse (s : State) (e : Service) (st : Status) : State := (s.bump .mgtCnt 1).finish e.cmd e.ordered { status := st }

/-- Execute a command in service: the address of core B's commands (R354), steps 5 to 7, poison (R72), step 8. -/
def State.execute (s : State) (e : Service) : State :=
  let f := e.cmd.frame
  if e.cmd.via = .localLogic ∧ f.dstNode ≠ s.ownNode then s.refuse e stBadParam else
  match s.refused57 f e.maint with
  | some (st, five) => (if five then s.sat F.CTL_DENYCNT_BADADDR_CNT else s).refuse e st
  | none =>
    if f.poison then s.refuse e stPoisoned else
    let (s, a) := s.act e
    if a.wait then s
    else (if a.status = stOk ∨ a.status = stUncorrectable then s else s.bump .mgtCnt 1).finish e.cmd e.ordered a

/-! ### Acceptance -/

/-- Do two commands come from one initiator in one class (R62, R68)? -/
def sameStream (a b : Frame) : Bool := a.srcNode == b.srcNode && a.srcPort == b.srcPort && a.cls == b.cls

/-- Do two commands access a common register (R36)? -/
def sharesRegister (a b : Frame) : Bool :=
  accessOp a.opcode && accessOp b.opcode && decide (a.addrOff < 0xE00000) &&
  decide (a.addrOff < b.addrOff + 4 * b.accessCount.getD 1) && decide (b.addrOff < a.addrOff + 4 * a.accessCount.getD 1)

/-- Must a command wait behind those in `before` whose work is not done (R36, R68), or behind the comparator test (R351)? -/
def State.mustWait (s : State) (before : List Service) (f : Frame) : Bool :=
  before.any (fun e => !e.bg && e.reply.isNone && (sameStream e.cmd.frame f || sharesRegister e.cmd.frame f)) || s.testRuns 0x12

/-- The place in service of a command that is accepted. -/
def State.newService (s : State) (c : Cmd) (maint : Bool) (x : KeyExchange) : Service :=
  { cmd := c, held := s.mustWait s.cmd.service c.frame, maint := maint, arrival := s.now, x := x }

/-- A command enters service: it counts, restarts its session's idle time, and goes into the order stream when it is for the pair
address. -/
def State.enter (s : State) (t : Target) (e : Service) : State :=
  let f := e.cmd.frame
  let s := (s.bump .mgtCnt 0).touchSession f.session
  let s := if e.cmd.via = .localLogic then s else { s with mgt := { s.mgt with lastHostCmd := s.now } }
  let s := { s with cmd := { s.cmd with service := s.cmd.service ++ [e] } }
  if t = .pair then s.sendOrder f else s

/-- A command is accepted, and runs unless it must wait. -/
def State.accept (s : State) (c : Cmd) (t : Target) (maint : Bool) (x : KeyExchange) : State :=
  let e := s.newService c maint x
  let s := s.enter t e
  if e.held then s else s.execute e

/-- A refusal under steps 1 to 4 of R46 or under R63: a command that was never in service leaves no cache entry (R67). -/
def State.reject (s : State) (c : Cmd) (st : Status) : State :=
  ((s.bump .mgtCnt 1).noteRefusal c.frame st false).reply c false { status := st }

/-- Do two frames carry the identity of one command (R67)? -/
def sameIdentity (a b : Frame) : Bool :=
  a.srcNode == b.srcNode && a.srcPort == b.srcPort && a.session == b.session && a.tag == b.tag && a.opcode == b.opcode

/-- The cache entry of a command, while it lives. -/
def State.cached (s : State) (f : Frame) : Option CacheEntry :=
  s.cmd.cache.find? (fun e => e.node == f.srcNode && e.port == f.srcPort && e.session == f.session && e.tag == f.tag &&
    e.opcode == f.opcode && (e.leaving || decide (s.now < e.expires)))

/-- The stored reply again, with a new SEQ and the current TIME (R67); to core B through its response ring (R354). -/
def State.resendReply (s : State) (c : Cmd) (e : CacheEntry) : State :=
  let f : Frame := { e.reply with time := BitVec.ofNat 32 s.ringNs, gcm := [] }
  if c.via = .localLogic then (s.bump .mgtCnt 2).respond f else (s.bump .mgtCnt 2).sendOwn f

/-- Step 4 of R46, and R63. -/
def State.admit4 (s : State) (row : OpRow) (c : Cmd) (t : Target) (maint : Bool) (x : KeyExchange) : State :=
  if !row.inMode s.mode then s.reject c stNotInMode
  else if s.cmd.service.length ≥ 512 then s.reject c stNoCredit
  else s.accept c t maint x

/-- Steps 2 and 3 of R46, then the retries of R67. -/
def State.admit2 (s : State) (c : Cmd) (t : Target) (r : Rights) (x : KeyExchange) : State :=
  let f := c.frame
  match opRow f.opcode with
  | none => s.reject c stBadOpcode
  | some row =>
    if t = .broadcast && !broadcastOp f.opcode then s.reject c stBadOpcode
    else if !s.allowed c t r then s.reject c stDenied
    else match (if f.retry then s.cached f else none) with
      | some e => s.resendReply c e
      | none =>
        if f.retry && s.cmd.service.any (fun e => sameIdentity e.cmd.frame f) then s
        else s.admit4 row c t (r == .maintain) x

/-- Can a command come through this attachment now? In BOOT from step B09 on (R74); in RECOVERY through the tap and the bridge
(R437); from core B in split mode (R352, R354). -/
def State.hears (s : State) (c : Cmd) : Bool :=
  s.mgtUp && s.boot.switch.isNone && (s.mode != .boot || s.boot.step.any (fun n => decide (n ≥ 9))) &&
  (s.mode == .recovery || s.islandUp 6) &&
  match c.via with
  | .ring => true
  | .pcie => s.pcieUp
  | .comm m => s.mode != .recovery && s.isComm (16 + m.val)
  | .localLogic => s.mode != .recovery && !s.is F.MGT_STAT_LOCKSTEP

/-- The ROM takes one copy of a frame by its SEQ (R117): has this one been taken? -/
def State.romTaken (s : State) (c : Cmd) : Bool :=
  s.mode == .recovery && c.via == .ring && (tget [] s.cmd.romSeqs (pressKey c.frame)).contains c.frame.seq

def State.romTake (s : State) (c : Cmd) : State :=
  if s.mode = .recovery ∧ c.via = .ring then
    let l := c.frame.seq :: tget [] s.cmd.romSeqs (pressKey c.frame)
    { s with cmd := { s.cmd with romSeqs := tset s.cmd.romSeqs (pressKey c.frame) (l.take 64) } }
  else s

/-- The source node and port of a frame from a PCIe or commissioning host, whatever they held on arrival (R24). -/
def State.sourced (s : State) (c : Cmd) : Cmd :=
  match c.via with
  | .pcie => { c with frame := { c.frame with srcNode := s.ownNode, srcPort := 5 } }
  | .comm m => { c with frame := { c.frame with srcNode := s.ownNode, srcPort := BitVec.ofNat 8 (6 + m.val) } }
  | _ => c

/-- A COMMAND with opcode `op` reaches the hub: the checks of R46 in their order. A frame with an opcode that is not defined may
come as any row. A frame that is not for this hub changes nothing. -/
def State.serve (s : State) (op : BitVec 8) (c : Cmd) (x : KeyExchange := {}) : State :=
  let c := s.sourced c
  let f := c.frame
  if !s.hears c || f.malformed || ((opRow f.opcode).isSome && f.opcode != op) || s.romTaken c then s else
  match s.target c with
  | none => s
  | some t =>
    let s := s.romTake c
    match s.rights c t with
    | none => s.reject c stAuthFail
    | some r => s.admit2 c t r x

/-- RETRY_CACHE_EXPIRE (R67): the oldest entry whose reply has left lapses. -/
def State.cacheExpire (s : State) : State :=
  match s.cmd.cache.find? (fun e => !e.leaving) with
  | none => s
  | some e => { s.advance (e.expires - s.now) with cmd := { s.cmd with cache := s.cmd.cache.eraseP (fun x => !x.leaving) } }

/-! ### What follows a reply that has left (R83, R92, R392) -/

/-- Is a frame of session `n` still to be sealed, or a command of it in service (R42)? -/
def State.owes (s : State) (n : BitVec 16) : Bool :=
  s.cmd.service.any (fun e => e.cmd.frame.session == n) || s.ingress.any (fun x => x.own && x.frame.session == n) ||
  s.cmd.romWait.any (fun f => f.session == n) || s.pair.heldFrames.any (fun h => h.2.session == n)

/-- Keys of closed sessions are given up once nothing is to be sealed under them. -/
def State.forget (s : State) : State := { s with cmd := { s.cmd with gone := s.cmd.gone.filter (fun x => s.owes x.num) } }

/-- Commands whose reply or completion EVENT has left are out of service (R63), and the 1 s of cache entries begins (R67). -/
def State.departed (s : State) : State :=
  { s with cmd := { s.cmd with
      service := s.cmd.service.filter (fun e => e.reply.all s.stillHere)
      cache := s.cmd.cache.map (fun e =>
        if e.leaving && !s.stillHere e.reply then { e with leaving := false, expires := s.now + 1000000000 } else e) } }

/-- A command of the bridge that has gone from the hub by no lane, taken by a port of this hub or dropped, runs its timeout from
there (R64). -/
def State.lostCommands (s : State) : State :=
  s.hbr.trk.foldl (fun s e => if e.2.waits && !s.stillHere e.2.cmd.frame then s.startTimeout e.1 else s) s

/-- Begin the switch to profile `p` (R418): a PSW reset, from which HEALTH_GET counts its seconds (R86). -/
def State.switchBegin (s : State) (p : Nat) : State :=
  let b := { s.boot with switch := some (p, s.get F.CTL_STATE_ACTIVE_PROF, s.mode), lastReset := s.now }
  { s.switchReset with boot := b }

def State.runAfter (s : State) : After → State
  | .islands m => s.resetIslands m
  | .opened n old => let s := s.sessionOpened n
    match old with
    | some o => s.sessionClosing o
    | none => s
  | .chip => s.chipReset .cmd
  | .profile p => s.switchBegin p

/-- Do what was waiting for replies that have left. -/
def State.runDue (s : State) : State :=
  let due := s.cmd.after.filter (fun a => !s.stillHere a.1)
  let s := { s with cmd := { s.cmd with after := s.cmd.after.filter (fun a => s.stillHere a.1) } }
  due.foldl (fun (s : State) a => s.runAfter a.2) s

/-! ### Commands that waited (R68) -/

/-- The first held command that may run now. -/
def State.nextHeld (s : State) (before : List Service) : List Service → Option Service
  | [] => none
  | e :: rest =>
    if e.held && !s.mustWait before e.cmd.frame then some e else State.nextHeld s (before ++ [e]) rest

/-- Run held commands as they become free. -/
def State.runHeld : Nat → State → State
  | 0, s => s
  | n + 1, s =>
    if !s.mgtUp || s.boot.switch.isSome then s else
    match s.nextHeld [] s.cmd.service with
    | none => s
    | some e =>
      let e' := { e with held := false }
      let l := s.cmd.service.map (fun (x : Service) => if x == e then e' else x)
      State.runHeld n ({ s with cmd := { s.cmd with service := l } }.execute e')

/-! ### The end of a step -/

/-- Nothing waits for the end of this step: no reaction due, no command in service, no window request, no output level due at its
ball, no reply that is leaving and nothing that follows one. -/
def State.quiet (s : State) : Bool :=
  s.flt.due.isEmpty && s.cmd.after.isEmpty && s.cmd.service.isEmpty && s.cmd.cache.all (fun e => !e.leaving) &&
  s.cmd.romWait.isEmpty && s.pinsFlowed && s.hbr.trk.all (fun e => !e.2.waits) && s.pair.answer.isNone && s.hbr.txDone.isNone && s.cmd.gone.isEmpty &&
  s.wins.all (fun e => e.2.cur.isNone && e.2.waiting.isEmpty)

/-- The end of every step: reactions that are due (R373), window requests whose cluster or command is gone, the reply to a
handover, replies that have left and what follows them, held commands. -/
def State.done (s : State) : State :=
  if s.quiet then s else
  let s := s.flowAll.settle
  let s := ((List.range 16).foldl State.winSweep s).txLooked.pairAnswer.romFlush.lostCommands.departed.runDue
  (State.runHeld s.cmd.service.length s).forget.settle

end Sys2Proof.Machine
end

