-- ==== Sys2Proof/Machine/EventOps.lean ====
section
/-!
DEFINITION. Events around the command layer: the hub as initiator (R62, R64), the order stream as a shadow applies it (R333), core
B's requests (R354), the host's access through BAR0 (R293), the end of a profile switch (R418, R419), session timers.
-/
namespace Sys2Proof.Machine

/-! ### The hub as initiator (R56, R62, R64) -/

/-- The commands of Hihovos that are outstanding; those of the bridge stand in its tracker. -/
def State.ownOutst (s : State) (tag : BitVec 9) : Option Outst := s.cmd.outstanding.find? (fun o => o.tag == tag)

def State.dropOutst (s : State) (tag : BitVec 9) : State :=
  let s := { s with cmd := { s.cmd with outstanding := s.cmd.outstanding.filter (fun o => o.tag != tag) } }
  (s.disarm (.cmdTimeout 0xFF tag.toNat)).disarm (.quarantine 0xFF tag.toNat)

/-- Is a frame addressed to this hub, by its own address, by the pair address that it serves, or by a broadcast (R56)? Commands
leave under the own address, so what comes to another one matches none of them. -/
def State.toHere (s : State) (f : Frame) : Bool :=
  f.dstNode == s.ownNode || (s.servesPair && f.dstNode == s.pairNode) || s.broadcastHere f.dstNode

/-- REPLY_RECEIVE: at port 5 the tracker's, or the report of a failed posted write; at port 0xFF or 122 Hihovos's. -/
def State.replyReceive (s : State) (f : Frame) (authOk : Bool) : State :=
  if f.malformed || f.ftype != ftReply || !s.toHere f then s
  else if f.dstPort = 5 then
    if !s.pcieUp then s
    else if f.dstNode ≠ s.ownNode then s.bump .hbrCnt 4
    else if f.opcode = ocWritePosted then s.postedReply f
    else if f.tag.toNat < s.trkSize then s.trkReply f authOk
    else s
  else if f.dstPort = 0xFF ∨ f.dstPort = 122 then
    if !s.mgtUp then s else
    match (if f.dstNode = s.ownNode then s.ownOutst f.tag else none) with
    | some o => if o.quarantine then s.bump .mgtCnt 3 else s.dropOutst f.tag
    | none => s.bump .mgtCnt 3
  else s

/-- EVENT_RECEIVE: an EVENT to Hihovos that matches no command of its own is discarded and counted. -/
def State.eventReceive (s : State) (f : Frame) : State :=
  if f.malformed || f.ftype != ftEvent || !s.toHere f || !s.mgtUp || (f.dstPort != 0xFF && f.dstPort != 122) then s
  else if f.dstNode == s.ownNode && s.cmd.outstanding.any (fun o => o.tag == f.tag && o.opcode == f.opcode && o.node == f.srcNode) then s
  else s.bump .mgtCnt 3

/-- COMMAND_TIMEOUT and QUARANTINE_END: the quarantine lasts as long as the timeout that the command started with (R47, R64). -/
def State.commandTimeout (s : State) (port : BitVec 8) (tag : BitVec 9) : State :=
  if port = 5 then s.trkTimeout tag.toNat else
  match s.expire (.cmdTimeout port.toNat tag.toNat) with
  | none => s
  | some s =>
    let l := s.cmd.outstanding.map (fun (o : Outst) => if o.tag == tag then { o with quarantine := true } else o)
    { s with cmd := { s.cmd with outstanding := l } }.arm (.quarantine port.toNat tag.toNat)
      (((s.cmd.outstanding.find? (fun (o : Outst) => o.tag == tag)).map Outst.period).getD 0)

def State.quarantineEnd (s : State) (port : BitVec 8) (tag : BitVec 9) : State :=
  if port = 5 then s.trkRelease tag.toNat else
  match s.expire (.quarantine port.toNat tag.toNat) with
  | none => s
  | some s => s.dropOutst tag

/-! ### The order stream at the shadow (R333) -/

/-- A COMMAND of the order stream: executed in its turn without the checks that the active has made and without a reply;
SESSION_OPEN and SESSION_CLOSE are not. APPLY_AT and SAMPLE_AT wait for the REPLY order, which names their entry (R188). -/
def State.orderCommand (s : State) (f : Frame) : State :=
  if f.opcode = ocSessionOpen ∨ f.opcode = 0x21 ∨ (opRow f.opcode).isNone ∨ !s.mgtUp then s else
  if f.opcode = ocApplyAt ∨ f.opcode = ocSampleAt then
    let s := s.touchSession f.session
    { s with pair := { s.pair with scheds := s.pair.scheds ++ [f] } }
  else
  let e : Service :=
    { cmd := { frame := f }, held := s.mustWait s.cmd.service f, ordered := true,
      maint := (s.session? f.session).any (·.maint), arrival := s.now }
  let s := s.touchSession f.session
  let s := { s with cmd := { s.cmd with service := s.cmd.service ++ [e] } }
  if e.held then s else s.execute e

/-- The REPLY to an APPLY_AT or SAMPLE_AT of the order stream: an accepted one is entered under the active's entry number (R188).
An entry that the shadow holds under that number is replaced (DESIGN CHOICE, log entry 50). -/
def State.orderSchedule (s : State) (r : Frame) : State :=
  let mine := fun (f : Frame) => f.srcNode == r.dstNode && f.srcPort == r.dstPort && f.tag == r.tag && f.opcode == r.opcode
  match s.pair.scheds.find? mine with
  | none => s
  | some f =>
    let s := { s with pair := { s.pair with scheds := s.pair.scheds.filter (fun f => !mine f) } }
    if r.status ≠ stOk then s else s.enterEntry (r.w6.bits 7 0) (s.entryOf (if f.opcode = ocApplyAt then 1 else 2) f)

/-- The REPLY of the order stream becomes the retry-cache entry of its command. A PAIR_HANDOVER that the active refuses is answered
by the active. -/
def State.orderReply (s : State) (r : Frame) : State :=
  let s := s.orderSchedule r
  let s := if r.opcode = ocSessionOpen ∧ r.status = stOk then s.sessionOpened (r.w6.setWidth 16) else s
  let mine := fun (c : Cmd) => c.frame.srcNode == r.dstNode && c.frame.srcPort == r.dstPort && c.frame.tag == r.tag &&
    r.opcode == c.frame.opcode
  let s := match s.pair.answer.filter mine with
    | some c => { s.unserve c with pair := { s.pair with answer := none } }
    | none => s
  s.cachePut { srcNode := r.dstNode, srcPort := r.dstPort, dstNode := r.srcNode, session := r.session, tag := r.tag,
               opcode := r.opcode } r

/-- The counts of an order frame on the twin link (R52, R112); why it is not good is not known here: a bad frame check or the rind. -/
def State.countOrder (s : State) (f : Frame) (good : Bool) : State :=
  if !s.laneUp 4 then s else
  let s := s.bump .lnkCnt 4 0
  let s := if f.malformed then s.bump .lnkCnt 4 4 else s
  if good then s else
  let (w, s) := s.fresh
  (s.bump .lnkCnt 4 2).bump .lnkCnt 4 3 (w.toNat % 2)

/-- ORDER: one whose rind is not GOOD is answered with NAK and not applied. -/
def State.orderIn (s : State) (on : BitVec 16) (f : Frame) (good : Bool) : State :=
  let s := s.countOrder f good
  if !s.follows || f.malformed then s
  else if !good then s.orderSet 4 (s.pair.expect % 65536)
  else
    let (s, ok) := s.takeOrder on
    if !ok then s
    else if f.ftype = ftCommand then (s.pressFollow f).orderCommand f
    else if f.ftype = ftReply then (s.orderReply f).seqFollow f
    else if f.ftype = ftPortData ∨ f.ftype = ftEvent then (s.seqFollow f).cancelHeld f
    else s

/-- SESSION: the session table follows the active's (R44). A record that fails its check is a mismatch and a failed transfer
(R456). -/
def State.sessionIn (s : State) (on : BitVec 16) (r : SessionOrder) : State :=
  let (s, ok) := s.takeOrder on
  if !ok then s
  else if !r.ok then s.digestMiss.transferFailed
  else
    let n := r.sess.num
    let s := s.dropSessions (fun x => x.pair && x.num == n)
    if r.opened then
      let x := { r.sess with pair := true, lastAccept := s.now }
      { s with cmd := { s.cmd with sessions := s.cmd.sessions ++ [x] } }.armIdle n
    else s

/-! ### Session timers (R42) -/

/-- Does this hub close the session by itself? A shadow follows its active. -/
def State.closesSession (s : State) (n : BitVec 16) : Bool := !(s.session? n).any (fun x => x.pair && !s.servesPair)

def State.sessionIdle (s : State) (n : BitVec 16) : State := if s.closesSession n then s.sessIdle n else s
def State.sessionUnused (s : State) (n : BitVec 16) : State := if s.closesSession n then s.sessUnused n else s
def State.sessionSpent (s : State) (n : BitVec 16) : State := if s.closesSession n then s.sessSpent n else s

/-! ### Core B (R354) -/

/-- Commands of core B that have not had their reply (R354). -/
def State.llOutstanding (s : State) : Nat := (s.cmd.service.filter (fun e => e.cmd.via == .localLogic)).length

/-- LL_REQUEST (R354): core B writes the frame into the request slot and advances REQ_TAIL, having taken the responses that stand in
the other ring (DESIGN CHOICE, log entry 42); Hihovos serves it as a command that arrives at port 0xFF. Core B keeps to tags 0-15 and
to 16 commands outstanding. -/
def State.llRequest (s : State) (f : Frame) : State :=
  let g : Frame := { f with ftype := ftCommand, dstPort := 0xFF, srcNode := s.ownNode, srcPort := 122, session := 0, gcm := [] }
  let c : Cmd := { frame := g, via := .localLogic }
  if !s.hears c || g.malformed || decide (15 < f.tag.toNat) || decide (16 ≤ s.llOutstanding) then s else
  let s := s.putSlot llRequests (s.get F.MGT_LL_MBOX_REQ_TAIL) f
  let s := s.put F.MGT_LL_MBOX_RSP_HEAD (s.get F.MGT_LL_MBOX_RSP_TAIL)
  let s := s.put F.MGT_LL_MBOX_REQ_TAIL (s.get F.MGT_LL_MBOX_REQ_TAIL + 1)
  let s := s.put F.MGT_LL_MBOX_REQ_HEAD (s.get F.MGT_LL_MBOX_REQ_HEAD + 1)
  s.serve g.opcode c

/-! ### BAR0 (R292, R293) -/

/-- BAR0_ACCESS: the bridge registers in the privileged view; keys are written here and nowhere else. -/
def State.bar0 (s : State) (off : Nat) (wr : Option Word) (beOk : Bool) : State :=
  if !s.pcieUp || decide (off ≥ 0x10000) then s
  else if !beOk || off % 4 != 0 then s.tlpBad wr.isNone
  else match locate (0x700000 + off), wr with
    | none, none => s.hostOut (.data 0)
    | none, some _ => s
    | some (r, i, j), none => s.hostOut (.data (s.readReg true r i j))
    | some (r, i, j), some w =>
      if r = .hbrKey then s.wr .hbrKey i j w
      else if s.writeStatus true r i j w none ≠ stOk then s
      else s.writeReg true r i j w

/-! ### The end of a profile switch (R418, R419) -/

/-- Islands that a profile switch resets. -/
def switchIslands : List Nat := [6, 8, 9, 10, 11, 12, 13, 14, 15, 16, 17, 18, 20]

/-- The class-F register instances of the islands that a switch does not reset, with the words the active profile gives them. -/
def State.switchWrites (s : State) : List (Reg × Nat × Nat × Word) :=
  let recs := s.profile.records
  (allRegs.filter (fun r => r.row.cls == .f)).flatMap (fun r => (List.range r.row.n1).flatMap (fun i =>
    if switchIslands.contains (r.island i) then [] else (List.range r.row.n2).map (fun j =>
      let m := r.writableMask
      let d := resetWord r i j
      (r, i, j, (d &&& ~~~m) ||| (((tfind recs (r.addr i j)).getD d) &&& m)))))

/-- Does a register refuse the word `w` for its value or because it is locked? The mode limits of host writes do not bind the
reload, as at boot (R415). -/
def State.reloadRefused (s : State) (r : Reg) (i j : Nat) (w : Word) : Bool :=
  let old := s.liveRead r i j
  let a := r.asked true old w
  r.writable true && (s.writeBad r i j a || s.writeBusy r i j old a)

/-- Step 5: privileged WRITEs; how many their registers refuse. -/
def State.switchStep5 (s : State) : State × Nat :=
  s.switchWrites.foldl (fun (a : State × Nat) (e : Reg × Nat × Nat × Word) =>
    let t := a.1
    if !t.reachable (e.1.island e.2.1) || t.reloadRefused e.1 e.2.1 e.2.2.1 e.2.2.2 then (t, a.2 + 1)
    else (t.writeReg true e.1 e.2.1 e.2.2.1 e.2.2.2, a.2)) (s, 0)

/-- Clear the validity flag of a profile that failed its check. -/
def State.invalidate (s : State) (p : Nat) : State :=
  { s with profiles := tset s.profiles p { tget ({} : Profile) s.profiles p with valid := false } }

/-- Step 3: the profile that is loaded, or its defaults. `ok` and `prevOk`: the checks of the profile named and of the one that
was active. -/
def State.switchLoad (s : State) (p prev : Nat) (ok prevOk hadPrev : Bool) : State :=
  let good := fun (s : State) (b : Bool) (n : Nat) => b && (tget ({} : Profile) s.profiles n).valid
  if good s ok p then s.profileLoaded p false
  else
    let s := s.invalidate p
    if hadPrev && good s prevOk prev then s.profileLoaded prev false
    else (if hadPrev then s.invalidate prev else s).profileLoaded p true

/-- Steps 6 and 7: the islands come back, the record with the number of entries that were not loaded, and the mode. -/
def State.switchFinish (s : State) (skipped : Nat) : State :=
  let is := switchIslands.filter (s.rd .islPwrStat).getLsbD
  let s := is.foldl State.resyncToken (is.foldl State.releaseIsland s)
  let s := { s with boot := { s.boot with switch := none } }
  let s := s.log true 0 0 0 evProfile { opcode := 0x28 }
    [0x28, BitVec.ofNat 32 (s.get F.CTL_STATE_ACTIVE_PROF), BitVec.ofNat 32 skipped]
  if s.boot.noProfile then s.enterSafe 1 0 0xFFF1
  else if s.mode = .safe then s
  else
    let old := s.mode
    ((s.setMode .run).pwrRun.cluRun).logMode old none 0

/-- The records that are not loaded, by the switch's own rule or because no register has their address. -/
def State.switchSkipped (s : State) : Nat :=
  s.skippedRecords switchIslands.contains + (s.profile.records.filter (fun e => (locate e.1).isNone)).length

/-- PROFILE_SWITCH_END: steps 3 to 7. -/
def State.profileSwitchEnd (s : State) (ok prevOk : Bool) : State :=
  match s.boot.switch with
  | none => s
  | some (p, prev, _) =>
    let had := !s.boot.noProfile
    let s := ((s.switchLoad p prev ok prevOk had).loadProfile switchIslands.contains).fwdCommit
    s.switchStep5.1.switchFinish (s.switchSkipped + s.switchStep5.2)

end Sys2Proof.Machine
end

