-- ==== Sys2Proof/Machine/BootProfiles.lean ====
section
/-!
DEFINITION. Start-up, profiles, self-tests and SLEEP (R411-R424).
-/
namespace Sys2Proof.Machine

/-- BOOT_START (R411): the boot sequence starts. -/
def execBootStart (s : State) : Host.Outcome State Fault Refusal := .next s.bootStart.done

/-- BOOT_STEP_DONE (R412): a boot step ends. -/
def execBootStepDone (r : StepResult) (s : State) : Host.Outcome State Fault Refusal := .next (s.bootStepDone r).done

/-- PROFILE_SWITCH_END (R418): the profile switch ends. -/
def execProfileSwitchEnd (ok prevOk : Bool) (s : State) : Host.Outcome State Fault Refusal :=
  .next (s.profileSwitchEnd ok prevOk).done

/-- PROFILE_STORE_DONE (R416): the profile has been written. -/
def execProfileStoreDone (s : State) : Host.Outcome State Fault Refusal := .next s.storeDone.done

/-- SELFTEST_DONE (R85): a self-test ends. -/
def execSelftestDone (test : BitVec 8) (found : BitVec 128) (s : State) : Host.Outcome State Fault Refusal :=
  .next (s.selftestDone test.toNat found).done

/-- WAKE_FALL (R422): WAKE falls. -/
def execWakeFall (s : State) : Host.Outcome State Fault Refusal := .next s.wakeFall.done

/-- WAKE_HIGH (R424): WAKE rises in SLEEP. -/
def execWakeHigh (s : State) : Host.Outcome State Fault Refusal := .next s.wakeHigh.done

/-- WAKE_RISE (R422): WAKE rises outside SLEEP. -/
def execWakeRise (s : State) : Host.Outcome State Fault Refusal := .next s.wakeRise.done

end Sys2Proof.Machine
end

