-- ==== Sys2Proof/Machine/CanBus.lean ====
section
/-!
DEFINITION. The CAN controllers (R246-R266).
-/
namespace Sys2Proof.Machine

/-- CAN_FRAME_RECEIVE (R257): a frame on the bus. -/
def execCanFrameReceive (n : Fin 32) (f : CanFrame) (s : State) : Host.Outcome State Fault Refusal :=
  .next (s.canReceive n f).done

/-- CAN_ATTEMPT_END (R260): a transmission attempt ends. -/
def execCanAttemptEnd (n : Fin 32) (a : CanAttempt) (s : State) : Host.Outcome State Fault Refusal :=
  .next (s.canAttempt n a).done

/-- BUS_OFF_RECOVERY_DONE (R261): the recovery from bus-off is complete. -/
def execBusOffRecoveryDone (n : Fin 32) (s : State) : Host.Outcome State Fault Refusal := .next (s.canRecovered n).done

/-- RECOVER (R261): CAN_CTL.RECOVER is written 1. -/
def execRecover (n : Fin 32) (s : State) : Host.Outcome State Fault Refusal :=
  .next (s.setReg .canCtl n 0 (s.rd .canCtl n ||| 0x10)).done

/-- OPMODE_APPLY (R248): a written OPMODE takes effect. -/
def execOpmodeApply (n : Fin 32) (s : State) : Host.Outcome State Fault Refusal := .next (s.canOpmode n).done

/-- CAN_RATE_DETECT_START (R263): CAN_RD_CTL.START is written 1. -/
def execCanRateDetectStart (n : Fin 32) (s : State) : Host.Outcome State Fault Refusal :=
  .next (s.setReg .canRdCtl n 0 (s.rd .canRdCtl n ||| 0x80000000)).done

/-- CAN_RATE_DETECT_ABORT (R263): CAN_RD_CTL.ABORT is written 1. -/
def execCanRateDetectAbort (n : Fin 32) (s : State) : Host.Outcome State Fault Refusal :=
  .next (s.setReg .canRdCtl n 0 (s.rd .canRdCtl n ||| 0x40000000)).done

/-- RATE_SURVEY_END (R263): the survey ends with the pulses that were seen. -/
def execRateSurveyEnd (n : Fin 32) (pulses : List Nat) (s : State) : Host.Outcome State Fault Refusal :=
  .next (s.canSurveyEnd n pulses).done

/-- CANDIDATE_DWELL_EXPIRE (R263): the dwell on a candidate ends. -/
def execCandidateDwellExpire (n : Fin 32) (s : State) : Host.Outcome State Fault Refusal := .next (s.canDwellEnd n).done

/-- RATE_DETECT_TIMEOUT (R263): rate detection has not ended in time. -/
def execRateDetectTimeout (n : Fin 32) (s : State) : Host.Outcome State Fault Refusal := .next (s.canRdTimeout n).done

/-- REFERENCE_RELEASE (R265): the scheduled reference message is released. -/
def execReferenceRelease (n : Fin 32) (s : State) : Host.Outcome State Fault Refusal := .next (s.canReference n).done

/-- CAN_PACK_EXPIRE (R257): the packing time ends. -/
def execCanPackExpire (n : Fin 32) (s : State) : Host.Outcome State Fault Refusal := .next (s.canPackEnd n).done

/-- CAN_TSQ_CTL (R181): CAN_TSQ_CTL is written: the oldest stamp goes. -/
def execCanTsqCtl (n : Fin 32) (s : State) : Host.Outcome State Fault Refusal := .next (s.setReg .canTsqCtl n 0 0).done

/-- CAN_WAKE (R266): bus activity in SLEEP. -/
def execCanWake (n : Fin 32) (f : Option CanFrame) (s : State) : Host.Outcome State Fault Refusal := .next (s.canWakeUp n f).done

/-- CAN_BUS_ERROR (R261): an error on the bus. -/
def execCanBusError (n : Fin 32) (e : CanError) (s : State) : Host.Outcome State Fault Refusal := .next (s.canBusErr n e).done

end Sys2Proof.Machine
end

