-- ==== Sys2Proof/Machine/Clusters.lean ====
section
/-!
DEFINITION. Engine control, pins, queues and windows of the facet clusters (R196-R225).
-/
namespace Sys2Proof.Machine

/-- A write to ENG_CTL of engine `n` that sets the bits of `m` and keeps START_PC as `pc`. -/
def State.engCtl (s : State) (n : Nat) (m : Word) (pc : Nat) : State :=
  s.setReg .engCtl (n / 8) (n % 8) (m.setBits 22 16 pc)

/-- A write to ENG_CTL of engine `n` that sets the bits of `m` and leaves START_PC. -/
def State.engBit (s : State) (n : Nat) (m : Word) : State := s.engCtl n m (s.eget F.ENG_CTL_START_PC n)

/-- START (R216): ENG_CTL.START is written 1. -/
def execStart (e : Fin 64) (pc : BitVec 7) (s : State) : Host.Outcome State Fault Refusal :=
  .next (s.engCtl e 0x80000000 pc.toNat).done

/-- STOP (R219): ENG_CTL.STOP is written 1. -/
def execStop (e : Fin 64) (s : State) : Host.Outcome State Fault Refusal := .next (s.engBit e 0x40000000).done

/-- CLEAR (R219): ENG_CTL.CLEAR is written 1. -/
def execClear (e : Fin 64) (s : State) : Host.Outcome State Fault Refusal := .next (s.engBit e 0x20000000).done

/-- FLUSH_TX (R211): ENG_CTL.FLUSH_TX is written 1. -/
def execFlushTx (e : Fin 64) (s : State) : Host.Outcome State Fault Refusal := .next (s.engBit e 0x10000000).done

/-- FLUSH_RX (R211): ENG_CTL.FLUSH_RX is written 1. -/
def execFlushRx (e : Fin 64) (s : State) : Host.Outcome State Fault Refusal := .next (s.engBit e 0x08000000).done

/-- START_MASK (R216): CLU_CTL.START_MASK is written. -/
def execStartMask (k : Fin 8) (m : BitVec 8) (s : State) : Host.Outcome State Fault Refusal :=
  .next (s.setReg .cluCtl k 0 (m.setWidth 32)).done

/-- STOP_MASK (R216): CLU_CTL.STOP_MASK is written. -/
def execStopMask (k : Fin 8) (m : BitVec 8) (s : State) : Host.Outcome State Fault Refusal :=
  .next (s.setReg .cluCtl k 0 (m.setWidth 32 <<< 8)).done

/-- CLK_RESTART (R217): CLU_CTL.CLK_RESTART is written 1. -/
def execClkRestart (k : Fin 8) (s : State) : Host.Outcome State Fault Refusal := .next (s.setReg .cluCtl k 0 0x10000).done

/-- ENG_INJECT (R221): an instruction word is written to ENG_INJECT. -/
def execEngInject (e : Fin 64) (w : BitVec 24) (s : State) : Host.Outcome State Fault Refusal :=
  .next (s.setReg .engInject (e / 8) (e % 8) (w.setWidth 32)).done

/-- INJECT_EXECUTE (R221): the injected instruction executes. -/
def execInjectExecute (e : Fin 64) (s : State) : Host.Outcome State Fault Refusal := .next (s.injectEdge e).done

/-- CLU_DOUT_SET (R203): CLU_DOUT_SET is written. -/
def execCluDoutSet (k : Fin 8) (m : Word) (s : State) : Host.Outcome State Fault Refusal :=
  .next (s.setReg .cluDoutSet k 0 m).done

/-- CLU_DOUT_CLR (R203): CLU_DOUT_CLR is written. -/
def execCluDoutClr (k : Fin 8) (m : Word) (s : State) : Host.Outcome State Fault Refusal :=
  .next (s.setReg .cluDoutClr k 0 m).done

/-- DEBOUNCE_SAMPLE (R201): the debounce sample of a cluster. -/
def execDebounceSample (k : Fin 8) (s : State) : Host.Outcome State Fault Refusal := .next (s.debounce k).done

/-- COS_EVENT (R205): the change-of-state EVENT of a cluster. -/
def execCosEvent (k : Fin 8) (s : State) : Host.Outcome State Fault Refusal := .next (s.cosEvent k).done

/-- TXQ_FEED (R207): a unit moves into the transmit queue of an engine. -/
def execTxqFeed (e : Fin 64) (s : State) : Host.Outcome State Fault Refusal := .next (s.txqFeed e).done

/-- PACKER_WORD (R209): a word moves from the receive queue to the packer. -/
def execPackerWord (e : Fin 64) (s : State) : Host.Outcome State Fault Refusal := .next (s.packerWord e).done

/-- RX_PACK_EXPIRE (R209): the packing time of an engine ends. -/
def execRxPackExpire (e : Fin 64) (s : State) : Host.Outcome State Fault Refusal := .next (s.rxPackEnd e).done

/-- BANK_SUPPLY_LOSS (R196): the supply of a pin bank leaves its range. -/
def execBankSupplyLoss (k : Fin 8) (s : State) : Host.Outcome State Fault Refusal := .next (s.bankSupply k false).done

/-- BANK_SUPPLY_RETURN (R196): the supply of a pin bank is back. -/
def execBankSupplyReturn (k : Fin 8) (s : State) : Host.Outcome State Fault Refusal := .next (s.bankSupply k true).done

/-- WINDOW_ANSWER (R224): an engine answers a window request. -/
def execWindowAnswer (w : Fin 16) (s : State) : Host.Outcome State Fault Refusal := .next (s.windowAnswer w).done

/-- WINDOW_TIMEOUT (R225): a window request has no answer in time. -/
def execWindowTimeout (w : Fin 16) (s : State) : Host.Outcome State Fault Refusal := .next (s.windowTimeout w).done

/-- FACET_PIN_CHANGE (R201): the level outside a pin changes. -/
def execFacetPinChange (k : Fin 8) (p : Fin 32) (level : Bool) (s : State) : Host.Outcome State Fault Refusal :=
  .next (s.pinChange k p level).done

end Sys2Proof.Machine
end

