-- ==== Sys2Proof/Machine/DuplexPair.lean ====
section
/-!
DEFINITION. The duplex pair (R329-R347).
-/
namespace Sys2Proof.Machine

/-- ORDER (R333): an order of the stream. -/
def execOrder (on : BitVec 16) (f : Frame) (rindGood : Bool) (s : State) : Host.Outcome State Fault Refusal :=
  .next (s.orderIn on f rindGood).done

/-- PROGRESS (R333): the progress of the active. -/
def execProgress (on : BitVec 16) (payload : List Word) (s : State) : Host.Outcome State Fault Refusal :=
  .next (s.progressOrderIn on payload).done

/-- CHANNEL (R333): the field power channels of the active. -/
def execChannel (on : BitVec 16) (payload : List Word) (s : State) : Host.Outcome State Fault Refusal :=
  .next (s.channelOrderIn on payload).done

/-- SESSION (R333): a session of the active opens or closes. -/
def execSession (on : BitVec 16) (r : SessionOrder) (s : State) : Host.Outcome State Fault Refusal :=
  .next (s.sessionIn on r).done

/-- HANDOVER (R344): the active gives the pair. -/
def execHandover (on : BitVec 16) (s : State) : Host.Outcome State Fault Refusal := .next (s.handoverIn on).done

/-- SYNC (R346): a part of the state transfer. -/
def execSync (r : SyncRecord) (s : State) : Host.Outcome State Fault Refusal := .next (s.syncIn r).done

/-- JOIN (R345): the twin asks to join. -/
def execJoin (payload : List Word) (s : State) : Host.Outcome State Fault Refusal := .next (s.joinIn payload).done

/-- JOIN_SEND (R345): the hub asks to join. -/
def execJoinSend (s : State) : Host.Outcome State Fault Refusal := .next s.joinSend.done

/-- DIGEST_SEND (R338): a digest goes out. -/
def execDigestSend (s : State) : Host.Outcome State Fault Refusal := .next s.digestSend.done

/-- DIGEST (R338): a digest arrives. -/
def execDigest (on : BitVec 16) (payload : List Word) (s : State) : Host.Outcome State Fault Refusal :=
  .next (s.digestIn on payload).done

/-- ACK (R337): orders are acknowledged. -/
def execAck (on : BitVec 16) (s : State) : Host.Outcome State Fault Refusal := .next (s.ackIn on).done

/-- NAK (R337): orders are asked for again. -/
def execNak (on : BitVec 16) (s : State) : Host.Outcome State Fault Refusal := .next (s.nakIn on).done

/-- ACK_TIMEOUT (R337): no acknowledgement in time. -/
def execAckTimeout (s : State) : Host.Outcome State Fault Refusal := .next s.ackTimeout.done

/-- ORDER_BACKLOG_FULL (R337): the order backlog is full. -/
def execOrderBacklogFull (s : State) : Host.Outcome State Fault Refusal := .next s.backlogFull.done

/-- HEARTBEAT (R337): a heartbeat on the twin link. -/
def execHeartbeat (d2 d3 : BitVec 8) (s : State) : Host.Outcome State Fault Refusal := .next (s.heartbeatIn d2 d3).done

/-- HEARTBEAT_SEND (R339): a heartbeat goes out. -/
def execHeartbeatSend (s : State) : Host.Outcome State Fault Refusal := .next s.heartbeatSend.done

/-- HB_IN_EDGE (R339): an edge on the heartbeat pin. -/
def execHbInEdge (interval : Nat) (s : State) : Host.Outcome State Fault Refusal := .next (s.hbInEdge interval).done

/-- HEARTBEAT_SILENT (R339): a heartbeat path is silent. -/
def execHeartbeatSilent (pin : Bool) (s : State) : Host.Outcome State Fault Refusal := .next (s.heartbeatSilent pin).done

/-- CLAIM_WAIT_EXPIRE (R341): the claim wait ends. -/
def execClaimWaitExpire (s : State) : Host.Outcome State Fault Refusal := .next s.claimWaitEnd.done

/-- CLAIM_CHECK (R341): the interlock is read back. -/
def execClaimCheck (s : State) : Host.Outcome State Fault Refusal := .next s.claimCheck.done

/-- ILK_CHANGE (R340): the interlock line changes. -/
def execIlkChange (low : Bool) (s : State) : Host.Outcome State Fault Refusal := .next (s.ilkChange low).done

/-- PAIR_WAIT_EXPIRE (R345): the wait for a twin ends. -/
def execPairWaitExpire (s : State) : Host.Outcome State Fault Refusal := .next s.pairWaitEnd.done

/-- TRANSFER_TIMEOUT (R346): the state transfer has not ended in time. -/
def execTransferTimeout (s : State) : Host.Outcome State Fault Refusal := .next s.transferTimeout.done

/-- HOLD_EXPIRE (R336): held frames are released. -/
def execHoldExpire (s : State) : Host.Outcome State Fault Refusal := .next s.holdExpire.done

/-- FITNESS_LOSS (R332): the hub is no longer fit to serve. -/
def execFitnessLoss (s : State) : Host.Outcome State Fault Refusal := .next s.fitnessLoss.done

/-- REJOIN (R345): PAR_CTL.REJOIN is written 1. -/
def execRejoin (s : State) : Host.Outcome State Fault Refusal := .next (s.setReg .parCtl 0 0 2).done

/-- RESYNC (R346): PAR_CTL.RESYNC is written 1. -/
def execResync (s : State) : Host.Outcome State Fault Refusal := .next (s.setReg .parCtl 0 0 1).done

/-- PIN_PATH_WAIT_EXPIRE (R339): the wait for the pin path ends. -/
def execPinPathWaitExpire (s : State) : Host.Outcome State Fault Refusal := .next s.pinWaitEnd.done

end Sys2Proof.Machine
end

