-- ==== Sys2Proof/Machine/Ethernet.lean ====
section
/-!
DEFINITION. The Ethernet MACs (R269-R289); `m` counts the T1S MACs 0-15, then the RGMII MACs.
-/
namespace Sys2Proof.Machine

/-- MAC_WAKE (R288): a frame in SLEEP that the wake configuration of MAC `m` names. -/
def State.macWakes (s : State) (m : Nat) (r : MacRx) : State := 
  if s.macWakeHit m r then s.wakeUp.macWoke m (s.get F.MAC_WAKE_CFG_WAKE_MODE m) else s

/-- MAC_FRAME_RECEIVE (R282): a frame on the medium. -/
def execMacFrameReceive (m : Fin 20) (r : MacRx) (s : State) : Host.Outcome State Fault Refusal := .next (s.macReceive m r).done

/-- MAC_DEFER_END (R278): the interframe gap ends. -/
def execMacDeferEnd (m : Fin 20) (carrier : Bool) (s : State) : Host.Outcome State Fault Refusal :=
  .next (s.macDefer m carrier).done

/-- COLLISION (R278): a collision after `bits` bits. -/
def execCollision (m : Fin 20) (bits : Nat) (s : State) : Host.Outcome State Fault Refusal := .next (s.macCollision m bits).done

/-- BACKOFF_EXPIRE (R278): the backoff ends. -/
def execBackoffExpire (m : Fin 20) (s : State) : Host.Outcome State Fault Refusal := .next (s.macBackoff m).done

/-- MAC_TX_END (R279): the frame has left. -/
def execMacTxEnd (m : Fin 20) (s : State) : Host.Outcome State Fault Refusal := .next (s.macTxEnd m).done

/-- INBAND_STATUS (R270): the in-band status of an RGMII port. -/
def execInbandStatus (g : Fin 4) (speed : BitVec 2) (duplex link : Bool) (s : State) : Host.Outcome State Fault Refusal :=
  .next (s.macInband (16 + g) speed duplex link).done

/-- MAC_PACK_EXPIRE (R283): the packing time ends. -/
def execMacPackExpire (m : Fin 20) (s : State) : Host.Outcome State Fault Refusal := .next (s.macPackEnd m).done

/-- MAC_TSQ_CTL (R287): MAC_TSQ_CTL is written: the oldest stamp goes. -/
def execMacTsqCtl (m : Fin 20) (s : State) : Host.Outcome State Fault Refusal := .next (s.setReg .macTsqCtl m 0 0).done

/-- GO (R289): MAC_MDIO_CTL is written with GO set. -/
def execGo (ctl : Word) (s : State) : Host.Outcome State Fault Refusal :=
  .next (s.setReg .macMdioCtl 0 0 (ctl ||| 0x80000000)).done

/-- MDIO_DONE (R289): the management frame ends. -/
def execMdioDone (data : BitVec 16) (s : State) : Host.Outcome State Fault Refusal := .next (s.mdioEnd data).done

/-- MAC_WAKE (R288): a frame on the medium in SLEEP. -/
def execMacWake (m : Fin 20) (r : MacRx) (s : State) : Host.Outcome State Fault Refusal := .next (s.macWakes m r).done

/-- GMN_RXC_CHANGE (R270): the receive clock of an RGMII port stops or starts. -/
def execGmnRxcChange (g : Fin 4) (runs : Bool) (s : State) : Host.Outcome State Fault Refusal :=
  .next (s.macRxc (16 + g) runs).done

end Sys2Proof.Machine
end

