-- ==== Sys2Proof/Machine/FacetInstr.lean ====
section
/-!
DEFINITION. The seventeen instructions of the facet engines (R228-R245), each on a clock edge of its engine.
-/
namespace Sys2Proof.Machine

/-- SHIFTIN (R234): an engine clock edge with SHIFTIN at the program counter. -/
def execShiftin (e : Fin 64) (s : State) : Host.Outcome State Fault Refusal :=
  .next (s.engineEdge e (fun w => opOf w == 0) State.opShiftin).done

/-- SHIFTOUT (R234): an engine clock edge with SHIFTOUT at the program counter. -/
def execShiftout (e : Fin 64) (s : State) : Host.Outcome State Fault Refusal :=
  .next (s.engineEdge e (fun w => opOf w == 1) State.opShiftout).done

/-- TAKE (R235): an engine clock edge with TAKE at the program counter. -/
def execTake (e : Fin 64) (s : State) : Host.Outcome State Fault Refusal :=
  .next (s.engineEdge e (fun w => opOf w == 2) State.opTake).done

/-- GIVE (R235): an engine clock edge with GIVE at the program counter. -/
def execGive (e : Fin 64) (s : State) : Host.Outcome State Fault Refusal :=
  .next (s.engineEdge e (fun w => opOf w == 3) State.opGive).done

/-- HOLD (R236): an engine clock edge with HOLD at the program counter. -/
def execHold (e : Fin 64) (s : State) : Host.Outcome State Fault Refusal :=
  .next (s.engineEdge e (fun w => opOf w == 4) State.opHold).done

/-- BRANCH (R239): an engine clock edge with BRANCH at the program counter. -/
def execBranch (e : Fin 64) (s : State) : Host.Outcome State Fault Refusal :=
  .next (s.engineEdge e (fun w => opOf w == 5) State.opBranch).done

/-- LOOP (R239): an engine clock edge with LOOP at the program counter. -/
def execLoop (e : Fin 64) (s : State) : Host.Outcome State Fault Refusal :=
  .next (s.engineEdge e (fun w => opOf w == 6) State.opLoop).done

/-- LOAD (R240): an engine clock edge with LOAD at the program counter. -/
def execLoad (e : Fin 64) (s : State) : Host.Outcome State Fault Refusal :=
  .next (s.engineEdge e (fun w => opOf w == 7) State.opLoad).done

/-- MOVE (R240): an engine clock edge with MOVE at the program counter. -/
def execMove (e : Fin 64) (s : State) : Host.Outcome State Fault Refusal :=
  .next (s.engineEdge e (fun w => opOf w == 8) State.opMove).done

/-- DRIVE (R241): an engine clock edge with DRIVE at the program counter. -/
def execDrive (e : Fin 64) (s : State) : Host.Outcome State Fault Refusal :=
  .next (s.engineEdge e (fun w => opOf w == 9) State.opDrive).done

/-- DIR (R241): an engine clock edge with DIR at the program counter. -/
def execDir (e : Fin 64) (s : State) : Host.Outcome State Fault Refusal :=
  .next (s.engineEdge e (fun w => opOf w == 10) State.opDir).done

/-- SIGNAL (R238): an engine clock edge with SIGNAL at the program counter. -/
def execSignal (e : Fin 64) (s : State) : Host.Outcome State Fault Refusal :=
  .next (s.engineEdge e (fun w => opOf w == 11) State.opSignal).done

/-- CRC (R242): an engine clock edge with CRC at the program counter. -/
def execCrc (e : Fin 64) (s : State) : Host.Outcome State Fault Refusal :=
  .next (s.engineEdge e (fun w => opOf w == 12) State.opCrc).done

/-- MATCH (R243): an engine clock edge with MATCH at the program counter. -/
def execMatchInstr (e : Fin 64) (s : State) : Host.Outcome State Fault Refusal :=
  .next (s.engineEdge e (fun w => opOf w == 13) State.opMatch).done

/-- STAMP (R244): an engine clock edge with STAMP at the program counter. -/
def execStamp (e : Fin 64) (s : State) : Host.Outcome State Fault Refusal :=
  .next (s.engineEdge e (fun w => opOf w == 14) State.opStamp).done

/-- HALT (R245): an engine clock edge with HALT at the program counter. -/
def execHalt (e : Fin 64) (s : State) : Host.Outcome State Fault Refusal :=
  .next (s.engineEdge e (fun w => opOf w == 15 && !w.getLsbD 0) State.opHalt).done

/-- NOP (R245): an engine clock edge with NOP at the program counter. -/
def execNop (e : Fin 64) (s : State) : Host.Outcome State Fault Refusal :=
  .next (s.engineEdge e (fun w => opOf w == 15 && w.getLsbD 0) State.opNop).done

end Sys2Proof.Machine
end

