-- ==== Sys2Proof/Machine/Faults.lean ====
section
/-!
DEFINITION. Sources, reactions, the collector check and the fault pins (R367-R386).
-/
namespace Sys2Proof.Machine

/-- The end of a raise or of a grace time: reactions that fall due in one AON clock meet (R375). Such commands that stand one behind
the other in the queue are events of one clock (log entry 16). -/
def State.collectorDone (s : State) : State :=
  match s.pending with
  | .sourceRaise .. :: _ | .graceExpire .. :: _ => s
  | _ => s.done

/-- SOURCE_RAISE (R369): a source raises, begins or ends. -/
def execSourceRaise (src : BitVec 8) (inst : BitVec 6) (edge : Edge) (s : State) : Host.Outcome State Fault Refusal :=
  .next (s.sourceRaise src.toNat inst.toNat edge).collectorDone

/-- GRACE_EXPIRE (R373): the grace time of a source ends. -/
def execGraceExpire (src : BitVec 8) (s : State) : Host.Outcome State Fault Refusal :=
  .next (s.graceExpire src.toNat).collectorDone

/-- REACTION_COMPLETE (R484): the reaction has reached every output. -/
def execReactionComplete (s : State) : Host.Outcome State Fault Refusal := .next s.reactionComplete.done

/-- COLLECTOR_CHECK (R383): the collectors are compared. -/
def execCollectorCheck (s : State) : Host.Outcome State Fault Refusal := .next s.collectorCheck.done

/-- INJECT (R383): FLT_CHK.INJECT is written 1. -/
def execInject (s : State) : Host.Outcome State Fault Refusal := .next (s.setReg .fltChk 0 0 0x80000000).done

/-- FAULT_N_PULSE_END (R384): a pulse of FAULT_N ends. -/
def execFaultNPulseEnd (s : State) : Host.Outcome State Fault Refusal := .next s.pulseEnd.done

/-- ALIVE_TOGGLE (R385): ALIVE toggles. -/
def execAliveToggle (s : State) : Host.Outcome State Fault Refusal := .next s.aliveToggle.done

end Sys2Proof.Machine
end

