-- ==== Sys2Proof/Machine/FieldPower.lean ====
section
/-!
DEFINITION. Field power (R313-R328).
-/
namespace Sys2Proof.Machine

/-- A write to PWR_CH_CTL of channel `c`. -/
def State.pwrCtl (s : State) (c : Nat) (w : Word) : State := s.setReg .pwrChCtl c 0 w

/-- PWR_CH_ON (R316): PWR_CH_CTL.ON is written 1. -/
def execPwrChOn (c : Fin 16) (s : State) : Host.Outcome State Fault Refusal := .next (s.pwrCtl c 1).done

/-- PWR_CH_OFF (R320): PWR_CH_CTL.OFF is written 1. -/
def execPwrChOff (c : Fin 16) (s : State) : Host.Outcome State Fault Refusal := .next (s.pwrCtl c 2).done

/-- CLR_LATCH (R321): PWR_CH_CTL.CLR_LATCH is written 1. -/
def execClrLatch (c : Fin 16) (s : State) : Host.Outcome State Fault Refusal := .next (s.pwrCtl c 4).done

/-- PWR_CMD (R323): PWR_CMD is written. -/
def execPwrCmd (on off : BitVec 16) (s : State) : Host.Outcome State Fault Refusal :=
  .next (s.setReg .pwrCmd 0 0 (off ++ on)).done

/-- RAMP_COMPLETE (R316): the ramp of a channel completes. -/
def execRampComplete (c : Fin 16) (enhance : Bool) (s : State) : Host.Outcome State Fault Refusal :=
  .next (s.rampDone c enhance).done

/-- LIMIT_ONSET (R317): a channel starts to limit. -/
def execLimitOnset (c : Fin 16) (s : State) : Host.Outcome State Fault Refusal := .next (s.limitOnset c).done

/-- FAULT_TIMER_EXPIRE (R319): the fault timer of a channel ends. -/
def execFaultTimerExpire (c : Fin 16) (s : State) : Host.Outcome State Fault Refusal := .next ((s.ftExpire c).pwrAfterPark).done

/-- THERMAL_UPDATE (R318): the thermal model of a channel is updated. -/
def execThermalUpdate (c : Fin 16) (s : State) : Host.Outcome State Fault Refusal := .next ((s.thermal c).pwrAfterPark).done

/-- FET_GATE_FAIL (R319): the gate of a channel fails. -/
def execFetGateFail (c : Fin 16) (s : State) : Host.Outcome State Fault Refusal := .next ((s.gateFail c).pwrAfterPark).done

/-- FET_STUCK_ON (R319): a channel does not switch off. -/
def execFetStuckOn (c : Fin 16) (s : State) : Host.Outcome State Fault Refusal := .next ((s.stuckOn c).pwrAfterPark).done

/-- RAMP_TIMEOUT (R316): a ramp has not completed in time. -/
def execRampTimeout (c : Fin 16) (s : State) : Host.Outcome State Fault Refusal := .next (s.rampTimeout c).done

/-- OPEN_LOAD (R319): a channel shows no load. -/
def execOpenLoad (c : Fin 16) (s : State) : Host.Outcome State Fault Refusal := .next (s.openLoad c).done

/-- VIN_OUT_OF_RANGE (R325): the input supply leaves its range. -/
def execVinOutOfRange (ov : Bool) (s : State) : Host.Outcome State Fault Refusal := .next ((s.vinOut ov).pwrAfterPark).done

/-- VIN_RESTORED (R325): the input supply is back. -/
def execVinRestored (s : State) : Host.Outcome State Fault Refusal := .next s.vinBack.done

/-- RETRY_EXPIRE (R321): the retry time ends. -/
def execRetryExpire (c : Fin 16) (s : State) : Host.Outcome State Fault Refusal := .next (s.retryEnd c).done

/-- RETRY_COUNT_RESET (R321): a channel has been on long enough. -/
def execRetryCountReset (c : Fin 16) (s : State) : Host.Outcome State Fault Refusal := .next (s.retryReset c).done

/-- PG_ASSERT (R322): power is good. -/
def execPgAssert (c : Fin 16) (s : State) : Host.Outcome State Fault Refusal := .next (s.pgAssert c).done

/-- DRIVE_RIGHT_LOSS (R314): the core loses the right to drive a channel. -/
def execDriveRightLoss (c : Fin 16) (s : State) : Host.Outcome State Fault Refusal := .next (s.pchLose c).done

/-- PARK_TIMEOUT (R315): a parked channel switches off. -/
def execParkTimeout (c : Fin 16) (s : State) : Host.Outcome State Fault Refusal := .next ((s.parkTimeout c).pwrAfterPark).done

/-- PARK_HANDOFF (R315): a parked channel is taken over. -/
def execParkHandoff (c : Fin 16) (s : State) : Host.Outcome State Fault Refusal := .next ((s.parkHandoff c).pwrAfterPark).done

/-- PFWARN_ASSERT (R326): the power-fail warning. -/
def execPfwarnAssert (s : State) : Host.Outcome State Fault Refusal := .next (s.pfwarn true).done

/-- PFWARN_RELEASE (R326): the end of the power-fail warning. -/
def execPfwarnRelease (s : State) : Host.Outcome State Fault Refusal := .next (s.pfwarn false).done

/-- MEASUREMENT (R327): the converter has measured a channel. -/
def execMeasurement (c : Fin 16) (m : Meas) (s : State) : Host.Outcome State Fault Refusal := .next (s.measure c m).done

/-- LIMIT_END (R317): a channel stops limiting. -/
def execLimitEnd (c : Fin 16) (s : State) : Host.Outcome State Fault Refusal := .next (s.limitEnd c).done

/-- DIE_TO_DIE_LINK_LOSS (R314): the link to the power die is lost. -/
def execDieToDieLinkLoss (s : State) : Host.Outcome State Fault Refusal := .next s.dieLinkLoss.done

/-- DIE_TO_DIE_LINK_RETURN (R314): the link to the power die is back. -/
def execDieToDieLinkReturn (s : State) : Host.Outcome State Fault Refusal := .next s.dieLinkReturn.done

end Sys2Proof.Machine
end

