-- ==== Sys2Proof/Machine/Firmware.lean ====
section
/-!
DEFINITION. Firmware update and relay (R425-R445).
-/
namespace Sys2Proof.Machine

/-- An UPDATE frame on lane `l`: Hihovos takes it from an up lane, where it counts as received; the ROM in RECOVERY takes it from
a repeating lane. -/
def State.updateFrame (s : State) (l : Nat) (f : State → State) : State :=
  if !s.mgtUp then s
  else if s.laneUp l then f (s.bump .lnkCnt l 0)
  else if s.mode == .recovery && s.lst l == lsRepeat then f s
  else s

/-- ERASE_COMPLETE (R428): the target slot is erased. -/
def execEraseComplete (s : State) : Host.Outcome State Fault Refusal := .next s.eraseDone.pullErased.done

/-- VERIFY_COMPLETE (R428): the check of an image ends. -/
def execVerifyComplete (r : VerifyResult) (s : State) : Host.Outcome State Fault Refusal := .next (s.verifyComplete r).done

/-- REQ (R440): REQ arrives. -/
def execReq (l : Fin 5) (words : List Word) (s : State) : Host.Outcome State Fault Refusal :=
  .next (s.updateFrame l (fun s => s.relayServe l words)).done

/-- DATA (R439): DATA arrives. -/
def execData (l : Fin 5) (words : List Word) (rindGood : Bool) (s : State) : Host.Outcome State Fault Refusal :=
  .next (s.updateFrame l (fun s => s.relayData l words rindGood)).done

/-- REFUSE (R439): REFUSE arrives. -/
def execRefuse (l : Fin 5) (words : List Word) (s : State) : Host.Outcome State Fault Refusal :=
  .next (s.updateFrame l (fun s => s.relayRefuse l words)).done

/-- RELAY_DATA_SEND (R440): a DATA frame goes out. -/
def execRelayDataSend (s : State) : Host.Outcome State Fault Refusal := .next s.relayDataSend.done

/-- RELAY_WINDOW_TIMEOUT (R439): a window is not complete in time. -/
def execRelayWindowTimeout (s : State) : Host.Outcome State Fault Refusal := .next s.relayWindowEnd.done

/-- RELAY_NO_PROGRESS (R439): a relay makes no progress. -/
def execRelayNoProgress (s : State) : Host.Outcome State Fault Refusal := .next s.relayNoProgress.done

/-- RECOVERY_PULL_TIMER (R441): the ROM asks a neighbour. -/
def execRecoveryPullTimer (s : State) : Host.Outcome State Fault Refusal := .next s.recoveryPull.done

end Sys2Proof.Machine
end

