-- ==== Sys2Proof/Machine/HostBridge.lean ====
section
/-!
DEFINITION. The PCIe host bridge (R290-R312).
-/
namespace Sys2Proof.Machine

/-- FUNCTION_LEVEL_RESET, which reaches the function while the link is up: an ISL reset of PCI (R391). Every class-I register of the
HBR block returns to its reset value and the prefetch buffers are emptied; commands that were sent keep their tags (R291). -/
def State.flr (s : State) : State := if s.pcieUp then s.islReset 19 else s

/-- The host moves the transmit ring's tail. -/
def State.hostTxTail (s : State) (t : Nat) (ds : List TxDesc) : State := if s.pcieUp then s.txTail t ds else s

/-- The host moves a receive ring's tail. -/
def State.hostRxTail (s : State) (q t : Nat) (bs : List RxDesc) : State := if s.pcieUp then s.rxTail q t bs else s

/-- WINDOW_WRITE_TLP (R295): a write TLP to the window. -/
def execWindowWriteTlp (off : Nat) (words : List Word) (beOk : Bool) (s : State) : Host.Outcome State Fault Refusal :=
  .next (s.winWrite off words beOk).done

/-- WINDOW_READ_TLP (R296): a read TLP to the window. -/
def execWindowReadTlp (off : Nat) (n : Nat) (s : State) : Host.Outcome State Fault Refusal := .next (s.winRead off n).done

/-- BAR0_ACCESS (R293): an access to BAR0. -/
def execBar0Access (off : Nat) (wr : Option Word) (beOk : Bool) (s : State) : Host.Outcome State Fault Refusal :=
  .next (s.bar0 off wr beOk).done

/-- BAR4_ACCESS (R292): an access to BAR4. -/
def execBar4Access (off : Nat) (wr : Option Word) (beOk : Bool) (s : State) : Host.Outcome State Fault Refusal :=
  .next (s.bar4 off wr beOk).done

/-- HBR_TXR_TAIL (R304): HBR_TXR_TAIL is written; `descs` are the descriptors given. -/
def execHbrTxrTail (tail : Nat) (descs : List TxDesc) (s : State) : Host.Outcome State Fault Refusal :=
  .next (s.hostTxTail tail descs).done

/-- HBR_RXR_TAIL (R307): HBR_RXR_TAIL of ring `q` is written; `bufs` are the buffers given. -/
def execHbrRxrTail (q : Fin 8) (tail : Nat) (bufs : List RxDesc) (s : State) : Host.Outcome State Fault Refusal :=
  .next (s.hostRxTail q tail bufs).done

/-- RX_DELIVER (R306): the head unit of port 5 goes to the host. -/
def execRxDeliver (s : State) : Host.Outcome State Fault Refusal := .next s.rxDeliver.done

/-- INT_MODERATION_EXPIRE (R308): the moderation time of a vector ends. -/
def execIntModerationExpire (q : Fin 8) (s : State) : Host.Outcome State Fault Refusal := .next (s.intModEnd q).done

/-- HBR_ELOG_TAIL (R310): the host writes HBR_ELOG_TAIL through BAR0 (R293). -/
def execHbrElogTail (t : Nat) (s : State) : Host.Outcome State Fault Refusal :=
  .next (s.bar0 0xB04 (some (BitVec.ofNat 32 t)) true).done

/-- ERR_PEND_CLEAR (R310): the host writes HBR_IRQ.ERR_PEND as 1 through BAR0. -/
def execErrPendClear (s : State) : Host.Outcome State Fault Refusal := .next (s.bar0 0x8 (some 1) true).done

/-- NC_RETRY_EXPIRE (R298): a refused read is tried again. -/
def execNcRetryExpire (tag : BitVec 9) (s : State) : Host.Outcome State Fault Refusal := .next (s.ncRetry tag.toNat).done

/-- READ_DEADLINE (R300): a read TLP is completed in error. -/
def execReadDeadline (ix : Nat) (s : State) : Host.Outcome State Fault Refusal := .next (s.readDeadline ix).done

/-- PREFETCH_EXPIRE (R303): a prefetch buffer is given up. -/
def execPrefetchExpire (ix : Nat) (s : State) : Host.Outcome State Fault Refusal := .next (s.pfEnd ix).done

/-- FUNCTION_LEVEL_RESET (R291): a Function Level Reset. -/
def execFunctionLevelReset (s : State) : Host.Outcome State Fault Refusal := .next s.flr.done

/-- PERST_N (R291): PERST_N falls. -/
def execPerstN (s : State) : Host.Outcome State Fault Refusal := .next (s.islReset 19).done

/-- PCIE_LINK_DOWN (R307): the PCIe link goes down. -/
def execPcieLinkDown (s : State) : Host.Outcome State Fault Refusal := .next s.linkDownPcie.done

/-- PCIE_LINK_UP (R307): the PCIe link comes up. -/
def execPcieLinkUp (speed : BitVec 3) (width : BitVec 2) (s : State) : Host.Outcome State Fault Refusal :=
  .next (s.linkUpPcie speed.toNat width.toNat).done

end Sys2Proof.Machine
end

