-- ==== Sys2Proof/Machine/HostCommands.lean ====
section
/-!
DEFINITION. The commands of R49: each is judged and executed as ServeOps says (R46), under the opcode of its row.
-/
namespace Sys2Proof.Machine

/-- READ (R75): one register or one vat window word. -/
def execRead (c : Cmd) (s : State) : Host.Outcome State Fault Refusal := .next (s.serve 0x01 c).done

/-- WRITE (R73): one register, with its read-back status. -/
def execWrite (c : Cmd) (s : State) : Host.Outcome State Fault Refusal := .next (s.serve 0x02 c).done

/-- WRITE_POSTED (R78): one register, without a reply when it succeeds. -/
def execWritePosted (c : Cmd) (s : State) : Host.Outcome State Fault Refusal := .next (s.serve 0x03 c).done

/-- READ_MODIFY_WRITE (R75): the masked bits of one register. -/
def execReadModifyWrite (c : Cmd) (s : State) : Host.Outcome State Fault Refusal := .next (s.serve 0x04 c).done

/-- READ_BLOCK (R34): consecutive words. -/
def execReadBlock (c : Cmd) (s : State) : Host.Outcome State Fault Refusal := .next (s.serve 0x05 c).done

/-- WRITE_BLOCK (R34): consecutive words, all or none. -/
def execWriteBlock (c : Cmd) (s : State) : Host.Outcome State Fault Refusal := .next (s.serve 0x06 c).done

/-- PORT_SEND (R79): data for a field port. -/
def execPortSend (c : Cmd) (s : State) : Host.Outcome State Fault Refusal := .next (s.serve 0x10 c).done

/-- PORT_CONFIG (R80): a port configuration record. -/
def execPortConfig (c : Cmd) (s : State) : Host.Outcome State Fault Refusal := .next (s.serve 0x11 c).done

/-- PORT_FLUSH (R162): empties the queues of a port. -/
def execPortFlush (c : Cmd) (s : State) : Host.Outcome State Fault Refusal := .next (s.serve 0x12 c).done

/-- APPLY_AT (R182): stores an action for a ring time. -/
def execApplyAt (c : Cmd) (s : State) : Host.Outcome State Fault Refusal := .next (s.serve 0x18 c).done

/-- SAMPLE_AT (R182): stores a sample for a ring time. -/
def execSampleAt (c : Cmd) (s : State) : Host.Outcome State Fault Refusal := .next (s.serve 0x19 c).done

/-- SNAPSHOT_AT (R190): stores a snapshot of the counters for a ring time. -/
def execSnapshotAt (c : Cmd) (s : State) : Host.Outcome State Fault Refusal := .next (s.serve 0x1A c).done

/-- SESSION_OPEN (R450): the handshake and a new session. -/
def execSessionOpen (c : Cmd) (x : KeyExchange) (s : State) : Host.Outcome State Fault Refusal := .next (s.serve 0x20 c x).done

/-- SESSION_CLOSE (R82): closes its session or, with the right, another. -/
def execSessionClose (c : Cmd) (s : State) : Host.Outcome State Fault Refusal := .next (s.serve 0x21 c).done

/-- PROFILE_SELECT (R418): the hub switches profile after the reply. -/
def execProfileSelect (c : Cmd) (s : State) : Host.Outcome State Fault Refusal := .next (s.serve 0x28 c).done

/-- PROFILE_STORE (R416): the working configuration becomes a profile. -/
def execProfileStore (c : Cmd) (s : State) : Host.Outcome State Fault Refusal := .next (s.serve 0x29 c).done

/-- SELFTEST_REQ (R85): one self-test. -/
def execSelftestReq (c : Cmd) (s : State) : Host.Outcome State Fault Refusal := .next (s.serve 0x30 c).done

/-- HEALTH_GET (R86): the health record. -/
def execHealthGet (c : Cmd) (s : State) : Host.Outcome State Fault Refusal := .next (s.serve 0x31 c).done

/-- FAULT_ACK (R379): clears latched faults. -/
def execFaultAck (c : Cmd) (s : State) : Host.Outcome State Fault Refusal := .next (s.serve 0x38 c).done

/-- SAFE_ENTER (R380): the SAFE mode with its reaction. -/
def execSafeEnter (c : Cmd) (s : State) : Host.Outcome State Fault Refusal := .next (s.serve 0x39 c).done

/-- SAFE_LEAVE (R381): leaves SAFE when nothing holds it. -/
def execSafeLeave (c : Cmd) (s : State) : Host.Outcome State Fault Refusal := .next (s.serve 0x3A c).done

/-- UPDATE_BEGIN (R428): opens an update and erases the target slot. -/
def execUpdateBegin (c : Cmd) (s : State) : Host.Outcome State Fault Refusal := .next (s.serve 0x40 c).done

/-- UPDATE_BLOCK (R428): programs one block. -/
def execUpdateBlock (c : Cmd) (s : State) : Host.Outcome State Fault Refusal := .next (s.serve 0x41 c).done

/-- UPDATE_VERIFY (R428): checks the image. -/
def execUpdateVerify (c : Cmd) (s : State) : Host.Outcome State Fault Refusal := .next (s.serve 0x42 c).done

/-- UPDATE_ACTIVATE (R428): the next start runs the image on trial. -/
def execUpdateActivate (c : Cmd) (s : State) : Host.Outcome State Fault Refusal := .next (s.serve 0x43 c).done

/-- UPDATE_CONFIRM (R428): the image on trial becomes GOOD. -/
def execUpdateConfirm (c : Cmd) (s : State) : Host.Outcome State Fault Refusal := .next (s.serve 0x44 c).done

/-- UPDATE_RELAY (R439): pulls an image from a neighbour. -/
def execUpdateRelay (c : Cmd) (s : State) : Host.Outcome State Fault Refusal := .next (s.serve 0x45 c).done

/-- UPDATE_ABORT (R428): drops the open update. -/
def execUpdateAbort (c : Cmd) (s : State) : Host.Outcome State Fault Refusal := .next (s.serve 0x46 c).done

/-- TIME_STEP (R176): a step of ring time at an instant. -/
def execTimeStep (c : Cmd) (s : State) : Host.Outcome State Fault Refusal := .next (s.serve 0x50 c).done

/-- TIME_RATE (R175): a rate of ring time. -/
def execTimeRate (c : Cmd) (s : State) : Host.Outcome State Fault Refusal := .next (s.serve 0x51 c).done

/-- STEP_REARM (R176): arms what a step cancelled. -/
def execStepRearm (c : Cmd) (s : State) : Host.Outcome State Fault Refusal := .next (s.serve 0x52 c).done

/-- TABLE_FENCE (R156): the fence over table writes. -/
def execTableFence (c : Cmd) (s : State) : Host.Outcome State Fault Refusal := .next (s.serve 0x58 c).done

/-- PAIR_HANDOVER (R344): the active gives the pair to its shadow. -/
def execPairHandover (c : Cmd) (s : State) : Host.Outcome State Fault Refusal := .next (s.serve 0x60 c).done

/-- PAIR_STATUS (R347): the state of the pair. -/
def execPairStatus (c : Cmd) (s : State) : Host.Outcome State Fault Refusal := .next (s.serve 0x61 c).done

/-- LOG_READ (R91): records of a log. -/
def execLogRead (c : Cmd) (s : State) : Host.Outcome State Fault Refusal := .next (s.serve 0x70 c).done

/-- ECHO (R71): its payload back. -/
def execEcho (c : Cmd) (s : State) : Host.Outcome State Fault Refusal := .next (s.serve 0x7E c).done

/-- RESET_CHIP (R92): a chip reset after the reply. -/
def execResetChip (c : Cmd) (s : State) : Host.Outcome State Fault Refusal := .next (s.serve 0x7F c).done

end Sys2Proof.Machine
end

