-- ==== Sys2Proof/Machine/Initiator.lean ====
section
/-!
DEFINITION. The hub as initiator, its retry cache, its session timers and the host port of the register views (R8, R42, R56, R64, R67, R453).
-/
namespace Sys2Proof.Machine

/-- REGISTER_WRITE (R8): a write to a register offset through the privileged view (`view`) or the open one. -/
def execRegisterWrite (view : Bool) (off : Nat) (v : Word) (s : State) : Host.Outcome State Fault Refusal :=
  .next (s.hostWrite view off v).done

/-- REPLY_RECEIVE (R64): a REPLY at the hub. -/
def execReplyReceive (f : Frame) (authOk : Bool) (s : State) : Host.Outcome State Fault Refusal :=
  .next (s.replyReceive f authOk).done

/-- EVENT_RECEIVE (R56): an EVENT at the hub. -/
def execEventReceive (f : Frame) (s : State) : Host.Outcome State Fault Refusal := .next (s.eventReceive f).done

/-- COMMAND_TIMEOUT (R64): a command of the hub has no reply in time; its tag goes into quarantine. -/
def execCommandTimeout (port : BitVec 8) (tag : BitVec 9) (s : State) : Host.Outcome State Fault Refusal :=
  .next (s.commandTimeout port tag).done

/-- QUARANTINE_END (R64): the tag is free again. -/
def execQuarantineEnd (port : BitVec 8) (tag : BitVec 9) (s : State) : Host.Outcome State Fault Refusal :=
  .next (s.quarantineEnd port tag).done

/-- RETRY_CACHE_EXPIRE (R67): the oldest entry of the retry cache lapses. -/
def execRetryCacheExpire (s : State) : Host.Outcome State Fault Refusal := .next s.cacheExpire.done

/-- SESSION_IDLE_EXPIRE (R42): a session with nothing accepted for its idle time closes. -/
def execSessionIdleExpire (n : BitVec 16) (s : State) : Host.Outcome State Fault Refusal := .next (s.sessionIdle n).done

/-- SESSION_UNUSED_EXPIRE (R42): a session never used closes. -/
def execSessionUnusedExpire (n : BitVec 16) (s : State) : Host.Outcome State Fault Refusal := .next (s.sessionUnused n).done

/-- SPENT_CLOSE_EXPIRE (R42): a session whose counter is spent closes. -/
def execSpentCloseExpire (n : BitVec 16) (s : State) : Host.Outcome State Fault Refusal := .next (s.sessionSpent n).done

/-- REKEY_CLOSE (R453): the session that a new one replaces closes. -/
def execRekeyClose (n : BitVec 16) (s : State) : Host.Outcome State Fault Refusal := .next (s.rekeyClose n).done

end Sys2Proof.Machine
end

