-- ==== Sys2Proof/Machine/Links.lean ====
section
/-!
DEFINITION. The link layer: training, neighbours, modules, bypass and repeat path (R96-R121).
-/
namespace Sys2Proof.Machine

/-- TRAIN_ID_SEND (R97): TRAIN_ID goes out. -/
def execTrainIdSend (l : Fin 5) (s : State) : Host.Outcome State Fault Refusal := .next (s.trainIdSend l).done

/-- TRAIN_ID (R96): TRAIN_ID arrives. -/
def execTrainId (l : Fin 5) (payload : List Word) (t : CtrlTail) (s : State) : Host.Outcome State Fault Refusal :=
  .next (s.trainIdIn l payload t).done

/-- HELLO_SEND (R97): HELLO goes out. -/
def execHelloSend (l : Fin 5) (s : State) : Host.Outcome State Fault Refusal := .next (s.helloSend l).done

/-- HELLO (R104): HELLO arrives. -/
def execHello (l : Fin 5) (payload : List Word) (t : CtrlTail) (s : State) : Host.Outcome State Fault Refusal :=
  .next (s.helloIn l payload t).done

/-- LEAVING (R102): LEAVING arrives. -/
def execLeaving (l : Fin 5) (t : List Word × CtrlTail) (s : State) : Host.Outcome State Fault Refusal :=
  .next (s.leavingIn l t.1 t.2).done

/-- LEAVING_SEND (R97): LEAVING goes out. -/
def execLeavingSend (l : Fin 5) (s : State) : Host.Outcome State Fault Refusal := .next (s.leavingSend l).done

/-- NBR_STALE (R104): no HELLO from the neighbour for its time. -/
def execNbrStale (l : Fin 5) (s : State) : Host.Outcome State Fault Refusal := .next (s.nbrStale l).done

/-- SIGNAL_DETECT (R99): a signal on the lane. -/
def execSignalDetect (l : Fin 5) (s : State) : Host.Outcome State Fault Refusal := .next (s.signalDetect l).done

/-- CDR_LOCK (R99): clock recovery locks. -/
def execCdrLock (l : Fin 5) (s : State) : Host.Outcome State Fault Refusal := .next (s.cdrLock l).done

/-- BLOCK_LOCK (R99): blocks are aligned. -/
def execBlockLock (l : Fin 5) (s : State) : Host.Outcome State Fault Refusal := .next (s.blockLock l).done

/-- VERIFY (R99): the verification ends. -/
def execVerify (l : Fin 5) (s : State) : Host.Outcome State Fault Refusal := .next (s.verifyDone l).done

/-- TRAINING_LIMIT_EXPIRE (R100): training has not ended in time. -/
def execTrainingLimitExpire (l : Fin 5) (s : State) : Host.Outcome State Fault Refusal := .next (s.trainingFailed l).done

/-- FALLBACK_WAIT_EXPIRE (R100): the wait at the lower rate ends. -/
def execFallbackWaitExpire (l : Fin 5) (s : State) : Host.Outcome State Fault Refusal := .next (s.fallbackEnd l).done

/-- LINK_DOWN (R102): an up lane fails. -/
def execLinkDown (l : Fin 5) (cause : DownCause) (s : State) : Host.Outcome State Fault Refusal := .next (s.linkDown l cause).done

/-- HELD_DOWN_EXPIRE (R103): HELD_DOWN ends by itself. -/
def execHeldDownExpire (l : Fin 5) (s : State) : Host.Outcome State Fault Refusal := .next (s.heldDownEnd l).done

/-- CLR_HOLD (R103): LNK_CTL.CLR_HOLD is written 1. -/
def execClrHold (l : Fin 5) (s : State) : Host.Outcome State Fault Refusal := .next (s.setReg .lnkCtl l 0 2).done

/-- RETRAIN (R121): LNK_CTL.RETRAIN is written 1. -/
def execRetrain (l : Fin 5) (s : State) : Host.Outcome State Fault Refusal := .next (s.setReg .lnkCtl l 0 1).done

/-- CABLING_SIGNAL_LOST (R99): a lane in CABLING loses its signal. -/
def execCablingSignalLost (l : Fin 5) (s : State) : Host.Outcome State Fault Refusal := .next (s.cablingLost l).done

/-- LANE_ENABLE (R121): LNK_CFG.ENABLE is written. -/
def execLaneEnable (l : Fin 5) (en : Bool) (s : State) : Host.Outcome State Fault Refusal :=
  .next (s.setReg .lnkCfg l 0 ((s.rd .lnkCfg l).setBits 31 31 (bit en))).done

/-- MODULE_ABS_CHANGE (R106): a module is put in or taken out. -/
def execModuleAbsChange (l : Fin 5) (absent : Bool) (s : State) : Host.Outcome State Fault Refusal :=
  .next (s.moduleAbs l absent).done

/-- MODULE_ID_READ (R106): the identity of a module has been read. -/
def execModuleIdRead (l : Fin 5) (r : ModuleId) (s : State) : Host.Outcome State Fault Refusal := .next (s.moduleId l r).done

/-- MODULE_DIAG_POLL (R106): the diagnostic words of a module have been read. -/
def execModuleDiagPoll (l : Fin 5) (d : Option ModuleDiag) (s : State) : Host.Outcome State Fault Refusal :=
  .next (s.modulePoll l d).done

/-- RING_FRAME_RECEIVE (R107): a frame header arrives on a lane. -/
def execRingFrameReceive (l : Fin 5) (f : Frame) (s : State) : Host.Outcome State Fault Refusal := .next (s.ringFrame l f).done

/-- FRAME_END_RECEIVE (R112): the tail of the frame arrives, and is written to the vat behind it. -/
def execFrameEndReceive (l : Fin 5) (t : Tail) (s : State) : Host.Outcome State Fault Refusal :=
  .next ((s.layTail l t).frameEnd l t).done

/-- REPEAT_PATH_JOIN (R115): both ring lanes repeat. -/
def execRepeatPathJoin (s : State) : Host.Outcome State Fault Refusal := .next s.repeatJoin.done

/-- REPEAT_PATH_LEAVE (R116): lanes leave the repeat path. -/
def execRepeatPathLeave (spur : Bool) (s : State) : Host.Outcome State Fault Refusal := .next (s.repeatLeave spur).done

/-- BYPASS_HOLD_RELEASE (R114): BYP_HOLD falls when a condition of it has failed. -/
def execBypassHoldRelease (s : State) : Host.Outcome State Fault Refusal := .next (s.setHold false).done

/-- TEST_RELEASE (R114): LNK_BYP.TEST_RELEASE is written 1. -/
def execTestRelease (s : State) : Host.Outcome State Fault Refusal := .next (s.setReg .lnkByp 0 0 1).done

/-- HUB_INSERTED (R114): BYP_HOLD rises when its conditions hold. -/
def execHubInserted (s : State) : Host.Outcome State Fault Refusal := .next (s.setHold true).done

end Sys2Proof.Machine
end

