-- ==== Sys2Proof/Machine/Management.lean ====
section
/-!
DEFINITION. The management cores, the sensors, the logs and the watchdog (R349-R366).
-/
namespace Sys2Proof.Machine

/-- LOCKSTEP_MISMATCH (R349): the cores differ. -/
def execLockstepMismatch (g : Fin 12) (s : State) : Host.Outcome State Fault Refusal := .next (s.lockstep g).done

/-- LL_REQUEST (R354): a request of the local logic. -/
def execLlRequest (f : Frame) (s : State) : Host.Outcome State Fault Refusal := .next (s.llRequest f).done

/-- LOCAL_WDG (R355): the watchdog of the local logic. -/
def execLocalWdg (s : State) : Host.Outcome State Fault Refusal := .next s.localWdg.done

/-- SENSOR_READ (R356): a sensor has been read. -/
def execSensorRead (r : Sensor) (s : State) : Host.Outcome State Fault Refusal := .next (s.sensorRead r).done

/-- LOG_MIRROR (R360): a record goes to flash. -/
def execLogMirror (s : State) : Host.Outcome State Fault Refusal := .next s.logMirror.done

/-- KICK (R363): the watchdog is served. -/
def execKick (v : BitVec 16) (s : State) : Host.Outcome State Fault Refusal := .next (s.kick v.toNat).done

/-- WDG_EXPIRE (R364): the watchdog ends. -/
def execWdgExpire (pending : Option (Fin 21)) (s : State) : Host.Outcome State Fault Refusal :=
  .next (s.wdgExpire (pending.map (·.val))).done

/-- SRAM_SCRUB (R366): the scrubber meets a word of the management memory. -/
def execSramScrub (found : EccResult) (core : Bool) (s : State) : Host.Outcome State Fault Refusal :=
  .next (s.sramScrub found core).done

end Sys2Proof.Machine
end

