-- ==== Sys2Proof/Machine/Resets.lean ====
section
/-!
DEFINITION. Islands, clocks, resets and power (R387-R410, R466-R470).
-/
namespace Sys2Proof.Machine

/-- ISL_RST_CTL (R392): ISL_RST_CTL is written. -/
def execIslRstCtl (m : BitVec 21) (s : State) : Host.Outcome State Fault Refusal :=
  .next (s.setReg .islRstCtl 0 0 (m.setWidth 32)).done

/-- ISL_PWR_CTL (R401): ISL_PWR_CTL is written. -/
def execIslPwrCtl (m : BitVec 21) (s : State) : Host.Outcome State Fault Refusal :=
  .next (s.setReg .islPwrCtl 0 0 (m.setWidth 32)).done

/-- ISLAND_POWER_UP (R401): an island has powered up. -/
def execIslandPowerUp (isl : Fin 21) (s : State) : Host.Outcome State Fault Refusal := .next (s.powerUp isl).done

/-- CLOCK_STOP (R390): the clock of an island stops. -/
def execClockStop (isl : Fin 21) (s : State) : Host.Outcome State Fault Refusal := .next (s.clockStop isl).done

/-- CLOCK_RESUME (R390): the clock of an island runs again. -/
def execClockResume (isl : Fin 21) (s : State) : Host.Outcome State Fault Refusal := .next (s.clockResume isl).done

/-- ISLAND_RESET_RELEASE (R391): the reset of an island ends. -/
def execIslandResetRelease (isl : Fin 21) (s : State) : Host.Outcome State Fault Refusal := .next (s.islRelease isl).done

/-- RESYNC_TOKEN (R397): the tokens of an island have been exchanged. -/
def execResyncToken (isl : Fin 21) (s : State) : Host.Outcome State Fault Refusal := .next (s.resyncToken isl).done

/-- HANDSHAKE_END (R394): one event has crossed. -/
def execHandshakeEnd (src dst : Fin 21) (s : State) : Host.Outcome State Fault Refusal := .next (s.handshakeEnd src dst).done

/-- POWER_ON (R466): the supplies are good. -/
def execPowerOn (st : Straps) (s : State) : Host.Outcome State Fault Refusal := .next (s.powerOnEvent st).done

/-- RESET_N (R407): RESET_N changes. -/
def execResetN (low : Bool) (st : Straps) (s : State) : Host.Outcome State Fault Refusal := .next (s.resetN low st).done

/-- RAIL_DROP (R467): a supply falls. -/
def execRailDrop (r : Rail) (s : State) : Host.Outcome State Fault Refusal := .next (s.railDrop r).done

end Sys2Proof.Machine
end

