-- ==== Sys2Proof/Machine/RingTime.lean ====
section
/-!
DEFINITION. Ring time and snapshots (R166-R178, R190, R191).
-/
namespace Sys2Proof.Machine

/-- TIME_FRAME_SEND (R169): a TIME frame goes out. -/
def execTimeFrameSend (l : Fin 5) (s : State) : Host.Outcome State Fault Refusal := .next (s.timeSend l).done

/-- TIME_FRAME_RECEIVE (R171): a TIME frame arrives. -/
def execTimeFrameReceive (l : Fin 5) (t : TimeRx) (s : State) : Host.Outcome State Fault Refusal := .next (s.timeReceive l t).done

/-- MASTER_LISTEN_EXPIRE (R168): LISTEN ends without a better master. -/
def execMasterListenExpire (s : State) : Host.Outcome State Fault Refusal := .next s.listenEnd.done

/-- UPSTREAM_LOSS (R171): the upstream lane is silent. -/
def execUpstreamLoss (s : State) : Host.Outcome State Fault Refusal := .next s.upstreamLoss.done

/-- STEP_APPLY (R177): ring time reaches the instant of a step. -/
def execStepApply (s : State) : Host.Outcome State Fault Refusal := .next s.stepApply.done

/-- TIME_COPY_RESYNC (R174): the islands load their copies of ring time. -/
def execTimeCopyResync (s : State) : Host.Outcome State Fault Refusal := .next s.copyResync.done

/-- SNAPSHOT_FIRE (R191): a snapshot entry fires. -/
def execSnapshotFire (e : Fin 256) (s : State) : Host.Outcome State Fault Refusal := .next (s.snapFire e).done

/-- SNAPSHOT_FRAME_RECEIVE (R190): a SNAPSHOT frame arrives. -/
def execSnapshotFrameReceive (l : Fin 5) (f : Frame) (t : Tail) (s : State) : Host.Outcome State Fault Refusal :=
  .next (s.snapReceive l f t).done

end Sys2Proof.Machine
end

