-- ==== Sys2Proof/Machine/Schedule.lean ====
section
/-!
DEFINITION. The schedule table (R182-R190).
-/
namespace Sys2Proof.Machine

/-- SCHEDULE_HANDOFF (R185): an entry goes to its islands 2 µs before T. -/
def execScheduleHandoff (e : Fin 256) (s : State) : Host.Outcome State Fault Refusal := .next (s.handoff e).done

/-- ENG_START (R183): engines start. -/
def execEngStart (e : Fin 256) (s : State) : Host.Outcome State Fault Refusal := .next (s.fireStart e).done

/-- ENG_STOP (R183): engines stop. -/
def execEngStop (e : Fin 256) (s : State) : Host.Outcome State Fault Refusal := .next (s.fireStop e).done

/-- SEND (R183): a frame leaves by a field port. -/
def execSend (e : Fin 256) (s : State) : Host.Outcome State Fault Refusal := .next (s.fireSend e).done

/-- PIN_SET (R204): direct outputs change. -/
def execPinSet (e : Fin 256) (s : State) : Host.Outcome State Fault Refusal := .next (s.firePinSet e).done

/-- PWR_ON (R323): channels switch on. -/
def execPwrOn (e : Fin 256) (s : State) : Host.Outcome State Fault Refusal := .next (s.firePwrOn e).done

/-- PWR_OFF (R323): channels switch off. -/
def execPwrOff (e : Fin 256) (s : State) : Host.Outcome State Fault Refusal := .next (s.firePwrOff e).done

/-- PIN_SAMPLE (R204): pin levels are sampled. -/
def execPinSample (e : Fin 256) (s : State) : Host.Outcome State Fault Refusal := .next (s.firePinSample e).done

/-- COUNT_SAMPLE (R204): pin counters are sampled. -/
def execCountSample (e : Fin 256) (s : State) : Host.Outcome State Fault Refusal := .next (s.fireCountSample e).done

/-- ENG_TRIGGER (R237): triggers of engines are set. -/
def execEngTrigger (e : Fin 256) (s : State) : Host.Outcome State Fault Refusal := .next (s.fireTrigger e).done

/-- PWR_SAMPLE (R327): measurements of channels are sampled. -/
def execPwrSample (e : Fin 256) (s : State) : Host.Outcome State Fault Refusal := .next (s.firePwrSample e).done

/-- TIM_SCHED_CANCEL (R187): an entry number is written to TIM_SCHED_CANCEL. -/
def execTimSchedCancel (e : Fin 256) (s : State) : Host.Outcome State Fault Refusal :=
  .next (s.setReg .timSchedCancel 0 0 (BitVec.ofNat 32 e)).done

end Sys2Proof.Machine
end

