-- ==== Sys2Proof/Machine/Security.lean ====
section
/-!
DEFINITION. Fuses and debug unlock (R446-R465).
-/
namespace Sys2Proof.Machine

/-- BURN (R448): SEC_OWNER_CTL.BURN is written 1. -/
def execBurn (slot : BitVec 2) (s : State) : Host.Outcome State Fault Refusal :=
  .next (s.setReg .secOwnerCtl 0 0 (0x5A0C0001 ||| (slot.setWidth 32 <<< 8))).done

/-- REVOKE (R449): SEC_OWNER_CTL.REVOKE is written 1. -/
def execRevoke (slot : BitVec 2) (s : State) : Host.Outcome State Fault Refusal :=
  .next (s.setReg .secOwnerCtl 0 0 (0x5A0C0002 ||| (slot.setWidth 32 <<< 8))).done

/-- OTP_OPERATION_DONE (R448): a fuse operation ends. -/
def execOtpOperationDone (ok : Bool) (s : State) : Host.Outcome State Fault Refusal := .next (s.otpDone ok).done

/-- UNLOCK (R460): SEC_DBG_CTL.UNLOCK is written 1. -/
def execUnlock (key : BitVec 2) (s : State) : Host.Outcome State Fault Refusal :=
  .next (s.setReg .secDbgCtl 0 0 (1 ||| (key.setWidth 32 <<< 2))).done

/-- UNLOCK_CHECK_DONE (R460): the check of an unlock ends. -/
def execUnlockCheckDone (tokenOk : Bool) (s : State) : Host.Outcome State Fault Refusal := .next (s.unlockDone tokenOk).done

end Sys2Proof.Machine
end

