-- ==== Sys2Proof/Machine/SwitchCore.lean ====
section
/-!
DEFINITION. The switch core: lookup, transmission, residue, scrubbing, the press, loupes (R129-R163).
-/
namespace Sys2Proof.Machine

/-- Port 122 takes its head unit: the frame has been handed to Hihovos, which serves it as its own row says; a PORT_DATA frame is
discarded and counted (R56). -/
def State.handLocal (s : State) : State :=
  match s.takeLocal 122 with
  | (s, none) => s
  | (s, some (v, _)) => if v.frame.ftype == ftPortData then s.bump .swcCnt 1 else s.transmit 122 v.frame v.rind

/-- The head unit of output port `p` leaves. Port 5 is served by RX_DELIVER. -/
def State.unitLeaves (s : State) (p : Nat) : State :=
  if p ≤ 4 then s.laneTransmit p
  else if p = 5 then s
  else if p < 26 then s.macTransmit (portMac p)
  else if p < 58 then s.canFill (p - 26)
  else if p < 122 then s.txqFeed (p - 58)
  else if p = 122 then s.handLocal
  else if p = 123 then s.captureNext
  else s

/-- The residue head of queue `q` is tested (R152). -/
def State.residueHead (s : State) (q : Nat) : State := if s.islandUp 6 then s.residueTest q (s.residue q).length else s

/-- The residue head of queue `q` comes due. -/
def State.residueDue (s : State) (q : Nat) : State :=
  match s.residue q with
  | [] => s
  | e :: _ => (s.advance (e.until_ - s.now)).residueHead q

/-- A timer of the press ends, with its effect `f` on the context. -/
def State.pressClock (s : State) (t : Timer) (f : State → State) : State :=
  match s.expire t with
  | none => s
  | some s => f s

/-- UNIT_TRANSMIT (R150): the head unit of an output port leaves. -/
def execUnitTransmit (p : Fin 128) (s : State) : Host.Outcome State Fault Refusal := .next (s.unitLeaves p).done

/-- UNIT_LOOKUP (R153): the unit at the head of the ingress is looked up. -/
def execUnitLookup (s : State) : Host.Outcome State Fault Refusal := .next s.lookupNext.txLooked.done

/-- RESIDUE_HEAD_TEST (R152): the head residue entries of a queue are tested. -/
def execResidueHeadTest (q : Fin 1024) (s : State) : Host.Outcome State Fault Refusal := .next (s.residueHead q).done

/-- RESIDUE_EXPIRE (R152): the head residue entry of a queue comes due. -/
def execResidueExpire (q : Fin 1024) (s : State) : Host.Outcome State Fault Refusal := .next (s.residueDue q).done

/-- COMMIT (R155): SWC_FWD_CTL.COMMIT is written 1. -/
def execCommit (s : State) : Host.Outcome State Fault Refusal := .next (s.setReg .swcFwdCtl 0 0 0x80000000).done

/-- CAPTURE_ENABLE (R160): CAP_CTL.ENABLE is written 1. -/
def execCaptureEnable (s : State) : Host.Outcome State Fault Refusal := .next (s.setReg .capCtl 0 0 (s.rd .capCtl ||| 1)).done

/-- GAP_RECORD_REMOVE (R139): PRS_GAPCTL is written: the oldest gap record goes. -/
def execGapRecordRemove (s : State) : Host.Outcome State Fault Refusal := .next (s.setReg .prsGapctl 0 0 0).done

/-- PRESS_WAIT_EXPIRE (R131): the wait of a press context ends. -/
def execPressWaitExpire (key : Nat) (s : State) : Host.Outcome State Fault Refusal :=
  .next (s.pressClock (.pressWait key) (fun s => s.pressWaitEnd key)).done

/-- PRESS_CONTEXT_IDLE (R129): a press context without traffic is freed. -/
def execPressContextIdle (key : Nat) (s : State) : Host.Outcome State Fault Refusal :=
  .next (s.pressClock (.pressIdle key) (fun s => s.ctxIdle key)).done

/-- FENCE_COMPLETE (R156): every unit admitted under the old table has left. -/
def execFenceComplete (s : State) : Host.Outcome State Fault Refusal := .next s.fenceComplete.done

/-- FENCE_TIMEOUT (R89): the fence has not completed in time. -/
def execFenceTimeout (s : State) : Host.Outcome State Fault Refusal := .next s.fenceTimeout.done

/-- SCRUB_WORD (R143): the scrubber meets word `w` of the vat. -/
def execScrubWord (w : Nat) (found : EccResult) (s : State) : Host.Outcome State Fault Refusal :=
  if w < 2 ^ 21 then .next (s.scrub w found).done else .fault .noSuchWord

end Sys2Proof.Machine
end

