-- ==== Sys2Proof/Machine/Dispatch.lean ====
section
/-!
DEFINITION. The dispatcher: one arm per command of the table, each a direct call of its meaning.
-/
namespace Sys2Proof.Machine

def exec (i : Instr) (s : State) : Host.Outcome State Fault Refusal :=
  match i with
  | .read c => Sys2Proof.Machine.execRead c s
  | .write c => Sys2Proof.Machine.execWrite c s
  | .writePosted c => Sys2Proof.Machine.execWritePosted c s
  | .readModifyWrite c => Sys2Proof.Machine.execReadModifyWrite c s
  | .readBlock c => Sys2Proof.Machine.execReadBlock c s
  | .writeBlock c => Sys2Proof.Machine.execWriteBlock c s
  | .portSend c => Sys2Proof.Machine.execPortSend c s
  | .portConfig c => Sys2Proof.Machine.execPortConfig c s
  | .portFlush c => Sys2Proof.Machine.execPortFlush c s
  | .applyAt c => Sys2Proof.Machine.execApplyAt c s
  | .sampleAt c => Sys2Proof.Machine.execSampleAt c s
  | .snapshotAt c => Sys2Proof.Machine.execSnapshotAt c s
  | .sessionOpen c x => Sys2Proof.Machine.execSessionOpen c x s
  | .sessionClose c => Sys2Proof.Machine.execSessionClose c s
  | .profileSelect c => Sys2Proof.Machine.execProfileSelect c s
  | .profileStore c => Sys2Proof.Machine.execProfileStore c s
  | .selftestReq c => Sys2Proof.Machine.execSelftestReq c s
  | .healthGet c => Sys2Proof.Machine.execHealthGet c s
  | .faultAck c => Sys2Proof.Machine.execFaultAck c s
  | .safeEnter c => Sys2Proof.Machine.execSafeEnter c s
  | .safeLeave c => Sys2Proof.Machine.execSafeLeave c s
  | .updateBegin c => Sys2Proof.Machine.execUpdateBegin c s
  | .updateBlock c => Sys2Proof.Machine.execUpdateBlock c s
  | .updateVerify c => Sys2Proof.Machine.execUpdateVerify c s
  | .updateActivate c => Sys2Proof.Machine.execUpdateActivate c s
  | .updateConfirm c => Sys2Proof.Machine.execUpdateConfirm c s
  | .updateRelay c => Sys2Proof.Machine.execUpdateRelay c s
  | .updateAbort c => Sys2Proof.Machine.execUpdateAbort c s
  | .timeStep c => Sys2Proof.Machine.execTimeStep c s
  | .timeRate c => Sys2Proof.Machine.execTimeRate c s
  | .stepRearm c => Sys2Proof.Machine.execStepRearm c s
  | .tableFence c => Sys2Proof.Machine.execTableFence c s
  | .pairHandover c => Sys2Proof.Machine.execPairHandover c s
  | .pairStatus c => Sys2Proof.Machine.execPairStatus c s
  | .logRead c => Sys2Proof.Machine.execLogRead c s
  | .echo c => Sys2Proof.Machine.execEcho c s
  | .resetChip c => Sys2Proof.Machine.execResetChip c s
  | .registerWrite view off v => Sys2Proof.Machine.execRegisterWrite view off v s
  | .replyReceive f authOk => Sys2Proof.Machine.execReplyReceive f authOk s
  | .eventReceive f => Sys2Proof.Machine.execEventReceive f s
  | .commandTimeout port tag => Sys2Proof.Machine.execCommandTimeout port tag s
  | .quarantineEnd port tag => Sys2Proof.Machine.execQuarantineEnd port tag s
  | .retryCacheExpire => Sys2Proof.Machine.execRetryCacheExpire s
  | .trainIdSend l => Sys2Proof.Machine.execTrainIdSend l s
  | .trainId l payload t => Sys2Proof.Machine.execTrainId l payload t s
  | .helloSend l => Sys2Proof.Machine.execHelloSend l s
  | .hello l payload t => Sys2Proof.Machine.execHello l payload t s
  | .leaving l t => Sys2Proof.Machine.execLeaving l t s
  | .leavingSend l => Sys2Proof.Machine.execLeavingSend l s
  | .nbrStale l => Sys2Proof.Machine.execNbrStale l s
  | .signalDetect l => Sys2Proof.Machine.execSignalDetect l s
  | .cdrLock l => Sys2Proof.Machine.execCdrLock l s
  | .blockLock l => Sys2Proof.Machine.execBlockLock l s
  | .verify l => Sys2Proof.Machine.execVerify l s
  | .trainingLimitExpire l => Sys2Proof.Machine.execTrainingLimitExpire l s
  | .fallbackWaitExpire l => Sys2Proof.Machine.execFallbackWaitExpire l s
  | .linkDown l cause => Sys2Proof.Machine.execLinkDown l cause s
  | .heldDownExpire l => Sys2Proof.Machine.execHeldDownExpire l s
  | .clrHold l => Sys2Proof.Machine.execClrHold l s
  | .retrain l => Sys2Proof.Machine.execRetrain l s
  | .cablingSignalLost l => Sys2Proof.Machine.execCablingSignalLost l s
  | .laneEnable l en => Sys2Proof.Machine.execLaneEnable l en s
  | .moduleAbsChange l absent => Sys2Proof.Machine.execModuleAbsChange l absent s
  | .moduleIdRead l r => Sys2Proof.Machine.execModuleIdRead l r s
  | .moduleDiagPoll l d => Sys2Proof.Machine.execModuleDiagPoll l d s
  | .ringFrameReceive l f => Sys2Proof.Machine.execRingFrameReceive l f s
  | .frameEndReceive l t => Sys2Proof.Machine.execFrameEndReceive l t s
  | .unitTransmit p => Sys2Proof.Machine.execUnitTransmit p s
  | .repeatPathJoin => Sys2Proof.Machine.execRepeatPathJoin s
  | .repeatPathLeave spur => Sys2Proof.Machine.execRepeatPathLeave spur s
  | .bypassHoldRelease => Sys2Proof.Machine.execBypassHoldRelease s
  | .testRelease => Sys2Proof.Machine.execTestRelease s
  | .unitLookup => Sys2Proof.Machine.execUnitLookup s
  | .residueHeadTest q => Sys2Proof.Machine.execResidueHeadTest q s
  | .residueExpire q => Sys2Proof.Machine.execResidueExpire q s
  | .scrubWord w found => Sys2Proof.Machine.execScrubWord w found s
  | .commit => Sys2Proof.Machine.execCommit s
  | .captureEnable => Sys2Proof.Machine.execCaptureEnable s
  | .gapRecordRemove => Sys2Proof.Machine.execGapRecordRemove s
  | .pressWaitExpire key => Sys2Proof.Machine.execPressWaitExpire key s
  | .pressContextIdle key => Sys2Proof.Machine.execPressContextIdle key s
  | .timeFrameSend l => Sys2Proof.Machine.execTimeFrameSend l s
  | .timeFrameReceive l t => Sys2Proof.Machine.execTimeFrameReceive l t s
  | .masterListenExpire => Sys2Proof.Machine.execMasterListenExpire s
  | .upstreamLoss => Sys2Proof.Machine.execUpstreamLoss s
  | .stepApply => Sys2Proof.Machine.execStepApply s
  | .timeCopyResync => Sys2Proof.Machine.execTimeCopyResync s
  | .scheduleHandoff e => Sys2Proof.Machine.execScheduleHandoff e s
  | .engStart e => Sys2Proof.Machine.execEngStart e s
  | .engStop e => Sys2Proof.Machine.execEngStop e s
  | .send e => Sys2Proof.Machine.execSend e s
  | .pinSet e => Sys2Proof.Machine.execPinSet e s
  | .pwrOn e => Sys2Proof.Machine.execPwrOn e s
  | .pwrOff e => Sys2Proof.Machine.execPwrOff e s
  | .pinSample e => Sys2Proof.Machine.execPinSample e s
  | .countSample e => Sys2Proof.Machine.execCountSample e s
  | .engTrigger e => Sys2Proof.Machine.execEngTrigger e s
  | .pwrSample e => Sys2Proof.Machine.execPwrSample e s
  | .timSchedCancel e => Sys2Proof.Machine.execTimSchedCancel e s
  | .snapshotFire e => Sys2Proof.Machine.execSnapshotFire e s
  | .snapshotFrameReceive l f t => Sys2Proof.Machine.execSnapshotFrameReceive l f t s
  | .shiftin e => Sys2Proof.Machine.execShiftin e s
  | .shiftout e => Sys2Proof.Machine.execShiftout e s
  | .take e => Sys2Proof.Machine.execTake e s
  | .give e => Sys2Proof.Machine.execGive e s
  | .hold e => Sys2Proof.Machine.execHold e s
  | .branch e => Sys2Proof.Machine.execBranch e s
  | .loop e => Sys2Proof.Machine.execLoop e s
  | .load e => Sys2Proof.Machine.execLoad e s
  | .move e => Sys2Proof.Machine.execMove e s
  | .drive e => Sys2Proof.Machine.execDrive e s
  | .dir e => Sys2Proof.Machine.execDir e s
  | .signal e => Sys2Proof.Machine.execSignal e s
  | .crc e => Sys2Proof.Machine.execCrc e s
  | .matchInstr e => Sys2Proof.Machine.execMatchInstr e s
  | .stamp e => Sys2Proof.Machine.execStamp e s
  | .halt e => Sys2Proof.Machine.execHalt e s
  | .nop e => Sys2Proof.Machine.execNop e s
  | .start e pc => Sys2Proof.Machine.execStart e pc s
  | .stop e => Sys2Proof.Machine.execStop e s
  | .clear e => Sys2Proof.Machine.execClear e s
  | .flushTx e => Sys2Proof.Machine.execFlushTx e s
  | .flushRx e => Sys2Proof.Machine.execFlushRx e s
  | .startMask k m => Sys2Proof.Machine.execStartMask k m s
  | .stopMask k m => Sys2Proof.Machine.execStopMask k m s
  | .clkRestart k => Sys2Proof.Machine.execClkRestart k s
  | .engInject e w => Sys2Proof.Machine.execEngInject e w s
  | .injectExecute e => Sys2Proof.Machine.execInjectExecute e s
  | .cluDoutSet k m => Sys2Proof.Machine.execCluDoutSet k m s
  | .cluDoutClr k m => Sys2Proof.Machine.execCluDoutClr k m s
  | .debounceSample k => Sys2Proof.Machine.execDebounceSample k s
  | .cosEvent k => Sys2Proof.Machine.execCosEvent k s
  | .txqFeed e => Sys2Proof.Machine.execTxqFeed e s
  | .packerWord e => Sys2Proof.Machine.execPackerWord e s
  | .rxPackExpire e => Sys2Proof.Machine.execRxPackExpire e s
  | .bankSupplyLoss k => Sys2Proof.Machine.execBankSupplyLoss k s
  | .bankSupplyReturn k => Sys2Proof.Machine.execBankSupplyReturn k s
  | .windowAnswer w => Sys2Proof.Machine.execWindowAnswer w s
  | .windowTimeout w => Sys2Proof.Machine.execWindowTimeout w s
  | .canFrameReceive n f => Sys2Proof.Machine.execCanFrameReceive n f s
  | .canAttemptEnd n a => Sys2Proof.Machine.execCanAttemptEnd n a s
  | .busOffRecoveryDone n => Sys2Proof.Machine.execBusOffRecoveryDone n s
  | .recover n => Sys2Proof.Machine.execRecover n s
  | .opmodeApply n => Sys2Proof.Machine.execOpmodeApply n s
  | .canRateDetectStart n => Sys2Proof.Machine.execCanRateDetectStart n s
  | .canRateDetectAbort n => Sys2Proof.Machine.execCanRateDetectAbort n s
  | .rateSurveyEnd n pulses => Sys2Proof.Machine.execRateSurveyEnd n pulses s
  | .candidateDwellExpire n => Sys2Proof.Machine.execCandidateDwellExpire n s
  | .rateDetectTimeout n => Sys2Proof.Machine.execRateDetectTimeout n s
  | .referenceRelease n => Sys2Proof.Machine.execReferenceRelease n s
  | .canPackExpire n => Sys2Proof.Machine.execCanPackExpire n s
  | .canTsqCtl n => Sys2Proof.Machine.execCanTsqCtl n s
  | .canWake n f => Sys2Proof.Machine.execCanWake n f s
  | .macFrameReceive m r => Sys2Proof.Machine.execMacFrameReceive m r s
  | .macDeferEnd m carrier => Sys2Proof.Machine.execMacDeferEnd m carrier s
  | .collision m bits => Sys2Proof.Machine.execCollision m bits s
  | .backoffExpire m => Sys2Proof.Machine.execBackoffExpire m s
  | .macTxEnd m => Sys2Proof.Machine.execMacTxEnd m s
  | .inbandStatus g speed duplex link => Sys2Proof.Machine.execInbandStatus g speed duplex link s
  | .macPackExpire m => Sys2Proof.Machine.execMacPackExpire m s
  | .macTsqCtl m => Sys2Proof.Machine.execMacTsqCtl m s
  | .go ctl => Sys2Proof.Machine.execGo ctl s
  | .mdioDone data => Sys2Proof.Machine.execMdioDone data s
  | .macWake m r => Sys2Proof.Machine.execMacWake m r s
  | .windowWriteTlp off words beOk => Sys2Proof.Machine.execWindowWriteTlp off words beOk s
  | .windowReadTlp off n => Sys2Proof.Machine.execWindowReadTlp off n s
  | .bar0Access off wr beOk => Sys2Proof.Machine.execBar0Access off wr beOk s
  | .bar4Access off wr beOk => Sys2Proof.Machine.execBar4Access off wr beOk s
  | .hbrTxrTail tail descs => Sys2Proof.Machine.execHbrTxrTail tail descs s
  | .hbrRxrTail q tail bufs => Sys2Proof.Machine.execHbrRxrTail q tail bufs s
  | .rxDeliver => Sys2Proof.Machine.execRxDeliver s
  | .intModerationExpire q => Sys2Proof.Machine.execIntModerationExpire q s
  | .hbrElogTail t => Sys2Proof.Machine.execHbrElogTail t s
  | .errPendClear => Sys2Proof.Machine.execErrPendClear s
  | .ncRetryExpire tag => Sys2Proof.Machine.execNcRetryExpire tag s
  | .readDeadline ix => Sys2Proof.Machine.execReadDeadline ix s
  | .prefetchExpire ix => Sys2Proof.Machine.execPrefetchExpire ix s
  | .functionLevelReset => Sys2Proof.Machine.execFunctionLevelReset s
  | .perstN => Sys2Proof.Machine.execPerstN s
  | .pcieLinkDown => Sys2Proof.Machine.execPcieLinkDown s
  | .pwrChOn c => Sys2Proof.Machine.execPwrChOn c s
  | .pwrChOff c => Sys2Proof.Machine.execPwrChOff c s
  | .clrLatch c => Sys2Proof.Machine.execClrLatch c s
  | .pwrCmd on off => Sys2Proof.Machine.execPwrCmd on off s
  | .rampComplete c enhance => Sys2Proof.Machine.execRampComplete c enhance s
  | .limitOnset c => Sys2Proof.Machine.execLimitOnset c s
  | .faultTimerExpire c => Sys2Proof.Machine.execFaultTimerExpire c s
  | .thermalUpdate c => Sys2Proof.Machine.execThermalUpdate c s
  | .fetGateFail c => Sys2Proof.Machine.execFetGateFail c s
  | .fetStuckOn c => Sys2Proof.Machine.execFetStuckOn c s
  | .rampTimeout c => Sys2Proof.Machine.execRampTimeout c s
  | .openLoad c => Sys2Proof.Machine.execOpenLoad c s
  | .vinOutOfRange ov => Sys2Proof.Machine.execVinOutOfRange ov s
  | .vinRestored => Sys2Proof.Machine.execVinRestored s
  | .retryExpire c => Sys2Proof.Machine.execRetryExpire c s
  | .retryCountReset c => Sys2Proof.Machine.execRetryCountReset c s
  | .pgAssert c => Sys2Proof.Machine.execPgAssert c s
  | .driveRightLoss c => Sys2Proof.Machine.execDriveRightLoss c s
  | .parkTimeout c => Sys2Proof.Machine.execParkTimeout c s
  | .parkHandoff c => Sys2Proof.Machine.execParkHandoff c s
  | .pfwarnAssert => Sys2Proof.Machine.execPfwarnAssert s
  | .pfwarnRelease => Sys2Proof.Machine.execPfwarnRelease s
  | .measurement c m => Sys2Proof.Machine.execMeasurement c m s
  | .order on f rindGood => Sys2Proof.Machine.execOrder on f rindGood s
  | .progress on payload => Sys2Proof.Machine.execProgress on payload s
  | .channel on payload => Sys2Proof.Machine.execChannel on payload s
  | .session on r => Sys2Proof.Machine.execSession on r s
  | .handover on => Sys2Proof.Machine.execHandover on s
  | .sync r => Sys2Proof.Machine.execSync r s
  | .join payload => Sys2Proof.Machine.execJoin payload s
  | .joinSend => Sys2Proof.Machine.execJoinSend s
  | .digestSend => Sys2Proof.Machine.execDigestSend s
  | .digest on payload => Sys2Proof.Machine.execDigest on payload s
  | .ack on => Sys2Proof.Machine.execAck on s
  | .nak on => Sys2Proof.Machine.execNak on s
  | .ackTimeout => Sys2Proof.Machine.execAckTimeout s
  | .orderBacklogFull => Sys2Proof.Machine.execOrderBacklogFull s
  | .heartbeat d2 d3 => Sys2Proof.Machine.execHeartbeat d2 d3 s
  | .heartbeatSend => Sys2Proof.Machine.execHeartbeatSend s
  | .hbInEdge interval => Sys2Proof.Machine.execHbInEdge interval s
  | .heartbeatSilent pin => Sys2Proof.Machine.execHeartbeatSilent pin s
  | .claimWaitExpire => Sys2Proof.Machine.execClaimWaitExpire s
  | .claimCheck => Sys2Proof.Machine.execClaimCheck s
  | .ilkChange low => Sys2Proof.Machine.execIlkChange low s
  | .pairWaitExpire => Sys2Proof.Machine.execPairWaitExpire s
  | .transferTimeout => Sys2Proof.Machine.execTransferTimeout s
  | .holdExpire => Sys2Proof.Machine.execHoldExpire s
  | .fitnessLoss => Sys2Proof.Machine.execFitnessLoss s
  | .rejoin => Sys2Proof.Machine.execRejoin s
  | .resync => Sys2Proof.Machine.execResync s
  | .lockstepMismatch g => Sys2Proof.Machine.execLockstepMismatch g s
  | .llRequest f => Sys2Proof.Machine.execLlRequest f s
  | .localWdg => Sys2Proof.Machine.execLocalWdg s
  | .sensorRead r => Sys2Proof.Machine.execSensorRead r s
  | .logMirror => Sys2Proof.Machine.execLogMirror s
  | .kick v => Sys2Proof.Machine.execKick v s
  | .wdgExpire pending => Sys2Proof.Machine.execWdgExpire pending s
  | .sramScrub found core => Sys2Proof.Machine.execSramScrub found core s
  | .sourceRaise src inst edge => Sys2Proof.Machine.execSourceRaise src inst edge s
  | .graceExpire src => Sys2Proof.Machine.execGraceExpire src s
  | .reactionComplete => Sys2Proof.Machine.execReactionComplete s
  | .collectorCheck => Sys2Proof.Machine.execCollectorCheck s
  | .inject => Sys2Proof.Machine.execInject s
  | .faultNPulseEnd => Sys2Proof.Machine.execFaultNPulseEnd s
  | .aliveToggle => Sys2Proof.Machine.execAliveToggle s
  | .islRstCtl m => Sys2Proof.Machine.execIslRstCtl m s
  | .islPwrCtl m => Sys2Proof.Machine.execIslPwrCtl m s
  | .islandPowerUp isl => Sys2Proof.Machine.execIslandPowerUp isl s
  | .clockStop isl => Sys2Proof.Machine.execClockStop isl s
  | .clockResume isl => Sys2Proof.Machine.execClockResume isl s
  | .islandResetRelease isl => Sys2Proof.Machine.execIslandResetRelease isl s
  | .resyncToken isl => Sys2Proof.Machine.execResyncToken isl s
  | .handshakeEnd src dst => Sys2Proof.Machine.execHandshakeEnd src dst s
  | .powerOn st => Sys2Proof.Machine.execPowerOn st s
  | .resetN low st => Sys2Proof.Machine.execResetN low st s
  | .railDrop r => Sys2Proof.Machine.execRailDrop r s
  | .bootStart => Sys2Proof.Machine.execBootStart s
  | .bootStepDone r => Sys2Proof.Machine.execBootStepDone r s
  | .profileSwitchEnd ok prevOk => Sys2Proof.Machine.execProfileSwitchEnd ok prevOk s
  | .profileStoreDone => Sys2Proof.Machine.execProfileStoreDone s
  | .selftestDone test found => Sys2Proof.Machine.execSelftestDone test found s
  | .fenceComplete => Sys2Proof.Machine.execFenceComplete s
  | .fenceTimeout => Sys2Proof.Machine.execFenceTimeout s
  | .wakeFall => Sys2Proof.Machine.execWakeFall s
  | .wakeHigh => Sys2Proof.Machine.execWakeHigh s
  | .eraseComplete => Sys2Proof.Machine.execEraseComplete s
  | .verifyComplete r => Sys2Proof.Machine.execVerifyComplete r s
  | .req l words => Sys2Proof.Machine.execReq l words s
  | .data l words rindGood => Sys2Proof.Machine.execData l words rindGood s
  | .refuse l words => Sys2Proof.Machine.execRefuse l words s
  | .relayDataSend => Sys2Proof.Machine.execRelayDataSend s
  | .relayWindowTimeout => Sys2Proof.Machine.execRelayWindowTimeout s
  | .relayNoProgress => Sys2Proof.Machine.execRelayNoProgress s
  | .recoveryPullTimer => Sys2Proof.Machine.execRecoveryPullTimer s
  | .sessionIdleExpire n => Sys2Proof.Machine.execSessionIdleExpire n s
  | .sessionUnusedExpire n => Sys2Proof.Machine.execSessionUnusedExpire n s
  | .spentCloseExpire n => Sys2Proof.Machine.execSpentCloseExpire n s
  | .rekeyClose n => Sys2Proof.Machine.execRekeyClose n s
  | .burn slot => Sys2Proof.Machine.execBurn slot s
  | .revoke slot => Sys2Proof.Machine.execRevoke slot s
  | .otpOperationDone ok => Sys2Proof.Machine.execOtpOperationDone ok s
  | .unlock key => Sys2Proof.Machine.execUnlock key s
  | .unlockCheckDone tokenOk => Sys2Proof.Machine.execUnlockCheckDone tokenOk s
  | .canBusError n e => Sys2Proof.Machine.execCanBusError n e s
  | .limitEnd c => Sys2Proof.Machine.execLimitEnd c s
  | .dieToDieLinkLoss => Sys2Proof.Machine.execDieToDieLinkLoss s
  | .dieToDieLinkReturn => Sys2Proof.Machine.execDieToDieLinkReturn s
  | .hubInserted => Sys2Proof.Machine.execHubInserted s
  | .pcieLinkUp speed width => Sys2Proof.Machine.execPcieLinkUp speed width s
  | .gmnRxcChange g runs => Sys2Proof.Machine.execGmnRxcChange g runs s
  | .facetPinChange k p level => Sys2Proof.Machine.execFacetPinChange k p level s
  | .wakeRise => Sys2Proof.Machine.execWakeRise s
  | .pinPathWaitExpire => Sys2Proof.Machine.execPinPathWaitExpire s

end Sys2Proof.Machine
end

