-- ==== Sys2Proof/Safety.lean ====
section
/-!
DEFINITION. What counts as a safe run in the terms the statements use: no step stops, the finite tables keep their canonical
form, and what is burnt stays burnt.
-/
namespace Sys2Proof.Machine

/-- The step answers a next state: no fault and no refusal. -/
def runs (s : State) : Prop := ∃ t, step s = .next t

/-- The command answers a next state: its own effect gives a state `t` with `P`, and the end of the step (reactions that are due,
what follows replies, held commands) is done to `t`. When nothing waits in `t`, that leaves `t` as it is. -/
def Does (c : Instr) (s : State) (P : State → Prop) : Prop := ∃ t, exec c s = .next t.done ∧ P t

/-- What the fuses hold (R448, R449, R457): the owner hashes, the revoked slots, the rollback counter. -/
def SecS.fuse (x : SecS) : Tab (List Word) × List Nat × Nat := (x.owner, x.revoked, x.count)

/-- Fuses may only be blown: from `x` to `y` the owner hashes and the revocations stay and the rollback counter does not fall. -/
def FuseLe (x y : Tab (List Word) × List Nat × Nat) : Prop := y.1 = x.1 ∧ y.2.1 = x.2.1 ∧ x.2.2 ≤ y.2.2

/-- The next edge of engine `n` fetches and runs the instruction `w` of operation code `k` (R228); `u` is the state at that edge.
The engine runs, its cluster is up and clocked, no injected instruction takes the edge (R221), and the parity of the word holds
(R220). -/
structure AtEdge (s : State) (n k : Nat) (w : Word) (u : State) : Prop where
  up : s.islandRuns (9 + n / 8) = true
  run : s.running n = true
  own : (s.eis F.ENG_INJECT_PENDING n && decide ((s.eng n).edge ≥ (s.eng n).injAt)) = false
  word : s.fetch n = w
  code : opOf w = k
  edge : s.toEdge n = u
  good : (u.eng n).badProg.contains (u.eget F.ENG_STATUS_PC n) = false

/-- The end of an instruction that does not stall at the edge `u` (R228, R229): its results are in `t`, its side-set is applied in
its first clock, and the program counter moves. A TAKE leaves a note of what it changed, for a FLUSH_TX in its clock (R235). -/
def State.retire (u : State) (n : Nat) (w : Word) (t : State) (f : Flow) : State :=
  let t := if opOf w = 2 then t.setEng n { t.eng n with took := some (u.takeNote n w) } else t
  (if (u.eng n).first then t.sideSet n w else t).flow n f

/-- What a MOVE from a register that holds a stamp taken while ring time was not valid adds (R244): its destination, if it can hold
one, holds it now. -/
def State.stampMoved (u : State) (n : Nat) (w : Word) (t : State) : State :=
  if !(u.eng n).badStamp (w.bits 14 12) then t
  else match w.bits 11 9 with
    | 2 => t.setEng n { t.eng n with osrBad := true }
    | 3 => t.setEng n { t.eng n with stampBad := true }
    | 4 => t.setEng n { t.eng n with patBad := true }
    | _ => t

/-- Privileged host software may write `w` to instance (`i`, `j`) of `r` now: every check of R46 passes, and the row of the register
lets the word through (R7, R8, R77). -/
structure WriteTaken (s : State) (r : Reg) (i j : Nat) (w : Word) : Prop where
  up : s.mgtUp = true
  still : s.boot.switch = none
  mode : s.mode = .commission ∨ s.mode = .run ∨ s.mode = .safe
  aligned : r.addr i j % 4 = 0
  place : place (r.addr i j) = some (.reg r i j)
  island : s.placeUp (.reg r i j) = true
  status : s.placeStatus true (.reg r i j) w s.lastMaint = stOk

/-- The register holds what the privileged write of `w` leaves in it (R7). -/
def State.stored (s : State) (r : Reg) (i j : Nat) (w : Word) : State := s.wr r i j (r.merge true (s.rd r i j) w)

/-- The status of the last register write that a row of the table makes is `st`. -/
def State.noted (s : State) (st : Status) : State := { s with cmd := { s.cmd with lastWrite := st } }

/-- A COMMAND frame of opcode `op` that this hub takes up, for the address `t`, and whose checks begin in the state `v` (R14, R21,
R56, R74, R117). -/
structure Heard (s : State) (op : BitVec 8) (c : Cmd) (t : Target) (v : State) : Prop where
  hears : s.hears c = true
  form : c.frame.malformed = false
  code : c.frame.opcode = op
  rom : s.romTaken c = false
  target : s.target c = some t
  state : v = s.romTake c

/-- A command that passes the steps 1 to 3 of R46 under the rights `r`; `row` is the row of its opcode. -/
structure Allowed (s : State) (op : BitVec 8) (c : Cmd) (t : Target) (r : Rights) (row : OpRow) (v : State) : Prop where
  heard : Heard s op c t v
  rights : v.rights c t = some r
  row : opRow op = some row
  cast : t = .broadcast → broadcastOp op = true
  allowed : v.allowed c t r = true

/-- A command that is accepted (step 4 of R46, R63, R67), is no retry, and is in service in the state `u`. -/
structure Accepted (s : State) (op : BitVec 8) (c : Cmd) (t : Target) (r : Rights) (x : KeyExchange) (u : State) : Prop where
  allowed : ∃ row v, Allowed s op c t r row v ∧ row.inMode v.mode = true ∧ v.cmd.service.length < 512 ∧
    u = v.enter t (v.newService c (r == .maintain) x)
  retry : c.frame.retry = false

/-- A command that is accepted and does not wait behind another one (R68, R351). -/
structure Begun (s : State) (op : BitVec 8) (c : Cmd) (t : Target) (r : Rights) (x : KeyExchange) (u : State) : Prop where
  accepted : Accepted s op c t r x u
  free : s.mustWait s.cmd.service c.frame = false

/-- A command that comes to step 8 of R46 in the state `u`: steps 5 to 7 pass, it carries no poison, and core B addresses its own
hub (R72, R354). -/
structure Served (s : State) (op : BitVec 8) (c : Cmd) (t : Target) (r : Rights) (x : KeyExchange) (u : State) : Prop where
  begun : Begun s op c t r x u
  core : c.via = .localLogic → c.frame.dstNode = u.ownNode
  clear : u.refused57 c.frame (r == .maintain) = none
  poison : c.frame.poison = false

/-- The command in service is answered with the refusal `st` (R46, R57). -/
def State.turnedAway (u : State) (c : Cmd) (st : Status) : State := (u.bump .mgtCnt 1).finish c false { status := st }

/-- The opcode with which a row of the table comes as a COMMAND frame (R73), its frame, and the key exchange of SESSION_OPEN. -/
def hostCommand : Instr → Option (BitVec 8 × Cmd × KeyExchange)
  | .read c => some (0x01, c, {})
  | .write c => some (0x02, c, {})
  | .writePosted c => some (0x03, c, {})
  | .readModifyWrite c => some (0x04, c, {})
  | .readBlock c => some (0x05, c, {})
  | .writeBlock c => some (0x06, c, {})
  | .portSend c => some (0x10, c, {})
  | .portConfig c => some (0x11, c, {})
  | .portFlush c => some (0x12, c, {})
  | .applyAt c => some (0x18, c, {})
  | .sampleAt c => some (0x19, c, {})
  | .snapshotAt c => some (0x1A, c, {})
  | .sessionOpen c x => some (0x20, c, x)
  | .sessionClose c => some (0x21, c, {})
  | .profileSelect c => some (0x28, c, {})
  | .profileStore c => some (0x29, c, {})
  | .selftestReq c => some (0x30, c, {})
  | .healthGet c => some (0x31, c, {})
  | .faultAck c => some (0x38, c, {})
  | .safeEnter c => some (0x39, c, {})
  | .safeLeave c => some (0x3A, c, {})
  | .updateBegin c => some (0x40, c, {})
  | .updateBlock c => some (0x41, c, {})
  | .updateVerify c => some (0x42, c, {})
  | .updateActivate c => some (0x43, c, {})
  | .updateConfirm c => some (0x44, c, {})
  | .updateRelay c => some (0x45, c, {})
  | .updateAbort c => some (0x46, c, {})
  | .timeStep c => some (0x50, c, {})
  | .timeRate c => some (0x51, c, {})
  | .stepRearm c => some (0x52, c, {})
  | .tableFence c => some (0x58, c, {})
  | .pairHandover c => some (0x60, c, {})
  | .pairStatus c => some (0x61, c, {})
  | .logRead c => some (0x70, c, {})
  | .echo c => some (0x7E, c, {})
  | .resetChip c => some (0x7F, c, {})
  | _ => none

end Sys2Proof.Machine
end

