-- ==== Sys2Proof/Certificates/Slice0/Obligations.lean ====
section
/-!
DEFINITION. The statements for the provers.
-/
open Sys2Proof Sys2Proof.Machine

/-- The step runs the command at the front of the queue on the state whose queue is the rest. -/
def Obligations.StepRunsTheFrontCommand : Prop :=
  ∀ (c : Instr) (s : State) (rest : List Instr),
    step { s with pending := c :: rest } = exec c { s with pending := rest }

/-- On an empty queue time passes: one TIM clock of 2 ns (R165: 500 MHz). That an idle step stands for exactly one clock is the
model's choice (log entry 2). -/
def Obligations.IdleStepIsOneClock : Prop :=
  ∀ s : State, s.pending = [] → ∃ t, step s = .next t ∧ t = s.advance 2 ∧ t.now = s.now + 2 ∧ t.pending = []

/-- R165: the accumulator takes TIM_INC at each TIM clock, and a carry out of its top adds one to TIM_EPOCH in the same clock. -/
def Obligations.IdleClockAddsTimInc : Prop :=
  ∀ s : State, s.pending = [] → s.isl.rst.getLsbD 7 = false → (s.rd .islClkOk).getLsbD 7 = true →
    ∃ t, step s = .next t ∧
      t.ringAcc.toNat = (s.ringAcc.toNat + (s.rd .timInc).toNat) % 2 ^ 60 ∧
      t.rd .timEpoch = (if 2 ^ 60 ≤ s.ringAcc.toNat + (s.rd .timInc).toNat then s.rd .timEpoch + 1 else s.rd .timEpoch)

/-- No command of the table stops, from any state; the one exception is a scrub of a vat word that does not exist. -/
def Obligations.EveryCommandAnswers : Prop :=
  ∀ (c : Instr) (s : State), (∀ w f, c = .scrubWord w f → w < 2 ^ 21) → ∃ t, exec c s = .next t

/-- The vat has 2^21 words (R141); a scrub of another is the fault `noSuchWord`. -/
def Obligations.ScrubBeyondTheVatFaults : Prop :=
  ∀ (w : Nat) (f : EccResult) (s : State), 2 ^ 21 ≤ w → exec (.scrubWord w f) s = .fault .noSuchWord

/-- Commands leave the queue from its front only, and what a command does never touches the queue. -/
def Obligations.QueueFirstInFirstOut : Prop := ∀ s t : State, step s = .next t → t.pending = s.pending.tail

/-- The vat keeps its canonical form (rising addresses, no entry equal to what an unlisted byte reads) under every step. -/
def Obligations.VatKeepsItsForm : Prop :=
  ∀ s t : State, Memory.wf s.sw.vat = true → step s = .next t → Memory.wf t.sw.vat = true

/-- The invariant of `VatKeepsItsForm` holds after reset. What the vat holds then is the model's choice (log entry 4). -/
def Obligations.ResetVatHasTheForm : Prop := State.reset.sw.vat = [] ∧ Memory.wf State.reset.sw.vat = true

/-- Fuses are only ever blown: whatever the step, owner slots stay burnt (with the same hash, unless a burn of that very slot is
under way), revocations stay, and the rollback counter does not fall. -/
def Obligations.FusesAreOnlyBlown : Prop :=
  ∀ s t : State, step s = .next t →
    (∀ k, (tfind s.sec.owner k).isSome = true → (tfind t.sec.owner k).isSome = true) ∧
    (∀ k, (∀ hash, s.sec.otp ≠ some (k, false, hash)) → (tfind s.sec.owner k).isSome = true →
      tfind t.sec.owner k = tfind s.sec.owner k) ∧
    (∀ k, k ∈ s.sec.revoked → k ∈ t.sec.revoked) ∧
    s.sec.count ≤ t.sec.count

/-- The end of a step does nothing to a state in which nothing waits: it turns the answers `t.done` of the statements below
into `t`. -/
def Obligations.QuietStepEndsAtOnce : Prop := ∀ s : State, s.quiet = true → s.done = s

/-- The laws of the register store that every result below rests on: what is stored is read, at its address and nowhere else. -/
def Obligations.RegistersReadBack : Prop :=
  ∀ (s : State) (r : Reg) (i j : Nat),
    (∀ w, (s.wr r i j w).rd r i j = w ∧
      ∀ (r' : Reg) (i' j' : Nat), r'.addr i' j' ≠ r.addr i j → (s.wr r i j w).rd r' i' j' = s.rd r' i' j') ∧
    (∀ (f : Fld) (v : Nat), f.reg = r → f.lo ≤ f.hi → f.hi < 32 → v < 2 ^ (f.hi + 1 - f.lo) →
      (s.put f v i j).get f i j = v ∧
      (∀ g : Fld, g.reg = r → g.lo ≤ g.hi → f.hi < g.lo ∨ g.hi < f.lo → (s.put f v i j).get g i j = s.get g i j) ∧
      ∀ (r' : Reg) (i' j' : Nat), r'.addr i' j' ≠ r.addr i j → (s.put f v i j).rd r' i' j' = s.rd r' i' j')

/-- R161, R49: a word stored through the diagnostic window. -/
def Obligations.VatWordWrites : Prop :=
  ∀ (s : State) (b : Nat) (w : Word),
    mreadWord (s.vatWrite b w).sw.vat b = w ∧
    (∀ a, a < b ∨ b + 4 ≤ a → mread (s.vatWrite b w).sw.vat a = mread s.sw.vat a) ∧
    (s.vatWrite b w).regs = s.regs ∧ (s.vatWrite b w).timers = s.timers ∧ (s.vatWrite b w).sw.units = s.sw.units ∧
    (s.vatWrite b w).sw.queues = s.sw.queues

/-- R99, R100: what moves a lane through its training, row by row of the table of states.

COMPLETES: exec i s = next t, for every state and operands that meet its conditions on them alone, for i = trainId,
signalDetect, cdrLock, blockLock, verify, trainingLimitExpire, fallbackWaitExpire, cablingSignalLost. -/
def Obligations.LinkTraining : Prop := ∀ (l : Fin 5) (s : State),
  (s.laneOn l = true → s.lst l = lsNoSignal → s.deadline (.fallback l) = none →
    (s.get F.LNK_CFG_MEDIA l ≠ 0 ∨ (s.lane l).modReady = true) →
    Does (.signalDetect l) s (fun t => t.lst l = lsCdrLock ∧ t.deadline (.train l) = some (s.now + 3000000))) ∧
  (s.lst l = lsCdrLock →
    Does (.cdrLock l) s (fun t => t.lst l = lsBlockLock ∧ t.deadline (.train l) = some (s.now + 500000))) ∧
  (s.lst l = lsBlockLock →
    Does (.blockLock l) s (fun t => t.lst l = lsIdent ∧ t.deadline (.train l) = some (s.now + 1000000) ∧
      t.deadline (.trainSend l) = some (s.now + 10000) ∧ (t.lane l).remoteFault = false ∧ (t.lane l).trainRun = 0)) ∧
  (∀ (p : List Word) (e : CtrlTail), s.lst l = lsIdent → linkValid p e = true → (s.lane l).trainId = p →
    2 ≤ (s.lane l).trainRun → partnerOk l ((p.getD 0 0).bits 7 0) = true → p.getD 2 0 ≠ s.rd .ctlUid 0 →
    Does (.trainId l p e) s (fun t => t.lst l = lsVerify ∧ t.deadline (.train l) = some (s.now + 1000000) ∧
      t.deadline (.trainSend l) = none)) ∧
  (∀ u, s.lst l = lsVerify → s.expire (.train l) = some u → u.is F.LNK_RPT_RING_JOINED = false →
    u.is F.LNK_RPT_SPUR_JOINED = false →
    Does (.verify l) s (fun t => t.lst l = (if u.is F.LNK_STATE_RATE l then lsUp25 else lsUp10) ∧
      t.deadline (.hello l) = some (u.now + 1000000) ∧ t.deadline (.nbr l) = some (u.now + 4000000))) ∧
  (∀ u, lsCdrLock ≤ s.lst l → s.lst l ≤ lsVerify → s.expire (.train l) = some u → (u.lane l).fails < 2 →
    u.get F.LNK_STATE_RATE l = u.wantRate l →
    Does (.trainingLimitExpire l) s (fun t => t.lst l = lsNoSignal ∧ (t.lane l).fails = (u.lane l).fails + 1)) ∧
  (∀ u, lsCdrLock ≤ s.lst l → s.lst l ≤ lsVerify → s.expire (.train l) = some u → (u.lane l).fails = 2 →
    u.get F.LNK_STATE_RATE l = 1 → u.wantRate l = 1 →
    Does (.trainingLimitExpire l) s (fun t => t.lst l = lsNoSignal ∧ t.get F.LNK_STATE_RATE l = 0 ∧ (t.lane l).fails = 0)) ∧
  (∀ u, s.expire (.fallback l) = some u →
    Does (.fallbackWaitExpire l) s (fun t => t.get F.LNK_STATE_RATE l = (if u.rateCapped l then 0 else 1) ∧
      (t.lane l).fails = 0)) ∧
  (s.lst l = lsCabling →
    Does (.cablingSignalLost l) s (fun t => t.isLive 0x32 l = false))

/-- R97, R102, R104: what the timers of a lane send and what the frames of its partner do. `u` is the state at the instant at
which the timer ends.

COMPLETES: exec i s = next t, for every state and operands that meet its conditions on them alone, for i = trainIdSend,
trainId, helloSend, hello, leaving, leavingSend, nbrStale. -/
def Obligations.LinkControlFrames : Prop := ∀ (l : Fin 5) (s u : State),
  (s.expire (.trainSend l) = some u → u.lst l = lsIdent →
    Does (.trainIdSend l) s (fun t => t = (u.sendLink l lcTrainId).arm (.trainSend l) 10000 ∧
      t.sent = u.sent ++ [{ port := l, frame := u.linkFrame l lcTrainId, rind := rindGood }])) ∧
  (s.expire (.hello l) = some u → u.laneUp l = true →
    Does (.helloSend l) s (fun t => t = (u.sendLink l lcHello).arm (.hello l) 1000000 ∧
      t.sent = u.sent ++ [{ port := l, frame := u.linkFrame l lcHello, rind := rindGood }])) ∧
  (∀ (p : List Word) (e : CtrlTail), s.laneUp l = true → s.is F.LNK_RPT_RING_JOINED = false → linkValid p e = true →
    Does (.hello l p e) s (fun t => t.get F.LNK_STATE_NBR_STALE l = 0 ∧ t.deadline (.nbr l) = some (s.now + 4000000))) ∧
  (∀ (p : List Word) (e : CtrlTail), s.laneLocked l = true → linkValid p e = false →
    exec (.hello l p e) s = .next (s.countCtrl l p e).done ∧ exec (.trainId l p e) s = .next (s.countCtrl l p e).done ∧
    exec (.leaving l (p, e)) s = .next (s.countCtrl l p e).done) ∧
  (∀ (p : List Word) (e : CtrlTail), (linkValid p e = true → s.countCtrl l p e = s.bump .lnkCnt l 0) ∧
    (e.fcsOk = false → s.countCtrl l p e = (((s.bump .lnkCnt l 0).bump .lnkCnt l 3).bump .lnkCnt l 2).bump .lnkCnt l 4)) ∧
  (∀ (p : List Word) (e : CtrlTail), linkValid p e = true →
    (s.laneUp l = true → exec (.leaving l (p, e)) s = .next ((s.bump .lnkCnt l 0).declareDown l).done) ∧
    (s.lst l = lsRepeat → exec (.leaving l (p, e)) s = .next ((s.passCtrl l lcLeaving p e).declareDown l).done)) ∧
  (s.expire (.leaving l) = some u → 1 < (u.lane l).leavingLeft →
    Does (.leavingSend l) s (fun t => (t.lane l).leavingLeft = (u.lane l).leavingLeft - 1 ∧
      t.deadline (.leaving l) = some (u.now + 10000) ∧
      t.sent = u.sent ++ [{ port := l, frame := u.linkFrame l lcLeaving, rind := rindGood }])) ∧
  (s.expire (.leaving l) = some u → (u.lane l).leavingLeft = 1 →
    exec (.leavingSend l) s =
      .next (State.laneOff ((u.sendLink l lcLeaving).setLane l { u.lane l with leavingLeft := 0 }) l).done) ∧
  (s.expire (.nbr l) = some u → u.laneUp l = true →
    Does (.nbrStale l) s (fun t => t.get F.LNK_STATE_NBR_STALE l = 1 ∧ t.lst l = u.lst l))

/-- R102-R106, R114-R116. `u` is the state at the instant at which the timer ends.

COMPLETES: exec i s = next t, for every state and operands that meet its conditions on them alone, for i = linkDown,
heldDownExpire, moduleAbsChange, moduleIdRead, moduleDiagPoll, repeatPathJoin, repeatPathLeave, bypassHoldRelease,
hubInserted. -/
def Obligations.LinksGoDownAndModules : Prop := ∀ (l : Fin 5) (s u : State),
  (s.laneLinked l = true →
    exec (.linkDown l .signalLoss) s = .next (State.declareDown (s.setLane l { s.lane l with lostAt := some s.now }) l).done ∧
    exec (.linkDown l .syncErrors) s = .next (State.declareDown (s.bump .lnkCnt l 8 16) l).done ∧
    exec (.linkDown l .remoteFault) s = .next (s.declareDown l).done ∧
    (s.mediaOf l = 0 → s.outOfReset (l + 1) = true →
      exec (.linkDown l .moduleTxFault) s = .next (State.declareDown (s.put F.LNK_MOD2_TX_FAULT 1 l) l).done ∧
      exec (.linkDown l .moduleLos) s = .next (State.declareDown (s.put F.LNK_MOD2_LOS 1 l) l).done)) ∧
  (s.expire (.heldDown l) = some u → u.lst l = lsHeldDown → Does (.heldDownExpire l) s (fun t => t.lst l = lsNoSignal)) ∧
  (s.mediaOf l = 0 → s.outOfReset (l + 1) = true →
    (s.laneLinked l = true → exec (.moduleAbsChange l true) s =
      .next (State.declareDown (State.modRun ((s.setLane l { s.lane l with modAbs := true }).put F.LNK_MOD2_ABSENT 1 l) l) l).done) ∧
    (s.laneLinked l = false →
      Does (.moduleAbsChange l true) s (fun t => (t.lane l).txDis = true ∧ (t.lane l).modReady = false)) ∧
    (s.outOfReset 8 = true → (s.lane l).modReady = false → s.deadline (.modWait l) = none →
      Does (.moduleAbsChange l false) s (fun t => t.deadline (.modWait l) = some (s.now + 300000000) ∧
        t.get F.LNK_MOD2_ABSENT l = 0))) ∧
  (∀ r, s.expire (.modWait l) = some u → u.mediaOf l = 0 → (u.lane l).modAbs = false → u.outOfReset (l + 1) = true →
    u.outOfReset 8 = true →
    Does (.moduleIdRead l r) s (fun t => (t.lane l).txDis = false ∧ (t.lane l).modReady = true ∧
      t.get F.LNK_MOD2_NOT_SFP l = (match r with | .sfp _ => 0 | _ => 1) ∧
      t.deadline (.modPoll l) = (if (r = .sfp true ∨ r = .notSfp true) ∧ u.deadline (.modPoll l) = none then some (u.now + 1000000000)
        else u.deadline (.modPoll l)))) ∧
  (s.expire (.modPoll l) = some u →
    Does (.moduleDiagPoll l none) s (fun t => t.get F.LNK_MOD2_DIAG_STALE l = 1 ∧
      t.deadline (.modPoll l) = some (u.now + 1000000000))) ∧
  (s.holdOk = false → Does .bypassHoldRelease s (fun t => t.bypHold = false)) ∧
  (s.holdOk = true → Does .hubInserted s (fun t => t.bypHold = true)) ∧
  (s.islandUp 6 = true → s.is F.LNK_RPT_RING_JOINED = true →
    exec (.repeatPathLeave false) s = .next (([0, 1].foldl (fun s l => if s.lst l = lsRepeat then s.laneVerified l else s)
      (s.put F.LNK_RPT_RING_JOINED 0))).done) ∧
  (s.isl.rst.getLsbD 6 = true → s.is F.LNK_RPT_RING_JOINED = false → s.islandUp 1 = true → s.islandUp 2 = true →
    Does .repeatPathJoin s (fun t => t.is F.LNK_RPT_RING_JOINED = true ∧
      t.get F.LNK_RPT_LAST_CAUSE = (if (s.rd .islPwrStat).getLsbD 6 then 1 else 2)))

/-- R107-R115: the head and the tail of a frame on one of the lanes L0-L3.

COMPLETES: exec i s = next t, for every state and operands that meet its conditions on them alone, for i =
ringFrameReceive, frameEndReceive. -/
def Obligations.RingFrames : Prop := ∀ (l : Fin 5) (s : State) (f : Frame), l.val < 4 → tfind s.sw.rx l = none →
  inStream f = true →
  (s.lst l = lsRepeat → exec (.ringFrameReceive l f) s = .next (s.repeatIn l f).done) ∧
  (s.laneUp l = true → s.islandUp 6 = true → f.malformed = false → s.addressed = true → f.srcNode = s.ownNode →
    exec (.ringFrameReceive l f) s = .next (State.setRx (s.bump .lnkCnt l 6) l none f).done) ∧
  (s.laneUp l = true → s.islandUp 6 = true → f.malformed = false → s.addressed = false → f.hop = 0 →
    s.ownAddress f.dstNode = false →
    exec (.ringFrameReceive l f) s = .next (State.setRx (s.bump .lnkCnt l 5) l none f).done) ∧
  (∀ (u v : State) (ds : List Dest) (k : Transit) (n : Nat), s.laneUp l = true → s.islandUp 6 = true → f.malformed = false →
    (s.addressed = true → f.srcNode ≠ s.ownNode ∧ (s.servesPair = true → f.srcNode ≠ s.pairNode)) →
    (f.hop ≠ 0 ∨ s.ownAddress f.dstNode = true) → (s.tableRead f.dstNode (s.ringReadsTable l f.dstNode)).ringDests l f = (u, ds, k) →
    ds ≠ [] → u.admitUnit f l false false true (sortDests ds) = (v, some n) →
    exec (.ringFrameReceive l f) s =
      .next ((State.setRx (if ds.any (·.transit) then v.transitNote f n k else v) l (some n) f).loupes n l false f).done) ∧
  (∀ (q : Nat) (tier : Tier), s.laneUp l = true → s.islandUp 6 = true → f.malformed = false → s.addressed = true →
    s.paired = false → f.srcNode ≠ s.ownNode → f.dstNode = s.ownNode → (f.dstPort = 0xFF ∨ f.dstPort = 122) →
    s.portDead 122 = false → q = 8 * 122 + f.cls.toNat → s.residue q = [] → s.tierFor q (cellsFor f.size) = some tier →
    Does (.ringFrameReceive l f) s (fun t => tfind t.sw.rx l = some (some s.sw.nextUid, f) ∧ (s.sw.nextUid, q) ∈ t.sw.holds ∧
      (t.unit? s.sw.nextUid).map (·.frame) = some f)) ∧
  (∀ t : Tail, (s.lane l).repeating = true → t.blkErr = 0 →
    exec (.frameEndReceive l t) (s.setRx l none f) = .next (State.done
      { s with sw := { s.sw with rx := terase (tset s.sw.rx l (none, f)) l },
               sent := s.sent ++ [{ port := opposite l, frame := f, rind := if t.lengthOk then t.rind else rindTruncated }],
               lanes := tset s.lanes l { s.lane l with repeating := false } })) ∧
  (∀ (t : Tail) (n : Nat) (u v w x y : State) (a b : VUnit), (s.lane l).repeating = false → s.laneUp l = true → t.blkErr = 0 →
    rindOf f t = rindGood → tfind s.sw.units n = some a → a.frame = f →
    u = { s with sw := { s.sw with
      vat := writeCells s.sw.vat a.cells (frameBytes f [t.fcs, t.rind]), rx := terase (tset s.sw.rx l (some n, f)) l } } →
    u.countEnd l f t (some n) = v →
    b = { a with complete := true, rind := rindGood, authOk := t.authOk, time := v.stampNs (l + 1), fixed := !t.lengthOk || t.rind != rindGood } →
    (v.setUnit n b).endCuts n b rindGood = w → w.transitEnd f n true = x →
    (if x.awaitsLocal n then (if b.pressed then x.pressArrive n f else x.deliverLocal n) else x) = y →
    exec (.frameEndReceive l t) (s.setRx l (some n) f) = .next (y.gc n).1.done) ∧
  (∀ (t : Tail) (n : Nat), t.lengthOk = true → t.fcs = f.fcs →
    State.countEnd s l f t (some n) = (if rindOf f t ≠ rindGood ∧ ((s.bump .lnkCnt l 0).unit? n).any (·.counted) = false then
      (s.bump .lnkCnt l 0).bump .lnkCnt l 2 else s.bump .lnkCnt l 0)) ∧
  (∀ t : Tail, (s.lane l).repeating = false → s.laneUp l = true → t.lengthOk = false → t.blkErr = 0 → f.malformed = false →
    exec (.frameEndReceive l t) (s.setRx l none f) = .next (State.done
      ((State.bump { s with sw := { s.sw with rx := terase (tset s.sw.rx l (none, f)) l } } .lnkCnt l 4).bump .lnkCnt l 2)))

/-- R110-R163: the moves of the switch core.

COMPLETES: exec i s = next t, for every state and operands that meet its conditions on them alone, for i = unitTransmit,
unitLookup, residueHeadTest, residueExpire, scrubWord. -/
def Obligations.SwitchCoreMoves : Prop := ∀ (s : State),
  (∀ (p : Fin 128) (q : Nat) (k : Link) (v : VUnit) (w : State), p.val ≤ 4 → s.laneUp p = true → tfind s.sw.cutting p = none →
    (p.val < 4 → (s.lane (opposite p)).repeating = false) →
    s.nextQueue p = some (q, k) → s.unit? k.uid = some v → (if v.own then s.commandLeaves v.frame else s) = w →
    v.complete = true → (w.ueOf v = [] ∨ v.fixed = true) →
    exec (.unitTransmit p) s = .next ((State.unlink ((w.meetUnit v).transmit p (v.leaving p) v.rind) q k.uid k.loupe).1).done) ∧
  (∀ p : Fin 128, 5 < p.val → p.val < 26 → exec (.unitTransmit p) s = .next ((s.macFeed (portMac p)).macFill (portMac p)).done) ∧
  (∀ p : Fin 128, 26 ≤ p.val → p.val < 58 → exec (.unitTransmit p) s = .next (s.canFill (p - 26)).done) ∧
  (∀ p : Fin 128, 58 ≤ p.val → p.val < 122 → exec (.unitTransmit p) s = .next (s.txqFeed (p - 58)).done) ∧
  (∀ (x : UnitIn) (rest : List UnitIn), s.ingress = x :: rest → s.islandUp 6 = false → x.txr = false →
    exec .unitLookup s = .next ((State.bump { s with ingress := rest } .islDropCnt 6).txLooked).done) ∧
  (∀ (x : UnitIn) (rest : List UnitIn) (a u v w : State) (ds : List Dest) (n : Nat) (y : VUnit), s.ingress = x :: rest →
    s.islandUp 6 = true → (x.frame.dual = false ∨ s.boot.porAt + 64000000 ≤ s.now) →
    State.tableRead { s with ingress := rest } x.frame.dstNode
      (State.ownReadsTable { s with ingress := rest } { x.frame with hop := 255 }) = a →
    a.ownDests { x.frame with hop := 255 } = (u, ds) → ds ≠ [] →
    u.admitUnit { x.frame with hop := 255 } x.inPort true true x.authOk ds = (v, some n) → v.unit? n = some y →
    v.assignSeq n y x.slot = w → ∀ z, w.unit? n = some z → exec .unitLookup s = .next
      ((((w.noteSeq z.frame x.inPort).txResult x stOk z.frame.seq).orderOf z.frame).loupes n x.inPort false z.frame).txLooked.done) ∧
  (∀ q : Fin 1024, s.islandUp 6 = true →
    exec (.residueHeadTest q) s = .next (s.residueTest q (s.residue q).length).done) ∧
  (∀ (q : Fin 1024) (e : ResEntry) (rest : List ResEntry), s.residue q = e :: rest →
    exec (.residueExpire q) s = .next ((s.advance (e.until_ - s.now)).residueHead q).done) ∧
  (∀ w, w + 1 < 2 ^ 21 → s.islandUp 6 = true → exec (.scrubWord w .clean) s =
      .next (State.done { s with sw := { s.sw with corrected := s.sw.corrected.filter (· != w), ceWords := terase s.sw.ceWords w } })) ∧
  (∀ w f, w < 2 ^ 21 → s.islandUp 6 = false → exec (.scrubWord w f) s = .next s.done)

/-- R129, R131, R89. `u` is the state at the instant at which the timer ends.

COMPLETES: exec i s = next t, for every state and operands that meet its conditions on them alone, for i =
pressWaitExpire, pressContextIdle, fenceComplete, fenceTimeout. -/
def Obligations.PressAndFences : Prop := ∀ (s u : State) (k : Nat),
  (s.expire (.pressWait k) = some u → exec (.pressWaitExpire k) s = .next (u.pressWaitEnd k).done) ∧
  (∀ c, s.expire (.pressIdle k) = some u → u.ctx? k = some c → c.held = [] →
    Does (.pressContextIdle k) s (fun t => t.ctx? k = none ∧ t.deadline (.pressWait k) = none ∧
      t.deadline (.pressIdle k) = none)) ∧
  (s.mgtUp = true → exec .fenceComplete s =
    .next (s.endFences (s.cmd.fences.filter (fun x => s.fenceClear x.gen)) stOk).done) ∧
  (∀ x rest, s.mgtUp = true → s.cmd.fences = x :: rest →
    exec .fenceTimeout s = .next ((s.advance (x.until_ - s.now)).endFences [x] (if s.fenceClear x.gen then stOk else stTableBusy)).done)

/-- R168-R177, R190, R191. `u` is the state at the instant at which the timer ends.

COMPLETES: exec i s = next t, for every state and operands that meet its conditions on them alone, for i =
timeFrameSend, timeFrameReceive, masterListenExpire, upstreamLoss, stepApply, timeCopyResync, snapshotFire,
snapshotFrameReceive. -/
def Obligations.RingTimeMoves : Prop := ∀ (s u : State) (l : Fin 5),
  (s.expire (.timeSend l) = some u → u.timeLane l = true →
    Does (.timeFrameSend l) s (fun t => t.deadline (.timeSend l) = some (u.now + 125000) ∧
      t.sent = u.sent ++ [{ port := l, frame := (u.arm (.timeSend l) 125000).timeFrame l, rind := rindGood }])) ∧
  (∀ r : TimeRx, s.laneUp l = true → s.linkLocalIn l r.frame r.tail = (u, false) → r.frame.malformed = false →
    r.tail.lengthOk = true → u.timeLane l = true → exec (.timeFrameReceive l r) s = .next (u.bump .timCnt 0).done) ∧
  (∀ r : TimeRx, s.laneUp l = true → s.timeLane l = true → r.frame.malformed = false → rindOf r.frame r.tail = rindGood →
    u = State.timeHeard (s.bump .lnkCnt l 0) l r.frame →
    ((r.frame.payload.getD 1 0).getLsbD 0 = true → exec (.timeFrameReceive l r) s = .next (u.selectMaster l r.frame).done) ∧
    ((r.frame.payload.getD 1 0).getLsbD 0 = false → exec (.timeFrameReceive l r) s = .next u.done) ∧
    (u.tlane l).rx = r.frame.time ∧ (u.tlane l).rxAt = BitVec.ofNat 32 s.ringNs) ∧
  (s.expire .listen = some u → u.tst = tsListen → u.is F.TIM_CFG_MASTER_CAP = true →
    Does .masterListenExpire s (fun t => t.rd .timMaster = u.rd .ctlUid 0 ∧ t.tst = tsMaster ∧
      t.get F.TIM_STAT_HOPS = 0 ∧ t.is F.TIM_STAT_VALID = true ∧ t.time.prio = u.get F.TIM_CFG_PRIORITY)) ∧
  (∀ d, s.deadline .upstream = some d →
    (State.setTlane s (s.get F.TIM_STAT_UPSTREAM) { s.tlane (s.get F.TIM_STAT_UPSTREAM) with heard := none }).heardLanes = [] →
    (State.setTlane s (s.get F.TIM_STAT_UPSTREAM) { s.tlane (s.get F.TIM_STAT_UPSTREAM) with heard := none }) = u →
    s.tst = tsLocked →
    Does .upstreamLoss s (fun t => t =
      ((State.setTst { State.put ((u.advance (d - u.now)).disarm .upstream) F.TIM_STAT_UPSTREAM 7 with
          time := { ((u.advance (d - u.now)).disarm .upstream).time with run := 0 } } tsHoldover).bump .timCnt 4).raise 0x50)) ∧
  (∀ t, s.time.stepAt = some t → s.sched.any (fun e => e.2.stepped || decide (e.2.t ≤ t)) = false →
    Does .stepApply s (fun v => v = (s.advanceRing t).applyStep ∧ v.time.stepAt = none ∧ v.time.stepDone = true ∧
      v.is F.TIM_STAT_STEP_PENDING = false)) ∧
  (s.islandUp 7 = true → ∀ i, i ∈ ([1, 2, 3, 4, 5, 6, 9, 10, 11, 12, 13, 14, 15, 16, 17, 18, 20] : List Nat) → s.islandUp i = true →
    Does .timeCopyResync s (fun t => tfind t.time.copies i = some (s.ring64, s.now))) ∧
  (∀ (e : Fin 256) (x : Entry), s.takeEntry e 3 0 = some (u, x) →
    Does (.snapshotFire e) s (fun t => t.get F.TIM_SNAP_ID_BANK = 1 - u.get F.TIM_SNAP_ID_BANK ∧
      t.is F.TIM_SNAP_ID_VALID = true ∧ t.rd .timSnapTime = BitVec.ofNat 32 x.t)) ∧
  (∀ (f : Frame) (r : Tail), l.val < 4 → s.laneUp l = true → s.linkLocalIn l f r = (u, false) →
    exec (.snapshotFrameReceive l f r) s = .next u.done) ∧
  (∀ (f : Frame) (r : Tail) (n : Nat), l.val < 4 → s.laneUp l = true → s.islandUp 7 = true → f.malformed = false →
    rindOf f r = rindGood → s.snapSeen (f.w6.bits 15 0) f.time = false → s.freeEntry = some n → s.timeInvalid = false →
    s.leadOk f.time = true → u = State.enterEntry ((s.bump .lnkCnt l 0).markSeen (f.w6.bits 15 0) f.time) n
      { kind := 3, node := f.w7.setWidth 24, id := f.w6.bits 15 0, t := extTime f.time s.ring64 } →
    exec (.snapshotFrameReceive l f r) s = .next (u.floodSnap (f.w6.bits 15 0) f.time (f.w7.setWidth 24) (some l)).done ∧
    u.snapSeen (f.w6.bits 15 0) f.time = true)

/-- R183-R185: what each scheduled action does, `u` being the state in which the entry `x` has been taken, and `x` as it stands
at T.

COMPLETES: exec i s = next t, for every state and operands that meet its conditions on them alone, for i =
scheduleHandoff, engStart, engStop, send, pinSet, pwrOn, pwrOff, pinSample, countSample, engTrigger, pwrSample. -/
def Obligations.ScheduledActions : Prop := ∀ (s u : State) (e : Fin 256) (x : Entry),
  (∀ k a, s.takeEntry e k a = some (u, x) → tfind u.sched e = none ∧ x.kind = k ∧ x.action = a) ∧
  (tfind s.sched e = some x → x.stepped = false →
    exec (.scheduleHandoff e) s = .next ((s.advanceRing (x.t - 2000)).skipDown e).done) ∧
  (s.takeEntry e 1 0x01 = some (u, x) → x.engines = [] → exec (.engStart e) s = .next (u.fired e x stOk []).done) ∧
  (∀ m, s.takeEntry e 1 0x01 = some (u, x) → x.engines = [m] → x.dead (9 + m / 8) = false → u.running m = false →
    u.startOk m = true →
    exec (.engStart e) s = .next ((u.startEngine m (u.eget F.ENG_CTL_START_PC m) 0).fired e x stOk []).done) ∧
  (s.takeEntry e 1 0x02 = some (u, x) →
    exec (.engStop e) s = .next (((x.engines.filter (fun m => !x.dead (9 + m / 8))).foldl
      (fun s m => s.stopEngine m scSched) u).fired e x stOk []).done) ∧
  (s.takeEntry e 1 0x10 = some (u, x) → x.dead (portIsland x.port) = false → u.portOutOk x.port = true →
    exec (.send e) s = .next ((u.sendNow x).fired e x stOk []).done) ∧
  (s.takeEntry e 1 0x10 = some (u, x) → x.dead (portIsland x.port) = false → u.portOutOk x.port = false →
    exec (.send e) s = .next (u.fired e x stNotInMode []).done) ∧
  (s.takeEntry e 1 0x20 = some (u, x) → x.dead (9 + x.cluster) = false →
    exec (.pinSet e) s = .next ((u.setDout x.cluster ((List.range 32).foldl (fun (w : Word) p =>
      if x.pins.getLsbD p && u.get F.PIN_CFG_MODE x.cluster p == 2 then w.setBits p p (bit ((x.data.getD 2 0).getLsbD p)) else w)
      (u.rd .cluDout x.cluster))).fired e x stOk []).done) ∧
  (s.takeEntry e 1 0x30 = some (u, x) → x.dead 20 = false →
    (x.channels.any (fun c => let st := (x.channels.foldl (fun s c => s.entryOn x c) u).pst c
      st == pcHeld || st == pcRetryWait || st == pcLatched)) = false →
    exec (.pwrOn e) s = .next ((x.channels.foldl (fun s c => s.entryOn x c) u).fired e x stOk []).done) ∧
  (s.takeEntry e 1 0x31 = some (u, x) → x.dead 20 = false →
    exec (.pwrOff e) s = .next ((x.channels.foldl (fun s c => s.entryOff x c) u).fired e x
      (if x.channels.any (fun c => (x.channels.foldl (fun s c => s.entryOff x c) u).pst c == pcLatched) then stNotInMode else stOk)
      []).done) ∧
  (s.takeEntry e 2 0x40 = some (u, x) → x.dead (9 + x.cluster) = false →
    exec (.pinSample e) s = .next (u.fired e x stOk [u.cluDinWord x.cluster &&& x.pins]).done) ∧
  (s.takeEntry e 2 0x41 = some (u, x) → x.dead (9 + x.cluster) = false →
    exec (.countSample e) s = .next (u.fired e x stOk (((List.range 32).filter x.pins.getLsbD).map (fun p =>
      if u.get F.PIN_CFG_MODE x.cluster p = 1 then u.rd .cluPcnt x.cluster p else 0))).done) ∧
  (s.takeEntry e 2 0x42 = some (u, x) →
    exec (.engTrigger e) s = .next (((x.engines.filter (fun m => !x.dead (9 + m / 8))).foldl
      (fun s m => s.setEng m { s.eng m with trig := true }) u).fired e x stOk []).done) ∧
  (s.takeEntry e 2 0x43 = some (u, x) → x.dead 20 = false →
    exec (.pwrSample e) s = .next (u.fired e x stOk (x.channels.flatMap (fun c =>
      [u.rd .pwrChMeas0 c, u.rd .pwrChMeas1 c, u.rd .pwrChMeas2 c, u.pwrChStat c]))).done)

/-- R228, R229, R245. `u` is the state at the edge.

COMPLETES: exec i s = next t, for every state and operands that meet its conditions on them alone, for i = take, give,
hold, stamp, halt, nop. -/
def Obligations.EngineClockEdge : Prop := ∀ (s u : State) (e : Fin 64) (w : Word),
  (∀ k, AtEdge s e k w u → u.now = s.now + ((s.eng e).edge - s.now) ∧
    (u.eng e).edge = (s.eng e).edge + 4 * (s.nextPeriod e).1 ∧ u.running e = true ∧ (u.eng e).first = (s.eng e).first) ∧
  (AtEdge s e 2 w u → u.stalls e w = true → Does (.take e) s (fun t => t.eget F.ENG_STATUS_STALLED e = 1 ∧
    t.eget F.ENG_STATUS_PC e = u.eget F.ENG_STATUS_PC e ∧ (t.eng e).first = false ∧ (t.eng e).hold = (u.eng e).hold + 1)) ∧
  (AtEdge s e 3 w u → u.stalls e w = true → Does (.give e) s (fun t => t.eget F.ENG_STATUS_STALLED e = 1 ∧
    t.eget F.ENG_STATUS_PC e = u.eget F.ENG_STATUS_PC e ∧ (t.eng e).rxq = (u.eng e).rxq)) ∧
  (AtEdge s e 4 w u → u.stalls e w = true → Does (.hold e) s (fun t => t.eget F.ENG_STATUS_STALLED e = 1 ∧
    t.eget F.ENG_STATUS_PC e = u.eget F.ENG_STATUS_PC e ∧ (t.eng e).hold = (u.eng e).hold + 1)) ∧
  (AtEdge s e 14 w u → u.stalls e w = true → Does (.stamp e) s (fun t => t.eget F.ENG_STATUS_STALLED e = 1 ∧
    t.eget F.ENG_STATUS_PC e = u.eget F.ENG_STATUS_PC e ∧ (t.eng e).rxq = (u.eng e).rxq)) ∧
  (∀ t : State, (u.retire e w t .next).eget F.ENG_STATUS_PC e = (t.eget F.ENG_STATUS_PC e + 1) % 128 ∧
    (u.retire e w t .next).eget F.ENG_STATUS_STALLED e = 0 ∧ ((u.retire e w t .next).eng e).first = true ∧
    ((u.retire e w t .next).eng e).hold = 0) ∧
  (∀ (t : State) (a : Nat), (u.retire e w t (.jump a)).eget F.ENG_STATUS_PC e = a % 128 ∧
    (u.retire e w t (.jump a)).eget F.ENG_STATUS_STALLED e = 0) ∧
  (AtEdge s e 15 w u → w.getLsbD 0 = true → exec (.nop e) s = .next (u.retire e w u .next).done ∧
    (w.getLsbD 19 = false → u.sideSet e w = u)) ∧
  (AtEdge s e 15 w u → w.getLsbD 0 = false → Does (.halt e) s (fun t => t.running e = false ∧
    t.eget F.ENG_STATUS_STOP_CAUSE e = scHalt ∧ t.eget F.ENG_STATUS_PC e = u.eget F.ENG_STATUS_PC e))

/-- R230, R234, R242, R243. `u` is the state at the edge, `N` the bit count.

COMPLETES: exec i s = next t, for every state and operands that meet its conditions on them alone, for i = shiftin,
shiftout, crc, matchInstr. -/
def Obligations.FacetShifts : Prop := ∀ (s u : State) (e : Fin 64) (w x v : Word) (N : Nat),
  (1 ≤ N ∧ N ≤ 32 ∧ w.bits 5 0 = N →
    (AtEdge s e 0 w u →
      (w.bits 14 13 = 0 ∧ x = u.inputPins e ∨ w.bits 14 13 = 1 ∧ x = BitVec.ofNat 32 (u.xReg e) ∨
        w.bits 14 13 = 2 ∧ x = BitVec.ofNat 32 (u.yReg e) ∨ w.bits 14 13 = 3 ∧ x = if w.getLsbD 9 then 0xFFFFFFFF else 0) →
      v = lowBits N (if w.getLsbD 10 then ~~~x else x) →
      ∀ (r : Word) (t : State), r = (if w.getLsbD 12 then (u.isr e <<< N) ||| v else (u.isr e >>> N) ||| (v <<< (32 - N))) →
        t = u.setIsr e r (min 32 (u.eget F.ENG_STATUS_ISR_CNT e + N)) →
        exec (.shiftin e) s = .next (u.retire e w (if w.getLsbD 11 then t.crcFeed e v N else t) .next).done) ∧
    (AtEdge s e 1 w u →
      (w.getLsbD 12 = false ∧ x = lowBits N (u.osr e) ∨ w.getLsbD 12 = true ∧ x = u.osr e >>> (32 - N)) →
      v = (if w.getLsbD 10 then lowBits N (~~~x) else x) →
      ∀ (t b : State), t = u.setOsr e (if w.getLsbD 12 then u.osr e <<< N else u.osr e >>> N)
          (min 32 (u.eget F.ENG_STATUS_OSR_CNT e + N)) →
        (w.bits 14 13 = 0 ∧ b = t.driveLatch e v ∨ w.bits 14 13 = 1 ∧ b = t.setX e (v.bits 15 0) ∨
          w.bits 14 13 = 2 ∧ b = t.setY e (v.bits 15 0) ∨
          w.bits 14 13 = 3 ∧ b = t.setPattern e ((t.pattern e <<< N) ||| v)) →
        exec (.shiftout e) s = .next (u.retire e w (if w.getLsbD 11 then b.crcFeed e v N else b) .next).done) ∧
    (AtEdge s e 12 w u →
      (w.bits 14 13 = 0 ∧ v = u.osr e ∨ w.bits 14 13 = 1 ∧ v = u.isr e ∨
        w.bits 14 13 = 2 ∧ v = BitVec.ofNat 32 (u.xReg e) ∨ w.bits 14 13 = 3 ∧ v = BitVec.ofNat 32 (u.yReg e)) →
      exec (.crc e) s = .next (u.retire e w ((if w.getLsbD 12 then u.setCrc e (BitVec.ofNat 32 (u.crcInit e)) else u).crcFeed
        e v N) .next).done) ∧
    (AtEdge s e 13 w u → ∀ b : Bool,
      (b = true ↔ (u.srcReg e (w.bits 14 12)).toNat % 2 ^ N = (u.pattern e).toNat % 2 ^ N) →
      exec (.matchInstr e) s = .next (u.retire e w (u.setEng e { u.eng e with m := xor b (w.getLsbD 11) }) .next).done)) ∧
  (w.bits 5 0 = 0 ∨ 33 ≤ w.bits 5 0 →
    (AtEdge s e 0 w u → exec (.shiftin e) s = .next (u.retire e w u .next).done) ∧
    (AtEdge s e 1 w u → exec (.shiftout e) s = .next (u.retire e w u .next).done) ∧
    (AtEdge s e 12 w u → exec (.crc e) s = .next (u.retire e w u .next).done) ∧
    (AtEdge s e 13 w u → exec (.matchInstr e) s = .next (u.retire e w u .next).done)) ∧
  ((u.isr e <<< 32) ||| lowBits 32 x = x ∧ (u.isr e >>> 32) ||| (lowBits 32 x <<< 0) = x)

/-- R235-R238, R244. `u` is the state at the edge; the word `q` at the head of TXQ carries no poison unless said.

COMPLETES: exec i s = next t, for every state and operands that meet its conditions on them alone, for i = take, give,
hold, signal, stamp. -/
def Obligations.FacetQueuesAndWaits : Prop := ∀ (s u t : State) (e : Fin 64) (w : Word),
  (∀ (q : QWord) (rest : List QWord), AtEdge s e 2 w u → (u.eng e).txq = q :: rest → q.poison = false → q.parity = false →
    t = u.setEng e { u.eng e with path := (u.eng e).path.drop 1, txn := (u.eng e).txn - 1, mid := !q.last, l := q.last, e := false } →
    (w.bits 14 13 = 0 → exec (.take e) s = .next (u.retire e w (t.setOsr e q.w 0) .next).done) ∧
    (w.bits 14 13 = 1 → exec (.take e) s = .next (u.retire e w (t.setX e (q.w.bits 15 0)) .next).done) ∧
    (w.bits 14 13 = 2 → exec (.take e) s = .next (u.retire e w (t.setY e (q.w.bits 15 0)) .next).done) ∧
    (w.bits 14 13 = 3 → exec (.take e) s = .next (u.retire e w (t.setPattern e q.w) .next).done)) ∧
  (∀ (q : QWord) (rest : List QWord), AtEdge s e 2 w u → (u.eng e).txq = q :: rest → (q.poison || q.parity) = true →
    u.eis F.ENG_QCFG_POISON_HALT e = true →
    Does (.take e) s (fun v => v.running e = false ∧ v.eget F.ENG_STATUS_STOP_CAUSE e = scPoison)) ∧
  (AtEdge s e 2 w u → (u.eng e).txq = [] → w.getLsbD 12 = true →
    exec (.take e) s = .next (u.retire e w (u.setEng e { u.eng e with e := true }) .next).done) ∧
  (∀ x : Word, AtEdge s e 3 w u → u.rxFull e = false →
    (w.bits 14 13 = 0 ∧ w.getLsbD 11 = false ∧ x = u.isr e ∨
      w.bits 14 13 = 0 ∧ w.getLsbD 11 = true ∧ u.eget F.ENG_STATUS_ISR_CNT e = 0 ∧ x = 0 ∨
      w.bits 14 13 = 0 ∧ w.getLsbD 11 = true ∧ u.eget F.ENG_STATUS_ISR_CNT e ≠ 0 ∧
        x = u.isr e >>> (32 - u.eget F.ENG_STATUS_ISR_CNT e) ∨
      w.bits 14 13 = 1 ∧ x = u.rd .engXy (e / 8) (e % 8) ∨ w.bits 14 13 = 2 ∧ x = u.crcVal e ∨
      w.bits 14 13 = 3 ∧ x = u.pattern e) →
    exec (.give e) s = .next (u.retire e w (if w.bits 14 13 = 0 ∧ w.getLsbD 10 = false then
      (u.giveWord e x (w.getLsbD 12) (u.eng e).stampBad).setIsr e 0 0
      else u.giveWord e x (w.getLsbD 12)
        ((w.bits 14 13 == 0 && (u.eng e).stampBad) || (w.bits 14 13 == 3 && (u.eng e).patBad))) .next).done) ∧
  (∀ (x : Word) (b bad : Bool), (u.rxCap e = 0 → u.giveWord e x b bad = u.eput F.ENG_STATUS_RX_LOST 1 e) ∧
    (u.rxCap e ≠ 0 → ∃ q : QWord, q.w = x ∧ q.last = b ∧ q.time = u.stampNs (9 + e / 8) ∧ q.poison = false ∧
      q.invalid = (u.timeInvalid || bad) ∧ ((u.giveWord e x b bad).eng e).rxq = (u.eng e).rxq ++ [q])) ∧
  (AtEdge s e 4 w u → u.holdWaits e w = false →
    (w.bits 14 12 = 3 → exec (.hold e) s = .next (u.retire e w (u.setEng e { u.eng e with trig := false }) .next).done) ∧
    (w.bits 14 12 = 5 → w.getLsbD 3 = true → exec (.hold e) s = .next (u.retire e w (u.setClu (e / 8) { u.clu (e / 8) with
      sigClr := (u.clu (e / 8)).sigClr ||| (1#8 <<< w.bits 2 0), sigAt := u.now }) .next).done) ∧
    (w.bits 14 12 ≠ 3 → (w.bits 14 12 = 5 → w.getLsbD 3 = false) →
      exec (.hold e) s = .next (u.retire e w u .next).done)) ∧
  (AtEdge s e 14 w u → w.getLsbD 14 = false →
    exec (.stamp e) s = .next (u.retire e w (State.setEng (u.setIsr e (u.stampNs (9 + e / 8)) 32) e
      { (u.setIsr e (u.stampNs (9 + e / 8)) 32).eng e with stampBad := (u.setIsr e (u.stampNs (9 + e / 8)) 32).timeInvalid })
      .next).done) ∧
  (AtEdge s e 14 w u → w.getLsbD 14 = true → u.rxFull e = false →
    exec (.stamp e) s = .next (u.retire e w (u.giveWord e (u.stampNs (9 + e / 8)) (w.getLsbD 13)) .next).done) ∧
  (AtEdge s e 11 w u → exec (.signal e) s = .next (u.retire e w (u.setClu (e / 8) (if w.getLsbD 14 then
      { u.clu (e / 8) with sigClr := (u.clu (e / 8)).sigClr ||| w.setWidth 8, sigAt := u.now }
    else { u.clu (e / 8) with sigSet := (u.clu (e / 8)).sigSet ||| w.setWidth 8, sigAt := u.now })) .next).done) ∧
  (∀ k, (u.clu k).sigAt < u.now →
    ((u.flowSignals k).clu k).signals = ((u.clu k).signals &&& ~~~(u.clu k).sigClr) ||| (u.clu k).sigSet)

/-- R239-R241. `u` is the state at the edge.

COMPLETES: exec i s = next t, for every state and operands that meet its conditions on them alone, for i = branch, loop,
load, move, drive, dir. -/
def Obligations.FacetFlowAndData : Prop := ∀ (s u : State) (e : Fin 64) (w : Word),
  (AtEdge s e 5 w u → ∀ b : Bool,
    (w.bits 14 12 = 0 ∧ b = true ∨ w.bits 14 12 = 1 ∧ b = u.pinIn (e / 8) (w.bits 11 7) ∨
      w.bits 14 12 = 2 ∧ b = !u.pinIn (e / 8) (w.bits 11 7) ∨ w.bits 14 12 = 3 ∧ b = (u.xReg e != 0) ∨
      w.bits 14 12 = 4 ∧ b = (u.yReg e != 0) ∨ w.bits 14 12 = 5 ∧ b = (u.eng e).m ∨
      w.bits 14 12 = 6 ∧ b = (u.eng e).l ∨ w.bits 14 12 = 7 ∧ b = (u.eng e).e) →
    exec (.branch e) s = .next (u.retire e w u (if b then .jump (w.bits 6 0) else .next)).done) ∧
  (AtEdge s e 6 w u → w.getLsbD 14 = false → u.xReg e = 0 → exec (.loop e) s = .next (u.retire e w u .next).done) ∧
  (AtEdge s e 6 w u → w.getLsbD 14 = false → u.xReg e ≠ 0 →
    exec (.loop e) s = .next (u.retire e w (u.setX e (u.xReg e - 1)) (.jump (w.bits 6 0))).done) ∧
  (AtEdge s e 6 w u → w.getLsbD 14 = true → u.yReg e = 0 → exec (.loop e) s = .next (u.retire e w u .next).done) ∧
  (AtEdge s e 6 w u → w.getLsbD 14 = true → u.yReg e ≠ 0 →
    exec (.loop e) s = .next (u.retire e w (u.setY e (u.yReg e - 1)) (.jump (w.bits 6 0))).done) ∧
  (AtEdge s e 7 w u →
    (w.bits 14 13 = 0 → exec (.load e) s = .next (u.retire e w (u.setX e (w.bits 12 0)) .next).done) ∧
    (w.bits 14 13 = 1 → exec (.load e) s = .next (u.retire e w (u.setY e (w.bits 12 0)) .next).done) ∧
    (w.bits 14 13 = 2 → exec (.load e) s = .next (u.retire e w (u.setOsr e (BitVec.ofNat 32 (w.bits 12 0)) 0) .next).done) ∧
    (w.bits 14 13 = 3 → exec (.load e) s = .next (u.retire e w (u.setCrc e (BitVec.ofNat 32 (u.crcInit e))) .next).done)) ∧
  (AtEdge s e 8 w u → ∀ v : Word,
    (w.bits 8 7 = 0 ∧ v = u.srcReg e (w.bits 14 12) ∨ w.bits 8 7 = 1 ∧ v = ~~~(u.srcReg e (w.bits 14 12)) ∨
      w.bits 8 7 = 2 ∧ (∀ i, i < 8 → v.getLsbD i = (u.srcReg e (w.bits 14 12)).getLsbD (24 + i) ∧
        v.getLsbD (8 + i) = (u.srcReg e (w.bits 14 12)).getLsbD (16 + i) ∧
        v.getLsbD (16 + i) = (u.srcReg e (w.bits 14 12)).getLsbD (8 + i) ∧
        v.getLsbD (24 + i) = (u.srcReg e (w.bits 14 12)).getLsbD i) ∨
      w.bits 8 7 = 3 ∧ v.toNat = ((u.srcReg e (w.bits 14 12)).toNat + 1) % 2 ^ 32) →
    exec (.move e) s = .next (u.retire e w (u.stampMoved e w (u.dstReg e (w.bits 11 9) v)) .next).done) ∧
  (∀ v : Word, u.dstReg e 0 v = u.setX e (v.bits 15 0) ∧ u.dstReg e 1 v = u.setY e (v.bits 15 0) ∧
    u.dstReg e 2 v = u.setOsr e v 0 ∧ u.dstReg e 3 v = u.setIsr e v 32 ∧ u.dstReg e 4 v = u.setPattern e v ∧
    u.dstReg e 5 v = u.driveLatch e v ∧ u.dstReg e 6 v = u.setCrc e (BitVec.ofNat 32 (v.toNat % 2 ^ u.crcWidth e)) ∧
    u.dstReg e 7 v = u) ∧
  (AtEdge s e 9 w u → exec (.drive e) s = .next (u.retire e w (u.driveLatch e (BitVec.ofNat 32 (w.toNat % 256))) .next).done) ∧
  (AtEdge s e 10 w u → exec (.dir e) s = .next (u.retire e w (u.setDirs e (BitVec.ofNat 32 (w.toNat % 256))) .next).done)

/-- R196, R198, R201, R205, R221.

COMPLETES: exec i s = next t, for every state and operands that meet its conditions on them alone, for i =
injectExecute, debounceSample, cosEvent, bankSupplyLoss, bankSupplyReturn, facetPinChange. -/
def Obligations.ClusterPins : Prop := ∀ (s u t : State) (e : Fin 64) (k : Fin 8) (w : Word),
  (s.eis F.ENG_INJECT_PENDING e = true → s.cluUp (e / 8) = true → (s.eng e).inj = w →
    (s.running e = true → (s.eng e).injAt ≤ (s.eng e).edge) →
    u = State.eput (State.toEdge (if s.running e then s else s.divideTo e (s.eng e).injAt) e) F.ENG_INJECT_PENDING 0 e →
    (u.injectStalls e w = true → exec (.injectExecute e) s = .next (u.eput F.ENG_STATUS_INJ_STALL 1 e).done) ∧
    (u.injectStalls e w = false →
      (u.operate e w = (t, .next) → exec (.injectExecute e) s = .next (t.sideSet e w).done) ∧
      (∀ a, u.operate e w = (t, .jump a) → s.running e = false →
        exec (.injectExecute e) s = .next ((t.sideSet e w).eput F.ENG_STATUS_PC (a % 128) e).done) ∧
      (∀ a v, u.operate e w = (t, .jump a) → s.running e = true → v = (t.sideSet e w).eput F.ENG_STATUS_PC (a % 128) e →
        exec (.injectExecute e) s =
          .next ((v.eput F.ENG_STATUS_STALLED 0 e).setEng e { v.eng e with first := true, hold := 0 }).done) ∧
      (u.operate e w = (t, .poison) → exec (.injectExecute e) s = .next (t.stopEngine e scPoison).done) ∧
      (u.operate e w = (t, .halt) → s.running e = false → exec (.injectExecute e) s = .next (t.sideSet e w).done) ∧
      (u.operate e w = (t, .halt) → s.running e = true →
        exec (.injectExecute e) s = .next ((t.sideSet e w).stopEngine e scHalt).done))) ∧
  (s.cluUp k = true →
    exec (.debounceSample k) s = .next ((List.range 32).foldl (fun s p => s.debouncePin k p) (s.flowPins k)).done) ∧
  (∀ p, s.get F.PIN_CFG_MODE k p = 1 → s.get F.PIN_CFG_DEB_US k p ≠ 0 → (s.clu k).net.getLsbD p ≠ (s.clu k).acc.getLsbD p →
    (s.get F.PIN_CFG_DEB_US k p ≤ tget 0 (s.clu k).runs p + 1 → s.debouncePin k p = s.acceptLevel k p) ∧
    (tget 0 (s.clu k).runs p + 1 < s.get F.PIN_CFG_DEB_US k p →
      tget 0 ((s.debouncePin k p).clu k).runs p = tget 0 (s.clu k).runs p + 1 ∧
      ((s.debouncePin k p).clu k).acc = (s.clu k).acc)) ∧
  (∀ p, p < 32 → ((s.acceptLevel k p).clu k).acc.getLsbD p = !(s.clu k).acc.getLsbD p) ∧
  (s.cluUp k = true → (s.clu k).cosMask ≠ 0 → s.get F.CLU_COS_DEST_NODE k ≠ 0 → u = (s.expire (.cosHold k 0)).getD s →
    ∀ (v : State) (f : Frame), v = (u.setClu k { s.clu k with cosMask := 0 }).bump .cluCnt k 5 →
      f = u.event u.sourceNode 0xFF (BitVec.ofNat 24 (u.get F.CLU_COS_DEST_NODE k)) (u.get F.CLU_COS_DEST_PORT k)
        (u.get F.CLU_COS_CFG_CLASS k) (u.is F.CLU_COS_CFG_DUAL k)
        [BitVec.ofNat 32 k, u.cluDinWord k, (s.clu k).cosMask, (s.clu k).cosTime] →
      exec (.cosEvent k) s = .next ((v.emitOut f 122).arm (.cosHold k 0)
        (1000 * v.get F.CLU_COS_CFG_HOLDOFF_US k)).done) ∧
  (s.cluUp k = true →
    exec (.bankSupplyLoss k) s = .next ((((s.setClu k { s.clu k with supply := .out }).put F.CLU_STAT_BANK_OK 0 k).setLive
      0x60 k).settleNet k).done ∧
    exec (.bankSupplyReturn k) s = .next ((((s.setClu k { s.clu k with supply := .level (s.get F.CLU_CFG_BANK_V k) }).put
      F.CLU_STAT_BANK_OK 1 k).clearLive 0x60 k).settleNet k).done) ∧
  (∀ (p : Fin 32) (b : Bool) (v : State), s.flowPins k = v → v.pinDrives k p = false → (v.clu k).net.getLsbD p ≠ b →
    (v.get F.PIN_CFG_MODE k p ≠ 1 → Does (.facetPinChange k p b) s (fun t => (t.clu k).net.getLsbD p = b ∧
      (t.clu k).acc = (v.clu k).acc)) ∧
    (v.cluUp k = true → v.get F.PIN_CFG_MODE k p = 1 → v.get F.PIN_CFG_DEB_US k p = 0 → (v.clu k).acc.getLsbD p ≠ b →
      Does (.facetPinChange k p b) s (fun t => (t.clu k).net.getLsbD p = b ∧ (t.clu k).acc.getLsbD p = b)))

/-- R207-R209, R223-R225.

COMPLETES: exec i s = next t, for every state and operands that meet its conditions on them alone, for i = txqFeed,
packerWord, rxPackExpire, windowAnswer, windowTimeout. -/
def Obligations.ClusterQueuesAndWindows : Prop := ∀ (s u : State) (e : Fin 64) (k : Fin 16),
  (∀ (q : Nat) (l : Link) (v : VUnit), s.cluUp (e / 8) = true → (s.eng e).feed = none → s.nextQueue (58 + e) = some (q, l) →
    s.unit? l.uid = some v → s.ueOf v = [] →
    (v.frame.ftype = ftPortData → s.itemOf e v.frame ≠ [] →
      exec (.txqFeed e) s = .next (((s.setEng e { s.eng e with
        feed := some (q, l.uid, s.itemOf e v.frame) }).drawFeed e).fillTxq e).done) ∧
    (v.frame.ftype ≠ ftPortData ∨ s.itemOf e v.frame = [] →
      exec (.txqFeed e) s = .next ((((s.unlink q l.uid l.loupe).1).drawFeed e).fillTxq e).done)) ∧
  (s.cluUp (e / 8) = true → (s.eng e).feed ≠ none → exec (.txqFeed e) s = .next ((s.drawFeed e).fillTxq e).done) ∧
  (((s.fillTxq e).eng e).txn = min (s.txCap e) ((s.eng e).path.length) ∧ ((s.fillTxq e).eng e).path = (s.eng e).path) ∧
  (∀ (w : QWord) (rest : List QWord), s.cluUp (e / 8) = true → (s.eng e).rxq = w :: rest → s.packTurn (e / 8) = some (e % 8) →
    (∀ i, s.windowOf e = some i → Does (.packerWord e) s (fun t =>
      (t.eng e).rxq = rest ∧ (t.win i).answer = (s.win i).answer ++ [w.read] ∧ (t.clu (e / 8)).turn = e % 8)) ∧
    (s.windowOf e = none → (s.portCfg (58 + e)).enable = false →
      Does (.packerWord e) s (fun t => (t.eng e).rxq = rest ∧ t.eget F.ENG_STATUS_RX_LOST e = 1)) ∧
    (s.windowOf e = none → (s.portCfg (58 + e)).enable = true →
      (s.eng e).frame ≠ [] → w.last = false → (s.eng e).frame.length + 1 < s.eget F.ENG_QCFG_RX_MAX_W e →
      Does (.packerWord e) s (fun t => (t.eng e).rxq = rest ∧ (t.eng e).frame = (s.eng e).frame ++ [w.read])) ∧
    (s.windowOf e = none → (s.portCfg (58 + e)).enable = true →
      (s.eng e).frame ≠ [] → w.last = true →
      Does (.packerWord e) s (fun t => (t.eng e).rxq = rest ∧ (t.eng e).frame = []))) ∧
  (s.expire (.rxPack e) = some u → exec (.rxPackExpire e) s = .next (u.closeFrame e).done) ∧
  (∀ (item rest : List QWord), s.cluUp (k / 2) = true → s.mgtUp = true → splitItem (s.win k).answer = (item, rest) →
    item.any (·.last) = true →
    ((s.win k).cur = none →
      exec (.windowAnswer k) s = .next ((s.setWin k { s.win k with answer := rest }).bump .cluCnt (k / 2) 4).done) ∧
    (∀ r, (s.win k).cur = some r → (item.headD { w := 0 }).w.bits 23 16 ≠ s.get F.WIN_STAT_RID (k / 2) (k % 2) →
      exec (.windowAnswer k) s = .next ((s.setWin k { s.win k with answer := rest }).bump .cluCnt (k / 2) 4).done) ∧
    (∀ r x, (s.win k).cur = some r →
      (item.headD { w := 0 }).w.bits 23 16 = s.get F.WIN_STAT_RID (k / 2) (k % 2) →
      x = winAnswerOf r (winStatus ((item.headD { w := 0 }).w.bits 7 0)) (item.drop 1) →
      (r.write = false ∨ x.status ≠ stOk → exec (.windowAnswer k) s =
        .next ((s.setWin k { s.win k with answer := rest }).winEnd k r x).done) ∧
      (r.write = true → x.status = stOk → exec (.windowAnswer k) s =
        .next (((s.setWin k { s.win k with answer := rest }).auditWrite r.cmd.frame r.count (r.data.headD 0)
          ((s.serviceOf r.cmd).any (·.ordered))).winEnd k r x).done))) ∧
  (s.expire (.window k) = some u → ∀ v : State,
    v = ((u.win k).waiting.filter (fun r => decide (r.arrival + u.winTime k ≤ u.now))).foldl
      (fun (s : State) r => s.winReply k r { status := stTimeout })
      (u.setWin k { u.win k with waiting := (u.win k).waiting.filter (fun r => !decide (r.arrival + u.winTime k ≤ u.now)) }) →
    (∀ r, (v.win k).cur = some r → r.arrival + u.winTime k ≤ u.now →
      exec (.windowTimeout k) s = .next (v.winEnd k r { status := stTimeout }).done) ∧
    (∀ r, (v.win k).cur = some r → u.now < r.arrival + u.winTime k →
      exec (.windowTimeout k) s = .next (v.winTimer k).done) ∧
    ((v.win k).cur = none → exec (.windowTimeout k) s = .next (v.winTimer k).done))

/-- R248-R262. Reception is stated for a controller that runs no rate detection.

COMPLETES: exec i s = next t, for every state and operands that meet its conditions on them alone, for i =
canFrameReceive, canAttemptEnd, busOffRecoveryDone, opmodeApply, canPackExpire, canBusError. -/
def Obligations.CanTraffic : Prop := ∀ (s u : State) (n : Fin 32),
  (∀ (f : CanFrame) (v : State), s.canOnBus n = true → v = s.setCan n { s.can n with acked := f.crcOk && s.canAcks n } →
    (s.can n).rd.stage = 0 →
    (f.good = true → f.crcOk = true →
      (f.fmt = 0 ∨ f.fmt = 1 ∧ v.is F.CAN_CFG_FD_EN n = true ∨ f.fmt = 2 ∧ v.is F.CAN_CFG_XL_EN n = true) →
      u = ((v.bump .canCnt n 0).canRecGood n).canState n 0 →
      exec (.canFrameReceive n f) s =
        .next (u.canDeliver n (canHeader f (BitVec.ofNat 32 (u.ringAgo 17 f.sof))) f.bytes).done) ∧
    ((f.good = false ∨ f.crcOk = false ∨ f.fmt = 3 ∨ f.fmt = 1 ∧ v.is F.CAN_CFG_FD_EN n = false ∨
      f.fmt = 2 ∧ v.is F.CAN_CFG_XL_EN n = false) → exec (.canFrameReceive n f) s = .next v.done)) ∧
  (∀ (a : CanAttempt) (t : CanTx) (v w : State), s.mode ≠ .sleep → s.canTransmits n = true → s.canBegin n a.sof = v →
    (v.can n).slot = some t → v.canLoop n t a = w →
    (w.canResult n t a = .sent → exec (.canAttemptEnd n a) s = .next ((w.canSent n t a.sof).canFill n).done) ∧
    (w.canResult n t a = .arbLost → (w.can n).flush = false →
      exec (.canAttemptEnd n a) s = .next ((w.bump .canCnt n 3).canFill n).done) ∧
    (w.canResult n t a = .arbLost → (w.can n).flush = true → exec (.canAttemptEnd n a) s =
      .next (((w.bump .canCnt n 3).canGone n t (BitVec.ofNat 32 (w.ringAgo 17 a.sof))).canFill n).done) ∧
    (∀ e : CanError, w.canResult n t a = .error e → exec (.canAttemptEnd n a) s =
      .next ((w.canFailed n t e (BitVec.ofNat 32 (w.ringAgo 17 a.sof))).canFill n).done)) ∧
  (∀ e : CanError, s.canOnBus n = true → (e.kind ≠ .exception ∨ s.is F.CAN_CFG_PEX_EN n = true) →
    u = (s.setCan n { s.can n with flagged := s.canFlags n && e.kind != .exception }).bump .canCnt n (canErrIx e.kind) →
    ((u.can n).rd.stage ≠ 0 → exec (.canBusError n e) s = .next u.done) ∧
    ((u.can n).rd.stage = 0 → ∀ v w : State, v = u.put F.CAN_STAT_REC (min (u.get F.CAN_STAT_REC n +
        (if e.exempt || e.kind == .overload || e.kind == .exception then 0 else 1) + (if e.own then 0 else 8 * e.extra8)) 255) n →
      w = (if e.own && s.canFlags n then v.put F.CAN_STAT_TEC (min (v.get F.CAN_STAT_TEC n + 8 * e.extra8) 256) n else v) →
      exec (.canBusError n e) s = .next (w.canState n (s.stampNs 17)).done)) ∧
  (∀ time : Word, s.get F.CAN_STAT_STATE n < 2 → (s.can n).slot = none →
    (256 ≤ s.get F.CAN_STAT_TEC n → (s.canState n time).get F.CAN_STAT_STATE n = if s.is F.CAN_CFG_AUTO_RECOVER n then 3 else 2) ∧
    (s.get F.CAN_STAT_TEC n < 256 → 128 ≤ s.get F.CAN_STAT_TEC n ∨ 128 ≤ s.get F.CAN_STAT_REC n →
      (s.canState n time).get F.CAN_STAT_STATE n = 1) ∧
    (s.get F.CAN_STAT_TEC n < 128 → s.get F.CAN_STAT_REC n < 128 → (s.canState n time).get F.CAN_STAT_STATE n = 0)) ∧
  (s.canUp = true → s.get F.CAN_STAT_STATE n = 3 → exec (.busOffRecoveryDone n) s =
    .next ((((s.put F.CAN_STAT_STATE 0 n).put F.CAN_STAT_TEC 0 n).put F.CAN_STAT_REC 0 n).canFill n).done) ∧
  (s.canUp = true → (s.can n).opmode ≠ s.get F.CAN_CTL_OPMODE n → exec (.opmodeApply n) s =
    .next ((s.setCan n { s.can n with opmode := s.get F.CAN_CTL_OPMODE n }).canFill n).done) ∧
  (s.expire (.canPack n) = some u → exec (.canPackExpire n) s = .next (u.canClose n).done ∧
    ((u.can n).pack ≠ [] → u.portOpen (26 + n) = false → Does (.canPackExpire n) s (fun t => (t.can n).pack = [] ∧
      (t.can n).gap = true)))

/-- R263-R266.

COMPLETES: exec i s = next t, for every state and operands that meet its conditions on them alone, for i =
rateSurveyEnd, candidateDwellExpire, rateDetectTimeout, referenceRelease, canWake. -/
def Obligations.CanDetectionAndReferences : Prop := ∀ (s u : State) (n : Fin 32),
  (∀ pulses : List Nat, (s.can n).rd.stage = 1 → 64 ≤ pulses.length →
    Does (.rateSurveyEnd n pulses) s (fun t => (t.can n).rd.stage = 2 ∧ (t.can n).rd.cands = canOrder (pulses.take 64) ∧
      t.deadline (.survey n) = none ∧ t.deadline (.dwell n) = some (s.now + 1000000 * s.get F.CAN_RD_CTL_DWELL_MS n))) ∧
  (∀ pulses : List Nat, (s.can n).rd.stage = 1 → pulses.length < 64 → s.expire (.survey n) = some u →
    Does (.rateSurveyEnd n pulses) s (fun t => (t.can n).rd.stage = 2 ∧ (t.can n).rd.cands = canOrder pulses ∧
      t.deadline (.dwell n) = some (u.now + 1000000 * u.get F.CAN_RD_CTL_DWELL_MS n))) ∧
  (canOrder [] = List.range 10 ∧ ∀ (p : Nat) (ps : List Nat), (canOrder (p :: ps)).Perm (List.range 10) ∧
    (canOrder (p :: ps)).Pairwise (fun i j => canDistance (ps.foldl min p) i ≤ canDistance (ps.foldl min p) j)) ∧
  (∀ c cs, s.expire (.dwell n) = some u → (u.can n).rd.cands = c :: cs →
    Does (.candidateDwellExpire n) s (fun t => (t.can n).rd.cands = cs ++ [c] ∧ (t.can n).rd.stage = (u.can n).rd.stage ∧
      t.deadline (.dwell n) = some (u.now + 1000000 * u.get F.CAN_RD_CTL_DWELL_MS n))) ∧
  (s.expire (.rdTimeout n) = some u → exec (.rateDetectTimeout n) s = .next ((u.put F.CAN_RD_STAT_FAILED 1 n).canRdEnd n).done) ∧
  (s.expire (.rdTimeout n) = some u → (u.can n).opmode ≠ 1 → Does (.rateDetectTimeout n) s (fun t =>
    t.get F.CAN_RD_STAT_FAILED n = 1 ∧ t.get F.CAN_RD_STAT_BUSY n = 0 ∧ (t.can n).rd = {} ∧ t.deadline (.survey n) = none ∧
    t.deadline (.dwell n) = none ∧ t.deadline (.rdTimeout n) = none)) ∧
  (∀ p, s.is F.CAN_REF_CFG_ENABLE n = true → s.canUp = true → s.canActs n = 1 → p = 1000 * s.get F.CAN_REF_CFG_PERIOD_US n →
    p ≠ 0 → u = s.advanceRing ((s.ring64 / p + 1) * p) →
    ((u.can n).ref.isSome = true ∨ (u.can n).slot.any (fun t => t.ref != 0) = true →
      exec (.referenceRelease n) s = .next (u.sat F.CAN_REF_STAT_SKIP_CNT n).done) ∧
    (∀ (sc : Nat) (v : State), (u.can n).ref = none → (u.can n).slot.any (fun t => t.ref != 0) = false →
      sc = (u.get F.CAN_REF_STAT_SC n + 1) % 256 →
      v = u.put F.CAN_REF_STAT_SC sc n → exec (.referenceRelease n) s = .next ((v.setCan n { u.can n with
        ref := some { hdr := [((0 : Word).setBits 27 27 (bit ((v.rd .canRefId n).getLsbD 31))).setBits 11 0 1,
          v.rd .canRefId n &&& 0x1FFFFFFF, 0, 0, 0], data := [BitVec.ofNat 32 (2 ^ 24 * sc)], ref := 1, due := u.now } }).canFill
          n).done)) ∧
  (s.mode = .sleep → s.get F.CAN_WAKE_CFG_WAKE_MODE n = 1 → Does (.canWake n none) s (fun t => t.mode = .boot ∧
    t.rd .canWakeStat n = 0xA0000000)) ∧
  (∀ f : CanFrame, s.mode = .sleep → s.get F.CAN_WAKE_CFG_WAKE_MODE n = 2 → s.canWakes n f = true →
    Does (.canWake n (some f)) s (fun t => t.mode = .boot ∧
      t.rd .canWakeStat n = 0xC0000000 ||| BitVec.setWidth 32 f.id))

/-- R269, R270, R282-R284, R288, R289.

COMPLETES: exec i s = next t, for every state and operands that meet its conditions on them alone, for i =
macFrameReceive, inbandStatus, macPackExpire, mdioDone, macWake, gmnRxcChange. -/
def Obligations.MacReception : Prop := ∀ (s u : State) (m : Fin 20),
  (∀ (r : MacRx) (k : Nat), s.macUp = true → s.macEn m = true → s.macReject m r = some k →
    exec (.macFrameReceive m r) s = .next (s.macCount m k).done) ∧
  (∀ r : MacRx, (r.symbolErr = true → s.macReject m r = some 20) ∧
    (r.symbolErr = false → r.bytes.length < 64 → fcsGood r.bytes = false → s.macReject m r = some 18) ∧
    (r.symbolErr = false → 64 ≤ r.bytes.length → r.aligned = true → fcsGood r.bytes = false → s.macReject m r = some 15) ∧
    (r.symbolErr = false → 64 ≤ r.bytes.length → r.aligned = false → fcsGood r.bytes = false → s.macReject m r = some 16) ∧
    (r.symbolErr = false → fcsGood r.bytes = true →
      (r.bytes.length < 64 → s.macReject m r = some 17) ∧
      (64 ≤ r.bytes.length → s.macMaxLen m < r.bytes.length → s.macReject m r = some 19) ∧
      (64 ≤ r.bytes.length → r.bytes.length ≤ s.macMaxLen m → s.macReject m r = none))) ∧
  (∀ r : MacRx, s.macUp = true → s.macEn m = true → s.macReject m r = none → isMcastAddr (r.bytes.take 6) = false →
    isBcastAddr (r.bytes.take 6) = false → (r.bytes.drop 12).take 2 ≠ [0x88, 0x08] → s.isComm m = false →
    u = (s.macCount m 11).macCount m 12 r.bytes.length →
    (u.macPasses m (r.bytes.take 6) = false → exec (.macFrameReceive m r) s = .next (u.macCount m 21).done) ∧
    (u.macPasses m (r.bytes.take 6) = true → ∀ data, u.isComm m = false →
      data = (if u.is F.MAC_CFG_RX_FCS_KEEP m then r.bytes else r.bytes.take (r.bytes.length - 4)) →
      exec (.macFrameReceive m r) s = .next (u.macDeliver m (((0 : Word).setBits 29 29 (bit (u.is F.MAC_CFG_RX_FCS_KEEP m))).setBits
        10 0 data.length) (BitVec.ofNat 32 (u.ringAgo 18 r.sfd)) data).done)) ∧
  (∀ (g : Fin 4) (speed : BitVec 2) (duplex link : Bool),
    u = s.setMac (16 + g) { s.mac (16 + g) with inSpeed := speed, inDuplex := duplex, inLink := link } →
    (s.macLink (16 + g) = false ∨ u.macLink (16 + g) = true → exec (.inbandStatus g speed duplex link) s =
      .next (u.macGate (16 + g)).done) ∧
    (s.macUp = true → s.macLink (16 + g) = true → u.macLink (16 + g) = false → (u.macCount (16 + g) 27).macEn (16 + g) = true →
      exec (.inbandStatus g speed duplex link) s =
        .next (((u.macCount (16 + g) 27).raise 0x78 (16 + g)).macGate (16 + g)).done)) ∧
  (∀ (g : Fin 4) (runs : Bool), u = s.setMac (16 + g) { s.mac (16 + g) with rxc := runs } →
    (s.macLink (16 + g) = false ∨ u.macLink (16 + g) = true → exec (.gmnRxcChange g runs) s = .next u.done) ∧
    (s.macUp = true → s.macLink (16 + g) = true → u.macLink (16 + g) = false → (u.macCount (16 + g) 27).macEn (16 + g) = false →
      exec (.gmnRxcChange g runs) s = .next (u.macCount (16 + g) 27).done)) ∧
  (s.expire (.macPack m) = some u → exec (.macPackExpire m) s = .next (u.macClose m).done ∧
    ((u.mac m).pack ≠ [] → u.portOpen (macPort m) = true → ∀ v w : State, v = u.disarm (.macPack m) →
      w = v.setMac m { u.mac m with pack := [], packN := 0, gap := false, packLost := false } →
      exec (.macPackExpire m) s = .next (w.emitOut (v.portData (macPort m) (u.mac m).packTime (u.mac m).packInv
        (lostBefore (u.mac m).gap (u.mac m).pack)) (macPort m)).done)) ∧
  (∀ data : BitVec 16, s.macUp = true → s.is F.MAC_MDIO_CTL_BUSY = true →
    Does (.mdioDone data) s (fun t => t.is F.MAC_MDIO_CTL_BUSY = false)) ∧
  (∀ r : MacRx, s.macWakeHit m r = true → Does (.macWake m r) s (fun t => t.mode = .boot))

/-- R278-R281.

COMPLETES: exec i s = next t, for every state and operands that meet its conditions on them alone, for i = macDeferEnd,
collision, backoffExpire, macTxEnd. -/
def Obligations.MacTransmission : Prop := ∀ (s u : State) (m : Fin 20),
  (∀ (t : MacTx) (carrier : Bool), (s.mac m).slot = some t → (s.mac m).phase = 0 → s.macFull m = false → s.macRuns m = true →
    u = (if carrier = true ∧ (s.mac m).tried = false then s.macCount m 4 else s) →
    exec (.macDeferEnd m carrier) s = .next (u.macStart m (max u.now ((s.mac m).lastEnd + 96 * u.macBit m))).done) ∧
  (∀ at_ : Nat, ((u.macStart m at_).mac m).phase = 1 ∧ ((u.macStart m at_).mac m).tried = true ∧
    ((u.macStart m at_).mac m).start = at_) ∧
  (∀ (t : MacTx) (bits : Nat), (s.mac m).slot = some t → (s.mac m).phase = 1 → s.macFull m = false → s.macRuns m = true →
    ∀ a : State, a = (s.advance ((s.mac m).start - s.now)).macCount m 10 →
    u = a.setMac m { a.mac m with cols := (s.mac m).cols + 1, lastEnd := a.now + 32 * a.macBit m } →
    ((s.mac m).flush = true → exec (.collision m bits) s = .next ((u.macCount m 9).macLeave m t 2).done) ∧
    ((s.mac m).flush = false → 512 < bits → exec (.collision m bits) s = .next ((u.macCount m 7).macLeave m t 3).done) ∧
    (bits ≤ 512 → (s.mac m).flush = false → 15 ≤ (s.mac m).cols →
      exec (.collision m bits) s = .next ((u.macCount m 8).macLeave m t 1).done) ∧
    (bits ≤ 512 → (s.mac m).flush = false → (s.mac m).cols < 15 →
      Does (.collision m bits) s (fun v => (v.mac m).phase = 2 ∧ (v.mac m).cols = (s.mac m).cols + 1 ∧
        (v.mac m).slot = some t ∧ ∃ r, r < 2 ^ min ((s.mac m).cols + 1) 10 ∧
        v.deadline (.backoff m) = some (a.now + (32 * a.macBit m + 512 * r * a.macBit m))))) ∧
  (s.expire (.backoff m) = some u → (u.mac m).phase = 2 →
    Does (.backoffExpire m) s (fun t => (t.mac m).phase = 0 ∧ (t.mac m).slot = (u.mac m).slot ∧ t.now = u.now)) ∧
  (∀ t : MacTx, (s.mac m).slot = some t → (s.mac m).phase = 1 → s.macRuns m = true → (s.mac m).cols = 0 →
    isMcastAddr (t.onWire.take 6) = false → isBcastAddr (t.onWire.take 6) = false →
    u = s.advance ((s.mac m).start + (8 + t.onWire.length) * 8 * s.macBit m - s.now) →
    ∀ v : State, v = { u.setMac m { s.mac m with lastEnd := u.now } with wire := u.wire ++ [(macPort m, t.onWire)] } →
    exec (.macTxEnd m) s = .next ((((v.macCount m 0).macCount m 1 t.onWire.length).macStamp m t).macLeave m t 0).done) ∧
  (∀ t : MacTx, (s.mac m).slot = some t → (s.mac m).phase = 1 → s.macRuns m = false →
    ((s.mac m).flush = false → (s.mac m).waits s.now = false →
      exec (.macTxEnd m) s = .next (s.setMac m { s.mac m with phase := 0, lastEnd := s.now }).done) ∧
    ((s.mac m).flush = true → exec (.macTxEnd m) s = .next ((s.macCount m 9).macLeave m t 2).done))

/-- R314-R317, R322, R325-R327. `u` is the state at the instant at which the timer ends.

COMPLETES: exec i s = next t, for every state and operands that meet its conditions on them alone, for i = rampComplete,
limitOnset, pgAssert, driveRightLoss, parkTimeout, parkHandoff, pfwarnAssert, pfwarnRelease, measurement, limitEnd,
dieToDieLinkLoss, dieToDieLinkReturn. -/
def Obligations.FieldPowerStates : Prop := ∀ (s u : State) (c : Fin 16),
  (s.pwrRight = true → s.pst c = pcRamp → Does (.rampComplete c true) s (fun t => t.pst c = pcEnhance)) ∧
  (s.pwrRight = true → s.pst c = pcRamp ∨ s.pst c = pcEnhance → Does (.rampComplete c false) s (fun t => t.pst c = pcOn ∧
    (t.pch c).rampAt = s.now ∧ t.deadline (.ramp c) = none)) ∧
  (s.pwrUp = true → s.is F.PWR_CH_STAT_LIMITING c = false → (s.pchOn c = true ∨ s.pst c = pcParked) →
    Does (.limitOnset c) s (fun t => t.is F.PWR_CH_STAT_LIMITING c = true ∧ (t.pch c).ft = s.ftNow c ∧
      t.deadline (.ft c) = some (s.now + 1000 * (s.get F.PWR_CH_LIM_FT_US c - s.ftNow c)) ∧
      (s.ftNow c ≠ 0 → t.deadline (.pg c) = none ∧ t.is F.PWR_CH_STAT_PG c = s.is F.PWR_CH_STAT_PG c))) ∧
  (s.pwrUp = true → s.is F.PWR_CH_STAT_LIMITING c = true →
    Does (.limitEnd c) s (fun t => t.is F.PWR_CH_STAT_LIMITING c = false ∧ (t.pch c).ft = s.ftNow c ∧
      (t.pch c).ftAt = s.now ∧ t.deadline (.ft c) = none)) ∧
  (s.expire (.pg c) = some u → Does (.pgAssert c) s (fun t => t.is F.PWR_CH_STAT_PG c = true ∧ (t.pch c).pgAt = u.now ∧
    t.deadline (.retryReset c) = some (u.now + 60000000000))) ∧
  (s.pwrRight = false → s.pst c = pcOn → (s.pch c).handed = false →
    (s.is F.PWR_CH_CFG_HOLD_ON_RELEASE c = true → s.pwrHard = true → s.vinOk = true →
      Does (.driveRightLoss c) s (fun t => t.pst c = pcParked ∧
        t.deadline (.park c) = some (s.now + 1000 * s.get F.PWR_CFG_PARK_US))) ∧
    (s.is F.PWR_CH_CFG_HOLD_ON_RELEASE c = false ∨ s.pwrHard = false ∨ s.vinOk = false →
      Does (.driveRightLoss c) s (fun t => t.pst c = pcHeld ∧ t.is F.PWR_CH_STAT_PG c = false ∧
        t.deadline (.ft c) = none))) ∧
  (s.expire (.park c) = some u → u.pst c = pcParked → exec (.parkTimeout c) s = .next (u.gateOff c pcOff).pwrAfterPark.done) ∧
  (s.pst c = pcParked → (s.pch c).pairPark = true → s.is F.PAR_STAT_ILK_DRIVE = false → s.is F.PAR_STAT_ILK_LOW = true →
    exec (.parkHandoff c) s = .next ((s.gateOff c pcHeld).setPch c { (s.gateOff c pcHeld).pch c with
      handed := true }).pwrAfterPark.done) ∧
  ((u.gateOff c pcHeld).pst c = pcHeld ∧ (u.gateOff c pcOff).pst c = pcOff) ∧
  (s.pwrUp = true → s.is F.PWR_STAT_PFWARN = false →
    exec .pfwarnAssert s = .next ((s.put F.PWR_STAT_PFWARN 1).setLive 0x89).done) ∧
  (s.pwrUp = true → s.is F.PWR_STAT_PFWARN = true →
    exec .pfwarnRelease s = .next ((s.put F.PWR_STAT_PFWARN 0).clearLive 0x89).done) ∧
  (∀ m : Meas, s.pwrUp = true → s.tracking = false → s.is F.PWR_CH_STAT_OPEN_LOAD c = false → s.is F.PWR_CH_STAT_PG c = false →
    Does (.measurement c m) s (fun t => t.rd .pwrChMeas0 c = m.i ++ m.vout ∧ t.rd .pwrChMeas1 c = m.vgs ++ m.vin ∧
      t.get F.PWR_STAT_VIN = m.vin.toNat ∧
      t.get F.PWR_CH_MEAS2_T_MEAS c = (if s.get F.PWR_CH_CFG_TMP_MODE c = 0 then 0x8000 else m.tMeas.toNat) ∧
      (t.pch c).lowV = decide (m.vout.toInt < Int.ofNat m.vin.toNat - 150))) ∧
  (s.pwrUp = true → u = s.put F.PWR_STAT_LINK_OK 0 → exec .dieToDieLinkLoss s = .next (u.setLive 0x8A).done ∧
    u.is F.PWR_STAT_LINK_OK = false ∧ u.liveCore .mgtPtemp 0 0 = some 0x80008000) ∧
  (exec .dieToDieLinkReturn s = .next ((s.put F.PWR_STAT_LINK_OK 1).clearLive 0x8A).pwrSettle.done)

/-- R318, R319, R321, R325. `u` is the state at the instant at which the timer ends.

COMPLETES: exec i s = next t, for every state and operands that meet its conditions on them alone, for i =
faultTimerExpire, thermalUpdate, fetGateFail, fetStuckOn, rampTimeout, openLoad, vinOutOfRange, vinRestored,
retryExpire, retryCountReset. -/
def Obligations.FieldPowerFaults : Prop := ∀ (s u : State) (c : Fin 16),
  (s.expire (.ft c) = some u → exec (.faultTimerExpire c) s =
    .next (u.faultOff c (if (u.pch c).ftRamp then fcShort else fcOver) 1).pwrAfterPark.done) ∧
  (s.pwrUp = true → s.pst c = pcParked ∨ s.pchOn c = true ∧ s.pwrRight = true →
    exec (.fetGateFail c) s = .next (s.faultOff c fcGate 0).pwrAfterPark.done) ∧
  (s.expire (.ramp c) = some u → exec (.rampTimeout c) s = .next (u.faultOff c fcRamp 0).done) ∧
  (∀ (dT est : Int), s.pwrUp = true →
    dT = (s.pch c).dT + (s.heat c - (s.pch c).dT) / (10 * s.get F.PWR_CH_THERM0_TAU c : Nat) → est = s.tRef c + dT / 125000000 →
    u = (s.setPch c { s.pch c with dT := dT }).put F.PWR_CH_MEAS2_T_EST (BitVec.ofInt 16 est).toNat c →
    (est < 8 * (u.get F.PWR_CH_THERM1_TFET_MAX c : Int) → u.get F.PWR_CH_CFG_TMP_MODE c = 0 →
      exec (.thermalUpdate c) s = .next u.pwrAfterPark.done) ∧
    (8 * (u.get F.PWR_CH_THERM1_TFET_MAX c : Int) ≤ est → u.is F.PWR_CH_STAT_LIMITING c = false →
      exec (.thermalUpdate c) s = .next (u.faultOff c fcTemp 2).pwrAfterPark.done)) ∧
  (∀ code end_, s.tracking = false → s.pchOn c = true ∨ s.pst c = pcParked → s.paired = false →
    1 ≤ code ∧ code ≤ 9 → code ≠ fcOpen →
    (s.faultOff c code end_).get F.PWR_CH_FAULT_CODE c = code ∧ (s.faultOff c code end_).is F.PWR_CH_STAT_PG c = false ∧
    (code = fcVinUv ∨ code = fcVinOv → (s.faultOff c code end_).pst c = pcHeld) ∧
    (code = fcGate → (s.faultOff c code end_).pst c = pcLatched) ∧
    (code < fcVinUv → code ≠ fcGate → s.get F.PWR_CH_CFG_RETRY_MAX c ≤ s.get F.PWR_CH_FAULT_RETRY_CNT c →
      (s.faultOff c code end_).pst c = pcLatched) ∧
    (code < fcVinUv → code ≠ fcGate → s.get F.PWR_CH_FAULT_RETRY_CNT c < s.get F.PWR_CH_CFG_RETRY_MAX c →
      (s.faultOff c code end_).pst c = pcRetryWait ∧
      (s.faultOff c code end_).deadline (.retry c) = some (s.now + 10000000000))) ∧
  (s.pwrUp = true → s.pchOn c = false → s.pst c ≠ pcParked → (s.pch c).handed = false → s.tracking = false → exec (.fetStuckOn c) s =
    .next (((((s.put F.PWR_CH_STAT_CODE fcStuck c).setPst c pcLatched).disarm (.retry c)).channelOrder c 3 fcStuck).raise 0x84
      c).pwrAfterPark.done) ∧
  (s.pwrUp = true → s.pst c = pcOn → s.get F.PWR_CH_SNS_OPEN_MA c ≠ 0 → s.is F.PWR_CH_STAT_OPEN_LOAD c = false →
    exec (.openLoad c) s =
      .next (((s.put F.PWR_CH_STAT_OPEN_LOAD 1 c).put F.PWR_CH_STAT_CODE fcOpen c).setLive 0x86 c).done) ∧
  (s.expire (.retry c) = some u → u.pst c = pcRetryWait → u.tracking = false →
    (u.get F.PWR_CH_FAULT_CODE c ≠ fcTemp ∨ u.cool c = true → exec (.retryExpire c) s =
      .next ((((u.put F.PWR_CH_FAULT_RETRY_CNT (u.get F.PWR_CH_FAULT_RETRY_CNT c + 1) c).bump .pwrCnt c 2).startRamp
        c).channelOrder c 2 0).done) ∧
    (u.get F.PWR_CH_FAULT_CODE c = fcTemp → u.cool c = false →
      Does (.retryExpire c) s (fun t => t.pst c = pcRetryWait ∧ t.deadline (.retry c) = some (u.now + 10000)))) ∧
  (∀ ov, s.pwrUp = true → exec (.vinOutOfRange ov) s = .next ((List.range 16).foldl (fun s c => s.faultOff c
    (if ov then fcVinOv else fcVinUv) 0) (s.put (if ov then F.PWR_STAT_VIN_OV else F.PWR_STAT_VIN_UV) 1)).pwrAfterPark.done) ∧
  (s.pwrUp = true → exec .vinRestored s = .next ((List.range 16).foldl (fun s c => (s.clearLive 0x87 c).clearLive 0x88 c)
    ((s.put F.PWR_STAT_VIN_OV 0).put F.PWR_STAT_VIN_UV 0)).pwrSettle.done) ∧
  (s.expire (.retryReset c) = some u → Does (.retryCountReset c) s (fun t => t.get F.PWR_CH_FAULT_RETRY_CNT c = 0))

/-- R292, R295-R297, R300.

COMPLETES: exec i s = next t, for every state and operands that meet its conditions on them alone, for i =
windowWriteTlp, windowReadTlp, bar0Access, bar4Access. -/
def Obligations.HostBridgeWindows : Prop := ∀ (s u : State) (off : Nat),
  (∀ (ws : List Word) (beOk : Bool), s.pcieUp = true → s.tlpRoom = true → 1 ≤ ws.length → ws.length ≤ 64 →
    u = ((s.pfDropWin (winOf off)).nextOrder).2 →
    (∀ st, u.winLocal (winOf off) true beOk = some st → Does (.windowWriteTlp off ws beOk) s (fun t =>
      ∃ c : HbrCmd, c.write = true ∧ c.off = off ∧ c.frame.payload = ws ∧ t = u.elogCmd c st none false)) ∧
    (u.winLocal (winOf off) true beOk = none → u.is F.HBR_WIN_ATTR_POSTED (winOf off) = false →
      ∃ c : HbrCmd, c.write = true ∧ c.off = off ∧ c.frame = u.winFrame off (if ws.length = 1 then ocWrite else ocWriteBlock) ws ∧
        exec (.windowWriteTlp off ws beOk) s = .next (u.hbrQueue [c]).done) ∧
    (u.winLocal (winOf off) true beOk = none → u.is F.HBR_WIN_ATTR_POSTED (winOf off) = true →
      ∃ cs : List HbrCmd, cs.length = ws.length ∧
        (∀ i c, cs[i]? = some c → c.posted = true ∧ c.frame.opcode = ocWritePosted ∧ c.off = off + 4 * i ∧
          c.frame.payload = [ws.getD i 0]) ∧
        exec (.windowWriteTlp off ws beOk) s = .next (u.hbrQueue cs).done)) ∧
  (∀ (n id : Nat), s.pcieUp = true → s.tlpRoom = true → 1 ≤ n → n ≤ 256 → id = s.hbr.nextRead →
    ∀ v : State, v = State.setHbr (s.nextOrder.2.setHbr { s.nextOrder.2.hbr with nextRead := id + 1 })
        { (s.nextOrder.2.setHbr { s.nextOrder.2.hbr with nextRead := id + 1 }).hbr with
          reads := tset s.hbr.reads id { win := winOf off, n := n, off := off, left := 1 } } →
    (∀ st, v.winLocal (winOf off) false true = some st → Does (.windowReadTlp off n) s (fun t => ∃ c : HbrCmd,
      c.write = false ∧ c.off = off ∧ t = (v.elogCmd c st none false).readPart id 0 [] false)) ∧
    (v.winLocal (winOf off) false true = none → v.is F.HBR_WIN_ATTR_PREFETCH (winOf off) = false →
      u = v.arm (.readDeadline id) (3000 * v.get F.CTL_CMDTO_TIMEOUT_US) →
      exec (.windowReadTlp off n) s = .next (u.hbrQueue (u.readBlocks id off n s.nextOrder.1)).done)) ∧
  (∀ id n o, 1 ≤ n → n ≤ 256 → ∃ c, s.readBlocks id off n o = [c] ∧ c.n = n ∧ c.rd = some id ∧
    c.frame = if n = 1 then s.winFrame off ocRead [] else s.winFrame off ocReadBlock [BitVec.ofNat 32 n]) ∧
  (∀ id n o, (s.readBlocks id off n o).length = (n + 255) / 256 ∧
    ((s.readBlocks id off n o).map (fun c => c.n)).sum = n) ∧
  (∀ w : Option Word, s.pcieUp = true → off < 0x10000 →
    (off % 4 ≠ 0 → exec (.bar0Access off w true) s = .next (s.tlpBad w.isNone).done) ∧
    (exec (.bar0Access off w false) s = .next (s.tlpBad w.isNone).done) ∧
    (off % 4 = 0 → locate (0x700000 + off) = none → exec (.bar0Access off none true) s = .next (s.hostOut (.data 0)).done) ∧
    (∀ r i j, off % 4 = 0 → locate (0x700000 + off) = some (r, i, j) →
      exec (.bar0Access off none true) s = .next (s.hostOut (.data (s.readReg true r i j))).done ∧
      (∀ x, r ≠ .hbrKey → s.writeStatus true r i j x none = stOk →
        exec (.bar0Access off (some x) true) s = .next (s.writeReg true r i j x).done) ∧
      (∀ x, r = .hbrKey → Does (.bar0Access off (some x) true) s (fun t => t.rd .hbrKey i j = x)))) ∧
  (s.pcieUp = true → exec (.bar4Access off none true) s = .next (s.hostOut (.data (s.bar4Read off))).done ∧
    (∀ x, exec (.bar4Access off (some x) true) s = .next (s.bar4Write off x).done) ∧
    (∀ w, exec (.bar4Access off w false) s = .next (s.tlpBad w.isNone).done)) ∧
  (∀ x, off < 0x400 → off % 4 = 0 → (s.bar4Write off x).bar4Read off = x)

/-- R291, R298-R308. `u` is the state at the instant at which the timer ends.

COMPLETES: exec i s = next t, for every state and operands that meet its conditions on them alone, for i = hbrTxrTail,
hbrRxrTail, rxDeliver, intModerationExpire, ncRetryExpire, readDeadline, prefetchExpire, functionLevelReset, perstN,
pcieLinkDown, pcieLinkUp. -/
def Obligations.HostBridgeRings : Prop := ∀ (s u : State) (q : Fin 8),
  (∀ t ds, s.pcieUp = true → exec (.hbrTxrTail t ds) s = .next (s.txTail t ds).done) ∧
  (∀ t bs, s.pcieUp = true → t < 2 ^ 12 → Does (.hbrRxrTail q t bs) s (fun v => v.get F.HBR_RXR_TAIL_TAIL q = t ∧
    tget [] v.hbr.rx q = tget [] s.hbr.rx q ++ (if s.is F.HBR_RXR_CFG_ENABLE q then bs else []))) ∧
  (∀ (n : Nat) (l : Link) (v : VUnit), s.islandUp 19 = true → s.rxHead = some (n, l, v) → s.ueOf v = [] →
    u = (s.unlink n l.uid l.loupe).1.meetUnit v →
    (u.is F.HBR_STAT_LINK_UP = false → exec .rxDeliver s = .next (u.bump .hbrRxqDrop (s.rxQueue v l)).done) ∧
    (u.is F.HBR_STAT_LINK_UP = true → isPostedReply v l = false → u.isTrkReply v l = false → u.is F.HBR_RXR_CFG_ENABLE (s.rxQueue v l) = false →
      exec .rxDeliver s = .next (u.bump .hbrRxqDrop (s.rxQueue v l)).done) ∧
    (u.is F.HBR_STAT_LINK_UP = true → isPostedReply v l = false → u.isTrkReply v l = false → u.is F.HBR_RXR_CFG_ENABLE (s.rxQueue v l) = true →
      u.rxFree (s.rxQueue v l) ≠ 0 → v.frame.session = 0 →
      exec .rxDeliver s = .next (u.rxWrite (s.rxQueue v l) v l.loupe.isSome).done) ∧
    (u.is F.HBR_STAT_LINK_UP = true → isPostedReply v l = false → u.isTrkReply v l = true →
      exec .rxDeliver s = .next (u.trkReply v.frame v.authOk).done) ∧
    (u.is F.HBR_STAT_LINK_UP = true → isPostedReply v l = true → (u.postedReply v.frame).isTrkReply v l = true →
      exec .rxDeliver s = .next (u.postedReply v.frame).done)) ∧
  (s.expire (.intMod q) = some u →
    (q.val ∈ u.hbr.intWait → Does (.intModerationExpire q) s (fun t => q.val ∉ t.hbr.intWait ∧
      t.deadline (.intMod q) = some (u.now + 1000 * u.get F.HBR_RXR_CFG_INT_US q) ∧
      (u.msixMasked (8 + q) = false → t.hbr.out = u.hbr.out ++ [.msi (8 + q)]))) ∧
    (q.val ∉ u.hbr.intWait → exec (.intModerationExpire q) s = .next u.done)) ∧
  (∀ (tag : BitVec 9) (e : HbrTrk), s.expire (.ncRetry tag.toNat) = some u → tfind u.hbr.trk tag.toNat = some e →
    exec (.ncRetryExpire tag) s = .next ((((u.setHbr { u.hbr with
      trk := tset u.hbr.trk tag.toNat { e with retries := e.retries + 1, waits := true } }).bump .hbrCnt 5).emit e.cmd.frame 5 e.cmd.slot).done)) ∧
  (∀ (t : Nat) (e : HbrTrk), tfind s.hbr.trk t = some e → e.waits = true →
    (s.startTimeout t).deadline (.cmdTimeout 5 t) = some (s.now + 1000 * s.get F.CTL_CMDTO_TIMEOUT_US) ∧
    tfind (s.startTimeout t).hbr.trk t = some { e with waits := false, period := 1000 * s.get F.CTL_CMDTO_TIMEOUT_US }) ∧
  (∀ (id : Nat) (r : HbrRead), s.expire (.readDeadline id) = some u → tfind u.hbr.reads id = some r →
    (∀ c ∈ u.hbr.wait, c.rd ≠ some id) → (∀ e ∈ u.hbr.trk, e.2.cmd.rd ≠ some id) →
    Does (.readDeadline id) s (fun t => tfind t.hbr.reads id = none ∧
      (u.is F.HBR_WIN_ATTR_ERR_RESP r.win = true → t.hbr.out = u.hbr.out ++ [.abort id]) ∧
      (u.is F.HBR_WIN_ATTR_ERR_RESP r.win = false →
        t.hbr.out = u.hbr.out ++
          (split64 r.n r.off ((List.range r.n).map (fun i => tget 0xFFFFFFFF r.words i))).map (.completion id)))) ∧
  (∀ (i : Nat) (b : PfBuf), s.expire (.prefetch i) = some u → tfind u.hbr.pf i = some b →
    Does (.prefetchExpire i) s (fun t => tfind t.hbr.pf i = none ∧ t.rd .hbrCnt 3 = u.rd .hbrCnt 3 +
      BitVec.ofNat 32 (b.taken.filter (! ·)).length)) ∧
  (s.pcieUp = true → exec .functionLevelReset s = .next (s.islReset 19).done) ∧
  ((s.rd .islPwrStat).getLsbD 19 = true → (s.isl.rst.getLsbD 19 = true → s.isl.islRst.getLsbD 19 = true) →
    Does .perstN s (fun t => t.is F.CTL_RSTCAUSE_ISL = true ∧ t.rd .islRstCnt 19 = s.rd .islRstCnt 19 + 1 ∧
      t.isl.islRst.getLsbD 19 = true ∧ t.deadline (.islRelease 19) = some (s.now + 1000))) ∧
  (s.pcieUp = true → exec .pcieLinkDown s =
    .next ((((s.put F.HBR_STAT_LINK_UP 0).put F.HBR_STAT_SPEED 0).put F.HBR_STAT_WIDTH 0).raise 0x7C).done) ∧
  (∀ (sp : BitVec 3) (w : BitVec 2), s.islandUp 19 = true → Does (.pcieLinkUp sp w) s (fun t =>
    t.is F.HBR_STAT_LINK_UP = true ∧ t.get F.HBR_STAT_SPEED = sp.toNat ∧ t.get F.HBR_STAT_WIDTH = w.toNat))

/-- R333-R338, R344. `u` is the state in which the order has been taken.

COMPLETES: exec i s = next t, for every state and operands that meet its conditions on them alone, for i = order,
progress, channel, session, handover, digest. -/
def Obligations.PairOrders : Prop := ∀ (s u : State) (on : BitVec 16),
  (s.follows = true → s.pair.expect < 65536 →
    (on.toNat = s.pair.expect → (s.takeOrder on).2 = true ∧ (s.takeOrder on).1.pair.expect = (on.toNat + 1) % 65536 ∧
      (s.takeOrder on).1.get F.PAR_ORDER_ON = on.toNat ∧
      (s.takeOrder on).1.pair.out = s.pair.out ++ [(3, BitVec.ofNat 8 (on.toNat / 256), BitVec.ofNat 8 on.toNat)]) ∧
    (32768 ≤ (on.toNat + 65536 - s.pair.expect) % 65536 → (s.takeOrder on).2 = false ∧
      (s.takeOrder on).1 = s.orderSet 3 ((s.pair.expect + 65535) % 65536)) ∧
    (0 < (on.toNat + 65536 - s.pair.expect) % 65536 → (on.toNat + 65536 - s.pair.expect) % 65536 < 32768 →
      s.takeOrder on = (s.orderSet 4 s.pair.expect, false))) ∧
  (s.follows = false → s.takeOrder on = (s, false)) ∧
  (∀ (f : Frame) (g : Bool), s.laneUp 4 = true → f.malformed = false → (s.countOrder f g).rd .lnkCnt 4 0 = s.rd .lnkCnt 4 0 + 1 ∧
    (s.countOrder f g).rd .lnkCnt 4 2 = s.rd .lnkCnt 4 2 + (if g then 0 else 1) ∧
    (s.countOrder f g).rd .lnkCnt 4 4 = s.rd .lnkCnt 4 4) ∧
  (∀ (f : Frame) (c : State), c = s.countOrder f false → c.follows = true → f.malformed = false →
    exec (.order on f false) s = .next (c.orderSet 4 (c.pair.expect % 65536)).done) ∧
  (∀ (f : Frame) (c : State), c = s.countOrder f true → c.follows = true → f.malformed = false →
    (c.takeOrder on = (u, false) → exec (.order on f true) s = .next u.done) ∧
    (c.takeOrder on = (u, true) →
      (f.ftype = ftCommand → exec (.order on f true) s = .next ((u.pressFollow f).orderCommand f).done) ∧
      (f.ftype = ftReply → exec (.order on f true) s = .next ((u.orderReply f).seqFollow f).done) ∧
      (f.ftype = ftPortData ∨ f.ftype = ftEvent → exec (.order on f true) s = .next ((u.seqFollow f).cancelHeld f).done))) ∧
  (∀ f : Frame, (∀ e ∈ (u.cancelHeld f).pair.heldFrames, e.2.srcPort ≠ f.srcPort ∨ 2 ^ 31 ≤ (f.time - e.2.time).toNat) ∧
    ∀ e ∈ u.pair.heldFrames, e.2.srcPort ≠ f.srcPort → e ∈ (u.cancelHeld f).pair.heldFrames) ∧
  (s.takeOrder on = (u, true) → ∀ p : List Word,
    exec (.progress on p) s = .next (u.progressIn ((p.getD 1 0).bits 7 0) (BitVec.ofNat 16 ((p.getD 1 0).bits 31 16))).done ∧
    exec (.channel on p) s =
      .next (u.channelApply ((p.getD 1 0).bits 3 0) ((p.getD 1 0).bits 7 4) ((p.getD 1 0).bits 15 8)).done ∧
    (s.servesPair = false → exec (.digest on p) s = .next (u.digestOrder p).done)) ∧
  (s.servesPair = true → s.twinUp = true → ∀ p : List Word, exec (.digest on p) s = .next (s.digestBack p).done) ∧
  (s.takeOrder on = (u, true) → ∀ r : SessionOrder, r.ok = true →
    (r.opened = true → Does (.session on r) s (fun t =>
      t.cmd.sessions = u.cmd.sessions.filter (fun x => !(x.pair && x.num == r.sess.num)) ++
        [{ r.sess with pair := true, lastAccept := u.now }])) ∧
    (r.opened = false → Does (.session on r) s (fun t =>
      t.cmd.sessions = u.cmd.sessions.filter (fun x => !(x.pair && x.num == r.sess.num)) ∧
      t.deadline (.sessIdle r.sess.num.toNat) = none ∧ t.deadline (.sessUnused r.sess.num.toNat) = none))) ∧
  (s.takeOrder on = (u, true) → ∀ v : State, v = { u with pair := { u.pair with claim := 3 } } →
    (v.is F.PAR_STAT_ILK_LOW = false → v.fit = true → exec (.handover on) s = .next v.claimDrive.done) ∧
    (v.is F.PAR_STAT_ILK_LOW = true → exec (.handover on) s = .next v.done))

/-- R331, R332, R337, R339-R341, R345. `u` is the state at the instant at which the timer ends.

COMPLETES: exec i s = next t, for every state and operands that meet its conditions on them alone, for i = heartbeat,
heartbeatSend, hbInEdge, heartbeatSilent, claimWaitExpire, claimCheck, ilkChange, pairWaitExpire, fitnessLoss,
pinPathWaitExpire. -/
def Obligations.PairHeartbeatsAndClaims : Prop := ∀ (s u : State),
  (∀ d2 d3 : BitVec 8, s.pairs = true → s.twinUp = true → s.parSt = psActive →
    Does (.heartbeat d2 d3) s (fun t => t.is F.PAR_STAT_TWIN_HB = true ∧
      t.pair.twinFault = d2.getLsbD 4 ∧ t.get F.PAR_PARTNER_STATE = d2.toNat / 32 ∧
      t.get F.PAR_PARTNER_MODE = d3.toNat % 8 ∧ t.deadline .hbTwin = some (s.now + 8000) ∧ t.parSt = psActive)) ∧
  (∀ i : Nat, s.pairs = true → s.parSt = psActive → Does (.hbInEdge i) s (fun t => t.is F.PAR_STAT_PIN_HB = true ∧
      t.pair.fastRun = (if i < 500 then s.pair.fastRun + 1 else 0) ∧ t.pair.pinFault = decide (4 ≤ t.pair.fastRun) ∧
      t.deadline .hbPin = some (s.now + 8000))) ∧
  (s.expire .hbSend = some u → u.parSt ≠ psStandalone → u.fit = true → Does .heartbeatSend s (fun t =>
      t.pair.hbOut = !u.pair.hbOut ∧ t.deadline .hbSend = some (u.now + if u.faultReport then 250 else 1000) ∧
      (u.faultReport = false → t.pair.beat = u.pair.beat + 1) ∧
      (u.faultReport = false → u.twinUp = true → ∃ d2 d3 rest, t.pair.out = u.pair.out ++ (1, d2, d3) :: rest) ∧
      (u.faultReport = true → u.pair.quarter ≠ 0 → t.pair.beat = u.pair.beat) ∧ (u.twinUp = false → t.pair.out = u.pair.out))) ∧
  (∀ pin : Bool, s.silence pin = some u → exec (.heartbeatSilent pin) s = .next (u.pathLost pin).done) ∧
  (∀ pin : Bool, u.pairs = true → u.parSt = psActive → u.pair.handover = none → u.pathSilent (!pin) = true → (u.pathLost pin).parSt = psActiveAlone) ∧
  (∀ pin : Bool, u.pairs = true → u.parSt = psActive → u.pair.handover = none → u.pathSilent (!pin) = false →
    u.pathFault (!pin) = false → (u.pathLost pin).parSt = psActive ∧
    (u.pathLost pin).rd .parCnt 6 = u.rd .parCnt 6 + 1) ∧
  (∀ c : Nat, 1 ≤ c → c ≤ 2 → u.parSt = psShadow → u.is F.PAR_STAT_ILK_LOW = false →
    (u.declare c).parSt = psClaiming ∧ (u.declare c).pair.claim = c ∧
    (u.declare c).deadline .claimWait = some (u.now + if u.is F.PAR_CFG_PAIR_ID then 8000 else 4000)) ∧
  (s.expire .pinWait = some u → u.parSt = psShadow → u.is F.PAR_STAT_TWIN_HB = false → u.is F.PAR_STAT_PIN_HB = true →
    (u.pair.pinFault = true → exec .pinPathWaitExpire s = .next (u.declare 2).done) ∧
    (u.pair.pinFault = false → exec .pinPathWaitExpire s = .next (u.enterOos false).done)) ∧
  (s.expire .claimWait = some u → u.pair.claim ≠ 0 → u.fit = true →
    (u.is F.PAR_STAT_ILK_LOW = true → exec .claimWaitExpire s = .next u.claimAbort.done) ∧
    (u.is F.PAR_STAT_ILK_LOW = false → exec .claimWaitExpire s = .next ((u.driveIlk true).arm .claimCheck 1000).done)) ∧
  (s.expire .claimCheck = some u → u.pair.claim ≠ 0 →
    (u.is F.PAR_STAT_ILK_LOW = true → exec .claimCheck s = .next u.claimWon.done) ∧
    (u.is F.PAR_STAT_ILK_LOW = false → exec .claimCheck s = .next (((u.driveIlk false).enterOos true).raise 0x94).done)) ∧
  (s.paired = true → s.is F.PAR_STAT_ILK_LOW = false → u = (s.put F.PAR_STAT_ILK_LOW 1).settleOutputs →
    (u.pair.claim = 0 → exec (.ilkChange true) s = .next u.done) ∧
    (u.pair.claim ≠ 0 → u.is F.PAR_STAT_ILK_DRIVE = true → exec (.ilkChange true) s = .next u.claimWon.done) ∧
    (u.pair.claim ≠ 0 → u.pair.claim ≠ 3 → u.is F.PAR_STAT_ILK_DRIVE = false →
      exec (.ilkChange true) s = .next u.claimAbort.done)) ∧
  (s.paired = true → s.is F.PAR_STAT_ILK_LOW = true → u = (s.put F.PAR_STAT_ILK_LOW 0).settleOutputs →
    u.pair.claim = 3 → u.is F.PAR_STAT_ILK_DRIVE = false → u.fit = true → exec (.ilkChange false) s = .next u.claimDrive.done) ∧
  (s.expire .pairWait = some u → u.parSt = psPairing → u.pair.claim = 0 → u.pair.join = none → u.is F.PAR_STAT_ILK_LOW = false →
    Does .pairWaitExpire s (fun t => t.pair.claim = 5 ∧ t.deadline .claimWait = some (u.now +
      ((if u.is F.PAR_CFG_PAIR_ID then 8000 else 4000) + 512 * ((u.rd .ctlUid 0).toNat % 64))))) ∧
  (s.fit = false → s.is F.PAR_STAT_ILK_DRIVE = false → Does .fitnessLoss s (fun t => t.pair.claim = 0 ∧
    t.deadline .hbSend = none ∧ t.deadline .claimWait = none ∧ t.deadline .claimCheck = none ∧ t.deadline .joinSend = none)) ∧
  (s.fit = false → exec .fitnessLoss s = .next (State.driveIlk
    { (((s.disarm .hbSend).disarm .claimWait).disarm .claimCheck).disarm .joinSend with pair := { s.pair with claim := 0 } }
    false).done)

/-- R333-R338, R345, R346. `u` is the state at the instant at which the timer ends.

COMPLETES: exec i s = next t, for every state and operands that meet its conditions on them alone, for i = sync, join,
joinSend, digestSend, ack, nak, ackTimeout, orderBacklogFull, transferTimeout, holdExpire. -/
def Obligations.PairTransfers : Prop := ∀ (s u : State),
  (∀ on : BitVec 16, s.paired = true → s.twinUp = true → s.pair.handover = none → s.pair.waiting = [] →
    (s.pair.unacked.filter (fun e => decide (32768 ≤ (on.toNat + 65536 - e.1) % 65536))).length ≠ s.pair.unacked.length →
    Does (.ack on) s (fun t =>
      t.pair.unacked = s.pair.unacked.filter (fun e => decide (32768 ≤ (on.toNat + 65536 - e.1) % 65536)) ∧
      (t.pair.unacked = [] → t.deadline .ack = none) ∧ (t.pair.unacked ≠ [] → t.deadline .ack = some (s.now + 10000)) ∧
      (t.pair.unacked.length < 512 → t.deadline .backlog = none))) ∧
  (∀ on : BitVec 16, s.paired = true → s.twinUp = true → s.pair.unacked ≠ [] →
    exec (.nak on) s = .next (s.resendOrders on.toNat).done) ∧
  (∀ n : Nat, (s.resendOrders n).pair.unacked = s.pair.unacked ∧
    (s.resendOrders n).rd .parCnt 4 = s.rd .parCnt 4 +
      BitVec.ofNat 32 (s.pair.unacked.filter (fun e => decide ((e.1 + 65536 - n) % 65536 < 32768))).length) ∧
  (∀ e rest, s.expire .ack = some u → u.pair.unacked = e :: rest → u.twinUp = true →
    exec .ackTimeout s = .next (u.resendOrders e.1).done) ∧
  (s.expire .backlog = some u → u.servesPair = true → u.twinUp = true → 512 ≤ u.pair.unacked.length →
    Does .orderBacklogFull s (fun t => t.pair.syncing = true ∧ t.pair.unacked = [] ∧
      t.deadline .transfer = some (u.now + 50000000))) ∧
  (∀ d, s.deadline .digestSend = some d → u = s.advance (d - s.now) → u.streaming = true →
    Does .digestSend s (fun t => t.deadline .digestSend = some (u.now + 100000))) ∧
  (∀ d, s.deadline .digestSend = some d → u = s.advance (d - s.now) → u.streaming = false →
    Does .digestSend s (fun t => t.deadline .digestSend = none ∧ t.sent = s.sent)) ∧
  (s.expire .joinSend = some u → u.fit = true → u.twinUp = true → u.parSt = psShadowSync → u.pair.synced = false →
    Does .joinSend s (fun t => t.pair.joinSent = true ∧ t.deadline .joinSend = some (u.now + 1000000) ∧
      ∃ f, t.sent = u.sent ++ [{ port := 4, frame := f, rind := rindGood }])) ∧
  (∀ (p : List Word) (j : JoinRec), s.pairs = true → s.twinUp = true → s.is F.PAR_STAT_NO_PAIR = false →
    s.parSt = psPairing →
    j = { node := BitVec.ofNat 24 (s.get F.PAR_PARTNER_NODE), pairAddr := (p.getD 1 0).setWidth 24
          pairId := (p.getD 1 0).getLsbD 24, state := (p.getD 1 0).bits 27 25, compat := p.getD 2 0, cfg := p.getD 3 0 } →
    (s.joinCheck j ≠ 0 → exec (.join p) s = .next (State.setPair (State.driveIlk (State.disarm
      { (s.put F.PAR_STAT_REJECT (s.joinCheck j)).raise 0x96 with
        pair := { ((s.put F.PAR_STAT_REJECT (s.joinCheck j)).raise 0x96).pair with claim := 0 } } .claimWait) false)
        psStandalone).done) ∧
    (s.joinCheck j = 0 → s.is F.PAR_STAT_ILK_LOW = true → exec (.join p) s =
      .next (State.enterSync (State.disarm { s with pair := { s.pair with join := some j } } .pairWait)).done) ∧
    (s.joinCheck j = 0 → s.is F.PAR_STAT_ILK_LOW = false → s.pair.joinSent = true → s.pair.claim = 0 → exec (.join p) s =
      .next (State.startClaim (State.disarm { s with pair := { s.pair with join := some j } } .pairWait) 4).done)) ∧
  (∀ j : JoinRec, (s.joinCheck j = 0 ↔ j.pairAddr = s.pairNode ∧ j.pairId ≠ s.is F.PAR_CFG_PAIR_ID ∧ j.compat = s.compatCrc ∧
    j.cfg = s.crcCfg)) ∧
  (∀ r : SyncRecord, s.pairs = true → s.twinUp = true → s.fit = true → s.parSt = psShadowSync → r.ok = true →
    Does (.sync r) s (fun t => t.pair.synced = true ∧ t.pair.expect = r.next.toNat ∧ t.deadline .joinSend = none)) ∧
  (∀ r : SyncRecord, s.pairs = true → s.twinUp = true → s.fit = true → s.parSt = psShadowSync → r.ok = false →
    exec (.sync r) s = .next s.digestMiss.transferFailed.done) ∧
  (s.expire .transfer = some u → u.pair.syncing = true ∨ u.parSt = psShadowSync →
    exec .transferTimeout s = .next u.transferFailed.done) ∧
  (∀ e rest, s.pair.heldFrames = e :: rest → Does .holdExpire s (fun t => t.pair.heldFrames = rest ∧
    t.now = s.now + (e.1 - s.now) ∧ t.rd .parCnt 8 = s.rd .parCnt 8 + 1))

/-- R349, R350, R354, R355, R363, R364, R366. `u` is the state at the instant at which the watchdog ends.

COMPLETES: exec i s = next t, for every state and operands that meet its conditions on them alone, for i =
lockstepMismatch, llRequest, localWdg, kick, wdgExpire, sramScrub. -/
def Obligations.ManagementCores : Prop := ∀ (s u : State),
  (∀ g : Fin 12, s.mgtUp = true → s.is F.MGT_STAT_LOCKSTEP = true →
    Does (.lockstepMismatch g) s (fun t =>
      t = (({ s with mgt := { s.mgt with halted := true } } : State).put F.MGT_LS_STAT_LAST_GROUP g).raise 0x10 ∧
      t.mgt.halted = true ∧ t.get F.MGT_LS_STAT_LAST_GROUP = g.val ∧ t.mgtUp = false)) ∧
  (∀ f g : Frame, ∀ c : Cmd, g = { f with ftype := ftCommand, dstPort := 0xFF, srcNode := s.ownNode, srcPort := 122,
                                          session := 0, gcm := [] } →
    c = { frame := g, via := .localLogic } → s.hears c = true → g.malformed = false → f.tag.toNat ≤ 15 → s.llOutstanding < 16 →
    ∀ v : State, v = (s.putSlot llRequests (s.get F.MGT_LL_MBOX_REQ_TAIL) f).put F.MGT_LL_MBOX_RSP_HEAD
      (s.get F.MGT_LL_MBOX_RSP_TAIL) →
    u = (v.put F.MGT_LL_MBOX_REQ_TAIL (s.get F.MGT_LL_MBOX_REQ_TAIL + 1)).put F.MGT_LL_MBOX_REQ_HEAD
      (s.get F.MGT_LL_MBOX_REQ_HEAD + 1) →
    exec (.llRequest f) s = .next (u.serve f.opcode c).done ∧
    u.get F.MGT_LL_MBOX_REQ_TAIL = (s.get F.MGT_LL_MBOX_REQ_TAIL + 1) % 256 ∧
    u.get F.MGT_LL_MBOX_REQ_HEAD = (s.get F.MGT_LL_MBOX_REQ_HEAD + 1) % 256) ∧
  (s.is F.MGT_LL_STAT_RUNNING = true →
    exec .localWdg s = .next ((s.sat F.MGT_LL_STAT_LL_RESTARTS).raise 0x17).done ∧
    (s.get F.MGT_LL_STAT_LL_RESTARTS < 2 ^ 16 - 1 →
      (s.sat F.MGT_LL_STAT_LL_RESTARTS).get F.MGT_LL_STAT_LL_RESTARTS = s.get F.MGT_LL_STAT_LL_RESTARTS + 1)) ∧
  (s.mgtUp = true → s.boot.switch = none →
    Does (.kick 0xC35A) s (fun t => t.deadline .wdg = some (s.now + 1000000)) ∧
    ∀ v : BitVec 16, v ≠ 0xC35A → exec (.kick v) s = .next (s.wdgReset none).done) ∧
  (s.expire .wdg = some u → u.mode ≠ .sleep → u.boot.held = false → ∀ p : Option (Fin 21),
    exec (.wdgExpire p) s = .next (u.wdgReset (p.map (·.val))).done) ∧
  (∀ p : Option (Fin 21), ∃ w : Word, s.wdgReset (p.map (·.val)) = (s.wr .mgtWdgInfo 0 0 w).chipReset .wdg ∧
    w.getLsbD 31 = true ∧ w.getLsbD 15 = p.isSome ∧ w.bits 20 16 = (p.map (·.val)).getD 0) ∧
  (∀ core : Bool, s.isl.rst.getLsbD 8 = false → s.mode ≠ .sleep →
    exec (.sramScrub .clean core) s = .next s.done ∧
    Does (.sramScrub .corrected1 core) s (fun t => t.rd .mgtCnt 4 = s.rd .mgtCnt 4 + 1) ∧
    Does (.sramScrub .corrected2 core) s (fun t => t.rd .mgtCnt 4 = s.rd .mgtCnt 4 + 1) ∧
    exec (.sramScrub .uncorrectable core) s = .next ((s.bump .mgtCnt 5).raise (if core then 0x12 else 0x13)).done)

/-- R356, R360.

COMPLETES: exec i s = next t, for every state and operands that meet its conditions on them alone, for i = sensorRead,
logMirror. -/
def Obligations.SensorsAndLog : Prop := ∀ (s : State),
  (∀ (k : Fin 8) (x : BitVec 16), s.mgtUp = true →
    exec (.sensorRead (.coreTemp k x)) s = .next (((s.put (if k.val % 2 = 1 then F.MGT_TEMP_T_HI else F.MGT_TEMP_T_LO) x.toNat
      (k.val / 2)).tempCheck k.val).updateAlive).done ∧
    (s.put (if k.val % 2 = 1 then F.MGT_TEMP_T_HI else F.MGT_TEMP_T_LO) x.toNat (k.val / 2)).tempOf k.val = some x.toInt) ∧
  (∀ (k : Fin 2) (x : BitVec 16) (v : State),
    v = { s with isl := { s.isl with ptemp := s.isl.ptemp.setBits (16 * k.val + 15) (16 * k.val) x.toNat } } →
    (s.mgtUp = false → exec (.sensorRead (.powerTemp k x)) s = .next v.done) ∧
    (s.mgtUp = true → s.is F.PWR_STAT_LINK_OK = true →
      exec (.sensorRead (.powerTemp k x)) s = .next (((v.put (if k.val = 1 then F.MGT_PTEMP_T1 else F.MGT_PTEMP_T0)
        x.toNat).tempCheck (8 + k.val)).updateAlive).done)) ∧
  (∀ (k : Fin 2) (x : BitVec 16), s.is F.PWR_STAT_LINK_OK = true →
    (s.put (if k.val = 1 then F.MGT_PTEMP_T1 else F.MGT_PTEMP_T0) x.toNat).tempOf (8 + k.val) = some x.toInt) ∧
  (∀ (k : Fin 14) (mv : BitVec 16) (out : Bool), s.mgtUp = true →
    ∀ v : State, v = s.put (if k.val % 2 = 1 then F.MGT_SUP_V_HI else F.MGT_SUP_V_LO) mv.toNat (k.val / 2) →
    (6 ≤ k.val → exec (.sensorRead (.supply k mv out)) s = .next v.updateAlive.done) ∧
    (k.val < 6 → out = true → exec (.sensorRead (.supply k mv out)) s = .next (v.setLive 0x16 k.val).updateAlive.done) ∧
    (k.val < 6 → out = false → exec (.sensorRead (.supply k mv out)) s = .next (v.clearLive 0x16 k.val).updateAlive.done)) ∧
  (∀ (k src limit : Nat) (crit : Bool) (x : Int), k < 10 → s.tempOf k = some x → src = 0x14 ∨ src = 0x15 →
    (8 * (limit : Int) ≤ x → s.tempLimit k src limit crit = (s.setLive src k).disarm (.tempClear crit)) ∧
    (8 * (limit : Int) - 40 < x → x < 8 * (limit : Int) → s.tempLimit k src limit crit = s.disarm (.tempClear crit)) ∧
    (s.is F.FLT_SRC_STAT_LIVE src = true → (∀ i < 10, ∀ y, s.tempOf i = some y → y ≤ 8 * (limit : Int) - 40) →
      (s.deadline (.tempClear crit) = none → s.tempLimit k src limit crit = s.arm (.tempClear crit) 1000000000) ∧
      (∀ d, s.deadline (.tempClear crit) = some d → s.now < d → s.tempLimit k src limit crit = s) ∧
      (∀ d, s.deadline (.tempClear crit) = some d → d ≤ s.now →
        ∀ i < 10, (s.tempLimit k src limit crit).isLive src i = false))) ∧
  (s.mgtUp = true → s.logBacklog ≠ 0 →
    (s.mgt.gapRun = 0 ∨ s.mirrorOne.mgt.gapRun ≠ s.mgt.gapRun → exec .logMirror s = .next s.mirrorOne.done) ∧
    (s.mgt.gapRun ≠ 0 → s.mirrorOne.mgt.gapRun = s.mgt.gapRun → exec .logMirror s =
      .next (State.log { s.mirrorOne with mgt := { s.mirrorOne.mgt with gapRun := 0 } } false 0 0 0 evLogGap {}
        [BitVec.ofNat 32 s.mgt.gapRun]).done)) ∧
  (∀ r, nextToMirror s.mgt.ramLog = some r →
    ((∃ e ∈ s.mgt.ramLog, e.2 = false ∧ e.1.audit = true) → r.audit = true) ∧
    (s.skipRecord r = true → s.mirrorOne.mgt.flashLog = s.mgt.flashLog ∧
      s.mirrorOne.mgt.gapRun = s.mgt.gapRun + 1 ∧ s.mirrorOne.rd .mgtCnt 6 = s.rd .mgtCnt 6 + 1) ∧
    (s.skipRecord r = false → s.mgt.flashLog.length < 4096 → s.mirrorOne.mgt.flashLog = s.mgt.flashLog ++ [r]) ∧
    (s.skipRecord r = false → s.mgt.flashLog.length = 4096 → s.mirrorOne.mgt.flashLog = s.mgt.flashLog.drop 64 ++ [r]))

/-- R368, R369, R373, R375, R383, R393, R394. `u` is the state after a raise, or at the end of a grace time.

COMPLETES: exec i s = next t, for every state and operands that meet its conditions on them alone, for i = sourceRaise,
graceExpire, collectorCheck. -/
def Obligations.FaultSources : Prop := ∀ (s u : State) (src : BitVec 8) (inst : BitVec 6) (n i : Nat),
  n = src.toNat → i = inst.toNat →
  (s.canRaise n i = true → s.get F.FLT_EVT_DEST_NODE = 0 → u = s.raise n i →
    u.is F.FLT_SRC_STAT_LATCHED n = true ∧ u.is F.FLT_SRC_STAT_ACKED n = false ∧ u.rd .fltCnt 0 = s.rd .fltCnt 0 + 1 ∧
    (u.rd (if i < 32 then .fltSrcInst0 else .fltSrcInst1) n).getLsbD (i % 32) = true ∧
    (s.srcClass n = 5 → n ∈ u.flt.due) ∧
    (s.srcClass n = 4 → s.is F.FLT_SRC_STAT_PENDING n = false → s.get F.FLT_SRC_CFG_GRACE n = 0 → n ∈ u.flt.due) ∧
    (s.srcClass n = 4 → s.is F.FLT_SRC_STAT_PENDING n = false → s.get F.FLT_SRC_CFG_GRACE n ≠ 0 →
      u.is F.FLT_SRC_STAT_PENDING n = true ∧
      u.deadline (.grace n) = some (s.now + 100000 * s.get F.FLT_SRC_CFG_GRACE n)) ∧
    (s.srcClass n = 4 → s.is F.FLT_SRC_STAT_PENDING n = true →
      u.deadline (.grace n) = s.deadline (.grace n) ∧ u.flt.due = s.flt.due) ∧
    (s.srcClass n < 4 → u.flt.due = s.flt.due)) ∧
  (s.isLive n i = true → s.setLive n i = s) ∧
  (s.canRaise n i = false → s.raise n i = s ∧ s.setLive n i = s ∧
    exec (.sourceRaise src inst .rise) s = .next s.collectorDone ∧
    exec (.sourceRaise src inst .pulse) s = .next s.collectorDone) ∧
  (exec (.sourceRaise src inst .fall) s = .next (s.clearLive n i).updateAlive.collectorDone ∧
    (s.clearLive n i).isLive n i = false ∧ ∀ j, j ≠ i → (s.clearLive n i).isLive n j = s.isLive n j) ∧
  (s.canRaise n i = true → homeIsland n i = none →
    exec (.sourceRaise src inst .rise) s = .next (s.setLive n i).collectorDone ∧
    exec (.sourceRaise src inst .pulse) s = .next (s.raise n i).collectorDone) ∧
  (∀ (k : Nat) (v : State), s.canRaise n i = true → homeIsland n i = some k →
    v = (if n = 0x63 then s.stopEngine i scParity else s) →
    (tget 0 v.isl.cdc (21 * k) < 16 → u = { v with isl := { v.isl with cdc := tset v.isl.cdc (21 * k)
                                                                             (tget 0 v.isl.cdc (21 * k) + 1) } } →
      exec (.sourceRaise src inst .rise) s = .next (u.setLive n i).collectorDone ∧
      exec (.sourceRaise src inst .pulse) s = .next (u.raise n i).collectorDone) ∧
    (16 ≤ tget 0 v.isl.cdc (21 * k) → ∀ e, e = Edge.rise ∨ e = Edge.pulse →
      exec (.sourceRaise src inst e) s = .next ((v.bump .cdcOverrunCnt k).raise 0x20 k).collectorDone)) ∧
  (∀ place bits, exec (.sourceRaise src inst (.upset place bits)) s = .next (s.upset n i place bits).collectorDone) ∧
  (s.expire (.grace n) = some u → ∃ t : State, exec (.graceExpire src) s = .next t.collectorDone ∧
    t.is F.FLT_SRC_STAT_PENDING n = false ∧ t.flt.due = u.flt.due ++ [n]) ∧
  (s.boot.powered = true → exec .collectorCheck s = .next ((s.put F.FLT_CHK_MISMATCH 1).raise 1).done)

/-- R84, R374-R376, R379, R383-R385, R484. `u` is the state at the end of a timer.

COMPLETES: exec i s = next t, for every state and operands that meet its conditions on them alone, for i =
reactionComplete, faultNPulseEnd, aliveToggle. -/
def Obligations.FaultReactions : Prop := ∀ (s u : State) (a b r : Nat),
  (a ≠ b → s.flt.due = [a, b] → u = { s with flt := { s.flt with due := [] } } →
    (s.srcReaction b < s.srcReaction a → s.settle = (u.reactedOnly b true).reactBy (s.srcReaction a) [a]) ∧
    (s.srcReaction a < s.srcReaction b → s.settle = (u.reactedOnly a true).reactBy (s.srcReaction b) [b]) ∧
    (s.srcReaction a = s.srcReaction b → s.srcReaction a ≠ 0 → s.settle = u.reactBy (s.srcReaction a) [a, b])) ∧
  (s.flt.due = [] → s.settle = s) ∧
  (∀ srcs : List Nat, s.mode = .commission ∨ s.mode = .run → s.checkFail = false → s.flt.reacting = none →
    s.reactBy 4 srcs = (s.reactTaken srcs 4).chipReset .cmd ∧
    s.reactBy 2 srcs = s.reactSafe srcs ∧ s.reactBy 1 srcs = s.reactIsland srcs ∧
    (s.canHandOver = true → s.reactBy 3 srcs = State.updateAlive
      ((State.reactTaken { s with flt := { s.flt with reacting := some (.handover, 0) } } srcs 3).startHandover none)) ∧
    (s.canHandOver = false → s.parSt < psShadowSync → s.reactBy 3 srcs = s.reactSafe srcs)) ∧
  (∀ srcs : List Nat, s.mode = .safe → s.reactBy 2 srcs = srcs.foldl (fun s n => s.reactedOnly n true) s) ∧
  (∀ srcs : List Nat, s.mode = .commission ∨ s.mode = .run → s.checkFail = true → 1 ∉ srcs → r ≠ 4 →
    s.reactBy r srcs = srcs.foldl (fun s n => s.reactedOnly n true) s) ∧
  (a < b → b < 256 → 1 ≤ r → r ≤ 4 → s.get F.FLT_EVT_DEST_NODE = 0 → u = s.reactTaken [b, a] r →
    u.rd .fltCnt 1 = s.rd .fltCnt 1 + 1 ∧ u.get F.FLT_LASTREACT_SOURCE = a ∧ u.get F.FLT_LASTREACT_REACTION = r ∧
    u.is F.FLT_LASTREACT_VALID = true ∧ u.is F.FLT_SRC_STAT_REACTED a = true ∧ u.is F.FLT_SRC_STAT_REACTED b = true ∧
    u.rd .fltCnt 2 = s.rd .fltCnt 2) ∧
  (a ≠ 1 → a < 256 → (s.deadline (.grace a)).any (fun d => decide (d / 40 ≤ s.now / 40)) = false → ∀ d j,
    tfind s.flt.lastRaise a = some (d, j) → s.thisAonClock d = true →
    s.is F.FLT_SRC_STAT_LATCHED a = true ∨ s.is F.FLT_SRC_STAT_PENDING a = true →
    s.faultAck a true = s.clearInst a (tget 0 s.flt.live a ||| 1#64 <<< j)) ∧
  (a ≠ 1 → (s.deadline (.grace a)).any (fun d => decide (d / 40 ≤ s.now / 40)) = false →
    s.is F.FLT_SRC_STAT_LATCHED a = false → s.is F.FLT_SRC_STAT_PENDING a = false →
    ∀ clear : Bool, s.faultAck a clear = s) ∧
  (a ≠ 1 → a < 256 → s.is F.FLT_SRC_STAT_LATCHED a = true → s.get F.FLT_EVT_DEST_NODE = 0 →
    (s.deadline (.grace a)).any (fun d => decide (d / 40 ≤ s.now / 40)) = false →
    (∀ e, tfind s.flt.lastRaise a = some e → s.thisAonClock e.1 = false) → ∀ clear : Bool,
    (s.faultAck a clear).is F.FLT_SRC_STAT_ACKED a = true ∧ (s.faultAck a clear).is F.FLT_SRC_STAT_PENDING a = false ∧
    (s.faultAck a clear).deadline (.grace a) = none ∧
    (clear = false ∨ tget 0 s.flt.live a ≠ 0 → (s.faultAck a clear).is F.FLT_SRC_STAT_LATCHED a = true) ∧
    (clear = true → tget 0 s.flt.live a = 0 → (s.faultAck a clear).is F.FLT_SRC_STAT_LATCHED a = false ∧
      (s.faultAck a clear).rd .fltSrcInst0 a = 0 ∧ (s.faultAck a clear).rd .fltSrcInst1 a = 0)) ∧
  (∀ k m, s.flt.reacting = some (k, m) → k ≠ .handover ∨ s.pair.handover = none →
    ((∀ i < 21, m.getLsbD i = true → s.islandUp i = true) →
      Does .reactionComplete s (fun t => t.flt.reacting = none)) ∧
    ((∃ i < 21, m.getLsbD i = true ∧ s.islandUp i = false) →
      Does .reactionComplete s (fun t => t.flt.reacting = some (.islandReset, m) ∧ t.flt.alive = false))) ∧
  (s.expire .pulse = some u →
    (u.flt.pulse = .low → Does .faultNPulseEnd s (fun t => t.flt.pulse = .gap ∧ t.deadline .pulse = some (u.now + 10000))) ∧
    (u.flt.pulse = .gap → u.flt.pulseQueued = false → Does .faultNPulseEnd s (fun t => t.flt.pulse = .idle)) ∧
    (u.flt.pulse = .gap → u.flt.pulseQueued = true → u.is F.FLT_CFG_FAULTN_EN = true →
      Does .faultNPulseEnd s (fun t => t.flt.pulse = .low ∧ t.flt.pulseQueued = false ∧
        ∃ d, t.deadline .pulse = some (u.now + d) ∧ 10000 ≤ d ∧ d ≤ 12000))) ∧
  (s.expire .alive = some u →
    (u.aliveOk = true → Does .aliveToggle s (fun t => t.flt.alive = !u.flt.alive ∧
      t.deadline .alive = some (u.now + 1000000))) ∧
    (u.aliveOk = false → Does .aliveToggle s (fun t => t.flt.alive = false ∧ t.deadline .alive = none)))

/-- R389-R391, R394, R397, R398, R401, R405. `u` is the state at which the timer ends.

COMPLETES: exec i s = next t, for every state and operands that meet its conditions on them alone, for i =
islandPowerUp, clockStop, clockResume, islandResetRelease, resyncToken, handshakeEnd. -/
def Obligations.IslandClocksAndResets : Prop := ∀ (s u : State) (i : Fin 21),
  (i.val ≠ 0 → (s.rd .islClkOk).getLsbD i = true → u = s.wr .islClkOk 0 0 ((s.rd .islClkOk).setBits i i 0) →
    (u.rd .islClkOk).getLsbD i = false ∧ (∀ j < 32, j ≠ i.val → (u.rd .islClkOk).getLsbD j = (s.rd .islClkOk).getLsbD j) ∧
    (s.islandUp i = true → exec (.clockStop i) s = .next (u.setLive 0x22 i).dropHold.done) ∧
    (s.islandUp i = false → exec (.clockStop i) s = .next u.dropHold.done)) ∧
  ((s.rd .islPwrStat).getLsbD i = true → exec (.clockResume i) s =
      .next ((s.wr .islClkOk 0 0 ((s.rd .islClkOk).setBits i i 1)).clearLive 0x22 i).done ∧
    ((s.rd .islClkOk).setBits i i 1).getLsbD i = true) ∧
  ((s.rd .islPwrStat).getLsbD i = false → exec (.clockResume i) s = .next s.done) ∧
  (i.val ≠ 0 → (s.rd .islPwrStat).getLsbD i = true → s.isl.rst.getLsbD i = false →
    (s.islReset i).isl.rst.getLsbD i = true ∧ (s.islReset i).isl.resync.getLsbD i = false ∧
    (s.islReset i).rd .islRstCnt i = s.rd .islRstCnt i + 1 ∧ (s.islReset i).is F.CTL_RSTCAUSE_ISL = true ∧
    (s.islReset i).deadline (.islRelease i) = some (s.now + 1000)) ∧
  ((s.rd .islClkOk).getLsbD i = true → s.expire (.islRelease i) = some u → u.isl.rst.getLsbD i = true →
    Does (.islandResetRelease i) s (fun t => t.isl.rst.getLsbD i = false ∧ t.isl.resync.getLsbD i = true ∧
      t.islandUp i = false)) ∧
  ((s.rd .islClkOk).getLsbD i = false → exec (.islandResetRelease i) s = .next s.done) ∧
  (s.isl.rst.getLsbD i = false → s.isl.resync.getLsbD i = true →
    Does (.resyncToken i) s (fun t => t.isl.resync.getLsbD i = false ∧ t.isl.rst = s.isl.rst)) ∧
  (s.isl.rst.getLsbD i = true → exec (.resyncToken i) s = .next s.done) ∧
  (∀ (j : Fin 21) (n : Nat), n = tget 0 s.isl.cdc (21 * i.val + j.val) →
    Does (.handshakeEnd i j) s (fun t => tget 0 t.isl.cdc (21 * i.val + j.val) = n - 1 ∧
      ∀ k, k ≠ 21 * i.val + j.val → tget 0 t.isl.cdc k = tget 0 s.isl.cdc k)) ∧
  (s.expire (.islPower i) = some u → Does (.islandPowerUp i) s (fun t => (t.rd .islPwrStat).getLsbD i = true ∧
    (t.rd .islClkOk).getLsbD i = true ∧ t.isl.rst.getLsbD i = false)) ∧
  (∀ (p : Cls → Nat → Bool) (r : Reg) (a b : Nat), locate (r.addr a b) = some (r, a, b) →
    (p r.row.cls (r.row.isl + a * r.row.islStep) = false → (s.resetRegs p).rd r a b = s.rd r a b) ∧
    (p r.row.cls (r.row.isl + a * r.row.islStep) = true → (∀ f ∈ r.row.fields, f.cls ≠ some .a) →
      (s.resetRegs p).rd r a b = resetWord r a b))

/-- R364, R403, R405-R407, R466, R467.

COMPLETES: exec i s = next t, for every state and operands that meet its conditions on them alone, for i = powerOn,
resetN, railDrop. -/
def Obligations.ChipResets : Prop := ∀ (s : State) (st : Straps),
  (s.boot.powered = false → Does (.powerOn st) s (fun t => t.mode = .boot ∧ t.boot.powered = true ∧ t.boot.straps = st ∧
    t.now = s.now + 10000000 ∧ t.deadline .wdg = some (s.now + 11000000) ∧ t.sec.fuse = s.sec.fuse ∧
    t.mgt.flashLog = s.mgt.flashLog ∧ t.mgt.ramLog = [] ∧ t.is F.CTL_RSTCAUSE_POR = true)) ∧
  (s.boot.powered = true → s.boot.held = true → Does (.powerOn st) s (fun t => t.boot.held = false ∧ t.boot.straps = st ∧
    t.deadline .wdg = some (s.now + 11000000) ∧ t.mode = s.mode)) ∧
  (s.boot.powered = true → s.boot.held = false → s.mode ≠ .boot → exec (.powerOn st) s = .next s.done) ∧
  (s.boot.powered = true → s.boot.held = false →
    exec (.resetN true st) s = .next (s.chipReset .pin).hold.done ∧
    (s.chipReset .pin).hold.boot.held = true ∧ (s.chipReset .pin).hold.deadline .wdg = none) ∧
  (s.boot.powered = true → s.boot.held = true → Does (.resetN false st) s (fun t => t.boot.held = false ∧
    t.boot.straps = st ∧ t.get F.CTL_STATE_PROF_PINS = st.prof.toNat ∧ t.deadline .wdg = some (s.now + 1000000))) ∧
  (∀ low, s.boot.powered = false ∨ s.boot.held = low → exec (.resetN low st) s = .next s.done) ∧
  (s.boot.powered = true →
    Does (.railDrop .vddAon) s (fun t => t.boot.powered = false ∧ t.timers = []) ∧
    exec (.railDrop .core) s = .next (s.chipReset .pin).hold.done ∧
    ∀ m, exec (.railDrop (.other m)) s = .next (s.setLive 0x16 m.val).done) ∧
  (s.boot.powered = false → ∀ r, exec (.railDrop r) s = .next s.done) ∧
  (∀ kind, (s.chipReset kind).mode = .boot ∧ (s.chipReset kind).isl.rst.getLsbD 8 = false ∧
    (∀ i, 1 ≤ i → i ≤ 19 → i ≠ 8 → (s.chipReset kind).isl.rst.getLsbD i = true) ∧
    (s.chipReset kind).is (causeFld kind) = true ∧ (s.chipReset kind).sec.fuse = s.sec.fuse)

/-- R408, R410-R413, R436.

COMPLETES: exec i s = next t, for every state and operands that meet its conditions on them alone, for i = bootStart,
bootStepDone. -/
def Obligations.BootSteps : Prop := ∀ (s : State) (r : StepResult) (n c : Nat),
  (s.mode = .boot → s.boot.step = none → s.boot.held = false → s.boot.powered = true →
    Does .bootStart s (fun t => t.boot.step = some 1 ∧ t.boot.alt = false ∧ t.boot.boots = s.boot.boots + 1 ∧
      t.boot.marks.start = 2 ∧ t.boot.marks.done = 0 ∧ t.boot.marks.skipped = 0 ∧ t.mode = .boot ∧
      t.deadline .wdg = some (s.now + 1000000) ∧
      ∀ k < 16, tget 0 t.boot.marks.fails k =
        if s.boot.marks.start.getLsbD k = true ∧ s.boot.marks.done.getLsbD k = false then
          min 15 (tget 0 s.boot.marks.fails k + 1) else tget 0 s.boot.marks.fails k)) ∧
  (s.mode ≠ .boot ∨ s.boot.step.isSome = true → exec .bootStart s = .next s.done) ∧
  (s.mode = .boot → s.mgt.halted = false → s.boot.step = some n → c = s.stepFails n →
    (n = 1 → r.ok = true → Does (.bootStepDone r) s (fun t => t.boot.pll = true ∧
      ∀ i, 1 ≤ i → i ≤ 5 → t.isl.rst.getLsbD i = false)) ∧
    (r.ok = false → n ∈ [2, 4, 8, 14, 15] → c + 1 ≤ (if n = 2 then 3 else 2) → Does (.bootStepDone r) s (fun t =>
      t.boot.step = some n ∧ t.boot.alt = false ∧ t.stepFails n = c + 1 ∧ t.mode = .boot)) ∧
    (r.ok = false → n ∈ [3, 6, 9] → c = 0 → Does (.bootStepDone r) s (fun t =>
      t.boot.step = some n ∧ t.boot.alt = true ∧ t.stepFails n = 1 ∧ t.mode = .boot)) ∧
    (r.ok = false → (n ∈ [2, 4] ∧ (if n = 2 then 3 else 2) ≤ c) ∨ (n ∈ [3, 6] ∧ 1 ≤ c) →
      Does (.bootStepDone r) s (fun t => t.mode = .recovery ∧ t.boot.step = none ∧
        t.deadline .recoveryPull = some (s.now + 300000000000))) ∧
    (r.ok = false → n = 15 → 2 ≤ c → Does (.bootStepDone r) s (fun t => t.mode = .safe ∧ t.boot.step = none)) ∧
    (r.ok = true → n = 15 → s.boot.kind ≠ .slp →
      (s.flt.heldSafe.isSome = true → Does (.bootStepDone r) s (fun t => t.mode = .safe)) ∧
      (s.flt.heldSafe = none → s.boot.straps.bootsel = true ∨ s.boot.noProfile = true →
        Does (.bootStepDone r) s (fun t => t.mode = .commission ∧ t.is F.FLT_PIN_ASSERT = false ∧
          t.boot.marks.fails = [] ∧ t.boot.step = none)) ∧
      (s.flt.heldSafe = none → s.boot.straps.bootsel = false → s.boot.noProfile = false →
        Does (.bootStepDone r) s (fun t => t.mode = .run ∧ t.is F.FLT_PIN_ASSERT = false ∧
          t.boot.marks.fails = [] ∧ t.boot.step = none)))) ∧
  (s.boot.step = none → exec (.bootStepDone r) s = .next s.done)

/-- R416, R418, R419, R422-R424.

COMPLETES: exec i s = next t, for every state and operands that meet its conditions on them alone, for i =
profileSwitchEnd, profileStoreDone, selftestDone, wakeFall, wakeHigh, wakeRise. -/
def Obligations.ProfilesAndSleep : Prop := ∀ (s : State),
  (∀ (p prev : Nat) (x : Bool), s.boot.switch.map (fun y => (y.1, y.2.1)) = some (p, prev) → p < 4 → prev < 4 →
    s.mode = .commission ∨ s.mode = .run →
    ((tget ({} : Profile) s.profiles p).valid = true →
      Does (.profileSwitchEnd true x) s (fun t => t.boot.switch = none ∧ t.mode = .run ∧ t.boot.lastProf = p ∧
        t.boot.noProfile = false)) ∧
    (s.boot.noProfile = false → p ≠ prev → (tget ({} : Profile) s.profiles prev).valid = true →
      Does (.profileSwitchEnd false true) s (fun t => t.boot.switch = none ∧ t.mode = .run ∧ t.boot.lastProf = prev ∧
        (tget ({} : Profile) t.profiles p).valid = false)) ∧
    (s.boot.noProfile = true ∨ x = false →
      Does (.profileSwitchEnd false x) s (fun t => t.boot.switch = none ∧ t.mode = .safe ∧ t.boot.noProfile = true ∧
        (tget ({} : Profile) t.profiles p).valid = false))) ∧
  (s.boot.switch = none → ∀ a b, exec (.profileSwitchEnd a b) s = .next s.done) ∧
  (∀ c p recs, s.upd.storing = some (c, p, recs) → Does .profileStoreDone s (fun t => t.upd.storing = none ∧
    (tget ({} : Profile) t.profiles p).valid = true ∧ (tget ({} : Profile) t.profiles p).records = recs ∧
    (tget ({} : Profile) t.profiles p).signed = false ∧
    (tget ({} : Profile) t.profiles p).storeCount = (tget ({} : Profile) s.profiles p).storeCount + 1 ∧
    ∀ q, q ≠ p → tget ({} : Profile) t.profiles q = tget ({} : Profile) s.profiles q)) ∧
  (∀ (test : BitVec 8) (found : BitVec 128) (e : Service) (u : State) (n : Nat), s.mgtUp = true →
    s.cmd.service.find? (fun e => e.working && e.cmd.frame.opcode == 0x30 && testOp e.cmd.frame == test.toNat) = some e →
    s.testResult test.toNat e.cmd.frame.w7.toNat found = (u, n) →
    exec (.selftestDone test found) s = .next (u.complete e.cmd stOk [BitVec.ofNat 32 n]).done) ∧
  (s.boot.wake = true → s.boot.powered = true → s.profile.sleepEn = true → s.upd.open_ = none → s.boot.switch = none →
    s.mode = .commission ∨ s.mode = .run ∨ s.mode = .safe →
    Does .wakeFall s (fun t => t.mode = .sleep ∧ t.boot.sleepMode = s.mode ∧ t.isl.rst = 0x1FFFFE ∧ t.boot.wake = false ∧
      t.bypHold = false ∧ t.now = s.now + 100000000)) ∧
  (s.boot.wake = true → s.profile.sleepEn = false →
    exec .wakeFall s = .next (State.done { s with boot := { s.boot with wake := false } })) ∧
  (s.boot.wake = false → exec .wakeFall s = .next s.done) ∧
  (s.mode = .sleep → Does .wakeHigh s (fun t => t.mode = .boot ∧ t.boot.kind = .slp ∧ t.is F.CTL_RSTCAUSE_SLP = true ∧
      t.deadline .wdg = some (s.now + 2000000) ∧ t.boot.step = none ∧ t.boot.sleepMode = s.boot.sleepMode) ∧
    exec .wakeRise s = .next s.done) ∧
  (s.mode ≠ .sleep → exec .wakeHigh s = .next s.done ∧ Does .wakeRise s (fun t => t.boot.wake = true))

/-- R426-R428, R430, R439.

COMPLETES: exec i s = next t, for every state and operands that meet its conditions on them alone, for i =
eraseComplete, verifyComplete. -/
def Obligations.UpdateWork : Prop := ∀ (s : State),
  (∀ (x : Slot) (off : Nat) (ws : List Word),
    (∀ k < 4 * ws.length, (programAt x off ws).byte (off + k) = (ws.getD (k / 4) 0).toNat / 256 ^ (3 - k % 4) % 256) ∧
    (∀ a, a < off ∨ off + 4 * ws.length ≤ a → tfind (programAt x off ws).cells a = tfind x.cells a) ∧
    (programAt x off ws).state = x.state ∧ (programAt x off ws).head = x.head) ∧
  (∀ u, s.upd.open_ = some u → u.erasing = true → s.upd.pull = none →
    exec .eraseComplete s = .next (s.setUpdate { u with erasing := false }).done) ∧
  (∀ p, s.upd.open_ = none → s.upd.pull = some p → p.stage = 1 → chunkBytes < s.pullLength →
    Does .eraseComplete s (fun t => t.upd.pull = some { p with stage := 2, base := 0, got := [0], chunk0 := [] } ∧
      t.slot s.updateSlot = programAt (s.slot s.updateSlot) 0 (bytesWords p.chunk0) ∧
      t.deadline .relayWindow = some (s.now + 20000000) ∧ t.deadline .relayProgress = some (s.now + 1000000000))) ∧
  (∀ (u : Update) (c : Cmd) (r : VerifyResult), s.upd.open_ = some u → u.verify = some c → u.kind = 1 → u.target < 2 →
    (s.verifyStatus (s.updTarget u) u.length r = stOk → Does (.verifyComplete r) s (fun t =>
      t.slotState u.target = slVerified ∧ (t.slot u.target).cells = (s.slot u.target).cells ∧
      t.upd.open_ = some { u with verify := none })) ∧
    (∀ st, s.verifyStatus (s.updTarget u) u.length r = st → st ≠ stOk →
      exec (.verifyComplete r) s = .next ((s.setUpdate { u with verify := none }).complete c st []).done ∧
      Does (.verifyComplete r) s (fun t => t.slot u.target = s.slot u.target ∧
        t.upd.open_ = some { u with verify := none }))) ∧
  (∀ (p : Pull) (u : Update) (r : VerifyResult), s.upd.open_ = none → s.upd.pull = some p → p.stage = 3 →
    u = { target := s.updateSlot, length := s.pullLength } →
    (s.verifyStatus (s.updTarget u) u.length r = stOk → exec (.verifyComplete r) s =
      .next ((s.verified u r).pullEnd p stOk).done) ∧
    (∀ st, s.verifyStatus (s.updTarget u) u.length r = st → st ≠ stOk →
      exec (.verifyComplete r) s = .next (s.pullEnd p st).done)) ∧
  (∀ (x : Slot) (n : Nat) (r : VerifyResult),
    (programmed x n = false → s.verifyStatus x n r = stBadParam) ∧
    (programmed x n = true → r.readOk = false → s.verifyStatus x n r = stUncorrectable) ∧
    (programmed x n = true → r.readOk = true → x.byte 0x10 < s.sec.count → s.verifyStatus x n r = stIncompatible) ∧
    (programmed x n = true → r.readOk = true → s.sec.count ≤ x.byte 0x10 →
      (s.keyOk (x.byte 0x11) = false ∨ r.sigOk = false → s.verifyStatus x n r = stAuthFail) ∧
      (s.keyOk (x.byte 0x11) = true → r.sigOk = true → s.verifyStatus x n r = stOk)))

/-- R429, R438-R441. `u` is the state in which the frame counts as received, or at the end of a timer.

COMPLETES: exec i s = next t, for every state and operands that meet its conditions on them alone, for i = req, data,
refuse, relayDataSend, relayWindowTimeout, relayNoProgress, recoveryPullTimer. -/
def Obligations.RelayTraffic : Prop := ∀ (s u : State) (l : Fin 5) (ws : List Word),
  (s.mgtUp = false → exec (.req l ws) s = .next s.done ∧ exec (.refuse l ws) s = .next s.done ∧
    ∀ g, exec (.data l ws g) s = .next s.done) ∧
  (s.mgtUp = true → s.laneUp l = true → u = s.bump .lnkCnt l 0 →
    (ws.getD 1 0 ≠ s.rd .ctlUid 0 → exec (.req l ws) s = .next (u.bump .lnkCnt l 4).done ∧
      exec (.refuse l ws) s = .next (u.bump .lnkCnt l 4).done ∧
      ∀ g, exec (.data l ws g) s = .next (u.bump .lnkCnt l 4).done) ∧
    (exec (.data l ws false) s = .next (u.bump .lnkCnt l 4).done) ∧
    (ws.getD 1 0 = s.rd .ctlUid 0 → s.mode = .commission ∨ s.mode = .run ∨ s.mode = .safe → ∀ k : Nat, k = (ws.getD 0 0).bits 16 16 →
      (s.upd.serve = none → s.slotState k < slVerified ∨ slGood < s.slotState k →
        exec (.req l ws) s = .next (u.relaySend l [(((0 : Word).setBits 31 24 3).setBits 16 16 k).setBits 7 0 stBadParam.toNat,
          s.rd .lnkNbr2 l, ws.getD 2 0, 0]).done) ∧
      (∀ v, s.upd.serve = some v → 0 < v.left → v.lane ≠ l.val →
        exec (.req l ws) s = .next (u.relaySend l [(((0 : Word).setBits 31 24 3).setBits 16 16 k).setBits 7 0 stBusy.toNat,
          s.rd .lnkNbr2 l, ws.getD 2 0, 0]).done) ∧
      (s.upd.serve = none → slVerified ≤ s.slotState k → s.slotState k ≤ slGood → s.deadline .relaySend = none →
        Does (.req l ws) s (fun t => t.deadline .relaySend = some s.now ∧
          t.upd.serve = some { lane := l.val, uid := s.rd .lnkNbr2 l, slot := k, off := (ws.getD 2 0).toNat
                               left := min 16 (max 1 ((ws.getD 3 0).bits 4 0)) }))) ∧
    (∀ p, ws.getD 1 0 = s.rd .ctlUid 0 → s.upd.pull = some p → p.lane = l.val →
      ((ws.getD 0 0).bits 7 0 < 16 →
        exec (.refuse l ws) s = .next (u.pullEnd p (BitVec.ofNat 8 ((ws.getD 0 0).bits 7 0))).done) ∧
      (16 ≤ (ws.getD 0 0).bits 7 0 →
        exec (.refuse l ws) s = .next ((u.freeIn 1 15).2.pullEnd p (BitVec.ofNat 8 (u.freeIn 1 15).1)).done ∧
        1 ≤ (u.freeIn 1 15).1 ∧ (u.freeIn 1 15).1 ≤ 15) ∧
      (p.stage = 0 → (ws.getD 2 0).toNat = 0 → exec (.data l ws true) s = .next (u.pullHeader p ws (ws.drop 4)).done) ∧
      (∀ i, p.stage = 2 → (ws.getD 2 0).toNat = i * chunkBytes →
        (p.got.contains i = true → exec (.data l ws true) s = .next u.done) ∧
        (p.got.contains i = false → p.base / chunkBytes ≤ i → i < p.base / chunkBytes + 16 →
          min chunkBytes (s.pullLength - i * chunkBytes) ≤ 4 * (ws.drop 4).length →
          exec (.data l ws true) s = .next (((u.setSlot s.updateSlot (programAt (s.slot s.updateSlot) (i * chunkBytes)
            ((ws.drop 4).take ((min chunkBytes (s.pullLength - i * chunkBytes) + 3) / 4)))).arm .relayProgress
              1000000000).pullNext { p with got := p.got ++ [i] }).done)))) ∧
  (s.expire .relaySend = some u → ∀ v, u.upd.serve = some v →
    (v.left = 0 ∨ (u.slot v.slot).head.length ≤ v.off → Does .relayDataSend s (fun t => t.upd.serve = none ∧ t.sent = u.sent)) ∧
    (0 < v.left → v.off < (u.slot v.slot).head.length → Does .relayDataSend s (fun t =>
      t.upd.serve = some { v with off := v.off + chunkBytes, left := v.left - 1 } ∧
      t.deadline .relaySend = some (u.now + 10000) ∧ t.sent.length ≤ u.sent.length + 1))) ∧
  (s.expire .relayWindow = some u → ∀ p, u.upd.pull = some p →
    (p.stage = 0 → exec .relayWindowTimeout s = .next (u.relayReq p 0 1).done) ∧
    (p.stage = 2 → exec .relayWindowTimeout s = .next (u.relayReq p ((windowLeft p u.pullLength).1 * chunkBytes)
      (windowLeft p u.pullLength).2).done)) ∧
  (∀ (p : Pull) (n i : Nat), p.base / chunkBytes ≤ i → i < p.base / chunkBytes + 16 → i * chunkBytes < n →
    p.got.contains i = false → (windowLeft p n).1 ≤ i ∧ p.got.contains (windowLeft p n).1 = false ∧
      i < (windowLeft p n).1 + (windowLeft p n).2 ∧ (windowLeft p n).2 ≤ 16) ∧
  (s.expire .relayProgress = some u → ∀ p, u.upd.pull = some p →
    exec .relayNoProgress s = .next (u.pullEnd p stTimeout).done) ∧
  (∀ p c st, p.cmd = some c → s.pullEnd p st =
    (((s.setPull none).disarm .relayWindow).disarm .relayProgress).complete c st []) ∧
  (s.expire .recoveryPull = some u →
    (u.mode = .recovery → u.updateBusy = false →
      exec .recoveryPullTimer s = .next ((u.arm .recoveryPull 300000000000).romPull [0, 1]).done ∧
      ((u.arm .recoveryPull 300000000000).romPull [0, 1]).deadline .recoveryPull = some (u.now + 300000000000)) ∧
    (u.mode ≠ .recovery ∨ u.updateBusy = true → exec .recoveryPullTimer s = .next u.done))

/-- R42-R44, R448, R449, R453, R455, R460. `u` is the state at the end of a timer.

COMPLETES: exec i s = next t, for every state and operands that meet its conditions on them alone, for i =
sessionIdleExpire, sessionUnusedExpire, spentCloseExpire, rekeyClose, otpOperationDone, unlockCheckDone. -/
def Obligations.SessionsAndFuses : Prop := ∀ (s u : State) (n : BitVec 16),
  (∀ (c : Instr) (cause : Nat), u.closesSession n = true → (c = .sessionIdleExpire n ∧ s.expire (.sessIdle n.toNat) = some u ∧
        cause = (if (s.session? n).any (·.spent) then 4 else 2) ∨
      c = .sessionUnusedExpire n ∧ s.expire (.sessUnused n.toNat) = some u ∧
        cause = (if (s.session? n).any (·.spent) then 4 else 2) ∨
      c = .spentCloseExpire n ∧ s.expire (.sessSpent n.toNat) = some u ∧ cause = 4) →
    exec c s = .next (u.closeSession n cause).done) ∧
  (s.closesSession n = false → exec (.sessionIdleExpire n) s = .next s.done ∧
    exec (.sessionUnusedExpire n) s = .next s.done ∧ exec (.spentCloseExpire n) s = .next s.done) ∧
  ((s.session? n).any (·.closing) = true → (s.cmd.service.any (fun x => x.cmd.frame.session == n)) = false →
    exec (.rekeyClose n) s = .next (s.closeSession n 1).done) ∧
  ((s.cmd.service.any (fun x => x.cmd.frame.session == n)) = true → exec (.rekeyClose n) s = .next s.done) ∧
  (∀ cause, s.upd.open_ = none → (s.closeSession n cause).session? n = none ∧
    (∀ m, m ≠ n → (s.closeSession n cause).session? m = s.session? m) ∧
    ((s.session? n).isSome = true → (s.closeSession n cause).deadline (.sessIdle n.toNat) = none ∧
      (s.closeSession n cause).deadline (.sessUnused n.toNat) = none ∧
      (s.closeSession n cause).deadline (.sessSpent n.toNat) = none)) ∧
  (∀ k hash, s.sec.otp = some (k, false, hash) → ∀ ok : Bool, Does (.otpOperationDone ok) s (fun t =>
    t.sec.otp = none ∧ tfind t.sec.owner k = some hash ∧ t.is F.SEC_STAT_OTP_ERR = !ok ∧
    t.sec.badSlots = (if ok then s.sec.badSlots else s.sec.badSlots ++ [k]) ∧ t.sec.revoked = s.sec.revoked)) ∧
  (∀ k hash, s.sec.otp = some (k, true, hash) →
    Does (.otpOperationDone false) s (fun t => t.sec.otp = none ∧ t.sec.revoked = s.sec.revoked ∧
      t.is F.SEC_STAT_OTP_ERR = true ∧ t.cmd.sessions = s.cmd.sessions) ∧
    Does (.otpOperationDone true) s (fun t => t.sec.otp = none ∧ t.sec.revoked = s.sec.revoked ++ [k] ∧
      t.is F.SEC_STAT_OTP_ERR = false ∧ t.ownerOk k = false ∧
      ∀ x ∈ t.cmd.sessions, x ∈ s.cmd.sessions ∧ ¬ (x.cred = true ∧ x.keyIndex = k))) ∧
  (∀ k, s.sec.unlock = some k →
    (s.ownerOk k = true → Does (.unlockCheckDone true) s (fun t => t.sec.unlock = none ∧ t.is F.SEC_STAT_DEBUG_OPEN = true ∧
      t.get F.SEC_DBG_STAT_FAILS = s.get F.SEC_DBG_STAT_FAILS)) ∧
    (∀ ok : Bool, ok = false ∨ s.ownerOk k = false → s.get F.SEC_DBG_STAT_FAILS < 3 → Does (.unlockCheckDone ok) s (fun t =>
      t.sec.unlock = none ∧ t.get F.SEC_DBG_STAT_FAILS = s.get F.SEC_DBG_STAT_FAILS + 1 ∧
      t.is F.SEC_STAT_DEBUG_OPEN = s.is F.SEC_STAT_DEBUG_OPEN ∧
      (s.get F.SEC_DBG_STAT_FAILS = 2 → t.is F.SEC_DBG_STAT_LOCKOUT = true))))

/-- R62, R64, R67, R297. `u` is the state at the end of a timer.

COMPLETES: exec i s = next t, for every state and operands that meet its conditions on them alone, for i = replyReceive,
eventReceive, commandTimeout, quarantineEnd, retryCacheExpire. -/
def Obligations.InitiatorRules : Prop := ∀ (s u : State) (f : Frame),
  (s.toHere f = false → (∀ a, exec (.replyReceive f a) s = .next s.done) ∧ exec (.eventReceive f) s = .next s.done) ∧
  (f.malformed = false → f.dstNode ≠ s.ownNode → s.toHere f = true → f.dstPort = 0xFF ∨ f.dstPort = 122 → s.mgtUp = true →
    (f.ftype = ftReply → ∀ a, exec (.replyReceive f a) s = .next (s.bump .mgtCnt 3).done) ∧
    (f.ftype = ftEvent → exec (.eventReceive f) s = .next (s.bump .mgtCnt 3).done)) ∧
  (f.malformed = false → f.ftype = ftReply → f.dstNode = s.ownNode → f.dstPort = 0xFF ∨ f.dstPort = 122 → s.mgtUp = true →
    ∀ a, (∀ o, s.ownOutst f.tag = some o → o.quarantine = false →
        Does (.replyReceive f a) s (fun t => t.ownOutst f.tag = none ∧ t.deadline (.cmdTimeout 0xFF f.tag.toNat) = none ∧
          (∀ g : BitVec 9, g ≠ f.tag → t.ownOutst g = s.ownOutst g))) ∧
      (s.ownOutst f.tag = none ∨ (s.ownOutst f.tag).any (·.quarantine) = true →
        exec (.replyReceive f a) s = .next (s.bump .mgtCnt 3).done)) ∧
  (f.malformed = false → f.ftype = ftReply → f.dstNode = s.ownNode → f.dstPort = 5 → s.pcieUp = true → ∀ a,
    (f.opcode = ocWritePosted → exec (.replyReceive f a) s = .next (s.postedReply f).done) ∧
    (f.opcode ≠ ocWritePosted → f.tag.toNat < s.trkSize →
      exec (.replyReceive f a) s = .next (s.trkReply f a).done ∧
      (tfind s.hbr.trk f.tag.toNat = none → s.trkReply f a = s.bump .hbrCnt 4) ∧
      (∀ e, tfind s.hbr.trk f.tag.toNat = some e → e.quarantine = true → s.trkReply f a = s.bump .hbrCnt 4))) ∧
  (f.malformed = false → f.ftype = ftEvent → f.dstNode = s.ownNode → f.dstPort = 0xFF ∨ f.dstPort = 122 → s.mgtUp = true →
    ((∃ o ∈ s.cmd.outstanding, o.tag = f.tag ∧ o.opcode = f.opcode ∧ o.node = f.srcNode) →
      exec (.eventReceive f) s = .next s.done) ∧
    ((∀ o ∈ s.cmd.outstanding, ¬ (o.tag = f.tag ∧ o.opcode = f.opcode ∧ o.node = f.srcNode)) →
      exec (.eventReceive f) s = .next (s.bump .mgtCnt 3).done)) ∧
  (∀ (p : BitVec 8) (g : BitVec 9),
    (p ≠ 5 → s.expire (.cmdTimeout p.toNat g.toNat) = some u → Does (.commandTimeout p g) s (fun t =>
      (∀ o ∈ t.cmd.outstanding, o.tag = g → o.quarantine = true) ∧
      ∀ o, s.ownOutst g = some o → t.deadline (.quarantine p.toNat g.toNat) = some (u.now + o.period))) ∧
    (p = 0xFF → s.expire (.quarantine p.toNat g.toNat) = some u → Does (.quarantineEnd p g) s (fun t =>
      t.ownOutst g = none ∧ t.deadline (.quarantine 0xFF g.toNat) = none)) ∧
    (p = 5 → s.expire (.cmdTimeout 5 g.toNat) = some u → ∀ e, tfind u.hbr.trk g.toNat = some e → e.dead = true →
      Does (.commandTimeout p g) s (fun t => tfind t.hbr.trk g.toNat = some { e with quarantine := true } ∧
        t.deadline (.quarantine 5 g.toNat) = some (u.now + e.period))) ∧
    (p = 5 → s.expire (.quarantine 5 g.toNat) = some u →
      exec (.quarantineEnd p g) s = .next (State.hbrPump (u.hbr.wait.length + 1) (u.trkFree g.toNat)).done ∧
      tfind (u.trkFree g.toNat).hbr.trk g.toNat = none)) ∧
  (∀ e, s.cmd.cache.find? (fun x => !x.leaving) = some e → Does .retryCacheExpire s (fun t =>
    t.cmd.cache = s.cmd.cache.eraseP (fun x => !x.leaving) ∧ t.now = max s.now e.expires)) ∧
  (s.cmd.cache.find? (fun x => !x.leaving) = none → exec .retryCacheExpire s = .next s.done)

/-- R7-R9, R33, R46, R77.

COMPLETES: exec i s = next t, for every state and operands that meet its conditions on them alone, for i =
registerWrite. -/
def Obligations.RegisterWriteGate : Prop := ∀ (s : State) (view : Bool) (off : Nat) (v : Word),
  (s.mgtUp = false ∨ s.boot.switch.isSome = true → exec (.registerWrite view off v) s = .next s.done) ∧
  (s.mgtUp = true → s.boot.switch = none →
    (s.mode = .boot ∨ s.mode = .recovery ∨ s.mode = .sleep →
      exec (.registerWrite view off v) s = .next (s.refuseWrite stNotInMode false).done) ∧
    (s.mode = .commission ∨ s.mode = .run ∨ s.mode = .safe →
      (off % 4 ≠ 0 ∨ place off = none →
        exec (.registerWrite view off v) s = .next (s.refuseWrite stBadParam true).done) ∧
      (∀ p, off % 4 = 0 → place off = some p →
        (s.deniedTo view p = true → exec (.registerWrite view off v) s = .next (s.refuseWrite stDenied false).done) ∧
        (s.deniedTo view p = false → s.placeUp p = false →
          exec (.registerWrite view off v) s = .next (s.refuseWrite stIslandDown false).done) ∧
        (s.deniedTo view p = false → s.placeUp p = true →
          (s.mode = .safe → s.safeWrite view p = false →
            exec (.registerWrite view off v) s = .next (s.refuseWrite stNotInMode false).done) ∧
          (∀ st, s.placeStatus view p v s.lastMaint = st → st ≠ stOk →
            exec (.registerWrite view off v) s = .next (s.refuseWrite st false).done) ∧
          (∀ o, p = .empty o → exec (.registerWrite view off v) s = .next (s.noted stOk).done) ∧
          (∀ b, p = .vat b → s.mode ≠ .commission →
            exec (.registerWrite view off v) s = .next (s.refuseWrite stNotInMode false).done) ∧
          (∀ b, p = .vat b → s.mode = .commission → s.sw.ueWords.contains (b / 32) = false →
            exec (.registerWrite view off v) s = .next ((s.vatWrite b v).noted stOk).done) ∧
          (∀ r i j, p = .reg r i j → s.placeStatus view p v s.lastMaint = stOk →
            (r ≠ .islRstCtl → exec (.registerWrite view off v) s = .next ((s.writeReg view r i j v).noted stOk).done) ∧
            (r = .islRstCtl → view = true →
              exec (.registerWrite view off v) s = .next ((s.resetIslands (v.setWidth 21)).noted stOk).done)))))) ∧
  (∀ st step5, s.refuseWrite st step5 = State.noted (if st = stDenied then (s.bump .mgtCnt 1).sat F.CTL_DENYCNT_DENIED_CNT
    else if step5 then (s.bump .mgtCnt 1).sat F.CTL_DENYCNT_BADADDR_CNT else s.bump .mgtCnt 1) st) ∧
  (∀ r i, s.safeWrite view (.reg r i 0) = true → r ≠ .islRstCtl → r ≠ .canRdCtl →
    ∀ f ∈ r.row.fields, f.writable view = true → f.acc = .w1c)

/-- R7, R8, R9 for the word that a register holds after a write. -/
def Obligations.FieldAccessCodes : Prop := ∀ (r : Reg) (priv : Bool) (old w : Word),
  (∀ f ∈ r.row.fields, ∀ b, f.lo ≤ b → b ≤ f.hi →
    (f.writable priv = false ∨ f.acc = .wo → (r.merge priv old w).getLsbD b = old.getLsbD b) ∧
    (f.writable priv = true → f.acc = .w1c → (r.merge priv old w).getLsbD b = (old.getLsbD b && !w.getLsbD b)) ∧
    (f.writable priv = true → f.acc = .rw ∨ f.acc = .rwp ∨ f.acc = .po ∨ f.acc = .poKey →
      (r.merge priv old w).getLsbD b = w.getLsbD b) ∧
    (f.acc = .rwp ∨ f.acc = .po ∨ f.acc = .poKey → f.writable false = false) ∧ (f.acc = .ro → f.writable priv = false)) ∧
  (∀ b, (∀ f ∈ r.row.fields, ¬ (f.lo ≤ b ∧ b ≤ f.hi)) → (r.merge priv old w).getLsbD b = old.getLsbD b)

/-- R97, R103, R121, R139, R155, R160, R187, R345, R383, R392, R401, R448, R449, R460.

COMPLETES: exec i s = next t, for every state and operands that meet its conditions on them alone, for i = clrHold,
retrain, laneEnable, testRelease, commit, captureEnable, gapRecordRemove, timSchedCancel, rejoin, resync, inject,
islRstCtl, islPwrCtl, burn, revoke, unlock. -/
def Obligations.WriteRowsOfTheCore : Prop := ∀ (s : State),
  (∀ l : Fin 5, WriteTaken s .lnkCtl l 0 2 →
    exec (.clrHold l) s = .next (((s.stored .lnkCtl l 0 2).holdEnd l).noted stOk).done) ∧
  (∀ l : Fin 5, WriteTaken s .lnkCtl l 0 1 →
    exec (.retrain l) s = .next (((s.stored .lnkCtl l 0 1).retrain l).noted stOk).done) ∧
  (∀ (l : Fin 5) (en : Bool) (w : Word) (u : State), w = (s.rd .lnkCfg l).setBits 31 31 (bit en) → WriteTaken s .lnkCfg l 0 w →
    (s.rd .lnkCfg l).getLsbD 31 = en → u = (s.stored .lnkCfg l 0 w).modRun l → exec (.laneEnable l en) s =
      .next ((if u.lst l = lsNoSignal then u.setRate l else u).noted stOk).done) ∧
  (∀ (l : Fin 5) (w : Word), w = (s.rd .lnkCfg l).setBits 31 31 1 → WriteTaken s .lnkCfg l 0 w →
    (s.rd .lnkCfg l).getLsbD 31 = false →
    exec (.laneEnable l true) s = .next ((((s.stored .lnkCfg l 0 w).modRun l).laneStart l).noted stOk).done) ∧
  (∀ (l : Fin 5) (w : Word), w = (s.rd .lnkCfg l).setBits 31 31 0 → WriteTaken s .lnkCfg l 0 w →
    (s.rd .lnkCfg l).getLsbD 31 = true →
    exec (.laneEnable l false) s = .next ((((s.stored .lnkCfg l 0 w).modRun l).laneDisable l).noted stOk).done) ∧
  (WriteTaken s .lnkByp 0 0 1 → exec .testRelease s = .next ((s.stored .lnkByp 0 0 1).dropHold.noted stOk).done) ∧
  (WriteTaken s .swcFwdCtl 0 0 0x80000000 →
    exec .commit s = .next ((s.stored .swcFwdCtl 0 0 0x80000000).fwdCommit.noted stOk).done ∧
    Does .commit s (fun t => t.get F.SWC_FWD_CTL_GEN = (s.get F.SWC_FWD_CTL_GEN + 1) % 65536 ∧ t.sw.fwdBad = [])) ∧
  (∀ w, w = s.rd .capCtl ||| 1 → WriteTaken s .capCtl 0 0 w →
    exec .captureEnable s = .next ((s.stored .capCtl 0 0 w).captureStart.noted stOk).done ∧
    Does .captureEnable s (fun t => t.is F.CAP_CTL_ENABLE = true ∧ t.get F.CAP_WPTR_OFFSET = 0 ∧ t.rd .capReccnt = 0 ∧
      t.is F.CAP_STAT_FULL = false)) ∧
  (WriteTaken s .prsGapctl 0 0 0 → Does .gapRecordRemove s (fun t => t.sw.gaps = s.sw.gaps.drop 1 ∧
    t.rd .prsGapctl = s.rd .prsGapctl)) ∧
  (∀ e : Fin 256, WriteTaken s .timSchedCancel 0 0 (BitVec.ofNat 32 e) → exec (.timSchedCancel e) s =
    .next (((s.stored .timSchedCancel 0 0 (BitVec.ofNat 32 e)).schedCancel e).noted stOk).done) ∧
  (WriteTaken s .parCtl 0 0 2 → exec .rejoin s = .next ((s.stored .parCtl 0 0 2).rejoin.noted stOk).done) ∧
  (WriteTaken s .parCtl 0 0 1 → exec .resync s = .next ((s.stored .parCtl 0 0 1).resync.noted stOk).done) ∧
  (WriteTaken s .fltChk 0 0 0x80000000 → Does .inject s (fun t => t.is F.FLT_CHK_TEST_PASS = true ∧
    t.is F.FLT_CHK_MISMATCH = s.is F.FLT_CHK_MISMATCH ∧ t.flt = s.flt)) ∧
  (∀ m : BitVec 21, WriteTaken s .islRstCtl 0 0 (m.setWidth 32) →
    exec (.islRstCtl m) s = .next ((s.resetIslands m).noted stOk).done) ∧
  (∀ m : BitVec 21, WriteTaken s .islPwrCtl 0 0 (m.setWidth 32) →
    exec (.islPwrCtl m) s = .next (((s.stored .islPwrCtl 0 0 (m.setWidth 32)).powerMask m.toNat).noted stOk).done) ∧
  (∀ k : BitVec 2, WriteTaken s .secOwnerCtl 0 0 (0x5A0C0001 ||| (k.setWidth 32 <<< 8)) → Does (.burn k) s (fun t =>
    t.sec.otp = some (k.toNat, false, (List.range 12).map (fun i => s.rd .secOwnerHash i)) ∧ t.sec.owner = s.sec.owner)) ∧
  (∀ k : BitVec 2, WriteTaken s .secOwnerCtl 0 0 (0x5A0C0002 ||| (k.setWidth 32 <<< 8)) → Does (.revoke k) s (fun t =>
    t.sec.otp.map (fun x => (x.1, x.2.1)) = some (k.toNat, true) ∧ t.sec.revoked = s.sec.revoked)) ∧
  (∀ k : BitVec 2, WriteTaken s .secDbgCtl 0 0 (1 ||| (k.setWidth 32 <<< 2)) → Does (.unlock k) s (fun t =>
    t.sec.unlock = some k.toNat ∧ t.is F.SEC_STAT_DEBUG_OPEN = s.is F.SEC_STAT_DEBUG_OPEN))

/-- R181, R200, R203, R211, R216, R217, R219, R221, R261, R263, R287, R289, R299, R320, R321.

COMPLETES: exec i s = next t, for every state and operands that meet its conditions on them alone, for i = start, stop,
clear, flushTx, flushRx, startMask, stopMask, clkRestart, engInject, cluDoutSet, cluDoutClr, recover,
canRateDetectStart, canRateDetectAbort, canTsqCtl, macTsqCtl, go, hbrElogTail, errPendClear, pwrChOn, pwrChOff,
clrLatch, pwrCmd. -/
def Obligations.WriteRowsOfThePorts : Prop := ∀ (s u : State),
  (∀ (e : Fin 64) (pc : BitVec 7) (w : Word), w = Word.setBits 0x80000000 22 16 pc.toNat →
    WriteTaken s .engCtl (e / 8) (e % 8) w → u = s.stored .engCtl (e / 8) (e % 8) w →
    exec (.start e pc) s = .next ((u.startEngine e pc.toNat).noted stOk).done ∧
    (s.running e = false → Does (.start e pc) s (fun t => t.running e = true ∧ t.eget F.ENG_STATUS_PC e = pc.toNat ∧
      t.eget F.ENG_STATUS_STOP_CAUSE e = 0))) ∧
  (∀ (e : Fin 64) (w : Word), w = Word.setBits 0x40000000 22 16 (s.eget F.ENG_CTL_START_PC e) →
    WriteTaken s .engCtl (e / 8) (e % 8) w → u = s.stored .engCtl (e / 8) (e % 8) w →
    exec (.stop e) s = .next ((u.stopEngine e scStop).noted stOk).done ∧
    (s.running e = true → Does (.stop e) s (fun t => t.running e = false ∧ t.eget F.ENG_STATUS_STOP_CAUSE e = scStop ∧
      t.eget F.ENG_STATUS_PC e = s.eget F.ENG_STATUS_PC e))) ∧
  (∀ (e : Fin 64) (w : Word), w = Word.setBits 0x20000000 22 16 (s.eget F.ENG_CTL_START_PC e) →
    WriteTaken s .engCtl (e / 8) (e % 8) w → Does (.clear e) s (fun t => t.eget F.ENG_STATUS_ISR_CNT e = 0 ∧
      t.eget F.ENG_STATUS_OSR_CNT e = 0 ∧ t.eis F.ENG_STATUS_PARTIAL e = false ∧ t.rd .engOsr (e / 8) (e % 8) = 0 ∧
      t.rd .engIsr (e / 8) (e % 8) = 0 ∧ t.rd .engXy (e / 8) (e % 8) = 0 ∧
      (t.eng e).path = (s.eng e).path ∧ (t.eng e).rxq = (s.eng e).rxq)) ∧
  (∀ (e : Fin 64) (w : Word), w = Word.setBits 0x10000000 22 16 (s.eget F.ENG_CTL_START_PC e) →
    WriteTaken s .engCtl (e / 8) (e % 8) w → Does (.flushTx e) s (fun t => (t.eng e).txn = 0 ∧
      (t.eng e).path = (s.eng e).path.drop (s.eng e).txn ∧ (t.eng e).rxq = (s.eng e).rxq)) ∧
  (∀ (e : Fin 64) (w : Word), w = Word.setBits 0x08000000 22 16 (s.eget F.ENG_CTL_START_PC e) →
    WriteTaken s .engCtl (e / 8) (e % 8) w → Does (.flushRx e) s (fun t =>
      (t.eng e).rxq = (s.eng e).rxq.filter (fun q => q.at_ / 4 == s.now / 4) ∧ (t.eng e).path = (s.eng e).path)) ∧
  (∀ (k : Fin 8) (m : BitVec 8),
    (WriteTaken s .cluCtl k 0 (m.setWidth 32) →
      exec (.startMask k m) s = .next (((s.stored .cluCtl k 0 (m.setWidth 32)).startMask k m.toNat).noted stOk).done) ∧
    (WriteTaken s .cluCtl k 0 (m.setWidth 32 <<< 8) →
      exec (.stopMask k m) s = .next (((s.stored .cluCtl k 0 (m.setWidth 32 <<< 8)).stopMask k m.toNat).noted stOk).done) ∧
    (WriteTaken s .cluCtl k 0 0x10000 → Does (.clkRestart k) s (fun t => ∀ e < 8, (t.eng (8 * k.val + e)).rem = 0 ∧
      (t.eng (8 * k.val + e)).edge = cluEdge s.now + 4 * s.eget F.ENG_CLK_INT (8 * k.val + e)))) ∧
  (∀ (e : Fin 64) (x : BitVec 24), WriteTaken s .engInject (e / 8) (e % 8) (x.setWidth 32) → Does (.engInject e x) s (fun t =>
    t.eis F.ENG_INJECT_PENDING e = true ∧ (t.eng e).inj = x.setWidth 32 ∧ (t.eng e).injAt = cluEdge s.now + 8)) ∧
  (∀ (k : Fin 8) (m : Word),
    (WriteTaken s .cluDoutSet k 0 m → Does (.cluDoutSet k m) s (fun t => t.rd .cluDout k = s.rd .cluDout k ||| m)) ∧
    (WriteTaken s .cluDoutClr k 0 m → Does (.cluDoutClr k m) s (fun t => t.rd .cluDout k = s.rd .cluDout k &&& ~~~m))) ∧
  (∀ n : Fin 32,
    (∀ w, w = s.rd .canCtl n ||| 0x10 → WriteTaken s .canCtl n 0 w → s.get F.CAN_STAT_STATE n = 2 →
      Does (.recover n) s (fun t => t.get F.CAN_STAT_STATE n = 3 ∧ t.get F.CAN_CTL_OPMODE n = s.get F.CAN_CTL_OPMODE n)) ∧
    (∀ w, w = s.rd .canCtl n ||| 0x10 → WriteTaken s .canCtl n 0 w → s.get F.CAN_STAT_STATE n ≠ 2 →
      Does (.recover n) s (fun t => t.get F.CAN_STAT_STATE n = s.get F.CAN_STAT_STATE n)) ∧
    (∀ w, w = s.rd .canRdCtl n ||| 0x80000000 → WriteTaken s .canRdCtl n 0 w → Does (.canRateDetectStart n) s (fun t =>
      t.is F.CAN_RD_STAT_BUSY n = true ∧ t.is F.CAN_RD_STAT_DONE n = false ∧ t.is F.CAN_RD_STAT_FAILED n = false ∧
      t.deadline (.survey n) = some (s.now + 50000000))) ∧
    (∀ w, w = s.rd .canRdCtl n ||| 0x40000000 → WriteTaken s .canRdCtl n 0 w → (s.rd .canRdCtl n).getLsbD 31 = false →
      exec (.canRateDetectAbort n) s = .next (((s.stored .canRdCtl n 0 w).canRdAbort n).noted stOk).done) ∧
    (WriteTaken s .canTsqCtl n 0 0 → Does (.canTsqCtl n) s (fun t => (t.can n).tsq = (s.can n).tsq.drop 1))) ∧
  (∀ m : Fin 20, WriteTaken s .macTsqCtl m 0 0 → Does (.macTsqCtl m) s (fun t => (t.mac m).tsq = (s.mac m).tsq.drop 1)) ∧
  (∀ x : Word, WriteTaken s .macMdioCtl 0 0 (x ||| 0x80000000) → Does (.go x) s (fun t => t.is F.MAC_MDIO_CTL_BUSY = true ∧
    t.get F.MAC_MDIO_CTL_OP = x.bits 28 27)) ∧
  (∀ n, WriteTaken s .hbrElogTail 0 0 (BitVec.ofNat 32 n) → Does (.hbrElogTail n) s (fun t =>
    t.get F.HBR_ELOG_TAIL_TAIL = n % 256 ∧ t.get F.HBR_ELOG_HEAD_HEAD = s.get F.HBR_ELOG_HEAD_HEAD)) ∧
  (WriteTaken s .hbrIrq 0 0 1 → s.is F.HBR_IRQ_ERR_PEND = true →
    exec .errPendClear s = .next ((s.stored .hbrIrq 0 0 1).errPendClear.noted stOk).done) ∧
  (∀ c : Fin 16,
    (WriteTaken s .pwrChCtl c 0 1 → exec (.pwrChOn c) s = .next (((s.stored .pwrChCtl c 0 1).pchCmdOn c).noted stOk).done) ∧
    (WriteTaken s .pwrChCtl c 0 2 → exec (.pwrChOff c) s = .next (((s.stored .pwrChCtl c 0 2).pchCmdOff c).noted stOk).done ∧
      ((s.deadline (.ft c)).any (fun d => decide (d / 1000 ≤ s.now / 1000)) = false → Does (.pwrChOff c) s (fun t => t.is F.PWR_CH_STAT_CMD_ON c = false ∧ t.get F.PWR_CH_FAULT_RETRY_CNT c = 0 ∧
        (s.pst c = pcLatched → t.pst c = pcLatched) ∧ (s.pst c ≠ pcLatched → t.pst c = pcOff)))) ∧
    (WriteTaken s .pwrChCtl c 0 4 → Does (.clrLatch c) s (fun t =>
      (s.pst c = pcLatched → t.pst c = pcOff ∧ t.is F.PWR_CH_STAT_CMD_ON c = false) ∧
      (s.pst c ≠ pcLatched → t.pst c = s.pst c)))) ∧
  (∀ on off : BitVec 16, WriteTaken s .pwrCmd 0 0 (off ++ on) →
    exec (.pwrCmd on off) s = .next (((s.stored .pwrCmd 0 0 (off ++ on)).pwrMasks on off).noted stOk).done) ∧
  (∀ c : Fin 16, (s.deadline (.ft c)).any (fun d => decide (d / 1000 ≤ s.now / 1000)) = false →
    (s.pst c = pcRetryWait ∨ s.pst c = pcLatched ∨ (s.pch c).offTick = some (s.now / 1000) → s.pchCmdOn c = s) ∧
    (s.pst c = pcOff → s.pwrRight = true → (s.pch c).offTick ≠ some (s.now / 1000) → (s.pchCmdOn c).pst c = pcRamp ∧
      (s.pchCmdOn c).is F.PWR_CH_STAT_CMD_ON c = true)) ∧
  (∀ c : Fin 16, (s.deadline (.ft c)).any (fun d => decide (d / 1000 ≤ s.now / 1000)) = true →
    u = s.faultOff c (s.episodeCode c) 1 → (u.deadline (.ft c)).any (fun d => decide (d / 1000 ≤ u.now / 1000)) = false →
    s.pchCmdOn c = u.pchCmdOn c ∧ s.pchCmdOff c = u.pchCmdOff c)

/-- R46 and the rules it rests on. -/
def Obligations.CommandChecks : Prop := ∀ (s v u : State) (i : Instr) (op : BitVec 8) (c0 c : Cmd) (x : KeyExchange),
  hostCommand i = some (op, c0, x) → c = s.sourced c0 →
  (s.hears c = false ∨ c.frame.malformed = true ∨ s.romTaken c = true ∨ s.target c = none → exec i s = .next s.done) ∧
  (∀ t, s.hears c = true → c.frame.malformed = false → s.romTaken c = false → s.target c = some t → v = s.romTake c →
    v.rights c t ≠ none → opRow c.frame.opcode = none → exec i s = .next (v.reject c stBadOpcode).done) ∧
  (∀ t, Heard s op c t v →
    (v.rights c t = none → exec i s = .next (v.reject c stAuthFail).done) ∧
    (v.rights c t ≠ none → t = .broadcast → broadcastOp op = false → exec i s = .next (v.reject c stBadOpcode).done) ∧
    (∀ r, v.rights c t = some r → (t = .broadcast → broadcastOp op = true) → v.allowed c t r = false →
      exec i s = .next (v.reject c stDenied).done)) ∧
  (∀ t r row, Allowed s op c t r row v →
    (∀ e, c.frame.retry = true → v.cached c.frame = some e → exec i s = .next (v.resendReply c e).done) ∧
    (c.frame.retry = true → v.cached c.frame = none →
      v.cmd.service.any (fun e => sameIdentity e.cmd.frame c.frame) = true → exec i s = .next v.done) ∧
    (c.frame.retry = false →
      (row.inMode v.mode = false → exec i s = .next (v.reject c stNotInMode).done) ∧
      (row.inMode v.mode = true → 512 ≤ v.cmd.service.length → exec i s = .next (v.reject c stNoCredit).done))) ∧
  (∀ t r, Accepted s op c t r x u → s.mustWait s.cmd.service c.frame = true → exec i s = .next u.done) ∧
  (∀ t r, Begun s op c t r x u →
    (c.via = .localLogic → c.frame.dstNode ≠ u.ownNode → exec i s = .next (u.turnedAway c stBadParam).done) ∧
    ((c.via = .localLogic → c.frame.dstNode = u.ownNode) →
      (∀ st, u.refused57 c.frame (r == .maintain) = some (st, false) → exec i s = .next (u.turnedAway c st).done) ∧
      (∀ st, u.refused57 c.frame (r == .maintain) = some (st, true) → st = stBadParam ∧
        exec i s = .next ((u.sat F.CTL_DENYCNT_BADADDR_CNT).turnedAway c st).done) ∧
      (u.refused57 c.frame (r == .maintain) = none → c.frame.poison = true →
        exec i s = .next (u.turnedAway c stPoisoned).done))) ∧
  (∀ (f : Frame) (a : Answer), (s.replyFrame f a).ftype = ftReply ∧ (s.replyFrame f a).dstNode = f.srcNode ∧
    (s.replyFrame f a).dstPort = f.srcPort ∧ (s.replyFrame f a).srcNode = f.dstNode ∧ (s.replyFrame f a).srcPort = 0xFF ∧
    (s.replyFrame f a).cls = f.cls ∧ (s.replyFrame f a).dual = f.dual ∧ (s.replyFrame f a).session = f.session ∧
    (s.replyFrame f a).opcode = f.opcode ∧ (s.replyFrame f a).tag = f.tag ∧ (s.replyFrame f a).retry = false ∧
    (s.replyFrame f a).status = a.status ∧ (s.replyFrame f a).w6 = a.w6.getD f.w6 ∧ (s.replyFrame f a).w7 = f.w7 ∧
    (s.replyFrame f a).payload = a.payload ∧ (s.replyFrame f a).lenW = BitVec.ofNat 9 a.payload.length ∧ (s.replyFrame f a).time = BitVec.ofNat 32 s.ringNs) ∧
  (∀ a : Answer, c.via ≠ .localLogic →
    (s.silentTo c.frame false = true ∨ (c.frame.opcode = ocWritePosted ∧ a.status = stOk) → s.answer c false a = s) ∧
    (s.silentTo c.frame false = false → c.frame.opcode ≠ ocWritePosted ∨ a.status ≠ stOk →
      s.answer c false a = (s.sendOwn (s.replyFrame c.frame a)).cachePut c.frame (s.replyFrame c.frame a))) ∧
  (c0.via = .pcie → c.frame.srcNode = s.ownNode ∧ c.frame.srcPort = 5) ∧
  (∀ m, c0.via = .comm m → c.frame.srcNode = s.ownNode ∧ c.frame.srcPort = BitVec.ofNat 8 (6 + m.val)) ∧
  (∀ f g : Frame, ((∃ row, opRow f.opcode = some row ∧ row.retry = .cache) →
      (s.cachePut f g).cached f = some
        { node := f.srcNode, port := f.srcPort, session := f.session, tag := f.tag, opcode := f.opcode
          pair := s.paired && f.dstNode == s.pairNode, reply := g, leaving := s.stillHere g, expires := s.now + 1000000000 }) ∧
    ((∃ row, opRow f.opcode = some row ∧ row.retry ≠ .cache) → s.cachePut f g = s) ∧
    (s.cmd.cache.length ≤ 256 → (s.cachePut f g).cmd.cache.length ≤ 256))

/-- R75 and the rules it rests on, for a command in service in the state `u`.

COMPLETES: exec i s = next t, for every state and operands that meet its conditions on them alone, for i = read, write,
writePosted, readModifyWrite, readBlock, writeBlock. -/
def Obligations.AccessCommands : Prop := ∀ (s u : State) (c0 c : Cmd) (t : Target) (r : Rights) (f : Frame), c = s.sourced c0 → f = c.frame →
  (Served s 0x01 c t r {} u →
    (∀ p, place f.addrOff = some p → (∀ w o, p ≠ .window w o) →
      (∀ x, u.readPlace f.addrView p = some x →
        (c.poisonAt ≠ some 0 → exec (.read c0) s = .next ((u.readMet p).finish c false { payload := [x] }).done) ∧
        (c.poisonAt = some 0 → exec (.read c0) s = .next (((u.readMet p).bump .mgtCnt 1).finish c false
          { status := stPoisoned, payload := [x], poison := true }).done)) ∧
      (u.readPlace f.addrView p = none → exec (.read c0) s =
        .next ((u.readMet p).finish c false { status := stUncorrectable, payload := [0] }).done)) ∧
    (∀ w o, place f.addrOff = some (.window w o) →
      (u.is F.WIN_CFG_ENABLE (w / 2) (w % 2) = false → exec (.read c0) s = .next (u.turnedAway c stBadParam).done) ∧
      (u.is F.WIN_CFG_ENABLE (w / 2) (w % 2) = true → o + 4 ≤ 0x10000000 → u.running (u.winEngine w) = false →
        exec (.read c0) s = .next (u.turnedAway c stBusy).done) ∧
      (u.is F.WIN_CFG_ENABLE (w / 2) (w % 2) = true → o + 4 ≤ 0x10000000 → u.running (u.winEngine w) = true →
        exec (.read c0) s = .next (u.winRequest w
          { cmd := c, write := false, count := 1, off := o, arrival := ((u.serviceOf c).map (·.arrival)).getD u.now }).done))) ∧
  (Served s 0x05 c t r {} u →
    (f.accessCount = none → exec (.readBlock c0) s = .next (u.turnedAway c stBadParam).done) ∧
    (∀ (n : Nat) (ps : List Place) (ws : List Word), f.accessCount = some n → ps.length = n → ws.length = n →
      (∀ w o, place f.addrOff ≠ some (.window w o)) →
      (∀ k < n, place (f.addrOff + 4 * k) = some (ps.getD k (.empty 0)) ∧
        u.readPlace f.addrView (ps.getD k (.empty 0)) = some (ws.getD k 0)) →
      (c.poisonAt = none ∨ c.poisonAt.any (fun k => decide (n ≤ k)) = true →
        exec (.readBlock c0) s = .next ((ps.foldl State.readMet u).finish c false { payload := ws }).done) ∧
      (∀ k, c.poisonAt = some k → k < n → exec (.readBlock c0) s =
        .next (((ps.foldl State.readMet u).bump .mgtCnt 1).finish c false
          { status := stPoisoned, payload := ws.take k }).done))) ∧
  (∀ op i, (op = 0x02 ∧ i = .write c0) ∨ (op = 0x03 ∧ i = .writePosted c0) → Served s op c t r {} u →
    (f.payload.length ≠ 1 → exec i s = .next (u.turnedAway c stBadParam).done) ∧
    (∀ w, f.payload = [w] →
      (∀ g j k, place f.addrOff = some (.reg g j k) →
        (∀ st, u.placeStatus f.addrView (.reg g j k) w (u.session? f.session) = st → st ≠ stOk →
          exec i s = .next (u.turnedAway c st).done) ∧
        (u.placeStatus f.addrView (.reg g j k) w (u.session? f.session) = stOk → g ≠ .islRstCtl →
          exec i s = .next (((u.writeReg f.addrView g j k w).auditWrite f 1 w false).finish c false {}).done) ∧
        (u.placeStatus f.addrView (.reg g j k) w (u.session? f.session) = stOk → g = .islRstCtl → f.addrView = true →
          w.setWidth 21 ≠ (0 : BitVec 21) →
          exec i s = .next (((u.writeReg true g j k w).auditWrite f 1 w false).finish c false
            { after := some (.islands (w.setWidth 21)) }).done)) ∧
      (∀ o, place f.addrOff = some (.empty o) → exec i s = .next ((u.auditWrite f 1 w false).finish c false {}).done) ∧
      (∀ b, place f.addrOff = some (.vat b) →
        (op = 0x03 → exec i s = .next (u.turnedAway c stBadParam).done) ∧
        (op = 0x02 → u.mode = .run → exec i s = .next (u.turnedAway c stNotInMode).done) ∧
        (op = 0x02 → u.mode = .commission → u.sw.ueWords.contains (b / 32) = false →
          exec i s = .next ((((((u.meetWords [b / 32]).vatSound (b / 32)).vatWrite b w)).auditWrite f 1 w false).finish
            c false {}).done) ∧
        (op = 0x02 → u.mode = .commission → u.sw.ueWords.contains (b / 32) = true →
          exec i s = .next ((u.ueMet (b / 32)).finish c false { status := stUncorrectable }).done)) ∧
      (∀ n o, place f.addrOff = some (.window n o) → u.mode ≠ .safe → u.is F.WIN_CFG_ENABLE (n / 2) (n % 2) = true →
        o + 4 ≤ 0x10000000 → u.running (u.winEngine n) = true →
        exec i s = .next (u.winRequest n
          { cmd := c, write := true, count := 1, off := o, data := [w],
            arrival := ((u.serviceOf c).map (·.arrival)).getD u.now }).done))) ∧
  (Served s 0x04 c t r {} u →
    (f.payload.length ≠ 2 → exec (.readModifyWrite c0) s = .next (u.turnedAway c stBadParam).done) ∧
    (∀ m v, f.payload = [m, v] → (∀ b, place f.addrOff = some (.vat b) → exec (.readModifyWrite c0) s =
        .next (u.turnedAway c stBadParam).done) ∧
      (∀ w o, place f.addrOff = some (.window w o) → exec (.readModifyWrite c0) s = .next (u.turnedAway c stBadParam).done)) ∧
    (∀ m v g i j z, f.payload = [m, v] → place f.addrOff = some (.reg g i j) → z = u.readMet (.reg g i j) →
      (u.readPlace f.addrView (.reg g i j) = none →
        exec (.readModifyWrite c0) s = .next (z.finish c false { status := stUncorrectable }).done) ∧
      (∀ old w, u.readPlace f.addrView (.reg g i j) = some old → w = (old &&& ~~~m) ||| (v &&& m) →
        (c.poisonAt = some 0 → exec (.readModifyWrite c0) s = .next ((z.bump .mgtCnt 1).finish c false
          { status := stPoisoned, payload := [old], poison := true }).done) ∧
        (∀ st, c.poisonAt ≠ some 0 → z.placeStatus f.addrView (.reg g i j) w (z.session? f.session) = st → st ≠ stOk →
          exec (.readModifyWrite c0) s = .next (z.turnedAway c st).done) ∧
        (c.poisonAt ≠ some 0 → z.placeStatus f.addrView (.reg g i j) w (z.session? f.session) = stOk → g ≠ .islRstCtl →
          exec (.readModifyWrite c0) s =
            .next (((z.writeReg f.addrView g i j w).auditWrite f 1 v false).finish c false { payload := [old] }).done)))) ∧
  (Served s 0x06 c t r {} u →
    (f.payload = [] → exec (.writeBlock c0) s = .next (u.turnedAway c stBadParam).done) ∧
    (∀ b, f.payload ≠ [] → place f.addrOff = some (.vat b) →
      exec (.writeBlock c0) s = .next (u.turnedAway c stBadParam).done) ∧
    (∀ w0 w1 g i j g' i' j' u1, f.payload = [w0, w1] → place f.addrOff = some (.reg g i j) →
      place (f.addrOff + 4) = some (.reg g' i' j') → g ≠ .islRstCtl → g' ≠ .islRstCtl →
      u.placeStatus f.addrView (.reg g i j) w0 (u.session? f.session) = stOk → u1 = u.writeReg f.addrView g i j w0 →
      (u1.placeStatus f.addrView (.reg g' i' j') w1 (u.session? f.session) = stOk → exec (.writeBlock c0) s =
        .next (((u1.writeReg f.addrView g' i' j' w1).auditWrite f 2 w0 false).finish c false {}).done) ∧
      (∀ st, u1.placeStatus f.addrView (.reg g' i' j') w1 (u.session? f.session) = st → st ≠ stOk →
        exec (.writeBlock c0) s = .next (u.turnedAway c st).done))) ∧
  (∀ (p : Bool) (g : Reg) (i j l b o : Nat),
    (g ≠ .swcFwdAct → g ≠ .swcFwdShd → u.readPlace p (.reg g i j) = some (u.readReg p g i j) ∧ u.readMet (.reg g i j) = u) ∧
    (∀ k, (g = .swcFwdAct ∧ k = i) ∨ (g = .swcFwdShd ∧ k = 256 + i) → u.readMet (.reg g i j) = u.fwdRead k ∧
      u.readPlace p (.reg g i j) = (if u.fwdLost k = true then none else some (u.readReg p g i j)) ∧
      (u.fwdLost k = true ↔ k ∈ u.sw.fwdBad ∨ 2 < tget 0 u.sw.fwdErr k)) ∧
    u.readPlace p (.bank l g i) = some (u.bankRead l) ∧ u.readMet (.bank l g i) = u ∧
    u.readPlace p (.empty o) = some 0 ∧ u.readMet (.empty o) = u ∧
    u.readPlace p (.vat b) = (if b / 32 ∈ u.sw.ueWords then none else some (mreadWord u.sw.vat b)) ∧
    (b / 32 ∈ u.sw.ueWords → u.readMet (.vat b) = u.ueMet (b / 32)) ∧
    (b / 32 ∉ u.sw.ueWords → tfind u.sw.ceWords (b / 32) = none → u.readMet (.vat b) = u)) ∧
  (∀ b w, mreadWord (u.vatWrite b w).sw.vat b = w ∧
    (∀ a, a < b ∨ b + 4 ≤ a → mread (u.vatWrite b w).sw.vat a = mread u.sw.vat a) ∧ (u.vatWrite b w).regs = u.regs)

/-- R79-R81, R89, R182, R190, for a command in service in the state `u`.

COMPLETES: exec i s = next t, for every state and operands that meet its conditions on them alone, for i = portSend,
portConfig, portFlush, applyAt, sampleAt, snapshotAt, tableFence. -/
def Obligations.PortAndScheduleCommands : Prop := ∀ (s u : State) (c0 c : Cmd) (t : Target) (r : Rights) (f : Frame) (p : Nat),
  c = s.sourced c0 → f = c.frame → p = f.portOp →
  (Served s 0x10 c t r {} u →
    (p < 6 ∨ 121 < p ∨ u.portDataOk p f.payload f.bytesOp = false →
      exec (.portSend c0) s = .next (u.turnedAway c stBadParam).done) ∧
    (6 ≤ p → p ≤ 121 → u.portDataOk p f.payload f.bytesOp = true →
      (u.portOutOk p = false → exec (.portSend c0) s = .next (u.turnedAway c stNotInMode).done) ∧
      (u.portOutOk p = true → f.payload = [] → p < 58 ∨ u.eis F.ENG_QCFG_TX_LENWORD (p - 58) = false →
        exec (.portSend c0) s = .next (u.finish c false {}).done) ∧
      (u.portOutOk p = true → f.payload ≠ [] ∨ (58 ≤ p ∧ u.eis F.ENG_QCFG_TX_LENWORD (p - 58) = true) → u.portAdmits (8 * p + f.cls.toNat) (portUnit f).size = false →
        exec (.portSend c0) s = .next ((u.bump .swcQdrop (8 * p + f.cls.toNat)).turnedAway c stBusy).done) ∧
      (u.portOutOk p = true → f.payload ≠ [] ∨ (58 ≤ p ∧ u.eis F.ENG_QCFG_TX_LENWORD (p - 58) = true) → u.portAdmits (8 * p + f.cls.toNat) (portUnit f).size = true →
        exec (.portSend c0) s =
          .next ((u.admitUnit (portUnit f) 122 true true true [{ port := p }]).1.finish c false {}).done))) ∧
  (Served s 0x11 c t r {} u →
    (p < 6 ∨ 121 < p ∨ f.payload.length < 3 ∨ 253 < (f.payload.getD 2 0).toNat ∨
      f.payload.length ≠ 3 + (f.payload.getD 2 0).toNat →
      exec (.portConfig c0) s = .next (u.turnedAway c stBadParam).done) ∧
    (∀ (a b n : Word) (rec : List Word), 6 ≤ p → p ≤ 121 → f.payload = a :: b :: n :: rec → n.toNat ≤ 253 →
      rec.length = n.toNat →
      (kindRecord p rec = none → exec (.portConfig c0) s = .next (u.turnedAway c stBadParam).done) ∧
      (∀ l, kindRecord p rec = some l →
        (u.recordBad l = true → exec (.portConfig c0) s = .next (u.turnedAway c stBadParam).done) ∧
        (u.recordBad l = false → u.recordBusy l = true → exec (.portConfig c0) s = .next (u.turnedAway c stBusy).done) ∧
        (u.recordBad l = false → u.recordBusy l = false → exec (.portConfig c0) s =
          .next ((let v := u.recordWrite l
                  { v with ports := tset v.ports p { node := (a >>> 8).setWidth 24, port := a.setWidth 8
                                                     cls := b.setWidth 3, dual := b.getLsbD 8, enable := b.getLsbD 16 } }
                  ).finish c false {}).done)) ∧
      (rec = [] → kindRecord p rec = some [] ∧ u.recordBad [] = false ∧ u.recordBusy [] = false ∧ u.recordWrite [] = u) ∧
      (∀ x y, rec = [x, y] → 58 ≤ p → kindRecord p rec =
        some [(.engQcfg, (p - 58) / 8, (p - 58) % 8, (x &&& 0x3B) ||| (y &&& 0xFFFF7FC0))]))) ∧
  (Served s 0x12 c t r {} u →
    (123 < p → exec (.portFlush c0) s = .next (u.turnedAway c stBadParam).done) ∧
    (p ≤ 123 →
      (f.w7.getLsbD 0 = false → f.w7.getLsbD 1 = false →
        exec (.portFlush c0) s = .next (u.finish c false { w6 := some 0 }).done) ∧
      (f.w7.getLsbD 0 = true → f.w7.getLsbD 1 = false → exec (.portFlush c0) s =
        .next ((u.flushPortTx p).1.finish c false { w6 := some (BitVec.ofNat 32 (u.flushPortTx p).2) }).done) ∧
      (f.w7.getLsbD 0 = false → f.w7.getLsbD 1 = true →
        exec (.portFlush c0) s = .next ((u.flushPortRx p).finish c false { w6 := some 0 }).done) ∧
      (f.w7.getLsbD 0 = true → f.w7.getLsbD 1 = true → exec (.portFlush c0) s =
        .next (((u.flushPortTx p).1.flushPortRx p).finish c false
          { w6 := some (BitVec.ofNat 32 (u.flushPortTx p).2) }).done))) ∧
  (∀ n < 64, ((u.flushPortTx (58 + n)).1.eng n).path = [] ∧ ((u.flushPortTx (58 + n)).1.eng n).txn = 0 ∧
    ((u.eng n).took.any (fun k => k.at_ / 4 == u.now / 4) = false →
      ((u.flushPortTx (58 + n)).1.eng n).rxq = (u.eng n).rxq) ∧
    ((u.eng n).rxq.all (fun q => q.at_ / 4 != u.now / 4) = true → (u.eng n).stallAt.any (fun k => k / 4 == u.now / 4) = false →
      ((u.flushPortRx (58 + n)).eng n).rxq = [] ∧ ((u.flushPortRx (58 + n)).eng n).path = (u.eng n).path)) ∧
  (∀ (op : BitVec 8) (k : Nat) (i : Instr) (e : Entry),
    (op = 0x18 ∧ k = 1 ∧ i = .applyAt c0) ∨ (op = 0x19 ∧ k = 2 ∧ i = .sampleAt c0) → e = u.entryOf k f →
    Served s op c t r {} u →
    (u.timeInvalid = true → exec i s = .next (u.turnedAway c stNotInMode).done) ∧
    (u.timeInvalid = false → u.actionBad (k == 1) e = true → exec i s = .next (u.turnedAway c stBadParam).done) ∧
    (u.timeInvalid = false → u.actionBad (k == 1) e = false → u.actionOutOk e = false →
      exec i s = .next (u.turnedAway c stNotInMode).done) ∧
    (u.timeInvalid = false → u.actionBad (k == 1) e = false → u.actionOutOk e = true →
      (u.leadOk f.time = false → exec i s = .next (u.turnedAway c stTooLate).done) ∧
      (u.leadOk f.time = true → u.freeEntry = none → exec i s = .next (u.turnedAway c stBusy).done) ∧
      (∀ n, u.leadOk f.time = true → u.freeEntry = some n →
        exec i s = .next ((u.enterEntry n e).finish c false { w6 := some (BitVec.ofNat 32 n) }).done))) ∧
  (∀ e, e = { u.entryOf 3 f with port := 0, action := 0, notify := false, id := f.w6.bits 15 0, data := [] } →
    Served s 0x1A c t r {} u →
    (u.timeInvalid = true → exec (.snapshotAt c0) s = .next (u.turnedAway c stNotInMode).done) ∧
    (u.timeInvalid = false → u.leadOk f.time = false → exec (.snapshotAt c0) s = .next (u.turnedAway c stTooLate).done) ∧
    (u.timeInvalid = false → u.leadOk f.time = true → u.freeEntry = none →
      exec (.snapshotAt c0) s = .next (u.turnedAway c stBusy).done) ∧
    (∀ n, u.timeInvalid = false → u.leadOk f.time = true → u.freeEntry = some n → exec (.snapshotAt c0) s =
      .next ((((u.enterEntry n e).markSeen (f.w6.bits 15 0) f.time).floodSnap (f.w6.bits 15 0) f.time
        (u.enterEntry n e).ownNode none).finish c false { w6 := some (BitVec.ofNat 32 n) }).done)) ∧
  (∀ n e, tfind (u.enterEntry n e).sched n = some e ∧
    (u.freeEntry = some n → n < 256 ∧ tfind u.sched n = none ∧ ∀ m < n, (tfind u.sched m).isSome = true) ∧
    (u.freeEntry = none → ∀ m < 256, (tfind u.sched m).isSome = true)) ∧
  (∀ g, g = u.get F.SWC_FWD_CTL_GEN → Served s 0x58 c t r {} u →
    (u.fenceClear g = true →
      exec (.tableFence c0) s = .next (u.finish c false { w6 := some (BitVec.ofNat 32 g) }).done) ∧
    (u.fenceClear g = false → exec (.tableFence c0) s = .next ({ u with cmd := { u.cmd with
      fences := u.cmd.fences ++ ([{ cmd := c, gen := g
                                    until_ := ((u.serviceOf c).map Service.arrival).getD u.now + 5000000 }] : List Fence) } }
      ).done))

/-- R82-R86, R88, R90, R91 and the rules they rest on, for a command in service in the state `u`.

COMPLETES: exec i s = next t, for every state and operands that meet its conditions on them alone, for i = sessionOpen,
sessionClose, profileSelect, profileStore, selftestReq, healthGet, faultAck, safeEnter, safeLeave, timeStep, timeRate,
stepRearm, pairHandover, pairStatus, logRead, echo. -/
def Obligations.HubCommands : Prop := ∀ (s u : State) (c0 c : Cmd) (t : Target) (r : Rights) (f : Frame), c = s.sourced c0 → f = c.frame →
  (∀ (x : KeyExchange) (maint : Bool) (old : Option Session) (w : State) (a : Answer), maint = f.w6.getLsbD 0 →
    old = (if f.session = 0 then none else u.session? f.session) → Served s 0x20 c t r x u →
    (u.sessionsFull maint old = true → exec (.sessionOpen c0 x) s = .next (u.turnedAway c stBusy).done) ∧
    (u.sessionsFull maint old = false → u.exchangeOk f maint x = false →
      exec (.sessionOpen c0 x) s = .next (u.turnedAway c stAuthFail).done) ∧
    (u.sessionsFull maint old = false → u.exchangeOk f maint x = true → u.cmd.sessions.length + u.cmd.gone.length < 65534 →
      (w, a) = u.openSession f x → exec (.sessionOpen c0 x) s = .next (w.finish c false a).done ∧
      ∃ n : BitVec 16, n ≠ 0 ∧ n ≠ 0xFFFF ∧ u.session? n = none ∧ a.status = stOk ∧ a.w6 = some (n.setWidth 32) ∧
        a.payload.length = 41 ∧ (w.session? n).any (fun y => y.maint == maint && !y.closing && !y.accepted) = true ∧
        a.after = some (.opened n (old.map (·.num))))) ∧
  (Served s 0x21 c t r {} u → exec (.sessionClose c0) s = .next ((u.closeSession f.session 1).finish c false {}).done ∧
    (u.closeSession f.session 1).session? f.session = none) ∧
  (∀ p, p = f.w6.bits 1 0 → Served s 0x28 c t r {} u →
    (u.is F.SEC_STAT_DEBUG_OPEN = true → exec (.profileSelect c0) s = .next (u.turnedAway c stNotInMode).done) ∧
    (u.is F.SEC_STAT_DEBUG_OPEN = false → (tget ({} : Profile) u.profiles p).valid = false →
      exec (.profileSelect c0) s = .next (u.turnedAway c stBadParam).done) ∧
    (u.is F.SEC_STAT_DEBUG_OPEN = false → (tget ({} : Profile) u.profiles p).valid = true →
      exec (.profileSelect c0) s = .next (u.finish c false { after := some (.profile p) }).done)) ∧
  (Served s 0x29 c t r {} u →
    (u.updateBusy = true → exec (.profileStore c0) s = .next (u.turnedAway c stBusy).done) ∧
    (u.updateBusy = false → exec (.profileStore c0) s =
      .next (State.finish { u with upd := { u.upd with storing := some (c, f.w6.bits 1 0, u.profileRecords) } } c false
        { bg := true }).done)) ∧
  (∀ k, k = f.w6.bits 7 0 → Served s 0x30 c t r {} u →
    (k ∉ [1, 2, 3, 4, 16, 17, 18, 19] ∨ (k = 2 ∧ 4 < f.w7.bits 2 0) →
      exec (.selftestReq c0) s = .next (u.turnedAway c stBadParam).done) ∧
    (k ∈ [16, 17, 18, 19] → u.mode = .run → exec (.selftestReq c0) s = .next (u.turnedAway c stNotInMode).done) ∧
    (k ∈ [1, 3, 4, 16, 17, 18, 19] ∨ (k = 2 ∧ f.w7.bits 2 0 ≤ 4) → k < 16 ∨ u.mode ≠ .run →
      (u.testRuns k = true → exec (.selftestReq c0) s = .next (u.turnedAway c stBusy).done) ∧
      (u.testRuns k = false → exec (.selftestReq c0) s = .next (u.finish c false { bg := true }).done))) ∧
  (∀ ws v, (ws, v) = u.healthWords (r == .maintain) → Served s 0x31 c t r {} u →
    exec (.healthGet c0) s = .next (v.finish c false { payload := ws }).done ∧ v = { u with freeIx := u.freeIx + 1 } ∧
    ws.length = 8 ∧ ws.getD 0 0 = v.readReg (r == .maintain) .ctlState 0 0 ∧ ws.getD 1 0 = v.liveRead .ctlRstcause 0 0 ∧
    (u.cmd.service.find? (·.working) = none → ws.getD 5 0 = 0) ∧ ws.getD 6 0 = BitVec.ofNat 32 v.pairRole ∧
    ws.getD 7 0 = BitVec.ofNat 32 ((u.now - u.boot.lastReset) / 1000000000)) ∧
  (∀ k, k = f.w6.bits 7 0 → Served s 0x38 c t r {} u →
    (fltRow k = none → exec (.faultAck c0) s = .next (u.turnedAway c stBadParam).done) ∧
    (fltRow k ≠ none → exec (.faultAck c0) s = .next ((u.faultAck k (f.w7.getLsbD 0)).finish c false {}).done) ∧
    (k ≠ 1 → (u.deadline (.grace k)).any (fun d => decide (d / 40 ≤ u.now / 40)) = false →
      (u.is F.FLT_SRC_STAT_LATCHED k = false → u.is F.FLT_SRC_STAT_PENDING k = false → u.faultAck k (f.w7.getLsbD 0) = u) ∧
      (u.is F.FLT_SRC_STAT_LATCHED k = true ∨ u.is F.FLT_SRC_STAT_PENDING k = true → tfind u.flt.lastRaise k = none →
        (u.faultAck k (f.w7.getLsbD 0)).is F.FLT_SRC_STAT_ACKED k = true))) ∧
  (Served s 0x39 c t r {} u →
    exec (.safeEnter c0) s = .next ((u.enterSafe 1 0 (f.w6.bits 15 0)).finish c false {}).done ∧
    (u.mode = .safe → u.enterSafe 1 0 (f.w6.bits 15 0) = u) ∧
    (u.mode = .commission ∨ u.mode = .run → (u.enterSafe 1 0 (f.w6.bits 15 0)).mode = .safe)) ∧
  (Served s 0x3A c t r {} u →
    (u.safeHeld = true → exec (.safeLeave c0) s = .next (u.turnedAway c stBusy).done) ∧
    (u.safeHeld = false → exec (.safeLeave c0) s = .next (u.leaveSafe.finish c false {}).done ∧
      u.leaveSafe.mode = if u.get F.FLT_SAFE_FROM = Mode.commission.code then .commission else .run)) ∧
  (Served s 0x50 c t r {} u →
    (u.tst ≠ tsMaster ∨ f.w6 = 0x80000000 → exec (.timeStep c0) s = .next (u.turnedAway c stBadParam).done) ∧
    (u.tst = tsMaster → f.w6 ≠ 0x80000000 → u.is F.TIM_STAT_STEP_LOCK = true →
      exec (.timeStep c0) s = .next (u.turnedAway c stStepLocked).done) ∧
    (∀ n, u.tst = tsMaster → f.w6 ≠ 0x80000000 → u.is F.TIM_STAT_STEP_LOCK = false →
      n = (if u.get F.TIM_STEP_STEP_SEQ = 255 then 1 else u.get F.TIM_STEP_STEP_SEQ + 1) →
      exec (.timeStep c0) s = .next (((u.put F.TIM_STAT_STEP_LOCK 1).pendStep n f.w6 (BitVec.ofNat 32 (u.ring64 + 100000000))
        (u.ring64 + 100000000)).finish c false {}).done)) ∧
  (Served s 0x51 c t r {} u →
    (u.tst ≠ tsMaster ∨ f.w6.toNat < 0x1FFBE76D ∨ 0x20041893 < f.w6.toNat →
      exec (.timeRate c0) s = .next (u.turnedAway c stBadParam).done) ∧
    (u.tst = tsMaster → 0x1FFBE76D ≤ f.w6.toNat → f.w6.toNat ≤ 0x20041893 →
      exec (.timeRate c0) s = .next ((u.wr .timInc 0 0 f.w6).finish c false {}).done)) ∧
  (Served s 0x52 c t r {} u →
    exec (.stepRearm c0) s = .next ((u.put F.TIM_STAT_STEP_LOCK 0).finish c false {}).done) ∧
  (Served s 0x60 c t r {} u →
    (u.canHandOver = false → exec (.pairHandover c0) s = .next (u.turnedAway c stBusy).done) ∧
    (∀ j, u.canHandOver = true → u.pair.join = some j → j.compat ≠ u.compatCrc →
      exec (.pairHandover c0) s = .next (u.turnedAway c stIncompatible).done) ∧
    (u.canHandOver = true → (∀ j, u.pair.join = some j → j.compat = u.compatCrc) →
      exec (.pairHandover c0) s = .next (State.startHandover (if f.dstNode = u.ownNode then
        { u with pair := { u.pair with answer := some c } } else u.unserve c) (some c)).done)) ∧
  (Served s 0x61 c t r {} u → exec (.pairStatus c0) s = .next (u.finish c false { payload :=
    [u.liveRead .parStat 0 0, u.liveRead .parPartner 0 0, u.liveRead .parOrder 0 0, u.liveRead .parLastTime 0 0] }).done) ∧
  (∀ all recs : List LogRec, all = (if f.logSrcOp then u.mgt.flashLog else u.mgt.ramLog.map (·.1)) →
    recs = ((if r = .maintain then all else all.filter (fun x => !x.audit)).drop f.logIndexOp).take f.logCountOp →
    Served s 0x70 c t r {} u →
    (f.logCountOp < 1 ∨ 16 < f.logCountOp ∨ recs = [] →
      exec (.logRead c0) s = .next (u.turnedAway c stBadParam).done) ∧
    (1 ≤ f.logCountOp → f.logCountOp ≤ 16 → recs ≠ [] → f.logSrcOp = false ∨ c.recordOk = true →
      exec (.logRead c0) s = .next (u.finish c false { payload := recs.flatMap LogRec.words }).done) ∧
    (1 ≤ f.logCountOp → f.logCountOp ≤ 16 → recs ≠ [] → f.logSrcOp = true → c.recordOk = false →
      ∃ k < recs.length, exec (.logRead c0) s = .next (State.finish { u with freeIx := u.freeIx + 1 } c false
        { status := stUncorrectable, payload := (recs.take k).flatMap LogRec.words }).done)) ∧
  (Served s 0x7E c t r {} u →
    (isBroadcast f.dstNode = false → exec (.echo c0) s = .next (u.finish c false { payload := f.payload }).done) ∧
    (isBroadcast f.dstNode = true → exec (.echo c0) s = .next ((u.sendOwn { u.event u.ownNode 0xFF f.srcNode f.srcPort.toNat
      f.cls.toNat f.dual f.payload with opcode := ocEcho, tag := f.tag, w6 := f.w6, w7 := f.w7 }).finish c false {}).done))

/-- R87, R428-R430, R437-R439, for a command in service in the state `u`.

COMPLETES: exec i s = next t, for every state and operands that meet its conditions on them alone, for i = updateBegin,
updateBlock, updateVerify, updateActivate, updateConfirm, updateRelay, updateAbort. -/
def Obligations.UpdateCommands : Prop := ∀ (s u : State) (c0 c : Cmd) (t : Target) (r : Rights) (f : Frame), c = s.sourced c0 → f = c.frame →
  (∀ h, h = headOf (wordByte f.payload) → Served s 0x40 c t r {} u →
    (u.updateBusy = true → exec (.updateBegin c0) s = .next (u.turnedAway c stBusy).done) ∧
    (u.updateBusy = false → f.payload.length ≠ 64 ∨ headFormOk (wordByte f.payload) f.w6.toNat = false →
      exec (.updateBegin c0) s = .next (u.turnedAway c stBadParam).done) ∧
    (u.updateBusy = false → f.payload.length = 64 → headFormOk (wordByte f.payload) f.w6.toNat = true →
      ((h.kind = 1 ∧ u.onTrial = true) ∨ (h.kind = 2 ∧ u.boot.noProfile = false ∧ u.get F.CTL_STATE_ACTIVE_PROF = h.target) →
        exec (.updateBegin c0) s = .next (u.turnedAway c stBusy).done) ∧
      (¬ (h.kind = 1 ∧ u.onTrial = true) →
        ¬ (h.kind = 2 ∧ u.boot.noProfile = false ∧ u.get F.CTL_STATE_ACTIVE_PROF = h.target) →
        (u.headCompatible h = false → exec (.updateBegin c0) s = .next (u.turnedAway c stIncompatible).done) ∧
        (∀ n v w, u.headCompatible h = true → n = (if h.kind = 1 then (u.openTarget h).updateSlot else h.target) →
          v = u.openTarget h → w = { v with upd := { v.upd with open_ := some { session := f.session, kind := h.kind, target := n
                                                                                length := h.length, erasing := true } } } →
          exec (.updateBegin c0) s = .next ((w.disarm .recoveryPull).finish c false { w6 := some (w.beginWord h) }).done ∧
          (h.kind = 1 → w.slot u.updateSlot = { state := slIncomplete, head := h } ∧
            w.slot (1 - u.updateSlot) = u.slot (1 - u.updateSlot)))))) ∧
  (Served s 0x41 c t r {} u →
    (u.upd.open_ = none → exec (.updateBlock c0) s = .next (u.turnedAway c stBadParam).done) ∧
    (∀ v, u.upd.open_ = some v →
      (v.session ≠ f.session ∨ v.erasing = true ∨ v.verify ≠ none →
        exec (.updateBlock c0) s = .next (u.turnedAway c stBusy).done) ∧
      (v.session = f.session → v.erasing = false → v.verify = none →
        (f.w6.toNat % 4 ≠ 0 ∨ v.length < f.w6.toNat + 4 * f.payload.length ∨
          clashes (u.updTarget v) f.w6.toNat f.payload = true →
          exec (.updateBlock c0) s = .next (u.turnedAway c stBadParam).done) ∧
        (f.w6.toNat % 4 = 0 → f.w6.toNat + 4 * f.payload.length ≤ v.length →
          clashes (u.updTarget v) f.w6.toNat f.payload = false →
          (c.recordOk = true → exec (.updateBlock c0) s =
            .next ((u.setUpdTarget v (programAt (u.updTarget v) f.w6.toNat f.payload)).finish c false {}).done) ∧
          (c.recordOk = false → ∃ ws : List Word, ws.length = f.payload.length ∧
            Does (.updateBlock c0) s (fun z => ∃ y : State, y.updTarget v = programAt (u.updTarget v) f.w6.toNat ws ∧
              z = y.finish c false { status := stUncorrectable })))))) ∧
  (Served s 0x42 c t r {} u →
    (u.upd.open_ = none → exec (.updateVerify c0) s = .next (u.turnedAway c stBadParam).done) ∧
    (∀ v, u.upd.open_ = some v →
      (v.session ≠ f.session ∨ v.erasing = true ∨ v.verify ≠ none →
        exec (.updateVerify c0) s = .next (u.turnedAway c stBusy).done) ∧
      (v.session = f.session → v.erasing = false → v.verify = none →
        exec (.updateVerify c0) s = .next ((u.verifyStart v (some c)).finish c false { bg := true }).done ∧
        (u.verifyStart v (some c)).upd.open_ = some { v with verify := some c }))) ∧
  (Served s 0x43 c t r {} u →
    (∀ v, u.upd.open_ = some v →
      (v.session ≠ f.session → exec (.updateActivate c0) s = .next (u.turnedAway c stBusy).done) ∧
      (v.session = f.session → (u.updTarget v).state ≠ slVerified →
        exec (.updateActivate c0) s = .next (u.turnedAway c stBadParam).done) ∧
      (v.session = f.session → (u.updTarget v).state = slVerified → v.kind = 1 →
        (u.activateOk (u.updTarget v).head = false →
          exec (.updateActivate c0) s = .next (u.turnedAway c stIncompatible).done) ∧
        (u.activateOk (u.updTarget v).head = true → exec (.updateActivate c0) s =
          .next ((State.activateSlot { u with upd := { u.upd with open_ := none } } v.target).finish c false
            { after := if u.mode = .recovery then some .chip else none }).done))) ∧
    (u.upd.open_ = none →
      (u.slotState u.updateSlot ≠ slVerified → exec (.updateActivate c0) s = .next (u.turnedAway c stBadParam).done) ∧
      (u.slotState u.updateSlot = slVerified → u.activateOk (u.slot u.updateSlot).head = false →
        exec (.updateActivate c0) s = .next (u.turnedAway c stIncompatible).done) ∧
      (u.slotState u.updateSlot = slVerified → u.activateOk (u.slot u.updateSlot).head = true →
        exec (.updateActivate c0) s = .next ((u.activateSlot u.updateSlot).finish c false
          { after := if u.mode = .recovery then some .chip else none }).done)) ∧
    (∀ n < 2, (u.activateSlot n).slotState n = slTrial ∧ (u.activateSlot n).upd.trialCnt = 0 ∧
      (u.activateSlot n).slot (1 - n) = u.slot (1 - n))) ∧
  (Served s 0x44 c t r {} u →
    exec (.updateConfirm c0) s = .next (u.updateConfirm.finish c false {}).done ∧ (u.runTrial = false → u.updateConfirm = u) ∧
    (u.runTrial = true → u.updateConfirm.slotState u.runSlot = slGood ∧ u.updateConfirm.runTrial = false ∧
      u.updateConfirm.upd.bootSlot = u.runSlot ∧
      u.updateConfirm.sec.count = max u.sec.count (u.slot u.runSlot).head.rollback)) ∧
  (Served s 0x45 c t r {} u →
    (u.updateBusy = true ∨ u.onTrial = true → exec (.updateRelay c0) s = .next (u.turnedAway c stBusy).done) ∧
    (u.updateBusy = false → u.onTrial = false →
      (u.relayLane (BitVec.ofNat 24 (f.w6.bits 23 0)) = none →
        exec (.updateRelay c0) s = .next (u.turnedAway c stBadParam).done) ∧
      (∀ l, u.relayLane (BitVec.ofNat 24 (f.w6.bits 23 0)) = some l → exec (.updateRelay c0) s =
        .next ((u.startPull { cmd := some c, node := BitVec.ofNat 24 (f.w6.bits 23 0), lane := l, slot := f.w7.bits 0 0 }).finish
          c false { bg := true }).done))) ∧
  (Served s 0x46 c t r {} u →
    (∀ v, u.upd.open_ = some v →
      (v.session ≠ f.session → exec (.updateAbort c0) s = .next (u.turnedAway c stBusy).done) ∧
      (v.session = f.session → v.verify = none →
        (slVerified ≤ (u.updTarget v).state → exec (.updateAbort c0) s =
          .next (State.finish { u with upd := { u.upd with open_ := none } } c false {}).done) ∧
        ((u.updTarget v).state < slVerified → ∃ w, w = u.setUpdTarget v { u.updTarget v with state := slEmpty } ∧
          exec (.updateAbort c0) s = .next (State.finish { w with upd := { w.upd with open_ := none } } c false {}).done))) ∧
    (u.upd.open_ = none → u.runTrial = false → exec (.updateAbort c0) s = .next (u.finish c false {}).done) ∧
    (u.upd.open_ = none → u.runTrial = true → exec (.updateAbort c0) s =
      .next (State.finish { u with upd := { u.upd with trialCnt := 3 } } c false {}).done))

/-- R92. `u` is the state in which the command is in service, `v` a state at the end of a step.

COMPLETES: exec i s = next t, for every state and operands that meet its conditions on them alone, for i = resetChip. -/
def Obligations.ResetChipCommand : Prop := ∀ (s u v : State) (c0 c : Cmd) (t : Target) (r : Rights) (rf : Frame), c = s.sourced c0 →
  (Served s 0x7F c t r {} u →
    (c.frame.w6 ≠ 0xA5C3 → exec (.resetChip c0) s = .next (u.turnedAway c stBadParam).done ∧
      (u.turnedAway c stBadParam).cmd.after = u.cmd.after) ∧
    (c.frame.w6 = 0xA5C3 → exec (.resetChip c0) s = .next (u.finish c false { after := some .chip }).done ∧
      ∃ f, f.status = stOk ∧ f.ftype = ftReply ∧ f.opcode = c.frame.opcode ∧ f.tag = c.frame.tag ∧
        f.dstNode = c.frame.srcNode ∧ f.dstPort = c.frame.srcPort ∧
        (u.finish c false { after := some .chip }).cmd.after = u.cmd.after ++ [(f, .chip)])) ∧
  (v.cmd.after = [(rf, .chip)] →
    (v.stillHere rf = true → v.runDue = v) ∧
    (v.stillHere rf = false →
      v.runDue = State.chipReset { v with cmd := { v.cmd with after := [] } } .cmd ∧ v.runDue.now = v.now))

/-- R10, R405, R408 and the tables of the chapters; the values of the fused fields and of ISL_CLK_OK are the model's choice (log
entries 17 and 18). -/
def Obligations.ResetValues : Prop :=
  (∀ (g : Reg) (i j : Nat), g ≠ .fltSrcCfg → g ≠ .swcQcfg0 → g ≠ .macCfg →
    (∀ f ∈ g.row.fields, (State.reset.rd g i j).bits f.hi f.lo = f.reset) ∧
    (∀ b, (∀ f ∈ g.row.fields, ¬ (f.lo ≤ b ∧ b ≤ f.hi)) → (State.reset.rd g i j).getLsbD b = false)) ∧
  (∀ i, fltRow i = none → State.reset.rd .fltSrcCfg i = 0) ∧
  (∀ i k x h, fltRow i = some (k, x, h) →
    State.reset.get F.FLT_SRC_CFG_CLASS i = k ∧ State.reset.get F.FLT_SRC_CFG_REACTION i = x) ∧
  (∀ q, State.reset.is F.SWC_QCFG0_PRIV q = decide (q % 8 = 7 ∨ q / 8 = 122)) ∧
  (∀ m, State.reset.get F.MAC_CFG_SPEED m = (if 16 ≤ m then 2 else 0) ∧
    State.reset.is F.MAC_CFG_FULL_DUPLEX m = decide (16 ≤ m)) ∧
  State.reset.mode = .boot ∧ (∀ i < 21, State.reset.isl.rst.getLsbD i = decide (i ≠ 0 ∧ i ≠ 8)) ∧
  State.reset.cmd.sessions = [] ∧ State.reset.cmd.service = [] ∧ State.reset.cmd.cache = [] ∧ State.reset.pending = [] ∧
  State.reset.sw.vat = [] ∧ State.reset.mgt.ramLog = [] ∧ State.reset.sw.units = [] ∧ State.reset.sched = []
end

