-- ==== Sys2Proof/Laws/Queue.lean ====
section
/-!
SUPPORT. No operation of the hub touches the queue of waiting commands: one lemma per operation.
-/
namespace Sys2Proof.Machine

/-! ### State -/

@[simp] theorem foldl_pending {α : Type} (f : State → α → State) (h : ∀ s a, (f s a).pending = s.pending) (l : List α)
    (s : State) : (l.foldl f s).pending = s.pending := by
  induction l generalizing s with
  | nil => rfl
  | cons a l ih => simp [ih, h]
@[simp] theorem foldl_pending_fst {α β : Type} (f : State × β → α → State × β) (h : ∀ p a, (f p a).1.pending = p.1.pending)
    (l : List α) (p : State × β) : (l.foldl f p).1.pending = p.1.pending := by
  induction l generalizing p with
  | nil => rfl
  | cons a l ih => simp [ih, h]
@[simp] theorem foldl_pending_snd {α β : Type} (f : β × State → α → β × State) (h : ∀ p a, (f p a).2.pending = p.2.pending)
    (l : List α) (p : β × State) : (l.foldl f p).2.pending = p.2.pending := by
  induction l generalizing p with
  | nil => rfl
  | cons a l ih => simp [ih, h]

/-! ### Ops -/

@[simp] theorem State.wr_pending (s : State) (r : Reg) (i : Nat) (j : Nat) (w : Word) :
    (State.wr s r i j w).pending = s.pending := by
  simp [State.wr]
@[simp] theorem State.put_pending (s : State) (f : Fld) (v : Nat) (i : Nat) (j : Nat) :
    (State.put s f v i j).pending = s.pending := by
  simp [State.put]
@[simp] theorem State.bump_pending (s : State) (r : Reg) (i : Nat) (j : Nat) (n : Nat) :
    (State.bump s r i j n).pending = s.pending := by
  simp [State.bump]
@[simp] theorem State.sat_pending (s : State) (f : Fld) (i : Nat) (j : Nat) : (State.sat s f i j).pending = s.pending := by
  simp [State.sat, apply_ite State.pending]
@[simp] theorem State.timClocks_pending (s : State) (n : Nat) : (State.timClocks s n).pending = s.pending := by
  simp [State.timClocks, apply_ite State.pending]
@[simp] theorem State.advance_pending (s : State) (dt : Nat) : (State.advance s dt).pending = s.pending := by
  simp [State.advance]
@[simp] theorem State.advanceRing_pending (s : State) (t : Nat) : (State.advanceRing s t).pending = s.pending := by
  simp [State.advanceRing, apply_ite State.pending]
@[simp] theorem State.disarm_pending (s : State) (t : Timer) : (State.disarm s t).pending = s.pending := by
  simp [State.disarm]
@[simp] theorem State.arm_pending (s : State) (t : Timer) (d : Nat) : (State.arm s t d).pending = s.pending := by
  simp [State.arm]
theorem State.expire_pending (s : State) (t : Timer) : ∀ tx, State.expire s t = some tx → tx.pending = s.pending := by
  unfold State.expire; split <;> simp [apply_ite State.pending]
theorem State.expire_pending_of (s : State) (t : Timer) {tx : State} (h : State.expire s t = some tx) : tx.pending = s.pending :=
  State.expire_pending s t tx h
@[simp] theorem State.disarmAll_pending (s : State) (p : Timer → Bool) : (State.disarmAll s p).pending = s.pending := by
  simp [State.disarmAll]
@[simp] theorem State.fresh_pending (s : State) : ((State.fresh s).2).pending = s.pending := by
  simp [State.fresh]
theorem State.fresh_pending_of (s : State) {sx : Word} {qx : State} (h : State.fresh s = (sx, qx)) : qx.pending = s.pending := by
  have e := State.fresh_pending s
  rw [h] at e
  exact e
@[simp] theorem State.freshWords_pending (x0 : Nat) (x1 : State) : ((State.freshWords x0 x1).2).pending = x1.pending := by
  induction x0 generalizing x1 <;> simp_all [State.freshWords, apply_ite State.pending]
theorem State.freshWords_pending_of (x0 : Nat) (x1 : State) {sx : List Word} {qx : State} (h : State.freshWords x0 x1 = (sx, qx)) : qx.pending = x1.pending := by
  have e := State.freshWords_pending x0 x1
  rw [h] at e
  exact e
@[simp] theorem State.freeIn_pending (s : State) (lo : Nat) (hi : Nat) : ((State.freeIn s lo hi).2).pending = s.pending := by
  simp [State.freeIn]
theorem State.freeIn_pending_of (s : State) (lo : Nat) (hi : Nat) {sx : Nat} {qx : State} (h : State.freeIn s lo hi = (sx, qx)) : qx.pending = s.pending := by
  have e := State.freeIn_pending s lo hi
  rw [h] at e
  exact e
@[simp] theorem State.enqueue_pending (s : State) (x : UnitIn) : (State.enqueue s x).pending = s.pending := by
  simp [State.enqueue]
@[simp] theorem State.emit_pending (s : State) (f : Frame) (inPort : Nat) (slot : (Option Nat)) :
    (State.emit s f inPort slot).pending = s.pending := by
  simp [State.emit]
@[simp] theorem State.emitOut_pending (s : State) (f : Frame) (inPort : Nat) :
    (State.emitOut s f inPort).pending = s.pending := by
  simp [State.emitOut, apply_ite State.pending]
@[simp] theorem State.mirrorOne_pending (s : State) : (State.mirrorOne s).pending = s.pending := by
  unfold State.mirrorOne; split <;> simp [apply_ite State.pending]
@[simp] theorem State.log_pending (s : State) (audit : Bool) (cls : Nat) (origin : Nat) (source : Nat) (code : Nat) (who : Who) (data : List Word) :
    (State.log s audit cls origin source code who data).pending = s.pending := by
  simp [State.log, apply_ite State.pending]

/-! ### Flags -/

@[simp] theorem State.updateAlive_pending (s : State) : (State.updateAlive s).pending = s.pending := by
  simp [State.updateAlive, apply_ite State.pending]
@[simp] theorem State.faultPulse_pending (s : State) : (State.faultPulse s).pending = s.pending := by
  unfold State.faultPulse; grind [→ State.freeIn_pending_of, State.arm_pending, State.bump_pending]
@[simp] theorem State.faultEvent_pending (s : State) (kind : Nat) (src : Nat) (reaction : Nat) :
    (State.faultEvent s kind src reaction).pending = s.pending := by
  simp [State.faultEvent, apply_ite State.pending]
@[simp] theorem State.raiseEvent_pending (s : State) (src : Nat) : (State.raiseEvent s src).pending = s.pending := by
  simp [State.raiseEvent, apply_ite State.pending]
@[simp] theorem State.faultRecord_pending (s : State) (src : Nat) (raised : Bool) :
    (State.faultRecord s src raised).pending = s.pending := by
  simp [State.faultRecord, apply_ite State.pending]
@[simp] theorem State.raiseCore_pending (s : State) (src : Nat) (inst : Nat) :
    (State.raiseCore s src inst).pending = s.pending := by
  simp [State.raiseCore, apply_ite State.pending]
@[simp] theorem State.raise_pending (s : State) (src : Nat) (inst : Nat) : (State.raise s src inst).pending = s.pending := by
  simp [State.raise, apply_ite State.pending]
@[simp] theorem State.setLive_pending (s : State) (src : Nat) (inst : Nat) :
    (State.setLive s src inst).pending = s.pending := by
  simp [State.setLive, apply_ite State.pending]
@[simp] theorem State.clearLive_pending (s : State) (src : Nat) (inst : Nat) :
    (State.clearLive s src inst).pending = s.pending := by
  simp [State.clearLive, apply_ite State.pending]
@[simp] theorem State.crossToAon_pending (s : State) (i : Nat) : ((State.crossToAon s i).1).pending = s.pending := by
  unfold State.crossToAon; grind [State.raise_pending, State.bump_pending]
theorem State.crossToAon_pending_of (s : State) (i : Nat) {sx : State} {qx : Bool} (h : State.crossToAon s i = (sx, qx)) : sx.pending = s.pending := by
  have e := State.crossToAon_pending s i
  rw [h] at e
  exact e

/-! ### SwitchOps -/

@[simp] theorem State.setUnit_pending (s : State) (u : Nat) (v : VUnit) : (State.setUnit s u v).pending = s.pending := by
  simp [State.setUnit]
@[simp] theorem State.setQueue_pending (s : State) (q : Nat) (l : List Link) :
    (State.setQueue s q l).pending = s.pending := by
  simp [State.setQueue]
@[simp] theorem State.setResidue_pending (s : State) (q : Nat) (l : List ResEntry) :
    (State.setResidue s q l).pending = s.pending := by
  simp [State.setResidue]
@[simp] theorem State.retireCell_pending (s : State) (c : Nat) : (State.retireCell s c).pending = s.pending := by
  simp [State.retireCell, apply_ite State.pending]
@[simp] theorem State.gc_pending (s : State) (u : Nat) : ((State.gc s u).1).pending = s.pending := by
  unfold State.gc; (repeat' split) <;> simp_all [apply_ite State.pending]
theorem State.gc_pending_of (s : State) (u : Nat) {sx : State} {qx : Nat} (h : State.gc s u = (sx, qx)) : sx.pending = s.pending := by
  have e := State.gc_pending s u
  rw [h] at e
  exact e
@[simp] theorem State.notePeak_pending (s : State) (q : Nat) : (State.notePeak s q).pending = s.pending := by
  simp [State.notePeak, apply_ite State.pending]
@[simp] theorem State.linkQ_pending (s : State) (q : Nat) (l : Link) : (State.linkQ s q l).pending = s.pending := by
  simp [State.linkQ, apply_ite State.pending]
@[simp] theorem State.holdFor_pending (s : State) (u : Nat) (q : Nat) : (State.holdFor s u q).pending = s.pending := by
  simp [State.holdFor]
@[simp] theorem State.loupeCopy_pending (s : State) (m : Nat) (u : Nat) : (State.loupeCopy s m u).pending = s.pending := by
  unfold State.loupeCopy; grind [State.bump_pending, State.setResidue_pending, State.linkQ_pending]
@[simp] theorem State.loupeMark_pending (s : State) (m : Nat) (u : Nat) : (State.loupeMark s m u).pending = s.pending := by
  unfold State.loupeMark; split <;> simp [apply_ite State.pending]
@[simp] theorem State.loupes_pending (s : State) (u : Nat) (p : Nat) (egress : Bool) (f : Frame) :
    (State.loupes s u p egress f).pending = s.pending := by
  simp [State.loupes, apply_ite State.pending]
@[simp] theorem State.linkUnit_pending (s : State) (q : Nat) (u : Nat) (cut : Bool) :
    (State.linkUnit s q u cut).pending = s.pending := by
  unfold State.linkUnit; grind [→ State.gc_pending_of, State.bump_pending, State.linkQ_pending, State.loupes_pending]
@[simp] theorem State.unblock_pending (s : State) (q : Nat) (x2 : Nat) : (State.unblock s q x2).pending = s.pending := by
  (induction x2 generalizing s q) <;> (unfold State.unblock; (repeat' split)) <;> simp_all [apply_ite State.pending]
@[simp] theorem State.unblockAll_pending (s : State) (q : Nat) : (State.unblockAll s q).pending = s.pending := by
  simp [State.unblockAll]
@[simp] theorem State.residueTest_pending (s : State) (q : Nat) (x2 : Nat) :
    (State.residueTest s q x2).pending = s.pending := by
  (induction x2 generalizing s q) <;> (unfold State.residueTest; (repeat' split)) <;> simp_all [apply_ite State.pending]
@[simp] theorem State.unlink_pending (s : State) (q : Nat) (u : Nat) (loupe : Option Nat) :
    ((State.unlink s q u loupe).1).pending = s.pending := by
  simp [State.unlink]
theorem State.unlink_pending_of (s : State) (q : Nat) (u : Nat) (loupe : Option Nat) {sx : State} {qx : Nat} (h : State.unlink s q u loupe = (sx, qx)) : sx.pending = s.pending := by
  have e := State.unlink_pending s q u loupe
  rw [h] at e
  exact e
@[simp] theorem State.dropHolds_pending (s : State) (p : Nat) : ((State.dropHolds s p).1).pending = s.pending := by
  simp [State.dropHolds]
theorem State.dropHolds_pending_of (s : State) (p : Nat) {sx : State} {qx : Nat} (h : State.dropHolds s p = (sx, qx)) : sx.pending = s.pending := by
  have e := State.dropHolds_pending s p
  rw [h] at e
  exact e
@[simp] theorem State.emptyQueue_pending (s : State) (q : Nat) : ((State.emptyQueue s q).1).pending = s.pending := by
  simp [State.emptyQueue]
theorem State.emptyQueue_pending_of (s : State) (q : Nat) {sx : State} {qx : Nat} (h : State.emptyQueue s q = (sx, qx)) : sx.pending = s.pending := by
  have e := State.emptyQueue_pending s q
  rw [h] at e
  exact e
@[simp] theorem State.emptyPort_pending (s : State) (p : Nat) : ((State.emptyPort s p).1).pending = s.pending := by
  simp [State.emptyPort]
theorem State.emptyPort_pending_of (s : State) (p : Nat) {sx : State} {qx : Nat} (h : State.emptyPort s p = (sx, qx)) : sx.pending = s.pending := by
  have e := State.emptyPort_pending s p
  rw [h] at e
  exact e
@[simp] theorem State.transmit_pending (s : State) (p : Nat) (f : Frame) (rind : Word) :
    (State.transmit s p f rind).pending = s.pending := by
  simp [State.transmit, apply_ite State.pending]
@[simp] theorem State.ruined_pending (s : State) (u : Nat) : (State.ruined s u).pending = s.pending := by
  unfold State.ruined; split <;> simp [apply_ite State.pending]
@[simp] theorem State.endCut_pending (s : State) (p : Nat) : ((State.endCut s p).1).pending = s.pending := by
  unfold State.endCut; (repeat' split) <;> simp_all [apply_ite State.pending]
theorem State.endCut_pending_of (s : State) (p : Nat) {sx : State} {qx : Nat} (h : State.endCut s p = (sx, qx)) : sx.pending = s.pending := by
  have e := State.endCut_pending s p
  rw [h] at e
  exact e
@[simp] theorem State.truncate_pending (s : State) (p : Nat) : (State.truncate s p).pending = s.pending := by
  unfold State.truncate; (repeat' split) <;> simp_all [apply_ite State.pending]
@[simp] theorem State.newUnit_pending (s : State) (f : Frame) (inPort : Nat) (own : Bool) (complete : Bool) (authOk : Bool) (tier : Tier) (k : Nat) :
    ((State.newUnit s f inPort own complete authOk tier k).1).pending = s.pending := by
  simp [State.newUnit]
theorem State.newUnit_pending_of (s : State) (f : Frame) (inPort : Nat) (own : Bool) (complete : Bool) (authOk : Bool) (tier : Tier) (k : Nat) {sx : State} {qx : Nat} (h : State.newUnit s f inPort own complete authOk tier k = (sx, qx)) : sx.pending = s.pending := by
  have e := State.newUnit_pending s f inPort own complete authOk tier k
  rw [h] at e
  exact e
@[simp] theorem State.layUnit_pending (s : State) (u : Nat) (tail : List Word) :
    (State.layUnit s u tail).pending = s.pending := by
  unfold State.layUnit; split <;> simp [apply_ite State.pending]
@[simp] theorem State.admitUnit_pending (s : State) (f : Frame) (inPort : Nat) (own complete authOk : Bool) (ds : List Dest) :
  (State.admitUnit s f inPort own complete authOk ds).1.pending = s.pending := by
  unfold State.admitUnit
  simp only []
  split
  · simp
  · simp [apply_ite State.pending]
theorem State.admitUnit_pending_of (s : State) (f : Frame) (inPort : Nat) (own : Bool) (complete : Bool) (authOk : Bool) (ds : List Dest) {sx : State} {qx : Option Nat} (h : State.admitUnit s f inPort own complete authOk ds = (sx, qx)) : sx.pending = s.pending := by
  have e := State.admitUnit_pending s f inPort own complete authOk ds
  rw [h] at e
  exact e

/-! ### PressOps -/

@[simp] theorem State.setCtx_pending (s : State) (k : Nat) (c : PressCtx) : (State.setCtx s k c).pending = s.pending := by
  simp [State.setCtx]
@[simp] theorem State.declareLost_pending (s : State) (k : Nat) (next : Nat) (cause : Nat) (runs : List (Nat × Nat)) :
    (State.declareLost s k next cause runs).pending = s.pending := by
  simp [State.declareLost, apply_ite State.pending]
@[simp] theorem State.linkWaiting_pending (s : State) (u : Nat) (p : Nat → Bool) :
    (State.linkWaiting s u p).pending = s.pending := by
  simp [State.linkWaiting, apply_ite State.pending]
@[simp] theorem State.dropWaiting_pending (s : State) (u : Nat) (p : Nat → Bool) :
    (State.dropWaiting s u p).pending = s.pending := by
  simp [State.dropWaiting]
@[simp] theorem State.deliverLocal_pending (s : State) (u : Nat) : (State.deliverLocal s u).pending = s.pending := by
  unfold State.deliverLocal; split <;> simp [apply_ite State.pending]
@[simp] theorem State.discardLocal_pending (s : State) (u : Nat) : (State.discardLocal s u).pending = s.pending := by
  simp [State.discardLocal]
@[simp] theorem State.pressAdvance_pending (s : State) (k : Nat) (n : Nat) :
    (State.pressAdvance s k n).pending = s.pending := by
  unfold State.pressAdvance; split <;> simp [apply_ite State.pending]
@[simp] theorem State.pressDrain_pending (s : State) (k : Nat) (x2 : Nat) :
    (State.pressDrain s k x2).pending = s.pending := by
  (induction x2 generalizing s k) <;> (unfold State.pressDrain; (repeat' split)) <;> simp_all [apply_ite State.pending]
@[simp] theorem State.startWait_pending (s : State) (k : Nat) (t : Nat) : (State.startWait s k t).pending = s.pending := by
  unfold State.startWait; split <;> simp [apply_ite State.pending]
@[simp] theorem State.pressTimer_pending (s : State) (k : Nat) : (State.pressTimer s k).pending = s.pending := by
  unfold State.pressTimer; (repeat' split) <;> simp_all [apply_ite State.pending]
@[simp] theorem State.pressTouch_pending (s : State) (k : Nat) : (State.pressTouch s k).pending = s.pending := by
  simp [State.pressTouch]
@[simp] theorem State.freeCtx_pending (s : State) (k : Nat) : (State.freeCtx s k).pending = s.pending := by
  unfold State.freeCtx; (repeat' split) <;> simp_all [apply_ite State.pending]
@[simp] theorem State.roomForCtx_pending (s : State) : (State.roomForCtx s).pending = s.pending := by
  unfold State.roomForCtx; (repeat' split) <;> simp_all [apply_ite State.pending]
@[simp] theorem State.pressWindow_pending (s : State) (k : Nat) (u : Nat) (q : Nat) :
    (State.pressWindow s k u q).pending = s.pending := by
  unfold State.pressWindow; split <;> simp [apply_ite State.pending]
@[simp] theorem State.pressArrive_pending (s : State) (u : Nat) (f : Frame) :
    (State.pressArrive s u f).pending = s.pending := by
  unfold State.pressArrive; grind [State.roomForCtx_pending, State.pressTouch_pending, State.deliverLocal_pending, State.setCtx_pending, State.pressWindow_pending, State.declareLost_pending, State.pressDrain_pending, State.pressAdvance_pending, State.pressTimer_pending, State.bump_pending, State.discardLocal_pending]
@[simp] theorem State.pressWaitEnd_pending (s : State) (k : Nat) : (State.pressWaitEnd s k).pending = s.pending := by
  unfold State.pressWaitEnd; grind [State.declareLost_pending, State.pressTouch_pending, State.pressDrain_pending, State.pressAdvance_pending, State.startWait_pending]
@[simp] theorem State.ctxIdle_pending (s : State) (k : Nat) : (State.ctxIdle s k).pending = s.pending := by
  simp [State.ctxIdle, apply_ite State.pending]
@[simp] theorem State.transitArrive_pending (s : State) (f : Frame) : ((State.transitArrive s f).1).pending = s.pending := by
  unfold State.transitArrive; grind [State.roomForCtx_pending, State.pressTouch_pending, State.setCtx_pending, State.bump_pending]
theorem State.transitArrive_pending_of (s : State) (f : Frame) {sx : State} {qx : Transit} (h : State.transitArrive s f = (sx, qx)) : sx.pending = s.pending := by
  have e := State.transitArrive_pending s f
  rw [h] at e
  exact e
@[simp] theorem State.transitNote_pending (s : State) (f : Frame) (u : Nat) (v : Transit) :
    (State.transitNote s f u v).pending = s.pending := by
  unfold State.transitNote; grind [State.setCtx_pending]
@[simp] theorem State.transitEnd_pending (s : State) (f : Frame) (u : Nat) (good : Bool) :
    (State.transitEnd s f u good).pending = s.pending := by
  simp only [State.transitEnd, State.expire]; (repeat' split) <;> simp_all [apply_ite State.pending]

/-! ### OrderOps -/

@[simp] theorem State.orderedSet_pending (s : State) (d1 : BitVec 8) (d2 : BitVec 8) (d3 : BitVec 8) :
    (State.orderedSet s d1 d2 d3).pending = s.pending := by
  simp [State.orderedSet]
@[simp] theorem State.orderSet_pending (s : State) (d1 : BitVec 8) (on : Nat) :
    (State.orderSet s d1 on).pending = s.pending := by
  simp [State.orderSet]
@[simp] theorem State.privateWords_pending (s : State) : ((State.privateWords s).2).pending = s.pending := by
  simp [State.privateWords]
theorem State.privateWords_pending_of (s : State) {sx : List Word} {qx : State} (h : State.privateWords s = (sx, qx)) : qx.pending = s.pending := by
  have e := State.privateWords_pending s
  rw [h] at e
  exact e
@[simp] theorem State.startTransfer_pending (s : State) : (State.startTransfer s).pending = s.pending := by
  simp [State.startTransfer]
@[simp] theorem State.twinDown_pending (s : State) : (State.twinDown s).pending = s.pending := by
  simp [State.twinDown]
@[simp] theorem State.transferAgain_pending (s : State) : (State.transferAgain s).pending = s.pending := by
  simp [State.transferAgain, apply_ite State.pending]
@[simp] theorem State.placeOrder_pending (s : State) (f : Frame) : (State.placeOrder s f).pending = s.pending := by
  simp [State.placeOrder, apply_ite State.pending]
@[simp] theorem State.sendOrder_pending (s : State) (f : Frame) : (State.sendOrder s f).pending = s.pending := by
  simp [State.sendOrder, apply_ite State.pending]
@[simp] theorem State.placeWaiting_pending (s : State) : (State.placeWaiting s).pending = s.pending := by
  simp [State.placeWaiting]
@[simp] theorem State.sendPairOrder_pending (s : State) (kind : Nat) (ws : List Word) :
    (State.sendPairOrder s kind ws).pending = s.pending := by
  simp [State.sendPairOrder]
@[simp] theorem State.progressOrder_pending (s : State) (port : Nat) (outcome : Nat) (seq : BitVec 16) :
    (State.progressOrder s port outcome seq).pending = s.pending := by
  simp [State.progressOrder]
@[simp] theorem State.channelOrder_pending (s : State) (c : Nat) (what : Nat) (code : Nat) :
    (State.channelOrder s c what code).pending = s.pending := by
  simp [State.channelOrder]
@[simp] theorem State.sessionOrder_pending (s : State) : (State.sessionOrder s).pending = s.pending := by
  simp [State.sessionOrder, apply_ite State.pending]
@[simp] theorem State.resendOrders_pending (s : State) (first : Nat) : (State.resendOrders s first).pending = s.pending := by
  simp [State.resendOrders, apply_ite State.pending]
@[simp] theorem State.orderOf_pending (s : State) (f : Frame) : (State.orderOf s f).pending = s.pending := by
  simp [State.orderOf, apply_ite State.pending]

/-! ### RouteOps -/

@[simp] theorem State.setLane_pending (s : State) (l : Nat) (x : LaneS) : (State.setLane s l x).pending = s.pending := by
  simp [State.setLane]
@[simp] theorem State.upPorts_pending (s : State) (dual : Bool) (ps : List Nat) :
    ((State.upPorts s dual ps).1).pending = s.pending := by
  unfold State.upPorts; grind [State.bump_pending]
theorem State.upPorts_pending_of (s : State) (dual : Bool) (ps : List Nat) {sx : State} {qx : List Nat} (h : State.upPorts s dual ps = (sx, qx)) : sx.pending = s.pending := by
  have e := State.upPorts_pending s dual ps
  rw [h] at e
  exact e
@[simp] theorem State.ownDests_pending (s : State) (f : Frame) : ((State.ownDests s f).1).pending = s.pending := by
  unfold State.ownDests; grind [State.bump_pending, → State.upPorts_pending_of]
theorem State.ownDests_pending_of (s : State) (f : Frame) {sx : State} {qx : List Dest} (h : State.ownDests s f = (sx, qx)) : sx.pending = s.pending := by
  have e := State.ownDests_pending s f
  rw [h] at e
  exact e
@[simp] theorem State.spendSessions_pending (s : State) : (State.spendSessions s).pending = s.pending := by
  simp [State.spendSessions, apply_ite State.pending]
@[simp] theorem State.takeSeq_pending (s : State) (f : Frame) : ((State.takeSeq s f).2).pending = s.pending := by
  simp [State.takeSeq]
theorem State.takeSeq_pending_of (s : State) (f : Frame) {sx : Frame} {qx : State} (h : State.takeSeq s f = (sx, qx)) : qx.pending = s.pending := by
  have e := State.takeSeq_pending s f
  rw [h] at e
  exact e
@[simp] theorem State.sealFrame_pending (s : State) (slot : Option Nat) (f : Frame) :
    ((State.sealFrame s slot f).2).pending = s.pending := by
  simp [State.sealFrame]
theorem State.sealFrame_pending_of (s : State) (slot : Option Nat) (f : Frame) {sx : Frame} {qx : State} (h : State.sealFrame s slot f = (sx, qx)) : qx.pending = s.pending := by
  have e := State.sealFrame_pending s slot f
  rw [h] at e
  exact e
@[simp] theorem State.assignSeq_pending (s : State) (u : Nat) (v : VUnit) (slot : (Option Nat)) :
    (State.assignSeq s u v slot).pending = s.pending := by
  unfold State.assignSeq; grind [→ State.takeSeq_pending_of, → State.sealFrame_pending_of, State.spendSessions_pending, State.layUnit_pending, State.setUnit_pending]
@[simp] theorem State.macCount_pending (s : State) (m : Nat) (k : Nat) (n : Nat) :
    (State.macCount s m k n).pending = s.pending := by
  simp [State.macCount, apply_ite State.pending]
@[simp] theorem State.ownDropped_pending (s : State) (p : Nat) : (State.ownDropped s p).pending = s.pending := by
  simp [State.ownDropped, apply_ite State.pending]
@[simp] theorem State.txResult_pending (s : State) (x : UnitIn) (st : Status) (seq : BitVec 16) :
    (State.txResult s x st seq).pending = s.pending := by
  simp [State.txResult, apply_ite State.pending]
@[simp] theorem State.noteSeq_pending (s : State) (f : Frame) (inPort : Nat) :
    (State.noteSeq s f inPort).pending = s.pending := by
  unfold State.noteSeq; (repeat' split) <;> simp_all [apply_ite State.pending]
@[simp] theorem State.fwdRead_pending (s : State) (k : Nat) : (State.fwdRead s k).pending = s.pending := by
  simp [State.fwdRead, apply_ite State.pending]
@[simp] theorem State.tableRead_pending (s : State) (n : BitVec 24) (one : Bool) :
    (State.tableRead s n one).pending = s.pending := by
  simp [State.tableRead, apply_ite State.pending]
@[simp] theorem State.loupeOnly_pending (s : State) (f : Frame) (inPort : Nat) (own authOk : Bool) :
  ((State.loupeOnly s f inPort own authOk).1).pending = s.pending := by
  unfold State.loupeOnly
  extract_lets takes q k
  split
  · refine foldl_pending _ (fun s m => ?_) _ _
    split <;> simp
  · exact (State.loupes_pending _ _ _ _ _).trans (State.newUnit_pending _ _ _ _ _ _ _ _)
theorem State.loupeOnly_pending_of (s : State) (f : Frame) (inPort : Nat) (own : Bool) (authOk : Bool) {sx : State} {qx : Option Nat} (h : State.loupeOnly s f inPort own authOk = (sx, qx)) : sx.pending = s.pending := by
  have e := State.loupeOnly_pending s f inPort own authOk
  rw [h] at e
  exact e
@[simp] theorem State.lookupNext_pending (s : State) : (State.lookupNext s).pending = s.pending := by
  unfold State.lookupNext; grind [State.txResult_pending, State.bump_pending, State.tableRead_pending, → State.ownDests_pending_of, → State.loupeOnly_pending_of, → State.admitUnit_pending_of, State.ownDropped_pending, State.assignSeq_pending, State.loupes_pending, State.orderOf_pending, State.noteSeq_pending]
@[simp] theorem State.ringDests_pending (s : State) (l : Nat) (f : Frame) :
    (State.ringDests s l f).1.pending = s.pending := by
  unfold State.ringDests
  extract_lets n mine bcast seg inSeg shadow ports s1 s2 here
  have h2 : s2.pending = s.pending := by simp [s2, s1, apply_ite State.pending]
  clear_value s2
  split
  · exact h2
  · rename_i pass other s3 dn s4 _
    have h4 : s4.pending = s.pending := by simp [s4, s3, h2, apply_ite State.pending]
    clear_value s4 pass other
    simp [h4, apply_ite State.pending, apply_ite Prod.fst]
theorem State.ringDests_pending_of (s : State) (l : Nat) (f : Frame) {sx : State} {qx : List Dest × Transit} (h : State.ringDests s l f = (sx, qx)) : sx.pending = s.pending := by
  have e := State.ringDests_pending s l f
  rw [h] at e
  exact e
@[simp] theorem State.setRx_pending (s : State) (l : Nat) (u : Option Nat) (f : Frame) :
    (State.setRx s l u f).pending = s.pending := by
  simp [State.setRx]
@[simp] theorem State.ueMet_pending (s : State) (w : Nat) : (State.ueMet s w).pending = s.pending := by
  simp [State.ueMet, apply_ite State.pending]
@[simp] theorem State.ceMet_pending (s : State) (w : Nat) (n : Nat) : (State.ceMet s w n).pending = s.pending := by
  simp [State.ceMet]
@[simp] theorem State.meetWords_pending (s : State) (ws : List Nat) : (State.meetWords s ws).pending = s.pending := by
  unfold State.meetWords
  refine foldl_pending _ (fun s w => ?_) _ _
  split
  · simp
  · split <;> simp
@[simp] theorem State.meetUnit_pending (s : State) (v : VUnit) : (State.meetUnit s v).pending = s.pending := by
  simp [State.meetUnit]
@[simp] theorem State.endSend_pending (s : State) (p u : Nat) (v : VUnit) (rind : Word) :
    (State.endSend s p u v rind).pending = s.pending := by
  unfold State.endSend
  dsimp only
  split <;> simp
@[simp] theorem State.endCuts_pending (s : State) (u : Nat) (v : VUnit) (rind : Word) :
    (State.endCuts s u v rind).pending = s.pending := by
  simp [State.endCuts]
@[simp] theorem State.purgeBad_pending (s : State) (u : Nat) : (State.purgeBad s u).pending = s.pending := by
  simp [State.purgeBad]
@[simp] theorem State.repeatOut_pending (s : State) (l : Nat) (f : Frame) (rind : Word) :
    (State.repeatOut s l f rind).pending = s.pending := by
  simp [State.repeatOut]
@[simp] theorem State.countEnd_pending (s : State) (l : Nat) (f : Frame) (t : Tail) (ou : Option Nat) :
    (State.countEnd s l f t ou).pending = s.pending := by
  simp [State.countEnd, apply_ite State.pending]
@[simp] theorem State.frameEnd_pending (s : State) (l : Nat) (t : Tail) : (State.frameEnd s l t).pending = s.pending := by
  unfold State.frameEnd; grind [State.bump_pending, State.repeatOut_pending, State.countEnd_pending, State.transitEnd_pending, State.layUnit_pending, State.setUnit_pending, State.endCuts_pending, → State.gc_pending_of, State.purgeBad_pending, State.pressArrive_pending, State.deliverLocal_pending]
@[simp] theorem State.repeatIn_pending (s : State) (l : Nat) (f : Frame) : (State.repeatIn s l f).pending = s.pending := by
  simp [State.repeatIn]
@[simp] theorem State.layTail_pending (s : State) (l : Nat) (t : Tail) : (State.layTail s l t).pending = s.pending := by
  unfold State.layTail; split <;> simp [apply_ite State.pending]
@[simp] theorem State.ringFrame_pending (s : State) (l : Nat) (f : Frame) : (State.ringFrame s l f).pending = s.pending := by
  have I : ∀ {c : Prop} [Decidable c] {a b : State}, a.pending = s.pending → b.pending = s.pending →
      (if c then a else b).pending = s.pending := by intro c _ a b ha hb; split <;> assumption
  unfold State.ringFrame
  extract_lets st s1 s2
  have h1 : s1.pending = s.pending := by simp only [s1]; split <;> simp
  clear_value s1
  refine I (by simp [h1]) (I rfl ?_)
  refine I (by simp [h1]) (I (by simp [h1]) (I (by simp [h1]) (I (by simp [h1]) ?_)))
  have h2 : s2.pending = s.pending := by simp [s2, h1]
  clear_value s2
  have h3 := State.ringDests_pending s2 l f
  split
  rename_i s3 ds v e3
  rw [e3] at h3
  dsimp only at h3
  have h4 : ∀ (s4 : State) (r : Option Nat),
      (if ds.isEmpty = true then (s3, none) else s3.admitUnit f l false false true (sortDests ds)) = (s4, r) →
      s4.pending = s.pending := by
    intro s4 r e
    split at e
    · cases e; simp [h3, h2]
    · have := State.admitUnit_pending s3 f l false false true (sortDests ds)
      rw [e] at this; simpa [h3, h2] using this
  split
  rename_i s4 r e4
  have h4 := h4 s4 r e4
  split
  · have h5 := State.loupeOnly_pending s4 f l false true
    split
    rename_i s5 lu e5
    rw [e5] at h5
    dsimp only at h5
    refine I ?_ ?_ <;> simp [h5, h4]
  · dsimp only
    refine (State.loupes_pending _ _ _ _ _).trans ((State.setRx_pending _ _ _ _).trans ?_)
    refine I ?_ ?_ <;> simp [h4]
@[simp] theorem State.scrub_pending (s : State) (w : Nat) (found : EccResult) :
    (State.scrub s w found).pending = s.pending := by
  unfold State.scrub; (repeat' split) <;> simp_all [apply_ite State.pending]
@[simp] theorem State.startTimeout_pending (s : State) (t : Nat) : (State.startTimeout s t).pending = s.pending := by
  unfold State.startTimeout; split <;> simp [apply_ite State.pending]
@[simp] theorem State.commandLeaves_pending (s : State) (f : Frame) : (State.commandLeaves s f).pending = s.pending := by
  simp [State.commandLeaves, apply_ite State.pending]
@[simp] theorem State.laneTransmit_pending (s : State) (p : Nat) : (State.laneTransmit s p).pending = s.pending := by
  unfold State.laneTransmit; (repeat' split) <;> simp_all [apply_ite State.pending]
@[simp] theorem State.takeLocal_pending (s : State) (p : Nat) : ((State.takeLocal s p).1).pending = s.pending := by
  simp only [State.takeLocal, State.expire]; (repeat' split) <;> simp_all [apply_ite State.pending]
theorem State.takeLocal_pending_of (s : State) (p : Nat) {sx : State} {qx : Option (VUnit × Link)} (h : State.takeLocal s p = (sx, qx)) : sx.pending = s.pending := by
  have e := State.takeLocal_pending s p
  rw [h] at e
  exact e
@[simp] theorem State.capture_pending (s : State) (v : VUnit) (session : Nat) :
    (State.capture s v session).pending = s.pending := by
  simp [State.capture, apply_ite State.pending]
@[simp] theorem State.captureNext_pending (s : State) : (State.captureNext s).pending = s.pending := by
  unfold State.captureNext; grind [→ State.takeLocal_pending_of, State.capture_pending]
@[simp] theorem State.captureStart_pending (s : State) : (State.captureStart s).pending = s.pending := by
  simp [State.captureStart]
@[simp] theorem State.fwdCopy_pending (s : State) : (State.fwdCopy s).pending = s.pending := by
  simp [State.fwdCopy]
@[simp] theorem State.fwdCommit_pending (s : State) : (State.fwdCommit s).pending = s.pending := by
  simp [State.fwdCommit]
@[simp] theorem State.gapRemove_pending (s : State) : (State.gapRemove s).pending = s.pending := by
  simp [State.gapRemove]

/-! ### LinkOps -/

@[simp] theorem State.setLst_pending (s : State) (l : Nat) (st : Nat) : (State.setLst s l st).pending = s.pending := by
  simp [State.setLst]
@[simp] theorem State.sendLink_pending (s : State) (l : Nat) (sub : BitVec 8) :
    (State.sendLink s l sub).pending = s.pending := by
  simp [State.sendLink]
@[simp] theorem State.enterTraining_pending (s : State) (l : Nat) (st : Nat) (limit : Nat) :
    (State.enterTraining s l st limit).pending = s.pending := by
  simp [State.enterTraining]
@[simp] theorem State.modRun_pending (s : State) (l : Nat) : (State.modRun s l).pending = s.pending := by
  unfold State.modRun
  dsimp only
  (repeat' split) <;> simp
@[simp] theorem State.setRate_pending (s : State) (l : Nat) : (State.setRate s l).pending = s.pending := by
  simp [State.setRate, apply_ite State.pending]
@[simp] theorem State.fullRate_pending (s : State) (l : Nat) : (State.fullRate s l).pending = s.pending := by
  simp [State.fullRate]
@[simp] theorem State.enterNoSignal_pending (s : State) (l : Nat) : (State.enterNoSignal s l).pending = s.pending := by
  simp [State.enterNoSignal]
@[simp] theorem State.laneStart_pending (s : State) (l : Nat) : (State.laneStart s l).pending = s.pending := by
  simp [State.laneStart, apply_ite State.pending]
@[simp] theorem State.signalDetect_pending (s : State) (l : Nat) : (State.signalDetect s l).pending = s.pending := by
  unfold State.signalDetect; split <;> simp [apply_ite State.pending]
@[simp] theorem State.cdrLock_pending (s : State) (l : Nat) : (State.cdrLock s l).pending = s.pending := by
  simp [State.cdrLock, apply_ite State.pending]
@[simp] theorem State.blockLock_pending (s : State) (l : Nat) : (State.blockLock s l).pending = s.pending := by
  simp [State.blockLock, apply_ite State.pending]
@[simp] theorem State.recordNbr_pending (s : State) (l : Nat) (p : List Word) :
    (State.recordNbr s l p).pending = s.pending := by
  simp [State.recordNbr, apply_ite State.pending]
@[simp] theorem State.countCtrl_pending (s : State) (l : Nat) (p : List Word) (t : CtrlTail) :
    (State.countCtrl s l p t).pending = s.pending := by
  simp [State.countCtrl, apply_ite State.pending]
@[simp] theorem State.spurJoin_pending (s : State) : (State.spurJoin s).pending = s.pending := by
  simp [State.spurJoin, apply_ite State.pending]
@[simp] theorem State.laneVerified_pending (s : State) (l : Nat) : (State.laneVerified s l).pending = s.pending := by
  simp [State.laneVerified, apply_ite State.pending]
@[simp] theorem State.passCtrl_pending (s : State) (l : Nat) (sub : BitVec 8) (p : List Word) (t : CtrlTail) :
    (State.passCtrl s l sub p t).pending = s.pending := by
  simp [State.passCtrl, apply_ite State.pending]
@[simp] theorem State.trainIdIn_pending (s : State) (l : Nat) (p : List Word) (t : CtrlTail) :
    (State.trainIdIn s l p t).pending = s.pending := by
  simp [State.trainIdIn, apply_ite State.pending]
@[simp] theorem State.verifyDone_pending (s : State) (l : Nat) : (State.verifyDone s l).pending = s.pending := by
  unfold State.verifyDone; grind [→ State.expire_pending_of, State.laneVerified_pending]
@[simp] theorem State.helloIn_pending (s : State) (l : Nat) (p : List Word) (t : CtrlTail) :
    (State.helloIn s l p t).pending = s.pending := by
  simp [State.helloIn, apply_ite State.pending]
@[simp] theorem State.trainingFailed_pending (s : State) (l : Nat) : (State.trainingFailed s l).pending = s.pending := by
  unfold State.trainingFailed; grind [→ State.expire_pending_of, State.enterNoSignal_pending, State.setLane_pending, State.setRate_pending, State.arm_pending]
@[simp] theorem State.dropLane_pending (s : State) (l : Nat) : (State.dropLane s l).pending = s.pending := by
  simp [State.dropLane]
@[simp] theorem State.cutLane_pending (s : State) (l : Nat) : (State.cutLane s l).pending = s.pending := by
  unfold State.cutLane
  extract_lets s1 s2
  have h2 : s2.pending = s.pending := by
    simp only [s2]
    (repeat' split) <;> simp [s1]
  clear_value s2
  split <;> simp [h2]
@[simp] theorem State.declareDown_pending (s : State) (l : Nat) : (State.declareDown s l).pending = s.pending := by
  simp [State.declareDown, apply_ite State.pending]
@[simp] theorem State.linkDown_pending (s : State) (l : Nat) (c : DownCause) :
    (State.linkDown s l c).pending = s.pending := by
  unfold State.linkDown; (repeat' split) <;> simp_all [apply_ite State.pending]
@[simp] theorem State.laneOff_pending (s : State) (l : Nat) : (State.laneOff s l).pending = s.pending := by
  simp [State.laneOff, apply_ite State.pending]
@[simp] theorem State.laneDisable_pending (s : State) (l : Nat) : (State.laneDisable s l).pending = s.pending := by
  simp [State.laneDisable, apply_ite State.pending]
@[simp] theorem State.leavingSend_pending (s : State) (l : Nat) : (State.leavingSend s l).pending = s.pending := by
  unfold State.leavingSend; grind [→ State.expire_pending_of, State.setLane_pending, State.sendLink_pending, State.arm_pending, State.laneOff_pending]
@[simp] theorem State.sayLeaving_pending (s : State) (ls : List Nat) : (State.sayLeaving s ls).pending = s.pending := by
  simp [State.sayLeaving, apply_ite State.pending]
@[simp] theorem State.retrain_pending (s : State) (l : Nat) : (State.retrain s l).pending = s.pending := by
  simp [State.retrain, apply_ite State.pending]
@[simp] theorem State.trainIdSend_pending (s : State) (l : Nat) : (State.trainIdSend s l).pending = s.pending := by
  unfold State.trainIdSend; grind [→ State.expire_pending_of, State.arm_pending, State.sendLink_pending]
@[simp] theorem State.helloSend_pending (s : State) (l : Nat) : (State.helloSend s l).pending = s.pending := by
  unfold State.helloSend; grind [→ State.expire_pending_of, State.arm_pending, State.sendLink_pending]
@[simp] theorem State.leavingIn_pending (s : State) (l : Nat) (p : List Word) (t : CtrlTail) :
    (State.leavingIn s l p t).pending = s.pending := by
  simp [State.leavingIn, apply_ite State.pending]
@[simp] theorem State.nbrStale_pending (s : State) (l : Nat) : (State.nbrStale s l).pending = s.pending := by
  unfold State.nbrStale; grind [→ State.expire_pending_of, State.put_pending]
@[simp] theorem State.fallbackEnd_pending (s : State) (l : Nat) : (State.fallbackEnd s l).pending = s.pending := by
  unfold State.fallbackEnd; grind [→ State.expire_pending_of, State.fullRate_pending]
@[simp] theorem State.holdEnd_pending (s : State) (l : Nat) : (State.holdEnd s l).pending = s.pending := by
  simp [State.holdEnd, apply_ite State.pending]
@[simp] theorem State.heldDownEnd_pending (s : State) (l : Nat) : (State.heldDownEnd s l).pending = s.pending := by
  unfold State.heldDownEnd; grind [→ State.expire_pending_of, State.holdEnd_pending]
@[simp] theorem State.cablingLost_pending (s : State) (l : Nat) : (State.cablingLost s l).pending = s.pending := by
  simp [State.cablingLost, apply_ite State.pending]
@[simp] theorem State.moduleAbs_pending (s : State) (l : Nat) (absent : Bool) :
    (State.moduleAbs s l absent).pending = s.pending := by
  simp [State.moduleAbs, apply_ite State.pending]
@[simp] theorem State.moduleId_pending (s : State) (l : Nat) (r : ModuleId) : (State.moduleId s l r).pending = s.pending := by
  unfold State.moduleId; grind [→ State.expire_pending_of, State.setLane_pending, State.modRun_pending, State.put_pending]
@[simp] theorem State.modulePoll_pending (s : State) (l : Nat) (d : Option ModuleDiag) :
    (State.modulePoll s l d).pending = s.pending := by
  unfold State.modulePoll; grind [→ State.expire_pending_of, State.arm_pending, State.put_pending, State.wr_pending, State.setLive_pending, State.clearLive_pending]
@[simp] theorem State.setHold_pending (s : State) (h : Bool) : (State.setHold s h).pending = s.pending := by
  simp [State.setHold, apply_ite State.pending]
@[simp] theorem State.repeatJoin_pending (s : State) : (State.repeatJoin s).pending = s.pending := by
  simp [State.repeatJoin, apply_ite State.pending]
@[simp] theorem State.repeatLeave_pending (s : State) (spur : Bool) : (State.repeatLeave s spur).pending = s.pending := by
  simp [State.repeatLeave, apply_ite State.pending]

/-! ### TimeOps -/

@[simp] theorem State.wordsInvalid_pending (s : State) : (State.wordsInvalid s).pending = s.pending := by
  simp [State.wordsInvalid]
@[simp] theorem State.setTst_pending (s : State) (n : Nat) : (State.setTst s n).pending = s.pending := by
  simp [State.setTst, apply_ite State.pending]
@[simp] theorem State.markStepped_pending (s : State) (old : Nat) (new : Nat) :
    (State.markStepped s old new).pending = s.pending := by
  simp [State.markStepped]
@[simp] theorem State.setRing_pending (s : State) (new : Nat) : (State.setRing s new).pending = s.pending := by
  simp [State.setRing]
@[simp] theorem State.applyStep_pending (s : State) : (State.applyStep s).pending = s.pending := by
  simp [State.applyStep]
@[simp] theorem State.pendStep_pending (s : State) (seq : Nat) (v : Word) (at_ : Word) (t : Nat) :
    (State.pendStep s seq v at_ t).pending = s.pending := by
  simp [State.pendStep]
@[simp] theorem State.learnStep_pending (s : State) (seq : Nat) (v : Word) (at_ : Word) :
    (State.learnStep s seq v at_).pending = s.pending := by
  simp [State.learnStep, apply_ite State.pending]
@[simp] theorem State.recordStep_pending (s : State) (seq : Nat) (v : Word) (at_ : Word) (done : Bool) :
    (State.recordStep s seq v at_ done).pending = s.pending := by
  simp [State.recordStep, apply_ite State.pending]
@[simp] theorem State.stepApply_pending (s : State) : (State.stepApply s).pending = s.pending := by
  unfold State.stepApply; split <;> simp [apply_ite State.pending]
@[simp] theorem State.timeRate_pending (s : State) (v : Word) : ((State.timeRate s v).2).pending = s.pending := by
  unfold State.timeRate; (repeat' split) <;> simp_all [apply_ite State.pending]
theorem State.timeRate_pending_of (s : State) (v : Word) {sx : Status} {qx : State} (h : State.timeRate s v = (sx, qx)) : qx.pending = s.pending := by
  have e := State.timeRate_pending s v
  rw [h] at e
  exact e
@[simp] theorem State.timeStep_pending (s : State) (v : Word) : ((State.timeStep s v).2).pending = s.pending := by
  unfold State.timeStep; (repeat' split) <;> simp_all [apply_ite State.pending]
theorem State.timeStep_pending_of (s : State) (v : Word) {sx : Status} {qx : State} (h : State.timeStep s v = (sx, qx)) : qx.pending = s.pending := by
  have e := State.timeStep_pending s v
  rw [h] at e
  exact e
@[simp] theorem State.stepRearm_pending (s : State) : (State.stepRearm s).pending = s.pending := by
  simp [State.stepRearm]
@[simp] theorem State.setTlane_pending (s : State) (l : Nat) (x : TLane) : (State.setTlane s l x).pending = s.pending := by
  simp [State.setTlane]
@[simp] theorem State.timeSend_pending (s : State) (l : Nat) : (State.timeSend s l).pending = s.pending := by
  unfold State.timeSend; grind [→ State.expire_pending_of, State.arm_pending, State.transmit_pending]
@[simp] theorem State.becomeMaster_pending (s : State) : (State.becomeMaster s).pending = s.pending := by
  simp [State.becomeMaster]
@[simp] theorem State.startListen_pending (s : State) : (State.startListen s).pending = s.pending := by
  simp [State.startListen, apply_ite State.pending]
@[simp] theorem State.listenEnd_pending (s : State) : (State.listenEnd s).pending = s.pending := by
  unfold State.listenEnd; grind [→ State.expire_pending_of, State.becomeMaster_pending]
@[simp] theorem State.setUpstream_pending (s : State) (l : Nat) : (State.setUpstream s l).pending = s.pending := by
  unfold State.setUpstream; split <;> simp [apply_ite State.pending]
@[simp] theorem State.trackUpstream_pending (s : State) (l : Nat) (f : Frame) :
    (State.trackUpstream s l f).pending = s.pending := by
  simp [State.trackUpstream, apply_ite State.pending]
@[simp] theorem State.selectMaster_pending (s : State) (l : Nat) (f : Frame) :
    (State.selectMaster s l f).pending = s.pending := by
  unfold State.selectMaster; split <;> simp [apply_ite State.pending]
@[simp] theorem State.linkLocalIn_pending (s : State) (l : Nat) (f : Frame) (t : Tail) :
    ((State.linkLocalIn s l f t).1).pending = s.pending := by
  simp [State.linkLocalIn, apply_ite State.pending]
theorem State.linkLocalIn_pending_of (s : State) (l : Nat) (f : Frame) (t : Tail) {sx : State} {qx : Bool} (h : State.linkLocalIn s l f t = (sx, qx)) : sx.pending = s.pending := by
  have e := State.linkLocalIn_pending s l f t
  rw [h] at e
  exact e
@[simp] theorem State.passOn_pending (s : State) (l : Nat) (f : Frame) (t : Tail) :
    (State.passOn s l f t).pending = s.pending := by
  simp [State.passOn]
@[simp] theorem State.timeHeard_pending (s : State) (l : Nat) (f : Frame) : (State.timeHeard s l f).pending = s.pending := by
  simp [State.timeHeard]
@[simp] theorem State.timeReceive_pending (s : State) (l : Nat) (t : TimeRx) :
    (State.timeReceive s l t).pending = s.pending := by
  simp [State.timeReceive, apply_ite State.pending]
@[simp] theorem State.upstreamLoss_pending (s : State) : (State.upstreamLoss s).pending = s.pending := by
  unfold State.upstreamLoss; grind [State.setTlane_pending, State.advance_pending, State.arm_pending, State.setUpstream_pending, State.disarm_pending, State.put_pending, State.raise_pending, State.bump_pending, State.setTst_pending, State.startListen_pending]
@[simp] theorem State.copyResync_pending (s : State) : (State.copyResync s).pending = s.pending := by
  simp [State.copyResync, apply_ite State.pending]
@[simp] theorem State.enterEntry_pending (s : State) (n : Nat) (e : Entry) :
    (State.enterEntry s n e).pending = s.pending := by
  simp [State.enterEntry, apply_ite State.pending]
@[simp] theorem State.dropEntry_pending (s : State) (n : Nat) : (State.dropEntry s n).pending = s.pending := by
  simp [State.dropEntry]
@[simp] theorem State.skipDown_pending (s : State) (n : Nat) : (State.skipDown s n).pending = s.pending := by
  unfold State.skipDown; split <;> simp [apply_ite State.pending]
@[simp] theorem State.handoff_pending (s : State) (n : Nat) : (State.handoff s n).pending = s.pending := by
  unfold State.handoff; split <;> simp [apply_ite State.pending]
@[simp] theorem State.fireEvent_pending (s : State) (n : Nat) (e : Entry) (outcome : Status) (cancelled : Bool) (results : List Word) :
    (State.fireEvent s n e outcome cancelled results).pending = s.pending := by
  simp [State.fireEvent]
theorem State.takeEntry_pending (s : State) (n : Nat) (kind : Nat) (action : Nat) :
    ∀ tx, State.takeEntry s n kind action = some tx → tx.1.pending = s.pending := by
  unfold State.takeEntry; grind [State.skipDown_pending, State.advanceRing_pending, State.bump_pending, State.dropEntry_pending]
theorem State.takeEntry_pending_of (s : State) (n : Nat) (kind : Nat) (action : Nat) {tx : (State × Entry)} (h : State.takeEntry s n kind action = some tx) : tx.1.pending = s.pending :=
  State.takeEntry_pending s n kind action tx h
@[simp] theorem State.fired_pending (s : State) (n : Nat) (e : Entry) (outcome : Status) (results : List Word) :
    (State.fired s n e outcome results).pending = s.pending := by
  simp [State.fired, apply_ite State.pending]
@[simp] theorem State.cancelEntry_pending (s : State) (force : Bool) (n : Nat) :
    (State.cancelEntry s force n).pending = s.pending := by
  unfold State.cancelEntry; split <;> simp [apply_ite State.pending]
@[simp] theorem State.cancelForSafe_pending (s : State) : (State.cancelForSafe s).pending = s.pending := by
  simp [State.cancelForSafe]
@[simp] theorem State.markSeen_pending (s : State) (id : Nat) (t : Word) : (State.markSeen s id t).pending = s.pending := by
  simp [State.markSeen]
@[simp] theorem State.floodSnap_pending (s : State) (id : Nat) (t : Word) (node : BitVec 24) (but : Option Nat) :
    (State.floodSnap s id t node but).pending = s.pending := by
  simp [State.floodSnap, apply_ite State.pending]
@[simp] theorem State.snapReceive_pending (s : State) (l : Nat) (f : Frame) (t : Tail) :
    (State.snapReceive s l f t).pending = s.pending := by
  unfold State.snapReceive; grind [State.passOn_pending, → State.linkLocalIn_pending_of, State.markSeen_pending, State.bump_pending, State.floodSnap_pending, State.enterEntry_pending]
@[simp] theorem State.keepCounters_pending (s : State) (i : Nat) : (State.keepCounters s i).pending = s.pending := by
  simp [State.keepCounters]
@[simp] theorem State.snapFire_pending (s : State) (n : Nat) : (State.snapFire s n).pending = s.pending := by
  unfold State.snapFire; grind [→ State.takeEntry_pending_of, State.put_pending, State.wr_pending]
@[simp] theorem State.timCleared_pending (s : State) : (State.timCleared s).pending = s.pending := by
  simp [State.timCleared]

/-! ### ClusterOps -/

@[simp] theorem State.setClu_pending (s : State) (k : Nat) (x : CluS) : (State.setClu s k x).pending = s.pending := by
  simp [State.setClu]
@[simp] theorem State.setEng_pending (s : State) (n : Nat) (x : EngS) : (State.setEng s n x).pending = s.pending := by
  simp [State.setEng]
@[simp] theorem State.eput_pending (s : State) (f : Fld) (v : Nat) (n : Nat) : (State.eput s f v n).pending = s.pending := by
  simp [State.eput]
@[simp] theorem State.settleAt_pending (s : State) (k : Nat) (t : Nat) : (State.settleAt s k t).pending = s.pending := by
  simp [State.settleAt, apply_ite State.pending]
@[simp] theorem State.settleNet_pending (s : State) (k : Nat) : (State.settleNet s k).pending = s.pending := by
  simp [State.settleNet, apply_ite State.pending]
@[simp] theorem State.flowPins_pending (s : State) (k : Nat) : (State.flowPins s k).pending = s.pending := by
  simp [State.flowPins, apply_ite State.pending]
@[simp] theorem State.flowAll_pending (s : State) : (State.flowAll s).pending = s.pending := by
  simp [State.flowAll]
@[simp] theorem State.setLatch_pending (s : State) (k : Nat) (latch : Word) (dirs : Word) :
    (State.setLatch s k latch dirs).pending = s.pending := by
  simp [State.setLatch]
@[simp] theorem State.acceptLevel_pending (s : State) (k : Nat) (p : Nat) :
    (State.acceptLevel s k p).pending = s.pending := by
  simp [State.acceptLevel, apply_ite State.pending]
@[simp] theorem State.pinCfgWritten_pending (s : State) (k : Nat) (p : Nat) (old : Word) :
    (State.pinCfgWritten s k p old).pending = s.pending := by
  simp [State.pinCfgWritten, apply_ite State.pending]
@[simp] theorem State.pinChange_pending (s : State) (k : Nat) (p : Nat) (level : Bool) :
    (State.pinChange s k p level).pending = s.pending := by
  simp [State.pinChange, apply_ite State.pending]
@[simp] theorem State.debouncePin_pending (s : State) (k : Nat) (p : Nat) :
    (State.debouncePin s k p).pending = s.pending := by
  simp [State.debouncePin, apply_ite State.pending]
@[simp] theorem State.debounce_pending (s : State) (k : Nat) : (State.debounce s k).pending = s.pending := by
  simp [State.debounce, apply_ite State.pending]
@[simp] theorem State.cosEvent_pending (s : State) (k : Nat) : (State.cosEvent s k).pending = s.pending := by
  simp only [State.cosEvent, State.expire]; (repeat' split) <;> simp_all [apply_ite State.pending]
@[simp] theorem State.setDout_pending (s : State) (k : Nat) (w : Word) : (State.setDout s k w).pending = s.pending := by
  simp [State.setDout, apply_ite State.pending]
@[simp] theorem State.bankCompare_pending (s : State) (k : Nat) : (State.bankCompare s k).pending = s.pending := by
  simp [State.bankCompare, apply_ite State.pending]
@[simp] theorem State.bankSupply_pending (s : State) (k : Nat) (ok : Bool) :
    (State.bankSupply s k ok).pending = s.pending := by
  simp [State.bankSupply, apply_ite State.pending]
@[simp] theorem State.cluCfgWritten_pending (s : State) (k : Nat) (old : Word) :
    (State.cluCfgWritten s k old).pending = s.pending := by
  simp [State.cluCfgWritten]
@[simp] theorem State.fillTxq_pending (s : State) (n : Nat) : (State.fillTxq s n).pending = s.pending := by
  simp [State.fillTxq]
@[simp] theorem State.drawFeed_pending (s : State) (n : Nat) : (State.drawFeed s n).pending = s.pending := by
  unfold State.drawFeed; grind [→ State.unlink_pending_of, State.setEng_pending]
@[simp] theorem State.txqFeed_pending (s : State) (n : Nat) : (State.txqFeed s n).pending = s.pending := by
  simp only [State.txqFeed, State.expire]; (repeat' split) <;> simp_all [apply_ite State.pending]
@[simp] theorem State.sendAhead_pending (s : State) (n : Nat) (item : List QWord) :
    (State.sendAhead s n item).pending = s.pending := by
  unfold State.sendAhead; grind [State.fillTxq_pending, State.setEng_pending, → State.unlink_pending_of]
@[simp] theorem State.closeFrame_pending (s : State) (n : Nat) : (State.closeFrame s n).pending = s.pending := by
  unfold State.closeFrame; grind [State.disarm_pending, State.setEng_pending, State.eput_pending, State.bump_pending, State.emitOut_pending]
@[simp] theorem State.notePoison_pending (s : State) (n : Nat) (w : QWord) :
    (State.notePoison s n w).pending = s.pending := by
  simp [State.notePoison, apply_ite State.pending]
@[simp] theorem State.packerWord_pending (s : State) (n : Nat) : (State.packerWord s n).pending = s.pending := by
  unfold State.packerWord; grind [State.setClu_pending, State.notePoison_pending, State.setEng_pending, State.eput_pending, State.bump_pending, State.arm_pending, State.closeFrame_pending]
@[simp] theorem State.rxPackEnd_pending (s : State) (n : Nat) : (State.rxPackEnd s n).pending = s.pending := by
  unfold State.rxPackEnd; grind [→ State.expire_pending_of, State.closeFrame_pending]
@[simp] theorem State.stopEngine_pending (s : State) (n : Nat) (cause : Nat) :
    (State.stopEngine s n cause).pending = s.pending := by
  simp [State.stopEngine, apply_ite State.pending]
@[simp] theorem State.startEngine_pending (s : State) (n : Nat) (pc : Nat) (after : Nat) :
    (State.startEngine s n pc after).pending = s.pending := by
  simp [State.startEngine, apply_ite State.pending]
@[simp] theorem State.clearEngine_pending (s : State) (n : Nat) : (State.clearEngine s n).pending = s.pending := by
  simp [State.clearEngine]
@[simp] theorem State.clkRestart_pending (s : State) (k : Nat) : (State.clkRestart s k).pending = s.pending := by
  simp [State.clkRestart]
@[simp] theorem State.startMask_pending (s : State) (k : Nat) (m : Nat) : (State.startMask s k m).pending = s.pending := by
  simp [State.startMask]
@[simp] theorem State.stopMask_pending (s : State) (k : Nat) (m : Nat) : (State.stopMask s k m).pending = s.pending := by
  simp [State.stopMask]
@[simp] theorem State.injectWrite_pending (s : State) (n : Nat) (w : Word) :
    (State.injectWrite s n w).pending = s.pending := by
  simp [State.injectWrite]
@[simp] theorem State.cluSafe_pending (s : State) (k : Nat) : (State.cluSafe s k).pending = s.pending := by
  simp [State.cluSafe, apply_ite State.pending]
@[simp] theorem State.cluCommission_pending (s : State) : (State.cluCommission s).pending = s.pending := by
  simp [State.cluCommission]
@[simp] theorem State.cluRun_pending (s : State) : (State.cluRun s).pending = s.pending := by
  simp [State.cluRun, apply_ite State.pending]
@[simp] theorem State.settleAll_pending (s : State) : (State.settleAll s).pending = s.pending := by
  simp [State.settleAll]
@[simp] theorem State.cluCleared_pending (s : State) (k : Nat) : (State.cluCleared s k).pending = s.pending := by
  simp [State.cluCleared]
@[simp] theorem State.cluReleased_pending (s : State) (k : Nat) : (State.cluReleased s k).pending = s.pending := by
  simp [State.cluReleased]

/-! ### FacetOps -/

@[simp] theorem State.setOsr_pending (s : State) (n : Nat) (w : Word) (cnt : Nat) :
    (State.setOsr s n w cnt).pending = s.pending := by
  simp [State.setOsr]
@[simp] theorem State.setIsr_pending (s : State) (n : Nat) (w : Word) (cnt : Nat) :
    (State.setIsr s n w cnt).pending = s.pending := by
  simp [State.setIsr]
@[simp] theorem State.setX_pending (s : State) (n : Nat) (v : Nat) : (State.setX s n v).pending = s.pending := by
  simp [State.setX]
@[simp] theorem State.setY_pending (s : State) (n : Nat) (v : Nat) : (State.setY s n v).pending = s.pending := by
  simp [State.setY]
@[simp] theorem State.setPattern_pending (s : State) (n : Nat) (w : Word) : (State.setPattern s n w).pending = s.pending := by
  simp [State.setPattern]
@[simp] theorem State.setCrc_pending (s : State) (n : Nat) (w : Word) : (State.setCrc s n w).pending = s.pending := by
  simp [State.setCrc]
@[simp] theorem State.driveLatch_pending (s : State) (n : Nat) (v : Word) : (State.driveLatch s n v).pending = s.pending := by
  simp [State.driveLatch]
@[simp] theorem State.setDirs_pending (s : State) (n : Nat) (v : Word) : (State.setDirs s n v).pending = s.pending := by
  simp [State.setDirs]
@[simp] theorem State.sideSet_pending (s : State) (n : Nat) (w : Word) : (State.sideSet s n w).pending = s.pending := by
  simp [State.sideSet, apply_ite State.pending]
@[simp] theorem State.dstReg_pending (s : State) (n : Nat) (c : Nat) (v : Word) :
    (State.dstReg s n c v).pending = s.pending := by
  unfold State.dstReg; split <;> simp [apply_ite State.pending]
@[simp] theorem State.crcFeed_pending (s : State) (n : Nat) (v : Word) (m : Nat) :
    (State.crcFeed s n v m).pending = s.pending := by
  simp [State.crcFeed]
@[simp] theorem State.giveWord_pending (s : State) (n : Nat) (w : Word) (last : Bool) (bad : Bool) :
    (State.giveWord s n w last bad).pending = s.pending := by
  simp [State.giveWord, apply_ite State.pending]
@[simp] theorem State.opShiftin_pending (s : State) (n : Nat) (w : Word) :
    ((State.opShiftin s n w).1).pending = s.pending := by
  unfold State.opShiftin; split <;> simp [apply_ite State.pending]
theorem State.opShiftin_pending_of (s : State) (n : Nat) (w : Word) {sx : State} {qx : Flow} (h : State.opShiftin s n w = (sx, qx)) : sx.pending = s.pending := by
  have e := State.opShiftin_pending s n w
  rw [h] at e
  exact e
@[simp] theorem State.opShiftout_pending (s : State) (n : Nat) (w : Word) :
    ((State.opShiftout s n w).1).pending = s.pending := by
  unfold State.opShiftout; (repeat' split) <;> simp_all [apply_ite State.pending]
theorem State.opShiftout_pending_of (s : State) (n : Nat) (w : Word) {sx : State} {qx : Flow} (h : State.opShiftout s n w = (sx, qx)) : sx.pending = s.pending := by
  have e := State.opShiftout_pending s n w
  rw [h] at e
  exact e
@[simp] theorem State.opTake_pending (s : State) (n : Nat) (w : Word) : ((State.opTake s n w).1).pending = s.pending := by
  unfold State.opTake; grind [State.setEng_pending, State.notePoison_pending, State.setOsr_pending, State.setX_pending, State.setY_pending, State.setPattern_pending]
theorem State.opTake_pending_of (s : State) (n : Nat) (w : Word) {sx : State} {qx : Flow} (h : State.opTake s n w = (sx, qx)) : sx.pending = s.pending := by
  have e := State.opTake_pending s n w
  rw [h] at e
  exact e
@[simp] theorem State.opGive_pending (s : State) (n : Nat) (w : Word) : ((State.opGive s n w).1).pending = s.pending := by
  simp [State.opGive, apply_ite State.pending]
theorem State.opGive_pending_of (s : State) (n : Nat) (w : Word) {sx : State} {qx : Flow} (h : State.opGive s n w = (sx, qx)) : sx.pending = s.pending := by
  have e := State.opGive_pending s n w
  rw [h] at e
  exact e
@[simp] theorem State.opHold_pending (s : State) (n : Nat) (w : Word) : ((State.opHold s n w).1).pending = s.pending := by
  unfold State.opHold; split <;> simp [apply_ite State.pending]
theorem State.opHold_pending_of (s : State) (n : Nat) (w : Word) {sx : State} {qx : Flow} (h : State.opHold s n w = (sx, qx)) : sx.pending = s.pending := by
  have e := State.opHold_pending s n w
  rw [h] at e
  exact e
@[simp] theorem State.opBranch_pending (s : State) (n : Nat) (w : Word) : ((State.opBranch s n w).1).pending = s.pending := by
  simp [State.opBranch]
theorem State.opBranch_pending_of (s : State) (n : Nat) (w : Word) {sx : State} {qx : Flow} (h : State.opBranch s n w = (sx, qx)) : sx.pending = s.pending := by
  have e := State.opBranch_pending s n w
  rw [h] at e
  exact e
@[simp] theorem State.opLoop_pending (s : State) (n : Nat) (w : Word) : ((State.opLoop s n w).1).pending = s.pending := by
  unfold State.opLoop; (repeat' split) <;> simp_all [apply_ite State.pending]
theorem State.opLoop_pending_of (s : State) (n : Nat) (w : Word) {sx : State} {qx : Flow} (h : State.opLoop s n w = (sx, qx)) : sx.pending = s.pending := by
  have e := State.opLoop_pending s n w
  rw [h] at e
  exact e
@[simp] theorem State.opLoad_pending (s : State) (n : Nat) (w : Word) : ((State.opLoad s n w).1).pending = s.pending := by
  unfold State.opLoad; split <;> simp [apply_ite State.pending]
theorem State.opLoad_pending_of (s : State) (n : Nat) (w : Word) {sx : State} {qx : Flow} (h : State.opLoad s n w = (sx, qx)) : sx.pending = s.pending := by
  have e := State.opLoad_pending s n w
  rw [h] at e
  exact e
@[simp] theorem State.opMove_pending (s : State) (n : Nat) (w : Word) : ((State.opMove s n w).1).pending = s.pending := by
  unfold State.opMove; (repeat' split) <;> simp_all [apply_ite State.pending]
theorem State.opMove_pending_of (s : State) (n : Nat) (w : Word) {sx : State} {qx : Flow} (h : State.opMove s n w = (sx, qx)) : sx.pending = s.pending := by
  have e := State.opMove_pending s n w
  rw [h] at e
  exact e
@[simp] theorem State.opDrive_pending (s : State) (n : Nat) (w : Word) : ((State.opDrive s n w).1).pending = s.pending := by
  simp [State.opDrive]
theorem State.opDrive_pending_of (s : State) (n : Nat) (w : Word) {sx : State} {qx : Flow} (h : State.opDrive s n w = (sx, qx)) : sx.pending = s.pending := by
  have e := State.opDrive_pending s n w
  rw [h] at e
  exact e
@[simp] theorem State.opDir_pending (s : State) (n : Nat) (w : Word) : ((State.opDir s n w).1).pending = s.pending := by
  simp [State.opDir]
theorem State.opDir_pending_of (s : State) (n : Nat) (w : Word) {sx : State} {qx : Flow} (h : State.opDir s n w = (sx, qx)) : sx.pending = s.pending := by
  have e := State.opDir_pending s n w
  rw [h] at e
  exact e
@[simp] theorem State.opSignal_pending (s : State) (n : Nat) (w : Word) : ((State.opSignal s n w).1).pending = s.pending := by
  simp [State.opSignal]
theorem State.opSignal_pending_of (s : State) (n : Nat) (w : Word) {sx : State} {qx : Flow} (h : State.opSignal s n w = (sx, qx)) : sx.pending = s.pending := by
  have e := State.opSignal_pending s n w
  rw [h] at e
  exact e
@[simp] theorem State.flowSignals_pending (s : State) (k : Nat) : (State.flowSignals s k).pending = s.pending := by
  simp [State.flowSignals, apply_ite State.pending]
@[simp] theorem State.opCrc_pending (s : State) (n : Nat) (w : Word) : ((State.opCrc s n w).1).pending = s.pending := by
  unfold State.opCrc; split <;> simp [apply_ite State.pending]
theorem State.opCrc_pending_of (s : State) (n : Nat) (w : Word) {sx : State} {qx : Flow} (h : State.opCrc s n w = (sx, qx)) : sx.pending = s.pending := by
  have e := State.opCrc_pending s n w
  rw [h] at e
  exact e
@[simp] theorem State.opMatch_pending (s : State) (n : Nat) (w : Word) : ((State.opMatch s n w).1).pending = s.pending := by
  unfold State.opMatch; split <;> simp [apply_ite State.pending]
theorem State.opMatch_pending_of (s : State) (n : Nat) (w : Word) {sx : State} {qx : Flow} (h : State.opMatch s n w = (sx, qx)) : sx.pending = s.pending := by
  have e := State.opMatch_pending s n w
  rw [h] at e
  exact e
@[simp] theorem State.opStamp_pending (s : State) (n : Nat) (w : Word) : ((State.opStamp s n w).1).pending = s.pending := by
  unfold State.opStamp; split <;> simp [apply_ite State.pending]
theorem State.opStamp_pending_of (s : State) (n : Nat) (w : Word) {sx : State} {qx : Flow} (h : State.opStamp s n w = (sx, qx)) : sx.pending = s.pending := by
  have e := State.opStamp_pending s n w
  rw [h] at e
  exact e
@[simp] theorem State.opHalt_pending (s : State) (_n : Nat) (_w : Word) : ((State.opHalt s _n _w).1).pending = s.pending := by
  simp [State.opHalt]
theorem State.opHalt_pending_of (s : State) (_n : Nat) (_w : Word) {sx : State} {qx : Flow} (h : State.opHalt s _n _w = (sx, qx)) : sx.pending = s.pending := by
  have e := State.opHalt_pending s _n _w
  rw [h] at e
  exact e
@[simp] theorem State.opNop_pending (s : State) (_n : Nat) (_w : Word) : ((State.opNop s _n _w).1).pending = s.pending := by
  simp [State.opNop]
theorem State.opNop_pending_of (s : State) (_n : Nat) (_w : Word) {sx : State} {qx : Flow} (h : State.opNop s _n _w = (sx, qx)) : sx.pending = s.pending := by
  have e := State.opNop_pending s _n _w
  rw [h] at e
  exact e
@[simp] theorem State.toEdge_pending (s : State) (n : Nat) : (State.toEdge s n).pending = s.pending := by
  simp [State.toEdge]
@[simp] theorem State.divideTo_pending (s : State) (n : Nat) (t : Nat) : (State.divideTo s n t).pending = s.pending := by
  simp [State.divideTo, apply_ite State.pending]
@[simp] theorem State.flow_pending (s : State) (n : Nat) (f : Flow) : (State.flow s n f).pending = s.pending := by
  unfold State.flow; split <;> simp [apply_ite State.pending]
@[simp] theorem State.operate_pending (s : State) (n : Nat) (w : Word) : ((State.operate s n w).1).pending = s.pending := by
  unfold State.operate; (repeat' split) <;> simp_all [apply_ite State.pending]
theorem State.operate_pending_of (s : State) (n : Nat) (w : Word) {sx : State} {qx : Flow} (h : State.operate s n w = (sx, qx)) : sx.pending = s.pending := by
  have e := State.operate_pending s n w
  rw [h] at e
  exact e
@[simp] theorem State.flushTx_pending (s : State) (n : Nat) : (State.flushTx s n).pending = s.pending := by
  unfold State.flushTx; grind [State.setEng_pending, State.wr_pending, State.flow_pending, State.eput_pending]
@[simp] theorem State.flushRx_pending (s : State) (n : Nat) : (State.flushRx s n).pending = s.pending := by
  simp [State.flushRx, apply_ite State.pending]
@[simp] theorem State.injectEdge_pending (s : State) (n : Nat) : (State.injectEdge s n).pending = s.pending := by
  unfold State.injectEdge; grind [State.toEdge_pending, State.divideTo_pending, State.eput_pending, → State.operate_pending_of, State.sideSet_pending, State.setEng_pending, State.stopEngine_pending]

theorem State.engineEdge_pending (s : State) (n : Nat) (want : Word → Bool) (op : State → Nat → Word → State × Flow)
    (h : ∀ s n w, (op s n w).1.pending = s.pending) : (s.engineEdge n want op).pending = s.pending := by
  have I : ∀ {c : Prop} [Decidable c] {a b : State}, a.pending = s.pending → b.pending = s.pending → (if c then a else b).pending = s.pending := by
    intro c _ a b ha hb; split <;> assumption
  unfold State.engineEdge
  extract_lets w due s1 s2 x first took
  have h1 : s1.pending = s.pending := by simp [s1]
  have h2 : s2.pending = s.pending := by
    simp only [s2]
    refine I ?_ h1
    simp [h1]
  clear_value s1 s2 x took
  refine I rfl (I (by simp [h1]) (I (by simp [h2]) ?_))
  have h3 := h s1 n w
  split
  rename_i s3 f e3
  rw [e3] at h3
  have h3 : s3.pending = s.pending := h3.trans h1
  extract_lets _ s4
  have h4 : s4.pending = s.pending := by
    simp only [s4]
    refine I ?_ h3
    simp [h3]
  clear_value s4
  rw [State.flow_pending]
  refine I ?_ h4
  simp [h4]

/-! ### CanOps -/

@[simp] theorem State.setCan_pending (s : State) (n : Nat) (x : CanS) : (State.setCan s n x).pending = s.pending := by
  simp [State.setCan]
@[simp] theorem State.canLose_pending (s : State) (n : Nat) (count : Nat) :
    (State.canLose s n count).pending = s.pending := by
  simp [State.canLose]
@[simp] theorem State.canClose_pending (s : State) (n : Nat) : (State.canClose s n).pending = s.pending := by
  simp [State.canClose, apply_ite State.pending]
@[simp] theorem State.canPackRec_pending (s : State) (n : Nat) (time : Word) (alone : Bool) (ws : List Word) :
    (State.canPackRec s n time alone ws).pending = s.pending := by
  simp [State.canPackRec, apply_ite State.pending]
@[simp] theorem State.canDeliver_pending (s : State) (n : Nat) (hdr : List Word) (data : List Byte) :
    (State.canDeliver s n hdr data).pending = s.pending := by
  simp [State.canDeliver, apply_ite State.pending]
@[simp] theorem State.canPackEnd_pending (s : State) (n : Nat) : (State.canPackEnd s n).pending = s.pending := by
  unfold State.canPackEnd; grind [→ State.expire_pending_of, State.canClose_pending]
@[simp] theorem State.canLoad_pending (s : State) (n : Nat) (t : CanTx) : (State.canLoad s n t).pending = s.pending := by
  simp [State.canLoad]
@[simp] theorem State.canFillAt_pending (s : State) (n : Nat) (at_ : Nat) :
    (State.canFillAt s n at_).pending = s.pending := by
  unfold State.canFillAt; grind [State.canLoad_pending, State.setCan_pending, → State.takeLocal_pending_of]
@[simp] theorem State.canFill_pending (s : State) (n : Nat) : (State.canFill s n).pending = s.pending := by
  simp [State.canFill]
@[simp] theorem State.canReport_pending (s : State) (n : Nat) (t : CanTx) (outcome : Nat) (time : Word) :
    (State.canReport s n t outcome time).pending = s.pending := by
  simp [State.canReport, apply_ite State.pending]
@[simp] theorem State.canStamp_pending (s : State) (n : Nat) (t : CanTx) (at_ : Nat) :
    (State.canStamp s n t at_).pending = s.pending := by
  simp [State.canStamp, apply_ite State.pending]
@[simp] theorem State.canTsqPop_pending (s : State) (n : Nat) : (State.canTsqPop s n).pending = s.pending := by
  simp [State.canTsqPop]
@[simp] theorem State.canLeave_pending (s : State) (n : Nat) (t : CanTx) (outcome : Nat) (time : Word) :
    (State.canLeave s n t outcome time).pending = s.pending := by
  simp [State.canLeave, apply_ite State.pending]
@[simp] theorem State.canAbandon_pending (s : State) (n : Nat) (t : CanTx) (outcome : Nat) (time : Word) :
    (State.canAbandon s n t outcome time).pending = s.pending := by
  simp [State.canAbandon, apply_ite State.pending]
@[simp] theorem State.canGone_pending (s : State) (n : Nat) (t : CanTx) (time : Word) :
    (State.canGone s n t time).pending = s.pending := by
  simp [State.canGone]
@[simp] theorem State.canFlushSlot_pending (s : State) (n : Nat) (cur : Bool) :
    (State.canFlushSlot s n cur).pending = s.pending := by
  unfold State.canFlushSlot; grind [→ State.freeIn_pending_of, State.setCan_pending, State.canGone_pending]
@[simp] theorem State.canFlushTx_pending (s : State) (n : Nat) (cur : Bool) :
    ((State.canFlushTx s n cur).1).pending = s.pending := by
  simp [State.canFlushTx]
theorem State.canFlushTx_pending_of (s : State) (n : Nat) (cur : Bool) {sx : State} {qx : Nat} (h : State.canFlushTx s n cur = (sx, qx)) : sx.pending = s.pending := by
  have e := State.canFlushTx_pending s n cur
  rw [h] at e
  exact e
@[simp] theorem State.canBegin_pending (s : State) (n : Nat) (sof : Nat) : (State.canBegin s n sof).pending = s.pending := by
  unfold State.canBegin; grind [State.canGone_pending, State.setCan_pending, State.canFillAt_pending]
@[simp] theorem State.canFlushRx_pending (s : State) (n : Nat) : (State.canFlushRx s n).pending = s.pending := by
  simp [State.canFlushRx]
@[simp] theorem State.canState_pending (s : State) (n : Nat) (time : Word) :
    (State.canState s n time).pending = s.pending := by
  unfold State.canState; grind [State.bump_pending, State.put_pending, State.raise_pending, State.canAbandon_pending]
@[simp] theorem State.canSafe_pending (s : State) : (State.canSafe s).pending = s.pending := by
  simp [State.canSafe, apply_ite State.pending]
@[simp] theorem State.canCommission_pending (s : State) : (State.canCommission s).pending = s.pending := by
  simp [State.canCommission]
@[simp] theorem State.canRecover_pending (s : State) (n : Nat) : (State.canRecover s n).pending = s.pending := by
  simp [State.canRecover, apply_ite State.pending]
@[simp] theorem State.canRecovered_pending (s : State) (n : Nat) : (State.canRecovered s n).pending = s.pending := by
  simp [State.canRecovered, apply_ite State.pending]
@[simp] theorem State.canOpmode_pending (s : State) (n : Nat) : (State.canOpmode s n).pending = s.pending := by
  simp [State.canOpmode, apply_ite State.pending]
@[simp] theorem State.canOpmodeWritten_pending (s : State) (n : Nat) : (State.canOpmodeWritten s n).pending = s.pending := by
  simp [State.canOpmodeWritten, apply_ite State.pending]
@[simp] theorem State.canRdStart_pending (s : State) (n : Nat) : (State.canRdStart s n).pending = s.pending := by
  simp [State.canRdStart]
@[simp] theorem State.canRdEnd_pending (s : State) (n : Nat) : (State.canRdEnd s n).pending = s.pending := by
  simp [State.canRdEnd]
@[simp] theorem State.canRdAbort_pending (s : State) (n : Nat) : (State.canRdAbort s n).pending = s.pending := by
  simp [State.canRdAbort, apply_ite State.pending]
@[simp] theorem State.canRdTimeout_pending (s : State) (n : Nat) : (State.canRdTimeout s n).pending = s.pending := by
  unfold State.canRdTimeout; grind [→ State.expire_pending_of, State.canRdEnd_pending, State.put_pending]
@[simp] theorem State.canHold_pending (s : State) (n : Nat) (stage : Nat) (cands : List Nat) :
    (State.canHold s n stage cands).pending = s.pending := by
  simp [State.canHold]
@[simp] theorem State.canSurveyEnd_pending (s : State) (n : Nat) (pulses : List Nat) :
    (State.canSurveyEnd s n pulses).pending = s.pending := by
  unfold State.canSurveyEnd; grind [→ State.expire_pending_of, State.canHold_pending, State.disarm_pending]
@[simp] theorem State.canDwellEnd_pending (s : State) (n : Nat) : (State.canDwellEnd s n).pending = s.pending := by
  unfold State.canDwellEnd; grind [→ State.expire_pending_of, State.canHold_pending]
@[simp] theorem State.canRdDone_pending (s : State) (n : Nat) (nom : Nat) (data : Option Nat) :
    (State.canRdDone s n nom data).pending = s.pending := by
  unfold State.canRdDone; split <;> simp [apply_ite State.pending]
@[simp] theorem State.canRdFrame_pending (s : State) (n : Nat) (f : CanFrame) :
    (State.canRdFrame s n f).pending = s.pending := by
  unfold State.canRdFrame; grind [State.put_pending, State.setCan_pending, State.canHold_pending, State.canRdDone_pending]
@[simp] theorem State.canRecGood_pending (s : State) (n : Nat) : (State.canRecGood s n).pending = s.pending := by
  simp [State.canRecGood, apply_ite State.pending]
@[simp] theorem State.canReceive_pending (s : State) (n : Nat) (f : CanFrame) :
    (State.canReceive s n f).pending = s.pending := by
  simp [State.canReceive, apply_ite State.pending]
@[simp] theorem State.canBusErr_pending (s : State) (n : Nat) (e : CanError) :
    (State.canBusErr s n e).pending = s.pending := by
  simp [State.canBusErr, apply_ite State.pending]
@[simp] theorem State.canSent_pending (s : State) (n : Nat) (t : CanTx) (ago : Nat) :
    (State.canSent s n t ago).pending = s.pending := by
  simp [State.canSent, apply_ite State.pending]
@[simp] theorem State.canFailed_pending (s : State) (n : Nat) (t : CanTx) (e : CanError) (at_ : Word) :
    (State.canFailed s n t e at_).pending = s.pending := by
  simp [State.canFailed, apply_ite State.pending]
@[simp] theorem State.canLoop_pending (s : State) (n : Nat) (t : CanTx) (a : CanAttempt) :
    (State.canLoop s n t a).pending = s.pending := by
  unfold State.canLoop; (repeat' split) <;> simp_all [apply_ite State.pending]
@[simp] theorem State.canLateEnd_pending (s : State) (n : Nat) (a : CanAttempt) :
    (State.canLateEnd s n a).pending = s.pending := by
  unfold State.canLateEnd; split <;> simp [apply_ite State.pending]
@[simp] theorem State.canAttempt_pending (s : State) (n : Nat) (a : CanAttempt) :
    (State.canAttempt s n a).pending = s.pending := by
  unfold State.canAttempt; grind [State.canLateEnd_pending, State.canBegin_pending, State.canLoop_pending, State.canSent_pending, State.bump_pending, State.canGone_pending, State.canFailed_pending, State.canFill_pending]
@[simp] theorem State.canReference_pending (s : State) (n : Nat) : (State.canReference s n).pending = s.pending := by
  simp [State.canReference, apply_ite State.pending]
@[simp] theorem State.canWoke_pending (s : State) (n : Nat) (f : Option CanFrame) :
    (State.canWoke s n f).pending = s.pending := by
  simp [State.canWoke]
@[simp] theorem State.canCleared_pending (s : State) : (State.canCleared s).pending = s.pending := by
  simp [State.canCleared]

/-! ### MacOps -/

@[simp] theorem State.setMac_pending (s : State) (m : Nat) (x : MacS) : (State.setMac s m x).pending = s.pending := by
  simp [State.setMac]
@[simp] theorem State.macLinkChange_pending (s : State) (m : Nat) (f : State → State) (hf : ∀ x, (f x).pending = x.pending) :
    (State.macLinkChange s m f).pending = s.pending := by
  unfold State.macLinkChange; (repeat' split) <;> simp_all [apply_ite State.pending]
@[simp] theorem State.macRxc_pending (s : State) (m : Nat) (runs : Bool) : (State.macRxc s m runs).pending = s.pending := by
  simp [State.macRxc]
@[simp] theorem State.setMacQueue_pending (s : State) (m : Nat) (q : Nat) (l : List MacTx) :
    (State.setMacQueue s m q l).pending = s.pending := by
  simp [State.setMacQueue]
@[simp] theorem State.macFeed_pending (s : State) (m : Nat) : (State.macFeed s m).pending = s.pending := by
  unfold State.macFeed; (repeat' split) <;> simp_all [apply_ite State.pending]
@[simp] theorem State.macStart_pending (s : State) (m : Nat) (at_ : Nat) : (State.macStart s m at_).pending = s.pending := by
  simp [State.macStart]
@[simp] theorem State.macLoad_pending (s : State) (m : Nat) (t : MacTx) : (State.macLoad s m t).pending = s.pending := by
  simp [State.macLoad, apply_ite State.pending]
@[simp] theorem State.macYield_pending (s : State) (m : Nat) : (State.macYield s m).pending = s.pending := by
  unfold State.macYield; grind [State.setMacQueue_pending, State.setMac_pending]
@[simp] theorem State.macFill_pending (s : State) (m : Nat) : (State.macFill s m).pending = s.pending := by
  unfold State.macFill; grind [State.macYield_pending, State.macLoad_pending, State.setMac_pending, State.setMacQueue_pending]
@[simp] theorem State.macTransmit_pending (s : State) (m : Nat) : (State.macTransmit s m).pending = s.pending := by
  simp [State.macTransmit]
@[simp] theorem State.macLose_pending (s : State) (m : Nat) (count : Nat) :
    (State.macLose s m count).pending = s.pending := by
  simp [State.macLose]
@[simp] theorem State.macClose_pending (s : State) (m : Nat) : (State.macClose s m).pending = s.pending := by
  simp [State.macClose, apply_ite State.pending]
@[simp] theorem State.macPackRec_pending (s : State) (m : Nat) (time : Word) (alone : Bool) (ws : List Word) :
    (State.macPackRec s m time alone ws).pending = s.pending := by
  simp [State.macPackRec, apply_ite State.pending]
@[simp] theorem State.macDeliver_pending (s : State) (m : Nat) (hdr : Word) (time : Word) (data : List Byte) :
    (State.macDeliver s m hdr time data).pending = s.pending := by
  simp [State.macDeliver, apply_ite State.pending]
@[simp] theorem State.macPackEnd_pending (s : State) (m : Nat) : (State.macPackEnd s m).pending = s.pending := by
  unfold State.macPackEnd; grind [→ State.expire_pending_of, State.macClose_pending]
@[simp] theorem State.macReport_pending (s : State) (m : Nat) (t : MacTx) (outcome : Nat) :
    (State.macReport s m t outcome).pending = s.pending := by
  simp [State.macReport, apply_ite State.pending]
@[simp] theorem State.macLeave_pending (s : State) (m : Nat) (t : MacTx) (outcome : Nat) :
    (State.macLeave s m t outcome).pending = s.pending := by
  simp [State.macLeave, apply_ite State.pending]
@[simp] theorem State.macStamp_pending (s : State) (m : Nat) (t : MacTx) : (State.macStamp s m t).pending = s.pending := by
  simp [State.macStamp, apply_ite State.pending]
@[simp] theorem State.macTsqPop_pending (s : State) (m : Nat) : (State.macTsqPop s m).pending = s.pending := by
  simp [State.macTsqPop]
@[simp] theorem State.macGate_pending (s : State) (m : Nat) : (State.macGate s m).pending = s.pending := by
  unfold State.macGate; grind [State.macYield_pending, State.macFill_pending, State.macLeave_pending, State.macCount_pending, State.setMac_pending, State.macStart_pending, State.disarm_pending]
@[simp] theorem State.macInband_pending (s : State) (m : Nat) (speed : BitVec 2) (duplex : Bool) (link : Bool) :
    (State.macInband s m speed duplex link).pending = s.pending := by
  simp [State.macInband]
@[simp] theorem State.macDefer_pending (s : State) (m : Nat) (carrier : Bool) :
    (State.macDefer s m carrier).pending = s.pending := by
  simp [State.macDefer, apply_ite State.pending]
@[simp] theorem State.macCollision_pending (s : State) (m : Nat) (bits : Nat) :
    (State.macCollision s m bits).pending = s.pending := by
  unfold State.macCollision; grind [State.setMac_pending, State.macGate_pending, State.macCount_pending, State.advance_pending, State.macLeave_pending, → State.freeIn_pending_of, State.arm_pending]
@[simp] theorem State.macBackoff_pending (s : State) (m : Nat) : (State.macBackoff s m).pending = s.pending := by
  unfold State.macBackoff; grind [→ State.expire_pending_of, State.setMac_pending]
@[simp] theorem State.macLateEnd_pending (s : State) (m : Nat) : (State.macLateEnd s m).pending = s.pending := by
  unfold State.macLateEnd; grind [State.setMac_pending]
@[simp] theorem State.macTxEnd_pending (s : State) (m : Nat) : (State.macTxEnd s m).pending = s.pending := by
  unfold State.macTxEnd; grind [State.macLateEnd_pending, State.macGate_pending, State.advance_pending, State.setMac_pending, State.macCount_pending, State.macLeave_pending, State.macStamp_pending]
@[simp] theorem State.macFlushTx_pending (s : State) (m : Nat) : ((State.macFlushTx s m).1).pending = s.pending := by
  unfold State.macFlushTx; grind [State.macCount_pending, State.setMac_pending, State.macLeave_pending, State.disarm_pending, → State.emptyPort_pending_of]
theorem State.macFlushTx_pending_of (s : State) (m : Nat) {sx : State} {qx : Nat} (h : State.macFlushTx s m = (sx, qx)) : sx.pending = s.pending := by
  have e := State.macFlushTx_pending s m
  rw [h] at e
  exact e
@[simp] theorem State.macFlushRx_pending (s : State) (m : Nat) : (State.macFlushRx s m).pending = s.pending := by
  simp [State.macFlushRx]
@[simp] theorem State.macSafe1_pending (s : State) (m : Nat) : (State.macSafe1 s m).pending = s.pending := by
  simp [State.macSafe1]
@[simp] theorem State.macSafe_pending (s : State) : (State.macSafe s).pending = s.pending := by
  simp [State.macSafe, apply_ite State.pending]
@[simp] theorem State.macCommission_pending (s : State) : (State.macCommission s).pending = s.pending := by
  simp [State.macCommission]
@[simp] theorem State.macComm_pending (s : State) (m : Nat) (r : MacRx) : (State.macComm s m r).pending = s.pending := by
  unfold State.macComm; split <;> simp [apply_ite State.pending]
@[simp] theorem State.macReceive_pending (s : State) (m : Nat) (r : MacRx) :
    (State.macReceive s m r).pending = s.pending := by
  unfold State.macReceive; (repeat' split) <;> simp_all [apply_ite State.pending]
@[simp] theorem State.mdioGo_pending (s : State) : (State.mdioGo s).pending = s.pending := by
  simp [State.mdioGo]
@[simp] theorem State.mdioEnd_pending (s : State) (data : BitVec 16) : (State.mdioEnd s data).pending = s.pending := by
  simp [State.mdioEnd, apply_ite State.pending]
@[simp] theorem State.macWoke_pending (s : State) (m : Nat) (mode : Nat) : (State.macWoke s m mode).pending = s.pending := by
  simp [State.macWoke]
@[simp] theorem State.macCleared_pending (s : State) : (State.macCleared s).pending = s.pending := by
  simp [State.macCleared]

/-! ### BridgeOps -/

@[simp] theorem State.setHbr_pending (s : State) (h : HbrS) : (State.setHbr s h).pending = s.pending := by
  simp [State.setHbr]
@[simp] theorem State.hostOut_pending (s : State) (o : HostOut) : (State.hostOut s o).pending = s.pending := by
  simp [State.hostOut]
@[simp] theorem State.msi_pending (s : State) (v : Nat) : (State.msi s v).pending = s.pending := by
  simp [State.msi, apply_ite State.pending]
@[simp] theorem State.hbrIrq_pending (s : State) (f : Fld) (v : Nat) : (State.hbrIrq s f v).pending = s.pending := by
  simp [State.hbrIrq, apply_ite State.pending]
@[simp] theorem State.bar4Write_pending (s : State) (off : Nat) (w : Word) :
    (State.bar4Write s off w).pending = s.pending := by
  simp [State.bar4Write, apply_ite State.pending]
@[simp] theorem State.aerNote_pending (s : State) (b : Nat) : (State.aerNote s b).pending = s.pending := by
  simp [State.aerNote]
@[simp] theorem State.tlpBad_pending (s : State) (read : Bool) : (State.tlpBad s read).pending = s.pending := by
  simp [State.tlpBad, apply_ite State.pending]
@[simp] theorem State.bar4_pending (s : State) (off : Nat) (wr : Option Word) (beOk : Bool) :
    (State.bar4 s off wr beOk).pending = s.pending := by
  unfold State.bar4; (repeat' split) <;> simp_all [apply_ite State.pending]
@[simp] theorem State.elog_pending (s : State) (e : List Word) : (State.elog s e).pending = s.pending := by
  simp [State.elog, apply_ite State.pending]
@[simp] theorem State.elogCmd_pending (s : State) (c : HbrCmd) (st : Status) (src : Option (BitVec 24)) (sent : Bool) :
    (State.elogCmd s c st src sent).pending = s.pending := by
  simp [State.elogCmd, apply_ite State.pending]
@[simp] theorem State.errPendClear_pending (s : State) : (State.errPendClear s).pending = s.pending := by
  simp [State.errPendClear, apply_ite State.pending]
@[simp] theorem State.pfDrop_pending (s : State) (i : Nat) : (State.pfDrop s i).pending = s.pending := by
  unfold State.pfDrop; split <;> simp [apply_ite State.pending]
@[simp] theorem State.pfDropWin_pending (s : State) (w : Nat) : (State.pfDropWin s w).pending = s.pending := by
  simp [State.pfDropWin]
@[simp] theorem State.pfEnd_pending (s : State) (i : Nat) : (State.pfEnd s i).pending = s.pending := by
  unfold State.pfEnd; grind [→ State.expire_pending_of, State.pfDrop_pending]
@[simp] theorem State.pfKeep_pending (s : State) (off : Nat) (ws : List Word) :
    (State.pfKeep s off ws).pending = s.pending := by
  simp [State.pfKeep, apply_ite State.pending]
@[simp] theorem State.readEnd_pending (s : State) (id : Nat) : (State.readEnd s id).pending = s.pending := by
  unfold State.readEnd; split <;> simp [apply_ite State.pending]
@[simp] theorem State.readPart_pending (s : State) (id : Nat) (at_ : Nat) (ws : List Word) (ok : Bool) :
    (State.readPart s id at_ ws ok).pending = s.pending := by
  unfold State.readPart; split <;> simp [apply_ite State.pending]
@[simp] theorem State.pfServe_pending (s : State) (c : HbrCmd) (i : Nat) (b : PfBuf) :
    (State.pfServe s c i b).pending = s.pending := by
  unfold State.pfServe; split <;> simp [apply_ite State.pending]
@[simp] theorem State.hbrSend_pending (s : State) (c : HbrCmd) : (State.hbrSend s c).pending = s.pending := by
  unfold State.hbrSend; grind [State.pfServe_pending, State.bump_pending, State.emit_pending, State.setHbr_pending]
@[simp] theorem State.hbrPump_pending (x0 : Nat) (x1 : State) : (State.hbrPump x0 x1).pending = x1.pending := by
  (induction x0 generalizing x1) <;> (unfold State.hbrPump; (repeat' split)) <;> simp_all [apply_ite State.pending]
@[simp] theorem State.hbrQueue_pending (s : State) (cs : List HbrCmd) : (State.hbrQueue s cs).pending = s.pending := by
  simp [State.hbrQueue]
@[simp] theorem State.nextOrder_pending (s : State) : ((State.nextOrder s).2).pending = s.pending := by
  simp [State.nextOrder]
theorem State.nextOrder_pending_of (s : State) {sx : Nat} {qx : State} (h : State.nextOrder s = (sx, qx)) : qx.pending = s.pending := by
  have e := State.nextOrder_pending s
  rw [h] at e
  exact e
@[simp] theorem State.winWrite_pending (s : State) (off : Nat) (ws : List Word) (beOk : Bool) :
    (State.winWrite s off ws beOk).pending = s.pending := by
  unfold State.winWrite; grind [State.pfDropWin_pending, → State.nextOrder_pending_of, State.elogCmd_pending, State.hbrQueue_pending]
@[simp] theorem State.winRead_pending (s : State) (off : Nat) (n : Nat) : (State.winRead s off n).pending = s.pending := by
  simp only [State.winRead, State.expire]; (repeat' split) <;> simp_all [apply_ite State.pending]
@[simp] theorem State.cmdEnd_pending (s : State) (c : HbrCmd) (st : Status) (ws : List Word) (src : Option (BitVec 24)) (sent : Bool) :
    (State.cmdEnd s c st ws src sent).pending = s.pending := by
  unfold State.cmdEnd; (repeat' split) <;> simp_all [apply_ite State.pending]
@[simp] theorem State.trkFree_pending (s : State) (t : Nat) : (State.trkFree s t).pending = s.pending := by
  simp [State.trkFree]
@[simp] theorem State.trkReply_pending (s : State) (f : Frame) (authOk : Bool) :
    (State.trkReply s f authOk).pending = s.pending := by
  unfold State.trkReply; grind [State.bump_pending, State.trkFree_pending, State.arm_pending, State.disarm_pending, State.cmdEnd_pending, State.hbrPump_pending]
@[simp] theorem State.postedReply_pending (s : State) (f : Frame) : (State.postedReply s f).pending = s.pending := by
  unfold State.postedReply; split <;> simp [apply_ite State.pending]
@[simp] theorem State.ncRetry_pending (s : State) (t : Nat) : (State.ncRetry s t).pending = s.pending := by
  unfold State.ncRetry; grind [→ State.expire_pending_of, State.bump_pending, State.setHbr_pending, State.emit_pending, State.arm_pending]
@[simp] theorem State.trkTimeout_pending (s : State) (t : Nat) : (State.trkTimeout s t).pending = s.pending := by
  unfold State.trkTimeout; grind [→ State.expire_pending_of, State.setHbr_pending, State.arm_pending, State.cmdEnd_pending, State.hbrPump_pending]
@[simp] theorem State.trkRelease_pending (s : State) (t : Nat) : (State.trkRelease s t).pending = s.pending := by
  unfold State.trkRelease; grind [→ State.expire_pending_of, State.trkFree_pending, State.hbrPump_pending]
@[simp] theorem State.readDeadline_pending (s : State) (id : Nat) : (State.readDeadline s id).pending = s.pending := by
  unfold State.readDeadline; grind [→ State.expire_pending_of, State.setHbr_pending, State.elogCmd_pending, State.readEnd_pending]
@[simp] theorem State.txBack_pending (s : State) (st : Status) (seq : BitVec 16) :
    (State.txBack s st seq).pending = s.pending := by
  unfold State.txBack; split <;> simp [apply_ite State.pending]
@[simp] theorem State.txPump_pending (x0 : Nat) (x1 : State) : (State.txPump x0 x1).pending = x1.pending := by
  (induction x0 generalizing x1) <;> (unfold State.txPump; grind [→ State.fresh_pending_of, State.txBack_pending, State.enqueue_pending, State.setHbr_pending])
@[simp] theorem State.txTail_pending (s : State) (tail : Nat) (ds : List TxDesc) :
    (State.txTail s tail ds).pending = s.pending := by
  simp [State.txTail, apply_ite State.pending]
@[simp] theorem State.txLooked_pending (s : State) : (State.txLooked s).pending = s.pending := by
  unfold State.txLooked; split <;> simp [apply_ite State.pending]
@[simp] theorem State.rxTail_pending (s : State) (q : Nat) (tail : Nat) (bufs : List RxDesc) :
    (State.rxTail s q tail bufs).pending = s.pending := by
  simp [State.rxTail, apply_ite State.pending]
@[simp] theorem State.rxVector_pending (s : State) (q : Nat) : (State.rxVector s q).pending = s.pending := by
  simp [State.rxVector, apply_ite State.pending]
@[simp] theorem State.intModEnd_pending (s : State) (q : Nat) : (State.intModEnd s q).pending = s.pending := by
  unfold State.intModEnd; grind [→ State.expire_pending_of, State.arm_pending, State.msi_pending, State.setHbr_pending]
@[simp] theorem State.rxWrite_pending (s : State) (q : Nat) (v : VUnit) (loupe : Bool) :
    (State.rxWrite s q v loupe).pending = s.pending := by
  unfold State.rxWrite; grind [→ State.freshWords_pending_of, State.setHbr_pending, State.hostOut_pending, State.rxVector_pending, State.bump_pending, State.put_pending]
@[simp] theorem State.rxDeliver_pending (s : State) : (State.rxDeliver s).pending = s.pending := by
  unfold State.rxDeliver; (repeat' split) <;> simp_all [apply_ite State.pending]
@[simp] theorem State.linkUpPcie_pending (s : State) (speed : Nat) (width : Nat) :
    (State.linkUpPcie s speed width).pending = s.pending := by
  simp [State.linkUpPcie, apply_ite State.pending]
@[simp] theorem State.linkDownPcie_pending (s : State) : (State.linkDownPcie s).pending = s.pending := by
  simp [State.linkDownPcie, apply_ite State.pending]
@[simp] theorem State.hbrCleared_pending (s : State) : (State.hbrCleared s).pending = s.pending := by
  simp [State.hbrCleared]
@[simp] theorem State.hbrMode_pending (s : State) : (State.hbrMode s).pending = s.pending := by
  simp [State.hbrMode, apply_ite State.pending]

/-! ### PowerOps -/

@[simp] theorem State.setPch_pending (s : State) (c : Nat) (x : PchS) : (State.setPch s c x).pending = s.pending := by
  simp [State.setPch]
@[simp] theorem State.setPst_pending (s : State) (c : Nat) (st : Nat) : (State.setPst s c st).pending = s.pending := by
  simp [State.setPst]
@[simp] theorem State.stopLimit_pending (s : State) (c : Nat) : (State.stopLimit s c).pending = s.pending := by
  simp [State.stopLimit, apply_ite State.pending]
@[simp] theorem State.pgQualify_pending (s : State) (c : Nat) (from_ : Nat) :
    (State.pgQualify s c from_).pending = s.pending := by
  simp [State.pgQualify, apply_ite State.pending]
@[simp] theorem State.pgDrop_pending (s : State) (c : Nat) : (State.pgDrop s c).pending = s.pending := by
  simp [State.pgDrop, apply_ite State.pending]
@[simp] theorem State.pgAssert_pending (s : State) (c : Nat) : (State.pgAssert s c).pending = s.pending := by
  unfold State.pgAssert; grind [→ State.expire_pending_of, State.setPch_pending, State.put_pending, State.arm_pending]
@[simp] theorem State.gateTimers_pending (s : State) (c : Nat) : (State.gateTimers s c).pending = s.pending := by
  simp [State.gateTimers]
@[simp] theorem State.gateOff_pending (s : State) (c : Nat) (st : Nat) : (State.gateOff s c st).pending = s.pending := by
  simp [State.gateOff]
@[simp] theorem State.startRamp_pending (s : State) (c : Nat) : (State.startRamp s c).pending = s.pending := by
  simp [State.startRamp, apply_ite State.pending]
@[simp] theorem State.pchClrLatch_pending (s : State) (c : Nat) : (State.pchClrLatch s c).pending = s.pending := by
  simp [State.pchClrLatch, apply_ite State.pending]
@[simp] theorem State.park_pending (s : State) (c : Nat) : (State.park s c).pending = s.pending := by
  simp [State.park]
@[simp] theorem State.pchLose_pending (s : State) (c : Nat) : (State.pchLose s c).pending = s.pending := by
  simp [State.pchLose, apply_ite State.pending]
@[simp] theorem State.pchRegain_pending (s : State) (c : Nat) : (State.pchRegain s c).pending = s.pending := by
  simp [State.pchRegain, apply_ite State.pending]
@[simp] theorem State.pwrSettle_pending (s : State) : (State.pwrSettle s).pending = s.pending := by
  simp [State.pwrSettle]
@[simp] theorem State.parkTimeout_pending (s : State) (c : Nat) : (State.parkTimeout s c).pending = s.pending := by
  unfold State.parkTimeout; grind [→ State.expire_pending_of, State.gateOff_pending]
@[simp] theorem State.parkHandoff_pending (s : State) (c : Nat) : (State.parkHandoff s c).pending = s.pending := by
  simp [State.parkHandoff, apply_ite State.pending]
@[simp] theorem State.rampDone_pending (s : State) (c : Nat) (enhance : Bool) :
    (State.rampDone s c enhance).pending = s.pending := by
  simp [State.rampDone, apply_ite State.pending]
@[simp] theorem State.faultOff_pending (s : State) (c : Nat) (code : Nat) (end_ : Nat) :
    (State.faultOff s c code end_).pending = s.pending := by
  simp [State.faultOff, apply_ite State.pending]
@[simp] theorem State.limitOnset_pending (s : State) (c : Nat) : (State.limitOnset s c).pending = s.pending := by
  simp [State.limitOnset, apply_ite State.pending]
@[simp] theorem State.limitEnd_pending (s : State) (c : Nat) : (State.limitEnd s c).pending = s.pending := by
  simp [State.limitEnd, apply_ite State.pending]
@[simp] theorem State.ftExpire_pending (s : State) (c : Nat) : (State.ftExpire s c).pending = s.pending := by
  unfold State.ftExpire; grind [→ State.expire_pending_of, State.faultOff_pending]
@[simp] theorem State.tickFault_pending (s : State) (c : Nat) : (State.tickFault s c).pending = s.pending := by
  simp [State.tickFault, apply_ite State.pending]
@[simp] theorem State.pchCmdOn_pending (s : State) (c : Nat) : (State.pchCmdOn s c).pending = s.pending := by
  simp [State.pchCmdOn, apply_ite State.pending]
@[simp] theorem State.pchCmdOff_pending (s : State) (c : Nat) : (State.pchCmdOff s c).pending = s.pending := by
  simp [State.pchCmdOff, apply_ite State.pending]
@[simp] theorem State.thermal_pending (s : State) (c : Nat) : (State.thermal s c).pending = s.pending := by
  simp [State.thermal, apply_ite State.pending]
@[simp] theorem State.gateFail_pending (s : State) (c : Nat) : (State.gateFail s c).pending = s.pending := by
  simp [State.gateFail, apply_ite State.pending]
@[simp] theorem State.stuckOn_pending (s : State) (c : Nat) : (State.stuckOn s c).pending = s.pending := by
  simp [State.stuckOn, apply_ite State.pending]
@[simp] theorem State.rampTimeout_pending (s : State) (c : Nat) : (State.rampTimeout s c).pending = s.pending := by
  unfold State.rampTimeout; grind [→ State.expire_pending_of, State.faultOff_pending]
@[simp] theorem State.openLoad_pending (s : State) (c : Nat) : (State.openLoad s c).pending = s.pending := by
  simp [State.openLoad, apply_ite State.pending]
@[simp] theorem State.retryEnd_pending (s : State) (c : Nat) : (State.retryEnd s c).pending = s.pending := by
  unfold State.retryEnd; grind [→ State.expire_pending_of, State.arm_pending, State.startRamp_pending, State.bump_pending, State.put_pending, State.channelOrder_pending]
@[simp] theorem State.retryReset_pending (s : State) (c : Nat) : (State.retryReset s c).pending = s.pending := by
  unfold State.retryReset; grind [→ State.expire_pending_of, State.put_pending]
@[simp] theorem State.vinOut_pending (s : State) (ov : Bool) : (State.vinOut s ov).pending = s.pending := by
  simp [State.vinOut, apply_ite State.pending]
@[simp] theorem State.vinBack_pending (s : State) : (State.vinBack s).pending = s.pending := by
  simp [State.vinBack, apply_ite State.pending]
@[simp] theorem State.pfwarn_pending (s : State) (on : Bool) : (State.pfwarn s on).pending = s.pending := by
  simp [State.pfwarn, apply_ite State.pending]
@[simp] theorem State.trackState_pending (s : State) (c : Nat) (m : Meas) : (State.trackState s c m).pending = s.pending := by
  simp [State.trackState, apply_ite State.pending]
@[simp] theorem State.takeChannel_pending (s : State) (c : Nat) : (State.takeChannel s c).pending = s.pending := by
  simp [State.takeChannel, apply_ite State.pending]
@[simp] theorem State.channelApply_pending (s : State) (c : Nat) (what : Nat) (code : Nat) :
    (State.channelApply s c what code).pending = s.pending := by
  simp [State.channelApply, apply_ite State.pending]
@[simp] theorem State.measure_pending (s : State) (c : Nat) (m : Meas) : (State.measure s c m).pending = s.pending := by
  simp [State.measure, apply_ite State.pending]
@[simp] theorem State.dieLinkLoss_pending (s : State) : (State.dieLinkLoss s).pending = s.pending := by
  simp [State.dieLinkLoss, apply_ite State.pending]
@[simp] theorem State.dieLinkReturn_pending (s : State) : (State.dieLinkReturn s).pending = s.pending := by
  simp [State.dieLinkReturn]
@[simp] theorem State.pwrSafe_pending (s : State) : (State.pwrSafe s).pending = s.pending := by
  unfold State.pwrSafe
  split
  · rfl
  · refine foldl_pending _ (fun s c => ?_) _ _
    split <;> simp
@[simp] theorem State.pwrCommission_pending (s : State) : (State.pwrCommission s).pending = s.pending := by
  simp [State.pwrCommission, apply_ite State.pending]
@[simp] theorem State.pwrRun_pending (s : State) : (State.pwrRun s).pending = s.pending := by
  simp [State.pwrRun, apply_ite State.pending]
@[simp] theorem State.pwrSleep_pending (s : State) : (State.pwrSleep s).pending = s.pending := by
  simp [State.pwrSleep]
@[simp] theorem State.pwrCoreReset_pending (s : State) : ((State.pwrCoreReset s).1).pending = s.pending := by
  simp [State.pwrCoreReset, apply_ite State.pending]
theorem State.pwrCoreReset_pending_of (s : State) {sx : State} {qx : Bool} (h : State.pwrCoreReset s = (sx, qx)) : sx.pending = s.pending := by
  have e := State.pwrCoreReset_pending s
  rw [h] at e
  exact e
@[simp] theorem State.pwrCleared_pending (s : State) : (State.pwrCleared s).pending = s.pending := by
  simp [State.pwrCleared]
@[simp] theorem State.pwrMasks_pending (s : State) (on : BitVec 16) (off : BitVec 16) :
    (State.pwrMasks s on off).pending = s.pending := by
  simp [State.pwrMasks, apply_ite State.pending]
@[simp] theorem State.pchCalibrate_pending (s : State) (gain : Bool) (c : Nat) :
    (State.pchCalibrate s gain c).pending = s.pending := by
  simp [State.pchCalibrate]

/-! ### FireOps -/

@[simp] theorem State.fireStart_pending (s : State) (n : Nat) : (State.fireStart s n).pending = s.pending := by
  unfold State.fireStart; (repeat' split) <;> (try have h0 := State.takeEntry_pending_of (h := by assumption)) <;> first | rfl | (simp_all [apply_ite State.pending]; done)
@[simp] theorem State.fireStop_pending (s : State) (n : Nat) : (State.fireStop s n).pending = s.pending := by
  unfold State.fireStop; (repeat' split) <;> (try have h0 := State.takeEntry_pending_of (h := by assumption)) <;> first | rfl | (simp_all [apply_ite State.pending]; done)
@[simp] theorem State.sendNow_pending (s : State) (e : Entry) : (State.sendNow s e).pending = s.pending := by
  simp [State.sendNow, apply_ite State.pending]
@[simp] theorem State.fireSend_pending (s : State) (n : Nat) : (State.fireSend s n).pending = s.pending := by
  unfold State.fireSend; grind [→ State.takeEntry_pending_of, State.fired_pending, State.sendNow_pending]
@[simp] theorem State.firePinSet_pending (s : State) (n : Nat) : (State.firePinSet s n).pending = s.pending := by
  unfold State.firePinSet; grind [→ State.takeEntry_pending_of, State.fired_pending, State.setDout_pending]
@[simp] theorem State.firePinSample_pending (s : State) (n : Nat) : (State.firePinSample s n).pending = s.pending := by
  unfold State.firePinSample; grind [→ State.takeEntry_pending_of, State.fired_pending]
@[simp] theorem State.fireCountSample_pending (s : State) (n : Nat) : (State.fireCountSample s n).pending = s.pending := by
  unfold State.fireCountSample; grind [→ State.takeEntry_pending_of, State.fired_pending]
@[simp] theorem State.fireTrigger_pending (s : State) (n : Nat) : (State.fireTrigger s n).pending = s.pending := by
  unfold State.fireTrigger; (repeat' split) <;> (try have h0 := State.takeEntry_pending_of (h := by assumption)) <;> first | rfl | (simp_all [apply_ite State.pending]; done)
@[simp] theorem State.entryOver_pending (s : State) (e : Entry) (c : Nat) : (State.entryOver s e c).pending = s.pending := by
  simp [State.entryOver, apply_ite State.pending]
@[simp] theorem State.entryOn_pending (s : State) (e : Entry) (c : Nat) : (State.entryOn s e c).pending = s.pending := by
  simp [State.entryOn]
@[simp] theorem State.entryOff_pending (s : State) (e : Entry) (c : Nat) : (State.entryOff s e c).pending = s.pending := by
  simp [State.entryOff]
@[simp] theorem State.firePwrOn_pending (s : State) (n : Nat) : (State.firePwrOn s n).pending = s.pending := by
  unfold State.firePwrOn; (repeat' split) <;> (try have h0 := State.takeEntry_pending_of (h := by assumption)) <;> first | rfl | (simp_all [apply_ite State.pending]; done)
@[simp] theorem State.firePwrOff_pending (s : State) (n : Nat) : (State.firePwrOff s n).pending = s.pending := by
  unfold State.firePwrOff; (repeat' split) <;> (try have h0 := State.takeEntry_pending_of (h := by assumption)) <;> first | rfl | (simp_all [apply_ite State.pending]; done)
@[simp] theorem State.firePwrSample_pending (s : State) (n : Nat) : (State.firePwrSample s n).pending = s.pending := by
  unfold State.firePwrSample; grind [→ State.takeEntry_pending_of, State.fired_pending]
@[simp] theorem State.schedCancel_pending (s : State) (n : Nat) : (State.schedCancel s n).pending = s.pending := by
  simp [State.schedCancel, apply_ite State.pending]

/-! ### SafeOps -/

@[simp] theorem State.settleOutputs_pending (s : State) : (State.settleOutputs s).pending = s.pending := by
  simp [State.settleOutputs]
@[simp] theorem State.logMode_pending (s : State) (old : Mode) (cause : Option Nat) (reason : Word) :
    (State.logMode s old cause reason).pending = s.pending := by
  unfold State.logMode; grind [→ State.fresh_pending_of, State.log_pending]
@[simp] theorem State.endTestRelease_pending (s : State) (m : Mode) : (State.endTestRelease s m).pending = s.pending := by
  simp [State.endTestRelease, apply_ite State.pending]
@[simp] theorem State.setMode_pending (s : State) (m : Mode) : (State.setMode s m).pending = s.pending := by
  simp [State.setMode, apply_ite State.pending]
@[simp] theorem State.toSafe_pending (s : State) (w : Word) : (State.toSafe s w).pending = s.pending := by
  simp [State.toSafe]
@[simp] theorem State.enterSafe_pending (s : State) (cause : Nat) (source : Nat) (reason : Nat) :
    (State.enterSafe s cause source reason).pending = s.pending := by
  simp [State.enterSafe, apply_ite State.pending]
@[simp] theorem State.commissionOutputs_pending (s : State) : (State.commissionOutputs s).pending = s.pending := by
  simp [State.commissionOutputs]
@[simp] theorem State.leaveSafe_pending (s : State) : (State.leaveSafe s).pending = s.pending := by
  simp [State.leaveSafe, apply_ite State.pending]

/-! ### PairOps -/

@[simp] theorem State.driveIlk_pending (s : State) (on : Bool) : (State.driveIlk s on).pending = s.pending := by
  simp [State.driveIlk, apply_ite State.pending]
@[simp] theorem State.setPair_pending (s : State) (st : Nat) : (State.setPair s st).pending = s.pending := by
  simp [State.setPair, apply_ite State.pending]
@[simp] theorem State.enterSync_pending (s : State) : (State.enterSync s).pending = s.pending := by
  simp [State.enterSync, apply_ite State.pending]
@[simp] theorem State.enterOos_pending (s : State) (stuck : Bool) : (State.enterOos s stuck).pending = s.pending := by
  simp [State.enterOos]
@[simp] theorem State.leaveOos_pending (s : State) : (State.leaveOos s).pending = s.pending := by
  simp [State.leaveOos, apply_ite State.pending]
@[simp] theorem State.ackSend_pending (s : State) : (State.ackSend s).pending = s.pending := by
  simp [State.ackSend, apply_ite State.pending]
@[simp] theorem State.heartbeatSend_pending (s : State) : (State.heartbeatSend s).pending = s.pending := by
  unfold State.heartbeatSend; grind [→ State.expire_pending_of, State.arm_pending, State.ackSend_pending, State.orderedSet_pending]
@[simp] theorem State.startClaim_pending (s : State) (cause : Nat) : (State.startClaim s cause).pending = s.pending := by
  simp [State.startClaim]
@[simp] theorem State.claimAbort_pending (s : State) : (State.claimAbort s).pending = s.pending := by
  simp [State.claimAbort, apply_ite State.pending]
@[simp] theorem State.declare_pending (s : State) (cause : Nat) : (State.declare s cause).pending = s.pending := by
  simp [State.declare, apply_ite State.pending]
@[simp] theorem State.judgePaths_pending (s : State) : (State.judgePaths s).pending = s.pending := by
  simp [State.judgePaths, apply_ite State.pending]
@[simp] theorem State.heartbeatIn_pending (s : State) (d2 : BitVec 8) (d3 : BitVec 8) :
    (State.heartbeatIn s d2 d3).pending = s.pending := by
  simp [State.heartbeatIn, apply_ite State.pending]
@[simp] theorem State.hbInEdge_pending (s : State) (interval : Nat) : (State.hbInEdge s interval).pending = s.pending := by
  simp [State.hbInEdge, apply_ite State.pending]
theorem State.silence_pending (s : State) (pin : Bool) : ∀ tx, State.silence s pin = some tx → tx.pending = s.pending := by
  unfold State.silence; grind [State.disarm_pending, → State.expire_pending_of]
theorem State.silence_pending_of (s : State) (pin : Bool) {tx : State} (h : State.silence s pin = some tx) : tx.pending = s.pending :=
  State.silence_pending s pin tx h
@[simp] theorem State.handoverFails_pending (s : State) : (State.handoverFails s).pending = s.pending := by
  unfold State.handoverFails; split <;> simp [apply_ite State.pending]
@[simp] theorem State.pathLost_pending (s : State) (pin : Bool) : (State.pathLost s pin).pending = s.pending := by
  simp [State.pathLost, apply_ite State.pending]
@[simp] theorem State.heartbeatSilent_pending (s : State) (pin : Bool) :
    (State.heartbeatSilent s pin).pending = s.pending := by
  unfold State.heartbeatSilent; grind [→ State.silence_pending_of, State.pathLost_pending]
@[simp] theorem State.pinWaitEnd_pending (s : State) : (State.pinWaitEnd s).pending = s.pending := by
  unfold State.pinWaitEnd; grind [→ State.expire_pending_of, State.declare_pending, State.enterOos_pending]
@[simp] theorem State.releaseHeld_pending (s : State) : (State.releaseHeld s).pending = s.pending := by
  simp [State.releaseHeld]
@[simp] theorem State.claimWon_pending (s : State) : (State.claimWon s).pending = s.pending := by
  simp [State.claimWon, apply_ite State.pending]
@[simp] theorem State.claimDrive_pending (s : State) : (State.claimDrive s).pending = s.pending := by
  simp [State.claimDrive]
@[simp] theorem State.claimWaitEnd_pending (s : State) : (State.claimWaitEnd s).pending = s.pending := by
  unfold State.claimWaitEnd; grind [→ State.expire_pending_of, State.claimAbort_pending, State.claimDrive_pending]
@[simp] theorem State.claimCheck_pending (s : State) : (State.claimCheck s).pending = s.pending := by
  unfold State.claimCheck; grind [→ State.expire_pending_of, State.claimWon_pending, State.raise_pending, State.enterOos_pending, State.driveIlk_pending]
@[simp] theorem State.ilkChange_pending (s : State) (low : Bool) : (State.ilkChange s low).pending = s.pending := by
  simp [State.ilkChange, apply_ite State.pending]
@[simp] theorem State.fitnessLoss_pending (s : State) : (State.fitnessLoss s).pending = s.pending := by
  simp [State.fitnessLoss, apply_ite State.pending]
@[simp] theorem State.joinSend_pending (s : State) : (State.joinSend s).pending = s.pending := by
  unfold State.joinSend; grind [→ State.expire_pending_of, State.arm_pending, State.transmit_pending, State.startClaim_pending]
@[simp] theorem State.joinIn_pending (s : State) (p : List Word) : (State.joinIn s p).pending = s.pending := by
  simp [State.joinIn, apply_ite State.pending]
@[simp] theorem State.startPairing_pending (s : State) (alt : Bool) : (State.startPairing s alt).pending = s.pending := by
  simp [State.startPairing, apply_ite State.pending]
@[simp] theorem State.pairWaitEnd_pending (s : State) : (State.pairWaitEnd s).pending = s.pending := by
  unfold State.pairWaitEnd; grind [→ State.expire_pending_of, State.startClaim_pending]
@[simp] theorem State.rejoin_pending (s : State) : (State.rejoin s).pending = s.pending := by
  simp [State.rejoin, apply_ite State.pending]
@[simp] theorem State.resync_pending (s : State) : (State.resync s).pending = s.pending := by
  simp [State.resync, apply_ite State.pending]
@[simp] theorem State.takeOrder_pending (s : State) (on : BitVec 16) : ((State.takeOrder s on).1).pending = s.pending := by
  unfold State.takeOrder; grind [State.put_pending, State.orderSet_pending]
theorem State.takeOrder_pending_of (s : State) (on : BitVec 16) {sx : State} {qx : Bool} (h : State.takeOrder s on = (sx, qx)) : sx.pending = s.pending := by
  have e := State.takeOrder_pending s on
  rw [h] at e
  exact e
@[simp] theorem State.seqFollow_pending (s : State) (f : Frame) : (State.seqFollow s f).pending = s.pending := by
  simp [State.seqFollow]
@[simp] theorem State.pressFollow_pending (s : State) (f : Frame) : (State.pressFollow s f).pending = s.pending := by
  unfold State.pressFollow; grind [State.pressTouch_pending, State.setCtx_pending, State.roomForCtx_pending]
@[simp] theorem State.cancelHeld_pending (s : State) (f : Frame) : (State.cancelHeld s f).pending = s.pending := by
  simp [State.cancelHeld]
@[simp] theorem State.progressIn_pending (s : State) (p : Nat) (seq : BitVec 16) :
    (State.progressIn s p seq).pending = s.pending := by
  unfold State.progressIn; split <;> simp [apply_ite State.pending]
@[simp] theorem State.holdExpire_pending (s : State) : (State.holdExpire s).pending = s.pending := by
  unfold State.holdExpire; split <;> simp [apply_ite State.pending]
@[simp] theorem State.digestSend_pending (s : State) : (State.digestSend s).pending = s.pending := by
  unfold State.digestSend; split <;> simp [apply_ite State.pending]
@[simp] theorem State.digestMiss_pending (s : State) : (State.digestMiss s).pending = s.pending := by
  simp [State.digestMiss, apply_ite State.pending]
@[simp] theorem State.digestOrder_pending (s : State) (p : List Word) : (State.digestOrder s p).pending = s.pending := by
  simp [State.digestOrder, apply_ite State.pending]
@[simp] theorem State.digestVerdict_pending (s : State) (on : Nat) (eq : Bool) :
    (State.digestVerdict s on eq).pending = s.pending := by
  simp [State.digestVerdict, apply_ite State.pending]
@[simp] theorem State.digestReturned_pending (s : State) (on : Nat) (p : List Word) :
    (State.digestReturned s on p).pending = s.pending := by
  unfold State.digestReturned; split <;> simp [apply_ite State.pending]
@[simp] theorem State.digestBack_pending (s : State) (p : List Word) : (State.digestBack s p).pending = s.pending := by
  simp [State.digestBack]
@[simp] theorem State.digestIn_pending (s : State) (on : BitVec 16) (p : List Word) :
    (State.digestIn s on p).pending = s.pending := by
  simp [State.digestIn, apply_ite State.pending]
@[simp] theorem State.transferFailed_pending (s : State) : (State.transferFailed s).pending = s.pending := by
  simp [State.transferFailed, apply_ite State.pending]
@[simp] theorem State.transferTimeout_pending (s : State) : (State.transferTimeout s).pending = s.pending := by
  unfold State.transferTimeout; grind [→ State.expire_pending_of, State.transferFailed_pending]
@[simp] theorem State.takeSession_pending (s : State) (x : Session) (age : Nat) (left : Option Nat) :
    (State.takeSession s x age left).pending = s.pending := by
  unfold State.takeSession; split <;> simp [apply_ite State.pending]
@[simp] theorem State.takeQueues_pending (s : State) (r : SyncRecord) : (State.takeQueues s r).pending = s.pending := by
  simp [State.takeQueues]
@[simp] theorem State.syncIn_pending (s : State) (r : SyncRecord) : (State.syncIn s r).pending = s.pending := by
  simp [State.syncIn, apply_ite State.pending]
@[simp] theorem State.handoverRelease_pending (s : State) (fault : Bool) :
    (State.handoverRelease s fault).pending = s.pending := by
  simp [State.handoverRelease, apply_ite State.pending]
@[simp] theorem State.ackIn_pending (s : State) (on : BitVec 16) : (State.ackIn s on).pending = s.pending := by
  unfold State.ackIn; grind [State.disarm_pending, State.arm_pending, State.placeWaiting_pending, State.handoverRelease_pending]
@[simp] theorem State.nakIn_pending (s : State) (on : BitVec 16) : (State.nakIn s on).pending = s.pending := by
  simp [State.nakIn, apply_ite State.pending]
@[simp] theorem State.ackTimeout_pending (s : State) : (State.ackTimeout s).pending = s.pending := by
  unfold State.ackTimeout; grind [→ State.expire_pending_of, State.resendOrders_pending]
@[simp] theorem State.backlogFull_pending (s : State) : (State.backlogFull s).pending = s.pending := by
  unfold State.backlogFull; grind [→ State.expire_pending_of, State.startTransfer_pending]
@[simp] theorem State.startHandover_pending (s : State) (c : Option Cmd) : (State.startHandover s c).pending = s.pending := by
  simp [State.startHandover]
@[simp] theorem State.handoverIn_pending (s : State) (on : BitVec 16) : (State.handoverIn s on).pending = s.pending := by
  simp [State.handoverIn, apply_ite State.pending]
@[simp] theorem State.progressOrderIn_pending (s : State) (on : BitVec 16) (p : List Word) :
    (State.progressOrderIn s on p).pending = s.pending := by
  simp [State.progressOrderIn, apply_ite State.pending]
@[simp] theorem State.channelOrderIn_pending (s : State) (on : BitVec 16) (p : List Word) :
    (State.channelOrderIn s on p).pending = s.pending := by
  simp [State.channelOrderIn, apply_ite State.pending]
@[simp] theorem State.pairCleared_pending (s : State) : (State.pairCleared s).pending = s.pending := by
  simp [State.pairCleared]
@[simp] theorem State.leavePair_pending (s : State) : (State.leavePair s).pending = s.pending := by
  simp [State.leavePair]

/-! ### Quiesce -/

@[simp] theorem State.resetRegs_pending (s : State) (p : Cls → Nat → Bool) : (State.resetRegs s p).pending = s.pending := by
  simp [State.resetRegs]
@[simp] theorem State.loadRecord_pending (s : State) (isl : Nat → Bool) (e : Nat × Word) :
    (State.loadRecord s isl e).pending = s.pending := by
  unfold State.loadRecord; split <;> simp [apply_ite State.pending]
@[simp] theorem State.loadProfile_pending (s : State) (isl : Nat → Bool) : (State.loadProfile s isl).pending = s.pending := by
  simp [State.loadProfile, apply_ite State.pending]

/-! ### ResetOps -/

@[simp] theorem State.setRst_pending (s : State) (i : Nat) (on : Bool) : (State.setRst s i on).pending = s.pending := by
  simp [State.setRst]
@[simp] theorem State.setResync_pending (s : State) (i : Nat) (on : Bool) : (State.setResync s i on).pending = s.pending := by
  simp [State.setResync]
@[simp] theorem State.setIslRst_pending (s : State) (i : Nat) (on : Bool) : (State.setIslRst s i on).pending = s.pending := by
  simp [State.setIslRst]
@[simp] theorem State.dropHold_pending (s : State) : (State.dropHold s).pending = s.pending := by
  simp [State.dropHold, apply_ite State.pending]
@[simp] theorem State.dropToward_pending (s : State) (i : Nat) : (State.dropToward s i).pending = s.pending := by
  simp [State.dropToward, apply_ite State.pending]
@[simp] theorem State.swcCleared_pending (s : State) : (State.swcCleared s).pending = s.pending := by
  simp [State.swcCleared]
@[simp] theorem State.dropStore_pending (s : State) : (State.dropStore s).pending = s.pending := by
  unfold State.dropStore; split <;> simp [apply_ite State.pending]
@[simp] theorem State.loseSessions_pending (s : State) : (State.loseSessions s).pending = s.pending := by
  simp [State.loseSessions]
@[simp] theorem State.mgtCleared_pending (s : State) : (State.mgtCleared s).pending = s.pending := by
  simp [State.mgtCleared]
@[simp] theorem State.laneCleared_pending (s : State) (l : Nat) : (State.laneCleared s l).pending = s.pending := by
  simp [State.laneCleared, apply_ite State.pending]
@[simp] theorem State.clearIsland_pending (s : State) (i : Nat) : (State.clearIsland s i).pending = s.pending := by
  simp [State.clearIsland, apply_ite State.pending]
@[simp] theorem State.assertReset_pending (s : State) (i : Nat) (p : Cls → Bool) :
    (State.assertReset s i p).pending = s.pending := by
  simp [State.assertReset, apply_ite State.pending]
@[simp] theorem State.islReset_pending (s : State) (i : Nat) : (State.islReset s i).pending = s.pending := by
  simp [State.islReset, apply_ite State.pending]
@[simp] theorem State.releaseIsland_pending (s : State) (i : Nat) : (State.releaseIsland s i).pending = s.pending := by
  simp [State.releaseIsland, apply_ite State.pending]
@[simp] theorem State.islRelease_pending (s : State) (i : Nat) : (State.islRelease s i).pending = s.pending := by
  unfold State.islRelease; grind [→ State.expire_pending_of, State.releaseIsland_pending]
@[simp] theorem State.resyncToken_pending (s : State) (i : Nat) : (State.resyncToken s i).pending = s.pending := by
  simp [State.resyncToken, apply_ite State.pending]
@[simp] theorem State.handshakeEnd_pending (s : State) (a : Nat) (b : Nat) :
    (State.handshakeEnd s a b).pending = s.pending := by
  simp [State.handshakeEnd, apply_ite State.pending]
@[simp] theorem State.clockStop_pending (s : State) (i : Nat) : (State.clockStop s i).pending = s.pending := by
  simp [State.clockStop, apply_ite State.pending]
@[simp] theorem State.clockResume_pending (s : State) (i : Nat) : (State.clockResume s i).pending = s.pending := by
  simp [State.clockResume, apply_ite State.pending]
@[simp] theorem State.powerDown_pending (s : State) (i : Nat) : (State.powerDown s i).pending = s.pending := by
  simp [State.powerDown, apply_ite State.pending]
@[simp] theorem State.powerMask_pending (s : State) (m : Nat) : (State.powerMask s m).pending = s.pending := by
  simp [State.powerMask, apply_ite State.pending]
@[simp] theorem State.powerUp_pending (s : State) (i : Nat) : (State.powerUp s i).pending = s.pending := by
  unfold State.powerUp; grind [→ State.expire_pending_of, State.loadProfile_pending, State.wr_pending, State.releaseIsland_pending]
@[simp] theorem State.pwrAfterPark_pending (s : State) : (State.pwrAfterPark s).pending = s.pending := by
  simp [State.pwrAfterPark, apply_ite State.pending]
@[simp] theorem State.putStraps_pending (s : State) (st : Straps) : (State.putStraps s st).pending = s.pending := by
  simp [State.putStraps]
@[simp] theorem State.startOver_pending (s : State) (kind : ResetKind) : (State.startOver s kind).pending = s.pending := by
  simp [State.startOver]
@[simp] theorem State.chipReset_pending (s : State) (kind : ResetKind) : (State.chipReset s kind).pending = s.pending := by
  simp only [State.chipReset, State.expire]; (repeat' split) <;> simp_all [apply_ite State.pending]
@[simp] theorem State.powerOn_pending (s : State) (st : Straps) : (State.powerOn s st).pending = s.pending := by
  simp [State.powerOn]
@[simp] theorem State.powerOnEvent_pending (s : State) (st : Straps) : (State.powerOnEvent s st).pending = s.pending := by
  simp [State.powerOnEvent, apply_ite State.pending]
@[simp] theorem State.hold_pending (s : State) : (State.hold s).pending = s.pending := by
  simp [State.hold]
@[simp] theorem State.resetN_pending (s : State) (low : Bool) (st : Straps) :
    (State.resetN s low st).pending = s.pending := by
  simp [State.resetN, apply_ite State.pending]
@[simp] theorem State.railDrop_pending (s : State) (r : Rail) : (State.railDrop s r).pending = s.pending := by
  unfold State.railDrop; (repeat' split) <;> simp_all [apply_ite State.pending]
@[simp] theorem State.switchReset_pending (s : State) : (State.switchReset s).pending = s.pending := by
  simp [State.switchReset]
@[simp] theorem State.enterSleep_pending (s : State) : (State.enterSleep s).pending = s.pending := by
  simp [State.enterSleep, apply_ite State.pending]
@[simp] theorem State.wakeFall_pending (s : State) : (State.wakeFall s).pending = s.pending := by
  simp [State.wakeFall, apply_ite State.pending]
@[simp] theorem State.wakeUp_pending (s : State) : (State.wakeUp s).pending = s.pending := by
  simp [State.wakeUp]
@[simp] theorem State.wakeHigh_pending (s : State) : (State.wakeHigh s).pending = s.pending := by
  simp [State.wakeHigh, apply_ite State.pending]
@[simp] theorem State.wakeRise_pending (s : State) : (State.wakeRise s).pending = s.pending := by
  simp [State.wakeRise, apply_ite State.pending]
@[simp] theorem State.canWakeUp_pending (s : State) (n : Nat) (f : Option CanFrame) :
    (State.canWakeUp s n f).pending = s.pending := by
  simp [State.canWakeUp, apply_ite State.pending]

/-! ### ReactOps -/

@[simp] theorem State.reactionRecord_pending (s : State) (src : Nat) (r : Nat) :
    (State.reactionRecord s src r).pending = s.pending := by
  simp [State.reactionRecord]
@[simp] theorem State.reactedOnly_pending (s : State) (src : Nat) (counted : Bool) :
    (State.reactedOnly s src counted).pending = s.pending := by
  simp [State.reactedOnly, apply_ite State.pending]
@[simp] theorem State.reactTaken_pending (s : State) (srcs : List Nat) (r : Nat) :
    (State.reactTaken s srcs r).pending = s.pending := by
  unfold State.reactTaken; split <;> simp [apply_ite State.pending]
@[simp] theorem State.reactSafe_pending (s : State) (srcs : List Nat) : (State.reactSafe s srcs).pending = s.pending := by
  simp [State.reactSafe]
@[simp] theorem State.holdReaction_pending (s : State) (srcs : List Nat) :
    (State.holdReaction s srcs).pending = s.pending := by
  simp [State.holdReaction]
@[simp] theorem State.reactAsSafe_pending (s : State) (srcs : List Nat) : (State.reactAsSafe s srcs).pending = s.pending := by
  simp [State.reactAsSafe, apply_ite State.pending]
@[simp] theorem State.reactIsland_pending (s : State) (srcs : List Nat) : (State.reactIsland s srcs).pending = s.pending := by
  simp [State.reactIsland, apply_ite State.pending]
@[simp] theorem State.reactHandover_pending (s : State) (srcs : List Nat) :
    (State.reactHandover s srcs).pending = s.pending := by
  simp [State.reactHandover, apply_ite State.pending]
@[simp] theorem State.reactChip_pending (s : State) (srcs : List Nat) : (State.reactChip s srcs).pending = s.pending := by
  simp [State.reactChip]
@[simp] theorem State.reactBy_pending (s : State) (r : Nat) (srcs : List Nat) :
    (State.reactBy s r srcs).pending = s.pending := by
  simp [State.reactBy, apply_ite State.pending]
@[simp] theorem State.takeDue_pending (s : State) : (State.takeDue s).pending = s.pending := by
  simp [State.takeDue, apply_ite State.pending]
@[simp] theorem State.settle_pending (s : State) : (State.settle s).pending = s.pending := by
  simp [State.settle, apply_ite State.pending]
@[simp] theorem State.graceExpire_pending (s : State) (src : Nat) : (State.graceExpire s src).pending = s.pending := by
  unfold State.graceExpire; grind [→ State.expire_pending_of, State.put_pending]
@[simp] theorem State.reactionComplete_pending (s : State) : (State.reactionComplete s).pending = s.pending := by
  unfold State.reactionComplete; split <;> simp [apply_ite State.pending]
@[simp] theorem State.clearInst_pending (s : State) (src : Nat) (keep : BitVec 64) :
    (State.clearInst s src keep).pending = s.pending := by
  simp [State.clearInst]
@[simp] theorem State.faultAck_pending (s : State) (src : Nat) (clear : Bool) :
    (State.faultAck s src clear).pending = s.pending := by
  unfold State.faultAck; grind [State.settle_pending, State.graceExpire_pending, State.clearInst_pending, State.disarm_pending, State.put_pending, State.faultRecord_pending, State.faultEvent_pending, State.updateAlive_pending]
@[simp] theorem State.collectorCheck_pending (s : State) : (State.collectorCheck s).pending = s.pending := by
  simp [State.collectorCheck, apply_ite State.pending]
@[simp] theorem State.fltInject_pending (s : State) : (State.fltInject s).pending = s.pending := by
  simp [State.fltInject]
@[simp] theorem State.pulseEnd_pending (s : State) : (State.pulseEnd s).pending = s.pending := by
  unfold State.pulseEnd; grind [→ State.expire_pending_of, State.arm_pending, State.faultPulse_pending]
@[simp] theorem State.aliveToggle_pending (s : State) : (State.aliveToggle s).pending = s.pending := by
  unfold State.aliveToggle; grind [→ State.expire_pending_of, State.arm_pending, State.updateAlive_pending]
@[simp] theorem State.upset_pending (s : State) (src : Nat) (inst : Nat) (place : Nat) (bits : Nat) :
    (State.upset s src inst place bits).pending = s.pending := by
  simp [State.upset, apply_ite State.pending]
@[simp] theorem State.sourceRaise_pending (s : State) (src : Nat) (inst : Nat) (e : Edge) :
    (State.sourceRaise s src inst e).pending = s.pending := by
  unfold State.sourceRaise; (repeat' split) <;> simp_all [apply_ite State.pending]

/-! ### MgtOps -/

@[simp] theorem State.lockstep_pending (s : State) (g : Nat) : (State.lockstep s g).pending = s.pending := by
  simp [State.lockstep, apply_ite State.pending]
@[simp] theorem State.localWdg_pending (s : State) : (State.localWdg s).pending = s.pending := by
  simp [State.localWdg, apply_ite State.pending]
@[simp] theorem State.tempLimit_pending (s : State) (k : Nat) (src : Nat) (limit : Nat) (crit : Bool) :
    (State.tempLimit s k src limit crit).pending = s.pending := by
  simp only [State.tempLimit, State.expire]; (repeat' split) <;> simp_all [apply_ite State.pending]
@[simp] theorem State.tempCheck_pending (s : State) (k : Nat) : (State.tempCheck s k).pending = s.pending := by
  simp [State.tempCheck]
@[simp] theorem State.sensorRead_pending (s : State) (r : Sensor) : (State.sensorRead s r).pending = s.pending := by
  unfold State.sensorRead; (repeat' split) <;> simp_all [apply_ite State.pending]
@[simp] theorem State.logMirror_pending (s : State) : (State.logMirror s).pending = s.pending := by
  simp [State.logMirror, apply_ite State.pending]
@[simp] theorem State.wdgReset_pending (s : State) (pending : Option Nat) :
    (State.wdgReset s pending).pending = s.pending := by
  simp [State.wdgReset]
@[simp] theorem State.kick_pending (s : State) (v : Nat) : (State.kick s v).pending = s.pending := by
  simp [State.kick, apply_ite State.pending]
@[simp] theorem State.wdgExpire_pending (s : State) (pending : Option Nat) :
    (State.wdgExpire s pending).pending = s.pending := by
  unfold State.wdgExpire; grind [→ State.expire_pending_of, State.wdgReset_pending]
@[simp] theorem State.sramScrub_pending (s : State) (found : EccResult) (core : Bool) :
    (State.sramScrub s found core).pending = s.pending := by
  unfold State.sramScrub; (repeat' split) <;> simp_all [apply_ite State.pending]

/-! ### BootOps -/

@[simp] theorem State.setSlot_pending (s : State) (t : Nat) (x : Slot) : (State.setSlot s t x).pending = s.pending := by
  simp [State.setSlot]
@[simp] theorem State.logUpdate_pending (s : State) (op : Nat) (slot : Nat) (status : Status) :
    (State.logUpdate s op slot status).pending = s.pending := by
  simp [State.logUpdate]
@[simp] theorem State.setSlotState_pending (s : State) (t : Nat) (st : Nat) (op : Nat) (status : Status) :
    (State.setSlotState s t st op status).pending = s.pending := by
  simp [State.setSlotState]
@[simp] theorem State.revokeOld_pending (s : State) (t : Nat) : (State.revokeOld s t).pending = s.pending := by
  simp [State.revokeOld, apply_ite State.pending]
@[simp] theorem State.chooseSlot_pending (s : State) : ((State.chooseSlot s).1).pending = s.pending := by
  unfold State.chooseSlot; (repeat' split) <;> simp_all [apply_ite State.pending]
theorem State.chooseSlot_pending_of (s : State) {sx : State} {qx : Option Nat} (h : State.chooseSlot s = (sx, qx)) : sx.pending = s.pending := by
  have e := State.chooseSlot_pending s
  rw [h] at e
  exact e
@[simp] theorem State.setMarks_pending (s : State) (n : Nat) (m : Marks) : (State.setMarks s n m).pending = s.pending := by
  simp [State.setMarks]
@[simp] theorem State.enterRecovery_pending (s : State) (chosen : Nat) :
    (State.enterRecovery s chosen).pending = s.pending := by
  simp [State.enterRecovery]
@[simp] theorem State.profileLoaded_pending (s : State) (p : Nat) (defaults : Bool) :
    (State.profileLoaded s p defaults).pending = s.pending := by
  simp [State.profileLoaded]
@[simp] theorem State.endOfBoot_pending (s : State) (forceSafe : Bool) :
    (State.endOfBoot s forceSafe).pending = s.pending := by
  simp [State.endOfBoot, apply_ite State.pending]
@[simp] theorem State.splitDecision_pending (s : State) : (State.splitDecision s).pending = s.pending := by
  simp [State.splitDecision, apply_ite State.pending]
@[simp] theorem State.logLastLife_pending (s : State) : (State.logLastLife s).pending = s.pending := by
  simp [State.logLastLife, apply_ite State.pending]
@[simp] theorem State.logStepRecs_pending (s : State) : (State.logStepRecs s).pending = s.pending := by
  simp [State.logStepRecs]
@[simp] theorem State.finishBurn_pending (s : State) : (State.finishBurn s).pending = s.pending := by
  simp [State.finishBurn, apply_ite State.pending]
@[simp] theorem State.logStart_pending (s : State) : (State.logStart s).pending = s.pending := by
  simp [State.logStart, apply_ite State.pending]
@[simp] theorem State.lanesFollow_pending (s : State) : (State.lanesFollow s).pending = s.pending := by
  simp [State.lanesFollow, apply_ite State.pending]
@[simp] theorem State.stepWork_pending (s : State) (n : Nat) (r : StepResult) :
    (State.stepWork s n r).pending = s.pending := by
  unfold State.stepWork; split <;> simp [apply_ite State.pending]
@[simp] theorem State.stepBegin_pending (s : State) (n : Nat) (alt : Bool) :
    (State.stepBegin s n alt).pending = s.pending := by
  simp [State.stepBegin, apply_ite State.pending]
@[simp] theorem State.stepFailNote_pending (s : State) (n : Nat) (c : Nat) (act : Nat) :
    (State.stepFailNote s n c act).pending = s.pending := by
  simp [State.stepFailNote, apply_ite State.pending]
@[simp] theorem State.skipB14_pending (s : State) : (State.skipB14 s).pending = s.pending := by
  simp [State.skipB14]
@[simp] theorem State.reachStep_pending (x0 : Nat) (x1 : Nat) (x2 : State) :
    (State.reachStep x0 x1 x2).pending = x2.pending := by
  (induction x0 generalizing x1 x2) <;> (unfold State.reachStep; grind [State.endOfBoot_pending, State.profileLoaded_pending, State.stepBegin_pending, State.setMarks_pending, State.stepFailNote_pending, State.enterRecovery_pending, State.skipB14_pending])
@[simp] theorem State.stepDone_pending (s : State) (n : Nat) (r : StepResult) :
    (State.stepDone s n r).pending = s.pending := by
  simp [State.stepDone, apply_ite State.pending]
@[simp] theorem State.stepFailed_pending (s : State) (n : Nat) : (State.stepFailed s n).pending = s.pending := by
  simp [State.stepFailed, apply_ite State.pending]
@[simp] theorem State.drawChallenge_pending (s : State) : (State.drawChallenge s).pending = s.pending := by
  simp [State.drawChallenge]
@[simp] theorem State.bootStart_pending (s : State) : (State.bootStart s).pending = s.pending := by
  simp [State.bootStart, apply_ite State.pending]
@[simp] theorem State.bootImage_pending (s : State) (r : StepResult) : (State.bootImage s r).pending = s.pending := by
  unfold State.bootImage; grind [→ State.chooseSlot_pending_of, State.revokeOld_pending, State.stepFailed_pending, State.put_pending, State.stepDone_pending, State.wr_pending]
@[simp] theorem State.bootProfile_pending (s : State) (r : StepResult) : (State.bootProfile s r).pending = s.pending := by
  simp [State.bootProfile, apply_ite State.pending]
@[simp] theorem State.bootStepDone_pending (s : State) (r : StepResult) : (State.bootStepDone s r).pending = s.pending := by
  unfold State.bootStepDone; split <;> simp [apply_ite State.pending]

/-! ### CmdOps -/

@[simp] theorem State.auditRefusal_pending (s : State) (denied : Bool) (f : Frame) (st : Status) (data : List Word) :
    (State.auditRefusal s denied f st data).pending = s.pending := by
  unfold State.auditRefusal; grind [State.log_pending]
@[simp] theorem State.noteAuthFail_pending (s : State) (f : Frame) : (State.noteAuthFail s f).pending = s.pending := by
  simp [State.noteAuthFail, apply_ite State.pending]
@[simp] theorem State.noteRefusal_pending (s : State) (f : Frame) (st : Status) (step5 : Bool) :
    (State.noteRefusal s f st step5).pending = s.pending := by
  simp [State.noteRefusal, apply_ite State.pending]
@[simp] theorem State.auditCmd_pending (s : State) (f : Frame) (st : Status) :
    (State.auditCmd s f st).pending = s.pending := by
  unfold State.auditCmd; split <;> simp [apply_ite State.pending]
@[simp] theorem State.romSend_pending (s : State) (f : Frame) : (State.romSend s f).pending = s.pending := by
  unfold State.romSend; grind [→ State.takeSeq_pending_of, → State.sealFrame_pending_of, State.spendSessions_pending, State.bump_pending, State.rxWrite_pending, State.transmit_pending]
@[simp] theorem State.sendOwn_pending (s : State) (f : Frame) : (State.sendOwn s f).pending = s.pending := by
  simp [State.sendOwn, apply_ite State.pending]
@[simp] theorem State.romFlush_pending (s : State) : (State.romFlush s).pending = s.pending := by
  simp [State.romFlush, apply_ite State.pending]
@[simp] theorem State.cachePut_pending (s : State) (f : Frame) (reply : Frame) :
    (State.cachePut s f reply).pending = s.pending := by
  simp [State.cachePut, apply_ite State.pending]
@[simp] theorem State.unserve_pending (s : State) (c : Cmd) : (State.unserve s c).pending = s.pending := by
  simp [State.unserve]
@[simp] theorem State.putSlot_pending (s : State) (ring : Nat) (tail : Nat) (f : Frame) :
    (State.putSlot s ring tail f).pending = s.pending := by
  simp [State.putSlot]
@[simp] theorem State.respond_pending (s : State) (f : Frame) : (State.respond s f).pending = s.pending := by
  simp [State.respond]
@[simp] theorem State.reply_pending (s : State) (c : Cmd) (ordered : Bool) (a : Answer) :
    (State.reply s c ordered a).pending = s.pending := by
  simp [State.reply, apply_ite State.pending]
@[simp] theorem State.answer_pending (s : State) (c : Cmd) (ordered : Bool) (a : Answer) :
    (State.answer s c ordered a).pending = s.pending := by
  simp [State.answer, apply_ite State.pending]
@[simp] theorem State.release_pending (s : State) (c : Cmd) (r : Option Frame) :
    (State.release s c r).pending = s.pending := by
  simp [State.release, apply_ite State.pending]
@[simp] theorem State.finish_pending (s : State) (c : Cmd) (ordered : Bool) (a : Answer) :
    (State.finish s c ordered a).pending = s.pending := by
  unfold State.finish; (repeat' split) <;> simp_all [apply_ite State.pending]
@[simp] theorem State.complete_pending (s : State) (c : Cmd) (st : Status) (payload : List Word) :
    (State.complete s c st payload).pending = s.pending := by
  simp [State.complete, apply_ite State.pending]
@[simp] theorem State.setSession_pending (s : State) (x : Session) : (State.setSession s x).pending = s.pending := by
  simp [State.setSession]
@[simp] theorem State.dropVerify_pending (s : State) : (State.dropVerify s).pending = s.pending := by
  unfold State.dropVerify; split <;> simp [apply_ite State.pending]
@[simp] theorem State.abandonUpdate_pending (s : State) (n : BitVec 16) : (State.abandonUpdate s n).pending = s.pending := by
  simp [State.abandonUpdate, apply_ite State.pending]
@[simp] theorem State.dropSessions_pending (s : State) (p : Session → Bool) :
    (State.dropSessions s p).pending = s.pending := by
  simp [State.dropSessions]
@[simp] theorem State.closeSession_pending (s : State) (n : BitVec 16) (cause : Nat) :
    (State.closeSession s n cause).pending = s.pending := by
  unfold State.closeSession; split <;> simp [apply_ite State.pending]
@[simp] theorem State.armIdle_pending (s : State) (n : BitVec 16) : (State.armIdle s n).pending = s.pending := by
  simp [State.armIdle, apply_ite State.pending]
@[simp] theorem State.touchSession_pending (s : State) (n : BitVec 16) : (State.touchSession s n).pending = s.pending := by
  unfold State.touchSession; split <;> simp [apply_ite State.pending]
@[simp] theorem State.freeSession_pending (s : State) : ((State.freeSession s).2).pending = s.pending := by
  simp [State.freeSession]
theorem State.freeSession_pending_of (s : State) {sx : BitVec 16} {qx : State} (h : State.freeSession s = (sx, qx)) : qx.pending = s.pending := by
  have e := State.freeSession_pending s
  rw [h] at e
  exact e
@[simp] theorem State.openSession_pending (s : State) (f : Frame) (x : KeyExchange) :
    ((State.openSession s f x).1).pending = s.pending := by
  unfold State.openSession; grind [→ State.freeSession_pending_of, → State.freshWords_pending_of, State.armIdle_pending, State.arm_pending, State.log_pending, State.disarmAll_pending, State.setSession_pending, State.sessionOrder_pending]
theorem State.openSession_pending_of (s : State) (f : Frame) (x : KeyExchange) {sx : State} {qx : Answer} (h : State.openSession s f x = (sx, qx)) : sx.pending = s.pending := by
  have e := State.openSession_pending s f x
  rw [h] at e
  exact e
@[simp] theorem State.sessIdle_pending (s : State) (n : BitVec 16) : (State.sessIdle s n).pending = s.pending := by
  unfold State.sessIdle; grind [→ State.expire_pending_of, State.closeSession_pending]
@[simp] theorem State.sessUnused_pending (s : State) (n : BitVec 16) : (State.sessUnused s n).pending = s.pending := by
  unfold State.sessUnused; grind [→ State.expire_pending_of, State.closeSession_pending]
@[simp] theorem State.sessSpent_pending (s : State) (n : BitVec 16) : (State.sessSpent s n).pending = s.pending := by
  unfold State.sessSpent; grind [→ State.expire_pending_of, State.closeSession_pending]
@[simp] theorem State.sessionOpened_pending (s : State) (n : BitVec 16) : (State.sessionOpened s n).pending = s.pending := by
  simp [State.sessionOpened, apply_ite State.pending]
@[simp] theorem State.sessionClosing_pending (s : State) (n : BitVec 16) :
    (State.sessionClosing s n).pending = s.pending := by
  unfold State.sessionClosing; split <;> simp [apply_ite State.pending]
@[simp] theorem State.rekeyClose_pending (s : State) (n : BitVec 16) : (State.rekeyClose s n).pending = s.pending := by
  simp [State.rekeyClose, apply_ite State.pending]

/-! ### SecOps -/

@[simp] theorem State.ownerStart_pending (s : State) (w : Word) : (State.ownerStart s w).pending = s.pending := by
  simp [State.ownerStart, apply_ite State.pending]
@[simp] theorem State.otpDone_pending (s : State) (ok : Bool) : (State.otpDone s ok).pending = s.pending := by
  unfold State.otpDone; split <;> simp [apply_ite State.pending]
@[simp] theorem State.unlockStart_pending (s : State) (k : Nat) : (State.unlockStart s k).pending = s.pending := by
  simp [State.unlockStart]
@[simp] theorem State.unlockDone_pending (s : State) (tokenOk : Bool) : (State.unlockDone s tokenOk).pending = s.pending := by
  unfold State.unlockDone; split <;> simp [apply_ite State.pending]
@[simp] theorem State.tapLoad_pending (s : State) (i : TapInstr) : (State.tapLoad s i).pending = s.pending := by
  simp [State.tapLoad]

/-! ### UpdateOps -/

@[simp] theorem State.openTarget_pending (s : State) (h : ImgHead) : (State.openTarget s h).pending = s.pending := by
  simp [State.openTarget, apply_ite State.pending]
@[simp] theorem State.updateBegin_pending (s : State) (f : Frame) : ((State.updateBegin s f).1).pending = s.pending := by
  unfold State.updateBegin; grind [State.openTarget_pending, State.disarm_pending]
theorem State.updateBegin_pending_of (s : State) (f : Frame) {sx : State} {qx : Status × Word} (h : State.updateBegin s f = (sx, qx)) : sx.pending = s.pending := by
  have e := State.updateBegin_pending s f
  rw [h] at e
  exact e
@[simp] theorem State.setUpdTarget_pending (s : State) (u : Update) (x : Slot) :
    (State.setUpdTarget s u x).pending = s.pending := by
  simp [State.setUpdTarget, apply_ite State.pending]
@[simp] theorem State.setUpdate_pending (s : State) (u : Update) : (State.setUpdate s u).pending = s.pending := by
  simp [State.setUpdate]
@[simp] theorem State.updateBlock_pending (s : State) (f : Frame) (readOk : Bool) :
    ((State.updateBlock s f readOk).1).pending = s.pending := by
  unfold State.updateBlock; grind [State.setUpdTarget_pending, → State.freshWords_pending_of]
theorem State.updateBlock_pending_of (s : State) (f : Frame) (readOk : Bool) {sx : State} {qx : Status} (h : State.updateBlock s f readOk = (sx, qx)) : sx.pending = s.pending := by
  have e := State.updateBlock_pending s f readOk
  rw [h] at e
  exact e
@[simp] theorem State.eraseDone_pending (s : State) : (State.eraseDone s).pending = s.pending := by
  unfold State.eraseDone; split <;> simp [apply_ite State.pending]
@[simp] theorem State.verifyStart_pending (s : State) (u : Update) (c : Option Cmd) :
    (State.verifyStart s u c).pending = s.pending := by
  simp [State.verifyStart, apply_ite State.pending]
@[simp] theorem State.verified_pending (s : State) (u : Update) (r : VerifyResult) :
    (State.verified s u r).pending = s.pending := by
  simp [State.verified]
@[simp] theorem State.profileOf_pending (s : State) (x : Slot) : ((State.profileOf s x).1).pending = s.pending := by
  simp [State.profileOf]
theorem State.profileOf_pending_of (s : State) (x : Slot) {sx : State} {qx : Profile} (h : State.profileOf s x = (sx, qx)) : sx.pending = s.pending := by
  have e := State.profileOf_pending s x
  rw [h] at e
  exact e
@[simp] theorem State.storeDone_pending (s : State) : (State.storeDone s).pending = s.pending := by
  unfold State.storeDone; split <;> simp [apply_ite State.pending]
@[simp] theorem State.activateSlot_pending (s : State) (t : Nat) : (State.activateSlot s t).pending = s.pending := by
  simp [State.activateSlot]
@[simp] theorem State.updateActivate_pending (s : State) (session : BitVec 16) :
    ((State.updateActivate s session).1).pending = s.pending := by
  unfold State.updateActivate; grind [State.activateSlot_pending, → State.profileOf_pending_of]
theorem State.updateActivate_pending_of (s : State) (session : BitVec 16) {sx : State} {qx : Status} (h : State.updateActivate s session = (sx, qx)) : sx.pending = s.pending := by
  have e := State.updateActivate_pending s session
  rw [h] at e
  exact e
@[simp] theorem State.updateConfirm_pending (s : State) : (State.updateConfirm s).pending = s.pending := by
  simp [State.updateConfirm, apply_ite State.pending]
@[simp] theorem State.updateAbort_pending (s : State) (session : BitVec 16) :
    ((State.updateAbort s session).1).pending = s.pending := by
  unfold State.updateAbort; (repeat' split) <;> simp_all [apply_ite State.pending]
theorem State.updateAbort_pending_of (s : State) (session : BitVec 16) {sx : State} {qx : Status} (h : State.updateAbort s session = (sx, qx)) : sx.pending = s.pending := by
  have e := State.updateAbort_pending s session
  rw [h] at e
  exact e
@[simp] theorem State.relaySend_pending (s : State) (l : Nat) (ws : List Word) :
    (State.relaySend s l ws).pending = s.pending := by
  simp [State.relaySend, apply_ite State.pending]
@[simp] theorem State.relayReq_pending (s : State) (p : Pull) (off : Nat) (n : Nat) :
    (State.relayReq s p off n).pending = s.pending := by
  simp [State.relayReq]
@[simp] theorem State.setPull_pending (s : State) (p : Option Pull) : (State.setPull s p).pending = s.pending := by
  simp [State.setPull]
@[simp] theorem State.startPull_pending (s : State) (p : Pull) : (State.startPull s p).pending = s.pending := by
  simp [State.startPull]
@[simp] theorem State.romPull_pending (s : State) (lanes : List Nat) : (State.romPull s lanes).pending = s.pending := by
  unfold State.romPull; split <;> simp [apply_ite State.pending]
@[simp] theorem State.pullEnd_pending (s : State) (p : Pull) (st : Status) : (State.pullEnd s p st).pending = s.pending := by
  unfold State.pullEnd; split <;> simp [apply_ite State.pending]
@[simp] theorem State.updateRelay_pending (s : State) (c : Cmd) : ((State.updateRelay s c).1).pending = s.pending := by
  unfold State.updateRelay; grind [State.startPull_pending]
theorem State.updateRelay_pending_of (s : State) (c : Cmd) {sx : State} {qx : Status} (h : State.updateRelay s c = (sx, qx)) : sx.pending = s.pending := by
  have e := State.updateRelay_pending s c
  rw [h] at e
  exact e
@[simp] theorem State.pullHeader_pending (s : State) (p : Pull) (ws : List Word) (body : List Word) :
    (State.pullHeader s p ws body).pending = s.pending := by
  simp [State.pullHeader, apply_ite State.pending]
@[simp] theorem State.pullNext_pending (s : State) (p : Pull) : (State.pullNext s p).pending = s.pending := by
  simp [State.pullNext, apply_ite State.pending]
@[simp] theorem State.pullErased_pending (s : State) : (State.pullErased s).pending = s.pending := by
  unfold State.pullErased; split <;> simp [apply_ite State.pending]
@[simp] theorem State.relayData_pending (s : State) (l : Nat) (ws : List Word) (good : Bool) :
    (State.relayData s l ws good).pending = s.pending := by
  unfold State.relayData; (repeat' split) <;> simp_all [apply_ite State.pending]
@[simp] theorem State.relayRefuse_pending (s : State) (l : Nat) (ws : List Word) :
    (State.relayRefuse s l ws).pending = s.pending := by
  unfold State.relayRefuse; grind [State.bump_pending, State.pullEnd_pending, → State.freeIn_pending_of]
@[simp] theorem State.relayWindowEnd_pending (s : State) : (State.relayWindowEnd s).pending = s.pending := by
  unfold State.relayWindowEnd; grind [→ State.expire_pending_of, State.relayReq_pending]
@[simp] theorem State.relayNoProgress_pending (s : State) : (State.relayNoProgress s).pending = s.pending := by
  unfold State.relayNoProgress; grind [→ State.expire_pending_of, State.pullEnd_pending]
@[simp] theorem State.verifyComplete_pending (s : State) (r : VerifyResult) :
    (State.verifyComplete s r).pending = s.pending := by
  unfold State.verifyComplete; (repeat' split) <;> simp_all [apply_ite State.pending]
@[simp] theorem State.relayServe_pending (s : State) (l : Nat) (ws : List Word) :
    (State.relayServe s l ws).pending = s.pending := by
  simp [State.relayServe, apply_ite State.pending]
@[simp] theorem State.chunkWords_pending (s : State) (x : Slot) (off : Nat) (n : Nat) :
    ((State.chunkWords s x off n).2).pending = s.pending := by
  unfold State.chunkWords; split <;> simp [apply_ite State.pending]
theorem State.chunkWords_pending_of (s : State) (x : Slot) (off : Nat) (n : Nat) {sx : List Word} {qx : State} (h : State.chunkWords s x off n = (sx, qx)) : qx.pending = s.pending := by
  have e := State.chunkWords_pending s x off n
  rw [h] at e
  exact e
@[simp] theorem State.relayDataSend_pending (s : State) : (State.relayDataSend s).pending = s.pending := by
  unfold State.relayDataSend; grind [→ State.expire_pending_of, → State.chunkWords_pending_of, State.relaySend_pending, State.arm_pending]
@[simp] theorem State.recoveryPull_pending (s : State) : (State.recoveryPull s).pending = s.pending := by
  unfold State.recoveryPull; grind [→ State.expire_pending_of, State.romPull_pending, State.arm_pending]

/-! ### ReadOps -/

@[simp] theorem State.readMet_pending (s : State) (x : Place) : (State.readMet s x).pending = s.pending := by
  unfold State.readMet
  split <;> simp

/-! ### WriteOps -/

@[simp] theorem State.freeDesc_pending (s : State) : ((State.freeDesc s).2).pending = s.pending := by
  simp [State.freeDesc]
theorem State.freeDesc_pending_of (s : State) {sx : TxDesc} {qx : State} (h : State.freeDesc s = (sx, qx)) : qx.pending = s.pending := by
  have e := State.freeDesc_pending s
  rw [h] at e
  exact e
@[simp] theorem State.freeDescs_pending (x0 : Nat) (x1 : State) : ((State.freeDescs x0 x1).2).pending = x1.pending := by
  induction x0 generalizing x1 <;> simp_all [State.freeDescs, apply_ite State.pending]
theorem State.freeDescs_pending_of (x0 : Nat) (x1 : State) {sx : List TxDesc} {qx : State} (h : State.freeDescs x0 x1 = (sx, qx)) : qx.pending = x1.pending := by
  have e := State.freeDescs_pending x0 x1
  rw [h] at e
  exact e
@[simp] theorem State.freeBufs_pending (x0 : Nat) (x1 : State) : ((State.freeBufs x0 x1).2).pending = x1.pending := by
  induction x0 generalizing x1 <;> simp_all [State.freeBufs, apply_ite State.pending]
theorem State.freeBufs_pending_of (x0 : Nat) (x1 : State) {sx : List RxDesc} {qx : State} (h : State.freeBufs x0 x1 = (sx, qx)) : qx.pending = x1.pending := by
  have e := State.freeBufs_pending x0 x1
  rw [h] at e
  exact e
@[simp] theorem State.txTailReg_pending (s : State) (tail : Nat) : (State.txTailReg s tail).pending = s.pending := by
  simp [State.txTailReg]
@[simp] theorem State.rxTailReg_pending (s : State) (q : Nat) (tail : Nat) :
    (State.rxTailReg s q tail).pending = s.pending := by
  simp [State.rxTailReg]
@[simp] theorem State.txEnable_pending (s : State) (was : Bool) : (State.txEnable s was).pending = s.pending := by
  simp [State.txEnable, apply_ite State.pending]
@[simp] theorem State.rxEnable_pending (s : State) (q : Nat) (was : Bool) : (State.rxEnable s q was).pending = s.pending := by
  simp [State.rxEnable, apply_ite State.pending]
@[simp] theorem State.lnkCfgWritten_pending (s : State) (l : Nat) (old : Word) :
    (State.lnkCfgWritten s l old).pending = s.pending := by
  simp [State.lnkCfgWritten, apply_ite State.pending]
@[simp] theorem State.engCtlWritten_pending (s : State) (n : Nat) (a : Word) :
    (State.engCtlWritten s n a).pending = s.pending := by
  simp [State.engCtlWritten, apply_ite State.pending]
@[simp] theorem State.cluCtlWritten_pending (s : State) (k : Nat) (a : Word) :
    (State.cluCtlWritten s k a).pending = s.pending := by
  simp [State.cluCtlWritten, apply_ite State.pending]
@[simp] theorem State.pwrCfgWritten_pending (s : State) (old : Word) : (State.pwrCfgWritten s old).pending = s.pending := by
  simp [State.pwrCfgWritten, apply_ite State.pending]
@[simp] theorem State.pchCtlWritten_pending (s : State) (c : Nat) (a : Word) :
    (State.pchCtlWritten s c a).pending = s.pending := by
  simp [State.pchCtlWritten, apply_ite State.pending]
@[simp] theorem State.seccfgWritten_pending (s : State) (old : Word) : (State.seccfgWritten s old).pending = s.pending := by
  simp [State.seccfgWritten, apply_ite State.pending]
@[simp] theorem State.keySessWritten_pending (s : State) (k : Nat) : (State.keySessWritten s k).pending = s.pending := by
  simp [State.keySessWritten, apply_ite State.pending]
@[simp] theorem State.portEffect_pending (s : State) (r : Reg) (i : Nat) (j : Nat) (old : Word) (a : Word) :
    (State.portEffect s r i j old a).pending = s.pending := by
  unfold State.portEffect; split <;> simp [apply_ite State.pending]
@[simp] theorem State.shadowSound_pending (s : State) (i : Nat) : (State.shadowSound s i).pending = s.pending := by
  simp [State.shadowSound]
@[simp] theorem State.capLowered_pending (s : State) (old : Nat) : (State.capLowered s old).pending = s.pending := by
  simp [State.capLowered]
@[simp] theorem State.pairValidWritten_pending (s : State) : (State.pairValidWritten s).pending = s.pending := by
  simp [State.pairValidWritten, apply_ite State.pending]
@[simp] theorem State.coreEffect_pending (s : State) (r : Reg) (i : Nat) (_j : Nat) (old : Word) (a : Word) :
    (State.coreEffect s r i _j old a).pending = s.pending := by
  unfold State.coreEffect; split <;> simp [apply_ite State.pending]
@[simp] theorem State.writeReg_pending (s : State) (priv : Bool) (r : Reg) (i : Nat) (j : Nat) (w : Word) :
    (State.writeReg s priv r i j w).pending = s.pending := by
  simp [State.writeReg, apply_ite State.pending]
@[simp] theorem State.vatWrite_pending (s : State) (b : Nat) (w : Word) : (State.vatWrite s b w).pending = s.pending := by
  simp [State.vatWrite]
@[simp] theorem State.vatSound_pending (s : State) (w : Nat) : (State.vatSound s w).pending = s.pending := by
  simp [State.vatSound]
@[simp] theorem State.placeWrite_pending (s : State) (priv : Bool) (p : Place) (w : Word) :
    ((State.placeWrite s priv p w).1).pending = s.pending := by
  unfold State.placeWrite; split <;> simp [apply_ite State.pending]
theorem State.placeWrite_pending_of (s : State) (priv : Bool) (p : Place) (w : Word) {sx : State} {qx : BitVec 21} (h : State.placeWrite s priv p w = (sx, qx)) : sx.pending = s.pending := by
  have e := State.placeWrite_pending s priv p w
  rw [h] at e
  exact e
@[simp] theorem State.resetIslands_pending (s : State) (m : BitVec 21) : (State.resetIslands s m).pending = s.pending := by
  simp [State.resetIslands, apply_ite State.pending]
@[simp] theorem State.refuseWrite_pending (s : State) (st : Status) (step5 : Bool) :
    (State.refuseWrite s st step5).pending = s.pending := by
  simp [State.refuseWrite, apply_ite State.pending]
@[simp] theorem State.hostWrite_pending (s : State) (priv : Bool) (off : Nat) (w : Word) :
    (State.hostWrite s priv off w).pending = s.pending := by
  unfold State.hostWrite; grind [State.refuseWrite_pending, → State.placeWrite_pending_of, State.resetIslands_pending]
@[simp] theorem State.setReg_pending (s : State) (r : Reg) (i : Nat) (j : Nat) (w : Word) :
    (State.setReg s r i j w).pending = s.pending := by
  simp [State.setReg]

/-! ### WindowOps -/

@[simp] theorem State.conclude_pending (s : State) (c : Cmd) (a : Answer) : (State.conclude s c a).pending = s.pending := by
  unfold State.conclude; split <;> simp [apply_ite State.pending]
@[simp] theorem State.auditWrite_pending (s : State) (f : Frame) (count : Nat) (first : Word) (ordered : Bool) :
    (State.auditWrite s f count first ordered).pending = s.pending := by
  simp [State.auditWrite, apply_ite State.pending]
@[simp] theorem State.setWin_pending (s : State) (w : Nat) (x : WinS) : (State.setWin s w x).pending = s.pending := by
  simp [State.setWin]
@[simp] theorem State.sendBehind_pending (s : State) (n : Nat) (item : List QWord) :
    (State.sendBehind s n item).pending = s.pending := by
  unfold State.sendBehind; grind [State.fillTxq_pending, → State.unlink_pending_of, State.setEng_pending]
@[simp] theorem State.winEnter_pending (s : State) (w : Nat) (r : WinReq) : (State.winEnter s w r).pending = s.pending := by
  simp [State.winEnter]
@[simp] theorem State.winTimer_pending (s : State) (w : Nat) : (State.winTimer s w).pending = s.pending := by
  unfold State.winTimer; grind [State.disarm_pending, State.arm_pending]
@[simp] theorem State.winReply_pending (s : State) (w : Nat) (r : WinReq) (a : Answer) :
    (State.winReply s w r a).pending = s.pending := by
  simp [State.winReply]
@[simp] theorem State.winNext_pending (s : State) (w : Nat) (x2 : List WinReq) :
    (State.winNext s w x2).pending = s.pending := by
  induction x2 generalizing s w <;> simp_all [State.winNext, apply_ite State.pending]
@[simp] theorem State.winEnd_pending (s : State) (w : Nat) (r : WinReq) (a : Answer) :
    (State.winEnd s w r a).pending = s.pending := by
  simp [State.winEnd]
@[simp] theorem State.winRequest_pending (s : State) (w : Nat) (r : WinReq) :
    (State.winRequest s w r).pending = s.pending := by
  simp [State.winRequest, apply_ite State.pending]
@[simp] theorem State.windowAnswer_pending (s : State) (w : Nat) : (State.windowAnswer s w).pending = s.pending := by
  unfold State.windowAnswer; grind [State.setWin_pending, State.bump_pending, State.auditWrite_pending, State.winEnd_pending]
@[simp] theorem State.windowTimeout_pending (s : State) (w : Nat) : (State.windowTimeout s w).pending = s.pending := by
  unfold State.windowTimeout
  split
  · rfl
  · rename_i s1 h1
    have h1 := State.expire_pending_of (h := h1)
    extract_lets out late s2 s3 s4
    have h3 : s4.pending = s.pending := by
      simp only [s4]
      refine (foldl_pending _ (fun s r => by simp) _ _).trans ?_
      simp [s3, h1]
    clear_value s4
    split
    · split <;> simp [h3]
    · simp [h3]
@[simp] theorem State.winSweep_pending (s : State) (w : Nat) : (State.winSweep s w).pending = s.pending := by
  unfold State.winSweep
  extract_lets x all s1 gone left
  split
  · rfl
  · split
    · have h1 : s1.pending = s.pending := by simp [s1]
      rw [← h1]
      exact foldl_pending _ (fun s a => by simp) _ _
    · split <;> simp

/-! ### AccessOps -/

@[simp] theorem State.actWindow_pending (s : State) (c : Cmd) (w : Nat) (o : Nat) (write : Bool) (n : Nat) (data : List Word) :
    ((State.actWindow s c w o write n data).1).pending = s.pending := by
  unfold State.actWindow; (repeat' split) <;> simp_all [apply_ite State.pending]
theorem State.actWindow_pending_of (s : State) (c : Cmd) (w : Nat) (o : Nat) (write : Bool) (n : Nat) (data : List Word) {sx : State} {qx : Answer} (h : State.actWindow s c w o write n data = (sx, qx)) : sx.pending = s.pending := by
  have e := State.actWindow_pending s c w o write n data
  rw [h] at e
  exact e
@[simp] theorem State.actRead_pending (s : State) (c : Cmd) : ((State.actRead s c).1).pending = s.pending := by
  simp only [State.actRead, State.expire]; (repeat' split) <;> simp_all [apply_ite State.pending]
theorem State.actRead_pending_of (s : State) (c : Cmd) {sx : State} {qx : Answer} (h : State.actRead s c = (sx, qx)) : sx.pending = s.pending := by
  have e := State.actRead_pending s c
  rw [h] at e
  exact e
@[simp] theorem State.writeWords_pending (s : State) (priv : Bool) (x : Option Session) (x3 : List (Place × Word)) :
    ((State.writeWords s priv x x3).1).pending = s.pending := by
  (induction x3 generalizing s priv x) <;> (unfold State.writeWords; grind [→ State.placeWrite_pending_of])
theorem State.writeWords_pending_of (s : State) (priv : Bool) (x : Option Session) (x3 : List (Place × Word)) {sx : State} {qx : BitVec 21 × Status} (h : State.writeWords s priv x x3 = (sx, qx)) : sx.pending = s.pending := by
  have e := State.writeWords_pending s priv x x3
  rw [h] at e
  exact e
@[simp] theorem State.actWrites_pending (s : State) (f : Frame) (ordered : Bool) (l : List (Place × Word)) (first : Word) (payload : List Word) :
    ((State.actWrites s f ordered l first payload).1).pending = s.pending := by
  simp only [State.actWrites, State.expire]; (repeat' split) <;> simp_all [apply_ite State.pending]
theorem State.actWrites_pending_of (s : State) (f : Frame) (ordered : Bool) (l : List (Place × Word)) (first : Word) (payload : List Word) {sx : State} {qx : Answer} (h : State.actWrites s f ordered l first payload = (sx, qx)) : sx.pending = s.pending := by
  have e := State.actWrites_pending s f ordered l first payload
  rw [h] at e
  exact e
@[simp] theorem State.actWrite_pending (s : State) (c : Cmd) (ordered : Bool) :
    ((State.actWrite s c ordered).1).pending = s.pending := by
  unfold State.actWrite; grind [→ State.actWindow_pending_of, → State.actWrites_pending_of]
theorem State.actWrite_pending_of (s : State) (c : Cmd) (ordered : Bool) {sx : State} {qx : Answer} (h : State.actWrite s c ordered = (sx, qx)) : sx.pending = s.pending := by
  have e := State.actWrite_pending s c ordered
  rw [h] at e
  exact e
@[simp] theorem State.actModify_pending (s : State) (c : Cmd) (ordered : Bool) :
    ((State.actModify s c ordered).1).pending = s.pending := by
  unfold State.actModify; grind [State.readMet_pending, → State.actWrites_pending_of]
theorem State.actModify_pending_of (s : State) (c : Cmd) (ordered : Bool) {sx : State} {qx : Answer} (h : State.actModify s c ordered = (sx, qx)) : sx.pending = s.pending := by
  have e := State.actModify_pending s c ordered
  rw [h] at e
  exact e

/-! ### PortCmdOps -/

@[simp] theorem State.actPortSend_pending (s : State) (f : Frame) : ((State.actPortSend s f).1).pending = s.pending := by
  simp only [State.actPortSend, State.expire]; (repeat' split) <;> simp_all [apply_ite State.pending]
theorem State.actPortSend_pending_of (s : State) (f : Frame) {sx : State} {qx : Answer} (h : State.actPortSend s f = (sx, qx)) : sx.pending = s.pending := by
  have e := State.actPortSend_pending s f
  rw [h] at e
  exact e
@[simp] theorem State.tentative_pending (s : State) (l : List (Reg × Nat × Nat × Word)) :
    (State.tentative s l).pending = s.pending := by
  simp [State.tentative]
@[simp] theorem State.recordWrite_pending (s : State) (l : List (Reg × Nat × Nat × Word)) :
    (State.recordWrite s l).pending = s.pending := by
  simp [State.recordWrite, apply_ite State.pending]
@[simp] theorem State.actPortConfig_pending (s : State) (f : Frame) : ((State.actPortConfig s f).1).pending = s.pending := by
  unfold State.actPortConfig; grind [State.recordWrite_pending]
theorem State.actPortConfig_pending_of (s : State) (f : Frame) {sx : State} {qx : Answer} (h : State.actPortConfig s f = (sx, qx)) : sx.pending = s.pending := by
  have e := State.actPortConfig_pending s f
  rw [h] at e
  exact e
@[simp] theorem State.flushPortTx_pending (s : State) (p : Nat) : ((State.flushPortTx s p).1).pending = s.pending := by
  unfold State.flushPortTx; grind [→ State.endCut_pending_of, → State.emptyPort_pending_of, → State.macFlushTx_pending_of, → State.canFlushTx_pending_of, State.flushTx_pending, State.setEng_pending]
theorem State.flushPortTx_pending_of (s : State) (p : Nat) {sx : State} {qx : Nat} (h : State.flushPortTx s p = (sx, qx)) : sx.pending = s.pending := by
  have e := State.flushPortTx_pending s p
  rw [h] at e
  exact e
@[simp] theorem State.flushPortRx_pending (s : State) (p : Nat) : (State.flushPortRx s p).pending = s.pending := by
  unfold State.flushPortRx; grind [State.macFlushRx_pending, State.canFlushRx_pending, State.flushRx_pending, State.disarm_pending, State.setEng_pending, State.setWin_pending]
@[simp] theorem State.actPortFlush_pending (s : State) (f : Frame) : ((State.actPortFlush s f).1).pending = s.pending := by
  unfold State.actPortFlush; grind [→ State.flushPortTx_pending_of, State.flushPortRx_pending]
theorem State.actPortFlush_pending_of (s : State) (f : Frame) {sx : State} {qx : Answer} (h : State.actPortFlush s f = (sx, qx)) : sx.pending = s.pending := by
  have e := State.actPortFlush_pending s f
  rw [h] at e
  exact e
@[simp] theorem State.schedule_pending (s : State) (e : Entry) (t : Word) :
    ((State.schedule s e t).1).pending = s.pending := by
  unfold State.schedule; (repeat' split) <;> simp_all [apply_ite State.pending]
theorem State.schedule_pending_of (s : State) (e : Entry) (t : Word) {sx : State} {qx : Answer} (h : State.schedule s e t = (sx, qx)) : sx.pending = s.pending := by
  have e := State.schedule_pending s e t
  rw [h] at e
  exact e
@[simp] theorem State.actSchedule_pending (s : State) (apply : Bool) (f : Frame) :
    ((State.actSchedule s apply f).1).pending = s.pending := by
  unfold State.actSchedule; grind [→ State.schedule_pending_of]
theorem State.actSchedule_pending_of (s : State) (apply : Bool) (f : Frame) {sx : State} {qx : Answer} (h : State.actSchedule s apply f = (sx, qx)) : sx.pending = s.pending := by
  have e := State.actSchedule_pending s apply f
  rw [h] at e
  exact e
@[simp] theorem State.actSnapshot_pending (s : State) (f : Frame) : ((State.actSnapshot s f).1).pending = s.pending := by
  unfold State.actSnapshot; grind [→ State.schedule_pending_of, State.floodSnap_pending, State.markSeen_pending]
theorem State.actSnapshot_pending_of (s : State) (f : Frame) {sx : State} {qx : Answer} (h : State.actSnapshot s f = (sx, qx)) : sx.pending = s.pending := by
  have e := State.actSnapshot_pending s f
  rw [h] at e
  exact e
@[simp] theorem State.actFence_pending (s : State) (c : Cmd) : ((State.actFence s c).1).pending = s.pending := by
  unfold State.actFence; grind []
theorem State.actFence_pending_of (s : State) (c : Cmd) {sx : State} {qx : Answer} (h : State.actFence s c = (sx, qx)) : sx.pending = s.pending := by
  have e := State.actFence_pending s c
  rw [h] at e
  exact e
@[simp] theorem State.endFences_pending (s : State) (l : List Fence) (st : Status) :
    (State.endFences s l st).pending = s.pending := by
  simp [State.endFences]
@[simp] theorem State.fenceComplete_pending (s : State) : (State.fenceComplete s).pending = s.pending := by
  simp [State.fenceComplete, apply_ite State.pending]
@[simp] theorem State.fenceTimeout_pending (s : State) : (State.fenceTimeout s).pending = s.pending := by
  unfold State.fenceTimeout; split <;> simp [apply_ite State.pending]

/-! ### HostCmdOps -/

@[simp] theorem State.actProfileSelect_pending (s : State) (f : Frame) :
    ((State.actProfileSelect s f).1).pending = s.pending := by
  unfold State.actProfileSelect; grind []
theorem State.actProfileSelect_pending_of (s : State) (f : Frame) {sx : State} {qx : Answer} (h : State.actProfileSelect s f = (sx, qx)) : sx.pending = s.pending := by
  have e := State.actProfileSelect_pending s f
  rw [h] at e
  exact e
@[simp] theorem State.actProfileStore_pending (s : State) (c : Cmd) :
    ((State.actProfileStore s c).1).pending = s.pending := by
  unfold State.actProfileStore; split <;> simp [apply_ite State.pending]
theorem State.actProfileStore_pending_of (s : State) (c : Cmd) {sx : State} {qx : Answer} (h : State.actProfileStore s c = (sx, qx)) : sx.pending = s.pending := by
  have e := State.actProfileStore_pending s c
  rw [h] at e
  exact e
@[simp] theorem State.actSelftest_pending (s : State) (f : Frame) : ((State.actSelftest s f).1).pending = s.pending := by
  unfold State.actSelftest; grind []
theorem State.actSelftest_pending_of (s : State) (f : Frame) {sx : State} {qx : Answer} (h : State.actSelftest s f = (sx, qx)) : sx.pending = s.pending := by
  have e := State.actSelftest_pending s f
  rw [h] at e
  exact e
@[simp] theorem State.testResult_pending (s : State) (t : Nat) (arg : Nat) (found : BitVec 128) :
    ((State.testResult s t arg found).1).pending = s.pending := by
  unfold State.testResult; split <;> simp [apply_ite State.pending]
theorem State.testResult_pending_of (s : State) (t : Nat) (arg : Nat) (found : BitVec 128) {sx : State} {qx : Nat} (h : State.testResult s t arg found = (sx, qx)) : sx.pending = s.pending := by
  have e := State.testResult_pending s t arg found
  rw [h] at e
  exact e
@[simp] theorem State.selftestDone_pending (s : State) (t : Nat) (found : BitVec 128) :
    (State.selftestDone s t found).pending = s.pending := by
  unfold State.selftestDone; grind [→ State.testResult_pending_of, State.complete_pending]
@[simp] theorem State.healthWords_pending (s : State) (priv : Bool) : ((State.healthWords s priv).2).pending = s.pending := by
  simp [State.healthWords]
theorem State.healthWords_pending_of (s : State) (priv : Bool) {sx : List Word} {qx : State} (h : State.healthWords s priv = (sx, qx)) : qx.pending = s.pending := by
  have e := State.healthWords_pending s priv
  rw [h] at e
  exact e
@[simp] theorem State.actHealth_pending (s : State) (maint : Bool) : ((State.actHealth s maint).1).pending = s.pending := by
  simp [State.actHealth]
theorem State.actHealth_pending_of (s : State) (maint : Bool) {sx : State} {qx : Answer} (h : State.actHealth s maint = (sx, qx)) : sx.pending = s.pending := by
  have e := State.actHealth_pending s maint
  rw [h] at e
  exact e
@[simp] theorem State.actFaultAck_pending (s : State) (f : Frame) : ((State.actFaultAck s f).1).pending = s.pending := by
  unfold State.actFaultAck; grind [State.faultAck_pending]
theorem State.actFaultAck_pending_of (s : State) (f : Frame) {sx : State} {qx : Answer} (h : State.actFaultAck s f = (sx, qx)) : sx.pending = s.pending := by
  have e := State.actFaultAck_pending s f
  rw [h] at e
  exact e
@[simp] theorem State.actSafeEnter_pending (s : State) (f : Frame) : ((State.actSafeEnter s f).1).pending = s.pending := by
  simp [State.actSafeEnter]
theorem State.actSafeEnter_pending_of (s : State) (f : Frame) {sx : State} {qx : Answer} (h : State.actSafeEnter s f = (sx, qx)) : sx.pending = s.pending := by
  have e := State.actSafeEnter_pending s f
  rw [h] at e
  exact e
@[simp] theorem State.actSafeLeave_pending (s : State) : ((State.actSafeLeave s).1).pending = s.pending := by
  unfold State.actSafeLeave; split <;> simp [apply_ite State.pending]
theorem State.actSafeLeave_pending_of (s : State) {sx : State} {qx : Answer} (h : State.actSafeLeave s = (sx, qx)) : sx.pending = s.pending := by
  have e := State.actSafeLeave_pending s
  rw [h] at e
  exact e
@[simp] theorem State.actUpdateBegin_pending (s : State) (f : Frame) :
    ((State.actUpdateBegin s f).1).pending = s.pending := by
  simp [State.actUpdateBegin]
theorem State.actUpdateBegin_pending_of (s : State) (f : Frame) {sx : State} {qx : Answer} (h : State.actUpdateBegin s f = (sx, qx)) : sx.pending = s.pending := by
  have e := State.actUpdateBegin_pending s f
  rw [h] at e
  exact e
@[simp] theorem State.actUpdateBlock_pending (s : State) (c : Cmd) : ((State.actUpdateBlock s c).1).pending = s.pending := by
  simp [State.actUpdateBlock]
theorem State.actUpdateBlock_pending_of (s : State) (c : Cmd) {sx : State} {qx : Answer} (h : State.actUpdateBlock s c = (sx, qx)) : sx.pending = s.pending := by
  have e := State.actUpdateBlock_pending s c
  rw [h] at e
  exact e
@[simp] theorem State.actUpdateVerify_pending (s : State) (c : Cmd) :
    ((State.actUpdateVerify s c).1).pending = s.pending := by
  unfold State.actUpdateVerify; (repeat' split) <;> simp_all [apply_ite State.pending]
theorem State.actUpdateVerify_pending_of (s : State) (c : Cmd) {sx : State} {qx : Answer} (h : State.actUpdateVerify s c = (sx, qx)) : sx.pending = s.pending := by
  have e := State.actUpdateVerify_pending s c
  rw [h] at e
  exact e
@[simp] theorem State.actUpdateActivate_pending (s : State) (f : Frame) :
    ((State.actUpdateActivate s f).1).pending = s.pending := by
  simp [State.actUpdateActivate]
theorem State.actUpdateActivate_pending_of (s : State) (f : Frame) {sx : State} {qx : Answer} (h : State.actUpdateActivate s f = (sx, qx)) : sx.pending = s.pending := by
  have e := State.actUpdateActivate_pending s f
  rw [h] at e
  exact e
@[simp] theorem State.actUpdateConfirm_pending (s : State) : ((State.actUpdateConfirm s).1).pending = s.pending := by
  simp [State.actUpdateConfirm]
theorem State.actUpdateConfirm_pending_of (s : State) {sx : State} {qx : Answer} (h : State.actUpdateConfirm s = (sx, qx)) : sx.pending = s.pending := by
  have e := State.actUpdateConfirm_pending s
  rw [h] at e
  exact e
@[simp] theorem State.actUpdateRelay_pending (s : State) (c : Cmd) : ((State.actUpdateRelay s c).1).pending = s.pending := by
  simp [State.actUpdateRelay]
theorem State.actUpdateRelay_pending_of (s : State) (c : Cmd) {sx : State} {qx : Answer} (h : State.actUpdateRelay s c = (sx, qx)) : sx.pending = s.pending := by
  have e := State.actUpdateRelay_pending s c
  rw [h] at e
  exact e
@[simp] theorem State.actUpdateAbort_pending (s : State) (f : Frame) :
    ((State.actUpdateAbort s f).1).pending = s.pending := by
  simp [State.actUpdateAbort]
theorem State.actUpdateAbort_pending_of (s : State) (f : Frame) {sx : State} {qx : Answer} (h : State.actUpdateAbort s f = (sx, qx)) : sx.pending = s.pending := by
  have e := State.actUpdateAbort_pending s f
  rw [h] at e
  exact e
@[simp] theorem State.actTimeStep_pending (s : State) (f : Frame) : ((State.actTimeStep s f).1).pending = s.pending := by
  simp [State.actTimeStep]
theorem State.actTimeStep_pending_of (s : State) (f : Frame) {sx : State} {qx : Answer} (h : State.actTimeStep s f = (sx, qx)) : sx.pending = s.pending := by
  have e := State.actTimeStep_pending s f
  rw [h] at e
  exact e
@[simp] theorem State.actTimeRate_pending (s : State) (f : Frame) : ((State.actTimeRate s f).1).pending = s.pending := by
  simp [State.actTimeRate]
theorem State.actTimeRate_pending_of (s : State) (f : Frame) {sx : State} {qx : Answer} (h : State.actTimeRate s f = (sx, qx)) : sx.pending = s.pending := by
  have e := State.actTimeRate_pending s f
  rw [h] at e
  exact e
@[simp] theorem State.actStepRearm_pending (s : State) : ((State.actStepRearm s).1).pending = s.pending := by
  simp [State.actStepRearm]
theorem State.actStepRearm_pending_of (s : State) {sx : State} {qx : Answer} (h : State.actStepRearm s = (sx, qx)) : sx.pending = s.pending := by
  have e := State.actStepRearm_pending s
  rw [h] at e
  exact e
@[simp] theorem State.actHandover_pending (s : State) (c : Cmd) (ordered : Bool) :
    ((State.actHandover s c ordered).1).pending = s.pending := by
  unfold State.actHandover; (repeat' split) <;> simp_all [apply_ite State.pending]
theorem State.actHandover_pending_of (s : State) (c : Cmd) (ordered : Bool) {sx : State} {qx : Answer} (h : State.actHandover s c ordered = (sx, qx)) : sx.pending = s.pending := by
  have e := State.actHandover_pending s c ordered
  rw [h] at e
  exact e
@[simp] theorem State.actPairStatus_pending (s : State) : ((State.actPairStatus s).1).pending = s.pending := by
  simp [State.actPairStatus]
theorem State.actPairStatus_pending_of (s : State) {sx : State} {qx : Answer} (h : State.actPairStatus s = (sx, qx)) : sx.pending = s.pending := by
  have e := State.actPairStatus_pending s
  rw [h] at e
  exact e
@[simp] theorem State.pairAnswer_pending (s : State) : (State.pairAnswer s).pending = s.pending := by
  unfold State.pairAnswer; split <;> simp [apply_ite State.pending]
@[simp] theorem State.actLogRead_pending (s : State) (c : Cmd) (maint : Bool) :
    ((State.actLogRead s c maint).1).pending = s.pending := by
  unfold State.actLogRead; grind [→ State.freeIn_pending_of]
theorem State.actLogRead_pending_of (s : State) (c : Cmd) (maint : Bool) {sx : State} {qx : Answer} (h : State.actLogRead s c maint = (sx, qx)) : sx.pending = s.pending := by
  have e := State.actLogRead_pending s c maint
  rw [h] at e
  exact e
@[simp] theorem State.actEcho_pending (s : State) (f : Frame) : ((State.actEcho s f).1).pending = s.pending := by
  unfold State.actEcho; split <;> simp [apply_ite State.pending]
theorem State.actEcho_pending_of (s : State) (f : Frame) {sx : State} {qx : Answer} (h : State.actEcho s f = (sx, qx)) : sx.pending = s.pending := by
  have e := State.actEcho_pending s f
  rw [h] at e
  exact e
@[simp] theorem State.actResetChip_pending (s : State) (f : Frame) : ((State.actResetChip s f).1).pending = s.pending := by
  unfold State.actResetChip; split <;> simp [apply_ite State.pending]
theorem State.actResetChip_pending_of (s : State) (f : Frame) {sx : State} {qx : Answer} (h : State.actResetChip s f = (sx, qx)) : sx.pending = s.pending := by
  have e := State.actResetChip_pending s f
  rw [h] at e
  exact e
@[simp] theorem State.actSessionClose_pending (s : State) (f : Frame) :
    ((State.actSessionClose s f).1).pending = s.pending := by
  simp [State.actSessionClose]
theorem State.actSessionClose_pending_of (s : State) (f : Frame) {sx : State} {qx : Answer} (h : State.actSessionClose s f = (sx, qx)) : sx.pending = s.pending := by
  have e := State.actSessionClose_pending s f
  rw [h] at e
  exact e

/-! ### ServeOps -/

@[simp] theorem State.act_pending (s : State) (e : Service) : ((State.act s e).1).pending = s.pending := by
  unfold State.act; grind [→ State.actRead_pending_of, → State.actWrite_pending_of, → State.actModify_pending_of, → State.actPortSend_pending_of, → State.actPortConfig_pending_of, → State.actPortFlush_pending_of, → State.actSchedule_pending_of, → State.actSnapshot_pending_of, → State.openSession_pending_of, → State.actSessionClose_pending_of, → State.actProfileSelect_pending_of, → State.actProfileStore_pending_of, → State.actSelftest_pending_of, → State.actHealth_pending_of, → State.actFaultAck_pending_of, → State.actSafeEnter_pending_of, → State.actSafeLeave_pending_of, → State.actUpdateBegin_pending_of, → State.actUpdateBlock_pending_of, → State.actUpdateVerify_pending_of, → State.actUpdateActivate_pending_of, → State.actUpdateConfirm_pending_of, → State.actUpdateRelay_pending_of, → State.actUpdateAbort_pending_of, → State.actTimeStep_pending_of, → State.actTimeRate_pending_of, → State.actStepRearm_pending_of, → State.actFence_pending_of, → State.actHandover_pending_of, → State.actPairStatus_pending_of, → State.actLogRead_pending_of, → State.actEcho_pending_of, → State.actResetChip_pending_of]
theorem State.act_pending_of (s : State) (e : Service) {sx : State} {qx : Answer} (h : State.act s e = (sx, qx)) : sx.pending = s.pending := by
  have e := State.act_pending s e
  rw [h] at e
  exact e
@[simp] theorem State.refuse_pending (s : State) (e : Service) (st : Status) : (State.refuse s e st).pending = s.pending := by
  simp [State.refuse]
@[simp] theorem State.execute_pending (s : State) (e : Service) : (State.execute s e).pending = s.pending := by
  unfold State.execute; grind [State.refuse_pending, State.sat_pending, → State.act_pending_of, State.finish_pending, State.bump_pending]
@[simp] theorem State.enter_pending (s : State) (t : Target) (e : Service) : (State.enter s t e).pending = s.pending := by
  simp [State.enter, apply_ite State.pending]
@[simp] theorem State.accept_pending (s : State) (c : Cmd) (t : Target) (maint : Bool) (x : KeyExchange) :
    (State.accept s c t maint x).pending = s.pending := by
  simp [State.accept, apply_ite State.pending]
@[simp] theorem State.reject_pending (s : State) (c : Cmd) (st : Status) : (State.reject s c st).pending = s.pending := by
  simp [State.reject]
@[simp] theorem State.resendReply_pending (s : State) (c : Cmd) (e : CacheEntry) :
    (State.resendReply s c e).pending = s.pending := by
  simp [State.resendReply, apply_ite State.pending]
@[simp] theorem State.admit4_pending (s : State) (row : OpRow) (c : Cmd) (t : Target) (maint : Bool) (x : KeyExchange) :
    (State.admit4 s row c t maint x).pending = s.pending := by
  simp [State.admit4, apply_ite State.pending]
@[simp] theorem State.admit2_pending (s : State) (c : Cmd) (t : Target) (r : Rights) (x : KeyExchange) :
    (State.admit2 s c t r x).pending = s.pending := by
  unfold State.admit2; grind [State.reject_pending, State.resendReply_pending, State.admit4_pending]
@[simp] theorem State.romTake_pending (s : State) (c : Cmd) : (State.romTake s c).pending = s.pending := by
  simp [State.romTake, apply_ite State.pending]
@[simp] theorem State.serve_pending (s : State) (op : BitVec 8) (c : Cmd) (x : KeyExchange) :
    (State.serve s op c x).pending = s.pending := by
  unfold State.serve; grind [State.romTake_pending, State.reject_pending, State.admit2_pending]
@[simp] theorem State.cacheExpire_pending (s : State) : (State.cacheExpire s).pending = s.pending := by
  unfold State.cacheExpire; split <;> simp [apply_ite State.pending]
@[simp] theorem State.forget_pending (s : State) : (State.forget s).pending = s.pending := by
  simp [State.forget]
@[simp] theorem State.departed_pending (s : State) : (State.departed s).pending = s.pending := by
  simp [State.departed]
@[simp] theorem State.lostCommands_pending (s : State) : (State.lostCommands s).pending = s.pending := by
  unfold State.lostCommands
  refine foldl_pending _ (fun s c => ?_) _ _
  split <;> simp
@[simp] theorem State.switchBegin_pending (s : State) (p : Nat) : (State.switchBegin s p).pending = s.pending := by
  simp [State.switchBegin]
@[simp] theorem State.runAfter_pending (s : State) (x1 : After) : (State.runAfter s x1).pending = s.pending := by
  unfold State.runAfter; (repeat' split) <;> simp_all [apply_ite State.pending]
@[simp] theorem State.runDue_pending (s : State) : (State.runDue s).pending = s.pending := by
  simp [State.runDue]
@[simp] theorem State.runHeld_pending (x0 : Nat) (x1 : State) : (State.runHeld x0 x1).pending = x1.pending := by
  (induction x0 generalizing x1) <;> (unfold State.runHeld; (repeat' split)) <;> simp_all [apply_ite State.pending]
@[simp] theorem State.done_pending (s : State) : (State.done s).pending = s.pending := by
  simp [State.done, apply_ite State.pending]

/-! ### EventOps -/

@[simp] theorem State.dropOutst_pending (s : State) (tag : BitVec 9) : (State.dropOutst s tag).pending = s.pending := by
  simp [State.dropOutst]
@[simp] theorem State.replyReceive_pending (s : State) (f : Frame) (authOk : Bool) :
    (State.replyReceive s f authOk).pending = s.pending := by
  unfold State.replyReceive; (repeat' split) <;> simp_all [apply_ite State.pending]
@[simp] theorem State.eventReceive_pending (s : State) (f : Frame) : (State.eventReceive s f).pending = s.pending := by
  simp [State.eventReceive, apply_ite State.pending]
@[simp] theorem State.commandTimeout_pending (s : State) (port : BitVec 8) (tag : BitVec 9) :
    (State.commandTimeout s port tag).pending = s.pending := by
  unfold State.commandTimeout; grind [State.trkTimeout_pending, → State.expire_pending_of, State.arm_pending]
@[simp] theorem State.quarantineEnd_pending (s : State) (port : BitVec 8) (tag : BitVec 9) :
    (State.quarantineEnd s port tag).pending = s.pending := by
  unfold State.quarantineEnd; grind [State.trkRelease_pending, → State.expire_pending_of, State.dropOutst_pending]
@[simp] theorem State.orderCommand_pending (s : State) (f : Frame) : (State.orderCommand s f).pending = s.pending := by
  simp [State.orderCommand, apply_ite State.pending]
@[simp] theorem State.orderSchedule_pending (s : State) (r : Frame) : (State.orderSchedule s r).pending = s.pending := by
  unfold State.orderSchedule; grind [State.enterEntry_pending]
@[simp] theorem State.orderReply_pending (s : State) (r : Frame) : (State.orderReply s r).pending = s.pending := by
  unfold State.orderReply; grind [State.orderSchedule_pending, State.sessionOpened_pending, State.unserve_pending, State.cachePut_pending]
@[simp] theorem State.countOrder_pending (s : State) (f : Frame) (good : Bool) :
    (State.countOrder s f good).pending = s.pending := by
  simp [State.countOrder, apply_ite State.pending]
@[simp] theorem State.orderIn_pending (s : State) (on : BitVec 16) (f : Frame) (good : Bool) :
    (State.orderIn s on f good).pending = s.pending := by
  simp [State.orderIn, apply_ite State.pending]
@[simp] theorem State.sessionIn_pending (s : State) (on : BitVec 16) (r : SessionOrder) :
    (State.sessionIn s on r).pending = s.pending := by
  simp [State.sessionIn, apply_ite State.pending]
@[simp] theorem State.sessionIdle_pending (s : State) (n : BitVec 16) : (State.sessionIdle s n).pending = s.pending := by
  simp [State.sessionIdle, apply_ite State.pending]
@[simp] theorem State.sessionUnused_pending (s : State) (n : BitVec 16) : (State.sessionUnused s n).pending = s.pending := by
  simp [State.sessionUnused, apply_ite State.pending]
@[simp] theorem State.sessionSpent_pending (s : State) (n : BitVec 16) : (State.sessionSpent s n).pending = s.pending := by
  simp [State.sessionSpent, apply_ite State.pending]
@[simp] theorem State.llRequest_pending (s : State) (f : Frame) : (State.llRequest s f).pending = s.pending := by
  simp [State.llRequest, apply_ite State.pending]
@[simp] theorem State.bar0_pending (s : State) (off : Nat) (wr : Option Word) (beOk : Bool) :
    (State.bar0 s off wr beOk).pending = s.pending := by
  unfold State.bar0; (repeat' split) <;> simp_all [apply_ite State.pending]
@[simp] theorem State.switchStep5_pending (s : State) : ((State.switchStep5 s).1).pending = s.pending := by
  unfold State.switchStep5
  refine foldl_pending_fst _ (fun p a => ?_) _ _
  dsimp only
  split <;> simp
theorem State.switchStep5_pending_of (s : State) {sx : State} {qx : Nat} (h : State.switchStep5 s = (sx, qx)) : sx.pending = s.pending := by
  have e := State.switchStep5_pending s
  rw [h] at e
  exact e
@[simp] theorem State.invalidate_pending (s : State) (p : Nat) : (State.invalidate s p).pending = s.pending := by
  simp [State.invalidate]
@[simp] theorem State.switchLoad_pending (s : State) (p : Nat) (prev : Nat) (ok : Bool) (prevOk : Bool) (hadPrev : Bool) :
    (State.switchLoad s p prev ok prevOk hadPrev).pending = s.pending := by
  simp [State.switchLoad, apply_ite State.pending]
@[simp] theorem State.switchFinish_pending (s : State) (skipped : Nat) :
    (State.switchFinish s skipped).pending = s.pending := by
  simp [State.switchFinish, apply_ite State.pending]
@[simp] theorem State.profileSwitchEnd_pending (s : State) (ok : Bool) (prevOk : Bool) :
    (State.profileSwitchEnd s ok prevOk).pending = s.pending := by
  unfold State.profileSwitchEnd
  split
  · rfl
  · refine (State.switchFinish_pending _ _).trans ?_
    refine (State.switchStep5_pending _).trans ?_
    refine (State.fwdCommit_pending _).trans ?_
    refine (State.loadProfile_pending _ _).trans ?_
    exact (State.switchLoad_pending _ _ _ _ _ _)

/-! ### Clusters -/

@[simp] theorem State.engCtl_pending (s : State) (n : Nat) (m : Word) (pc : Nat) :
    (State.engCtl s n m pc).pending = s.pending := by
  simp [State.engCtl]
@[simp] theorem State.engBit_pending (s : State) (n : Nat) (m : Word) : (State.engBit s n m).pending = s.pending := by
  simp [State.engBit]

/-! ### Ethernet -/

@[simp] theorem State.macWakes_pending (s : State) (m : Nat) (r : MacRx) : (State.macWakes s m r).pending = s.pending := by
  simp [State.macWakes, apply_ite State.pending]

/-! ### Faults -/

@[simp] theorem State.collectorDone_pending (s : State) : (State.collectorDone s).pending = s.pending := by
  unfold State.collectorDone; split <;> simp [apply_ite State.pending]

/-! ### FieldPower -/

@[simp] theorem State.pwrCtl_pending (s : State) (c : Nat) (w : Word) : (State.pwrCtl s c w).pending = s.pending := by
  simp [State.pwrCtl]

/-! ### Firmware -/

@[simp] theorem State.updateFrame_pending (s : State) (l : Nat) (f : State → State) (hf : ∀ x, (f x).pending = x.pending) :
    (State.updateFrame s l f).pending = s.pending := by
  unfold State.updateFrame; (repeat' split) <;> simp_all [apply_ite State.pending]

/-! ### HostBridge -/

@[simp] theorem State.flr_pending (s : State) : (State.flr s).pending = s.pending := by
  simp [State.flr, apply_ite State.pending]
@[simp] theorem State.hostTxTail_pending (s : State) (t : Nat) (ds : List TxDesc) :
    (State.hostTxTail s t ds).pending = s.pending := by
  simp [State.hostTxTail, apply_ite State.pending]
@[simp] theorem State.hostRxTail_pending (s : State) (q : Nat) (t : Nat) (bs : List RxDesc) :
    (State.hostRxTail s q t bs).pending = s.pending := by
  simp [State.hostRxTail, apply_ite State.pending]

/-! ### SwitchCore -/

@[simp] theorem State.handLocal_pending (s : State) : (State.handLocal s).pending = s.pending := by
  unfold State.handLocal; grind [→ State.takeLocal_pending_of, State.bump_pending, State.transmit_pending]
@[simp] theorem State.unitLeaves_pending (s : State) (p : Nat) : (State.unitLeaves s p).pending = s.pending := by
  simp [State.unitLeaves, apply_ite State.pending]
@[simp] theorem State.residueHead_pending (s : State) (q : Nat) : (State.residueHead s q).pending = s.pending := by
  simp [State.residueHead, apply_ite State.pending]
@[simp] theorem State.residueDue_pending (s : State) (q : Nat) : (State.residueDue s q).pending = s.pending := by
  unfold State.residueDue; split <;> simp [apply_ite State.pending]
@[simp] theorem State.pressClock_pending (s : State) (t : Timer) (f : State → State) (hf : ∀ x, (f x).pending = x.pending) :
    (State.pressClock s t f).pending = s.pending := by
  unfold State.pressClock; grind [→ State.expire_pending_of]

end Sys2Proof.Machine
end

