-- ==== Sys2Proof/Laws/Word.lean ====
section
/-!
SUPPORT. The laws of bit fields, registers, fields of registers and timers.
-/
namespace Sys2Proof

/-! ### Bit fields -/

theorem Word.setBits_toNat (w : Word) (hi lo v : Nat) (hl : lo ≤ hi) (hh : hi < 32) :
    (Word.setBits w hi lo v).toNat =
      w.toNat % 2 ^ lo + 2 ^ lo * (v % 2 ^ (hi + 1 - lo)) + 2 ^ (hi + 1) * (w.toNat / 2 ^ (hi + 1)) := by
  have hm : 2 ^ (hi + 1) = 2 ^ lo * 2 ^ (hi + 1 - lo) := by rw [← Nat.pow_add]; congr 1; omega
  have h1 : w.toNat / 2 ^ lo % 2 ^ (hi + 1 - lo) + 2 ^ (hi + 1 - lo) * (w.toNat / 2 ^ (hi + 1)) = w.toNat / 2 ^ lo := by
    rw [hm, ← Nat.div_div_eq_div_mul]
    exact Nat.mod_add_div _ _
  have h2 : w.toNat % 2 ^ lo + 2 ^ lo * (w.toNat / 2 ^ lo) = w.toNat := Nat.mod_add_div _ _
  have h3 : 2 ^ lo * (w.toNat / 2 ^ lo) = 2 ^ lo * (w.toNat / 2 ^ lo % 2 ^ (hi + 1 - lo)) +
      2 ^ (hi + 1) * (w.toNat / 2 ^ (hi + 1)) := by
    conv => lhs; rw [← h1]
    rw [Nat.mul_add, hm, Nat.mul_assoc]
  have hlt : w.toNat % 2 ^ lo + 2 ^ lo * (v % 2 ^ (hi + 1 - lo)) < 2 ^ (hi + 1) := by
    have a : w.toNat % 2 ^ lo < 2 ^ lo := Nat.mod_lt _ (Nat.two_pow_pos _)
    have b : v % 2 ^ (hi + 1 - lo) < 2 ^ (hi + 1 - lo) := Nat.mod_lt _ (Nat.two_pow_pos _)
    rw [hm]
    calc w.toNat % 2 ^ lo + 2 ^ lo * (v % 2 ^ (hi + 1 - lo)) < 2 ^ lo + 2 ^ lo * (v % 2 ^ (hi + 1 - lo)) := by omega
      _ = 2 ^ lo * (v % 2 ^ (hi + 1 - lo) + 1) := by rw [Nat.mul_add]; omega
      _ ≤ 2 ^ lo * 2 ^ (hi + 1 - lo) := Nat.mul_le_mul_left _ b
  have hq : 2 ^ (hi + 1) * (w.toNat / 2 ^ (hi + 1)) + 2 ^ (hi + 1) ≤ 2 ^ 32 := by
    have h4 : w.toNat / 2 ^ (hi + 1) < 2 ^ (32 - (hi + 1)) := by
      rw [Nat.div_lt_iff_lt_mul (Nat.two_pow_pos _), ← Nat.pow_add]
      have : 32 - (hi + 1) + (hi + 1) = 32 := by omega
      rw [this]
      exact w.isLt
    have h5 : 2 ^ 32 = 2 ^ (hi + 1) * 2 ^ (32 - (hi + 1)) := by rw [← Nat.pow_add]; congr 1; omega
    rw [h5]
    calc 2 ^ (hi + 1) * (w.toNat / 2 ^ (hi + 1)) + 2 ^ (hi + 1) = 2 ^ (hi + 1) * (w.toNat / 2 ^ (hi + 1) + 1) := by
          rw [Nat.mul_add]; omega
      _ ≤ _ := Nat.mul_le_mul_left _ h4
  unfold Word.setBits
  simp only [BitVec.toNat_ofNat, Nat.shiftRight_eq_div_pow]
  rw [Nat.mod_eq_of_lt] <;> omega

/-- A field reads what was put there. -/
theorem Word.bits_setBits_self (w : Word) (hi lo v : Nat) (hl : lo ≤ hi) (hh : hi < 32) :
    Word.bits (Word.setBits w hi lo v) hi lo = v % 2 ^ (hi + 1 - lo) := by
  unfold Word.bits
  rw [Nat.shiftRight_eq_div_pow, Word.setBits_toNat w hi lo v hl hh]
  have hm : 2 ^ (hi + 1) = 2 ^ lo * 2 ^ (hi + 1 - lo) := by rw [← Nat.pow_add]; congr 1; omega
  have e : w.toNat % 2 ^ lo + 2 ^ lo * (v % 2 ^ (hi + 1 - lo)) + 2 ^ (hi + 1) * (w.toNat / 2 ^ (hi + 1)) =
      w.toNat % 2 ^ lo + 2 ^ lo * (v % 2 ^ (hi + 1 - lo) + 2 ^ (hi + 1 - lo) * (w.toNat / 2 ^ (hi + 1))) := by
    rw [hm, Nat.mul_add, Nat.mul_assoc]; omega
  rw [e, Nat.add_mul_div_left _ _ (Nat.two_pow_pos _), Nat.div_eq_of_lt (Nat.mod_lt _ (Nat.two_pow_pos _)), Nat.zero_add,
    Nat.add_mul_mod_self_left, Nat.mod_mod]

/-- A field that lies above or below keeps its value. -/
theorem Word.bits_setBits_of_disjoint (w : Word) (hi lo v hi' lo' : Nat) (hl : lo ≤ hi) (hh : hi < 32) (hl' : lo' ≤ hi')
    (hd : hi < lo' ∨ hi' < lo) : Word.bits (Word.setBits w hi lo v) hi' lo' = Word.bits w hi' lo' := by
  have hm : 2 ^ (hi + 1) = 2 ^ lo * 2 ^ (hi + 1 - lo) := by rw [← Nat.pow_add]; congr 1; omega
  have hlow : w.toNat % 2 ^ lo + 2 ^ lo * (v % 2 ^ (hi + 1 - lo)) < 2 ^ (hi + 1) := by
    have a : w.toNat % 2 ^ lo < 2 ^ lo := Nat.mod_lt _ (Nat.two_pow_pos _)
    have b : v % 2 ^ (hi + 1 - lo) < 2 ^ (hi + 1 - lo) := Nat.mod_lt _ (Nat.two_pow_pos _)
    rw [hm]
    calc w.toNat % 2 ^ lo + 2 ^ lo * (v % 2 ^ (hi + 1 - lo)) < 2 ^ lo + 2 ^ lo * (v % 2 ^ (hi + 1 - lo)) := by omega
      _ = 2 ^ lo * (v % 2 ^ (hi + 1 - lo) + 1) := by rw [Nat.mul_add]; omega
      _ ≤ 2 ^ lo * 2 ^ (hi + 1 - lo) := Nat.mul_le_mul_left _ b
  unfold Word.bits
  simp only [Nat.shiftRight_eq_div_pow]
  rw [Word.setBits_toNat w hi lo v hl hh]
  rcases hd with h | h
  · have hp : 2 ^ lo' = 2 ^ (hi + 1) * 2 ^ (lo' - (hi + 1)) := by rw [← Nat.pow_add]; congr 1; omega
    rw [hp, ← Nat.div_div_eq_div_mul, ← Nat.div_div_eq_div_mul, Nat.add_mul_div_left _ _ (Nat.two_pow_pos _),
      Nat.div_eq_of_lt hlow, Nat.zero_add]
  · have key : ∀ n : Nat, n / 2 ^ lo' % 2 ^ (hi' + 1 - lo') = n % 2 ^ (hi' + 1) / 2 ^ lo' := by
      intro n
      have hp : 2 ^ (hi' + 1) = 2 ^ lo' * 2 ^ (hi' + 1 - lo') := by rw [← Nat.pow_add]; congr 1; omega
      rw [hp, Nat.mod_mul_right_div_self]
    rw [key, key]
    congr 1
    have h1 : (2 : Nat) ^ lo = 2 ^ (hi' + 1) * 2 ^ (lo - (hi' + 1)) := by rw [← Nat.pow_add]; congr 1; omega
    rw [hm, h1]
    rw [show w.toNat % (2 ^ (hi' + 1) * 2 ^ (lo - (hi' + 1))) + 2 ^ (hi' + 1) * 2 ^ (lo - (hi' + 1)) * (v % 2 ^ (hi + 1 - lo)) +
        2 ^ (hi' + 1) * 2 ^ (lo - (hi' + 1)) * 2 ^ (hi + 1 - lo) *
          (w.toNat / (2 ^ (hi' + 1) * 2 ^ (lo - (hi' + 1)) * 2 ^ (hi + 1 - lo))) =
        w.toNat % (2 ^ (hi' + 1) * 2 ^ (lo - (hi' + 1))) + 2 ^ (hi' + 1) * (2 ^ (lo - (hi' + 1)) * (v % 2 ^ (hi + 1 - lo)) +
        2 ^ (lo - (hi' + 1)) * 2 ^ (hi + 1 - lo) *
          (w.toNat / (2 ^ (hi' + 1) * 2 ^ (lo - (hi' + 1)) * 2 ^ (hi + 1 - lo)))) from by
        simp only [Nat.mul_add, Nat.mul_assoc, Nat.add_assoc], Nat.add_mul_mod_self_left, Nat.mod_mul_right_mod]

end Sys2Proof

namespace Sys2Proof.Machine

/-! ### Registers and fields -/

theorem tfind_tset_self {α : Type} (t : Tab α) (k : Nat) (v : α) : tfind (tset t k v) k = some v := by
  induction t with
  | nil => simp [tset, tfind]
  | cons x t ih =>
    obtain ⟨k', v'⟩ := x
    simp only [tset]
    split
    · simp [tfind]
    · split
      · simp [tfind]
      · simp [tfind, *]

theorem tfind_tset_of_ne {α : Type} (t : Tab α) {k k' : Nat} (v : α) (h : k' ≠ k) : tfind (tset t k v) k' = tfind t k' := by
  induction t with
  | nil => simp only [tset, tfind]; split <;> simp_all
  | cons x t ih =>
    obtain ⟨k₀, v'⟩ := x
    simp only [tset]
    split
    · simp only [tfind]; grind
    · split
      · simp only [tfind]; grind
      · simp only [tfind, ih]

theorem tfind_terase_self {α : Type} (t : Tab α) (k : Nat) : tfind (terase t k) k = none := by
  induction t with
  | nil => rfl
  | cons x t ih =>
    obtain ⟨k', v'⟩ := x
    simp only [terase, List.filter]
    split
    · rename_i hne
      have : k' ≠ k := by simpa using hne
      simp only [tfind, this, if_false]
      exact ih
    · exact ih

theorem tfind_terase_of_ne {α : Type} (t : Tab α) {k k' : Nat} (hne : k' ≠ k) : tfind (terase t k) k' = tfind t k' := by
  induction t with
  | nil => rfl
  | cons x t ih =>
    obtain ⟨k₀, v'⟩ := x
    simp only [terase, List.filter]
    split
    · simp only [tfind]
      split
      · rfl
      · exact ih
    · rename_i he
      have he : k₀ = k := by simpa using he
      have h1 : k₀ ≠ k' := fun e => hne (by omega)
      simp only [tfind, h1, if_false]
      exact ih

theorem tget_tset_self {α : Type} (d : α) (t : Tab α) (k : Nat) (v : α) : tget d (tset t k v) k = v := by
  simp [tget, tfind_tset_self]

theorem tget_tset_of_ne {α : Type} (d : α) (t : Tab α) {k k' : Nat} (v : α) (h : k' ≠ k) :
    tget d (tset t k v) k' = tget d t k' := by
  simp [tget, tfind_tset_of_ne t v h]

/-- A register reads the word written to it. -/
@[simp] theorem State.wr_rd_self (s : State) (r : Reg) (i j : Nat) (w : Word) : (s.wr r i j w).rd r i j = w := by
  unfold State.wr State.rd
  simp only []
  split
  · rename_i h
    simp [tfind_terase_self, h]
  · simp [tfind_tset_self]

/-- A write leaves every register at another address alone. -/
theorem State.wr_rd_of_ne (s : State) {r r' : Reg} {i j i' j' : Nat} (w : Word) (h : r'.addr i' j' ≠ r.addr i j) :
    (s.wr r i j w).rd r' i' j' = s.rd r' i' j' := by
  unfold State.wr State.rd
  simp only []
  split
  · rw [tfind_terase_of_ne _ h]
  · rw [tfind_tset_of_ne _ _ h]

/-- A field reads the value put into it. -/
theorem State.put_get_self (s : State) (f : Fld) (v i j : Nat) (hl : f.lo ≤ f.hi) (hh : f.hi < 32) :
    (s.put f v i j).get f i j = v % 2 ^ (f.hi + 1 - f.lo) := by
  unfold State.put State.get
  rw [State.wr_rd_self, Word.bits_setBits_self _ _ _ _ hl hh]

/-- The other fields of the same register keep their values. -/
theorem State.put_get_of_disjoint (s : State) {f g : Fld} (v i j : Nat) (hr : g.reg = f.reg) (hl : f.lo ≤ f.hi) (hh : f.hi < 32)
    (hg : g.lo ≤ g.hi) (hd : f.hi < g.lo ∨ g.hi < f.lo) : (s.put f v i j).get g i j = s.get g i j := by
  unfold State.put State.get
  rw [hr, State.wr_rd_self, Word.bits_setBits_of_disjoint _ _ _ _ _ _ hl hh hg hd]

/-- A put leaves every register at another address alone. -/
theorem State.put_rd_of_ne (s : State) (f : Fld) {r' : Reg} {i j i' j' : Nat} (v : Nat) (h : r'.addr i' j' ≠ f.reg.addr i j) :
    (s.put f v i j).rd r' i' j' = s.rd r' i' j' := State.wr_rd_of_ne s _ h

theorem State.bump_rd_of_ne (s : State) {r r' : Reg} {i j i' j' : Nat} (n : Nat) (h : r'.addr i' j' ≠ r.addr i j) :
    (s.bump r i j n).rd r' i' j' = s.rd r' i' j' := State.wr_rd_of_ne s _ h

@[simp] theorem State.bump_rd_self (s : State) (r : Reg) (i j n : Nat) :
    (s.bump r i j n).rd r i j = s.rd r i j + BitVec.ofNat 32 n := State.wr_rd_self s r i j _

/-! ### Timers -/

/-- A timer that is started ends `d` ns later. -/
@[simp] theorem State.arm_deadline_self (s : State) (t : Timer) (d : Nat) : (s.arm t d).deadline t = some (s.now + d) := by
  simp [State.arm, State.deadline]

theorem State.arm_deadline_of_ne (s : State) {t t' : Timer} (d : Nat) (h : t' ≠ t) : (s.arm t d).deadline t' = s.deadline t' := by
  have h1 : (t == t') = false := by simpa using fun e => h e.symm
  simp only [State.arm, State.deadline, List.find?_cons, h1]
  congr 1
  rw [List.find?_filter]
  congr 1
  funext e
  by_cases he : e.1 = t'
  · simp [he, h]
  · simp [he]

/-- A timer that is stopped does not run. -/
@[simp] theorem State.disarm_deadline_self (s : State) (t : Timer) : (s.disarm t).deadline t = none := by
  simp [State.disarm, State.deadline, List.find?_filter]

theorem State.disarm_deadline_of_ne (s : State) {t t' : Timer} (h : t' ≠ t) : (s.disarm t).deadline t' = s.deadline t' := by
  simp only [State.disarm, State.deadline]
  congr 1
  rw [List.find?_filter]
  congr 1
  funext e
  by_cases he : e.1 = t'
  · simp [he, h]
  · simp [he]

end Sys2Proof.Machine
end

