-- ==== Sys2Proof/Laws/Memory.lean ====
section
/-!
SUPPORT. The laws of the finite tables and of the vat: reading after writing, and the canonical form.
-/
namespace Sys2Proof.Machine

/-! ### Tables -/

theorem twf_cons {α : Type} {k : Nat} {v : α} {t : Tab α} :
    twf ((k, v) :: t) = true ↔ (∀ e ∈ t, k < e.1) ∧ twf t = true := by
  induction t generalizing k v with
  | nil => simp [twf]
  | cons e t ih =>
    obtain ⟨k', v'⟩ := e
    simp only [twf, Bool.and_eq_true, decide_eq_true_eq, List.mem_cons, forall_eq_or_imp]
    constructor
    · rintro ⟨h, h'⟩
      exact ⟨⟨h, fun e he => Nat.lt_trans h ((ih.1 h').1 e he)⟩, h'⟩
    · rintro ⟨⟨h, _⟩, h'⟩
      exact ⟨h, h'⟩

theorem mem_tset {α : Type} {t : Tab α} {k : Nat} {v : α} {e : Nat × α} (h : e ∈ tset t k v) : e = (k, v) ∨ e ∈ t := by
  induction t with
  | nil => simpa [tset] using h
  | cons x t ih =>
    simp only [tset] at h
    split at h
    · rcases List.mem_cons.1 h with h | h <;> simp [h]
    · split at h
      · rcases List.mem_cons.1 h with h | h <;> simp [h]
      · rcases List.mem_cons.1 h with h | h
        · simp [h]
        · rcases ih h with h | h <;> simp [h]

theorem twf_tset {α : Type} {t : Tab α} (h : twf t = true) (k : Nat) (v : α) : twf (tset t k v) = true := by
  induction t with
  | nil => rfl
  | cons x t ih =>
    obtain ⟨k', v'⟩ := x
    obtain ⟨hl, ht⟩ := twf_cons.1 h
    simp only [tset]
    split
    · rename_i e
      subst e
      exact twf_cons.2 ⟨hl, ht⟩
    · split
      · rename_i hlt
        refine twf_cons.2 ⟨fun e he => ?_, h⟩
        rcases List.mem_cons.1 he with he | he
        · simpa [he] using hlt
        · exact Nat.lt_trans hlt (hl e he)
      · refine twf_cons.2 ⟨fun e he => ?_, ih ht⟩
        rcases mem_tset he with he | he
        · subst he
          show k' < k
          omega
        · exact hl e he

theorem twf_filter {α : Type} {t : Tab α} (h : twf t = true) (p : Nat × α → Bool) : twf (t.filter p) = true := by
  induction t with
  | nil => rfl
  | cons x t ih =>
    obtain ⟨k', v'⟩ := x
    obtain ⟨hl, ht⟩ := twf_cons.1 h
    simp only [List.filter]
    split
    · exact twf_cons.2 ⟨fun e he => hl e (List.mem_filter.1 he).1, ih ht⟩
    · exact ih ht

/-! ### The vat -/

theorem Memory.wf_iff {m : List Host.Cell} : Memory.wf m = true ↔ twf m = true ∧ ∀ c ∈ m, c.2 ≠ 0 := by
  simp [Memory.wf]

theorem Memory.wf_mwrite {m : List Host.Cell} (h : Memory.wf m = true) (a : Nat) (b : Byte) : Memory.wf (mwrite m a b) = true := by
  obtain ⟨h1, h2⟩ := Memory.wf_iff.1 h
  unfold mwrite
  split
  · exact Memory.wf_iff.2 ⟨twf_filter h1 _, fun c hc => h2 c (List.mem_filter.1 hc).1⟩
  · refine Memory.wf_iff.2 ⟨twf_tset h1 _ _, fun c hc => ?_⟩
    rcases mem_tset hc with hc | hc
    · simpa [hc]
    · exact h2 c hc

@[simp] theorem Memory.wf_mwrites (bs : List Byte) {m : List Host.Cell} (h : Memory.wf m = true) (a : Nat) :
    Memory.wf (mwrites m a bs) = true := by
  induction bs generalizing m a with
  | nil => exact h
  | cons b bs ih => exact ih (Memory.wf_mwrite h a b) _

@[simp] theorem Memory.wf_writeCells (cs : List Nat) {m : List Host.Cell} (h : Memory.wf m = true) (bs : List Byte) :
    Memory.wf (writeCells m cs bs) = true := by
  induction cs generalizing m bs with
  | nil => exact h
  | cons c cs ih => exact ih (Memory.wf_mwrites _ h _) _

/-- A byte reads what was written to it. -/
theorem mread_mwrite_self (m : List Host.Cell) (a : Nat) (b : Byte) : mread (mwrite m a b) a = b := by
  unfold mwrite mread
  split
  · rename_i e
    simp [tget, tfind_terase_self, e]
  · exact tget_tset_self _ _ _ _

/-- A write of a byte leaves every other byte alone. -/
theorem mread_mwrite_of_ne (m : List Host.Cell) {a a' : Nat} (b : Byte) (hne : a' ≠ a) :
    mread (mwrite m a b) a' = mread m a' := by
  unfold mwrite mread
  split
  · simp [tget, tfind_terase_of_ne _ hne]
  · exact tget_tset_of_ne _ _ _ hne

theorem mread_mwrites_of_lt (bs : List Byte) (m : List Host.Cell) {a a' : Nat} (hlt : a' < a) :
    mread (mwrites m a bs) a' = mread m a' := by
  induction bs generalizing m a with
  | nil => rfl
  | cons b bs ih =>
    simp only [mwrites]
    rw [ih _ (by omega), mread_mwrite_of_ne _ b (by omega)]

theorem mread_mwrites_of_ge (bs : List Byte) (m : List Host.Cell) {a a' : Nat} (hge : a + bs.length ≤ a') :
    mread (mwrites m a bs) a' = mread m a' := by
  induction bs generalizing m a with
  | nil => rfl
  | cons b bs ih =>
    simp only [mwrites, List.length_cons] at hge ⊢
    rw [ih _ (by omega), mread_mwrite_of_ne _ b (by omega)]

theorem mread_mwrites_self (bs : List Byte) (m : List Host.Cell) (a i : Nat) (hi : i < bs.length) :
    mread (mwrites m a bs) (a + i) = bs[i] := by
  induction bs generalizing m a i with
  | nil => simp at hi
  | cons b bs ih =>
    simp only [mwrites]
    cases i with
    | zero => rw [mread_mwrites_of_lt bs _ (by omega)]; simpa using mread_mwrite_self m a b
    | succ i =>
      have := ih (mwrite m a b) (a + 1) i (by simpa using hi)
      simpa [Nat.add_assoc, Nat.add_comm 1 i] using this

end Sys2Proof.Machine
end

