-- ==== Sys2Proof/Laws/Vat.lean ====
section
/-!
SUPPORT. Which operations leave the vat alone, and that the others keep its canonical form.
-/
namespace Sys2Proof.Machine

/-! ### State -/

@[simp] theorem foldl_vat {α : Type} (f : State → α → State) (h : ∀ s a, (f s a).sw.vat = s.sw.vat) (l : List α)
    (s : State) : (l.foldl f s).sw.vat = s.sw.vat := by
  induction l generalizing s with
  | nil => rfl
  | cons a l ih => simp [ih, h]
@[simp] theorem foldl_vat_fst {α β : Type} (f : State × β → α → State × β) (h : ∀ p a, (f p a).1.sw.vat = p.1.sw.vat)
    (l : List α) (p : State × β) : (l.foldl f p).1.sw.vat = p.1.sw.vat := by
  induction l generalizing p with
  | nil => rfl
  | cons a l ih => simp [ih, h]
@[simp] theorem foldl_vat_snd {α β : Type} (f : β × State → α → β × State) (h : ∀ p a, (f p a).2.sw.vat = p.2.sw.vat)
    (l : List α) (p : β × State) : (l.foldl f p).2.sw.vat = p.2.sw.vat := by
  induction l generalizing p with
  | nil => rfl
  | cons a l ih => simp [ih, h]

/-! ### Ops -/

@[simp] theorem State.wr_vat (s : State) (r : Reg) (i : Nat) (j : Nat) (w : Word) :
    (State.wr s r i j w).sw.vat = s.sw.vat := by
  simp [State.wr]
@[simp] theorem State.put_vat (s : State) (f : Fld) (v : Nat) (i : Nat) (j : Nat) :
    (State.put s f v i j).sw.vat = s.sw.vat := by
  simp [State.put]
@[simp] theorem State.bump_vat (s : State) (r : Reg) (i : Nat) (j : Nat) (n : Nat) :
    (State.bump s r i j n).sw.vat = s.sw.vat := by
  simp [State.bump]
@[simp] theorem State.sat_vat (s : State) (f : Fld) (i : Nat) (j : Nat) : (State.sat s f i j).sw.vat = s.sw.vat := by
  simp [State.sat, apply_ite State.sw, apply_ite SwS.vat]
@[simp] theorem State.timClocks_vat (s : State) (n : Nat) : (State.timClocks s n).sw.vat = s.sw.vat := by
  simp [State.timClocks, apply_ite State.sw, apply_ite SwS.vat]
@[simp] theorem State.advance_vat (s : State) (dt : Nat) : (State.advance s dt).sw.vat = s.sw.vat := by
  simp [State.advance]
@[simp] theorem State.advanceRing_vat (s : State) (t : Nat) : (State.advanceRing s t).sw.vat = s.sw.vat := by
  simp [State.advanceRing, apply_ite State.sw, apply_ite SwS.vat]
@[simp] theorem State.disarm_vat (s : State) (t : Timer) : (State.disarm s t).sw.vat = s.sw.vat := by
  simp [State.disarm]
@[simp] theorem State.arm_vat (s : State) (t : Timer) (d : Nat) : (State.arm s t d).sw.vat = s.sw.vat := by
  simp [State.arm]
theorem State.expire_vat (s : State) (t : Timer) : ∀ tx, State.expire s t = some tx → tx.sw.vat = s.sw.vat := by
  unfold State.expire; split <;> simp [apply_ite State.sw, apply_ite SwS.vat]
theorem State.expire_vat_of (s : State) (t : Timer) {tx : State} (h : State.expire s t = some tx) : tx.sw.vat = s.sw.vat :=
  State.expire_vat s t tx h
@[simp] theorem State.disarmAll_vat (s : State) (p : Timer → Bool) : (State.disarmAll s p).sw.vat = s.sw.vat := by
  simp [State.disarmAll]
@[simp] theorem State.fresh_vat (s : State) : ((State.fresh s).2).sw.vat = s.sw.vat := by
  simp [State.fresh]
theorem State.fresh_vat_of (s : State) {sx : Word} {qx : State} (h : State.fresh s = (sx, qx)) : qx.sw.vat = s.sw.vat := by
  have e := State.fresh_vat s
  rw [h] at e
  exact e
@[simp] theorem State.freshWords_vat (x0 : Nat) (x1 : State) : ((State.freshWords x0 x1).2).sw.vat = x1.sw.vat := by
  induction x0 generalizing x1 <;> simp_all [State.freshWords, apply_ite State.sw, apply_ite SwS.vat]
theorem State.freshWords_vat_of (x0 : Nat) (x1 : State) {sx : List Word} {qx : State} (h : State.freshWords x0 x1 = (sx, qx)) : qx.sw.vat = x1.sw.vat := by
  have e := State.freshWords_vat x0 x1
  rw [h] at e
  exact e
@[simp] theorem State.freeIn_vat (s : State) (lo : Nat) (hi : Nat) : ((State.freeIn s lo hi).2).sw.vat = s.sw.vat := by
  simp [State.freeIn]
theorem State.freeIn_vat_of (s : State) (lo : Nat) (hi : Nat) {sx : Nat} {qx : State} (h : State.freeIn s lo hi = (sx, qx)) : qx.sw.vat = s.sw.vat := by
  have e := State.freeIn_vat s lo hi
  rw [h] at e
  exact e
@[simp] theorem State.enqueue_vat (s : State) (x : UnitIn) : (State.enqueue s x).sw.vat = s.sw.vat := by
  simp [State.enqueue]
@[simp] theorem State.emit_vat (s : State) (f : Frame) (inPort : Nat) (slot : (Option Nat)) :
    (State.emit s f inPort slot).sw.vat = s.sw.vat := by
  simp [State.emit]
@[simp] theorem State.emitOut_vat (s : State) (f : Frame) (inPort : Nat) : (State.emitOut s f inPort).sw.vat = s.sw.vat := by
  simp [State.emitOut, apply_ite State.sw, apply_ite SwS.vat]
@[simp] theorem State.mirrorOne_vat (s : State) : (State.mirrorOne s).sw.vat = s.sw.vat := by
  unfold State.mirrorOne; split <;> simp [apply_ite State.sw, apply_ite SwS.vat]
@[simp] theorem State.log_vat (s : State) (audit : Bool) (cls : Nat) (origin : Nat) (source : Nat) (code : Nat) (who : Who) (data : List Word) :
    (State.log s audit cls origin source code who data).sw.vat = s.sw.vat := by
  simp [State.log, apply_ite State.sw, apply_ite SwS.vat]

/-! ### Flags -/

@[simp] theorem State.updateAlive_vat (s : State) : (State.updateAlive s).sw.vat = s.sw.vat := by
  simp [State.updateAlive, apply_ite State.sw, apply_ite SwS.vat]
@[simp] theorem State.faultPulse_vat (s : State) : (State.faultPulse s).sw.vat = s.sw.vat := by
  unfold State.faultPulse; grind [→ State.freeIn_vat_of, State.arm_vat, State.bump_vat]
@[simp] theorem State.faultEvent_vat (s : State) (kind : Nat) (src : Nat) (reaction : Nat) :
    (State.faultEvent s kind src reaction).sw.vat = s.sw.vat := by
  simp [State.faultEvent, apply_ite State.sw, apply_ite SwS.vat]
@[simp] theorem State.raiseEvent_vat (s : State) (src : Nat) : (State.raiseEvent s src).sw.vat = s.sw.vat := by
  simp [State.raiseEvent, apply_ite State.sw, apply_ite SwS.vat]
@[simp] theorem State.faultRecord_vat (s : State) (src : Nat) (raised : Bool) :
    (State.faultRecord s src raised).sw.vat = s.sw.vat := by
  simp [State.faultRecord, apply_ite State.sw, apply_ite SwS.vat]
@[simp] theorem State.raiseCore_vat (s : State) (src : Nat) (inst : Nat) :
    (State.raiseCore s src inst).sw.vat = s.sw.vat := by
  simp [State.raiseCore, apply_ite State.sw, apply_ite SwS.vat]
@[simp] theorem State.raise_vat (s : State) (src : Nat) (inst : Nat) : (State.raise s src inst).sw.vat = s.sw.vat := by
  simp [State.raise, apply_ite State.sw, apply_ite SwS.vat]
@[simp] theorem State.setLive_vat (s : State) (src : Nat) (inst : Nat) : (State.setLive s src inst).sw.vat = s.sw.vat := by
  simp [State.setLive, apply_ite State.sw, apply_ite SwS.vat]
@[simp] theorem State.clearLive_vat (s : State) (src : Nat) (inst : Nat) :
    (State.clearLive s src inst).sw.vat = s.sw.vat := by
  simp [State.clearLive, apply_ite State.sw, apply_ite SwS.vat]
@[simp] theorem State.crossToAon_vat (s : State) (i : Nat) : ((State.crossToAon s i).1).sw.vat = s.sw.vat := by
  unfold State.crossToAon; grind [State.raise_vat, State.bump_vat]
theorem State.crossToAon_vat_of (s : State) (i : Nat) {sx : State} {qx : Bool} (h : State.crossToAon s i = (sx, qx)) : sx.sw.vat = s.sw.vat := by
  have e := State.crossToAon_vat s i
  rw [h] at e
  exact e

/-! ### SwitchOps -/

@[simp] theorem State.setUnit_vat (s : State) (u : Nat) (v : VUnit) : (State.setUnit s u v).sw.vat = s.sw.vat := by
  simp [State.setUnit]
@[simp] theorem State.setQueue_vat (s : State) (q : Nat) (l : List Link) : (State.setQueue s q l).sw.vat = s.sw.vat := by
  simp [State.setQueue]
@[simp] theorem State.setResidue_vat (s : State) (q : Nat) (l : List ResEntry) :
    (State.setResidue s q l).sw.vat = s.sw.vat := by
  simp [State.setResidue]
@[simp] theorem State.retireCell_vat (s : State) (c : Nat) : (State.retireCell s c).sw.vat = s.sw.vat := by
  unfold State.retireCell; grind [State.put_vat, State.raise_vat]
@[simp] theorem State.gc_vat (s : State) (u : Nat) : ((State.gc s u).1).sw.vat = s.sw.vat := by
  unfold State.gc; (repeat' split) <;> simp_all [apply_ite State.sw, apply_ite SwS.vat]
theorem State.gc_vat_of (s : State) (u : Nat) {sx : State} {qx : Nat} (h : State.gc s u = (sx, qx)) : sx.sw.vat = s.sw.vat := by
  have e := State.gc_vat s u
  rw [h] at e
  exact e
@[simp] theorem State.notePeak_vat (s : State) (q : Nat) : (State.notePeak s q).sw.vat = s.sw.vat := by
  simp [State.notePeak, apply_ite State.sw, apply_ite SwS.vat]
@[simp] theorem State.linkQ_vat (s : State) (q : Nat) (l : Link) : (State.linkQ s q l).sw.vat = s.sw.vat := by
  simp [State.linkQ, apply_ite State.sw, apply_ite SwS.vat]
@[simp] theorem State.holdFor_vat (s : State) (u : Nat) (q : Nat) : (State.holdFor s u q).sw.vat = s.sw.vat := by
  simp [State.holdFor]
@[simp] theorem State.loupeCopy_vat (s : State) (m : Nat) (u : Nat) : (State.loupeCopy s m u).sw.vat = s.sw.vat := by
  unfold State.loupeCopy; grind [State.bump_vat, State.setResidue_vat, State.linkQ_vat]
@[simp] theorem State.loupeMark_vat (s : State) (m : Nat) (u : Nat) : (State.loupeMark s m u).sw.vat = s.sw.vat := by
  unfold State.loupeMark; split <;> simp [apply_ite State.sw, apply_ite SwS.vat]
@[simp] theorem State.loupes_vat (s : State) (u : Nat) (p : Nat) (egress : Bool) (f : Frame) :
    (State.loupes s u p egress f).sw.vat = s.sw.vat := by
  simp [State.loupes, apply_ite State.sw, apply_ite SwS.vat]
@[simp] theorem State.linkUnit_vat (s : State) (q : Nat) (u : Nat) (cut : Bool) :
    (State.linkUnit s q u cut).sw.vat = s.sw.vat := by
  unfold State.linkUnit; grind [→ State.gc_vat_of, State.bump_vat, State.linkQ_vat, State.loupes_vat]
@[simp] theorem State.unblock_vat (s : State) (q : Nat) (x2 : Nat) : (State.unblock s q x2).sw.vat = s.sw.vat := by
  (induction x2 generalizing s q) <;> (unfold State.unblock; (repeat' split)) <;> simp_all [apply_ite State.sw, apply_ite SwS.vat]
@[simp] theorem State.unblockAll_vat (s : State) (q : Nat) : (State.unblockAll s q).sw.vat = s.sw.vat := by
  simp [State.unblockAll]
@[simp] theorem State.residueTest_vat (s : State) (q : Nat) (x2 : Nat) : (State.residueTest s q x2).sw.vat = s.sw.vat := by
  (induction x2 generalizing s q) <;> (unfold State.residueTest; (repeat' split)) <;> simp_all [apply_ite State.sw, apply_ite SwS.vat]
@[simp] theorem State.unlink_vat (s : State) (q : Nat) (u : Nat) (loupe : Option Nat) :
    ((State.unlink s q u loupe).1).sw.vat = s.sw.vat := by
  simp [State.unlink]
theorem State.unlink_vat_of (s : State) (q : Nat) (u : Nat) (loupe : Option Nat) {sx : State} {qx : Nat} (h : State.unlink s q u loupe = (sx, qx)) : sx.sw.vat = s.sw.vat := by
  have e := State.unlink_vat s q u loupe
  rw [h] at e
  exact e
@[simp] theorem State.dropHolds_vat (s : State) (p : Nat) : ((State.dropHolds s p).1).sw.vat = s.sw.vat := by
  simp [State.dropHolds]
theorem State.dropHolds_vat_of (s : State) (p : Nat) {sx : State} {qx : Nat} (h : State.dropHolds s p = (sx, qx)) : sx.sw.vat = s.sw.vat := by
  have e := State.dropHolds_vat s p
  rw [h] at e
  exact e
@[simp] theorem State.emptyQueue_vat (s : State) (q : Nat) : ((State.emptyQueue s q).1).sw.vat = s.sw.vat := by
  simp [State.emptyQueue]
theorem State.emptyQueue_vat_of (s : State) (q : Nat) {sx : State} {qx : Nat} (h : State.emptyQueue s q = (sx, qx)) : sx.sw.vat = s.sw.vat := by
  have e := State.emptyQueue_vat s q
  rw [h] at e
  exact e
@[simp] theorem State.emptyPort_vat (s : State) (p : Nat) : ((State.emptyPort s p).1).sw.vat = s.sw.vat := by
  simp [State.emptyPort]
theorem State.emptyPort_vat_of (s : State) (p : Nat) {sx : State} {qx : Nat} (h : State.emptyPort s p = (sx, qx)) : sx.sw.vat = s.sw.vat := by
  have e := State.emptyPort_vat s p
  rw [h] at e
  exact e
@[simp] theorem State.transmit_vat (s : State) (p : Nat) (f : Frame) (rind : Word) :
    (State.transmit s p f rind).sw.vat = s.sw.vat := by
  simp [State.transmit, apply_ite State.sw, apply_ite SwS.vat]
@[simp] theorem State.ruined_vat (s : State) (u : Nat) : (State.ruined s u).sw.vat = s.sw.vat := by
  unfold State.ruined; split <;> simp [apply_ite State.sw, apply_ite SwS.vat]
@[simp] theorem State.endCut_vat (s : State) (p : Nat) : ((State.endCut s p).1).sw.vat = s.sw.vat := by
  unfold State.endCut; (repeat' split) <;> simp_all [apply_ite State.sw, apply_ite SwS.vat]
theorem State.endCut_vat_of (s : State) (p : Nat) {sx : State} {qx : Nat} (h : State.endCut s p = (sx, qx)) : sx.sw.vat = s.sw.vat := by
  have e := State.endCut_vat s p
  rw [h] at e
  exact e
@[simp] theorem State.truncate_vat (s : State) (p : Nat) : (State.truncate s p).sw.vat = s.sw.vat := by
  unfold State.truncate; (repeat' split) <;> simp_all [apply_ite State.sw, apply_ite SwS.vat]

/-! ### PressOps -/

@[simp] theorem State.setCtx_vat (s : State) (k : Nat) (c : PressCtx) : (State.setCtx s k c).sw.vat = s.sw.vat := by
  simp [State.setCtx]
@[simp] theorem State.declareLost_vat (s : State) (k : Nat) (next : Nat) (cause : Nat) (runs : List (Nat × Nat)) :
    (State.declareLost s k next cause runs).sw.vat = s.sw.vat := by
  simp [State.declareLost, apply_ite State.sw, apply_ite SwS.vat]
@[simp] theorem State.linkWaiting_vat (s : State) (u : Nat) (p : Nat → Bool) :
    (State.linkWaiting s u p).sw.vat = s.sw.vat := by
  simp [State.linkWaiting, apply_ite State.sw, apply_ite SwS.vat]
@[simp] theorem State.dropWaiting_vat (s : State) (u : Nat) (p : Nat → Bool) :
    (State.dropWaiting s u p).sw.vat = s.sw.vat := by
  simp [State.dropWaiting]
@[simp] theorem State.deliverLocal_vat (s : State) (u : Nat) : (State.deliverLocal s u).sw.vat = s.sw.vat := by
  unfold State.deliverLocal; split <;> simp [apply_ite State.sw, apply_ite SwS.vat]
@[simp] theorem State.discardLocal_vat (s : State) (u : Nat) : (State.discardLocal s u).sw.vat = s.sw.vat := by
  simp [State.discardLocal]
@[simp] theorem State.pressAdvance_vat (s : State) (k : Nat) (n : Nat) : (State.pressAdvance s k n).sw.vat = s.sw.vat := by
  unfold State.pressAdvance; split <;> simp [apply_ite State.sw, apply_ite SwS.vat]
@[simp] theorem State.pressDrain_vat (s : State) (k : Nat) (x2 : Nat) : (State.pressDrain s k x2).sw.vat = s.sw.vat := by
  (induction x2 generalizing s k) <;> (unfold State.pressDrain; (repeat' split)) <;> simp_all [apply_ite State.sw, apply_ite SwS.vat]
@[simp] theorem State.startWait_vat (s : State) (k : Nat) (t : Nat) : (State.startWait s k t).sw.vat = s.sw.vat := by
  unfold State.startWait; split <;> simp [apply_ite State.sw, apply_ite SwS.vat]
@[simp] theorem State.pressTimer_vat (s : State) (k : Nat) : (State.pressTimer s k).sw.vat = s.sw.vat := by
  unfold State.pressTimer; (repeat' split) <;> simp_all [apply_ite State.sw, apply_ite SwS.vat]
@[simp] theorem State.pressTouch_vat (s : State) (k : Nat) : (State.pressTouch s k).sw.vat = s.sw.vat := by
  simp [State.pressTouch]
@[simp] theorem State.freeCtx_vat (s : State) (k : Nat) : (State.freeCtx s k).sw.vat = s.sw.vat := by
  unfold State.freeCtx; (repeat' split) <;> simp_all [apply_ite State.sw, apply_ite SwS.vat]
@[simp] theorem State.roomForCtx_vat (s : State) : (State.roomForCtx s).sw.vat = s.sw.vat := by
  unfold State.roomForCtx; (repeat' split) <;> simp_all [apply_ite State.sw, apply_ite SwS.vat]
@[simp] theorem State.pressWindow_vat (s : State) (k : Nat) (u : Nat) (q : Nat) :
    (State.pressWindow s k u q).sw.vat = s.sw.vat := by
  unfold State.pressWindow; split <;> simp [apply_ite State.sw, apply_ite SwS.vat]
@[simp] theorem State.pressArrive_vat (s : State) (u : Nat) (f : Frame) : (State.pressArrive s u f).sw.vat = s.sw.vat := by
  unfold State.pressArrive; grind [State.roomForCtx_vat, State.pressTouch_vat, State.deliverLocal_vat, State.setCtx_vat, State.pressWindow_vat, State.declareLost_vat, State.pressDrain_vat, State.pressAdvance_vat, State.pressTimer_vat, State.bump_vat, State.discardLocal_vat]
@[simp] theorem State.pressWaitEnd_vat (s : State) (k : Nat) : (State.pressWaitEnd s k).sw.vat = s.sw.vat := by
  unfold State.pressWaitEnd; grind [State.declareLost_vat, State.pressTouch_vat, State.pressDrain_vat, State.pressAdvance_vat, State.startWait_vat]
@[simp] theorem State.ctxIdle_vat (s : State) (k : Nat) : (State.ctxIdle s k).sw.vat = s.sw.vat := by
  simp [State.ctxIdle, apply_ite State.sw, apply_ite SwS.vat]
@[simp] theorem State.transitArrive_vat (s : State) (f : Frame) : ((State.transitArrive s f).1).sw.vat = s.sw.vat := by
  unfold State.transitArrive; grind [State.roomForCtx_vat, State.pressTouch_vat, State.setCtx_vat, State.bump_vat]
theorem State.transitArrive_vat_of (s : State) (f : Frame) {sx : State} {qx : Transit} (h : State.transitArrive s f = (sx, qx)) : sx.sw.vat = s.sw.vat := by
  have e := State.transitArrive_vat s f
  rw [h] at e
  exact e
@[simp] theorem State.transitNote_vat (s : State) (f : Frame) (u : Nat) (v : Transit) :
    (State.transitNote s f u v).sw.vat = s.sw.vat := by
  unfold State.transitNote; grind [State.setCtx_vat]
@[simp] theorem State.transitEnd_vat (s : State) (f : Frame) (u : Nat) (good : Bool) :
    (State.transitEnd s f u good).sw.vat = s.sw.vat := by
  simp only [State.transitEnd, State.expire]; (repeat' split) <;> simp_all [apply_ite State.sw, apply_ite SwS.vat]

/-! ### OrderOps -/

@[simp] theorem State.orderedSet_vat (s : State) (d1 : BitVec 8) (d2 : BitVec 8) (d3 : BitVec 8) :
    (State.orderedSet s d1 d2 d3).sw.vat = s.sw.vat := by
  simp [State.orderedSet]
@[simp] theorem State.orderSet_vat (s : State) (d1 : BitVec 8) (on : Nat) : (State.orderSet s d1 on).sw.vat = s.sw.vat := by
  simp [State.orderSet]
@[simp] theorem State.privateWords_vat (s : State) : ((State.privateWords s).2).sw.vat = s.sw.vat := by
  simp [State.privateWords]
theorem State.privateWords_vat_of (s : State) {sx : List Word} {qx : State} (h : State.privateWords s = (sx, qx)) : qx.sw.vat = s.sw.vat := by
  have e := State.privateWords_vat s
  rw [h] at e
  exact e
@[simp] theorem State.startTransfer_vat (s : State) : (State.startTransfer s).sw.vat = s.sw.vat := by
  simp [State.startTransfer]
@[simp] theorem State.twinDown_vat (s : State) : (State.twinDown s).sw.vat = s.sw.vat := by
  simp [State.twinDown]
@[simp] theorem State.transferAgain_vat (s : State) : (State.transferAgain s).sw.vat = s.sw.vat := by
  simp [State.transferAgain, apply_ite State.sw, apply_ite SwS.vat]
@[simp] theorem State.placeOrder_vat (s : State) (f : Frame) : (State.placeOrder s f).sw.vat = s.sw.vat := by
  unfold State.placeOrder; grind [State.transmit_vat, State.orderSet_vat, State.put_vat, State.arm_vat]
@[simp] theorem State.sendOrder_vat (s : State) (f : Frame) : (State.sendOrder s f).sw.vat = s.sw.vat := by
  simp [State.sendOrder, apply_ite State.sw, apply_ite SwS.vat]
@[simp] theorem State.placeWaiting_vat (s : State) : (State.placeWaiting s).sw.vat = s.sw.vat := by
  simp [State.placeWaiting]
@[simp] theorem State.sendPairOrder_vat (s : State) (kind : Nat) (ws : List Word) :
    (State.sendPairOrder s kind ws).sw.vat = s.sw.vat := by
  simp [State.sendPairOrder]
@[simp] theorem State.progressOrder_vat (s : State) (port : Nat) (outcome : Nat) (seq : BitVec 16) :
    (State.progressOrder s port outcome seq).sw.vat = s.sw.vat := by
  simp [State.progressOrder]
@[simp] theorem State.channelOrder_vat (s : State) (c : Nat) (what : Nat) (code : Nat) :
    (State.channelOrder s c what code).sw.vat = s.sw.vat := by
  simp [State.channelOrder]
@[simp] theorem State.sessionOrder_vat (s : State) : (State.sessionOrder s).sw.vat = s.sw.vat := by
  simp [State.sessionOrder, apply_ite State.sw, apply_ite SwS.vat]
@[simp] theorem State.resendOrders_vat (s : State) (first : Nat) : (State.resendOrders s first).sw.vat = s.sw.vat := by
  simp [State.resendOrders, apply_ite State.sw, apply_ite SwS.vat]
@[simp] theorem State.orderOf_vat (s : State) (f : Frame) : (State.orderOf s f).sw.vat = s.sw.vat := by
  simp [State.orderOf, apply_ite State.sw, apply_ite SwS.vat]

/-! ### RouteOps -/

@[simp] theorem State.setLane_vat (s : State) (l : Nat) (x : LaneS) : (State.setLane s l x).sw.vat = s.sw.vat := by
  simp [State.setLane]
@[simp] theorem State.upPorts_vat (s : State) (dual : Bool) (ps : List Nat) :
    ((State.upPorts s dual ps).1).sw.vat = s.sw.vat := by
  unfold State.upPorts; grind [State.bump_vat]
theorem State.upPorts_vat_of (s : State) (dual : Bool) (ps : List Nat) {sx : State} {qx : List Nat} (h : State.upPorts s dual ps = (sx, qx)) : sx.sw.vat = s.sw.vat := by
  have e := State.upPorts_vat s dual ps
  rw [h] at e
  exact e
@[simp] theorem State.ownDests_vat (s : State) (f : Frame) : ((State.ownDests s f).1).sw.vat = s.sw.vat := by
  unfold State.ownDests; grind [State.bump_vat, → State.upPorts_vat_of]
theorem State.ownDests_vat_of (s : State) (f : Frame) {sx : State} {qx : List Dest} (h : State.ownDests s f = (sx, qx)) : sx.sw.vat = s.sw.vat := by
  have e := State.ownDests_vat s f
  rw [h] at e
  exact e
@[simp] theorem State.spendSessions_vat (s : State) : (State.spendSessions s).sw.vat = s.sw.vat := by
  simp [State.spendSessions, apply_ite State.sw, apply_ite SwS.vat]
@[simp] theorem State.takeSeq_vat (s : State) (f : Frame) : ((State.takeSeq s f).2).sw.vat = s.sw.vat := by
  simp [State.takeSeq]
theorem State.takeSeq_vat_of (s : State) (f : Frame) {sx : Frame} {qx : State} (h : State.takeSeq s f = (sx, qx)) : qx.sw.vat = s.sw.vat := by
  have e := State.takeSeq_vat s f
  rw [h] at e
  exact e
@[simp] theorem State.sealFrame_vat (s : State) (slot : Option Nat) (f : Frame) :
    ((State.sealFrame s slot f).2).sw.vat = s.sw.vat := by
  simp [State.sealFrame]
theorem State.sealFrame_vat_of (s : State) (slot : Option Nat) (f : Frame) {sx : Frame} {qx : State} (h : State.sealFrame s slot f = (sx, qx)) : qx.sw.vat = s.sw.vat := by
  have e := State.sealFrame_vat s slot f
  rw [h] at e
  exact e
@[simp] theorem State.macCount_vat (s : State) (m : Nat) (k : Nat) (n : Nat) :
    (State.macCount s m k n).sw.vat = s.sw.vat := by
  simp [State.macCount, apply_ite State.sw, apply_ite SwS.vat]
@[simp] theorem State.ownDropped_vat (s : State) (p : Nat) : (State.ownDropped s p).sw.vat = s.sw.vat := by
  simp [State.ownDropped, apply_ite State.sw, apply_ite SwS.vat]
@[simp] theorem State.txResult_vat (s : State) (x : UnitIn) (st : Status) (seq : BitVec 16) :
    (State.txResult s x st seq).sw.vat = s.sw.vat := by
  simp [State.txResult, apply_ite State.sw, apply_ite SwS.vat]
@[simp] theorem State.noteSeq_vat (s : State) (f : Frame) (inPort : Nat) : (State.noteSeq s f inPort).sw.vat = s.sw.vat := by
  unfold State.noteSeq; (repeat' split) <;> simp_all [apply_ite State.sw, apply_ite SwS.vat]
@[simp] theorem State.fwdRead_vat (s : State) (k : Nat) : (State.fwdRead s k).sw.vat = s.sw.vat := by
  unfold State.fwdRead; grind [State.bump_vat, State.raise_vat]
@[simp] theorem State.tableRead_vat (s : State) (n : BitVec 24) (one : Bool) :
    (State.tableRead s n one).sw.vat = s.sw.vat := by
  simp [State.tableRead, apply_ite State.sw, apply_ite SwS.vat]
@[simp] theorem State.ringDests_vat (s : State) (l : Nat) (f : Frame) : (State.ringDests s l f).1.sw.vat = s.sw.vat := by
  unfold State.ringDests
  extract_lets n mine bcast seg inSeg shadow ports s1 s2 here
  have h2 : s2.sw.vat = s.sw.vat := by simp [s2, s1, apply_ite State.sw, apply_ite SwS.vat]
  clear_value s2
  split
  · exact h2
  · rename_i pass other s3 dn s4 _
    have h4 : s4.sw.vat = s.sw.vat := by simp [s4, s3, h2, apply_ite State.sw, apply_ite SwS.vat]
    clear_value s4 pass other
    simp [h4, apply_ite State.sw, apply_ite SwS.vat, apply_ite Prod.fst]
theorem State.ringDests_vat_of (s : State) (l : Nat) (f : Frame) {sx : State} {qx : List Dest × Transit} (h : State.ringDests s l f = (sx, qx)) : sx.sw.vat = s.sw.vat := by
  have e := State.ringDests_vat s l f
  rw [h] at e
  exact e
@[simp] theorem State.setRx_vat (s : State) (l : Nat) (u : Option Nat) (f : Frame) :
    (State.setRx s l u f).sw.vat = s.sw.vat := by
  simp [State.setRx]
@[simp] theorem State.ueMet_vat (s : State) (w : Nat) : (State.ueMet s w).sw.vat = s.sw.vat := by
  unfold State.ueMet; grind [State.bump_vat, State.wr_vat, State.raise_vat]
@[simp] theorem State.ceMet_vat (s : State) (w : Nat) (n : Nat) : (State.ceMet s w n).sw.vat = s.sw.vat := by
  unfold State.ceMet; grind [State.bump_vat, State.raise_vat, State.wr_vat]
@[simp] theorem State.meetWords_vat (s : State) (ws : List Nat) : (State.meetWords s ws).sw.vat = s.sw.vat := by
  unfold State.meetWords
  refine foldl_vat _ (fun s w => ?_) _ _
  split
  · simp
  · split <;> simp
@[simp] theorem State.meetUnit_vat (s : State) (v : VUnit) : (State.meetUnit s v).sw.vat = s.sw.vat := by
  simp [State.meetUnit]
@[simp] theorem State.endSend_vat (s : State) (p u : Nat) (v : VUnit) (rind : Word) :
    (State.endSend s p u v rind).sw.vat = s.sw.vat := by
  unfold State.endSend
  dsimp only
  split <;> simp
@[simp] theorem State.endCuts_vat (s : State) (u : Nat) (v : VUnit) (rind : Word) :
    (State.endCuts s u v rind).sw.vat = s.sw.vat := by
  simp [State.endCuts]
@[simp] theorem State.purgeBad_vat (s : State) (u : Nat) : (State.purgeBad s u).sw.vat = s.sw.vat := by
  simp [State.purgeBad]
@[simp] theorem State.repeatOut_vat (s : State) (l : Nat) (f : Frame) (rind : Word) :
    (State.repeatOut s l f rind).sw.vat = s.sw.vat := by
  simp [State.repeatOut]
@[simp] theorem State.countEnd_vat (s : State) (l : Nat) (f : Frame) (t : Tail) (ou : Option Nat) :
    (State.countEnd s l f t ou).sw.vat = s.sw.vat := by
  simp [State.countEnd, apply_ite State.sw, apply_ite SwS.vat]
@[simp] theorem State.frameEnd_vat (s : State) (l : Nat) (t : Tail) : (State.frameEnd s l t).sw.vat = s.sw.vat := by
  unfold State.frameEnd; grind [State.bump_vat, State.repeatOut_vat, State.countEnd_vat, State.transitEnd_vat, State.setUnit_vat, State.endCuts_vat, → State.gc_vat_of, State.purgeBad_vat, State.pressArrive_vat, State.deliverLocal_vat]
@[simp] theorem State.repeatIn_vat (s : State) (l : Nat) (f : Frame) : (State.repeatIn s l f).sw.vat = s.sw.vat := by
  simp [State.repeatIn]
@[simp] theorem State.startTimeout_vat (s : State) (t : Nat) : (State.startTimeout s t).sw.vat = s.sw.vat := by
  unfold State.startTimeout; split <;> simp [apply_ite State.sw, apply_ite SwS.vat]
@[simp] theorem State.commandLeaves_vat (s : State) (f : Frame) : (State.commandLeaves s f).sw.vat = s.sw.vat := by
  simp [State.commandLeaves, apply_ite State.sw, apply_ite SwS.vat]
@[simp] theorem State.laneTransmit_vat (s : State) (p : Nat) : (State.laneTransmit s p).sw.vat = s.sw.vat := by
  unfold State.laneTransmit; (repeat' split) <;> simp_all [apply_ite State.sw, apply_ite SwS.vat]
@[simp] theorem State.takeLocal_vat (s : State) (p : Nat) : ((State.takeLocal s p).1).sw.vat = s.sw.vat := by
  unfold State.takeLocal; grind [→ State.unlink_vat_of, State.meetUnit_vat, State.bump_vat]
theorem State.takeLocal_vat_of (s : State) (p : Nat) {sx : State} {qx : Option (VUnit × Link)} (h : State.takeLocal s p = (sx, qx)) : sx.sw.vat = s.sw.vat := by
  have e := State.takeLocal_vat s p
  rw [h] at e
  exact e
@[simp] theorem State.captureStart_vat (s : State) : (State.captureStart s).sw.vat = s.sw.vat := by
  simp [State.captureStart]
@[simp] theorem State.fwdCopy_vat (s : State) : (State.fwdCopy s).sw.vat = s.sw.vat := by
  simp [State.fwdCopy]
@[simp] theorem State.fwdCommit_vat (s : State) : (State.fwdCommit s).sw.vat = s.sw.vat := by
  simp [State.fwdCommit]
@[simp] theorem State.gapRemove_vat (s : State) : (State.gapRemove s).sw.vat = s.sw.vat := by
  simp [State.gapRemove]

/-! ### LinkOps -/

@[simp] theorem State.setLst_vat (s : State) (l : Nat) (st : Nat) : (State.setLst s l st).sw.vat = s.sw.vat := by
  simp [State.setLst]
@[simp] theorem State.sendLink_vat (s : State) (l : Nat) (sub : BitVec 8) : (State.sendLink s l sub).sw.vat = s.sw.vat := by
  simp [State.sendLink]
@[simp] theorem State.enterTraining_vat (s : State) (l : Nat) (st : Nat) (limit : Nat) :
    (State.enterTraining s l st limit).sw.vat = s.sw.vat := by
  simp [State.enterTraining]
@[simp] theorem State.modRun_vat (s : State) (l : Nat) : (State.modRun s l).sw.vat = s.sw.vat := by
  unfold State.modRun
  dsimp only
  (repeat' split) <;> simp
@[simp] theorem State.setRate_vat (s : State) (l : Nat) : (State.setRate s l).sw.vat = s.sw.vat := by
  unfold State.setRate; grind [State.setLane_vat, State.sat_vat, State.put_vat]
@[simp] theorem State.fullRate_vat (s : State) (l : Nat) : (State.fullRate s l).sw.vat = s.sw.vat := by
  unfold State.fullRate; grind [State.setRate_vat, State.setLane_vat]
@[simp] theorem State.enterNoSignal_vat (s : State) (l : Nat) : (State.enterNoSignal s l).sw.vat = s.sw.vat := by
  simp [State.enterNoSignal]
@[simp] theorem State.laneStart_vat (s : State) (l : Nat) : (State.laneStart s l).sw.vat = s.sw.vat := by
  simp [State.laneStart, apply_ite State.sw, apply_ite SwS.vat]
@[simp] theorem State.signalDetect_vat (s : State) (l : Nat) : (State.signalDetect s l).sw.vat = s.sw.vat := by
  unfold State.signalDetect; split <;> simp [apply_ite State.sw, apply_ite SwS.vat]
@[simp] theorem State.cdrLock_vat (s : State) (l : Nat) : (State.cdrLock s l).sw.vat = s.sw.vat := by
  simp [State.cdrLock, apply_ite State.sw, apply_ite SwS.vat]
@[simp] theorem State.blockLock_vat (s : State) (l : Nat) : (State.blockLock s l).sw.vat = s.sw.vat := by
  unfold State.blockLock; grind [State.setLane_vat, State.arm_vat, State.enterTraining_vat]
@[simp] theorem State.recordNbr_vat (s : State) (l : Nat) (p : List Word) : (State.recordNbr s l p).sw.vat = s.sw.vat := by
  simp [State.recordNbr, apply_ite State.sw, apply_ite SwS.vat]
@[simp] theorem State.countCtrl_vat (s : State) (l : Nat) (p : List Word) (t : CtrlTail) :
    (State.countCtrl s l p t).sw.vat = s.sw.vat := by
  simp [State.countCtrl, apply_ite State.sw, apply_ite SwS.vat]
@[simp] theorem State.spurJoin_vat (s : State) : (State.spurJoin s).sw.vat = s.sw.vat := by
  simp [State.spurJoin, apply_ite State.sw, apply_ite SwS.vat]
@[simp] theorem State.laneVerified_vat (s : State) (l : Nat) : (State.laneVerified s l).sw.vat = s.sw.vat := by
  unfold State.laneVerified; grind [State.disarm_vat, State.setLane_vat, State.setLst_vat, State.spurJoin_vat, State.arm_vat]
@[simp] theorem State.passCtrl_vat (s : State) (l : Nat) (sub : BitVec 8) (p : List Word) (t : CtrlTail) :
    (State.passCtrl s l sub p t).sw.vat = s.sw.vat := by
  simp [State.passCtrl, apply_ite State.sw, apply_ite SwS.vat]
@[simp] theorem State.trainIdIn_vat (s : State) (l : Nat) (p : List Word) (t : CtrlTail) :
    (State.trainIdIn s l p t).sw.vat = s.sw.vat := by
  unfold State.trainIdIn; grind [State.passCtrl_vat, State.countCtrl_vat, State.setLane_vat, State.recordNbr_vat, State.setLive_vat, State.setLst_vat, State.disarmAll_vat, State.enterTraining_vat, State.disarm_vat]
@[simp] theorem State.verifyDone_vat (s : State) (l : Nat) : (State.verifyDone s l).sw.vat = s.sw.vat := by
  unfold State.verifyDone; grind [→ State.expire_vat_of, State.laneVerified_vat]
@[simp] theorem State.helloIn_vat (s : State) (l : Nat) (p : List Word) (t : CtrlTail) :
    (State.helloIn s l p t).sw.vat = s.sw.vat := by
  simp [State.helloIn, apply_ite State.sw, apply_ite SwS.vat]
@[simp] theorem State.trainingFailed_vat (s : State) (l : Nat) : (State.trainingFailed s l).sw.vat = s.sw.vat := by
  unfold State.trainingFailed; grind [→ State.expire_vat_of, State.enterNoSignal_vat, State.setLane_vat, State.setRate_vat, State.arm_vat]
@[simp] theorem State.dropLane_vat (s : State) (l : Nat) : (State.dropLane s l).sw.vat = s.sw.vat := by
  simp [State.dropLane]
@[simp] theorem State.cutLane_vat (s : State) (l : Nat) : (State.cutLane s l).sw.vat = s.sw.vat := by
  unfold State.cutLane
  extract_lets s1 s2
  have h2 : s2.sw.vat = s.sw.vat := by
    simp only [s2]
    (repeat' split) <;> simp [s1]
  clear_value s2
  split <;> simp [h2]
@[simp] theorem State.declareDown_vat (s : State) (l : Nat) : (State.declareDown s l).sw.vat = s.sw.vat := by
  unfold State.declareDown; grind [State.dropLane_vat, State.cutLane_vat, State.setLane_vat, State.bump_vat, State.twinDown_vat, State.enterNoSignal_vat, State.raise_vat, State.arm_vat, State.setLst_vat]
@[simp] theorem State.linkDown_vat (s : State) (l : Nat) (c : DownCause) : (State.linkDown s l c).sw.vat = s.sw.vat := by
  unfold State.linkDown; grind [State.declareDown_vat, State.setLane_vat, State.bump_vat, State.put_vat]
@[simp] theorem State.laneOff_vat (s : State) (l : Nat) : (State.laneOff s l).sw.vat = s.sw.vat := by
  unfold State.laneOff; grind [State.dropLane_vat, State.cutLane_vat, State.twinDown_vat, State.clearLive_vat, State.modRun_vat, State.setLst_vat, State.disarm_vat, State.disarmAll_vat]
@[simp] theorem State.laneDisable_vat (s : State) (l : Nat) : (State.laneDisable s l).sw.vat = s.sw.vat := by
  unfold State.laneDisable; grind [State.arm_vat, State.setLane_vat, State.laneOff_vat]
@[simp] theorem State.leavingSend_vat (s : State) (l : Nat) : (State.leavingSend s l).sw.vat = s.sw.vat := by
  unfold State.leavingSend; grind [→ State.expire_vat_of, State.setLane_vat, State.sendLink_vat, State.arm_vat, State.laneOff_vat]
@[simp] theorem State.sayLeaving_vat (s : State) (ls : List Nat) : (State.sayLeaving s ls).sw.vat = s.sw.vat := by
  simp [State.sayLeaving, apply_ite State.sw, apply_ite SwS.vat]
@[simp] theorem State.retrain_vat (s : State) (l : Nat) : (State.retrain s l).sw.vat = s.sw.vat := by
  unfold State.retrain; grind [State.declareDown_vat, State.fullRate_vat, State.clearLive_vat, State.enterNoSignal_vat]
@[simp] theorem State.trainIdSend_vat (s : State) (l : Nat) : (State.trainIdSend s l).sw.vat = s.sw.vat := by
  unfold State.trainIdSend; grind [→ State.expire_vat_of, State.arm_vat, State.sendLink_vat]
@[simp] theorem State.helloSend_vat (s : State) (l : Nat) : (State.helloSend s l).sw.vat = s.sw.vat := by
  unfold State.helloSend; grind [→ State.expire_vat_of, State.arm_vat, State.sendLink_vat]
@[simp] theorem State.leavingIn_vat (s : State) (l : Nat) (p : List Word) (t : CtrlTail) :
    (State.leavingIn s l p t).sw.vat = s.sw.vat := by
  simp [State.leavingIn, apply_ite State.sw, apply_ite SwS.vat]
@[simp] theorem State.nbrStale_vat (s : State) (l : Nat) : (State.nbrStale s l).sw.vat = s.sw.vat := by
  unfold State.nbrStale; grind [→ State.expire_vat_of, State.put_vat]
@[simp] theorem State.fallbackEnd_vat (s : State) (l : Nat) : (State.fallbackEnd s l).sw.vat = s.sw.vat := by
  unfold State.fallbackEnd; grind [→ State.expire_vat_of, State.fullRate_vat]
@[simp] theorem State.holdEnd_vat (s : State) (l : Nat) : (State.holdEnd s l).sw.vat = s.sw.vat := by
  simp [State.holdEnd, apply_ite State.sw, apply_ite SwS.vat]
@[simp] theorem State.heldDownEnd_vat (s : State) (l : Nat) : (State.heldDownEnd s l).sw.vat = s.sw.vat := by
  unfold State.heldDownEnd; grind [→ State.expire_vat_of, State.holdEnd_vat]
@[simp] theorem State.cablingLost_vat (s : State) (l : Nat) : (State.cablingLost s l).sw.vat = s.sw.vat := by
  unfold State.cablingLost; grind [State.clearLive_vat, State.enterNoSignal_vat, State.fullRate_vat]
@[simp] theorem State.moduleAbs_vat (s : State) (l : Nat) (absent : Bool) :
    (State.moduleAbs s l absent).sw.vat = s.sw.vat := by
  unfold State.moduleAbs; grind [State.setLane_vat, State.modRun_vat, State.put_vat, State.declareDown_vat, State.clearLive_vat, State.enterNoSignal_vat]
@[simp] theorem State.moduleId_vat (s : State) (l : Nat) (r : ModuleId) : (State.moduleId s l r).sw.vat = s.sw.vat := by
  unfold State.moduleId; grind [→ State.expire_vat_of, State.setLane_vat, State.modRun_vat, State.put_vat]
@[simp] theorem State.modulePoll_vat (s : State) (l : Nat) (d : Option ModuleDiag) :
    (State.modulePoll s l d).sw.vat = s.sw.vat := by
  unfold State.modulePoll; grind [→ State.expire_vat_of, State.arm_vat, State.put_vat, State.wr_vat, State.setLive_vat, State.clearLive_vat]
@[simp] theorem State.setHold_vat (s : State) (h : Bool) : (State.setHold s h).sw.vat = s.sw.vat := by
  simp [State.setHold, apply_ite State.sw, apply_ite SwS.vat]
@[simp] theorem State.repeatJoin_vat (s : State) : (State.repeatJoin s).sw.vat = s.sw.vat := by
  simp [State.repeatJoin, apply_ite State.sw, apply_ite SwS.vat]
@[simp] theorem State.repeatLeave_vat (s : State) (spur : Bool) : (State.repeatLeave s spur).sw.vat = s.sw.vat := by
  unfold State.repeatLeave; (repeat' split) <;> simp_all [apply_ite State.sw, apply_ite SwS.vat]

/-! ### TimeOps -/

@[simp] theorem State.wordsInvalid_vat (s : State) : (State.wordsInvalid s).sw.vat = s.sw.vat := by
  simp [State.wordsInvalid]
@[simp] theorem State.setTst_vat (s : State) (n : Nat) : (State.setTst s n).sw.vat = s.sw.vat := by
  simp [State.setTst, apply_ite State.sw, apply_ite SwS.vat]
@[simp] theorem State.markStepped_vat (s : State) (old : Nat) (new : Nat) :
    (State.markStepped s old new).sw.vat = s.sw.vat := by
  simp [State.markStepped]
@[simp] theorem State.setRing_vat (s : State) (new : Nat) : (State.setRing s new).sw.vat = s.sw.vat := by
  simp [State.setRing]
@[simp] theorem State.applyStep_vat (s : State) : (State.applyStep s).sw.vat = s.sw.vat := by
  simp [State.applyStep]
@[simp] theorem State.pendStep_vat (s : State) (seq : Nat) (v : Word) (at_ : Word) (t : Nat) :
    (State.pendStep s seq v at_ t).sw.vat = s.sw.vat := by
  simp [State.pendStep]
@[simp] theorem State.learnStep_vat (s : State) (seq : Nat) (v : Word) (at_ : Word) :
    (State.learnStep s seq v at_).sw.vat = s.sw.vat := by
  simp [State.learnStep, apply_ite State.sw, apply_ite SwS.vat]
@[simp] theorem State.recordStep_vat (s : State) (seq : Nat) (v : Word) (at_ : Word) (done : Bool) :
    (State.recordStep s seq v at_ done).sw.vat = s.sw.vat := by
  simp [State.recordStep, apply_ite State.sw, apply_ite SwS.vat]
@[simp] theorem State.stepApply_vat (s : State) : (State.stepApply s).sw.vat = s.sw.vat := by
  unfold State.stepApply; split <;> simp [apply_ite State.sw, apply_ite SwS.vat]
@[simp] theorem State.timeRate_vat (s : State) (v : Word) : ((State.timeRate s v).2).sw.vat = s.sw.vat := by
  unfold State.timeRate; (repeat' split) <;> simp_all [apply_ite State.sw, apply_ite SwS.vat]
theorem State.timeRate_vat_of (s : State) (v : Word) {sx : Status} {qx : State} (h : State.timeRate s v = (sx, qx)) : qx.sw.vat = s.sw.vat := by
  have e := State.timeRate_vat s v
  rw [h] at e
  exact e
@[simp] theorem State.timeStep_vat (s : State) (v : Word) : ((State.timeStep s v).2).sw.vat = s.sw.vat := by
  unfold State.timeStep; (repeat' split) <;> simp_all [apply_ite State.sw, apply_ite SwS.vat]
theorem State.timeStep_vat_of (s : State) (v : Word) {sx : Status} {qx : State} (h : State.timeStep s v = (sx, qx)) : qx.sw.vat = s.sw.vat := by
  have e := State.timeStep_vat s v
  rw [h] at e
  exact e
@[simp] theorem State.stepRearm_vat (s : State) : (State.stepRearm s).sw.vat = s.sw.vat := by
  simp [State.stepRearm]
@[simp] theorem State.setTlane_vat (s : State) (l : Nat) (x : TLane) : (State.setTlane s l x).sw.vat = s.sw.vat := by
  simp [State.setTlane]
@[simp] theorem State.timeSend_vat (s : State) (l : Nat) : (State.timeSend s l).sw.vat = s.sw.vat := by
  unfold State.timeSend; grind [→ State.expire_vat_of, State.arm_vat, State.transmit_vat]
@[simp] theorem State.becomeMaster_vat (s : State) : (State.becomeMaster s).sw.vat = s.sw.vat := by
  simp [State.becomeMaster]
@[simp] theorem State.startListen_vat (s : State) : (State.startListen s).sw.vat = s.sw.vat := by
  simp [State.startListen, apply_ite State.sw, apply_ite SwS.vat]
@[simp] theorem State.listenEnd_vat (s : State) : (State.listenEnd s).sw.vat = s.sw.vat := by
  unfold State.listenEnd; grind [→ State.expire_vat_of, State.becomeMaster_vat]
@[simp] theorem State.setUpstream_vat (s : State) (l : Nat) : (State.setUpstream s l).sw.vat = s.sw.vat := by
  unfold State.setUpstream; split <;> simp [apply_ite State.sw, apply_ite SwS.vat]
@[simp] theorem State.trackUpstream_vat (s : State) (l : Nat) (f : Frame) :
    (State.trackUpstream s l f).sw.vat = s.sw.vat := by
  unfold State.trackUpstream; grind [State.wr_vat, State.recordStep_vat, State.setRing_vat, State.raise_vat, State.learnStep_vat, → State.freeIn_vat_of, State.setTst_vat]
@[simp] theorem State.selectMaster_vat (s : State) (l : Nat) (f : Frame) : (State.selectMaster s l f).sw.vat = s.sw.vat := by
  unfold State.selectMaster; split <;> simp [apply_ite State.sw, apply_ite SwS.vat]
@[simp] theorem State.linkLocalIn_vat (s : State) (l : Nat) (f : Frame) (t : Tail) :
    ((State.linkLocalIn s l f t).1).sw.vat = s.sw.vat := by
  simp [State.linkLocalIn, apply_ite State.sw, apply_ite SwS.vat]
theorem State.linkLocalIn_vat_of (s : State) (l : Nat) (f : Frame) (t : Tail) {sx : State} {qx : Bool} (h : State.linkLocalIn s l f t = (sx, qx)) : sx.sw.vat = s.sw.vat := by
  have e := State.linkLocalIn_vat s l f t
  rw [h] at e
  exact e
@[simp] theorem State.passOn_vat (s : State) (l : Nat) (f : Frame) (t : Tail) : (State.passOn s l f t).sw.vat = s.sw.vat := by
  simp [State.passOn]
@[simp] theorem State.timeHeard_vat (s : State) (l : Nat) (f : Frame) : (State.timeHeard s l f).sw.vat = s.sw.vat := by
  simp [State.timeHeard]
@[simp] theorem State.timeReceive_vat (s : State) (l : Nat) (t : TimeRx) : (State.timeReceive s l t).sw.vat = s.sw.vat := by
  simp [State.timeReceive, apply_ite State.sw, apply_ite SwS.vat]
@[simp] theorem State.upstreamLoss_vat (s : State) : (State.upstreamLoss s).sw.vat = s.sw.vat := by
  unfold State.upstreamLoss; grind [State.setTlane_vat, State.advance_vat, State.arm_vat, State.setUpstream_vat, State.disarm_vat, State.put_vat, State.raise_vat, State.bump_vat, State.setTst_vat, State.startListen_vat]
@[simp] theorem State.copyResync_vat (s : State) : (State.copyResync s).sw.vat = s.sw.vat := by
  simp [State.copyResync, apply_ite State.sw, apply_ite SwS.vat]
@[simp] theorem State.enterEntry_vat (s : State) (n : Nat) (e : Entry) : (State.enterEntry s n e).sw.vat = s.sw.vat := by
  simp [State.enterEntry, apply_ite State.sw, apply_ite SwS.vat]
@[simp] theorem State.dropEntry_vat (s : State) (n : Nat) : (State.dropEntry s n).sw.vat = s.sw.vat := by
  simp [State.dropEntry]
@[simp] theorem State.skipDown_vat (s : State) (n : Nat) : (State.skipDown s n).sw.vat = s.sw.vat := by
  unfold State.skipDown; split <;> simp [apply_ite State.sw, apply_ite SwS.vat]
@[simp] theorem State.handoff_vat (s : State) (n : Nat) : (State.handoff s n).sw.vat = s.sw.vat := by
  unfold State.handoff; split <;> simp [apply_ite State.sw, apply_ite SwS.vat]
@[simp] theorem State.fireEvent_vat (s : State) (n : Nat) (e : Entry) (outcome : Status) (cancelled : Bool) (results : List Word) :
    (State.fireEvent s n e outcome cancelled results).sw.vat = s.sw.vat := by
  simp [State.fireEvent]
theorem State.takeEntry_vat (s : State) (n : Nat) (kind : Nat) (action : Nat) :
    ∀ tx, State.takeEntry s n kind action = some tx → tx.1.sw.vat = s.sw.vat := by
  unfold State.takeEntry; grind [State.skipDown_vat, State.advanceRing_vat, State.bump_vat, State.dropEntry_vat]
theorem State.takeEntry_vat_of (s : State) (n : Nat) (kind : Nat) (action : Nat) {tx : (State × Entry)} (h : State.takeEntry s n kind action = some tx) : tx.1.sw.vat = s.sw.vat :=
  State.takeEntry_vat s n kind action tx h
@[simp] theorem State.fired_vat (s : State) (n : Nat) (e : Entry) (outcome : Status) (results : List Word) :
    (State.fired s n e outcome results).sw.vat = s.sw.vat := by
  simp [State.fired, apply_ite State.sw, apply_ite SwS.vat]
@[simp] theorem State.cancelEntry_vat (s : State) (force : Bool) (n : Nat) :
    (State.cancelEntry s force n).sw.vat = s.sw.vat := by
  unfold State.cancelEntry; split <;> simp [apply_ite State.sw, apply_ite SwS.vat]
@[simp] theorem State.cancelForSafe_vat (s : State) : (State.cancelForSafe s).sw.vat = s.sw.vat := by
  simp [State.cancelForSafe]
@[simp] theorem State.markSeen_vat (s : State) (id : Nat) (t : Word) : (State.markSeen s id t).sw.vat = s.sw.vat := by
  simp [State.markSeen]
@[simp] theorem State.floodSnap_vat (s : State) (id : Nat) (t : Word) (node : BitVec 24) (but : Option Nat) :
    (State.floodSnap s id t node but).sw.vat = s.sw.vat := by
  simp [State.floodSnap, apply_ite State.sw, apply_ite SwS.vat]
@[simp] theorem State.snapReceive_vat (s : State) (l : Nat) (f : Frame) (t : Tail) :
    (State.snapReceive s l f t).sw.vat = s.sw.vat := by
  unfold State.snapReceive; grind [State.passOn_vat, → State.linkLocalIn_vat_of, State.markSeen_vat, State.bump_vat, State.floodSnap_vat, State.enterEntry_vat]
@[simp] theorem State.keepCounters_vat (s : State) (i : Nat) : (State.keepCounters s i).sw.vat = s.sw.vat := by
  simp [State.keepCounters]
@[simp] theorem State.snapFire_vat (s : State) (n : Nat) : (State.snapFire s n).sw.vat = s.sw.vat := by
  unfold State.snapFire; grind [→ State.takeEntry_vat_of, State.put_vat, State.wr_vat]
@[simp] theorem State.timCleared_vat (s : State) : (State.timCleared s).sw.vat = s.sw.vat := by
  simp [State.timCleared]

/-! ### ClusterOps -/

@[simp] theorem State.setClu_vat (s : State) (k : Nat) (x : CluS) : (State.setClu s k x).sw.vat = s.sw.vat := by
  simp [State.setClu]
@[simp] theorem State.setEng_vat (s : State) (n : Nat) (x : EngS) : (State.setEng s n x).sw.vat = s.sw.vat := by
  simp [State.setEng]
@[simp] theorem State.eput_vat (s : State) (f : Fld) (v : Nat) (n : Nat) : (State.eput s f v n).sw.vat = s.sw.vat := by
  simp [State.eput]
@[simp] theorem State.settleAt_vat (s : State) (k : Nat) (t : Nat) : (State.settleAt s k t).sw.vat = s.sw.vat := by
  simp [State.settleAt, apply_ite State.sw, apply_ite SwS.vat]
@[simp] theorem State.settleNet_vat (s : State) (k : Nat) : (State.settleNet s k).sw.vat = s.sw.vat := by
  simp [State.settleNet, apply_ite State.sw, apply_ite SwS.vat]
@[simp] theorem State.flowPins_vat (s : State) (k : Nat) : (State.flowPins s k).sw.vat = s.sw.vat := by
  simp [State.flowPins, apply_ite State.sw, apply_ite SwS.vat]
@[simp] theorem State.flowAll_vat (s : State) : (State.flowAll s).sw.vat = s.sw.vat := by
  simp [State.flowAll]
@[simp] theorem State.setLatch_vat (s : State) (k : Nat) (latch : Word) (dirs : Word) :
    (State.setLatch s k latch dirs).sw.vat = s.sw.vat := by
  simp [State.setLatch]
@[simp] theorem State.acceptLevel_vat (s : State) (k : Nat) (p : Nat) : (State.acceptLevel s k p).sw.vat = s.sw.vat := by
  simp [State.acceptLevel, apply_ite State.sw, apply_ite SwS.vat]
@[simp] theorem State.pinCfgWritten_vat (s : State) (k : Nat) (p : Nat) (old : Word) :
    (State.pinCfgWritten s k p old).sw.vat = s.sw.vat := by
  simp [State.pinCfgWritten, apply_ite State.sw, apply_ite SwS.vat]
@[simp] theorem State.pinChange_vat (s : State) (k : Nat) (p : Nat) (level : Bool) :
    (State.pinChange s k p level).sw.vat = s.sw.vat := by
  simp [State.pinChange, apply_ite State.sw, apply_ite SwS.vat]
@[simp] theorem State.debouncePin_vat (s : State) (k : Nat) (p : Nat) : (State.debouncePin s k p).sw.vat = s.sw.vat := by
  simp [State.debouncePin, apply_ite State.sw, apply_ite SwS.vat]
@[simp] theorem State.debounce_vat (s : State) (k : Nat) : (State.debounce s k).sw.vat = s.sw.vat := by
  simp [State.debounce, apply_ite State.sw, apply_ite SwS.vat]
@[simp] theorem State.cosEvent_vat (s : State) (k : Nat) : (State.cosEvent s k).sw.vat = s.sw.vat := by
  simp only [State.cosEvent, State.expire]; (repeat' split) <;> simp_all [apply_ite State.sw, apply_ite SwS.vat]
@[simp] theorem State.setDout_vat (s : State) (k : Nat) (w : Word) : (State.setDout s k w).sw.vat = s.sw.vat := by
  simp [State.setDout, apply_ite State.sw, apply_ite SwS.vat]
@[simp] theorem State.bankCompare_vat (s : State) (k : Nat) : (State.bankCompare s k).sw.vat = s.sw.vat := by
  unfold State.bankCompare; grind [State.settleNet_vat, State.clearLive_vat, State.put_vat, State.setLive_vat]
@[simp] theorem State.bankSupply_vat (s : State) (k : Nat) (ok : Bool) : (State.bankSupply s k ok).sw.vat = s.sw.vat := by
  simp [State.bankSupply, apply_ite State.sw, apply_ite SwS.vat]
@[simp] theorem State.cluCfgWritten_vat (s : State) (k : Nat) (old : Word) :
    (State.cluCfgWritten s k old).sw.vat = s.sw.vat := by
  simp [State.cluCfgWritten]
@[simp] theorem State.fillTxq_vat (s : State) (n : Nat) : (State.fillTxq s n).sw.vat = s.sw.vat := by
  simp [State.fillTxq]
@[simp] theorem State.drawFeed_vat (s : State) (n : Nat) : (State.drawFeed s n).sw.vat = s.sw.vat := by
  unfold State.drawFeed; grind [→ State.unlink_vat_of, State.setEng_vat]
@[simp] theorem State.txqFeed_vat (s : State) (n : Nat) : (State.txqFeed s n).sw.vat = s.sw.vat := by
  simp only [State.txqFeed, State.expire]; (repeat' split) <;> simp_all [apply_ite State.sw, apply_ite SwS.vat]
@[simp] theorem State.sendAhead_vat (s : State) (n : Nat) (item : List QWord) :
    (State.sendAhead s n item).sw.vat = s.sw.vat := by
  unfold State.sendAhead; grind [State.fillTxq_vat, State.setEng_vat, → State.unlink_vat_of]
@[simp] theorem State.closeFrame_vat (s : State) (n : Nat) : (State.closeFrame s n).sw.vat = s.sw.vat := by
  unfold State.closeFrame; grind [State.disarm_vat, State.setEng_vat, State.eput_vat, State.bump_vat, State.emitOut_vat]
@[simp] theorem State.notePoison_vat (s : State) (n : Nat) (w : QWord) : (State.notePoison s n w).sw.vat = s.sw.vat := by
  unfold State.notePoison; grind [State.raise_vat, State.bump_vat]
@[simp] theorem State.packerWord_vat (s : State) (n : Nat) : (State.packerWord s n).sw.vat = s.sw.vat := by
  unfold State.packerWord; grind [State.setClu_vat, State.notePoison_vat, State.setEng_vat, State.eput_vat, State.bump_vat, State.arm_vat, State.closeFrame_vat]
@[simp] theorem State.rxPackEnd_vat (s : State) (n : Nat) : (State.rxPackEnd s n).sw.vat = s.sw.vat := by
  unfold State.rxPackEnd; grind [→ State.expire_vat_of, State.closeFrame_vat]
@[simp] theorem State.stopEngine_vat (s : State) (n : Nat) (cause : Nat) :
    (State.stopEngine s n cause).sw.vat = s.sw.vat := by
  simp [State.stopEngine, apply_ite State.sw, apply_ite SwS.vat]
@[simp] theorem State.startEngine_vat (s : State) (n : Nat) (pc : Nat) (after : Nat) :
    (State.startEngine s n pc after).sw.vat = s.sw.vat := by
  simp [State.startEngine, apply_ite State.sw, apply_ite SwS.vat]
@[simp] theorem State.clearEngine_vat (s : State) (n : Nat) : (State.clearEngine s n).sw.vat = s.sw.vat := by
  simp [State.clearEngine]
@[simp] theorem State.clkRestart_vat (s : State) (k : Nat) : (State.clkRestart s k).sw.vat = s.sw.vat := by
  simp [State.clkRestart]
@[simp] theorem State.startMask_vat (s : State) (k : Nat) (m : Nat) : (State.startMask s k m).sw.vat = s.sw.vat := by
  simp [State.startMask]
@[simp] theorem State.stopMask_vat (s : State) (k : Nat) (m : Nat) : (State.stopMask s k m).sw.vat = s.sw.vat := by
  simp [State.stopMask]
@[simp] theorem State.injectWrite_vat (s : State) (n : Nat) (w : Word) : (State.injectWrite s n w).sw.vat = s.sw.vat := by
  simp [State.injectWrite]
@[simp] theorem State.cluSafe_vat (s : State) (k : Nat) : (State.cluSafe s k).sw.vat = s.sw.vat := by
  simp [State.cluSafe]
@[simp] theorem State.cluCommission_vat (s : State) : (State.cluCommission s).sw.vat = s.sw.vat := by
  simp [State.cluCommission]
@[simp] theorem State.cluRun_vat (s : State) : (State.cluRun s).sw.vat = s.sw.vat := by
  simp [State.cluRun, apply_ite State.sw, apply_ite SwS.vat]
@[simp] theorem State.settleAll_vat (s : State) : (State.settleAll s).sw.vat = s.sw.vat := by
  simp [State.settleAll]
@[simp] theorem State.cluCleared_vat (s : State) (k : Nat) : (State.cluCleared s k).sw.vat = s.sw.vat := by
  simp [State.cluCleared]
@[simp] theorem State.cluReleased_vat (s : State) (k : Nat) : (State.cluReleased s k).sw.vat = s.sw.vat := by
  simp [State.cluReleased]

/-! ### FacetOps -/

@[simp] theorem State.setOsr_vat (s : State) (n : Nat) (w : Word) (cnt : Nat) :
    (State.setOsr s n w cnt).sw.vat = s.sw.vat := by
  simp [State.setOsr]
@[simp] theorem State.setIsr_vat (s : State) (n : Nat) (w : Word) (cnt : Nat) :
    (State.setIsr s n w cnt).sw.vat = s.sw.vat := by
  simp [State.setIsr]
@[simp] theorem State.setX_vat (s : State) (n : Nat) (v : Nat) : (State.setX s n v).sw.vat = s.sw.vat := by
  simp [State.setX]
@[simp] theorem State.setY_vat (s : State) (n : Nat) (v : Nat) : (State.setY s n v).sw.vat = s.sw.vat := by
  simp [State.setY]
@[simp] theorem State.setPattern_vat (s : State) (n : Nat) (w : Word) : (State.setPattern s n w).sw.vat = s.sw.vat := by
  simp [State.setPattern]
@[simp] theorem State.setCrc_vat (s : State) (n : Nat) (w : Word) : (State.setCrc s n w).sw.vat = s.sw.vat := by
  simp [State.setCrc]
@[simp] theorem State.driveLatch_vat (s : State) (n : Nat) (v : Word) : (State.driveLatch s n v).sw.vat = s.sw.vat := by
  simp [State.driveLatch]
@[simp] theorem State.setDirs_vat (s : State) (n : Nat) (v : Word) : (State.setDirs s n v).sw.vat = s.sw.vat := by
  simp [State.setDirs]
@[simp] theorem State.sideSet_vat (s : State) (n : Nat) (w : Word) : (State.sideSet s n w).sw.vat = s.sw.vat := by
  simp [State.sideSet, apply_ite State.sw, apply_ite SwS.vat]
@[simp] theorem State.dstReg_vat (s : State) (n : Nat) (c : Nat) (v : Word) : (State.dstReg s n c v).sw.vat = s.sw.vat := by
  unfold State.dstReg; split <;> simp [apply_ite State.sw, apply_ite SwS.vat]
@[simp] theorem State.crcFeed_vat (s : State) (n : Nat) (v : Word) (m : Nat) : (State.crcFeed s n v m).sw.vat = s.sw.vat := by
  simp [State.crcFeed]
@[simp] theorem State.giveWord_vat (s : State) (n : Nat) (w : Word) (last : Bool) (bad : Bool) :
    (State.giveWord s n w last bad).sw.vat = s.sw.vat := by
  simp [State.giveWord, apply_ite State.sw, apply_ite SwS.vat]
@[simp] theorem State.opShiftin_vat (s : State) (n : Nat) (w : Word) : ((State.opShiftin s n w).1).sw.vat = s.sw.vat := by
  unfold State.opShiftin; split <;> simp [apply_ite State.sw, apply_ite SwS.vat]
theorem State.opShiftin_vat_of (s : State) (n : Nat) (w : Word) {sx : State} {qx : Flow} (h : State.opShiftin s n w = (sx, qx)) : sx.sw.vat = s.sw.vat := by
  have e := State.opShiftin_vat s n w
  rw [h] at e
  exact e
@[simp] theorem State.opShiftout_vat (s : State) (n : Nat) (w : Word) : ((State.opShiftout s n w).1).sw.vat = s.sw.vat := by
  unfold State.opShiftout; (repeat' split) <;> simp_all [apply_ite State.sw, apply_ite SwS.vat]
theorem State.opShiftout_vat_of (s : State) (n : Nat) (w : Word) {sx : State} {qx : Flow} (h : State.opShiftout s n w = (sx, qx)) : sx.sw.vat = s.sw.vat := by
  have e := State.opShiftout_vat s n w
  rw [h] at e
  exact e
@[simp] theorem State.opTake_vat (s : State) (n : Nat) (w : Word) : ((State.opTake s n w).1).sw.vat = s.sw.vat := by
  unfold State.opTake; grind [State.setEng_vat, State.notePoison_vat, State.setOsr_vat, State.setX_vat, State.setY_vat, State.setPattern_vat]
theorem State.opTake_vat_of (s : State) (n : Nat) (w : Word) {sx : State} {qx : Flow} (h : State.opTake s n w = (sx, qx)) : sx.sw.vat = s.sw.vat := by
  have e := State.opTake_vat s n w
  rw [h] at e
  exact e
@[simp] theorem State.opGive_vat (s : State) (n : Nat) (w : Word) : ((State.opGive s n w).1).sw.vat = s.sw.vat := by
  simp [State.opGive, apply_ite State.sw, apply_ite SwS.vat]
theorem State.opGive_vat_of (s : State) (n : Nat) (w : Word) {sx : State} {qx : Flow} (h : State.opGive s n w = (sx, qx)) : sx.sw.vat = s.sw.vat := by
  have e := State.opGive_vat s n w
  rw [h] at e
  exact e
@[simp] theorem State.opHold_vat (s : State) (n : Nat) (w : Word) : ((State.opHold s n w).1).sw.vat = s.sw.vat := by
  unfold State.opHold; split <;> simp [apply_ite State.sw, apply_ite SwS.vat]
theorem State.opHold_vat_of (s : State) (n : Nat) (w : Word) {sx : State} {qx : Flow} (h : State.opHold s n w = (sx, qx)) : sx.sw.vat = s.sw.vat := by
  have e := State.opHold_vat s n w
  rw [h] at e
  exact e
@[simp] theorem State.opBranch_vat (s : State) (n : Nat) (w : Word) : ((State.opBranch s n w).1).sw.vat = s.sw.vat := by
  simp [State.opBranch]
theorem State.opBranch_vat_of (s : State) (n : Nat) (w : Word) {sx : State} {qx : Flow} (h : State.opBranch s n w = (sx, qx)) : sx.sw.vat = s.sw.vat := by
  have e := State.opBranch_vat s n w
  rw [h] at e
  exact e
@[simp] theorem State.opLoop_vat (s : State) (n : Nat) (w : Word) : ((State.opLoop s n w).1).sw.vat = s.sw.vat := by
  unfold State.opLoop; (repeat' split) <;> simp_all [apply_ite State.sw, apply_ite SwS.vat]
theorem State.opLoop_vat_of (s : State) (n : Nat) (w : Word) {sx : State} {qx : Flow} (h : State.opLoop s n w = (sx, qx)) : sx.sw.vat = s.sw.vat := by
  have e := State.opLoop_vat s n w
  rw [h] at e
  exact e
@[simp] theorem State.opLoad_vat (s : State) (n : Nat) (w : Word) : ((State.opLoad s n w).1).sw.vat = s.sw.vat := by
  unfold State.opLoad; split <;> simp [apply_ite State.sw, apply_ite SwS.vat]
theorem State.opLoad_vat_of (s : State) (n : Nat) (w : Word) {sx : State} {qx : Flow} (h : State.opLoad s n w = (sx, qx)) : sx.sw.vat = s.sw.vat := by
  have e := State.opLoad_vat s n w
  rw [h] at e
  exact e
@[simp] theorem State.opMove_vat (s : State) (n : Nat) (w : Word) : ((State.opMove s n w).1).sw.vat = s.sw.vat := by
  unfold State.opMove; (repeat' split) <;> simp_all [apply_ite State.sw, apply_ite SwS.vat]
theorem State.opMove_vat_of (s : State) (n : Nat) (w : Word) {sx : State} {qx : Flow} (h : State.opMove s n w = (sx, qx)) : sx.sw.vat = s.sw.vat := by
  have e := State.opMove_vat s n w
  rw [h] at e
  exact e
@[simp] theorem State.opDrive_vat (s : State) (n : Nat) (w : Word) : ((State.opDrive s n w).1).sw.vat = s.sw.vat := by
  simp [State.opDrive]
theorem State.opDrive_vat_of (s : State) (n : Nat) (w : Word) {sx : State} {qx : Flow} (h : State.opDrive s n w = (sx, qx)) : sx.sw.vat = s.sw.vat := by
  have e := State.opDrive_vat s n w
  rw [h] at e
  exact e
@[simp] theorem State.opDir_vat (s : State) (n : Nat) (w : Word) : ((State.opDir s n w).1).sw.vat = s.sw.vat := by
  simp [State.opDir]
theorem State.opDir_vat_of (s : State) (n : Nat) (w : Word) {sx : State} {qx : Flow} (h : State.opDir s n w = (sx, qx)) : sx.sw.vat = s.sw.vat := by
  have e := State.opDir_vat s n w
  rw [h] at e
  exact e
@[simp] theorem State.opSignal_vat (s : State) (n : Nat) (w : Word) : ((State.opSignal s n w).1).sw.vat = s.sw.vat := by
  simp [State.opSignal]
theorem State.opSignal_vat_of (s : State) (n : Nat) (w : Word) {sx : State} {qx : Flow} (h : State.opSignal s n w = (sx, qx)) : sx.sw.vat = s.sw.vat := by
  have e := State.opSignal_vat s n w
  rw [h] at e
  exact e
@[simp] theorem State.flowSignals_vat (s : State) (k : Nat) : (State.flowSignals s k).sw.vat = s.sw.vat := by
  simp [State.flowSignals, apply_ite State.sw, apply_ite SwS.vat]
@[simp] theorem State.opCrc_vat (s : State) (n : Nat) (w : Word) : ((State.opCrc s n w).1).sw.vat = s.sw.vat := by
  unfold State.opCrc; split <;> simp [apply_ite State.sw, apply_ite SwS.vat]
theorem State.opCrc_vat_of (s : State) (n : Nat) (w : Word) {sx : State} {qx : Flow} (h : State.opCrc s n w = (sx, qx)) : sx.sw.vat = s.sw.vat := by
  have e := State.opCrc_vat s n w
  rw [h] at e
  exact e
@[simp] theorem State.opMatch_vat (s : State) (n : Nat) (w : Word) : ((State.opMatch s n w).1).sw.vat = s.sw.vat := by
  unfold State.opMatch; split <;> simp [apply_ite State.sw, apply_ite SwS.vat]
theorem State.opMatch_vat_of (s : State) (n : Nat) (w : Word) {sx : State} {qx : Flow} (h : State.opMatch s n w = (sx, qx)) : sx.sw.vat = s.sw.vat := by
  have e := State.opMatch_vat s n w
  rw [h] at e
  exact e
@[simp] theorem State.opStamp_vat (s : State) (n : Nat) (w : Word) : ((State.opStamp s n w).1).sw.vat = s.sw.vat := by
  unfold State.opStamp; split <;> simp [apply_ite State.sw, apply_ite SwS.vat]
theorem State.opStamp_vat_of (s : State) (n : Nat) (w : Word) {sx : State} {qx : Flow} (h : State.opStamp s n w = (sx, qx)) : sx.sw.vat = s.sw.vat := by
  have e := State.opStamp_vat s n w
  rw [h] at e
  exact e
@[simp] theorem State.opHalt_vat (s : State) (_n : Nat) (_w : Word) : ((State.opHalt s _n _w).1).sw.vat = s.sw.vat := by
  simp [State.opHalt]
theorem State.opHalt_vat_of (s : State) (_n : Nat) (_w : Word) {sx : State} {qx : Flow} (h : State.opHalt s _n _w = (sx, qx)) : sx.sw.vat = s.sw.vat := by
  have e := State.opHalt_vat s _n _w
  rw [h] at e
  exact e
@[simp] theorem State.opNop_vat (s : State) (_n : Nat) (_w : Word) : ((State.opNop s _n _w).1).sw.vat = s.sw.vat := by
  simp [State.opNop]
theorem State.opNop_vat_of (s : State) (_n : Nat) (_w : Word) {sx : State} {qx : Flow} (h : State.opNop s _n _w = (sx, qx)) : sx.sw.vat = s.sw.vat := by
  have e := State.opNop_vat s _n _w
  rw [h] at e
  exact e
@[simp] theorem State.toEdge_vat (s : State) (n : Nat) : (State.toEdge s n).sw.vat = s.sw.vat := by
  simp [State.toEdge]
@[simp] theorem State.divideTo_vat (s : State) (n : Nat) (t : Nat) : (State.divideTo s n t).sw.vat = s.sw.vat := by
  simp [State.divideTo, apply_ite State.sw, apply_ite SwS.vat]
@[simp] theorem State.flow_vat (s : State) (n : Nat) (f : Flow) : (State.flow s n f).sw.vat = s.sw.vat := by
  unfold State.flow; split <;> simp [apply_ite State.sw, apply_ite SwS.vat]
@[simp] theorem State.operate_vat (s : State) (n : Nat) (w : Word) : ((State.operate s n w).1).sw.vat = s.sw.vat := by
  unfold State.operate; (repeat' split) <;> simp_all [apply_ite State.sw, apply_ite SwS.vat]
theorem State.operate_vat_of (s : State) (n : Nat) (w : Word) {sx : State} {qx : Flow} (h : State.operate s n w = (sx, qx)) : sx.sw.vat = s.sw.vat := by
  have e := State.operate_vat s n w
  rw [h] at e
  exact e
@[simp] theorem State.flushTx_vat (s : State) (n : Nat) : (State.flushTx s n).sw.vat = s.sw.vat := by
  unfold State.flushTx; grind [State.setEng_vat, State.wr_vat, State.flow_vat, State.eput_vat]
@[simp] theorem State.flushRx_vat (s : State) (n : Nat) : (State.flushRx s n).sw.vat = s.sw.vat := by
  simp [State.flushRx, apply_ite State.sw, apply_ite SwS.vat]
@[simp] theorem State.injectEdge_vat (s : State) (n : Nat) : (State.injectEdge s n).sw.vat = s.sw.vat := by
  unfold State.injectEdge; grind [State.toEdge_vat, State.divideTo_vat, State.eput_vat, → State.operate_vat_of, State.sideSet_vat, State.setEng_vat, State.stopEngine_vat]

theorem State.engineEdge_vat (s : State) (n : Nat) (want : Word → Bool) (op : State → Nat → Word → State × Flow)
    (h : ∀ s n w, (op s n w).1.sw.vat = s.sw.vat) : (s.engineEdge n want op).sw.vat = s.sw.vat := by
  have I : ∀ {c : Prop} [Decidable c] {a b : State}, a.sw.vat = s.sw.vat → b.sw.vat = s.sw.vat → (if c then a else b).sw.vat = s.sw.vat := by
    intro c _ a b ha hb; split <;> assumption
  unfold State.engineEdge
  extract_lets w due s1 s2 x first took
  have h1 : s1.sw.vat = s.sw.vat := by simp [s1]
  have h2 : s2.sw.vat = s.sw.vat := by
    simp only [s2]
    refine I ?_ h1
    simp [h1]
  clear_value s1 s2 x took
  refine I rfl (I (by simp [h1]) (I (by simp [h2]) ?_))
  have h3 := h s1 n w
  split
  rename_i s3 f e3
  rw [e3] at h3
  have h3 : s3.sw.vat = s.sw.vat := h3.trans h1
  extract_lets _ s4
  have h4 : s4.sw.vat = s.sw.vat := by
    simp only [s4]
    refine I ?_ h3
    simp [h3]
  clear_value s4
  rw [State.flow_vat]
  refine I ?_ h4
  simp [h4]

/-! ### CanOps -/

@[simp] theorem State.setCan_vat (s : State) (n : Nat) (x : CanS) : (State.setCan s n x).sw.vat = s.sw.vat := by
  simp [State.setCan]
@[simp] theorem State.canLose_vat (s : State) (n : Nat) (count : Nat) : (State.canLose s n count).sw.vat = s.sw.vat := by
  simp [State.canLose]
@[simp] theorem State.canClose_vat (s : State) (n : Nat) : (State.canClose s n).sw.vat = s.sw.vat := by
  simp [State.canClose, apply_ite State.sw, apply_ite SwS.vat]
@[simp] theorem State.canPackRec_vat (s : State) (n : Nat) (time : Word) (alone : Bool) (ws : List Word) :
    (State.canPackRec s n time alone ws).sw.vat = s.sw.vat := by
  simp [State.canPackRec, apply_ite State.sw, apply_ite SwS.vat]
@[simp] theorem State.canDeliver_vat (s : State) (n : Nat) (hdr : List Word) (data : List Byte) :
    (State.canDeliver s n hdr data).sw.vat = s.sw.vat := by
  simp [State.canDeliver, apply_ite State.sw, apply_ite SwS.vat]
@[simp] theorem State.canPackEnd_vat (s : State) (n : Nat) : (State.canPackEnd s n).sw.vat = s.sw.vat := by
  unfold State.canPackEnd; grind [→ State.expire_vat_of, State.canClose_vat]
@[simp] theorem State.canLoad_vat (s : State) (n : Nat) (t : CanTx) : (State.canLoad s n t).sw.vat = s.sw.vat := by
  simp [State.canLoad]
@[simp] theorem State.canFillAt_vat (s : State) (n : Nat) (at_ : Nat) : (State.canFillAt s n at_).sw.vat = s.sw.vat := by
  unfold State.canFillAt; grind [State.canLoad_vat, State.setCan_vat, → State.takeLocal_vat_of]
@[simp] theorem State.canFill_vat (s : State) (n : Nat) : (State.canFill s n).sw.vat = s.sw.vat := by
  simp [State.canFill]
@[simp] theorem State.canReport_vat (s : State) (n : Nat) (t : CanTx) (outcome : Nat) (time : Word) :
    (State.canReport s n t outcome time).sw.vat = s.sw.vat := by
  simp [State.canReport, apply_ite State.sw, apply_ite SwS.vat]
@[simp] theorem State.canStamp_vat (s : State) (n : Nat) (t : CanTx) (at_ : Nat) :
    (State.canStamp s n t at_).sw.vat = s.sw.vat := by
  simp [State.canStamp, apply_ite State.sw, apply_ite SwS.vat]
@[simp] theorem State.canTsqPop_vat (s : State) (n : Nat) : (State.canTsqPop s n).sw.vat = s.sw.vat := by
  simp [State.canTsqPop]
@[simp] theorem State.canLeave_vat (s : State) (n : Nat) (t : CanTx) (outcome : Nat) (time : Word) :
    (State.canLeave s n t outcome time).sw.vat = s.sw.vat := by
  simp [State.canLeave, apply_ite State.sw, apply_ite SwS.vat]
@[simp] theorem State.canAbandon_vat (s : State) (n : Nat) (t : CanTx) (outcome : Nat) (time : Word) :
    (State.canAbandon s n t outcome time).sw.vat = s.sw.vat := by
  simp [State.canAbandon, apply_ite State.sw, apply_ite SwS.vat]
@[simp] theorem State.canGone_vat (s : State) (n : Nat) (t : CanTx) (time : Word) :
    (State.canGone s n t time).sw.vat = s.sw.vat := by
  simp [State.canGone]
@[simp] theorem State.canFlushSlot_vat (s : State) (n : Nat) (cur : Bool) :
    (State.canFlushSlot s n cur).sw.vat = s.sw.vat := by
  unfold State.canFlushSlot; grind [→ State.freeIn_vat_of, State.setCan_vat, State.canGone_vat]
@[simp] theorem State.canFlushTx_vat (s : State) (n : Nat) (cur : Bool) :
    ((State.canFlushTx s n cur).1).sw.vat = s.sw.vat := by
  simp [State.canFlushTx]
theorem State.canFlushTx_vat_of (s : State) (n : Nat) (cur : Bool) {sx : State} {qx : Nat} (h : State.canFlushTx s n cur = (sx, qx)) : sx.sw.vat = s.sw.vat := by
  have e := State.canFlushTx_vat s n cur
  rw [h] at e
  exact e
@[simp] theorem State.canBegin_vat (s : State) (n : Nat) (sof : Nat) : (State.canBegin s n sof).sw.vat = s.sw.vat := by
  unfold State.canBegin; grind [State.canGone_vat, State.setCan_vat, State.canFillAt_vat]
@[simp] theorem State.canFlushRx_vat (s : State) (n : Nat) : (State.canFlushRx s n).sw.vat = s.sw.vat := by
  simp [State.canFlushRx]
@[simp] theorem State.canState_vat (s : State) (n : Nat) (time : Word) : (State.canState s n time).sw.vat = s.sw.vat := by
  unfold State.canState; grind [State.bump_vat, State.put_vat, State.raise_vat, State.canAbandon_vat]
@[simp] theorem State.canSafe_vat (s : State) : (State.canSafe s).sw.vat = s.sw.vat := by
  simp [State.canSafe, apply_ite State.sw, apply_ite SwS.vat]
@[simp] theorem State.canCommission_vat (s : State) : (State.canCommission s).sw.vat = s.sw.vat := by
  simp [State.canCommission]
@[simp] theorem State.canRecover_vat (s : State) (n : Nat) : (State.canRecover s n).sw.vat = s.sw.vat := by
  simp [State.canRecover, apply_ite State.sw, apply_ite SwS.vat]
@[simp] theorem State.canRecovered_vat (s : State) (n : Nat) : (State.canRecovered s n).sw.vat = s.sw.vat := by
  simp [State.canRecovered, apply_ite State.sw, apply_ite SwS.vat]
@[simp] theorem State.canOpmode_vat (s : State) (n : Nat) : (State.canOpmode s n).sw.vat = s.sw.vat := by
  simp [State.canOpmode, apply_ite State.sw, apply_ite SwS.vat]
@[simp] theorem State.canOpmodeWritten_vat (s : State) (n : Nat) : (State.canOpmodeWritten s n).sw.vat = s.sw.vat := by
  simp [State.canOpmodeWritten, apply_ite State.sw, apply_ite SwS.vat]
@[simp] theorem State.canRdStart_vat (s : State) (n : Nat) : (State.canRdStart s n).sw.vat = s.sw.vat := by
  simp [State.canRdStart]
@[simp] theorem State.canRdEnd_vat (s : State) (n : Nat) : (State.canRdEnd s n).sw.vat = s.sw.vat := by
  simp [State.canRdEnd]
@[simp] theorem State.canRdAbort_vat (s : State) (n : Nat) : (State.canRdAbort s n).sw.vat = s.sw.vat := by
  simp [State.canRdAbort, apply_ite State.sw, apply_ite SwS.vat]
@[simp] theorem State.canRdTimeout_vat (s : State) (n : Nat) : (State.canRdTimeout s n).sw.vat = s.sw.vat := by
  unfold State.canRdTimeout; grind [→ State.expire_vat_of, State.canRdEnd_vat, State.put_vat]
@[simp] theorem State.canHold_vat (s : State) (n : Nat) (stage : Nat) (cands : List Nat) :
    (State.canHold s n stage cands).sw.vat = s.sw.vat := by
  simp [State.canHold]
@[simp] theorem State.canSurveyEnd_vat (s : State) (n : Nat) (pulses : List Nat) :
    (State.canSurveyEnd s n pulses).sw.vat = s.sw.vat := by
  unfold State.canSurveyEnd; grind [→ State.expire_vat_of, State.canHold_vat, State.disarm_vat]
@[simp] theorem State.canDwellEnd_vat (s : State) (n : Nat) : (State.canDwellEnd s n).sw.vat = s.sw.vat := by
  unfold State.canDwellEnd; grind [→ State.expire_vat_of, State.canHold_vat]
@[simp] theorem State.canRdDone_vat (s : State) (n : Nat) (nom : Nat) (data : Option Nat) :
    (State.canRdDone s n nom data).sw.vat = s.sw.vat := by
  unfold State.canRdDone; split <;> simp [apply_ite State.sw, apply_ite SwS.vat]
@[simp] theorem State.canRdFrame_vat (s : State) (n : Nat) (f : CanFrame) : (State.canRdFrame s n f).sw.vat = s.sw.vat := by
  unfold State.canRdFrame; grind [State.put_vat, State.setCan_vat, State.canHold_vat, State.canRdDone_vat]
@[simp] theorem State.canRecGood_vat (s : State) (n : Nat) : (State.canRecGood s n).sw.vat = s.sw.vat := by
  simp [State.canRecGood, apply_ite State.sw, apply_ite SwS.vat]
@[simp] theorem State.canReceive_vat (s : State) (n : Nat) (f : CanFrame) : (State.canReceive s n f).sw.vat = s.sw.vat := by
  simp [State.canReceive, apply_ite State.sw, apply_ite SwS.vat]
@[simp] theorem State.canBusErr_vat (s : State) (n : Nat) (e : CanError) : (State.canBusErr s n e).sw.vat = s.sw.vat := by
  simp [State.canBusErr, apply_ite State.sw, apply_ite SwS.vat]
@[simp] theorem State.canSent_vat (s : State) (n : Nat) (t : CanTx) (ago : Nat) :
    (State.canSent s n t ago).sw.vat = s.sw.vat := by
  simp [State.canSent, apply_ite State.sw, apply_ite SwS.vat]
@[simp] theorem State.canFailed_vat (s : State) (n : Nat) (t : CanTx) (e : CanError) (at_ : Word) :
    (State.canFailed s n t e at_).sw.vat = s.sw.vat := by
  unfold State.canFailed; grind [State.bump_vat, State.put_vat, State.setCan_vat, State.raise_vat, State.wr_vat, State.canState_vat, State.canGone_vat, State.canAbandon_vat]
@[simp] theorem State.canLoop_vat (s : State) (n : Nat) (t : CanTx) (a : CanAttempt) :
    (State.canLoop s n t a).sw.vat = s.sw.vat := by
  unfold State.canLoop; (repeat' split) <;> simp_all [apply_ite State.sw, apply_ite SwS.vat]
@[simp] theorem State.canLateEnd_vat (s : State) (n : Nat) (a : CanAttempt) : (State.canLateEnd s n a).sw.vat = s.sw.vat := by
  unfold State.canLateEnd; split <;> simp [apply_ite State.sw, apply_ite SwS.vat]
@[simp] theorem State.canAttempt_vat (s : State) (n : Nat) (a : CanAttempt) : (State.canAttempt s n a).sw.vat = s.sw.vat := by
  unfold State.canAttempt; grind [State.canLateEnd_vat, State.canBegin_vat, State.canLoop_vat, State.canSent_vat, State.bump_vat, State.canGone_vat, State.canFailed_vat, State.canFill_vat]
@[simp] theorem State.canReference_vat (s : State) (n : Nat) : (State.canReference s n).sw.vat = s.sw.vat := by
  simp [State.canReference, apply_ite State.sw, apply_ite SwS.vat]
@[simp] theorem State.canWoke_vat (s : State) (n : Nat) (f : Option CanFrame) : (State.canWoke s n f).sw.vat = s.sw.vat := by
  simp [State.canWoke]
@[simp] theorem State.canCleared_vat (s : State) : (State.canCleared s).sw.vat = s.sw.vat := by
  simp [State.canCleared]

/-! ### MacOps -/

@[simp] theorem State.setMac_vat (s : State) (m : Nat) (x : MacS) : (State.setMac s m x).sw.vat = s.sw.vat := by
  simp [State.setMac]
@[simp] theorem State.macLinkChange_vat (s : State) (m : Nat) (f : State → State) (hf : ∀ x, (f x).sw.vat = x.sw.vat) :
    (State.macLinkChange s m f).sw.vat = s.sw.vat := by
  unfold State.macLinkChange; (repeat' split) <;> simp_all [apply_ite State.sw, apply_ite SwS.vat]
@[simp] theorem State.macRxc_vat (s : State) (m : Nat) (runs : Bool) : (State.macRxc s m runs).sw.vat = s.sw.vat := by
  simp [State.macRxc]
@[simp] theorem State.setMacQueue_vat (s : State) (m : Nat) (q : Nat) (l : List MacTx) :
    (State.setMacQueue s m q l).sw.vat = s.sw.vat := by
  simp [State.setMacQueue]
@[simp] theorem State.macFeed_vat (s : State) (m : Nat) : (State.macFeed s m).sw.vat = s.sw.vat := by
  unfold State.macFeed; (repeat' split) <;> simp_all [apply_ite State.sw, apply_ite SwS.vat]
@[simp] theorem State.macStart_vat (s : State) (m : Nat) (at_ : Nat) : (State.macStart s m at_).sw.vat = s.sw.vat := by
  simp [State.macStart]
@[simp] theorem State.macLoad_vat (s : State) (m : Nat) (t : MacTx) : (State.macLoad s m t).sw.vat = s.sw.vat := by
  simp [State.macLoad, apply_ite State.sw, apply_ite SwS.vat]
@[simp] theorem State.macYield_vat (s : State) (m : Nat) : (State.macYield s m).sw.vat = s.sw.vat := by
  unfold State.macYield; grind [State.setMacQueue_vat, State.setMac_vat]
@[simp] theorem State.macFill_vat (s : State) (m : Nat) : (State.macFill s m).sw.vat = s.sw.vat := by
  unfold State.macFill; grind [State.macYield_vat, State.macLoad_vat, State.setMac_vat, State.setMacQueue_vat]
@[simp] theorem State.macTransmit_vat (s : State) (m : Nat) : (State.macTransmit s m).sw.vat = s.sw.vat := by
  simp [State.macTransmit]
@[simp] theorem State.macLose_vat (s : State) (m : Nat) (count : Nat) : (State.macLose s m count).sw.vat = s.sw.vat := by
  simp [State.macLose]
@[simp] theorem State.macClose_vat (s : State) (m : Nat) : (State.macClose s m).sw.vat = s.sw.vat := by
  simp [State.macClose, apply_ite State.sw, apply_ite SwS.vat]
@[simp] theorem State.macPackRec_vat (s : State) (m : Nat) (time : Word) (alone : Bool) (ws : List Word) :
    (State.macPackRec s m time alone ws).sw.vat = s.sw.vat := by
  simp [State.macPackRec, apply_ite State.sw, apply_ite SwS.vat]
@[simp] theorem State.macDeliver_vat (s : State) (m : Nat) (hdr : Word) (time : Word) (data : List Byte) :
    (State.macDeliver s m hdr time data).sw.vat = s.sw.vat := by
  simp [State.macDeliver, apply_ite State.sw, apply_ite SwS.vat]
@[simp] theorem State.macPackEnd_vat (s : State) (m : Nat) : (State.macPackEnd s m).sw.vat = s.sw.vat := by
  unfold State.macPackEnd; grind [→ State.expire_vat_of, State.macClose_vat]
@[simp] theorem State.macReport_vat (s : State) (m : Nat) (t : MacTx) (outcome : Nat) :
    (State.macReport s m t outcome).sw.vat = s.sw.vat := by
  simp [State.macReport, apply_ite State.sw, apply_ite SwS.vat]
@[simp] theorem State.macLeave_vat (s : State) (m : Nat) (t : MacTx) (outcome : Nat) :
    (State.macLeave s m t outcome).sw.vat = s.sw.vat := by
  simp [State.macLeave, apply_ite State.sw, apply_ite SwS.vat]
@[simp] theorem State.macStamp_vat (s : State) (m : Nat) (t : MacTx) : (State.macStamp s m t).sw.vat = s.sw.vat := by
  simp [State.macStamp, apply_ite State.sw, apply_ite SwS.vat]
@[simp] theorem State.macTsqPop_vat (s : State) (m : Nat) : (State.macTsqPop s m).sw.vat = s.sw.vat := by
  simp [State.macTsqPop]
@[simp] theorem State.macGate_vat (s : State) (m : Nat) : (State.macGate s m).sw.vat = s.sw.vat := by
  unfold State.macGate; grind [State.macYield_vat, State.macFill_vat, State.macLeave_vat, State.macCount_vat, State.setMac_vat, State.macStart_vat, State.disarm_vat]
@[simp] theorem State.macInband_vat (s : State) (m : Nat) (speed : BitVec 2) (duplex : Bool) (link : Bool) :
    (State.macInband s m speed duplex link).sw.vat = s.sw.vat := by
  simp [State.macInband]
@[simp] theorem State.macDefer_vat (s : State) (m : Nat) (carrier : Bool) :
    (State.macDefer s m carrier).sw.vat = s.sw.vat := by
  simp [State.macDefer, apply_ite State.sw, apply_ite SwS.vat]
@[simp] theorem State.macCollision_vat (s : State) (m : Nat) (bits : Nat) :
    (State.macCollision s m bits).sw.vat = s.sw.vat := by
  unfold State.macCollision; grind [State.setMac_vat, State.macGate_vat, State.macCount_vat, State.advance_vat, State.macLeave_vat, → State.freeIn_vat_of, State.arm_vat]
@[simp] theorem State.macBackoff_vat (s : State) (m : Nat) : (State.macBackoff s m).sw.vat = s.sw.vat := by
  unfold State.macBackoff; grind [→ State.expire_vat_of, State.setMac_vat]
@[simp] theorem State.macLateEnd_vat (s : State) (m : Nat) : (State.macLateEnd s m).sw.vat = s.sw.vat := by
  unfold State.macLateEnd; grind [State.setMac_vat]
@[simp] theorem State.macTxEnd_vat (s : State) (m : Nat) : (State.macTxEnd s m).sw.vat = s.sw.vat := by
  unfold State.macTxEnd; grind [State.macLateEnd_vat, State.macGate_vat, State.advance_vat, State.setMac_vat, State.macCount_vat, State.macLeave_vat, State.macStamp_vat]
@[simp] theorem State.macFlushTx_vat (s : State) (m : Nat) : ((State.macFlushTx s m).1).sw.vat = s.sw.vat := by
  unfold State.macFlushTx; grind [State.macCount_vat, State.setMac_vat, State.macLeave_vat, State.disarm_vat, → State.emptyPort_vat_of]
theorem State.macFlushTx_vat_of (s : State) (m : Nat) {sx : State} {qx : Nat} (h : State.macFlushTx s m = (sx, qx)) : sx.sw.vat = s.sw.vat := by
  have e := State.macFlushTx_vat s m
  rw [h] at e
  exact e
@[simp] theorem State.macFlushRx_vat (s : State) (m : Nat) : (State.macFlushRx s m).sw.vat = s.sw.vat := by
  simp [State.macFlushRx]
@[simp] theorem State.macSafe1_vat (s : State) (m : Nat) : (State.macSafe1 s m).sw.vat = s.sw.vat := by
  simp [State.macSafe1]
@[simp] theorem State.macSafe_vat (s : State) : (State.macSafe s).sw.vat = s.sw.vat := by
  simp [State.macSafe, apply_ite State.sw, apply_ite SwS.vat]
@[simp] theorem State.macCommission_vat (s : State) : (State.macCommission s).sw.vat = s.sw.vat := by
  simp [State.macCommission]
@[simp] theorem State.macComm_vat (s : State) (m : Nat) (r : MacRx) : (State.macComm s m r).sw.vat = s.sw.vat := by
  unfold State.macComm; split <;> simp [apply_ite State.sw, apply_ite SwS.vat]
@[simp] theorem State.macReceive_vat (s : State) (m : Nat) (r : MacRx) : (State.macReceive s m r).sw.vat = s.sw.vat := by
  unfold State.macReceive; (repeat' split) <;> simp_all [apply_ite State.sw, apply_ite SwS.vat]
@[simp] theorem State.mdioGo_vat (s : State) : (State.mdioGo s).sw.vat = s.sw.vat := by
  simp [State.mdioGo]
@[simp] theorem State.mdioEnd_vat (s : State) (data : BitVec 16) : (State.mdioEnd s data).sw.vat = s.sw.vat := by
  simp [State.mdioEnd, apply_ite State.sw, apply_ite SwS.vat]
@[simp] theorem State.macWoke_vat (s : State) (m : Nat) (mode : Nat) : (State.macWoke s m mode).sw.vat = s.sw.vat := by
  simp [State.macWoke]
@[simp] theorem State.macCleared_vat (s : State) : (State.macCleared s).sw.vat = s.sw.vat := by
  simp [State.macCleared]

/-! ### BridgeOps -/

@[simp] theorem State.setHbr_vat (s : State) (h : HbrS) : (State.setHbr s h).sw.vat = s.sw.vat := by
  simp [State.setHbr]
@[simp] theorem State.hostOut_vat (s : State) (o : HostOut) : (State.hostOut s o).sw.vat = s.sw.vat := by
  simp [State.hostOut]
@[simp] theorem State.msi_vat (s : State) (v : Nat) : (State.msi s v).sw.vat = s.sw.vat := by
  simp [State.msi, apply_ite State.sw, apply_ite SwS.vat]
@[simp] theorem State.hbrIrq_vat (s : State) (f : Fld) (v : Nat) : (State.hbrIrq s f v).sw.vat = s.sw.vat := by
  simp [State.hbrIrq, apply_ite State.sw, apply_ite SwS.vat]
@[simp] theorem State.bar4Write_vat (s : State) (off : Nat) (w : Word) : (State.bar4Write s off w).sw.vat = s.sw.vat := by
  simp [State.bar4Write, apply_ite State.sw, apply_ite SwS.vat]
@[simp] theorem State.aerNote_vat (s : State) (b : Nat) : (State.aerNote s b).sw.vat = s.sw.vat := by
  simp [State.aerNote]
@[simp] theorem State.tlpBad_vat (s : State) (read : Bool) : (State.tlpBad s read).sw.vat = s.sw.vat := by
  simp [State.tlpBad, apply_ite State.sw, apply_ite SwS.vat]
@[simp] theorem State.bar4_vat (s : State) (off : Nat) (wr : Option Word) (beOk : Bool) :
    (State.bar4 s off wr beOk).sw.vat = s.sw.vat := by
  unfold State.bar4; (repeat' split) <;> simp_all [apply_ite State.sw, apply_ite SwS.vat]
@[simp] theorem State.elog_vat (s : State) (e : List Word) : (State.elog s e).sw.vat = s.sw.vat := by
  simp [State.elog, apply_ite State.sw, apply_ite SwS.vat]
@[simp] theorem State.elogCmd_vat (s : State) (c : HbrCmd) (st : Status) (src : Option (BitVec 24)) (sent : Bool) :
    (State.elogCmd s c st src sent).sw.vat = s.sw.vat := by
  simp [State.elogCmd, apply_ite State.sw, apply_ite SwS.vat]
@[simp] theorem State.errPendClear_vat (s : State) : (State.errPendClear s).sw.vat = s.sw.vat := by
  simp [State.errPendClear, apply_ite State.sw, apply_ite SwS.vat]
@[simp] theorem State.pfDrop_vat (s : State) (i : Nat) : (State.pfDrop s i).sw.vat = s.sw.vat := by
  unfold State.pfDrop; split <;> simp [apply_ite State.sw, apply_ite SwS.vat]
@[simp] theorem State.pfDropWin_vat (s : State) (w : Nat) : (State.pfDropWin s w).sw.vat = s.sw.vat := by
  simp [State.pfDropWin]
@[simp] theorem State.pfEnd_vat (s : State) (i : Nat) : (State.pfEnd s i).sw.vat = s.sw.vat := by
  unfold State.pfEnd; grind [→ State.expire_vat_of, State.pfDrop_vat]
@[simp] theorem State.pfKeep_vat (s : State) (off : Nat) (ws : List Word) : (State.pfKeep s off ws).sw.vat = s.sw.vat := by
  simp [State.pfKeep, apply_ite State.sw, apply_ite SwS.vat]
@[simp] theorem State.readEnd_vat (s : State) (id : Nat) : (State.readEnd s id).sw.vat = s.sw.vat := by
  unfold State.readEnd; split <;> simp [apply_ite State.sw, apply_ite SwS.vat]
@[simp] theorem State.readPart_vat (s : State) (id : Nat) (at_ : Nat) (ws : List Word) (ok : Bool) :
    (State.readPart s id at_ ws ok).sw.vat = s.sw.vat := by
  unfold State.readPart; split <;> simp [apply_ite State.sw, apply_ite SwS.vat]
@[simp] theorem State.pfServe_vat (s : State) (c : HbrCmd) (i : Nat) (b : PfBuf) :
    (State.pfServe s c i b).sw.vat = s.sw.vat := by
  unfold State.pfServe; split <;> simp [apply_ite State.sw, apply_ite SwS.vat]
@[simp] theorem State.hbrSend_vat (s : State) (c : HbrCmd) : (State.hbrSend s c).sw.vat = s.sw.vat := by
  unfold State.hbrSend; grind [State.pfServe_vat, State.bump_vat, State.emit_vat, State.setHbr_vat]
@[simp] theorem State.hbrPump_vat (x0 : Nat) (x1 : State) : (State.hbrPump x0 x1).sw.vat = x1.sw.vat := by
  (induction x0 generalizing x1) <;> (unfold State.hbrPump; (repeat' split)) <;> simp_all [apply_ite State.sw, apply_ite SwS.vat]
@[simp] theorem State.hbrQueue_vat (s : State) (cs : List HbrCmd) : (State.hbrQueue s cs).sw.vat = s.sw.vat := by
  simp [State.hbrQueue]
@[simp] theorem State.nextOrder_vat (s : State) : ((State.nextOrder s).2).sw.vat = s.sw.vat := by
  simp [State.nextOrder]
theorem State.nextOrder_vat_of (s : State) {sx : Nat} {qx : State} (h : State.nextOrder s = (sx, qx)) : qx.sw.vat = s.sw.vat := by
  have e := State.nextOrder_vat s
  rw [h] at e
  exact e
@[simp] theorem State.winWrite_vat (s : State) (off : Nat) (ws : List Word) (beOk : Bool) :
    (State.winWrite s off ws beOk).sw.vat = s.sw.vat := by
  unfold State.winWrite; grind [State.pfDropWin_vat, → State.nextOrder_vat_of, State.elogCmd_vat, State.hbrQueue_vat]
@[simp] theorem State.winRead_vat (s : State) (off : Nat) (n : Nat) : (State.winRead s off n).sw.vat = s.sw.vat := by
  simp only [State.winRead, State.expire]; (repeat' split) <;> simp_all [apply_ite State.sw, apply_ite SwS.vat]
@[simp] theorem State.cmdEnd_vat (s : State) (c : HbrCmd) (st : Status) (ws : List Word) (src : Option (BitVec 24)) (sent : Bool) :
    (State.cmdEnd s c st ws src sent).sw.vat = s.sw.vat := by
  unfold State.cmdEnd; (repeat' split) <;> simp_all [apply_ite State.sw, apply_ite SwS.vat]
@[simp] theorem State.trkFree_vat (s : State) (t : Nat) : (State.trkFree s t).sw.vat = s.sw.vat := by
  simp [State.trkFree]
@[simp] theorem State.trkReply_vat (s : State) (f : Frame) (authOk : Bool) :
    (State.trkReply s f authOk).sw.vat = s.sw.vat := by
  unfold State.trkReply; grind [State.bump_vat, State.trkFree_vat, State.arm_vat, State.disarm_vat, State.cmdEnd_vat, State.hbrPump_vat]
@[simp] theorem State.postedReply_vat (s : State) (f : Frame) : (State.postedReply s f).sw.vat = s.sw.vat := by
  unfold State.postedReply; split <;> simp [apply_ite State.sw, apply_ite SwS.vat]
@[simp] theorem State.ncRetry_vat (s : State) (t : Nat) : (State.ncRetry s t).sw.vat = s.sw.vat := by
  unfold State.ncRetry; grind [→ State.expire_vat_of, State.bump_vat, State.setHbr_vat, State.emit_vat, State.arm_vat]
@[simp] theorem State.trkTimeout_vat (s : State) (t : Nat) : (State.trkTimeout s t).sw.vat = s.sw.vat := by
  unfold State.trkTimeout; grind [→ State.expire_vat_of, State.setHbr_vat, State.arm_vat, State.cmdEnd_vat, State.hbrPump_vat]
@[simp] theorem State.trkRelease_vat (s : State) (t : Nat) : (State.trkRelease s t).sw.vat = s.sw.vat := by
  unfold State.trkRelease; grind [→ State.expire_vat_of, State.trkFree_vat, State.hbrPump_vat]
@[simp] theorem State.readDeadline_vat (s : State) (id : Nat) : (State.readDeadline s id).sw.vat = s.sw.vat := by
  unfold State.readDeadline; grind [→ State.expire_vat_of, State.setHbr_vat, State.elogCmd_vat, State.readEnd_vat]
@[simp] theorem State.txBack_vat (s : State) (st : Status) (seq : BitVec 16) : (State.txBack s st seq).sw.vat = s.sw.vat := by
  unfold State.txBack; split <;> simp [apply_ite State.sw, apply_ite SwS.vat]
@[simp] theorem State.txPump_vat (x0 : Nat) (x1 : State) : (State.txPump x0 x1).sw.vat = x1.sw.vat := by
  (induction x0 generalizing x1) <;> (unfold State.txPump; grind [State.setHbr_vat, State.enqueue_vat, → State.fresh_vat_of, State.txBack_vat])
@[simp] theorem State.txTail_vat (s : State) (tail : Nat) (ds : List TxDesc) :
    (State.txTail s tail ds).sw.vat = s.sw.vat := by
  simp [State.txTail, apply_ite State.sw, apply_ite SwS.vat]
@[simp] theorem State.txLooked_vat (s : State) : (State.txLooked s).sw.vat = s.sw.vat := by
  unfold State.txLooked; split <;> simp [apply_ite State.sw, apply_ite SwS.vat]
@[simp] theorem State.rxTail_vat (s : State) (q : Nat) (tail : Nat) (bufs : List RxDesc) :
    (State.rxTail s q tail bufs).sw.vat = s.sw.vat := by
  simp [State.rxTail, apply_ite State.sw, apply_ite SwS.vat]
@[simp] theorem State.rxVector_vat (s : State) (q : Nat) : (State.rxVector s q).sw.vat = s.sw.vat := by
  simp [State.rxVector, apply_ite State.sw, apply_ite SwS.vat]
@[simp] theorem State.intModEnd_vat (s : State) (q : Nat) : (State.intModEnd s q).sw.vat = s.sw.vat := by
  unfold State.intModEnd; grind [→ State.expire_vat_of, State.arm_vat, State.msi_vat, State.setHbr_vat]
@[simp] theorem State.rxWrite_vat (s : State) (q : Nat) (v : VUnit) (loupe : Bool) :
    (State.rxWrite s q v loupe).sw.vat = s.sw.vat := by
  unfold State.rxWrite; grind [→ State.freshWords_vat_of, State.setHbr_vat, State.hostOut_vat, State.rxVector_vat, State.bump_vat, State.put_vat]
@[simp] theorem State.rxDeliver_vat (s : State) : (State.rxDeliver s).sw.vat = s.sw.vat := by
  unfold State.rxDeliver; (repeat' split) <;> simp_all [apply_ite State.sw, apply_ite SwS.vat]
@[simp] theorem State.linkUpPcie_vat (s : State) (speed : Nat) (width : Nat) :
    (State.linkUpPcie s speed width).sw.vat = s.sw.vat := by
  simp [State.linkUpPcie, apply_ite State.sw, apply_ite SwS.vat]
@[simp] theorem State.linkDownPcie_vat (s : State) : (State.linkDownPcie s).sw.vat = s.sw.vat := by
  unfold State.linkDownPcie; grind [State.raise_vat, State.put_vat]
@[simp] theorem State.hbrCleared_vat (s : State) : (State.hbrCleared s).sw.vat = s.sw.vat := by
  simp [State.hbrCleared]
@[simp] theorem State.hbrMode_vat (s : State) : (State.hbrMode s).sw.vat = s.sw.vat := by
  simp [State.hbrMode, apply_ite State.sw, apply_ite SwS.vat]

/-! ### PowerOps -/

@[simp] theorem State.setPch_vat (s : State) (c : Nat) (x : PchS) : (State.setPch s c x).sw.vat = s.sw.vat := by
  simp [State.setPch]
@[simp] theorem State.setPst_vat (s : State) (c : Nat) (st : Nat) : (State.setPst s c st).sw.vat = s.sw.vat := by
  simp [State.setPst]
@[simp] theorem State.stopLimit_vat (s : State) (c : Nat) : (State.stopLimit s c).sw.vat = s.sw.vat := by
  simp [State.stopLimit, apply_ite State.sw, apply_ite SwS.vat]
@[simp] theorem State.pgQualify_vat (s : State) (c : Nat) (from_ : Nat) : (State.pgQualify s c from_).sw.vat = s.sw.vat := by
  simp [State.pgQualify, apply_ite State.sw, apply_ite SwS.vat]
@[simp] theorem State.pgDrop_vat (s : State) (c : Nat) : (State.pgDrop s c).sw.vat = s.sw.vat := by
  simp [State.pgDrop, apply_ite State.sw, apply_ite SwS.vat]
@[simp] theorem State.pgAssert_vat (s : State) (c : Nat) : (State.pgAssert s c).sw.vat = s.sw.vat := by
  unfold State.pgAssert; grind [→ State.expire_vat_of, State.setPch_vat, State.put_vat, State.arm_vat]
@[simp] theorem State.gateTimers_vat (s : State) (c : Nat) : (State.gateTimers s c).sw.vat = s.sw.vat := by
  simp [State.gateTimers]
@[simp] theorem State.gateOff_vat (s : State) (c : Nat) (st : Nat) : (State.gateOff s c st).sw.vat = s.sw.vat := by
  simp [State.gateOff]
@[simp] theorem State.startRamp_vat (s : State) (c : Nat) : (State.startRamp s c).sw.vat = s.sw.vat := by
  simp [State.startRamp, apply_ite State.sw, apply_ite SwS.vat]
@[simp] theorem State.pchClrLatch_vat (s : State) (c : Nat) : (State.pchClrLatch s c).sw.vat = s.sw.vat := by
  simp [State.pchClrLatch, apply_ite State.sw, apply_ite SwS.vat]
@[simp] theorem State.park_vat (s : State) (c : Nat) : (State.park s c).sw.vat = s.sw.vat := by
  simp [State.park]
@[simp] theorem State.pchLose_vat (s : State) (c : Nat) : (State.pchLose s c).sw.vat = s.sw.vat := by
  simp [State.pchLose, apply_ite State.sw, apply_ite SwS.vat]
@[simp] theorem State.pchRegain_vat (s : State) (c : Nat) : (State.pchRegain s c).sw.vat = s.sw.vat := by
  simp [State.pchRegain, apply_ite State.sw, apply_ite SwS.vat]
@[simp] theorem State.pwrSettle_vat (s : State) : (State.pwrSettle s).sw.vat = s.sw.vat := by
  simp [State.pwrSettle]
@[simp] theorem State.parkTimeout_vat (s : State) (c : Nat) : (State.parkTimeout s c).sw.vat = s.sw.vat := by
  unfold State.parkTimeout; grind [→ State.expire_vat_of, State.gateOff_vat]
@[simp] theorem State.parkHandoff_vat (s : State) (c : Nat) : (State.parkHandoff s c).sw.vat = s.sw.vat := by
  simp [State.parkHandoff, apply_ite State.sw, apply_ite SwS.vat]
@[simp] theorem State.rampDone_vat (s : State) (c : Nat) (enhance : Bool) :
    (State.rampDone s c enhance).sw.vat = s.sw.vat := by
  simp [State.rampDone, apply_ite State.sw, apply_ite SwS.vat]
@[simp] theorem State.faultOff_vat (s : State) (c : Nat) (code : Nat) (end_ : Nat) :
    (State.faultOff s c code end_).sw.vat = s.sw.vat := by
  unfold State.faultOff; grind [State.gateOff_vat, State.put_vat, State.bump_vat, State.wr_vat, State.arm_vat, State.channelOrder_vat, State.setLive_vat, State.raise_vat]
@[simp] theorem State.limitOnset_vat (s : State) (c : Nat) : (State.limitOnset s c).sw.vat = s.sw.vat := by
  simp [State.limitOnset, apply_ite State.sw, apply_ite SwS.vat]
@[simp] theorem State.limitEnd_vat (s : State) (c : Nat) : (State.limitEnd s c).sw.vat = s.sw.vat := by
  simp [State.limitEnd, apply_ite State.sw, apply_ite SwS.vat]
@[simp] theorem State.ftExpire_vat (s : State) (c : Nat) : (State.ftExpire s c).sw.vat = s.sw.vat := by
  unfold State.ftExpire; grind [→ State.expire_vat_of, State.faultOff_vat]
@[simp] theorem State.tickFault_vat (s : State) (c : Nat) : (State.tickFault s c).sw.vat = s.sw.vat := by
  simp [State.tickFault, apply_ite State.sw, apply_ite SwS.vat]
@[simp] theorem State.pchCmdOn_vat (s : State) (c : Nat) : (State.pchCmdOn s c).sw.vat = s.sw.vat := by
  simp [State.pchCmdOn, apply_ite State.sw, apply_ite SwS.vat]
@[simp] theorem State.pchCmdOff_vat (s : State) (c : Nat) : (State.pchCmdOff s c).sw.vat = s.sw.vat := by
  simp [State.pchCmdOff, apply_ite State.sw, apply_ite SwS.vat]
@[simp] theorem State.thermal_vat (s : State) (c : Nat) : (State.thermal s c).sw.vat = s.sw.vat := by
  simp [State.thermal, apply_ite State.sw, apply_ite SwS.vat]
@[simp] theorem State.gateFail_vat (s : State) (c : Nat) : (State.gateFail s c).sw.vat = s.sw.vat := by
  simp [State.gateFail, apply_ite State.sw, apply_ite SwS.vat]
@[simp] theorem State.stuckOn_vat (s : State) (c : Nat) : (State.stuckOn s c).sw.vat = s.sw.vat := by
  unfold State.stuckOn; grind [State.disarm_vat, State.setPst_vat, State.put_vat, State.raise_vat, State.channelOrder_vat]
@[simp] theorem State.rampTimeout_vat (s : State) (c : Nat) : (State.rampTimeout s c).sw.vat = s.sw.vat := by
  unfold State.rampTimeout; grind [→ State.expire_vat_of, State.faultOff_vat]
@[simp] theorem State.openLoad_vat (s : State) (c : Nat) : (State.openLoad s c).sw.vat = s.sw.vat := by
  unfold State.openLoad; grind [State.setLive_vat, State.put_vat]
@[simp] theorem State.retryEnd_vat (s : State) (c : Nat) : (State.retryEnd s c).sw.vat = s.sw.vat := by
  unfold State.retryEnd; grind [→ State.expire_vat_of, State.arm_vat, State.startRamp_vat, State.bump_vat, State.put_vat, State.channelOrder_vat]
@[simp] theorem State.retryReset_vat (s : State) (c : Nat) : (State.retryReset s c).sw.vat = s.sw.vat := by
  unfold State.retryReset; grind [→ State.expire_vat_of, State.put_vat]
@[simp] theorem State.vinOut_vat (s : State) (ov : Bool) : (State.vinOut s ov).sw.vat = s.sw.vat := by
  simp [State.vinOut, apply_ite State.sw, apply_ite SwS.vat]
@[simp] theorem State.vinBack_vat (s : State) : (State.vinBack s).sw.vat = s.sw.vat := by
  simp [State.vinBack, apply_ite State.sw, apply_ite SwS.vat]
@[simp] theorem State.pfwarn_vat (s : State) (on : Bool) : (State.pfwarn s on).sw.vat = s.sw.vat := by
  unfold State.pfwarn; grind [State.setLive_vat, State.put_vat, State.clearLive_vat]
@[simp] theorem State.trackState_vat (s : State) (c : Nat) (m : Meas) : (State.trackState s c m).sw.vat = s.sw.vat := by
  simp [State.trackState, apply_ite State.sw, apply_ite SwS.vat]
@[simp] theorem State.takeChannel_vat (s : State) (c : Nat) : (State.takeChannel s c).sw.vat = s.sw.vat := by
  simp [State.takeChannel, apply_ite State.sw, apply_ite SwS.vat]
@[simp] theorem State.channelApply_vat (s : State) (c : Nat) (what : Nat) (code : Nat) :
    (State.channelApply s c what code).sw.vat = s.sw.vat := by
  simp [State.channelApply, apply_ite State.sw, apply_ite SwS.vat]
@[simp] theorem State.measure_vat (s : State) (c : Nat) (m : Meas) : (State.measure s c m).sw.vat = s.sw.vat := by
  unfold State.measure; grind [State.put_vat, State.wr_vat, State.trackState_vat, State.clearLive_vat, State.setPch_vat, State.pgQualify_vat, State.pgDrop_vat]
@[simp] theorem State.dieLinkLoss_vat (s : State) : (State.dieLinkLoss s).sw.vat = s.sw.vat := by
  unfold State.dieLinkLoss; grind [State.put_vat, State.setLive_vat]
@[simp] theorem State.dieLinkReturn_vat (s : State) : (State.dieLinkReturn s).sw.vat = s.sw.vat := by
  unfold State.dieLinkReturn; grind [State.pwrSettle_vat, State.clearLive_vat, State.put_vat]
@[simp] theorem State.pwrSafe_vat (s : State) : (State.pwrSafe s).sw.vat = s.sw.vat := by
  unfold State.pwrSafe
  split
  · rfl
  · refine foldl_vat _ (fun s c => ?_) _ _
    split <;> simp
@[simp] theorem State.pwrCommission_vat (s : State) : (State.pwrCommission s).sw.vat = s.sw.vat := by
  simp [State.pwrCommission, apply_ite State.sw, apply_ite SwS.vat]
@[simp] theorem State.pwrRun_vat (s : State) : (State.pwrRun s).sw.vat = s.sw.vat := by
  simp [State.pwrRun, apply_ite State.sw, apply_ite SwS.vat]
@[simp] theorem State.pwrSleep_vat (s : State) : (State.pwrSleep s).sw.vat = s.sw.vat := by
  simp [State.pwrSleep]
@[simp] theorem State.pwrCoreReset_vat (s : State) : ((State.pwrCoreReset s).1).sw.vat = s.sw.vat := by
  simp [State.pwrCoreReset, apply_ite State.sw, apply_ite SwS.vat]
theorem State.pwrCoreReset_vat_of (s : State) {sx : State} {qx : Bool} (h : State.pwrCoreReset s = (sx, qx)) : sx.sw.vat = s.sw.vat := by
  have e := State.pwrCoreReset_vat s
  rw [h] at e
  exact e
@[simp] theorem State.pwrCleared_vat (s : State) : (State.pwrCleared s).sw.vat = s.sw.vat := by
  simp [State.pwrCleared]
@[simp] theorem State.pwrMasks_vat (s : State) (on : BitVec 16) (off : BitVec 16) :
    (State.pwrMasks s on off).sw.vat = s.sw.vat := by
  simp [State.pwrMasks, apply_ite State.sw, apply_ite SwS.vat]
@[simp] theorem State.pchCalibrate_vat (s : State) (gain : Bool) (c : Nat) :
    (State.pchCalibrate s gain c).sw.vat = s.sw.vat := by
  simp [State.pchCalibrate]

/-! ### FireOps -/

@[simp] theorem State.fireStart_vat (s : State) (n : Nat) : (State.fireStart s n).sw.vat = s.sw.vat := by
  unfold State.fireStart; (repeat' split) <;> (try have h0 := State.takeEntry_vat_of (h := by assumption)) <;> first | rfl | (simp_all [apply_ite State.sw, apply_ite SwS.vat]; done)
@[simp] theorem State.fireStop_vat (s : State) (n : Nat) : (State.fireStop s n).sw.vat = s.sw.vat := by
  unfold State.fireStop; (repeat' split) <;> (try have h0 := State.takeEntry_vat_of (h := by assumption)) <;> first | rfl | (simp_all [apply_ite State.sw, apply_ite SwS.vat]; done)
@[simp] theorem State.sendNow_vat (s : State) (e : Entry) : (State.sendNow s e).sw.vat = s.sw.vat := by
  unfold State.sendNow; grind [State.macFill_vat, State.setMac_vat, State.canFill_vat, State.setCan_vat, State.sendAhead_vat]
@[simp] theorem State.fireSend_vat (s : State) (n : Nat) : (State.fireSend s n).sw.vat = s.sw.vat := by
  unfold State.fireSend; grind [→ State.takeEntry_vat_of, State.fired_vat, State.sendNow_vat]
@[simp] theorem State.firePinSet_vat (s : State) (n : Nat) : (State.firePinSet s n).sw.vat = s.sw.vat := by
  unfold State.firePinSet; grind [→ State.takeEntry_vat_of, State.fired_vat, State.setDout_vat]
@[simp] theorem State.firePinSample_vat (s : State) (n : Nat) : (State.firePinSample s n).sw.vat = s.sw.vat := by
  unfold State.firePinSample; grind [→ State.takeEntry_vat_of, State.fired_vat]
@[simp] theorem State.fireCountSample_vat (s : State) (n : Nat) : (State.fireCountSample s n).sw.vat = s.sw.vat := by
  unfold State.fireCountSample; grind [→ State.takeEntry_vat_of, State.fired_vat]
@[simp] theorem State.fireTrigger_vat (s : State) (n : Nat) : (State.fireTrigger s n).sw.vat = s.sw.vat := by
  unfold State.fireTrigger; (repeat' split) <;> (try have h0 := State.takeEntry_vat_of (h := by assumption)) <;> first | rfl | (simp_all [apply_ite State.sw, apply_ite SwS.vat]; done)
@[simp] theorem State.entryOver_vat (s : State) (e : Entry) (c : Nat) : (State.entryOver s e c).sw.vat = s.sw.vat := by
  unfold State.entryOver; grind [State.setPch_vat]
@[simp] theorem State.entryOn_vat (s : State) (e : Entry) (c : Nat) : (State.entryOn s e c).sw.vat = s.sw.vat := by
  unfold State.entryOn; grind [State.pchCmdOn_vat, State.entryOver_vat]
@[simp] theorem State.entryOff_vat (s : State) (e : Entry) (c : Nat) : (State.entryOff s e c).sw.vat = s.sw.vat := by
  unfold State.entryOff; grind [State.setPch_vat, State.pchCmdOff_vat]
@[simp] theorem State.firePwrOn_vat (s : State) (n : Nat) : (State.firePwrOn s n).sw.vat = s.sw.vat := by
  unfold State.firePwrOn; (repeat' split) <;> (try have h0 := State.takeEntry_vat_of (h := by assumption)) <;> first | rfl | (simp_all [apply_ite State.sw, apply_ite SwS.vat]; done)
@[simp] theorem State.firePwrOff_vat (s : State) (n : Nat) : (State.firePwrOff s n).sw.vat = s.sw.vat := by
  unfold State.firePwrOff; (repeat' split) <;> (try have h0 := State.takeEntry_vat_of (h := by assumption)) <;> first | rfl | (simp_all [apply_ite State.sw, apply_ite SwS.vat]; done)
@[simp] theorem State.firePwrSample_vat (s : State) (n : Nat) : (State.firePwrSample s n).sw.vat = s.sw.vat := by
  unfold State.firePwrSample; grind [→ State.takeEntry_vat_of, State.fired_vat]
@[simp] theorem State.schedCancel_vat (s : State) (n : Nat) : (State.schedCancel s n).sw.vat = s.sw.vat := by
  simp [State.schedCancel, apply_ite State.sw, apply_ite SwS.vat]

/-! ### SafeOps -/

@[simp] theorem State.settleOutputs_vat (s : State) : (State.settleOutputs s).sw.vat = s.sw.vat := by
  simp [State.settleOutputs]
@[simp] theorem State.logMode_vat (s : State) (old : Mode) (cause : Option Nat) (reason : Word) :
    (State.logMode s old cause reason).sw.vat = s.sw.vat := by
  unfold State.logMode; grind [→ State.fresh_vat_of, State.log_vat]
@[simp] theorem State.endTestRelease_vat (s : State) (m : Mode) : (State.endTestRelease s m).sw.vat = s.sw.vat := by
  simp [State.endTestRelease, apply_ite State.sw, apply_ite SwS.vat]
@[simp] theorem State.setMode_vat (s : State) (m : Mode) : (State.setMode s m).sw.vat = s.sw.vat := by
  simp [State.setMode, apply_ite State.sw, apply_ite SwS.vat]
@[simp] theorem State.toSafe_vat (s : State) (w : Word) : (State.toSafe s w).sw.vat = s.sw.vat := by
  simp [State.toSafe]
@[simp] theorem State.enterSafe_vat (s : State) (cause : Nat) (source : Nat) (reason : Nat) :
    (State.enterSafe s cause source reason).sw.vat = s.sw.vat := by
  simp [State.enterSafe, apply_ite State.sw, apply_ite SwS.vat]
@[simp] theorem State.commissionOutputs_vat (s : State) : (State.commissionOutputs s).sw.vat = s.sw.vat := by
  simp [State.commissionOutputs]
@[simp] theorem State.leaveSafe_vat (s : State) : (State.leaveSafe s).sw.vat = s.sw.vat := by
  simp [State.leaveSafe, apply_ite State.sw, apply_ite SwS.vat]

/-! ### PairOps -/

@[simp] theorem State.driveIlk_vat (s : State) (on : Bool) : (State.driveIlk s on).sw.vat = s.sw.vat := by
  unfold State.driveIlk; grind [State.settleOutputs_vat, State.put_vat]
@[simp] theorem State.setPair_vat (s : State) (st : Nat) : (State.setPair s st).sw.vat = s.sw.vat := by
  simp [State.setPair, apply_ite State.sw, apply_ite SwS.vat]
@[simp] theorem State.enterSync_vat (s : State) : (State.enterSync s).sw.vat = s.sw.vat := by
  simp [State.enterSync, apply_ite State.sw, apply_ite SwS.vat]
@[simp] theorem State.enterOos_vat (s : State) (stuck : Bool) : (State.enterOos s stuck).sw.vat = s.sw.vat := by
  simp [State.enterOos]
@[simp] theorem State.leaveOos_vat (s : State) : (State.leaveOos s).sw.vat = s.sw.vat := by
  simp [State.leaveOos, apply_ite State.sw, apply_ite SwS.vat]
@[simp] theorem State.ackSend_vat (s : State) : (State.ackSend s).sw.vat = s.sw.vat := by
  unfold State.ackSend; grind [State.orderSet_vat]
@[simp] theorem State.heartbeatSend_vat (s : State) : (State.heartbeatSend s).sw.vat = s.sw.vat := by
  unfold State.heartbeatSend; grind [→ State.expire_vat_of, State.arm_vat, State.ackSend_vat, State.orderedSet_vat]
@[simp] theorem State.startClaim_vat (s : State) (cause : Nat) : (State.startClaim s cause).sw.vat = s.sw.vat := by
  simp [State.startClaim]
@[simp] theorem State.claimAbort_vat (s : State) : (State.claimAbort s).sw.vat = s.sw.vat := by
  simp [State.claimAbort, apply_ite State.sw, apply_ite SwS.vat]
@[simp] theorem State.declare_vat (s : State) (cause : Nat) : (State.declare s cause).sw.vat = s.sw.vat := by
  simp [State.declare, apply_ite State.sw, apply_ite SwS.vat]
@[simp] theorem State.judgePaths_vat (s : State) : (State.judgePaths s).sw.vat = s.sw.vat := by
  simp [State.judgePaths, apply_ite State.sw, apply_ite SwS.vat]
@[simp] theorem State.heartbeatIn_vat (s : State) (d2 : BitVec 8) (d3 : BitVec 8) :
    (State.heartbeatIn s d2 d3).sw.vat = s.sw.vat := by
  unfold State.heartbeatIn; grind [State.put_vat, State.leaveOos_vat, State.judgePaths_vat, State.clearLive_vat, State.arm_vat]
@[simp] theorem State.hbInEdge_vat (s : State) (interval : Nat) : (State.hbInEdge s interval).sw.vat = s.sw.vat := by
  unfold State.hbInEdge; grind [State.put_vat, State.judgePaths_vat, State.clearLive_vat, State.arm_vat]
theorem State.silence_vat (s : State) (pin : Bool) : ∀ tx, State.silence s pin = some tx → tx.sw.vat = s.sw.vat := by
  unfold State.silence; grind [State.disarm_vat, → State.expire_vat_of]
theorem State.silence_vat_of (s : State) (pin : Bool) {tx : State} (h : State.silence s pin = some tx) : tx.sw.vat = s.sw.vat :=
  State.silence_vat s pin tx h
@[simp] theorem State.handoverFails_vat (s : State) : (State.handoverFails s).sw.vat = s.sw.vat := by
  unfold State.handoverFails; grind [State.enterSafe_vat]
@[simp] theorem State.pathLost_vat (s : State) (pin : Bool) : (State.pathLost s pin).sw.vat = s.sw.vat := by
  unfold State.pathLost; grind [State.put_vat, State.handoverFails_vat, State.declare_vat, State.raise_vat, State.setPair_vat, State.twinDown_vat, State.setLive_vat, State.bump_vat, State.arm_vat]
@[simp] theorem State.heartbeatSilent_vat (s : State) (pin : Bool) : (State.heartbeatSilent s pin).sw.vat = s.sw.vat := by
  unfold State.heartbeatSilent; grind [→ State.silence_vat_of, State.pathLost_vat]
@[simp] theorem State.pinWaitEnd_vat (s : State) : (State.pinWaitEnd s).sw.vat = s.sw.vat := by
  unfold State.pinWaitEnd; grind [→ State.expire_vat_of, State.declare_vat, State.enterOos_vat]
@[simp] theorem State.releaseHeld_vat (s : State) : (State.releaseHeld s).sw.vat = s.sw.vat := by
  simp [State.releaseHeld]
@[simp] theorem State.claimWon_vat (s : State) : (State.claimWon s).sw.vat = s.sw.vat := by
  simp [State.claimWon, apply_ite State.sw, apply_ite SwS.vat]
@[simp] theorem State.claimDrive_vat (s : State) : (State.claimDrive s).sw.vat = s.sw.vat := by
  simp [State.claimDrive]
@[simp] theorem State.claimWaitEnd_vat (s : State) : (State.claimWaitEnd s).sw.vat = s.sw.vat := by
  unfold State.claimWaitEnd; grind [→ State.expire_vat_of, State.claimAbort_vat, State.claimDrive_vat]
@[simp] theorem State.claimCheck_vat (s : State) : (State.claimCheck s).sw.vat = s.sw.vat := by
  unfold State.claimCheck; grind [→ State.expire_vat_of, State.claimWon_vat, State.raise_vat, State.enterOos_vat, State.driveIlk_vat]
@[simp] theorem State.ilkChange_vat (s : State) (low : Bool) : (State.ilkChange s low).sw.vat = s.sw.vat := by
  unfold State.ilkChange; grind [State.put_vat, State.settleOutputs_vat, State.claimWon_vat, State.claimAbort_vat, State.claimDrive_vat, State.startClaim_vat]
@[simp] theorem State.fitnessLoss_vat (s : State) : (State.fitnessLoss s).sw.vat = s.sw.vat := by
  simp [State.fitnessLoss, apply_ite State.sw, apply_ite SwS.vat]
@[simp] theorem State.joinSend_vat (s : State) : (State.joinSend s).sw.vat = s.sw.vat := by
  unfold State.joinSend; grind [→ State.expire_vat_of, State.arm_vat, State.transmit_vat, State.startClaim_vat]
@[simp] theorem State.joinIn_vat (s : State) (p : List Word) : (State.joinIn s p).sw.vat = s.sw.vat := by
  unfold State.joinIn; grind [State.transmit_vat, State.raise_vat, State.put_vat, State.setPair_vat, State.driveIlk_vat, State.disarm_vat, State.startTransfer_vat, State.enterSync_vat, State.startClaim_vat]
@[simp] theorem State.startPairing_vat (s : State) (alt : Bool) : (State.startPairing s alt).sw.vat = s.sw.vat := by
  simp [State.startPairing, apply_ite State.sw, apply_ite SwS.vat]
@[simp] theorem State.pairWaitEnd_vat (s : State) : (State.pairWaitEnd s).sw.vat = s.sw.vat := by
  unfold State.pairWaitEnd; grind [→ State.expire_vat_of, State.startClaim_vat]
@[simp] theorem State.rejoin_vat (s : State) : (State.rejoin s).sw.vat = s.sw.vat := by
  simp [State.rejoin, apply_ite State.sw, apply_ite SwS.vat]
@[simp] theorem State.resync_vat (s : State) : (State.resync s).sw.vat = s.sw.vat := by
  simp [State.resync, apply_ite State.sw, apply_ite SwS.vat]
@[simp] theorem State.takeOrder_vat (s : State) (on : BitVec 16) : ((State.takeOrder s on).1).sw.vat = s.sw.vat := by
  unfold State.takeOrder; grind [State.put_vat, State.orderSet_vat]
theorem State.takeOrder_vat_of (s : State) (on : BitVec 16) {sx : State} {qx : Bool} (h : State.takeOrder s on = (sx, qx)) : sx.sw.vat = s.sw.vat := by
  have e := State.takeOrder_vat s on
  rw [h] at e
  exact e
@[simp] theorem State.seqFollow_vat (s : State) (f : Frame) : (State.seqFollow s f).sw.vat = s.sw.vat := by
  simp [State.seqFollow]
@[simp] theorem State.pressFollow_vat (s : State) (f : Frame) : (State.pressFollow s f).sw.vat = s.sw.vat := by
  unfold State.pressFollow; grind [State.pressTouch_vat, State.setCtx_vat, State.roomForCtx_vat]
@[simp] theorem State.cancelHeld_vat (s : State) (f : Frame) : (State.cancelHeld s f).sw.vat = s.sw.vat := by
  simp [State.cancelHeld]
@[simp] theorem State.progressIn_vat (s : State) (p : Nat) (seq : BitVec 16) :
    (State.progressIn s p seq).sw.vat = s.sw.vat := by
  unfold State.progressIn; grind [→ State.unlink_vat_of, State.setCan_vat, State.canFill_vat, State.setMac_vat, State.macFill_vat]
@[simp] theorem State.holdExpire_vat (s : State) : (State.holdExpire s).sw.vat = s.sw.vat := by
  unfold State.holdExpire; split <;> simp [apply_ite State.sw, apply_ite SwS.vat]
@[simp] theorem State.digestSend_vat (s : State) : (State.digestSend s).sw.vat = s.sw.vat := by
  unfold State.digestSend; split <;> simp [apply_ite State.sw, apply_ite SwS.vat]
@[simp] theorem State.digestMiss_vat (s : State) : (State.digestMiss s).sw.vat = s.sw.vat := by
  unfold State.digestMiss; grind [State.raise_vat, State.bump_vat, State.put_vat, State.enterOos_vat]
@[simp] theorem State.digestOrder_vat (s : State) (p : List Word) : (State.digestOrder s p).sw.vat = s.sw.vat := by
  simp [State.digestOrder, apply_ite State.sw, apply_ite SwS.vat]
@[simp] theorem State.digestVerdict_vat (s : State) (on : Nat) (eq : Bool) :
    (State.digestVerdict s on eq).sw.vat = s.sw.vat := by
  simp [State.digestVerdict, apply_ite State.sw, apply_ite SwS.vat]
@[simp] theorem State.digestReturned_vat (s : State) (on : Nat) (p : List Word) :
    (State.digestReturned s on p).sw.vat = s.sw.vat := by
  unfold State.digestReturned; split <;> simp [apply_ite State.sw, apply_ite SwS.vat]
@[simp] theorem State.digestBack_vat (s : State) (p : List Word) : (State.digestBack s p).sw.vat = s.sw.vat := by
  simp [State.digestBack]
@[simp] theorem State.digestIn_vat (s : State) (on : BitVec 16) (p : List Word) :
    (State.digestIn s on p).sw.vat = s.sw.vat := by
  simp [State.digestIn, apply_ite State.sw, apply_ite SwS.vat]
@[simp] theorem State.transferFailed_vat (s : State) : (State.transferFailed s).sw.vat = s.sw.vat := by
  unfold State.transferFailed; grind [State.transferAgain_vat, State.bump_vat, State.raise_vat, State.enterOos_vat, State.enterSync_vat]
@[simp] theorem State.transferTimeout_vat (s : State) : (State.transferTimeout s).sw.vat = s.sw.vat := by
  unfold State.transferTimeout; grind [→ State.expire_vat_of, State.transferFailed_vat]
@[simp] theorem State.takeSession_vat (s : State) (x : Session) (age : Nat) (left : Option Nat) :
    (State.takeSession s x age left).sw.vat = s.sw.vat := by
  unfold State.takeSession; split <;> simp [apply_ite State.sw, apply_ite SwS.vat]
@[simp] theorem State.handoverRelease_vat (s : State) (fault : Bool) : (State.handoverRelease s fault).sw.vat = s.sw.vat := by
  unfold State.handoverRelease; grind [State.wr_vat, State.driveIlk_vat, State.twinDown_vat, State.setPair_vat, State.put_vat, State.enterSafe_vat, State.enterSync_vat]
@[simp] theorem State.ackIn_vat (s : State) (on : BitVec 16) : (State.ackIn s on).sw.vat = s.sw.vat := by
  unfold State.ackIn; grind [State.disarm_vat, State.arm_vat, State.placeWaiting_vat, State.handoverRelease_vat]
@[simp] theorem State.nakIn_vat (s : State) (on : BitVec 16) : (State.nakIn s on).sw.vat = s.sw.vat := by
  simp [State.nakIn, apply_ite State.sw, apply_ite SwS.vat]
@[simp] theorem State.ackTimeout_vat (s : State) : (State.ackTimeout s).sw.vat = s.sw.vat := by
  unfold State.ackTimeout; grind [→ State.expire_vat_of, State.resendOrders_vat]
@[simp] theorem State.backlogFull_vat (s : State) : (State.backlogFull s).sw.vat = s.sw.vat := by
  unfold State.backlogFull; grind [→ State.expire_vat_of, State.startTransfer_vat]
@[simp] theorem State.startHandover_vat (s : State) (c : Option Cmd) : (State.startHandover s c).sw.vat = s.sw.vat := by
  simp [State.startHandover]
@[simp] theorem State.handoverIn_vat (s : State) (on : BitVec 16) : (State.handoverIn s on).sw.vat = s.sw.vat := by
  simp [State.handoverIn, apply_ite State.sw, apply_ite SwS.vat]
@[simp] theorem State.progressOrderIn_vat (s : State) (on : BitVec 16) (p : List Word) :
    (State.progressOrderIn s on p).sw.vat = s.sw.vat := by
  simp [State.progressOrderIn, apply_ite State.sw, apply_ite SwS.vat]
@[simp] theorem State.channelOrderIn_vat (s : State) (on : BitVec 16) (p : List Word) :
    (State.channelOrderIn s on p).sw.vat = s.sw.vat := by
  simp [State.channelOrderIn, apply_ite State.sw, apply_ite SwS.vat]
@[simp] theorem State.pairCleared_vat (s : State) : (State.pairCleared s).sw.vat = s.sw.vat := by
  simp [State.pairCleared]
@[simp] theorem State.leavePair_vat (s : State) : (State.leavePair s).sw.vat = s.sw.vat := by
  simp [State.leavePair]

/-! ### Quiesce -/

@[simp] theorem State.resetRegs_vat (s : State) (p : Cls → Nat → Bool) : (State.resetRegs s p).sw.vat = s.sw.vat := by
  simp [State.resetRegs]
@[simp] theorem State.loadRecord_vat (s : State) (isl : Nat → Bool) (e : Nat × Word) :
    (State.loadRecord s isl e).sw.vat = s.sw.vat := by
  unfold State.loadRecord; split <;> simp [apply_ite State.sw, apply_ite SwS.vat]
@[simp] theorem State.loadProfile_vat (s : State) (isl : Nat → Bool) : (State.loadProfile s isl).sw.vat = s.sw.vat := by
  simp [State.loadProfile, apply_ite State.sw, apply_ite SwS.vat]

/-! ### ResetOps -/

@[simp] theorem State.setRst_vat (s : State) (i : Nat) (on : Bool) : (State.setRst s i on).sw.vat = s.sw.vat := by
  simp [State.setRst]
@[simp] theorem State.setResync_vat (s : State) (i : Nat) (on : Bool) : (State.setResync s i on).sw.vat = s.sw.vat := by
  simp [State.setResync]
@[simp] theorem State.setIslRst_vat (s : State) (i : Nat) (on : Bool) : (State.setIslRst s i on).sw.vat = s.sw.vat := by
  simp [State.setIslRst]
@[simp] theorem State.dropHold_vat (s : State) : (State.dropHold s).sw.vat = s.sw.vat := by
  simp [State.dropHold, apply_ite State.sw, apply_ite SwS.vat]
@[simp] theorem State.dropToward_vat (s : State) (i : Nat) : (State.dropToward s i).sw.vat = s.sw.vat := by
  simp [State.dropToward, apply_ite State.sw, apply_ite SwS.vat]
@[simp] theorem State.swcCleared_vat (s : State) : (State.swcCleared s).sw.vat = s.sw.vat := by
  simp [State.swcCleared]
@[simp] theorem State.dropStore_vat (s : State) : (State.dropStore s).sw.vat = s.sw.vat := by
  unfold State.dropStore; split <;> simp [apply_ite State.sw, apply_ite SwS.vat]
@[simp] theorem State.loseSessions_vat (s : State) : (State.loseSessions s).sw.vat = s.sw.vat := by
  simp [State.loseSessions]
@[simp] theorem State.mgtCleared_vat (s : State) : (State.mgtCleared s).sw.vat = s.sw.vat := by
  simp [State.mgtCleared]
@[simp] theorem State.laneCleared_vat (s : State) (l : Nat) : (State.laneCleared s l).sw.vat = s.sw.vat := by
  unfold State.laneCleared; grind [State.bump_vat, State.cutLane_vat, State.clearLive_vat, State.disarm_vat, State.twinDown_vat, State.disarmAll_vat]
@[simp] theorem State.clearIsland_vat (s : State) (i : Nat) : (State.clearIsland s i).sw.vat = s.sw.vat := by
  simp [State.clearIsland, apply_ite State.sw, apply_ite SwS.vat]
@[simp] theorem State.assertReset_vat (s : State) (i : Nat) (p : Cls → Bool) :
    (State.assertReset s i p).sw.vat = s.sw.vat := by
  unfold State.assertReset; grind [State.keepCounters_vat, State.clearIsland_vat, State.dropToward_vat, State.resetRegs_vat, State.setResync_vat, State.setRst_vat, State.repeatJoin_vat, State.settleNet_vat]
@[simp] theorem State.islReset_vat (s : State) (i : Nat) : (State.islReset s i).sw.vat = s.sw.vat := by
  simp [State.islReset, apply_ite State.sw, apply_ite SwS.vat]
@[simp] theorem State.releaseIsland_vat (s : State) (i : Nat) : (State.releaseIsland s i).sw.vat = s.sw.vat := by
  simp [State.releaseIsland, apply_ite State.sw, apply_ite SwS.vat]
@[simp] theorem State.islRelease_vat (s : State) (i : Nat) : (State.islRelease s i).sw.vat = s.sw.vat := by
  unfold State.islRelease; grind [→ State.expire_vat_of, State.releaseIsland_vat]
@[simp] theorem State.resyncToken_vat (s : State) (i : Nat) : (State.resyncToken s i).sw.vat = s.sw.vat := by
  simp [State.resyncToken, apply_ite State.sw, apply_ite SwS.vat]
@[simp] theorem State.handshakeEnd_vat (s : State) (a : Nat) (b : Nat) : (State.handshakeEnd s a b).sw.vat = s.sw.vat := by
  simp [State.handshakeEnd, apply_ite State.sw, apply_ite SwS.vat]
@[simp] theorem State.clockStop_vat (s : State) (i : Nat) : (State.clockStop s i).sw.vat = s.sw.vat := by
  unfold State.clockStop; grind [State.wr_vat, State.dropHold_vat, State.setLive_vat]
@[simp] theorem State.clockResume_vat (s : State) (i : Nat) : (State.clockResume s i).sw.vat = s.sw.vat := by
  unfold State.clockResume; grind [State.clearLive_vat, State.wr_vat]
@[simp] theorem State.powerDown_vat (s : State) (i : Nat) : (State.powerDown s i).sw.vat = s.sw.vat := by
  unfold State.powerDown; grind [State.sayLeaving_vat, State.wr_vat, State.resetRegs_vat, State.assertReset_vat, State.disarm_vat, State.setIslRst_vat, State.dropHold_vat, State.repeatJoin_vat]
@[simp] theorem State.powerMask_vat (s : State) (m : Nat) : (State.powerMask s m).sw.vat = s.sw.vat := by
  simp [State.powerMask, apply_ite State.sw, apply_ite SwS.vat]
@[simp] theorem State.powerUp_vat (s : State) (i : Nat) : (State.powerUp s i).sw.vat = s.sw.vat := by
  unfold State.powerUp; grind [→ State.expire_vat_of, State.loadProfile_vat, State.wr_vat, State.releaseIsland_vat]
@[simp] theorem State.pwrAfterPark_vat (s : State) : (State.pwrAfterPark s).sw.vat = s.sw.vat := by
  simp [State.pwrAfterPark, apply_ite State.sw, apply_ite SwS.vat]
@[simp] theorem State.putStraps_vat (s : State) (st : Straps) : (State.putStraps s st).sw.vat = s.sw.vat := by
  simp [State.putStraps]
@[simp] theorem State.startOver_vat (s : State) (kind : ResetKind) : (State.startOver s kind).sw.vat = s.sw.vat := by
  simp [State.startOver]
@[simp] theorem State.chipReset_vat (s : State) (kind : ResetKind) : (State.chipReset s kind).sw.vat = s.sw.vat := by
  simp only [State.chipReset, State.expire]; (repeat' split) <;> simp_all [apply_ite State.sw, apply_ite SwS.vat]
@[simp] theorem State.hold_vat (s : State) : (State.hold s).sw.vat = s.sw.vat := by
  simp [State.hold]
@[simp] theorem State.resetN_vat (s : State) (low : Bool) (st : Straps) : (State.resetN s low st).sw.vat = s.sw.vat := by
  simp [State.resetN, apply_ite State.sw, apply_ite SwS.vat]
@[simp] theorem State.railDrop_vat (s : State) (r : Rail) : (State.railDrop s r).sw.vat = s.sw.vat := by
  unfold State.railDrop; grind [State.chipReset_vat, State.hold_vat, State.setLive_vat]
@[simp] theorem State.switchReset_vat (s : State) : (State.switchReset s).sw.vat = s.sw.vat := by
  simp [State.switchReset]
@[simp] theorem State.enterSleep_vat (s : State) : (State.enterSleep s).sw.vat = s.sw.vat := by
  simp [State.enterSleep, apply_ite State.sw, apply_ite SwS.vat]
@[simp] theorem State.wakeFall_vat (s : State) : (State.wakeFall s).sw.vat = s.sw.vat := by
  simp [State.wakeFall, apply_ite State.sw, apply_ite SwS.vat]
@[simp] theorem State.wakeUp_vat (s : State) : (State.wakeUp s).sw.vat = s.sw.vat := by
  unfold State.wakeUp; grind [State.wr_vat, State.resetRegs_vat, State.putStraps_vat, State.arm_vat, State.startOver_vat]
@[simp] theorem State.wakeHigh_vat (s : State) : (State.wakeHigh s).sw.vat = s.sw.vat := by
  simp [State.wakeHigh, apply_ite State.sw, apply_ite SwS.vat]
@[simp] theorem State.wakeRise_vat (s : State) : (State.wakeRise s).sw.vat = s.sw.vat := by
  simp [State.wakeRise, apply_ite State.sw, apply_ite SwS.vat]
@[simp] theorem State.canWakeUp_vat (s : State) (n : Nat) (f : Option CanFrame) :
    (State.canWakeUp s n f).sw.vat = s.sw.vat := by
  simp [State.canWakeUp, apply_ite State.sw, apply_ite SwS.vat]

/-! ### ReactOps -/

@[simp] theorem State.reactionRecord_vat (s : State) (src : Nat) (r : Nat) :
    (State.reactionRecord s src r).sw.vat = s.sw.vat := by
  simp [State.reactionRecord]
@[simp] theorem State.reactedOnly_vat (s : State) (src : Nat) (counted : Bool) :
    (State.reactedOnly s src counted).sw.vat = s.sw.vat := by
  simp [State.reactedOnly, apply_ite State.sw, apply_ite SwS.vat]
@[simp] theorem State.reactTaken_vat (s : State) (srcs : List Nat) (r : Nat) :
    (State.reactTaken s srcs r).sw.vat = s.sw.vat := by
  unfold State.reactTaken; split <;> simp [apply_ite State.sw, apply_ite SwS.vat]
@[simp] theorem State.reactSafe_vat (s : State) (srcs : List Nat) : (State.reactSafe s srcs).sw.vat = s.sw.vat := by
  unfold State.reactSafe; grind [State.enterSafe_vat, State.updateAlive_vat, State.reactTaken_vat]
@[simp] theorem State.holdReaction_vat (s : State) (srcs : List Nat) : (State.holdReaction s srcs).sw.vat = s.sw.vat := by
  simp [State.holdReaction]
@[simp] theorem State.reactAsSafe_vat (s : State) (srcs : List Nat) : (State.reactAsSafe s srcs).sw.vat = s.sw.vat := by
  simp [State.reactAsSafe, apply_ite State.sw, apply_ite SwS.vat]
@[simp] theorem State.reactIsland_vat (s : State) (srcs : List Nat) : (State.reactIsland s srcs).sw.vat = s.sw.vat := by
  simp [State.reactIsland, apply_ite State.sw, apply_ite SwS.vat]
@[simp] theorem State.reactHandover_vat (s : State) (srcs : List Nat) : (State.reactHandover s srcs).sw.vat = s.sw.vat := by
  unfold State.reactHandover; grind [State.updateAlive_vat, State.startHandover_vat, State.reactTaken_vat, State.reactAsSafe_vat]
@[simp] theorem State.reactChip_vat (s : State) (srcs : List Nat) : (State.reactChip s srcs).sw.vat = s.sw.vat := by
  simp [State.reactChip]
@[simp] theorem State.reactBy_vat (s : State) (r : Nat) (srcs : List Nat) : (State.reactBy s r srcs).sw.vat = s.sw.vat := by
  simp [State.reactBy, apply_ite State.sw, apply_ite SwS.vat]
@[simp] theorem State.takeDue_vat (s : State) : (State.takeDue s).sw.vat = s.sw.vat := by
  simp [State.takeDue, apply_ite State.sw, apply_ite SwS.vat]
@[simp] theorem State.settle_vat (s : State) : (State.settle s).sw.vat = s.sw.vat := by
  simp [State.settle, apply_ite State.sw, apply_ite SwS.vat]
@[simp] theorem State.graceExpire_vat (s : State) (src : Nat) : (State.graceExpire s src).sw.vat = s.sw.vat := by
  unfold State.graceExpire; grind [→ State.expire_vat_of, State.put_vat]
@[simp] theorem State.reactionComplete_vat (s : State) : (State.reactionComplete s).sw.vat = s.sw.vat := by
  unfold State.reactionComplete; grind [State.updateAlive_vat]
@[simp] theorem State.clearInst_vat (s : State) (src : Nat) (keep : BitVec 64) :
    (State.clearInst s src keep).sw.vat = s.sw.vat := by
  simp [State.clearInst]
@[simp] theorem State.faultAck_vat (s : State) (src : Nat) (clear : Bool) :
    (State.faultAck s src clear).sw.vat = s.sw.vat := by
  unfold State.faultAck; grind [State.settle_vat, State.graceExpire_vat, State.clearInst_vat, State.disarm_vat, State.put_vat, State.faultRecord_vat, State.faultEvent_vat, State.updateAlive_vat]
@[simp] theorem State.collectorCheck_vat (s : State) : (State.collectorCheck s).sw.vat = s.sw.vat := by
  unfold State.collectorCheck; grind [State.raise_vat, State.put_vat]
@[simp] theorem State.fltInject_vat (s : State) : (State.fltInject s).sw.vat = s.sw.vat := by
  simp [State.fltInject]
@[simp] theorem State.pulseEnd_vat (s : State) : (State.pulseEnd s).sw.vat = s.sw.vat := by
  unfold State.pulseEnd; grind [→ State.expire_vat_of, State.arm_vat, State.faultPulse_vat]
@[simp] theorem State.aliveToggle_vat (s : State) : (State.aliveToggle s).sw.vat = s.sw.vat := by
  unfold State.aliveToggle; grind [→ State.expire_vat_of, State.arm_vat, State.updateAlive_vat]
@[simp] theorem State.upset_vat (s : State) (src : Nat) (inst : Nat) (place : Nat) (bits : Nat) :
    (State.upset s src inst place bits).sw.vat = s.sw.vat := by
  unfold State.upset; grind [State.raise_vat, State.setEng_vat]
@[simp] theorem State.sourceRaise_vat (s : State) (src : Nat) (inst : Nat) (e : Edge) :
    (State.sourceRaise s src inst e).sw.vat = s.sw.vat := by
  unfold State.sourceRaise; grind [State.upset_vat, State.updateAlive_vat, State.clearLive_vat, State.stopEngine_vat, → State.crossToAon_vat_of, State.raise_vat, State.setLive_vat]

/-! ### MgtOps -/

@[simp] theorem State.lockstep_vat (s : State) (g : Nat) : (State.lockstep s g).sw.vat = s.sw.vat := by
  unfold State.lockstep; grind [State.raise_vat, State.put_vat]
@[simp] theorem State.localWdg_vat (s : State) : (State.localWdg s).sw.vat = s.sw.vat := by
  unfold State.localWdg; grind [State.raise_vat, State.sat_vat]
@[simp] theorem State.tempLimit_vat (s : State) (k : Nat) (src : Nat) (limit : Nat) (crit : Bool) :
    (State.tempLimit s k src limit crit).sw.vat = s.sw.vat := by
  simp only [State.tempLimit, State.expire]; (repeat' split) <;> simp_all [apply_ite State.sw, apply_ite SwS.vat]
@[simp] theorem State.tempCheck_vat (s : State) (k : Nat) : (State.tempCheck s k).sw.vat = s.sw.vat := by
  simp [State.tempCheck]
@[simp] theorem State.sensorRead_vat (s : State) (r : Sensor) : (State.sensorRead s r).sw.vat = s.sw.vat := by
  unfold State.sensorRead
  extract_lets _ s0
  have h0 : s0.sw.vat = s.sw.vat := by simp only [s0]; split <;> rfl
  clear_value s0
  split
  · exact h0
  · refine (State.updateAlive_vat _).trans ?_
    split
    · simp [h0]
    · split <;> simp [h0]
    · extract_lets s1
      have h1 : s1.sw.vat = s.sw.vat := by simp [s1, h0]
      clear_value s1
      split
      · exact h1
      · split <;> simp [h1]

@[simp] theorem State.logMirror_vat (s : State) : (State.logMirror s).sw.vat = s.sw.vat := by
  simp [State.logMirror, apply_ite State.sw, apply_ite SwS.vat]
@[simp] theorem State.wdgReset_vat (s : State) (pending : Option Nat) : (State.wdgReset s pending).sw.vat = s.sw.vat := by
  simp [State.wdgReset]
@[simp] theorem State.kick_vat (s : State) (v : Nat) : (State.kick s v).sw.vat = s.sw.vat := by
  simp [State.kick, apply_ite State.sw, apply_ite SwS.vat]
@[simp] theorem State.wdgExpire_vat (s : State) (pending : Option Nat) : (State.wdgExpire s pending).sw.vat = s.sw.vat := by
  unfold State.wdgExpire; grind [→ State.expire_vat_of, State.wdgReset_vat]
@[simp] theorem State.sramScrub_vat (s : State) (found : EccResult) (core : Bool) :
    (State.sramScrub s found core).sw.vat = s.sw.vat := by
  unfold State.sramScrub; grind [State.bump_vat, State.raise_vat]

/-! ### BootOps -/

@[simp] theorem State.setSlot_vat (s : State) (t : Nat) (x : Slot) : (State.setSlot s t x).sw.vat = s.sw.vat := by
  simp [State.setSlot]
@[simp] theorem State.logUpdate_vat (s : State) (op : Nat) (slot : Nat) (status : Status) :
    (State.logUpdate s op slot status).sw.vat = s.sw.vat := by
  simp [State.logUpdate]
@[simp] theorem State.setSlotState_vat (s : State) (t : Nat) (st : Nat) (op : Nat) (status : Status) :
    (State.setSlotState s t st op status).sw.vat = s.sw.vat := by
  simp [State.setSlotState]
@[simp] theorem State.revokeOld_vat (s : State) (t : Nat) : (State.revokeOld s t).sw.vat = s.sw.vat := by
  simp [State.revokeOld, apply_ite State.sw, apply_ite SwS.vat]
@[simp] theorem State.chooseSlot_vat (s : State) : ((State.chooseSlot s).1).sw.vat = s.sw.vat := by
  unfold State.chooseSlot; grind [State.setSlot_vat, State.raise_vat]
theorem State.chooseSlot_vat_of (s : State) {sx : State} {qx : Option Nat} (h : State.chooseSlot s = (sx, qx)) : sx.sw.vat = s.sw.vat := by
  have e := State.chooseSlot_vat s
  rw [h] at e
  exact e
@[simp] theorem State.setMarks_vat (s : State) (n : Nat) (m : Marks) : (State.setMarks s n m).sw.vat = s.sw.vat := by
  simp [State.setMarks]
@[simp] theorem State.enterRecovery_vat (s : State) (chosen : Nat) : (State.enterRecovery s chosen).sw.vat = s.sw.vat := by
  simp [State.enterRecovery]
@[simp] theorem State.profileLoaded_vat (s : State) (p : Nat) (defaults : Bool) :
    (State.profileLoaded s p defaults).sw.vat = s.sw.vat := by
  simp [State.profileLoaded]
@[simp] theorem State.endOfBoot_vat (s : State) (forceSafe : Bool) : (State.endOfBoot s forceSafe).sw.vat = s.sw.vat := by
  simp [State.endOfBoot, apply_ite State.sw, apply_ite SwS.vat]
@[simp] theorem State.splitDecision_vat (s : State) : (State.splitDecision s).sw.vat = s.sw.vat := by
  simp [State.splitDecision, apply_ite State.sw, apply_ite SwS.vat]
@[simp] theorem State.logLastLife_vat (s : State) : (State.logLastLife s).sw.vat = s.sw.vat := by
  simp [State.logLastLife, apply_ite State.sw, apply_ite SwS.vat]
@[simp] theorem State.logStepRecs_vat (s : State) : (State.logStepRecs s).sw.vat = s.sw.vat := by
  simp [State.logStepRecs]
@[simp] theorem State.finishBurn_vat (s : State) : (State.finishBurn s).sw.vat = s.sw.vat := by
  simp [State.finishBurn, apply_ite State.sw, apply_ite SwS.vat]
@[simp] theorem State.logStart_vat (s : State) : (State.logStart s).sw.vat = s.sw.vat := by
  simp [State.logStart, apply_ite State.sw, apply_ite SwS.vat]
@[simp] theorem State.lanesFollow_vat (s : State) : (State.lanesFollow s).sw.vat = s.sw.vat := by
  simp [State.lanesFollow, apply_ite State.sw, apply_ite SwS.vat]
@[simp] theorem State.stepWork_vat (s : State) (n : Nat) (r : StepResult) : (State.stepWork s n r).sw.vat = s.sw.vat := by
  unfold State.stepWork; split <;> simp [apply_ite State.sw, apply_ite SwS.vat]
@[simp] theorem State.stepBegin_vat (s : State) (n : Nat) (alt : Bool) : (State.stepBegin s n alt).sw.vat = s.sw.vat := by
  unfold State.stepBegin; grind [State.setMarks_vat, State.startPairing_vat, State.setRate_vat]
@[simp] theorem State.stepFailNote_vat (s : State) (n : Nat) (c : Nat) (act : Nat) :
    (State.stepFailNote s n c act).sw.vat = s.sw.vat := by
  unfold State.stepFailNote; grind [State.raise_vat, State.log_vat]
@[simp] theorem State.skipB14_vat (s : State) : (State.skipB14 s).sw.vat = s.sw.vat := by
  simp [State.skipB14]
@[simp] theorem State.reachStep_vat (x0 : Nat) (x1 : Nat) (x2 : State) : (State.reachStep x0 x1 x2).sw.vat = x2.sw.vat := by
  (induction x0 generalizing x1 x2) <;> (unfold State.reachStep; grind [State.profileLoaded_vat, State.skipB14_vat, State.stepFailNote_vat, State.setMarks_vat, State.enterRecovery_vat, State.stepBegin_vat, State.endOfBoot_vat])
@[simp] theorem State.stepDone_vat (s : State) (n : Nat) (r : StepResult) : (State.stepDone s n r).sw.vat = s.sw.vat := by
  simp [State.stepDone, apply_ite State.sw, apply_ite SwS.vat]
@[simp] theorem State.stepFailed_vat (s : State) (n : Nat) : (State.stepFailed s n).sw.vat = s.sw.vat := by
  simp [State.stepFailed, apply_ite State.sw, apply_ite SwS.vat]
@[simp] theorem State.drawChallenge_vat (s : State) : (State.drawChallenge s).sw.vat = s.sw.vat := by
  simp [State.drawChallenge]
@[simp] theorem State.bootStart_vat (s : State) : (State.bootStart s).sw.vat = s.sw.vat := by
  simp [State.bootStart, apply_ite State.sw, apply_ite SwS.vat]
@[simp] theorem State.bootImage_vat (s : State) (r : StepResult) : (State.bootImage s r).sw.vat = s.sw.vat := by
  unfold State.bootImage; grind [→ State.chooseSlot_vat_of, State.revokeOld_vat, State.stepFailed_vat, State.put_vat, State.stepDone_vat, State.wr_vat]
@[simp] theorem State.bootProfile_vat (s : State) (r : StepResult) : (State.bootProfile s r).sw.vat = s.sw.vat := by
  simp [State.bootProfile, apply_ite State.sw, apply_ite SwS.vat]
@[simp] theorem State.bootStepDone_vat (s : State) (r : StepResult) : (State.bootStepDone s r).sw.vat = s.sw.vat := by
  unfold State.bootStepDone; split <;> simp [apply_ite State.sw, apply_ite SwS.vat]

/-! ### CmdOps -/

@[simp] theorem State.auditRefusal_vat (s : State) (denied : Bool) (f : Frame) (st : Status) (data : List Word) :
    (State.auditRefusal s denied f st data).sw.vat = s.sw.vat := by
  unfold State.auditRefusal; grind [State.log_vat]
@[simp] theorem State.noteAuthFail_vat (s : State) (f : Frame) : (State.noteAuthFail s f).sw.vat = s.sw.vat := by
  unfold State.noteAuthFail; grind [State.sat_vat, State.auditRefusal_vat, State.raise_vat]
@[simp] theorem State.noteRefusal_vat (s : State) (f : Frame) (st : Status) (step5 : Bool) :
    (State.noteRefusal s f st step5).sw.vat = s.sw.vat := by
  simp [State.noteRefusal, apply_ite State.sw, apply_ite SwS.vat]
@[simp] theorem State.auditCmd_vat (s : State) (f : Frame) (st : Status) : (State.auditCmd s f st).sw.vat = s.sw.vat := by
  unfold State.auditCmd; split <;> simp [apply_ite State.sw, apply_ite SwS.vat]
@[simp] theorem State.romSend_vat (s : State) (f : Frame) : (State.romSend s f).sw.vat = s.sw.vat := by
  unfold State.romSend; grind [→ State.takeSeq_vat_of, → State.sealFrame_vat_of, State.spendSessions_vat, State.bump_vat, State.rxWrite_vat, State.transmit_vat]
@[simp] theorem State.sendOwn_vat (s : State) (f : Frame) : (State.sendOwn s f).sw.vat = s.sw.vat := by
  simp [State.sendOwn, apply_ite State.sw, apply_ite SwS.vat]
@[simp] theorem State.romFlush_vat (s : State) : (State.romFlush s).sw.vat = s.sw.vat := by
  simp [State.romFlush, apply_ite State.sw, apply_ite SwS.vat]
@[simp] theorem State.cachePut_vat (s : State) (f : Frame) (reply : Frame) :
    (State.cachePut s f reply).sw.vat = s.sw.vat := by
  simp [State.cachePut, apply_ite State.sw, apply_ite SwS.vat]
@[simp] theorem State.unserve_vat (s : State) (c : Cmd) : (State.unserve s c).sw.vat = s.sw.vat := by
  simp [State.unserve]
@[simp] theorem State.putSlot_vat (s : State) (ring : Nat) (tail : Nat) (f : Frame) :
    (State.putSlot s ring tail f).sw.vat = s.sw.vat := by
  simp [State.putSlot]
@[simp] theorem State.respond_vat (s : State) (f : Frame) : (State.respond s f).sw.vat = s.sw.vat := by
  simp [State.respond]
@[simp] theorem State.reply_vat (s : State) (c : Cmd) (ordered : Bool) (a : Answer) :
    (State.reply s c ordered a).sw.vat = s.sw.vat := by
  simp [State.reply, apply_ite State.sw, apply_ite SwS.vat]
@[simp] theorem State.answer_vat (s : State) (c : Cmd) (ordered : Bool) (a : Answer) :
    (State.answer s c ordered a).sw.vat = s.sw.vat := by
  simp [State.answer, apply_ite State.sw, apply_ite SwS.vat]
@[simp] theorem State.release_vat (s : State) (c : Cmd) (r : Option Frame) : (State.release s c r).sw.vat = s.sw.vat := by
  simp [State.release, apply_ite State.sw, apply_ite SwS.vat]
@[simp] theorem State.finish_vat (s : State) (c : Cmd) (ordered : Bool) (a : Answer) :
    (State.finish s c ordered a).sw.vat = s.sw.vat := by
  unfold State.finish; (repeat' split) <;> simp_all [apply_ite State.sw, apply_ite SwS.vat]
@[simp] theorem State.complete_vat (s : State) (c : Cmd) (st : Status) (payload : List Word) :
    (State.complete s c st payload).sw.vat = s.sw.vat := by
  simp [State.complete, apply_ite State.sw, apply_ite SwS.vat]
@[simp] theorem State.setSession_vat (s : State) (x : Session) : (State.setSession s x).sw.vat = s.sw.vat := by
  simp [State.setSession]
@[simp] theorem State.dropVerify_vat (s : State) : (State.dropVerify s).sw.vat = s.sw.vat := by
  unfold State.dropVerify; split <;> simp [apply_ite State.sw, apply_ite SwS.vat]
@[simp] theorem State.abandonUpdate_vat (s : State) (n : BitVec 16) : (State.abandonUpdate s n).sw.vat = s.sw.vat := by
  simp [State.abandonUpdate, apply_ite State.sw, apply_ite SwS.vat]
@[simp] theorem State.dropSessions_vat (s : State) (p : Session → Bool) : (State.dropSessions s p).sw.vat = s.sw.vat := by
  simp [State.dropSessions]
@[simp] theorem State.closeSession_vat (s : State) (n : BitVec 16) (cause : Nat) :
    (State.closeSession s n cause).sw.vat = s.sw.vat := by
  unfold State.closeSession; split <;> simp [apply_ite State.sw, apply_ite SwS.vat]
@[simp] theorem State.armIdle_vat (s : State) (n : BitVec 16) : (State.armIdle s n).sw.vat = s.sw.vat := by
  simp [State.armIdle, apply_ite State.sw, apply_ite SwS.vat]
@[simp] theorem State.touchSession_vat (s : State) (n : BitVec 16) : (State.touchSession s n).sw.vat = s.sw.vat := by
  unfold State.touchSession; split <;> simp [apply_ite State.sw, apply_ite SwS.vat]
@[simp] theorem State.freeSession_vat (s : State) : ((State.freeSession s).2).sw.vat = s.sw.vat := by
  simp [State.freeSession]
theorem State.freeSession_vat_of (s : State) {sx : BitVec 16} {qx : State} (h : State.freeSession s = (sx, qx)) : qx.sw.vat = s.sw.vat := by
  have e := State.freeSession_vat s
  rw [h] at e
  exact e
@[simp] theorem State.openSession_vat (s : State) (f : Frame) (x : KeyExchange) :
    ((State.openSession s f x).1).sw.vat = s.sw.vat := by
  unfold State.openSession; grind [→ State.freeSession_vat_of, → State.freshWords_vat_of, State.armIdle_vat, State.arm_vat, State.log_vat, State.disarmAll_vat, State.setSession_vat, State.sessionOrder_vat]
theorem State.openSession_vat_of (s : State) (f : Frame) (x : KeyExchange) {sx : State} {qx : Answer} (h : State.openSession s f x = (sx, qx)) : sx.sw.vat = s.sw.vat := by
  have e := State.openSession_vat s f x
  rw [h] at e
  exact e
@[simp] theorem State.sessIdle_vat (s : State) (n : BitVec 16) : (State.sessIdle s n).sw.vat = s.sw.vat := by
  unfold State.sessIdle; grind [→ State.expire_vat_of, State.closeSession_vat]
@[simp] theorem State.sessUnused_vat (s : State) (n : BitVec 16) : (State.sessUnused s n).sw.vat = s.sw.vat := by
  unfold State.sessUnused; grind [→ State.expire_vat_of, State.closeSession_vat]
@[simp] theorem State.sessSpent_vat (s : State) (n : BitVec 16) : (State.sessSpent s n).sw.vat = s.sw.vat := by
  unfold State.sessSpent; grind [→ State.expire_vat_of, State.closeSession_vat]
@[simp] theorem State.sessionOpened_vat (s : State) (n : BitVec 16) : (State.sessionOpened s n).sw.vat = s.sw.vat := by
  simp [State.sessionOpened, apply_ite State.sw, apply_ite SwS.vat]
@[simp] theorem State.sessionClosing_vat (s : State) (n : BitVec 16) : (State.sessionClosing s n).sw.vat = s.sw.vat := by
  unfold State.sessionClosing; split <;> simp [apply_ite State.sw, apply_ite SwS.vat]
@[simp] theorem State.rekeyClose_vat (s : State) (n : BitVec 16) : (State.rekeyClose s n).sw.vat = s.sw.vat := by
  simp [State.rekeyClose, apply_ite State.sw, apply_ite SwS.vat]

/-! ### SecOps -/

@[simp] theorem State.ownerStart_vat (s : State) (w : Word) : (State.ownerStart s w).sw.vat = s.sw.vat := by
  simp [State.ownerStart, apply_ite State.sw, apply_ite SwS.vat]
@[simp] theorem State.otpDone_vat (s : State) (ok : Bool) : (State.otpDone s ok).sw.vat = s.sw.vat := by
  unfold State.otpDone; split <;> simp [apply_ite State.sw, apply_ite SwS.vat]
@[simp] theorem State.unlockStart_vat (s : State) (k : Nat) : (State.unlockStart s k).sw.vat = s.sw.vat := by
  simp [State.unlockStart]
@[simp] theorem State.unlockDone_vat (s : State) (tokenOk : Bool) : (State.unlockDone s tokenOk).sw.vat = s.sw.vat := by
  unfold State.unlockDone; split <;> simp [apply_ite State.sw, apply_ite SwS.vat]
@[simp] theorem State.tapLoad_vat (s : State) (i : TapInstr) : (State.tapLoad s i).sw.vat = s.sw.vat := by
  simp [State.tapLoad]

/-! ### UpdateOps -/

@[simp] theorem State.openTarget_vat (s : State) (h : ImgHead) : (State.openTarget s h).sw.vat = s.sw.vat := by
  simp [State.openTarget, apply_ite State.sw, apply_ite SwS.vat]
@[simp] theorem State.updateBegin_vat (s : State) (f : Frame) : ((State.updateBegin s f).1).sw.vat = s.sw.vat := by
  unfold State.updateBegin; grind [State.openTarget_vat, State.disarm_vat]
theorem State.updateBegin_vat_of (s : State) (f : Frame) {sx : State} {qx : Status × Word} (h : State.updateBegin s f = (sx, qx)) : sx.sw.vat = s.sw.vat := by
  have e := State.updateBegin_vat s f
  rw [h] at e
  exact e
@[simp] theorem State.setUpdTarget_vat (s : State) (u : Update) (x : Slot) :
    (State.setUpdTarget s u x).sw.vat = s.sw.vat := by
  simp [State.setUpdTarget, apply_ite State.sw, apply_ite SwS.vat]
@[simp] theorem State.setUpdate_vat (s : State) (u : Update) : (State.setUpdate s u).sw.vat = s.sw.vat := by
  simp [State.setUpdate]
@[simp] theorem State.updateBlock_vat (s : State) (f : Frame) (readOk : Bool) :
    ((State.updateBlock s f readOk).1).sw.vat = s.sw.vat := by
  unfold State.updateBlock; grind [State.setUpdTarget_vat, → State.freshWords_vat_of]
theorem State.updateBlock_vat_of (s : State) (f : Frame) (readOk : Bool) {sx : State} {qx : Status} (h : State.updateBlock s f readOk = (sx, qx)) : sx.sw.vat = s.sw.vat := by
  have e := State.updateBlock_vat s f readOk
  rw [h] at e
  exact e
@[simp] theorem State.eraseDone_vat (s : State) : (State.eraseDone s).sw.vat = s.sw.vat := by
  unfold State.eraseDone; split <;> simp [apply_ite State.sw, apply_ite SwS.vat]
@[simp] theorem State.verifyStart_vat (s : State) (u : Update) (c : Option Cmd) :
    (State.verifyStart s u c).sw.vat = s.sw.vat := by
  simp [State.verifyStart, apply_ite State.sw, apply_ite SwS.vat]
@[simp] theorem State.verified_vat (s : State) (u : Update) (r : VerifyResult) :
    (State.verified s u r).sw.vat = s.sw.vat := by
  simp [State.verified]
@[simp] theorem State.profileOf_vat (s : State) (x : Slot) : ((State.profileOf s x).1).sw.vat = s.sw.vat := by
  simp [State.profileOf]
theorem State.profileOf_vat_of (s : State) (x : Slot) {sx : State} {qx : Profile} (h : State.profileOf s x = (sx, qx)) : sx.sw.vat = s.sw.vat := by
  have e := State.profileOf_vat s x
  rw [h] at e
  exact e
@[simp] theorem State.storeDone_vat (s : State) : (State.storeDone s).sw.vat = s.sw.vat := by
  unfold State.storeDone; split <;> simp [apply_ite State.sw, apply_ite SwS.vat]
@[simp] theorem State.activateSlot_vat (s : State) (t : Nat) : (State.activateSlot s t).sw.vat = s.sw.vat := by
  simp [State.activateSlot]
@[simp] theorem State.updateActivate_vat (s : State) (session : BitVec 16) :
    ((State.updateActivate s session).1).sw.vat = s.sw.vat := by
  unfold State.updateActivate; grind [State.activateSlot_vat, → State.profileOf_vat_of]
theorem State.updateActivate_vat_of (s : State) (session : BitVec 16) {sx : State} {qx : Status} (h : State.updateActivate s session = (sx, qx)) : sx.sw.vat = s.sw.vat := by
  have e := State.updateActivate_vat s session
  rw [h] at e
  exact e
@[simp] theorem State.updateConfirm_vat (s : State) : (State.updateConfirm s).sw.vat = s.sw.vat := by
  simp [State.updateConfirm, apply_ite State.sw, apply_ite SwS.vat]
@[simp] theorem State.updateAbort_vat (s : State) (session : BitVec 16) :
    ((State.updateAbort s session).1).sw.vat = s.sw.vat := by
  unfold State.updateAbort; (repeat' split) <;> simp_all [apply_ite State.sw, apply_ite SwS.vat]
theorem State.updateAbort_vat_of (s : State) (session : BitVec 16) {sx : State} {qx : Status} (h : State.updateAbort s session = (sx, qx)) : sx.sw.vat = s.sw.vat := by
  have e := State.updateAbort_vat s session
  rw [h] at e
  exact e
@[simp] theorem State.relaySend_vat (s : State) (l : Nat) (ws : List Word) : (State.relaySend s l ws).sw.vat = s.sw.vat := by
  simp [State.relaySend, apply_ite State.sw, apply_ite SwS.vat]
@[simp] theorem State.relayReq_vat (s : State) (p : Pull) (off : Nat) (n : Nat) :
    (State.relayReq s p off n).sw.vat = s.sw.vat := by
  simp [State.relayReq]
@[simp] theorem State.setPull_vat (s : State) (p : Option Pull) : (State.setPull s p).sw.vat = s.sw.vat := by
  simp [State.setPull]
@[simp] theorem State.startPull_vat (s : State) (p : Pull) : (State.startPull s p).sw.vat = s.sw.vat := by
  simp [State.startPull]
@[simp] theorem State.romPull_vat (s : State) (lanes : List Nat) : (State.romPull s lanes).sw.vat = s.sw.vat := by
  unfold State.romPull; split <;> simp [apply_ite State.sw, apply_ite SwS.vat]
@[simp] theorem State.pullEnd_vat (s : State) (p : Pull) (st : Status) : (State.pullEnd s p st).sw.vat = s.sw.vat := by
  unfold State.pullEnd; split <;> simp [apply_ite State.sw, apply_ite SwS.vat]
@[simp] theorem State.updateRelay_vat (s : State) (c : Cmd) : ((State.updateRelay s c).1).sw.vat = s.sw.vat := by
  unfold State.updateRelay; grind [State.startPull_vat]
theorem State.updateRelay_vat_of (s : State) (c : Cmd) {sx : State} {qx : Status} (h : State.updateRelay s c = (sx, qx)) : sx.sw.vat = s.sw.vat := by
  have e := State.updateRelay_vat s c
  rw [h] at e
  exact e
@[simp] theorem State.pullHeader_vat (s : State) (p : Pull) (ws : List Word) (body : List Word) :
    (State.pullHeader s p ws body).sw.vat = s.sw.vat := by
  simp [State.pullHeader, apply_ite State.sw, apply_ite SwS.vat]
@[simp] theorem State.pullNext_vat (s : State) (p : Pull) : (State.pullNext s p).sw.vat = s.sw.vat := by
  simp [State.pullNext, apply_ite State.sw, apply_ite SwS.vat]
@[simp] theorem State.pullErased_vat (s : State) : (State.pullErased s).sw.vat = s.sw.vat := by
  unfold State.pullErased; split <;> simp [apply_ite State.sw, apply_ite SwS.vat]
@[simp] theorem State.relayData_vat (s : State) (l : Nat) (ws : List Word) (good : Bool) :
    (State.relayData s l ws good).sw.vat = s.sw.vat := by
  unfold State.relayData; (repeat' split) <;> simp_all [apply_ite State.sw, apply_ite SwS.vat]
@[simp] theorem State.relayRefuse_vat (s : State) (l : Nat) (ws : List Word) :
    (State.relayRefuse s l ws).sw.vat = s.sw.vat := by
  unfold State.relayRefuse; grind [State.bump_vat, State.pullEnd_vat, → State.freeIn_vat_of]
@[simp] theorem State.relayWindowEnd_vat (s : State) : (State.relayWindowEnd s).sw.vat = s.sw.vat := by
  unfold State.relayWindowEnd; grind [→ State.expire_vat_of, State.relayReq_vat]
@[simp] theorem State.relayNoProgress_vat (s : State) : (State.relayNoProgress s).sw.vat = s.sw.vat := by
  unfold State.relayNoProgress; grind [→ State.expire_vat_of, State.pullEnd_vat]
@[simp] theorem State.verifyComplete_vat (s : State) (r : VerifyResult) : (State.verifyComplete s r).sw.vat = s.sw.vat := by
  unfold State.verifyComplete; (repeat' split) <;> simp_all [apply_ite State.sw, apply_ite SwS.vat]
@[simp] theorem State.relayServe_vat (s : State) (l : Nat) (ws : List Word) :
    (State.relayServe s l ws).sw.vat = s.sw.vat := by
  simp [State.relayServe, apply_ite State.sw, apply_ite SwS.vat]
@[simp] theorem State.chunkWords_vat (s : State) (x : Slot) (off : Nat) (n : Nat) :
    ((State.chunkWords s x off n).2).sw.vat = s.sw.vat := by
  unfold State.chunkWords; split <;> simp [apply_ite State.sw, apply_ite SwS.vat]
theorem State.chunkWords_vat_of (s : State) (x : Slot) (off : Nat) (n : Nat) {sx : List Word} {qx : State} (h : State.chunkWords s x off n = (sx, qx)) : qx.sw.vat = s.sw.vat := by
  have e := State.chunkWords_vat s x off n
  rw [h] at e
  exact e
@[simp] theorem State.relayDataSend_vat (s : State) : (State.relayDataSend s).sw.vat = s.sw.vat := by
  unfold State.relayDataSend; grind [→ State.expire_vat_of, → State.chunkWords_vat_of, State.relaySend_vat, State.arm_vat]
@[simp] theorem State.recoveryPull_vat (s : State) : (State.recoveryPull s).sw.vat = s.sw.vat := by
  unfold State.recoveryPull; grind [→ State.expire_vat_of, State.romPull_vat, State.arm_vat]

/-! ### ReadOps -/

@[simp] theorem State.readMet_vat (s : State) (x : Place) : (State.readMet s x).sw.vat = s.sw.vat := by
  unfold State.readMet
  split <;> simp

/-! ### WriteOps -/

@[simp] theorem State.freeDesc_vat (s : State) : ((State.freeDesc s).2).sw.vat = s.sw.vat := by
  simp [State.freeDesc]
theorem State.freeDesc_vat_of (s : State) {sx : TxDesc} {qx : State} (h : State.freeDesc s = (sx, qx)) : qx.sw.vat = s.sw.vat := by
  have e := State.freeDesc_vat s
  rw [h] at e
  exact e
@[simp] theorem State.freeDescs_vat (x0 : Nat) (x1 : State) : ((State.freeDescs x0 x1).2).sw.vat = x1.sw.vat := by
  induction x0 generalizing x1 <;> simp_all [State.freeDescs, apply_ite State.sw, apply_ite SwS.vat]
theorem State.freeDescs_vat_of (x0 : Nat) (x1 : State) {sx : List TxDesc} {qx : State} (h : State.freeDescs x0 x1 = (sx, qx)) : qx.sw.vat = x1.sw.vat := by
  have e := State.freeDescs_vat x0 x1
  rw [h] at e
  exact e
@[simp] theorem State.freeBufs_vat (x0 : Nat) (x1 : State) : ((State.freeBufs x0 x1).2).sw.vat = x1.sw.vat := by
  induction x0 generalizing x1 <;> simp_all [State.freeBufs, apply_ite State.sw, apply_ite SwS.vat]
theorem State.freeBufs_vat_of (x0 : Nat) (x1 : State) {sx : List RxDesc} {qx : State} (h : State.freeBufs x0 x1 = (sx, qx)) : qx.sw.vat = x1.sw.vat := by
  have e := State.freeBufs_vat x0 x1
  rw [h] at e
  exact e
@[simp] theorem State.txTailReg_vat (s : State) (tail : Nat) : (State.txTailReg s tail).sw.vat = s.sw.vat := by
  simp [State.txTailReg]
@[simp] theorem State.rxTailReg_vat (s : State) (q : Nat) (tail : Nat) : (State.rxTailReg s q tail).sw.vat = s.sw.vat := by
  simp [State.rxTailReg]
@[simp] theorem State.txEnable_vat (s : State) (was : Bool) : (State.txEnable s was).sw.vat = s.sw.vat := by
  simp [State.txEnable, apply_ite State.sw, apply_ite SwS.vat]
@[simp] theorem State.rxEnable_vat (s : State) (q : Nat) (was : Bool) : (State.rxEnable s q was).sw.vat = s.sw.vat := by
  simp [State.rxEnable, apply_ite State.sw, apply_ite SwS.vat]
@[simp] theorem State.lnkCfgWritten_vat (s : State) (l : Nat) (old : Word) :
    (State.lnkCfgWritten s l old).sw.vat = s.sw.vat := by
  simp [State.lnkCfgWritten, apply_ite State.sw, apply_ite SwS.vat]
@[simp] theorem State.engCtlWritten_vat (s : State) (n : Nat) (a : Word) : (State.engCtlWritten s n a).sw.vat = s.sw.vat := by
  simp [State.engCtlWritten, apply_ite State.sw, apply_ite SwS.vat]
@[simp] theorem State.cluCtlWritten_vat (s : State) (k : Nat) (a : Word) : (State.cluCtlWritten s k a).sw.vat = s.sw.vat := by
  simp [State.cluCtlWritten, apply_ite State.sw, apply_ite SwS.vat]
@[simp] theorem State.pwrCfgWritten_vat (s : State) (old : Word) : (State.pwrCfgWritten s old).sw.vat = s.sw.vat := by
  simp [State.pwrCfgWritten, apply_ite State.sw, apply_ite SwS.vat]
@[simp] theorem State.pchCtlWritten_vat (s : State) (c : Nat) (a : Word) : (State.pchCtlWritten s c a).sw.vat = s.sw.vat := by
  simp [State.pchCtlWritten, apply_ite State.sw, apply_ite SwS.vat]
@[simp] theorem State.seccfgWritten_vat (s : State) (old : Word) : (State.seccfgWritten s old).sw.vat = s.sw.vat := by
  simp [State.seccfgWritten, apply_ite State.sw, apply_ite SwS.vat]
@[simp] theorem State.keySessWritten_vat (s : State) (k : Nat) : (State.keySessWritten s k).sw.vat = s.sw.vat := by
  simp [State.keySessWritten, apply_ite State.sw, apply_ite SwS.vat]
@[simp] theorem State.portEffect_vat (s : State) (r : Reg) (i : Nat) (j : Nat) (old : Word) (a : Word) :
    (State.portEffect s r i j old a).sw.vat = s.sw.vat := by
  unfold State.portEffect; split <;> simp [apply_ite State.sw, apply_ite SwS.vat]
@[simp] theorem State.shadowSound_vat (s : State) (i : Nat) : (State.shadowSound s i).sw.vat = s.sw.vat := by
  simp [State.shadowSound]
@[simp] theorem State.capLowered_vat (s : State) (old : Nat) : (State.capLowered s old).sw.vat = s.sw.vat := by
  simp [State.capLowered]
@[simp] theorem State.pairValidWritten_vat (s : State) : (State.pairValidWritten s).sw.vat = s.sw.vat := by
  simp [State.pairValidWritten, apply_ite State.sw, apply_ite SwS.vat]
@[simp] theorem State.coreEffect_vat (s : State) (r : Reg) (i : Nat) (_j : Nat) (old : Word) (a : Word) :
    (State.coreEffect s r i _j old a).sw.vat = s.sw.vat := by
  unfold State.coreEffect; split <;> simp [apply_ite State.sw, apply_ite SwS.vat]
@[simp] theorem State.writeReg_vat (s : State) (priv : Bool) (r : Reg) (i : Nat) (j : Nat) (w : Word) :
    (State.writeReg s priv r i j w).sw.vat = s.sw.vat := by
  simp [State.writeReg, apply_ite State.sw, apply_ite SwS.vat]
@[simp] theorem State.vatSound_vat (s : State) (w : Nat) : (State.vatSound s w).sw.vat = s.sw.vat := by
  simp [State.vatSound]
@[simp] theorem State.resetIslands_vat (s : State) (m : BitVec 21) : (State.resetIslands s m).sw.vat = s.sw.vat := by
  simp [State.resetIslands, apply_ite State.sw, apply_ite SwS.vat]
@[simp] theorem State.refuseWrite_vat (s : State) (st : Status) (step5 : Bool) :
    (State.refuseWrite s st step5).sw.vat = s.sw.vat := by
  simp [State.refuseWrite, apply_ite State.sw, apply_ite SwS.vat]

/-! ### WindowOps -/

@[simp] theorem State.conclude_vat (s : State) (c : Cmd) (a : Answer) : (State.conclude s c a).sw.vat = s.sw.vat := by
  unfold State.conclude; split <;> simp [apply_ite State.sw, apply_ite SwS.vat]
@[simp] theorem State.auditWrite_vat (s : State) (f : Frame) (count : Nat) (first : Word) (ordered : Bool) :
    (State.auditWrite s f count first ordered).sw.vat = s.sw.vat := by
  simp [State.auditWrite, apply_ite State.sw, apply_ite SwS.vat]
@[simp] theorem State.setWin_vat (s : State) (w : Nat) (x : WinS) : (State.setWin s w x).sw.vat = s.sw.vat := by
  simp [State.setWin]
@[simp] theorem State.sendBehind_vat (s : State) (n : Nat) (item : List QWord) :
    (State.sendBehind s n item).sw.vat = s.sw.vat := by
  unfold State.sendBehind; grind [State.fillTxq_vat, → State.unlink_vat_of, State.setEng_vat]
@[simp] theorem State.winEnter_vat (s : State) (w : Nat) (r : WinReq) : (State.winEnter s w r).sw.vat = s.sw.vat := by
  simp [State.winEnter]
@[simp] theorem State.winTimer_vat (s : State) (w : Nat) : (State.winTimer s w).sw.vat = s.sw.vat := by
  unfold State.winTimer; grind [State.disarm_vat, State.arm_vat]
@[simp] theorem State.winReply_vat (s : State) (w : Nat) (r : WinReq) (a : Answer) :
    (State.winReply s w r a).sw.vat = s.sw.vat := by
  simp [State.winReply]
@[simp] theorem State.winNext_vat (s : State) (w : Nat) (x2 : List WinReq) : (State.winNext s w x2).sw.vat = s.sw.vat := by
  induction x2 generalizing s w <;> simp_all [State.winNext, apply_ite State.sw, apply_ite SwS.vat]
@[simp] theorem State.winEnd_vat (s : State) (w : Nat) (r : WinReq) (a : Answer) :
    (State.winEnd s w r a).sw.vat = s.sw.vat := by
  simp [State.winEnd]
@[simp] theorem State.winRequest_vat (s : State) (w : Nat) (r : WinReq) : (State.winRequest s w r).sw.vat = s.sw.vat := by
  simp [State.winRequest, apply_ite State.sw, apply_ite SwS.vat]
@[simp] theorem State.windowAnswer_vat (s : State) (w : Nat) : (State.windowAnswer s w).sw.vat = s.sw.vat := by
  unfold State.windowAnswer; grind [State.setWin_vat, State.bump_vat, State.auditWrite_vat, State.winEnd_vat]
@[simp] theorem State.windowTimeout_vat (s : State) (w : Nat) : (State.windowTimeout s w).sw.vat = s.sw.vat := by
  unfold State.windowTimeout
  split
  · rfl
  · rename_i s1 h1
    have h1 := State.expire_vat_of (h := h1)
    extract_lets out late s2 s3 s4
    have h3 : s4.sw.vat = s.sw.vat := by
      simp only [s4]
      refine (foldl_vat _ (fun s r => by simp) _ _).trans ?_
      simp [s3, h1]
    clear_value s4
    split
    · split <;> simp [h3]
    · simp [h3]
@[simp] theorem State.winSweep_vat (s : State) (w : Nat) : (State.winSweep s w).sw.vat = s.sw.vat := by
  unfold State.winSweep
  extract_lets x all s1 gone left
  split
  · rfl
  · split
    · have h1 : s1.sw.vat = s.sw.vat := by simp [s1]
      rw [← h1]
      exact foldl_vat _ (fun s a => by simp) _ _
    · split <;> simp

/-! ### AccessOps -/

@[simp] theorem State.actWindow_vat (s : State) (c : Cmd) (w : Nat) (o : Nat) (write : Bool) (n : Nat) (data : List Word) :
    ((State.actWindow s c w o write n data).1).sw.vat = s.sw.vat := by
  unfold State.actWindow; (repeat' split) <;> simp_all [apply_ite State.sw, apply_ite SwS.vat]
theorem State.actWindow_vat_of (s : State) (c : Cmd) (w : Nat) (o : Nat) (write : Bool) (n : Nat) (data : List Word) {sx : State} {qx : Answer} (h : State.actWindow s c w o write n data = (sx, qx)) : sx.sw.vat = s.sw.vat := by
  have e := State.actWindow_vat s c w o write n data
  rw [h] at e
  exact e
@[simp] theorem State.actRead_vat (s : State) (c : Cmd) : ((State.actRead s c).1).sw.vat = s.sw.vat := by
  simp only [State.actRead, State.expire]; (repeat' split) <;> simp_all [apply_ite State.sw, apply_ite SwS.vat]
theorem State.actRead_vat_of (s : State) (c : Cmd) {sx : State} {qx : Answer} (h : State.actRead s c = (sx, qx)) : sx.sw.vat = s.sw.vat := by
  have e := State.actRead_vat s c
  rw [h] at e
  exact e

/-! ### PortCmdOps -/

@[simp] theorem State.tentative_vat (s : State) (l : List (Reg × Nat × Nat × Word)) :
    (State.tentative s l).sw.vat = s.sw.vat := by
  simp [State.tentative]
@[simp] theorem State.recordWrite_vat (s : State) (l : List (Reg × Nat × Nat × Word)) :
    (State.recordWrite s l).sw.vat = s.sw.vat := by
  simp [State.recordWrite, apply_ite State.sw, apply_ite SwS.vat]
@[simp] theorem State.actPortConfig_vat (s : State) (f : Frame) : ((State.actPortConfig s f).1).sw.vat = s.sw.vat := by
  unfold State.actPortConfig; grind [State.recordWrite_vat]
theorem State.actPortConfig_vat_of (s : State) (f : Frame) {sx : State} {qx : Answer} (h : State.actPortConfig s f = (sx, qx)) : sx.sw.vat = s.sw.vat := by
  have e := State.actPortConfig_vat s f
  rw [h] at e
  exact e
@[simp] theorem State.flushPortTx_vat (s : State) (p : Nat) : ((State.flushPortTx s p).1).sw.vat = s.sw.vat := by
  unfold State.flushPortTx; grind [→ State.endCut_vat_of, → State.emptyPort_vat_of, → State.macFlushTx_vat_of, → State.canFlushTx_vat_of, State.flushTx_vat, State.setEng_vat]
theorem State.flushPortTx_vat_of (s : State) (p : Nat) {sx : State} {qx : Nat} (h : State.flushPortTx s p = (sx, qx)) : sx.sw.vat = s.sw.vat := by
  have e := State.flushPortTx_vat s p
  rw [h] at e
  exact e
@[simp] theorem State.flushPortRx_vat (s : State) (p : Nat) : (State.flushPortRx s p).sw.vat = s.sw.vat := by
  unfold State.flushPortRx; grind [State.macFlushRx_vat, State.canFlushRx_vat, State.flushRx_vat, State.disarm_vat, State.setEng_vat, State.setWin_vat]
@[simp] theorem State.actPortFlush_vat (s : State) (f : Frame) : ((State.actPortFlush s f).1).sw.vat = s.sw.vat := by
  unfold State.actPortFlush; grind [→ State.flushPortTx_vat_of, State.flushPortRx_vat]
theorem State.actPortFlush_vat_of (s : State) (f : Frame) {sx : State} {qx : Answer} (h : State.actPortFlush s f = (sx, qx)) : sx.sw.vat = s.sw.vat := by
  have e := State.actPortFlush_vat s f
  rw [h] at e
  exact e
@[simp] theorem State.schedule_vat (s : State) (e : Entry) (t : Word) : ((State.schedule s e t).1).sw.vat = s.sw.vat := by
  unfold State.schedule; (repeat' split) <;> simp_all [apply_ite State.sw, apply_ite SwS.vat]
theorem State.schedule_vat_of (s : State) (e : Entry) (t : Word) {sx : State} {qx : Answer} (h : State.schedule s e t = (sx, qx)) : sx.sw.vat = s.sw.vat := by
  have e := State.schedule_vat s e t
  rw [h] at e
  exact e
@[simp] theorem State.actSchedule_vat (s : State) (apply : Bool) (f : Frame) :
    ((State.actSchedule s apply f).1).sw.vat = s.sw.vat := by
  unfold State.actSchedule; grind [→ State.schedule_vat_of]
theorem State.actSchedule_vat_of (s : State) (apply : Bool) (f : Frame) {sx : State} {qx : Answer} (h : State.actSchedule s apply f = (sx, qx)) : sx.sw.vat = s.sw.vat := by
  have e := State.actSchedule_vat s apply f
  rw [h] at e
  exact e
@[simp] theorem State.actSnapshot_vat (s : State) (f : Frame) : ((State.actSnapshot s f).1).sw.vat = s.sw.vat := by
  unfold State.actSnapshot; grind [→ State.schedule_vat_of, State.floodSnap_vat, State.markSeen_vat]
theorem State.actSnapshot_vat_of (s : State) (f : Frame) {sx : State} {qx : Answer} (h : State.actSnapshot s f = (sx, qx)) : sx.sw.vat = s.sw.vat := by
  have e := State.actSnapshot_vat s f
  rw [h] at e
  exact e
@[simp] theorem State.actFence_vat (s : State) (c : Cmd) : ((State.actFence s c).1).sw.vat = s.sw.vat := by
  unfold State.actFence; grind []
theorem State.actFence_vat_of (s : State) (c : Cmd) {sx : State} {qx : Answer} (h : State.actFence s c = (sx, qx)) : sx.sw.vat = s.sw.vat := by
  have e := State.actFence_vat s c
  rw [h] at e
  exact e
@[simp] theorem State.endFences_vat (s : State) (l : List Fence) (st : Status) :
    (State.endFences s l st).sw.vat = s.sw.vat := by
  simp [State.endFences]
@[simp] theorem State.fenceComplete_vat (s : State) : (State.fenceComplete s).sw.vat = s.sw.vat := by
  simp [State.fenceComplete, apply_ite State.sw, apply_ite SwS.vat]
@[simp] theorem State.fenceTimeout_vat (s : State) : (State.fenceTimeout s).sw.vat = s.sw.vat := by
  unfold State.fenceTimeout; split <;> simp [apply_ite State.sw, apply_ite SwS.vat]

/-! ### HostCmdOps -/

@[simp] theorem State.actProfileSelect_vat (s : State) (f : Frame) : ((State.actProfileSelect s f).1).sw.vat = s.sw.vat := by
  unfold State.actProfileSelect; grind []
theorem State.actProfileSelect_vat_of (s : State) (f : Frame) {sx : State} {qx : Answer} (h : State.actProfileSelect s f = (sx, qx)) : sx.sw.vat = s.sw.vat := by
  have e := State.actProfileSelect_vat s f
  rw [h] at e
  exact e
@[simp] theorem State.actProfileStore_vat (s : State) (c : Cmd) : ((State.actProfileStore s c).1).sw.vat = s.sw.vat := by
  unfold State.actProfileStore; split <;> simp [apply_ite State.sw, apply_ite SwS.vat]
theorem State.actProfileStore_vat_of (s : State) (c : Cmd) {sx : State} {qx : Answer} (h : State.actProfileStore s c = (sx, qx)) : sx.sw.vat = s.sw.vat := by
  have e := State.actProfileStore_vat s c
  rw [h] at e
  exact e
@[simp] theorem State.actSelftest_vat (s : State) (f : Frame) : ((State.actSelftest s f).1).sw.vat = s.sw.vat := by
  unfold State.actSelftest; grind []
theorem State.actSelftest_vat_of (s : State) (f : Frame) {sx : State} {qx : Answer} (h : State.actSelftest s f = (sx, qx)) : sx.sw.vat = s.sw.vat := by
  have e := State.actSelftest_vat s f
  rw [h] at e
  exact e
@[simp] theorem State.testResult_vat (s : State) (t : Nat) (arg : Nat) (found : BitVec 128) :
    ((State.testResult s t arg found).1).sw.vat = s.sw.vat := by
  unfold State.testResult; split <;> simp [apply_ite State.sw, apply_ite SwS.vat]
theorem State.testResult_vat_of (s : State) (t : Nat) (arg : Nat) (found : BitVec 128) {sx : State} {qx : Nat} (h : State.testResult s t arg found = (sx, qx)) : sx.sw.vat = s.sw.vat := by
  have e := State.testResult_vat s t arg found
  rw [h] at e
  exact e
@[simp] theorem State.selftestDone_vat (s : State) (t : Nat) (found : BitVec 128) :
    (State.selftestDone s t found).sw.vat = s.sw.vat := by
  unfold State.selftestDone; grind [→ State.testResult_vat_of, State.complete_vat]
@[simp] theorem State.healthWords_vat (s : State) (priv : Bool) : ((State.healthWords s priv).2).sw.vat = s.sw.vat := by
  simp [State.healthWords]
theorem State.healthWords_vat_of (s : State) (priv : Bool) {sx : List Word} {qx : State} (h : State.healthWords s priv = (sx, qx)) : qx.sw.vat = s.sw.vat := by
  have e := State.healthWords_vat s priv
  rw [h] at e
  exact e
@[simp] theorem State.actHealth_vat (s : State) (maint : Bool) : ((State.actHealth s maint).1).sw.vat = s.sw.vat := by
  simp [State.actHealth]
theorem State.actHealth_vat_of (s : State) (maint : Bool) {sx : State} {qx : Answer} (h : State.actHealth s maint = (sx, qx)) : sx.sw.vat = s.sw.vat := by
  have e := State.actHealth_vat s maint
  rw [h] at e
  exact e
@[simp] theorem State.actFaultAck_vat (s : State) (f : Frame) : ((State.actFaultAck s f).1).sw.vat = s.sw.vat := by
  unfold State.actFaultAck; grind [State.faultAck_vat]
theorem State.actFaultAck_vat_of (s : State) (f : Frame) {sx : State} {qx : Answer} (h : State.actFaultAck s f = (sx, qx)) : sx.sw.vat = s.sw.vat := by
  have e := State.actFaultAck_vat s f
  rw [h] at e
  exact e
@[simp] theorem State.actSafeEnter_vat (s : State) (f : Frame) : ((State.actSafeEnter s f).1).sw.vat = s.sw.vat := by
  simp [State.actSafeEnter]
theorem State.actSafeEnter_vat_of (s : State) (f : Frame) {sx : State} {qx : Answer} (h : State.actSafeEnter s f = (sx, qx)) : sx.sw.vat = s.sw.vat := by
  have e := State.actSafeEnter_vat s f
  rw [h] at e
  exact e
@[simp] theorem State.actSafeLeave_vat (s : State) : ((State.actSafeLeave s).1).sw.vat = s.sw.vat := by
  unfold State.actSafeLeave; split <;> simp [apply_ite State.sw, apply_ite SwS.vat]
theorem State.actSafeLeave_vat_of (s : State) {sx : State} {qx : Answer} (h : State.actSafeLeave s = (sx, qx)) : sx.sw.vat = s.sw.vat := by
  have e := State.actSafeLeave_vat s
  rw [h] at e
  exact e
@[simp] theorem State.actUpdateBegin_vat (s : State) (f : Frame) : ((State.actUpdateBegin s f).1).sw.vat = s.sw.vat := by
  simp [State.actUpdateBegin]
theorem State.actUpdateBegin_vat_of (s : State) (f : Frame) {sx : State} {qx : Answer} (h : State.actUpdateBegin s f = (sx, qx)) : sx.sw.vat = s.sw.vat := by
  have e := State.actUpdateBegin_vat s f
  rw [h] at e
  exact e
@[simp] theorem State.actUpdateBlock_vat (s : State) (c : Cmd) : ((State.actUpdateBlock s c).1).sw.vat = s.sw.vat := by
  simp [State.actUpdateBlock]
theorem State.actUpdateBlock_vat_of (s : State) (c : Cmd) {sx : State} {qx : Answer} (h : State.actUpdateBlock s c = (sx, qx)) : sx.sw.vat = s.sw.vat := by
  have e := State.actUpdateBlock_vat s c
  rw [h] at e
  exact e
@[simp] theorem State.actUpdateVerify_vat (s : State) (c : Cmd) : ((State.actUpdateVerify s c).1).sw.vat = s.sw.vat := by
  unfold State.actUpdateVerify; (repeat' split) <;> simp_all [apply_ite State.sw, apply_ite SwS.vat]
theorem State.actUpdateVerify_vat_of (s : State) (c : Cmd) {sx : State} {qx : Answer} (h : State.actUpdateVerify s c = (sx, qx)) : sx.sw.vat = s.sw.vat := by
  have e := State.actUpdateVerify_vat s c
  rw [h] at e
  exact e
@[simp] theorem State.actUpdateActivate_vat (s : State) (f : Frame) :
    ((State.actUpdateActivate s f).1).sw.vat = s.sw.vat := by
  simp [State.actUpdateActivate]
theorem State.actUpdateActivate_vat_of (s : State) (f : Frame) {sx : State} {qx : Answer} (h : State.actUpdateActivate s f = (sx, qx)) : sx.sw.vat = s.sw.vat := by
  have e := State.actUpdateActivate_vat s f
  rw [h] at e
  exact e
@[simp] theorem State.actUpdateConfirm_vat (s : State) : ((State.actUpdateConfirm s).1).sw.vat = s.sw.vat := by
  simp [State.actUpdateConfirm]
theorem State.actUpdateConfirm_vat_of (s : State) {sx : State} {qx : Answer} (h : State.actUpdateConfirm s = (sx, qx)) : sx.sw.vat = s.sw.vat := by
  have e := State.actUpdateConfirm_vat s
  rw [h] at e
  exact e
@[simp] theorem State.actUpdateRelay_vat (s : State) (c : Cmd) : ((State.actUpdateRelay s c).1).sw.vat = s.sw.vat := by
  simp [State.actUpdateRelay]
theorem State.actUpdateRelay_vat_of (s : State) (c : Cmd) {sx : State} {qx : Answer} (h : State.actUpdateRelay s c = (sx, qx)) : sx.sw.vat = s.sw.vat := by
  have e := State.actUpdateRelay_vat s c
  rw [h] at e
  exact e
@[simp] theorem State.actUpdateAbort_vat (s : State) (f : Frame) : ((State.actUpdateAbort s f).1).sw.vat = s.sw.vat := by
  simp [State.actUpdateAbort]
theorem State.actUpdateAbort_vat_of (s : State) (f : Frame) {sx : State} {qx : Answer} (h : State.actUpdateAbort s f = (sx, qx)) : sx.sw.vat = s.sw.vat := by
  have e := State.actUpdateAbort_vat s f
  rw [h] at e
  exact e
@[simp] theorem State.actTimeStep_vat (s : State) (f : Frame) : ((State.actTimeStep s f).1).sw.vat = s.sw.vat := by
  simp [State.actTimeStep]
theorem State.actTimeStep_vat_of (s : State) (f : Frame) {sx : State} {qx : Answer} (h : State.actTimeStep s f = (sx, qx)) : sx.sw.vat = s.sw.vat := by
  have e := State.actTimeStep_vat s f
  rw [h] at e
  exact e
@[simp] theorem State.actTimeRate_vat (s : State) (f : Frame) : ((State.actTimeRate s f).1).sw.vat = s.sw.vat := by
  simp [State.actTimeRate]
theorem State.actTimeRate_vat_of (s : State) (f : Frame) {sx : State} {qx : Answer} (h : State.actTimeRate s f = (sx, qx)) : sx.sw.vat = s.sw.vat := by
  have e := State.actTimeRate_vat s f
  rw [h] at e
  exact e
@[simp] theorem State.actStepRearm_vat (s : State) : ((State.actStepRearm s).1).sw.vat = s.sw.vat := by
  simp [State.actStepRearm]
theorem State.actStepRearm_vat_of (s : State) {sx : State} {qx : Answer} (h : State.actStepRearm s = (sx, qx)) : sx.sw.vat = s.sw.vat := by
  have e := State.actStepRearm_vat s
  rw [h] at e
  exact e
@[simp] theorem State.actHandover_vat (s : State) (c : Cmd) (ordered : Bool) :
    ((State.actHandover s c ordered).1).sw.vat = s.sw.vat := by
  unfold State.actHandover; (repeat' split) <;> simp_all [apply_ite State.sw, apply_ite SwS.vat]
theorem State.actHandover_vat_of (s : State) (c : Cmd) (ordered : Bool) {sx : State} {qx : Answer} (h : State.actHandover s c ordered = (sx, qx)) : sx.sw.vat = s.sw.vat := by
  have e := State.actHandover_vat s c ordered
  rw [h] at e
  exact e
@[simp] theorem State.actPairStatus_vat (s : State) : ((State.actPairStatus s).1).sw.vat = s.sw.vat := by
  simp [State.actPairStatus]
theorem State.actPairStatus_vat_of (s : State) {sx : State} {qx : Answer} (h : State.actPairStatus s = (sx, qx)) : sx.sw.vat = s.sw.vat := by
  have e := State.actPairStatus_vat s
  rw [h] at e
  exact e
@[simp] theorem State.pairAnswer_vat (s : State) : (State.pairAnswer s).sw.vat = s.sw.vat := by
  unfold State.pairAnswer; split <;> simp [apply_ite State.sw, apply_ite SwS.vat]
@[simp] theorem State.actLogRead_vat (s : State) (c : Cmd) (maint : Bool) :
    ((State.actLogRead s c maint).1).sw.vat = s.sw.vat := by
  unfold State.actLogRead; grind [→ State.freeIn_vat_of]
theorem State.actLogRead_vat_of (s : State) (c : Cmd) (maint : Bool) {sx : State} {qx : Answer} (h : State.actLogRead s c maint = (sx, qx)) : sx.sw.vat = s.sw.vat := by
  have e := State.actLogRead_vat s c maint
  rw [h] at e
  exact e
@[simp] theorem State.actEcho_vat (s : State) (f : Frame) : ((State.actEcho s f).1).sw.vat = s.sw.vat := by
  unfold State.actEcho; split <;> simp [apply_ite State.sw, apply_ite SwS.vat]
theorem State.actEcho_vat_of (s : State) (f : Frame) {sx : State} {qx : Answer} (h : State.actEcho s f = (sx, qx)) : sx.sw.vat = s.sw.vat := by
  have e := State.actEcho_vat s f
  rw [h] at e
  exact e
@[simp] theorem State.actResetChip_vat (s : State) (f : Frame) : ((State.actResetChip s f).1).sw.vat = s.sw.vat := by
  unfold State.actResetChip; split <;> simp [apply_ite State.sw, apply_ite SwS.vat]
theorem State.actResetChip_vat_of (s : State) (f : Frame) {sx : State} {qx : Answer} (h : State.actResetChip s f = (sx, qx)) : sx.sw.vat = s.sw.vat := by
  have e := State.actResetChip_vat s f
  rw [h] at e
  exact e
@[simp] theorem State.actSessionClose_vat (s : State) (f : Frame) : ((State.actSessionClose s f).1).sw.vat = s.sw.vat := by
  simp [State.actSessionClose]
theorem State.actSessionClose_vat_of (s : State) (f : Frame) {sx : State} {qx : Answer} (h : State.actSessionClose s f = (sx, qx)) : sx.sw.vat = s.sw.vat := by
  have e := State.actSessionClose_vat s f
  rw [h] at e
  exact e

/-! ### ServeOps -/

@[simp] theorem State.refuse_vat (s : State) (e : Service) (st : Status) : (State.refuse s e st).sw.vat = s.sw.vat := by
  simp [State.refuse]
@[simp] theorem State.enter_vat (s : State) (t : Target) (e : Service) : (State.enter s t e).sw.vat = s.sw.vat := by
  simp [State.enter, apply_ite State.sw, apply_ite SwS.vat]
@[simp] theorem State.reject_vat (s : State) (c : Cmd) (st : Status) : (State.reject s c st).sw.vat = s.sw.vat := by
  simp [State.reject]
@[simp] theorem State.resendReply_vat (s : State) (c : Cmd) (e : CacheEntry) :
    (State.resendReply s c e).sw.vat = s.sw.vat := by
  simp [State.resendReply, apply_ite State.sw, apply_ite SwS.vat]
@[simp] theorem State.romTake_vat (s : State) (c : Cmd) : (State.romTake s c).sw.vat = s.sw.vat := by
  simp [State.romTake, apply_ite State.sw, apply_ite SwS.vat]
@[simp] theorem State.cacheExpire_vat (s : State) : (State.cacheExpire s).sw.vat = s.sw.vat := by
  unfold State.cacheExpire; split <;> simp [apply_ite State.sw, apply_ite SwS.vat]
@[simp] theorem State.forget_vat (s : State) : (State.forget s).sw.vat = s.sw.vat := by
  simp [State.forget]
@[simp] theorem State.departed_vat (s : State) : (State.departed s).sw.vat = s.sw.vat := by
  simp [State.departed]
@[simp] theorem State.lostCommands_vat (s : State) : (State.lostCommands s).sw.vat = s.sw.vat := by
  unfold State.lostCommands
  refine foldl_vat _ (fun s c => ?_) _ _
  split <;> simp
@[simp] theorem State.switchBegin_vat (s : State) (p : Nat) : (State.switchBegin s p).sw.vat = s.sw.vat := by
  simp [State.switchBegin]
@[simp] theorem State.runAfter_vat (s : State) (x1 : After) : (State.runAfter s x1).sw.vat = s.sw.vat := by
  unfold State.runAfter; (repeat' split) <;> simp_all [apply_ite State.sw, apply_ite SwS.vat]
@[simp] theorem State.runDue_vat (s : State) : (State.runDue s).sw.vat = s.sw.vat := by
  simp [State.runDue]

/-! ### EventOps -/

@[simp] theorem State.dropOutst_vat (s : State) (tag : BitVec 9) : (State.dropOutst s tag).sw.vat = s.sw.vat := by
  simp [State.dropOutst]
@[simp] theorem State.replyReceive_vat (s : State) (f : Frame) (authOk : Bool) :
    (State.replyReceive s f authOk).sw.vat = s.sw.vat := by
  unfold State.replyReceive; (repeat' split) <;> simp_all [apply_ite State.sw, apply_ite SwS.vat]
@[simp] theorem State.eventReceive_vat (s : State) (f : Frame) : (State.eventReceive s f).sw.vat = s.sw.vat := by
  simp [State.eventReceive, apply_ite State.sw, apply_ite SwS.vat]
@[simp] theorem State.commandTimeout_vat (s : State) (port : BitVec 8) (tag : BitVec 9) :
    (State.commandTimeout s port tag).sw.vat = s.sw.vat := by
  unfold State.commandTimeout; grind [State.trkTimeout_vat, → State.expire_vat_of, State.arm_vat]
@[simp] theorem State.quarantineEnd_vat (s : State) (port : BitVec 8) (tag : BitVec 9) :
    (State.quarantineEnd s port tag).sw.vat = s.sw.vat := by
  unfold State.quarantineEnd; grind [State.trkRelease_vat, → State.expire_vat_of, State.dropOutst_vat]
@[simp] theorem State.orderSchedule_vat (s : State) (r : Frame) : (State.orderSchedule s r).sw.vat = s.sw.vat := by
  unfold State.orderSchedule; grind [State.enterEntry_vat]
@[simp] theorem State.orderReply_vat (s : State) (r : Frame) : (State.orderReply s r).sw.vat = s.sw.vat := by
  unfold State.orderReply; grind [State.orderSchedule_vat, State.sessionOpened_vat, State.unserve_vat, State.cachePut_vat]
@[simp] theorem State.countOrder_vat (s : State) (f : Frame) (good : Bool) :
    (State.countOrder s f good).sw.vat = s.sw.vat := by
  simp [State.countOrder, apply_ite State.sw, apply_ite SwS.vat]
@[simp] theorem State.sessionIn_vat (s : State) (on : BitVec 16) (r : SessionOrder) :
    (State.sessionIn s on r).sw.vat = s.sw.vat := by
  simp [State.sessionIn, apply_ite State.sw, apply_ite SwS.vat]
@[simp] theorem State.sessionIdle_vat (s : State) (n : BitVec 16) : (State.sessionIdle s n).sw.vat = s.sw.vat := by
  simp [State.sessionIdle, apply_ite State.sw, apply_ite SwS.vat]
@[simp] theorem State.sessionUnused_vat (s : State) (n : BitVec 16) : (State.sessionUnused s n).sw.vat = s.sw.vat := by
  simp [State.sessionUnused, apply_ite State.sw, apply_ite SwS.vat]
@[simp] theorem State.sessionSpent_vat (s : State) (n : BitVec 16) : (State.sessionSpent s n).sw.vat = s.sw.vat := by
  simp [State.sessionSpent, apply_ite State.sw, apply_ite SwS.vat]
@[simp] theorem State.bar0_vat (s : State) (off : Nat) (wr : Option Word) (beOk : Bool) :
    (State.bar0 s off wr beOk).sw.vat = s.sw.vat := by
  unfold State.bar0; (repeat' split) <;> simp_all [apply_ite State.sw, apply_ite SwS.vat]
@[simp] theorem State.switchStep5_vat (s : State) : ((State.switchStep5 s).1).sw.vat = s.sw.vat := by
  unfold State.switchStep5
  refine foldl_vat_fst _ (fun p a => ?_) _ _
  dsimp only
  split <;> simp
theorem State.switchStep5_vat_of (s : State) {sx : State} {qx : Nat} (h : State.switchStep5 s = (sx, qx)) : sx.sw.vat = s.sw.vat := by
  have e := State.switchStep5_vat s
  rw [h] at e
  exact e
@[simp] theorem State.invalidate_vat (s : State) (p : Nat) : (State.invalidate s p).sw.vat = s.sw.vat := by
  simp [State.invalidate]
@[simp] theorem State.switchLoad_vat (s : State) (p : Nat) (prev : Nat) (ok : Bool) (prevOk : Bool) (hadPrev : Bool) :
    (State.switchLoad s p prev ok prevOk hadPrev).sw.vat = s.sw.vat := by
  simp [State.switchLoad, apply_ite State.sw, apply_ite SwS.vat]
@[simp] theorem State.switchFinish_vat (s : State) (skipped : Nat) : (State.switchFinish s skipped).sw.vat = s.sw.vat := by
  simp [State.switchFinish, apply_ite State.sw, apply_ite SwS.vat]
@[simp] theorem State.profileSwitchEnd_vat (s : State) (ok : Bool) (prevOk : Bool) :
    (State.profileSwitchEnd s ok prevOk).sw.vat = s.sw.vat := by
  unfold State.profileSwitchEnd
  split
  · rfl
  · refine (State.switchFinish_vat _ _).trans ?_
    refine (State.switchStep5_vat _).trans ?_
    refine (State.fwdCommit_vat _).trans ?_
    refine (State.loadProfile_vat _ _).trans ?_
    exact (State.switchLoad_vat _ _ _ _ _ _)

/-! ### Ethernet -/

@[simp] theorem State.macWakes_vat (s : State) (m : Nat) (r : MacRx) : (State.macWakes s m r).sw.vat = s.sw.vat := by
  simp [State.macWakes, apply_ite State.sw, apply_ite SwS.vat]

/-! ### Firmware -/

@[simp] theorem State.updateFrame_vat (s : State) (l : Nat) (f : State → State) (hf : ∀ x, (f x).sw.vat = x.sw.vat) :
    (State.updateFrame s l f).sw.vat = s.sw.vat := by
  unfold State.updateFrame; (repeat' split) <;> simp_all [apply_ite State.sw, apply_ite SwS.vat]

/-! ### HostBridge -/

@[simp] theorem State.flr_vat (s : State) : (State.flr s).sw.vat = s.sw.vat := by
  simp [State.flr, apply_ite State.sw, apply_ite SwS.vat]
@[simp] theorem State.hostTxTail_vat (s : State) (t : Nat) (ds : List TxDesc) :
    (State.hostTxTail s t ds).sw.vat = s.sw.vat := by
  simp [State.hostTxTail, apply_ite State.sw, apply_ite SwS.vat]
@[simp] theorem State.hostRxTail_vat (s : State) (q : Nat) (t : Nat) (bs : List RxDesc) :
    (State.hostRxTail s q t bs).sw.vat = s.sw.vat := by
  simp [State.hostRxTail, apply_ite State.sw, apply_ite SwS.vat]

/-! ### SwitchCore -/

@[simp] theorem State.handLocal_vat (s : State) : (State.handLocal s).sw.vat = s.sw.vat := by
  unfold State.handLocal; grind [→ State.takeLocal_vat_of, State.bump_vat, State.transmit_vat]
@[simp] theorem State.residueHead_vat (s : State) (q : Nat) : (State.residueHead s q).sw.vat = s.sw.vat := by
  simp [State.residueHead, apply_ite State.sw, apply_ite SwS.vat]
@[simp] theorem State.residueDue_vat (s : State) (q : Nat) : (State.residueDue s q).sw.vat = s.sw.vat := by
  unfold State.residueDue; split <;> simp [apply_ite State.sw, apply_ite SwS.vat]
@[simp] theorem State.pressClock_vat (s : State) (t : Timer) (f : State → State) (hf : ∀ x, (f x).sw.vat = x.sw.vat) :
    (State.pressClock s t f).sw.vat = s.sw.vat := by
  unfold State.pressClock; grind [→ State.expire_vat_of]

/-! ### The operations that write -/

theorem foldl_wf {α : Type} (f : State → α → State) (h : ∀ s a, Memory.wf s.sw.vat = true → Memory.wf (f s a).sw.vat = true)
    (l : List α) (s : State) (hw : Memory.wf s.sw.vat = true) : Memory.wf (l.foldl f s).sw.vat = true := by
  induction l generalizing s with
  | nil => exact hw
  | cons a l ih => exact ih _ (h s a hw)
@[simp] theorem State.newUnit_wf (s : State) (f : Frame) (inPort : Nat) (own : Bool) (complete : Bool) (authOk : Bool) (tier : Tier) (k : Nat) (hw : Memory.wf s.sw.vat = true) :
    Memory.wf ((State.newUnit s f inPort own complete authOk tier k).1).sw.vat = true := by
  simp [State.newUnit, hw]
@[simp] theorem State.layUnit_wf (s : State) (u : Nat) (tail : List Word) (hw : Memory.wf s.sw.vat = true) :
    Memory.wf (State.layUnit s u tail).sw.vat = true := by
  unfold State.layUnit; split <;> simp [hw, apply_ite State.sw, apply_ite SwS.vat]
@[simp] theorem State.admitUnit_wf (s : State) (f : Frame) (inPort : Nat) (own complete authOk : Bool) (ds : List Dest)
    (hw : Memory.wf s.sw.vat = true) : Memory.wf (State.admitUnit s f inPort own complete authOk ds).1.sw.vat = true := by
  unfold State.admitUnit
  simp only []
  split
  · simp [hw]
  · simp [hw, apply_ite State.sw, apply_ite SwS.vat]
@[simp] theorem State.assignSeq_wf (s : State) (u : Nat) (v : VUnit) (slot : (Option Nat)) (hw : Memory.wf s.sw.vat = true) :
    Memory.wf (State.assignSeq s u v slot).sw.vat = true := by
  unfold State.assignSeq
  split
  · exact hw
  · have h1 := State.takeSeq_vat s v.frame
    split
    rename_i f1 s1 e1
    rw [e1] at h1
    dsimp only at h1
    extract_lets f2
    clear_value f2
    have h3 : (if f2.session = 0 ∨ (v.inPort ≠ 122 ∧ !f2.gcm.isEmpty) then (f2, s1) else s1.sealFrame slot f2).2.sw.vat
        = s.sw.vat := by split <;> simp [← h1]
    split
    rename_i f3 s3 e3
    rw [e3] at h3
    dsimp only at h3
    rw [State.spendSessions_vat]
    refine State.layUnit_wf _ _ _ ?_
    simp [h3, hw]
@[simp] theorem State.loupeOnly_wf (s : State) (f : Frame) (inPort : Nat) (own authOk : Bool) (hw : Memory.wf s.sw.vat = true) :
    Memory.wf (State.loupeOnly s f inPort own authOk).1.sw.vat = true := by
  unfold State.loupeOnly
  extract_lets takes q k
  split
  · dsimp only
    rw [foldl_vat _ (fun s m => ?_)]
    · exact hw
    · split <;> simp
  · rename_i m _
    have h := State.newUnit_wf s f inPort own own authOk ((s.tierFor (q m) k).getD .shared) k hw
    dsimp only
    rw [State.loupes_vat]
    exact h
@[simp] theorem State.lookupNext_wf (s : State) (hw : Memory.wf s.sw.vat = true) :
    Memory.wf (State.lookupNext s).sw.vat = true := by
  have I : ∀ {c : Prop} [Decidable c] {a b : State}, Memory.wf a.sw.vat = true → Memory.wf b.sw.vat = true →
      Memory.wf (if c then a else b).sw.vat = true := by intro c _ a b ha hb; split <;> assumption
  unfold State.lookupNext
  split
  · exact hw
  · rename_i x rest _
    extract_lets _ f s1 s2
    refine I (by simp [hw]) (I hw ?_)
    have h1 : Memory.wf s1.sw.vat = true := hw
    clear_value s1
    have h2 : s2.sw.vat = s1.sw.vat := by simp [s2]
    clear_value s2
    have h3 := State.ownDests_vat s2 f
    split
    rename_i s3 ds e3
    rw [e3] at h3
    dsimp only at h3
    have w3 : Memory.wf s3.sw.vat = true := by rw [h3, h2]; exact h1
    refine I (by simp [w3]) ?_
    have h4 := State.admitUnit_wf s3 f x.inPort true true x.authOk ds w3
    split
    rename_i s4 r e4
    rw [e4] at h4
    dsimp only at h4
    split
    · rw [State.txResult_vat]
      refine I ?_ ?_ <;> simp [h4]
    · split
      · exact h4
      · simp [h4]
@[simp] theorem State.layTail_wf (s : State) (l : Nat) (t : Tail) (hw : Memory.wf s.sw.vat = true) :
    Memory.wf (State.layTail s l t).sw.vat = true := by
  unfold State.layTail; split <;> simp [hw, apply_ite State.sw, apply_ite SwS.vat]
@[simp] theorem State.ringFrame_wf (s : State) (l : Nat) (f : Frame) (hw : Memory.wf s.sw.vat = true) :
    Memory.wf (State.ringFrame s l f).sw.vat = true := by
  have I : ∀ {c : Prop} [Decidable c] {a b : State}, Memory.wf a.sw.vat = true → Memory.wf b.sw.vat = true →
      Memory.wf (if c then a else b).sw.vat = true := by intro c _ a b ha hb; split <;> assumption
  unfold State.ringFrame
  extract_lets st s1 s2
  have h1 : Memory.wf s1.sw.vat = true := by simp only [s1]; split <;> simp [hw]
  clear_value s1
  refine I (by simp [h1]) (I hw ?_)
  refine I (by simp [h1]) (I (by simp [h1]) (I (by simp [h1]) (I (by simp [h1]) ?_)))
  have h2 : Memory.wf s2.sw.vat = true := by simp [s2, h1]
  clear_value s2
  have h3 := State.ringDests_vat s2 l f
  split
  rename_i s3 ds v e3
  rw [e3] at h3
  dsimp only at h3
  have w3 : Memory.wf s3.sw.vat = true := by rw [h3]; exact h2
  have h4 : ∀ (s4 : State) (r : Option Nat),
      (if ds.isEmpty = true then (s3, none) else s3.admitUnit f l false false true (sortDests ds)) = (s4, r) →
      Memory.wf s4.sw.vat = true := by
    intro s4 r e
    split at e
    · cases e; exact w3
    · have := State.admitUnit_wf s3 f l false false true (sortDests ds) w3
      rw [e] at this; exact this
  split
  rename_i s4 r e4
  have h4 := h4 s4 r e4
  split
  · have h5 := State.loupeOnly_wf s4 f l false true h4
    split
    rename_i s5 lu e5
    rw [e5] at h5
    dsimp only at h5
    refine I ?_ ?_ <;> simp [h5]
  · dsimp only
    rw [State.loupes_vat, State.setRx_vat]
    refine I ?_ ?_ <;> simp [h4]
@[simp] theorem State.scrub_wf (s : State) (w : Nat) (found : EccResult) (hw : Memory.wf s.sw.vat = true) :
    Memory.wf (State.scrub s w found).sw.vat = true := by
  unfold State.scrub
  simp only []
  split
  · exact hw
  · cases found <;> simp [hw, apply_ite State.sw, apply_ite SwS.vat]
    split <;> simp [hw]
@[simp] theorem State.capture_wf (s : State) (v : VUnit) (session : Nat) (hw : Memory.wf s.sw.vat = true) :
    Memory.wf (State.capture s v session).sw.vat = true := by
  have I : ∀ {c : Prop} [Decidable c] {a b : State}, Memory.wf a.sw.vat = true → Memory.wf b.sw.vat = true →
      Memory.wf (if c then a else b).sw.vat = true := by intro c _ a b ha hb; split <;> assumption
  unfold State.capture
  extract_lets cells size base b len w fits w0 s1 endAt at_ n w1 unit bytes sw2 s2
  have h1 : Memory.wf s1.sw.vat = true := by
    simp only [s1]
    refine I hw ?_
    simp [hw]
  have he : ∀ s n, (endAt s n).sw.vat = s.sw.vat := fun s n => by simp [endAt]
  clear_value s1 endAt
  refine I hw (I (by simp [hw]) (I ?_ ?_))
  · simp [he, h1]
  · simp [he, s2, h1]
@[simp] theorem State.captureNext_wf (s : State) (hw : Memory.wf s.sw.vat = true) :
    Memory.wf (State.captureNext s).sw.vat = true := by
  unfold State.captureNext
  split
  · rename_i h
    rw [State.takeLocal_vat_of _ _ h]
    exact hw
  · rename_i h
    have := State.takeLocal_vat_of _ _ h
    simp [this, hw]
@[simp] theorem State.takeQueues_wf (s : State) (r : SyncRecord) (hw : Memory.wf s.sw.vat = true) :
    Memory.wf (State.takeQueues s r).sw.vat = true := by
  have h1 : ∀ l : List Nat, Memory.wf (l.foldl (fun s p => (s.emptyPort p).1) s).sw.vat = true := fun l => by
    rw [foldl_vat _ (fun s a => by simp)]; exact hw
  simp only [State.takeQueues]
  rw [foldl_vat _ (fun s a => by simp), foldl_vat _ (fun s a => by simp), foldl_vat _ (fun s a => by simp)]
  exact foldl_wf _ (fun s a h => State.admitUnit_wf _ _ _ _ _ _ _ h) _ _ (h1 _)
@[simp] theorem State.syncIn_wf (s : State) (r : SyncRecord) (hw : Memory.wf s.sw.vat = true) :
    Memory.wf (State.syncIn s r).sw.vat = true := by
  have I : ∀ {c : Prop} [Decidable c] {a b : State}, Memory.wf a.sw.vat = true → Memory.wf b.sw.vat = true →
      Memory.wf (if c then a else b).sw.vat = true := by intro c _ a b ha hb; split <;> assumption
  unfold State.syncIn
  extract_lets ok s1 gone s2 c0 s3 s4 c1 c w0 sw s5 s6 s7 s8 s9
  have h1 : s1.sw.vat = s.sw.vat := by simp only [s1]; split <;> simp
  have h2 : s2.sw.vat = s1.sw.vat := by simp [s2]
  have h4 : s4.sw.vat = s3.sw.vat := foldl_vat _ (fun s a => by simp) _ _
  have h5 : s5.sw.vat = s4.sw.vat := rfl
  have h6 : s6.sw.vat = s5.sw.vat := foldl_vat _ (fun s a => by simp) _ _
  have h7 : s7.sw.vat = s6.sw.vat := foldl_vat _ (fun s a => by simp) _ _
  have w8 : Memory.wf s8.sw.vat = true := by
    refine State.takeQueues_wf _ _ ?_
    rw [h7, h6, h5, h4]
    show Memory.wf s2.sw.vat = true
    rw [h2, h1]
    exact hw
  have h9 : s9.sw.vat = s8.sw.vat := foldl_vat _ (fun s a => by split <;> simp) _ _
  clear_value s9 s8
  refine I hw (I (by simp [hw]) ?_)
  show Memory.wf (s9.disarm .joinSend).sw.vat = true
  simp [h9, w8]
@[simp] theorem State.powerOn_wf (s : State) (st : Straps) : Memory.wf (State.powerOn s st).sw.vat = true := by
  unfold State.powerOn
  extract_lets s1 _ _ _ _ r1 r2
  have h2 : Memory.wf r2.sw.vat = true := by simp [r2]; rfl
  clear_value r2
  simp [h2]
@[simp] theorem State.powerOnEvent_wf (s : State) (st : Straps) (hw : Memory.wf s.sw.vat = true) :
    Memory.wf (State.powerOnEvent s st).sw.vat = true := by
  unfold State.powerOnEvent; split <;> simp [hw, apply_ite State.sw, apply_ite SwS.vat]
@[simp] theorem State.vatWrite_wf (s : State) (b : Nat) (w : Word) (hw : Memory.wf s.sw.vat = true) :
    Memory.wf (State.vatWrite s b w).sw.vat = true := by
  simp [State.vatWrite, hw]
@[simp] theorem State.placeWrite_wf (s : State) (priv : Bool) (p : Place) (w : Word) (hw : Memory.wf s.sw.vat = true) :
    Memory.wf ((State.placeWrite s priv p w).1).sw.vat = true := by
  unfold State.placeWrite; split <;> simp [hw, apply_ite State.sw, apply_ite SwS.vat]
@[simp] theorem State.hostWrite_wf (s : State) (priv : Bool) (off : Nat) (w : Word) (hw : Memory.wf s.sw.vat = true) :
    Memory.wf (State.hostWrite s priv off w).sw.vat = true := by
  have I : ∀ {c : Prop} [Decidable c] {a b : State}, Memory.wf a.sw.vat = true → Memory.wf b.sw.vat = true →
      Memory.wf (if c then a else b).sw.vat = true := by intro c _ a b ha hb; split <;> assumption
  unfold State.hostWrite
  refine I hw (I (by simp [hw]) ?_)
  split
  · simp [hw]
  · rename_i p _
    refine I (by simp [hw]) (I (by simp [hw]) ?_)
    refine I (by simp [hw]) ?_
    simp [hw]
@[simp] theorem State.setReg_wf (s : State) (r : Reg) (i : Nat) (j : Nat) (w : Word) (hw : Memory.wf s.sw.vat = true) :
    Memory.wf (State.setReg s r i j w).sw.vat = true := by
  simp [State.setReg, hw]
@[simp] theorem State.writeWords_wf (s : State) (priv : Bool) (x : Option Session) (l : List (Place × Word))
    (hw : Memory.wf s.sw.vat = true) : Memory.wf (State.writeWords s priv x l).1.sw.vat = true := by
  induction l generalizing s with
  | nil => exact hw
  | cons a l ih =>
    obtain ⟨p, w⟩ := a
    unfold State.writeWords
    simp only []
    split
    · exact hw
    · exact ih _ (State.placeWrite_wf s priv p w hw)
@[simp] theorem State.actWrites_wf (s : State) (f : Frame) (ordered : Bool) (l : List (Place × Word)) (first : Word)
    (payload : List Word) (hw : Memory.wf s.sw.vat = true) :
    Memory.wf (State.actWrites s f ordered l first payload).1.sw.vat = true := by
  unfold State.actWrites
  simp only []
  split
  · split
    · rw [foldl_vat _ (fun s a => by simp)]; exact hw
    · exact hw
  · simp [hw]
@[simp] theorem State.actWrite_wf (s : State) (c : Cmd) (ordered : Bool) (hw : Memory.wf s.sw.vat = true) :
    Memory.wf (State.actWrite s c ordered).1.sw.vat = true := by
  unfold State.actWrite
  extract_lets f
  split
  · exact hw
  · generalize (match place f.addrOff with | some (.vat _) => true | _ => false) = vat
    split
    · exact hw
    · split
      · split <;> simp [hw]
      · simp [hw]
@[simp] theorem State.actModify_wf (s : State) (c : Cmd) (ordered : Bool) (hw : Memory.wf s.sw.vat = true) :
    Memory.wf (State.actModify s c ordered).1.sw.vat = true := by
  unfold State.actModify
  extract_lets f
  split
  · exact hw
  · exact hw
  · split
    · simp [hw]
    · simp only []
      split <;> simp [hw]
  · exact hw

@[simp] theorem State.actPortSend_wf (s : State) (f : Frame) (hw : Memory.wf s.sw.vat = true) :
    Memory.wf (State.actPortSend s f).1.sw.vat = true := by
  unfold State.actPortSend
  simp only []
  split
  · exact hw
  · split
    · exact hw
    · split
      · exact hw
      · split <;> simp [hw]
@[simp] theorem State.act_wf (s : State) (e : Service) (hw : Memory.wf s.sw.vat = true) :
    Memory.wf (State.act s e).1.sw.vat = true := by
  unfold State.act
  simp only []
  split <;> simp [hw]
@[simp] theorem State.execute_wf (s : State) (e : Service) (hw : Memory.wf s.sw.vat = true) :
    Memory.wf (State.execute s e).sw.vat = true := by
  unfold State.execute
  simp only []
  split
  · simp [hw]
  · split
    · simp [hw, apply_ite State.sw, apply_ite SwS.vat]
    · split
      · simp [hw]
      · split
        · simp [hw]
        · simp [hw, apply_ite State.sw, apply_ite SwS.vat]
@[simp] theorem State.accept_wf (s : State) (c : Cmd) (t : Target) (maint : Bool) (x : KeyExchange)
    (hw : Memory.wf s.sw.vat = true) : Memory.wf (State.accept s c t maint x).sw.vat = true := by
  unfold State.accept
  simp only []
  split
  · simp [hw]
  · exact State.execute_wf _ _ (by simp [hw])
@[simp] theorem State.admit4_wf (s : State) (row : OpRow) (c : Cmd) (t : Target) (maint : Bool) (x : KeyExchange) (hw : Memory.wf s.sw.vat = true) :
    Memory.wf (State.admit4 s row c t maint x).sw.vat = true := by
  unfold State.admit4; (repeat' split) <;> simp_all [apply_ite State.sw, apply_ite SwS.vat]
@[simp] theorem State.admit2_wf (s : State) (c : Cmd) (t : Target) (r : Rights) (x : KeyExchange)
    (hw : Memory.wf s.sw.vat = true) : Memory.wf (State.admit2 s c t r x).sw.vat = true := by
  unfold State.admit2
  simp only []
  (repeat' split) <;> simp [hw]
@[simp] theorem State.serve_wf (s : State) (op : BitVec 8) (c : Cmd) (x : KeyExchange) (hw : Memory.wf s.sw.vat = true) :
    Memory.wf (State.serve s op c x).sw.vat = true := by
  unfold State.serve
  simp only []
  (repeat' split) <;> simp [hw]
@[simp] theorem State.runHeld_wf (n : Nat) (s : State) (hw : Memory.wf s.sw.vat = true) :
    Memory.wf (State.runHeld n s).sw.vat = true := by
  induction n generalizing s with
  | zero => exact hw
  | succ n ih =>
    unfold State.runHeld
    simp only []
    split
    · exact hw
    · split
      · exact hw
      · exact ih _ (State.execute_wf _ _ hw)
@[simp] theorem State.done_wf (s : State) (hw : Memory.wf s.sw.vat = true) : Memory.wf (State.done s).sw.vat = true := by
  unfold State.done; split <;> simp [hw, apply_ite State.sw, apply_ite SwS.vat]
@[simp] theorem State.orderCommand_wf (s : State) (f : Frame) (hw : Memory.wf s.sw.vat = true) :
    Memory.wf (State.orderCommand s f).sw.vat = true := by
  unfold State.orderCommand
  have ht : Memory.wf (s.touchSession f.session).sw.vat = true := by rw [State.touchSession_vat]; exact hw
  split
  · exact hw
  · split
    · exact ht
    · simp only []
      split
      · exact ht
      · exact State.execute_wf _ _ ht
@[simp] theorem State.orderIn_wf (s : State) (on : BitVec 16) (f : Frame) (good : Bool) (hw : Memory.wf s.sw.vat = true) :
    Memory.wf (State.orderIn s on f good).sw.vat = true := by
  unfold State.orderIn
  simp only []
  (repeat' split) <;> simp [hw]
@[simp] theorem State.llRequest_wf (s : State) (f : Frame) (hw : Memory.wf s.sw.vat = true) :
    Memory.wf (State.llRequest s f).sw.vat = true := by
  unfold State.llRequest
  extract_lets g c s1 s2 s3 s4
  have h1 : s1.sw.vat = s.sw.vat := by simp [s1]
  have h2 : s2.sw.vat = s1.sw.vat := by simp [s2]
  have h3 : s3.sw.vat = s2.sw.vat := by simp [s3]
  have h4 : s4.sw.vat = s3.sw.vat := by simp [s4]
  clear_value s4 s3 s2 s1
  split
  · exact hw
  · exact State.serve_wf _ _ _ _ (by rw [h4, h3, h2, h1]; exact hw)
@[simp] theorem State.engCtl_wf (s : State) (n : Nat) (m : Word) (pc : Nat) (hw : Memory.wf s.sw.vat = true) :
    Memory.wf (State.engCtl s n m pc).sw.vat = true := by
  simp [State.engCtl, hw]
@[simp] theorem State.engBit_wf (s : State) (n : Nat) (m : Word) (hw : Memory.wf s.sw.vat = true) :
    Memory.wf (State.engBit s n m).sw.vat = true := by
  simp [State.engBit, hw]
@[simp] theorem State.collectorDone_wf (s : State) (hw : Memory.wf s.sw.vat = true) :
    Memory.wf (State.collectorDone s).sw.vat = true := by
  unfold State.collectorDone; split <;> simp [hw, apply_ite State.sw, apply_ite SwS.vat]
@[simp] theorem State.pwrCtl_wf (s : State) (c : Nat) (w : Word) (hw : Memory.wf s.sw.vat = true) :
    Memory.wf (State.pwrCtl s c w).sw.vat = true := by
  simp [State.pwrCtl, hw]
@[simp] theorem State.unitLeaves_wf (s : State) (p : Nat) (hw : Memory.wf s.sw.vat = true) :
    Memory.wf (State.unitLeaves s p).sw.vat = true := by
  unfold State.unitLeaves; (repeat' split) <;> simp_all [apply_ite State.sw, apply_ite SwS.vat]

end Sys2Proof.Machine
end

