-- ==== Sys2Proof/Laws/Fuse.lean ====
section
/-!
SUPPORT. Which operations leave the fuses alone, and that the others only blow them.
-/
namespace Sys2Proof.Machine

/-! ### State -/

@[simp] theorem foldl_fuse {α : Type} (f : State → α → State) (h : ∀ s a, (f s a).sec.fuse = s.sec.fuse) (l : List α)
    (s : State) : (l.foldl f s).sec.fuse = s.sec.fuse := by
  induction l generalizing s with
  | nil => rfl
  | cons a l ih => simp [ih, h]
@[simp] theorem foldl_fuse_fst {α β : Type} (f : State × β → α → State × β) (h : ∀ p a, (f p a).1.sec.fuse = p.1.sec.fuse)
    (l : List α) (p : State × β) : (l.foldl f p).1.sec.fuse = p.1.sec.fuse := by
  induction l generalizing p with
  | nil => rfl
  | cons a l ih => simp [ih, h]
@[simp] theorem foldl_fuse_snd {α β : Type} (f : β × State → α → β × State) (h : ∀ p a, (f p a).2.sec.fuse = p.2.sec.fuse)
    (l : List α) (p : β × State) : (l.foldl f p).2.sec.fuse = p.2.sec.fuse := by
  induction l generalizing p with
  | nil => rfl
  | cons a l ih => simp [ih, h]

/-! ### Ops -/

@[simp] theorem State.wr_fuse (s : State) (r : Reg) (i : Nat) (j : Nat) (w : Word) :
    (State.wr s r i j w).sec.fuse = s.sec.fuse := by
  simp [State.wr]
@[simp] theorem State.put_fuse (s : State) (f : Fld) (v : Nat) (i : Nat) (j : Nat) :
    (State.put s f v i j).sec.fuse = s.sec.fuse := by
  simp [State.put]
@[simp] theorem State.bump_fuse (s : State) (r : Reg) (i : Nat) (j : Nat) (n : Nat) :
    (State.bump s r i j n).sec.fuse = s.sec.fuse := by
  simp [State.bump]
@[simp] theorem State.sat_fuse (s : State) (f : Fld) (i : Nat) (j : Nat) : (State.sat s f i j).sec.fuse = s.sec.fuse := by
  simp [State.sat, apply_ite State.sec, apply_ite SecS.fuse]
@[simp] theorem State.timClocks_fuse (s : State) (n : Nat) : (State.timClocks s n).sec.fuse = s.sec.fuse := by
  simp [State.timClocks, apply_ite State.sec, apply_ite SecS.fuse]
@[simp] theorem State.advance_fuse (s : State) (dt : Nat) : (State.advance s dt).sec.fuse = s.sec.fuse := by
  simp [State.advance]
@[simp] theorem State.advanceRing_fuse (s : State) (t : Nat) : (State.advanceRing s t).sec.fuse = s.sec.fuse := by
  simp [State.advanceRing, apply_ite State.sec, apply_ite SecS.fuse]
@[simp] theorem State.disarm_fuse (s : State) (t : Timer) : (State.disarm s t).sec.fuse = s.sec.fuse := by
  simp [State.disarm]
@[simp] theorem State.arm_fuse (s : State) (t : Timer) (d : Nat) : (State.arm s t d).sec.fuse = s.sec.fuse := by
  simp [State.arm]
theorem State.expire_fuse (s : State) (t : Timer) : ∀ tx, State.expire s t = some tx → tx.sec.fuse = s.sec.fuse := by
  unfold State.expire; split <;> simp [apply_ite State.sec, apply_ite SecS.fuse]
theorem State.expire_fuse_of (s : State) (t : Timer) {tx : State} (h : State.expire s t = some tx) : tx.sec.fuse = s.sec.fuse :=
  State.expire_fuse s t tx h
@[simp] theorem State.disarmAll_fuse (s : State) (p : Timer → Bool) : (State.disarmAll s p).sec.fuse = s.sec.fuse := by
  simp [State.disarmAll]
@[simp] theorem State.fresh_fuse (s : State) : ((State.fresh s).2).sec.fuse = s.sec.fuse := by
  simp [State.fresh]
theorem State.fresh_fuse_of (s : State) {sx : Word} {qx : State} (h : State.fresh s = (sx, qx)) : qx.sec.fuse = s.sec.fuse := by
  have e := State.fresh_fuse s
  rw [h] at e
  exact e
@[simp] theorem State.freshWords_fuse (x0 : Nat) (x1 : State) : ((State.freshWords x0 x1).2).sec.fuse = x1.sec.fuse := by
  induction x0 generalizing x1 <;> simp_all [State.freshWords, apply_ite State.sec, apply_ite SecS.fuse]
theorem State.freshWords_fuse_of (x0 : Nat) (x1 : State) {sx : List Word} {qx : State} (h : State.freshWords x0 x1 = (sx, qx)) : qx.sec.fuse = x1.sec.fuse := by
  have e := State.freshWords_fuse x0 x1
  rw [h] at e
  exact e
@[simp] theorem State.freeIn_fuse (s : State) (lo : Nat) (hi : Nat) : ((State.freeIn s lo hi).2).sec.fuse = s.sec.fuse := by
  simp [State.freeIn]
theorem State.freeIn_fuse_of (s : State) (lo : Nat) (hi : Nat) {sx : Nat} {qx : State} (h : State.freeIn s lo hi = (sx, qx)) : qx.sec.fuse = s.sec.fuse := by
  have e := State.freeIn_fuse s lo hi
  rw [h] at e
  exact e
@[simp] theorem State.enqueue_fuse (s : State) (x : UnitIn) : (State.enqueue s x).sec.fuse = s.sec.fuse := by
  simp [State.enqueue]
@[simp] theorem State.emit_fuse (s : State) (f : Frame) (inPort : Nat) (slot : (Option Nat)) :
    (State.emit s f inPort slot).sec.fuse = s.sec.fuse := by
  simp [State.emit]
@[simp] theorem State.emitOut_fuse (s : State) (f : Frame) (inPort : Nat) :
    (State.emitOut s f inPort).sec.fuse = s.sec.fuse := by
  simp [State.emitOut, apply_ite State.sec, apply_ite SecS.fuse]
@[simp] theorem State.mirrorOne_fuse (s : State) : (State.mirrorOne s).sec.fuse = s.sec.fuse := by
  unfold State.mirrorOne; split <;> simp [apply_ite State.sec, apply_ite SecS.fuse]
@[simp] theorem State.log_fuse (s : State) (audit : Bool) (cls : Nat) (origin : Nat) (source : Nat) (code : Nat) (who : Who) (data : List Word) :
    (State.log s audit cls origin source code who data).sec.fuse = s.sec.fuse := by
  simp [State.log, apply_ite State.sec, apply_ite SecS.fuse]

/-! ### Flags -/

@[simp] theorem State.updateAlive_fuse (s : State) : (State.updateAlive s).sec.fuse = s.sec.fuse := by
  simp [State.updateAlive, apply_ite State.sec, apply_ite SecS.fuse]
@[simp] theorem State.faultPulse_fuse (s : State) : (State.faultPulse s).sec.fuse = s.sec.fuse := by
  unfold State.faultPulse; grind [→ State.freeIn_fuse_of, State.arm_fuse, State.bump_fuse]
@[simp] theorem State.faultEvent_fuse (s : State) (kind : Nat) (src : Nat) (reaction : Nat) :
    (State.faultEvent s kind src reaction).sec.fuse = s.sec.fuse := by
  simp [State.faultEvent, apply_ite State.sec, apply_ite SecS.fuse]
@[simp] theorem State.raiseEvent_fuse (s : State) (src : Nat) : (State.raiseEvent s src).sec.fuse = s.sec.fuse := by
  simp [State.raiseEvent, apply_ite State.sec, apply_ite SecS.fuse]
@[simp] theorem State.faultRecord_fuse (s : State) (src : Nat) (raised : Bool) :
    (State.faultRecord s src raised).sec.fuse = s.sec.fuse := by
  simp [State.faultRecord, apply_ite State.sec, apply_ite SecS.fuse]
@[simp] theorem State.raiseCore_fuse (s : State) (src : Nat) (inst : Nat) :
    (State.raiseCore s src inst).sec.fuse = s.sec.fuse := by
  simp [State.raiseCore, apply_ite State.sec, apply_ite SecS.fuse]
@[simp] theorem State.raise_fuse (s : State) (src : Nat) (inst : Nat) : (State.raise s src inst).sec.fuse = s.sec.fuse := by
  simp [State.raise, apply_ite State.sec, apply_ite SecS.fuse]
@[simp] theorem State.setLive_fuse (s : State) (src : Nat) (inst : Nat) :
    (State.setLive s src inst).sec.fuse = s.sec.fuse := by
  simp [State.setLive, apply_ite State.sec, apply_ite SecS.fuse]
@[simp] theorem State.clearLive_fuse (s : State) (src : Nat) (inst : Nat) :
    (State.clearLive s src inst).sec.fuse = s.sec.fuse := by
  simp [State.clearLive, apply_ite State.sec, apply_ite SecS.fuse]
@[simp] theorem State.crossToAon_fuse (s : State) (i : Nat) : ((State.crossToAon s i).1).sec.fuse = s.sec.fuse := by
  unfold State.crossToAon; grind [State.raise_fuse, State.bump_fuse]
theorem State.crossToAon_fuse_of (s : State) (i : Nat) {sx : State} {qx : Bool} (h : State.crossToAon s i = (sx, qx)) : sx.sec.fuse = s.sec.fuse := by
  have e := State.crossToAon_fuse s i
  rw [h] at e
  exact e

/-! ### SwitchOps -/

@[simp] theorem State.setUnit_fuse (s : State) (u : Nat) (v : VUnit) : (State.setUnit s u v).sec.fuse = s.sec.fuse := by
  simp [State.setUnit]
@[simp] theorem State.setQueue_fuse (s : State) (q : Nat) (l : List Link) : (State.setQueue s q l).sec.fuse = s.sec.fuse := by
  simp [State.setQueue]
@[simp] theorem State.setResidue_fuse (s : State) (q : Nat) (l : List ResEntry) :
    (State.setResidue s q l).sec.fuse = s.sec.fuse := by
  simp [State.setResidue]
@[simp] theorem State.retireCell_fuse (s : State) (c : Nat) : (State.retireCell s c).sec.fuse = s.sec.fuse := by
  simp [State.retireCell, apply_ite State.sec, apply_ite SecS.fuse]
@[simp] theorem State.gc_fuse (s : State) (u : Nat) : ((State.gc s u).1).sec.fuse = s.sec.fuse := by
  unfold State.gc; (repeat' split) <;> simp_all [apply_ite State.sec, apply_ite SecS.fuse]
theorem State.gc_fuse_of (s : State) (u : Nat) {sx : State} {qx : Nat} (h : State.gc s u = (sx, qx)) : sx.sec.fuse = s.sec.fuse := by
  have e := State.gc_fuse s u
  rw [h] at e
  exact e
@[simp] theorem State.notePeak_fuse (s : State) (q : Nat) : (State.notePeak s q).sec.fuse = s.sec.fuse := by
  simp [State.notePeak, apply_ite State.sec, apply_ite SecS.fuse]
@[simp] theorem State.linkQ_fuse (s : State) (q : Nat) (l : Link) : (State.linkQ s q l).sec.fuse = s.sec.fuse := by
  simp [State.linkQ, apply_ite State.sec, apply_ite SecS.fuse]
@[simp] theorem State.holdFor_fuse (s : State) (u : Nat) (q : Nat) : (State.holdFor s u q).sec.fuse = s.sec.fuse := by
  simp [State.holdFor]
@[simp] theorem State.loupeCopy_fuse (s : State) (m : Nat) (u : Nat) : (State.loupeCopy s m u).sec.fuse = s.sec.fuse := by
  unfold State.loupeCopy; grind [State.bump_fuse, State.setResidue_fuse, State.linkQ_fuse]
@[simp] theorem State.loupeMark_fuse (s : State) (m : Nat) (u : Nat) : (State.loupeMark s m u).sec.fuse = s.sec.fuse := by
  unfold State.loupeMark; split <;> simp [apply_ite State.sec, apply_ite SecS.fuse]
@[simp] theorem State.loupes_fuse (s : State) (u : Nat) (p : Nat) (egress : Bool) (f : Frame) :
    (State.loupes s u p egress f).sec.fuse = s.sec.fuse := by
  simp [State.loupes, apply_ite State.sec, apply_ite SecS.fuse]
@[simp] theorem State.linkUnit_fuse (s : State) (q : Nat) (u : Nat) (cut : Bool) :
    (State.linkUnit s q u cut).sec.fuse = s.sec.fuse := by
  unfold State.linkUnit; grind [→ State.gc_fuse_of, State.bump_fuse, State.linkQ_fuse, State.loupes_fuse]
@[simp] theorem State.unblock_fuse (s : State) (q : Nat) (x2 : Nat) : (State.unblock s q x2).sec.fuse = s.sec.fuse := by
  (induction x2 generalizing s q) <;> (unfold State.unblock; (repeat' split)) <;> simp_all [apply_ite State.sec, apply_ite SecS.fuse]
@[simp] theorem State.unblockAll_fuse (s : State) (q : Nat) : (State.unblockAll s q).sec.fuse = s.sec.fuse := by
  simp [State.unblockAll]
@[simp] theorem State.residueTest_fuse (s : State) (q : Nat) (x2 : Nat) :
    (State.residueTest s q x2).sec.fuse = s.sec.fuse := by
  (induction x2 generalizing s q) <;> (unfold State.residueTest; (repeat' split)) <;> simp_all [apply_ite State.sec, apply_ite SecS.fuse]
@[simp] theorem State.unlink_fuse (s : State) (q : Nat) (u : Nat) (loupe : Option Nat) :
    ((State.unlink s q u loupe).1).sec.fuse = s.sec.fuse := by
  simp [State.unlink]
theorem State.unlink_fuse_of (s : State) (q : Nat) (u : Nat) (loupe : Option Nat) {sx : State} {qx : Nat} (h : State.unlink s q u loupe = (sx, qx)) : sx.sec.fuse = s.sec.fuse := by
  have e := State.unlink_fuse s q u loupe
  rw [h] at e
  exact e
@[simp] theorem State.dropHolds_fuse (s : State) (p : Nat) : ((State.dropHolds s p).1).sec.fuse = s.sec.fuse := by
  simp [State.dropHolds]
theorem State.dropHolds_fuse_of (s : State) (p : Nat) {sx : State} {qx : Nat} (h : State.dropHolds s p = (sx, qx)) : sx.sec.fuse = s.sec.fuse := by
  have e := State.dropHolds_fuse s p
  rw [h] at e
  exact e
@[simp] theorem State.emptyQueue_fuse (s : State) (q : Nat) : ((State.emptyQueue s q).1).sec.fuse = s.sec.fuse := by
  simp [State.emptyQueue]
theorem State.emptyQueue_fuse_of (s : State) (q : Nat) {sx : State} {qx : Nat} (h : State.emptyQueue s q = (sx, qx)) : sx.sec.fuse = s.sec.fuse := by
  have e := State.emptyQueue_fuse s q
  rw [h] at e
  exact e
@[simp] theorem State.emptyPort_fuse (s : State) (p : Nat) : ((State.emptyPort s p).1).sec.fuse = s.sec.fuse := by
  simp [State.emptyPort]
theorem State.emptyPort_fuse_of (s : State) (p : Nat) {sx : State} {qx : Nat} (h : State.emptyPort s p = (sx, qx)) : sx.sec.fuse = s.sec.fuse := by
  have e := State.emptyPort_fuse s p
  rw [h] at e
  exact e
@[simp] theorem State.transmit_fuse (s : State) (p : Nat) (f : Frame) (rind : Word) :
    (State.transmit s p f rind).sec.fuse = s.sec.fuse := by
  simp [State.transmit, apply_ite State.sec, apply_ite SecS.fuse]
@[simp] theorem State.ruined_fuse (s : State) (u : Nat) : (State.ruined s u).sec.fuse = s.sec.fuse := by
  unfold State.ruined; split <;> simp [apply_ite State.sec, apply_ite SecS.fuse]
@[simp] theorem State.endCut_fuse (s : State) (p : Nat) : ((State.endCut s p).1).sec.fuse = s.sec.fuse := by
  unfold State.endCut; (repeat' split) <;> simp_all [apply_ite State.sec, apply_ite SecS.fuse]
theorem State.endCut_fuse_of (s : State) (p : Nat) {sx : State} {qx : Nat} (h : State.endCut s p = (sx, qx)) : sx.sec.fuse = s.sec.fuse := by
  have e := State.endCut_fuse s p
  rw [h] at e
  exact e
@[simp] theorem State.truncate_fuse (s : State) (p : Nat) : (State.truncate s p).sec.fuse = s.sec.fuse := by
  unfold State.truncate; (repeat' split) <;> simp_all [apply_ite State.sec, apply_ite SecS.fuse]
@[simp] theorem State.newUnit_fuse (s : State) (f : Frame) (inPort : Nat) (own : Bool) (complete : Bool) (authOk : Bool) (tier : Tier) (k : Nat) :
    ((State.newUnit s f inPort own complete authOk tier k).1).sec.fuse = s.sec.fuse := by
  simp [State.newUnit]
theorem State.newUnit_fuse_of (s : State) (f : Frame) (inPort : Nat) (own : Bool) (complete : Bool) (authOk : Bool) (tier : Tier) (k : Nat) {sx : State} {qx : Nat} (h : State.newUnit s f inPort own complete authOk tier k = (sx, qx)) : sx.sec.fuse = s.sec.fuse := by
  have e := State.newUnit_fuse s f inPort own complete authOk tier k
  rw [h] at e
  exact e
@[simp] theorem State.layUnit_fuse (s : State) (u : Nat) (tail : List Word) :
    (State.layUnit s u tail).sec.fuse = s.sec.fuse := by
  unfold State.layUnit; split <;> simp [apply_ite State.sec, apply_ite SecS.fuse]
@[simp] theorem State.admitUnit_fuse (s : State) (f : Frame) (inPort : Nat) (own complete authOk : Bool) (ds : List Dest) :
  (State.admitUnit s f inPort own complete authOk ds).1.sec.fuse = s.sec.fuse := by
  unfold State.admitUnit
  simp only []
  split
  · simp
  · simp [apply_ite State.sec, apply_ite SecS.fuse]
theorem State.admitUnit_fuse_of (s : State) (f : Frame) (inPort : Nat) (own : Bool) (complete : Bool) (authOk : Bool) (ds : List Dest) {sx : State} {qx : Option Nat} (h : State.admitUnit s f inPort own complete authOk ds = (sx, qx)) : sx.sec.fuse = s.sec.fuse := by
  have e := State.admitUnit_fuse s f inPort own complete authOk ds
  rw [h] at e
  exact e

/-! ### PressOps -/

@[simp] theorem State.setCtx_fuse (s : State) (k : Nat) (c : PressCtx) : (State.setCtx s k c).sec.fuse = s.sec.fuse := by
  simp [State.setCtx]
@[simp] theorem State.declareLost_fuse (s : State) (k : Nat) (next : Nat) (cause : Nat) (runs : List (Nat × Nat)) :
    (State.declareLost s k next cause runs).sec.fuse = s.sec.fuse := by
  simp [State.declareLost, apply_ite State.sec, apply_ite SecS.fuse]
@[simp] theorem State.linkWaiting_fuse (s : State) (u : Nat) (p : Nat → Bool) :
    (State.linkWaiting s u p).sec.fuse = s.sec.fuse := by
  simp [State.linkWaiting, apply_ite State.sec, apply_ite SecS.fuse]
@[simp] theorem State.dropWaiting_fuse (s : State) (u : Nat) (p : Nat → Bool) :
    (State.dropWaiting s u p).sec.fuse = s.sec.fuse := by
  simp [State.dropWaiting]
@[simp] theorem State.deliverLocal_fuse (s : State) (u : Nat) : (State.deliverLocal s u).sec.fuse = s.sec.fuse := by
  unfold State.deliverLocal; split <;> simp [apply_ite State.sec, apply_ite SecS.fuse]
@[simp] theorem State.discardLocal_fuse (s : State) (u : Nat) : (State.discardLocal s u).sec.fuse = s.sec.fuse := by
  simp [State.discardLocal]
@[simp] theorem State.pressAdvance_fuse (s : State) (k : Nat) (n : Nat) :
    (State.pressAdvance s k n).sec.fuse = s.sec.fuse := by
  unfold State.pressAdvance; split <;> simp [apply_ite State.sec, apply_ite SecS.fuse]
@[simp] theorem State.pressDrain_fuse (s : State) (k : Nat) (x2 : Nat) : (State.pressDrain s k x2).sec.fuse = s.sec.fuse := by
  (induction x2 generalizing s k) <;> (unfold State.pressDrain; (repeat' split)) <;> simp_all [apply_ite State.sec, apply_ite SecS.fuse]
@[simp] theorem State.startWait_fuse (s : State) (k : Nat) (t : Nat) : (State.startWait s k t).sec.fuse = s.sec.fuse := by
  unfold State.startWait; split <;> simp [apply_ite State.sec, apply_ite SecS.fuse]
@[simp] theorem State.pressTimer_fuse (s : State) (k : Nat) : (State.pressTimer s k).sec.fuse = s.sec.fuse := by
  unfold State.pressTimer; (repeat' split) <;> simp_all [apply_ite State.sec, apply_ite SecS.fuse]
@[simp] theorem State.pressTouch_fuse (s : State) (k : Nat) : (State.pressTouch s k).sec.fuse = s.sec.fuse := by
  simp [State.pressTouch]
@[simp] theorem State.freeCtx_fuse (s : State) (k : Nat) : (State.freeCtx s k).sec.fuse = s.sec.fuse := by
  unfold State.freeCtx; (repeat' split) <;> simp_all [apply_ite State.sec, apply_ite SecS.fuse]
@[simp] theorem State.roomForCtx_fuse (s : State) : (State.roomForCtx s).sec.fuse = s.sec.fuse := by
  unfold State.roomForCtx; (repeat' split) <;> simp_all [apply_ite State.sec, apply_ite SecS.fuse]
@[simp] theorem State.pressWindow_fuse (s : State) (k : Nat) (u : Nat) (q : Nat) :
    (State.pressWindow s k u q).sec.fuse = s.sec.fuse := by
  unfold State.pressWindow; split <;> simp [apply_ite State.sec, apply_ite SecS.fuse]
@[simp] theorem State.pressArrive_fuse (s : State) (u : Nat) (f : Frame) :
    (State.pressArrive s u f).sec.fuse = s.sec.fuse := by
  unfold State.pressArrive; grind [State.roomForCtx_fuse, State.pressTouch_fuse, State.deliverLocal_fuse, State.setCtx_fuse, State.pressWindow_fuse, State.declareLost_fuse, State.pressDrain_fuse, State.pressAdvance_fuse, State.pressTimer_fuse, State.bump_fuse, State.discardLocal_fuse]
@[simp] theorem State.pressWaitEnd_fuse (s : State) (k : Nat) : (State.pressWaitEnd s k).sec.fuse = s.sec.fuse := by
  unfold State.pressWaitEnd; grind [State.declareLost_fuse, State.pressTouch_fuse, State.pressDrain_fuse, State.pressAdvance_fuse, State.startWait_fuse]
@[simp] theorem State.ctxIdle_fuse (s : State) (k : Nat) : (State.ctxIdle s k).sec.fuse = s.sec.fuse := by
  simp [State.ctxIdle, apply_ite State.sec, apply_ite SecS.fuse]
@[simp] theorem State.transitArrive_fuse (s : State) (f : Frame) : ((State.transitArrive s f).1).sec.fuse = s.sec.fuse := by
  unfold State.transitArrive; grind [State.roomForCtx_fuse, State.pressTouch_fuse, State.setCtx_fuse, State.bump_fuse]
theorem State.transitArrive_fuse_of (s : State) (f : Frame) {sx : State} {qx : Transit} (h : State.transitArrive s f = (sx, qx)) : sx.sec.fuse = s.sec.fuse := by
  have e := State.transitArrive_fuse s f
  rw [h] at e
  exact e
@[simp] theorem State.transitNote_fuse (s : State) (f : Frame) (u : Nat) (v : Transit) :
    (State.transitNote s f u v).sec.fuse = s.sec.fuse := by
  unfold State.transitNote; grind [State.setCtx_fuse]
@[simp] theorem State.transitEnd_fuse (s : State) (f : Frame) (u : Nat) (good : Bool) :
    (State.transitEnd s f u good).sec.fuse = s.sec.fuse := by
  simp only [State.transitEnd, State.expire]; (repeat' split) <;> simp_all [apply_ite State.sec, apply_ite SecS.fuse]

/-! ### OrderOps -/

@[simp] theorem State.orderedSet_fuse (s : State) (d1 : BitVec 8) (d2 : BitVec 8) (d3 : BitVec 8) :
    (State.orderedSet s d1 d2 d3).sec.fuse = s.sec.fuse := by
  simp [State.orderedSet]
@[simp] theorem State.orderSet_fuse (s : State) (d1 : BitVec 8) (on : Nat) :
    (State.orderSet s d1 on).sec.fuse = s.sec.fuse := by
  simp [State.orderSet]
@[simp] theorem State.privateWords_fuse (s : State) : ((State.privateWords s).2).sec.fuse = s.sec.fuse := by
  simp [State.privateWords]
theorem State.privateWords_fuse_of (s : State) {sx : List Word} {qx : State} (h : State.privateWords s = (sx, qx)) : qx.sec.fuse = s.sec.fuse := by
  have e := State.privateWords_fuse s
  rw [h] at e
  exact e
@[simp] theorem State.startTransfer_fuse (s : State) : (State.startTransfer s).sec.fuse = s.sec.fuse := by
  simp [State.startTransfer]
@[simp] theorem State.twinDown_fuse (s : State) : (State.twinDown s).sec.fuse = s.sec.fuse := by
  simp [State.twinDown]
@[simp] theorem State.transferAgain_fuse (s : State) : (State.transferAgain s).sec.fuse = s.sec.fuse := by
  simp [State.transferAgain, apply_ite State.sec, apply_ite SecS.fuse]
@[simp] theorem State.placeOrder_fuse (s : State) (f : Frame) : (State.placeOrder s f).sec.fuse = s.sec.fuse := by
  simp [State.placeOrder, apply_ite State.sec, apply_ite SecS.fuse]
@[simp] theorem State.sendOrder_fuse (s : State) (f : Frame) : (State.sendOrder s f).sec.fuse = s.sec.fuse := by
  simp [State.sendOrder, apply_ite State.sec, apply_ite SecS.fuse]
@[simp] theorem State.placeWaiting_fuse (s : State) : (State.placeWaiting s).sec.fuse = s.sec.fuse := by
  simp [State.placeWaiting]
@[simp] theorem State.sendPairOrder_fuse (s : State) (kind : Nat) (ws : List Word) :
    (State.sendPairOrder s kind ws).sec.fuse = s.sec.fuse := by
  simp [State.sendPairOrder]
@[simp] theorem State.progressOrder_fuse (s : State) (port : Nat) (outcome : Nat) (seq : BitVec 16) :
    (State.progressOrder s port outcome seq).sec.fuse = s.sec.fuse := by
  simp [State.progressOrder]
@[simp] theorem State.channelOrder_fuse (s : State) (c : Nat) (what : Nat) (code : Nat) :
    (State.channelOrder s c what code).sec.fuse = s.sec.fuse := by
  simp [State.channelOrder]
@[simp] theorem State.sessionOrder_fuse (s : State) : (State.sessionOrder s).sec.fuse = s.sec.fuse := by
  simp [State.sessionOrder, apply_ite State.sec, apply_ite SecS.fuse]
@[simp] theorem State.resendOrders_fuse (s : State) (first : Nat) : (State.resendOrders s first).sec.fuse = s.sec.fuse := by
  simp [State.resendOrders, apply_ite State.sec, apply_ite SecS.fuse]
@[simp] theorem State.orderOf_fuse (s : State) (f : Frame) : (State.orderOf s f).sec.fuse = s.sec.fuse := by
  simp [State.orderOf, apply_ite State.sec, apply_ite SecS.fuse]

/-! ### RouteOps -/

@[simp] theorem State.setLane_fuse (s : State) (l : Nat) (x : LaneS) : (State.setLane s l x).sec.fuse = s.sec.fuse := by
  simp [State.setLane]
@[simp] theorem State.upPorts_fuse (s : State) (dual : Bool) (ps : List Nat) :
    ((State.upPorts s dual ps).1).sec.fuse = s.sec.fuse := by
  unfold State.upPorts; grind [State.bump_fuse]
theorem State.upPorts_fuse_of (s : State) (dual : Bool) (ps : List Nat) {sx : State} {qx : List Nat} (h : State.upPorts s dual ps = (sx, qx)) : sx.sec.fuse = s.sec.fuse := by
  have e := State.upPorts_fuse s dual ps
  rw [h] at e
  exact e
@[simp] theorem State.ownDests_fuse (s : State) (f : Frame) : ((State.ownDests s f).1).sec.fuse = s.sec.fuse := by
  unfold State.ownDests; grind [State.bump_fuse, → State.upPorts_fuse_of]
theorem State.ownDests_fuse_of (s : State) (f : Frame) {sx : State} {qx : List Dest} (h : State.ownDests s f = (sx, qx)) : sx.sec.fuse = s.sec.fuse := by
  have e := State.ownDests_fuse s f
  rw [h] at e
  exact e
@[simp] theorem State.spendSessions_fuse (s : State) : (State.spendSessions s).sec.fuse = s.sec.fuse := by
  simp [State.spendSessions, apply_ite State.sec, apply_ite SecS.fuse]
@[simp] theorem State.takeSeq_fuse (s : State) (f : Frame) : ((State.takeSeq s f).2).sec.fuse = s.sec.fuse := by
  simp [State.takeSeq]
theorem State.takeSeq_fuse_of (s : State) (f : Frame) {sx : Frame} {qx : State} (h : State.takeSeq s f = (sx, qx)) : qx.sec.fuse = s.sec.fuse := by
  have e := State.takeSeq_fuse s f
  rw [h] at e
  exact e
@[simp] theorem State.sealFrame_fuse (s : State) (slot : Option Nat) (f : Frame) :
    ((State.sealFrame s slot f).2).sec.fuse = s.sec.fuse := by
  simp [State.sealFrame]
theorem State.sealFrame_fuse_of (s : State) (slot : Option Nat) (f : Frame) {sx : Frame} {qx : State} (h : State.sealFrame s slot f = (sx, qx)) : qx.sec.fuse = s.sec.fuse := by
  have e := State.sealFrame_fuse s slot f
  rw [h] at e
  exact e
@[simp] theorem State.assignSeq_fuse (s : State) (u : Nat) (v : VUnit) (slot : (Option Nat)) :
    (State.assignSeq s u v slot).sec.fuse = s.sec.fuse := by
  unfold State.assignSeq; grind [→ State.takeSeq_fuse_of, → State.sealFrame_fuse_of, State.spendSessions_fuse, State.layUnit_fuse, State.setUnit_fuse]
@[simp] theorem State.macCount_fuse (s : State) (m : Nat) (k : Nat) (n : Nat) :
    (State.macCount s m k n).sec.fuse = s.sec.fuse := by
  simp [State.macCount, apply_ite State.sec, apply_ite SecS.fuse]
@[simp] theorem State.ownDropped_fuse (s : State) (p : Nat) : (State.ownDropped s p).sec.fuse = s.sec.fuse := by
  simp [State.ownDropped, apply_ite State.sec, apply_ite SecS.fuse]
@[simp] theorem State.txResult_fuse (s : State) (x : UnitIn) (st : Status) (seq : BitVec 16) :
    (State.txResult s x st seq).sec.fuse = s.sec.fuse := by
  simp [State.txResult, apply_ite State.sec, apply_ite SecS.fuse]
@[simp] theorem State.noteSeq_fuse (s : State) (f : Frame) (inPort : Nat) :
    (State.noteSeq s f inPort).sec.fuse = s.sec.fuse := by
  unfold State.noteSeq; (repeat' split) <;> simp_all [apply_ite State.sec, apply_ite SecS.fuse]
@[simp] theorem State.fwdRead_fuse (s : State) (k : Nat) : (State.fwdRead s k).sec.fuse = s.sec.fuse := by
  simp [State.fwdRead, apply_ite State.sec, apply_ite SecS.fuse]
@[simp] theorem State.tableRead_fuse (s : State) (n : BitVec 24) (one : Bool) :
    (State.tableRead s n one).sec.fuse = s.sec.fuse := by
  simp [State.tableRead, apply_ite State.sec, apply_ite SecS.fuse]
@[simp] theorem State.loupeOnly_fuse (s : State) (f : Frame) (inPort : Nat) (own authOk : Bool) :
  ((State.loupeOnly s f inPort own authOk).1).sec.fuse = s.sec.fuse := by
  unfold State.loupeOnly
  extract_lets takes q k
  split
  · refine foldl_fuse _ (fun s m => ?_) _ _
    split <;> simp
  · exact (State.loupes_fuse _ _ _ _ _).trans (State.newUnit_fuse _ _ _ _ _ _ _ _)
theorem State.loupeOnly_fuse_of (s : State) (f : Frame) (inPort : Nat) (own : Bool) (authOk : Bool) {sx : State} {qx : Option Nat} (h : State.loupeOnly s f inPort own authOk = (sx, qx)) : sx.sec.fuse = s.sec.fuse := by
  have e := State.loupeOnly_fuse s f inPort own authOk
  rw [h] at e
  exact e
@[simp] theorem State.lookupNext_fuse (s : State) : (State.lookupNext s).sec.fuse = s.sec.fuse := by
  unfold State.lookupNext; grind [State.txResult_fuse, State.bump_fuse, State.tableRead_fuse, → State.ownDests_fuse_of, → State.loupeOnly_fuse_of, → State.admitUnit_fuse_of, State.ownDropped_fuse, State.assignSeq_fuse, State.loupes_fuse, State.orderOf_fuse, State.noteSeq_fuse]
@[simp] theorem State.ringDests_fuse (s : State) (l : Nat) (f : Frame) : (State.ringDests s l f).1.sec.fuse = s.sec.fuse := by
  unfold State.ringDests
  extract_lets n mine bcast seg inSeg shadow ports s1 s2 here
  have h2 : s2.sec.fuse = s.sec.fuse := by simp [s2, s1, apply_ite State.sec, apply_ite SecS.fuse]
  clear_value s2
  split
  · exact h2
  · rename_i pass other s3 dn s4 _
    have h4 : s4.sec.fuse = s.sec.fuse := by simp [s4, s3, h2, apply_ite State.sec, apply_ite SecS.fuse]
    clear_value s4 pass other
    simp [h4, apply_ite State.sec, apply_ite SecS.fuse, apply_ite Prod.fst]
theorem State.ringDests_fuse_of (s : State) (l : Nat) (f : Frame) {sx : State} {qx : List Dest × Transit} (h : State.ringDests s l f = (sx, qx)) : sx.sec.fuse = s.sec.fuse := by
  have e := State.ringDests_fuse s l f
  rw [h] at e
  exact e
@[simp] theorem State.setRx_fuse (s : State) (l : Nat) (u : Option Nat) (f : Frame) :
    (State.setRx s l u f).sec.fuse = s.sec.fuse := by
  simp [State.setRx]
@[simp] theorem State.ueMet_fuse (s : State) (w : Nat) : (State.ueMet s w).sec.fuse = s.sec.fuse := by
  simp [State.ueMet, apply_ite State.sec, apply_ite SecS.fuse]
@[simp] theorem State.ceMet_fuse (s : State) (w : Nat) (n : Nat) : (State.ceMet s w n).sec.fuse = s.sec.fuse := by
  simp [State.ceMet]
@[simp] theorem State.meetWords_fuse (s : State) (ws : List Nat) : (State.meetWords s ws).sec.fuse = s.sec.fuse := by
  unfold State.meetWords
  refine foldl_fuse _ (fun s w => ?_) _ _
  split
  · simp
  · split <;> simp
@[simp] theorem State.meetUnit_fuse (s : State) (v : VUnit) : (State.meetUnit s v).sec.fuse = s.sec.fuse := by
  simp [State.meetUnit]
@[simp] theorem State.endSend_fuse (s : State) (p u : Nat) (v : VUnit) (rind : Word) :
    (State.endSend s p u v rind).sec.fuse = s.sec.fuse := by
  unfold State.endSend
  dsimp only
  split <;> simp
@[simp] theorem State.endCuts_fuse (s : State) (u : Nat) (v : VUnit) (rind : Word) :
    (State.endCuts s u v rind).sec.fuse = s.sec.fuse := by
  simp [State.endCuts]
@[simp] theorem State.purgeBad_fuse (s : State) (u : Nat) : (State.purgeBad s u).sec.fuse = s.sec.fuse := by
  simp [State.purgeBad]
@[simp] theorem State.repeatOut_fuse (s : State) (l : Nat) (f : Frame) (rind : Word) :
    (State.repeatOut s l f rind).sec.fuse = s.sec.fuse := by
  simp [State.repeatOut]
@[simp] theorem State.countEnd_fuse (s : State) (l : Nat) (f : Frame) (t : Tail) (ou : Option Nat) :
    (State.countEnd s l f t ou).sec.fuse = s.sec.fuse := by
  simp [State.countEnd, apply_ite State.sec, apply_ite SecS.fuse]
@[simp] theorem State.frameEnd_fuse (s : State) (l : Nat) (t : Tail) : (State.frameEnd s l t).sec.fuse = s.sec.fuse := by
  unfold State.frameEnd; grind [State.bump_fuse, State.repeatOut_fuse, State.countEnd_fuse, State.transitEnd_fuse, State.setUnit_fuse, State.endCuts_fuse, → State.gc_fuse_of, State.purgeBad_fuse, State.pressArrive_fuse, State.deliverLocal_fuse]
@[simp] theorem State.repeatIn_fuse (s : State) (l : Nat) (f : Frame) : (State.repeatIn s l f).sec.fuse = s.sec.fuse := by
  simp [State.repeatIn]
@[simp] theorem State.layTail_fuse (s : State) (l : Nat) (t : Tail) : (State.layTail s l t).sec.fuse = s.sec.fuse := by
  unfold State.layTail; split <;> simp [apply_ite State.sec, apply_ite SecS.fuse]
@[simp] theorem State.ringFrame_fuse (s : State) (l : Nat) (f : Frame) : (State.ringFrame s l f).sec.fuse = s.sec.fuse := by
  have I : ∀ {c : Prop} [Decidable c] {a b : State}, a.sec.fuse = s.sec.fuse → b.sec.fuse = s.sec.fuse →
      (if c then a else b).sec.fuse = s.sec.fuse := by intro c _ a b ha hb; split <;> assumption
  unfold State.ringFrame
  extract_lets st s1 s2
  have h1 : s1.sec.fuse = s.sec.fuse := by simp only [s1]; split <;> simp
  clear_value s1
  refine I (by simp [h1]) (I rfl ?_)
  refine I (by simp [h1]) (I (by simp [h1]) (I (by simp [h1]) (I (by simp [h1]) ?_)))
  have h2 : s2.sec.fuse = s.sec.fuse := by simp [s2, h1]
  clear_value s2
  have h3 := State.ringDests_fuse s2 l f
  split
  rename_i s3 ds v e3
  rw [e3] at h3
  dsimp only at h3
  have h4 : ∀ (s4 : State) (r : Option Nat),
      (if ds.isEmpty = true then (s3, none) else s3.admitUnit f l false false true (sortDests ds)) = (s4, r) →
      s4.sec.fuse = s.sec.fuse := by
    intro s4 r e
    split at e
    · cases e; simp [h3, h2]
    · have := State.admitUnit_fuse s3 f l false false true (sortDests ds)
      rw [e] at this; simpa [h3, h2] using this
  split
  rename_i s4 r e4
  have h4 := h4 s4 r e4
  split
  · have h5 := State.loupeOnly_fuse s4 f l false true
    split
    rename_i s5 lu e5
    rw [e5] at h5
    dsimp only at h5
    refine I ?_ ?_ <;> simp [h5, h4]
  · dsimp only
    refine (State.loupes_fuse _ _ _ _ _).trans ((State.setRx_fuse _ _ _ _).trans ?_)
    refine I ?_ ?_ <;> simp [h4]
@[simp] theorem State.scrub_fuse (s : State) (w : Nat) (found : EccResult) :
    (State.scrub s w found).sec.fuse = s.sec.fuse := by
  unfold State.scrub; (repeat' split) <;> simp_all [apply_ite State.sec, apply_ite SecS.fuse]
@[simp] theorem State.startTimeout_fuse (s : State) (t : Nat) : (State.startTimeout s t).sec.fuse = s.sec.fuse := by
  unfold State.startTimeout; split <;> simp [apply_ite State.sec, apply_ite SecS.fuse]
@[simp] theorem State.commandLeaves_fuse (s : State) (f : Frame) : (State.commandLeaves s f).sec.fuse = s.sec.fuse := by
  simp [State.commandLeaves, apply_ite State.sec, apply_ite SecS.fuse]
@[simp] theorem State.laneTransmit_fuse (s : State) (p : Nat) : (State.laneTransmit s p).sec.fuse = s.sec.fuse := by
  unfold State.laneTransmit; (repeat' split) <;> simp_all [apply_ite State.sec, apply_ite SecS.fuse]
@[simp] theorem State.takeLocal_fuse (s : State) (p : Nat) : ((State.takeLocal s p).1).sec.fuse = s.sec.fuse := by
  simp only [State.takeLocal, State.expire]; (repeat' split) <;> simp_all [apply_ite State.sec, apply_ite SecS.fuse]
theorem State.takeLocal_fuse_of (s : State) (p : Nat) {sx : State} {qx : Option (VUnit × Link)} (h : State.takeLocal s p = (sx, qx)) : sx.sec.fuse = s.sec.fuse := by
  have e := State.takeLocal_fuse s p
  rw [h] at e
  exact e
@[simp] theorem State.capture_fuse (s : State) (v : VUnit) (session : Nat) :
    (State.capture s v session).sec.fuse = s.sec.fuse := by
  simp [State.capture, apply_ite State.sec, apply_ite SecS.fuse]
@[simp] theorem State.captureNext_fuse (s : State) : (State.captureNext s).sec.fuse = s.sec.fuse := by
  unfold State.captureNext; grind [→ State.takeLocal_fuse_of, State.capture_fuse]
@[simp] theorem State.captureStart_fuse (s : State) : (State.captureStart s).sec.fuse = s.sec.fuse := by
  simp [State.captureStart]
@[simp] theorem State.fwdCopy_fuse (s : State) : (State.fwdCopy s).sec.fuse = s.sec.fuse := by
  simp [State.fwdCopy]
@[simp] theorem State.fwdCommit_fuse (s : State) : (State.fwdCommit s).sec.fuse = s.sec.fuse := by
  simp [State.fwdCommit]
@[simp] theorem State.gapRemove_fuse (s : State) : (State.gapRemove s).sec.fuse = s.sec.fuse := by
  simp [State.gapRemove]

/-! ### LinkOps -/

@[simp] theorem State.setLst_fuse (s : State) (l : Nat) (st : Nat) : (State.setLst s l st).sec.fuse = s.sec.fuse := by
  simp [State.setLst]
@[simp] theorem State.sendLink_fuse (s : State) (l : Nat) (sub : BitVec 8) :
    (State.sendLink s l sub).sec.fuse = s.sec.fuse := by
  simp [State.sendLink]
@[simp] theorem State.enterTraining_fuse (s : State) (l : Nat) (st : Nat) (limit : Nat) :
    (State.enterTraining s l st limit).sec.fuse = s.sec.fuse := by
  simp [State.enterTraining]
@[simp] theorem State.modRun_fuse (s : State) (l : Nat) : (State.modRun s l).sec.fuse = s.sec.fuse := by
  unfold State.modRun
  dsimp only
  (repeat' split) <;> simp
@[simp] theorem State.setRate_fuse (s : State) (l : Nat) : (State.setRate s l).sec.fuse = s.sec.fuse := by
  simp [State.setRate, apply_ite State.sec, apply_ite SecS.fuse]
@[simp] theorem State.fullRate_fuse (s : State) (l : Nat) : (State.fullRate s l).sec.fuse = s.sec.fuse := by
  simp [State.fullRate]
@[simp] theorem State.enterNoSignal_fuse (s : State) (l : Nat) : (State.enterNoSignal s l).sec.fuse = s.sec.fuse := by
  simp [State.enterNoSignal]
@[simp] theorem State.laneStart_fuse (s : State) (l : Nat) : (State.laneStart s l).sec.fuse = s.sec.fuse := by
  simp [State.laneStart, apply_ite State.sec, apply_ite SecS.fuse]
@[simp] theorem State.signalDetect_fuse (s : State) (l : Nat) : (State.signalDetect s l).sec.fuse = s.sec.fuse := by
  unfold State.signalDetect; split <;> simp [apply_ite State.sec, apply_ite SecS.fuse]
@[simp] theorem State.cdrLock_fuse (s : State) (l : Nat) : (State.cdrLock s l).sec.fuse = s.sec.fuse := by
  simp [State.cdrLock, apply_ite State.sec, apply_ite SecS.fuse]
@[simp] theorem State.blockLock_fuse (s : State) (l : Nat) : (State.blockLock s l).sec.fuse = s.sec.fuse := by
  simp [State.blockLock, apply_ite State.sec, apply_ite SecS.fuse]
@[simp] theorem State.recordNbr_fuse (s : State) (l : Nat) (p : List Word) :
    (State.recordNbr s l p).sec.fuse = s.sec.fuse := by
  simp [State.recordNbr, apply_ite State.sec, apply_ite SecS.fuse]
@[simp] theorem State.countCtrl_fuse (s : State) (l : Nat) (p : List Word) (t : CtrlTail) :
    (State.countCtrl s l p t).sec.fuse = s.sec.fuse := by
  simp [State.countCtrl, apply_ite State.sec, apply_ite SecS.fuse]
@[simp] theorem State.spurJoin_fuse (s : State) : (State.spurJoin s).sec.fuse = s.sec.fuse := by
  simp [State.spurJoin, apply_ite State.sec, apply_ite SecS.fuse]
@[simp] theorem State.laneVerified_fuse (s : State) (l : Nat) : (State.laneVerified s l).sec.fuse = s.sec.fuse := by
  simp [State.laneVerified, apply_ite State.sec, apply_ite SecS.fuse]
@[simp] theorem State.passCtrl_fuse (s : State) (l : Nat) (sub : BitVec 8) (p : List Word) (t : CtrlTail) :
    (State.passCtrl s l sub p t).sec.fuse = s.sec.fuse := by
  simp [State.passCtrl, apply_ite State.sec, apply_ite SecS.fuse]
@[simp] theorem State.trainIdIn_fuse (s : State) (l : Nat) (p : List Word) (t : CtrlTail) :
    (State.trainIdIn s l p t).sec.fuse = s.sec.fuse := by
  simp [State.trainIdIn, apply_ite State.sec, apply_ite SecS.fuse]
@[simp] theorem State.verifyDone_fuse (s : State) (l : Nat) : (State.verifyDone s l).sec.fuse = s.sec.fuse := by
  unfold State.verifyDone; grind [→ State.expire_fuse_of, State.laneVerified_fuse]
@[simp] theorem State.helloIn_fuse (s : State) (l : Nat) (p : List Word) (t : CtrlTail) :
    (State.helloIn s l p t).sec.fuse = s.sec.fuse := by
  simp [State.helloIn, apply_ite State.sec, apply_ite SecS.fuse]
@[simp] theorem State.trainingFailed_fuse (s : State) (l : Nat) : (State.trainingFailed s l).sec.fuse = s.sec.fuse := by
  unfold State.trainingFailed; grind [→ State.expire_fuse_of, State.enterNoSignal_fuse, State.setLane_fuse, State.setRate_fuse, State.arm_fuse]
@[simp] theorem State.dropLane_fuse (s : State) (l : Nat) : (State.dropLane s l).sec.fuse = s.sec.fuse := by
  simp [State.dropLane]
@[simp] theorem State.cutLane_fuse (s : State) (l : Nat) : (State.cutLane s l).sec.fuse = s.sec.fuse := by
  unfold State.cutLane
  extract_lets s1 s2
  have h2 : s2.sec.fuse = s.sec.fuse := by
    simp only [s2]
    (repeat' split) <;> simp [s1]
  clear_value s2
  split <;> simp [h2]
@[simp] theorem State.declareDown_fuse (s : State) (l : Nat) : (State.declareDown s l).sec.fuse = s.sec.fuse := by
  simp [State.declareDown, apply_ite State.sec, apply_ite SecS.fuse]
@[simp] theorem State.linkDown_fuse (s : State) (l : Nat) (c : DownCause) : (State.linkDown s l c).sec.fuse = s.sec.fuse := by
  unfold State.linkDown; (repeat' split) <;> simp_all [apply_ite State.sec, apply_ite SecS.fuse]
@[simp] theorem State.laneOff_fuse (s : State) (l : Nat) : (State.laneOff s l).sec.fuse = s.sec.fuse := by
  simp [State.laneOff, apply_ite State.sec, apply_ite SecS.fuse]
@[simp] theorem State.laneDisable_fuse (s : State) (l : Nat) : (State.laneDisable s l).sec.fuse = s.sec.fuse := by
  simp [State.laneDisable, apply_ite State.sec, apply_ite SecS.fuse]
@[simp] theorem State.leavingSend_fuse (s : State) (l : Nat) : (State.leavingSend s l).sec.fuse = s.sec.fuse := by
  unfold State.leavingSend; grind [→ State.expire_fuse_of, State.setLane_fuse, State.sendLink_fuse, State.arm_fuse, State.laneOff_fuse]
@[simp] theorem State.sayLeaving_fuse (s : State) (ls : List Nat) : (State.sayLeaving s ls).sec.fuse = s.sec.fuse := by
  simp [State.sayLeaving, apply_ite State.sec, apply_ite SecS.fuse]
@[simp] theorem State.retrain_fuse (s : State) (l : Nat) : (State.retrain s l).sec.fuse = s.sec.fuse := by
  simp [State.retrain, apply_ite State.sec, apply_ite SecS.fuse]
@[simp] theorem State.trainIdSend_fuse (s : State) (l : Nat) : (State.trainIdSend s l).sec.fuse = s.sec.fuse := by
  unfold State.trainIdSend; grind [→ State.expire_fuse_of, State.arm_fuse, State.sendLink_fuse]
@[simp] theorem State.helloSend_fuse (s : State) (l : Nat) : (State.helloSend s l).sec.fuse = s.sec.fuse := by
  unfold State.helloSend; grind [→ State.expire_fuse_of, State.arm_fuse, State.sendLink_fuse]
@[simp] theorem State.leavingIn_fuse (s : State) (l : Nat) (p : List Word) (t : CtrlTail) :
    (State.leavingIn s l p t).sec.fuse = s.sec.fuse := by
  simp [State.leavingIn, apply_ite State.sec, apply_ite SecS.fuse]
@[simp] theorem State.nbrStale_fuse (s : State) (l : Nat) : (State.nbrStale s l).sec.fuse = s.sec.fuse := by
  unfold State.nbrStale; grind [→ State.expire_fuse_of, State.put_fuse]
@[simp] theorem State.fallbackEnd_fuse (s : State) (l : Nat) : (State.fallbackEnd s l).sec.fuse = s.sec.fuse := by
  unfold State.fallbackEnd; grind [→ State.expire_fuse_of, State.fullRate_fuse]
@[simp] theorem State.holdEnd_fuse (s : State) (l : Nat) : (State.holdEnd s l).sec.fuse = s.sec.fuse := by
  simp [State.holdEnd, apply_ite State.sec, apply_ite SecS.fuse]
@[simp] theorem State.heldDownEnd_fuse (s : State) (l : Nat) : (State.heldDownEnd s l).sec.fuse = s.sec.fuse := by
  unfold State.heldDownEnd; grind [→ State.expire_fuse_of, State.holdEnd_fuse]
@[simp] theorem State.cablingLost_fuse (s : State) (l : Nat) : (State.cablingLost s l).sec.fuse = s.sec.fuse := by
  simp [State.cablingLost, apply_ite State.sec, apply_ite SecS.fuse]
@[simp] theorem State.moduleAbs_fuse (s : State) (l : Nat) (absent : Bool) :
    (State.moduleAbs s l absent).sec.fuse = s.sec.fuse := by
  simp [State.moduleAbs, apply_ite State.sec, apply_ite SecS.fuse]
@[simp] theorem State.moduleId_fuse (s : State) (l : Nat) (r : ModuleId) : (State.moduleId s l r).sec.fuse = s.sec.fuse := by
  unfold State.moduleId; grind [→ State.expire_fuse_of, State.setLane_fuse, State.modRun_fuse, State.put_fuse]
@[simp] theorem State.modulePoll_fuse (s : State) (l : Nat) (d : Option ModuleDiag) :
    (State.modulePoll s l d).sec.fuse = s.sec.fuse := by
  unfold State.modulePoll; grind [→ State.expire_fuse_of, State.arm_fuse, State.put_fuse, State.wr_fuse, State.setLive_fuse, State.clearLive_fuse]
@[simp] theorem State.setHold_fuse (s : State) (h : Bool) : (State.setHold s h).sec.fuse = s.sec.fuse := by
  simp [State.setHold, apply_ite State.sec, apply_ite SecS.fuse]
@[simp] theorem State.repeatJoin_fuse (s : State) : (State.repeatJoin s).sec.fuse = s.sec.fuse := by
  simp [State.repeatJoin, apply_ite State.sec, apply_ite SecS.fuse]
@[simp] theorem State.repeatLeave_fuse (s : State) (spur : Bool) : (State.repeatLeave s spur).sec.fuse = s.sec.fuse := by
  simp [State.repeatLeave, apply_ite State.sec, apply_ite SecS.fuse]

/-! ### TimeOps -/

@[simp] theorem State.wordsInvalid_fuse (s : State) : (State.wordsInvalid s).sec.fuse = s.sec.fuse := by
  simp [State.wordsInvalid]
@[simp] theorem State.setTst_fuse (s : State) (n : Nat) : (State.setTst s n).sec.fuse = s.sec.fuse := by
  simp [State.setTst, apply_ite State.sec, apply_ite SecS.fuse]
@[simp] theorem State.markStepped_fuse (s : State) (old : Nat) (new : Nat) :
    (State.markStepped s old new).sec.fuse = s.sec.fuse := by
  simp [State.markStepped]
@[simp] theorem State.setRing_fuse (s : State) (new : Nat) : (State.setRing s new).sec.fuse = s.sec.fuse := by
  simp [State.setRing]
@[simp] theorem State.applyStep_fuse (s : State) : (State.applyStep s).sec.fuse = s.sec.fuse := by
  simp [State.applyStep]
@[simp] theorem State.pendStep_fuse (s : State) (seq : Nat) (v : Word) (at_ : Word) (t : Nat) :
    (State.pendStep s seq v at_ t).sec.fuse = s.sec.fuse := by
  simp [State.pendStep]
@[simp] theorem State.learnStep_fuse (s : State) (seq : Nat) (v : Word) (at_ : Word) :
    (State.learnStep s seq v at_).sec.fuse = s.sec.fuse := by
  simp [State.learnStep, apply_ite State.sec, apply_ite SecS.fuse]
@[simp] theorem State.recordStep_fuse (s : State) (seq : Nat) (v : Word) (at_ : Word) (done : Bool) :
    (State.recordStep s seq v at_ done).sec.fuse = s.sec.fuse := by
  simp [State.recordStep, apply_ite State.sec, apply_ite SecS.fuse]
@[simp] theorem State.stepApply_fuse (s : State) : (State.stepApply s).sec.fuse = s.sec.fuse := by
  unfold State.stepApply; split <;> simp [apply_ite State.sec, apply_ite SecS.fuse]
@[simp] theorem State.timeRate_fuse (s : State) (v : Word) : ((State.timeRate s v).2).sec.fuse = s.sec.fuse := by
  unfold State.timeRate; (repeat' split) <;> simp_all [apply_ite State.sec, apply_ite SecS.fuse]
theorem State.timeRate_fuse_of (s : State) (v : Word) {sx : Status} {qx : State} (h : State.timeRate s v = (sx, qx)) : qx.sec.fuse = s.sec.fuse := by
  have e := State.timeRate_fuse s v
  rw [h] at e
  exact e
@[simp] theorem State.timeStep_fuse (s : State) (v : Word) : ((State.timeStep s v).2).sec.fuse = s.sec.fuse := by
  unfold State.timeStep; (repeat' split) <;> simp_all [apply_ite State.sec, apply_ite SecS.fuse]
theorem State.timeStep_fuse_of (s : State) (v : Word) {sx : Status} {qx : State} (h : State.timeStep s v = (sx, qx)) : qx.sec.fuse = s.sec.fuse := by
  have e := State.timeStep_fuse s v
  rw [h] at e
  exact e
@[simp] theorem State.stepRearm_fuse (s : State) : (State.stepRearm s).sec.fuse = s.sec.fuse := by
  simp [State.stepRearm]
@[simp] theorem State.setTlane_fuse (s : State) (l : Nat) (x : TLane) : (State.setTlane s l x).sec.fuse = s.sec.fuse := by
  simp [State.setTlane]
@[simp] theorem State.timeSend_fuse (s : State) (l : Nat) : (State.timeSend s l).sec.fuse = s.sec.fuse := by
  unfold State.timeSend; grind [→ State.expire_fuse_of, State.arm_fuse, State.transmit_fuse]
@[simp] theorem State.becomeMaster_fuse (s : State) : (State.becomeMaster s).sec.fuse = s.sec.fuse := by
  simp [State.becomeMaster]
@[simp] theorem State.startListen_fuse (s : State) : (State.startListen s).sec.fuse = s.sec.fuse := by
  simp [State.startListen, apply_ite State.sec, apply_ite SecS.fuse]
@[simp] theorem State.listenEnd_fuse (s : State) : (State.listenEnd s).sec.fuse = s.sec.fuse := by
  unfold State.listenEnd; grind [→ State.expire_fuse_of, State.becomeMaster_fuse]
@[simp] theorem State.setUpstream_fuse (s : State) (l : Nat) : (State.setUpstream s l).sec.fuse = s.sec.fuse := by
  unfold State.setUpstream; split <;> simp [apply_ite State.sec, apply_ite SecS.fuse]
@[simp] theorem State.trackUpstream_fuse (s : State) (l : Nat) (f : Frame) :
    (State.trackUpstream s l f).sec.fuse = s.sec.fuse := by
  simp [State.trackUpstream, apply_ite State.sec, apply_ite SecS.fuse]
@[simp] theorem State.selectMaster_fuse (s : State) (l : Nat) (f : Frame) :
    (State.selectMaster s l f).sec.fuse = s.sec.fuse := by
  unfold State.selectMaster; split <;> simp [apply_ite State.sec, apply_ite SecS.fuse]
@[simp] theorem State.linkLocalIn_fuse (s : State) (l : Nat) (f : Frame) (t : Tail) :
    ((State.linkLocalIn s l f t).1).sec.fuse = s.sec.fuse := by
  simp [State.linkLocalIn, apply_ite State.sec, apply_ite SecS.fuse]
theorem State.linkLocalIn_fuse_of (s : State) (l : Nat) (f : Frame) (t : Tail) {sx : State} {qx : Bool} (h : State.linkLocalIn s l f t = (sx, qx)) : sx.sec.fuse = s.sec.fuse := by
  have e := State.linkLocalIn_fuse s l f t
  rw [h] at e
  exact e
@[simp] theorem State.passOn_fuse (s : State) (l : Nat) (f : Frame) (t : Tail) :
    (State.passOn s l f t).sec.fuse = s.sec.fuse := by
  simp [State.passOn]
@[simp] theorem State.timeHeard_fuse (s : State) (l : Nat) (f : Frame) : (State.timeHeard s l f).sec.fuse = s.sec.fuse := by
  simp [State.timeHeard]
@[simp] theorem State.timeReceive_fuse (s : State) (l : Nat) (t : TimeRx) :
    (State.timeReceive s l t).sec.fuse = s.sec.fuse := by
  simp [State.timeReceive, apply_ite State.sec, apply_ite SecS.fuse]
@[simp] theorem State.upstreamLoss_fuse (s : State) : (State.upstreamLoss s).sec.fuse = s.sec.fuse := by
  unfold State.upstreamLoss; grind [State.setTlane_fuse, State.advance_fuse, State.arm_fuse, State.setUpstream_fuse, State.disarm_fuse, State.put_fuse, State.raise_fuse, State.bump_fuse, State.setTst_fuse, State.startListen_fuse]
@[simp] theorem State.copyResync_fuse (s : State) : (State.copyResync s).sec.fuse = s.sec.fuse := by
  simp [State.copyResync, apply_ite State.sec, apply_ite SecS.fuse]
@[simp] theorem State.enterEntry_fuse (s : State) (n : Nat) (e : Entry) : (State.enterEntry s n e).sec.fuse = s.sec.fuse := by
  simp [State.enterEntry, apply_ite State.sec, apply_ite SecS.fuse]
@[simp] theorem State.dropEntry_fuse (s : State) (n : Nat) : (State.dropEntry s n).sec.fuse = s.sec.fuse := by
  simp [State.dropEntry]
@[simp] theorem State.skipDown_fuse (s : State) (n : Nat) : (State.skipDown s n).sec.fuse = s.sec.fuse := by
  unfold State.skipDown; split <;> simp [apply_ite State.sec, apply_ite SecS.fuse]
@[simp] theorem State.handoff_fuse (s : State) (n : Nat) : (State.handoff s n).sec.fuse = s.sec.fuse := by
  unfold State.handoff; split <;> simp [apply_ite State.sec, apply_ite SecS.fuse]
@[simp] theorem State.fireEvent_fuse (s : State) (n : Nat) (e : Entry) (outcome : Status) (cancelled : Bool) (results : List Word) :
    (State.fireEvent s n e outcome cancelled results).sec.fuse = s.sec.fuse := by
  simp [State.fireEvent]
theorem State.takeEntry_fuse (s : State) (n : Nat) (kind : Nat) (action : Nat) :
    ∀ tx, State.takeEntry s n kind action = some tx → tx.1.sec.fuse = s.sec.fuse := by
  unfold State.takeEntry; grind [State.skipDown_fuse, State.advanceRing_fuse, State.bump_fuse, State.dropEntry_fuse]
theorem State.takeEntry_fuse_of (s : State) (n : Nat) (kind : Nat) (action : Nat) {tx : (State × Entry)} (h : State.takeEntry s n kind action = some tx) : tx.1.sec.fuse = s.sec.fuse :=
  State.takeEntry_fuse s n kind action tx h
@[simp] theorem State.fired_fuse (s : State) (n : Nat) (e : Entry) (outcome : Status) (results : List Word) :
    (State.fired s n e outcome results).sec.fuse = s.sec.fuse := by
  simp [State.fired, apply_ite State.sec, apply_ite SecS.fuse]
@[simp] theorem State.cancelEntry_fuse (s : State) (force : Bool) (n : Nat) :
    (State.cancelEntry s force n).sec.fuse = s.sec.fuse := by
  unfold State.cancelEntry; split <;> simp [apply_ite State.sec, apply_ite SecS.fuse]
@[simp] theorem State.cancelForSafe_fuse (s : State) : (State.cancelForSafe s).sec.fuse = s.sec.fuse := by
  simp [State.cancelForSafe]
@[simp] theorem State.markSeen_fuse (s : State) (id : Nat) (t : Word) : (State.markSeen s id t).sec.fuse = s.sec.fuse := by
  simp [State.markSeen]
@[simp] theorem State.floodSnap_fuse (s : State) (id : Nat) (t : Word) (node : BitVec 24) (but : Option Nat) :
    (State.floodSnap s id t node but).sec.fuse = s.sec.fuse := by
  simp [State.floodSnap, apply_ite State.sec, apply_ite SecS.fuse]
@[simp] theorem State.snapReceive_fuse (s : State) (l : Nat) (f : Frame) (t : Tail) :
    (State.snapReceive s l f t).sec.fuse = s.sec.fuse := by
  unfold State.snapReceive; grind [State.passOn_fuse, → State.linkLocalIn_fuse_of, State.markSeen_fuse, State.bump_fuse, State.floodSnap_fuse, State.enterEntry_fuse]
@[simp] theorem State.keepCounters_fuse (s : State) (i : Nat) : (State.keepCounters s i).sec.fuse = s.sec.fuse := by
  simp [State.keepCounters]
@[simp] theorem State.snapFire_fuse (s : State) (n : Nat) : (State.snapFire s n).sec.fuse = s.sec.fuse := by
  unfold State.snapFire; grind [→ State.takeEntry_fuse_of, State.put_fuse, State.wr_fuse]
@[simp] theorem State.timCleared_fuse (s : State) : (State.timCleared s).sec.fuse = s.sec.fuse := by
  simp [State.timCleared]

/-! ### ClusterOps -/

@[simp] theorem State.setClu_fuse (s : State) (k : Nat) (x : CluS) : (State.setClu s k x).sec.fuse = s.sec.fuse := by
  simp [State.setClu]
@[simp] theorem State.setEng_fuse (s : State) (n : Nat) (x : EngS) : (State.setEng s n x).sec.fuse = s.sec.fuse := by
  simp [State.setEng]
@[simp] theorem State.eput_fuse (s : State) (f : Fld) (v : Nat) (n : Nat) : (State.eput s f v n).sec.fuse = s.sec.fuse := by
  simp [State.eput]
@[simp] theorem State.settleAt_fuse (s : State) (k : Nat) (t : Nat) : (State.settleAt s k t).sec.fuse = s.sec.fuse := by
  simp [State.settleAt, apply_ite State.sec, apply_ite SecS.fuse]
@[simp] theorem State.settleNet_fuse (s : State) (k : Nat) : (State.settleNet s k).sec.fuse = s.sec.fuse := by
  simp [State.settleNet, apply_ite State.sec, apply_ite SecS.fuse]
@[simp] theorem State.flowPins_fuse (s : State) (k : Nat) : (State.flowPins s k).sec.fuse = s.sec.fuse := by
  simp [State.flowPins, apply_ite State.sec, apply_ite SecS.fuse]
@[simp] theorem State.flowAll_fuse (s : State) : (State.flowAll s).sec.fuse = s.sec.fuse := by
  simp [State.flowAll]
@[simp] theorem State.setLatch_fuse (s : State) (k : Nat) (latch : Word) (dirs : Word) :
    (State.setLatch s k latch dirs).sec.fuse = s.sec.fuse := by
  simp [State.setLatch]
@[simp] theorem State.acceptLevel_fuse (s : State) (k : Nat) (p : Nat) : (State.acceptLevel s k p).sec.fuse = s.sec.fuse := by
  simp [State.acceptLevel, apply_ite State.sec, apply_ite SecS.fuse]
@[simp] theorem State.pinCfgWritten_fuse (s : State) (k : Nat) (p : Nat) (old : Word) :
    (State.pinCfgWritten s k p old).sec.fuse = s.sec.fuse := by
  simp [State.pinCfgWritten, apply_ite State.sec, apply_ite SecS.fuse]
@[simp] theorem State.pinChange_fuse (s : State) (k : Nat) (p : Nat) (level : Bool) :
    (State.pinChange s k p level).sec.fuse = s.sec.fuse := by
  simp [State.pinChange, apply_ite State.sec, apply_ite SecS.fuse]
@[simp] theorem State.debouncePin_fuse (s : State) (k : Nat) (p : Nat) : (State.debouncePin s k p).sec.fuse = s.sec.fuse := by
  simp [State.debouncePin, apply_ite State.sec, apply_ite SecS.fuse]
@[simp] theorem State.debounce_fuse (s : State) (k : Nat) : (State.debounce s k).sec.fuse = s.sec.fuse := by
  simp [State.debounce, apply_ite State.sec, apply_ite SecS.fuse]
@[simp] theorem State.cosEvent_fuse (s : State) (k : Nat) : (State.cosEvent s k).sec.fuse = s.sec.fuse := by
  simp only [State.cosEvent, State.expire]; (repeat' split) <;> simp_all [apply_ite State.sec, apply_ite SecS.fuse]
@[simp] theorem State.setDout_fuse (s : State) (k : Nat) (w : Word) : (State.setDout s k w).sec.fuse = s.sec.fuse := by
  simp [State.setDout, apply_ite State.sec, apply_ite SecS.fuse]
@[simp] theorem State.bankCompare_fuse (s : State) (k : Nat) : (State.bankCompare s k).sec.fuse = s.sec.fuse := by
  simp [State.bankCompare, apply_ite State.sec, apply_ite SecS.fuse]
@[simp] theorem State.bankSupply_fuse (s : State) (k : Nat) (ok : Bool) :
    (State.bankSupply s k ok).sec.fuse = s.sec.fuse := by
  simp [State.bankSupply, apply_ite State.sec, apply_ite SecS.fuse]
@[simp] theorem State.cluCfgWritten_fuse (s : State) (k : Nat) (old : Word) :
    (State.cluCfgWritten s k old).sec.fuse = s.sec.fuse := by
  simp [State.cluCfgWritten]
@[simp] theorem State.fillTxq_fuse (s : State) (n : Nat) : (State.fillTxq s n).sec.fuse = s.sec.fuse := by
  simp [State.fillTxq]
@[simp] theorem State.drawFeed_fuse (s : State) (n : Nat) : (State.drawFeed s n).sec.fuse = s.sec.fuse := by
  unfold State.drawFeed; grind [→ State.unlink_fuse_of, State.setEng_fuse]
@[simp] theorem State.txqFeed_fuse (s : State) (n : Nat) : (State.txqFeed s n).sec.fuse = s.sec.fuse := by
  simp only [State.txqFeed, State.expire]; (repeat' split) <;> simp_all [apply_ite State.sec, apply_ite SecS.fuse]
@[simp] theorem State.sendAhead_fuse (s : State) (n : Nat) (item : List QWord) :
    (State.sendAhead s n item).sec.fuse = s.sec.fuse := by
  unfold State.sendAhead; grind [State.fillTxq_fuse, State.setEng_fuse, → State.unlink_fuse_of]
@[simp] theorem State.closeFrame_fuse (s : State) (n : Nat) : (State.closeFrame s n).sec.fuse = s.sec.fuse := by
  unfold State.closeFrame; grind [State.disarm_fuse, State.setEng_fuse, State.eput_fuse, State.bump_fuse, State.emitOut_fuse]
@[simp] theorem State.notePoison_fuse (s : State) (n : Nat) (w : QWord) : (State.notePoison s n w).sec.fuse = s.sec.fuse := by
  simp [State.notePoison, apply_ite State.sec, apply_ite SecS.fuse]
@[simp] theorem State.packerWord_fuse (s : State) (n : Nat) : (State.packerWord s n).sec.fuse = s.sec.fuse := by
  unfold State.packerWord; grind [State.setClu_fuse, State.notePoison_fuse, State.setEng_fuse, State.eput_fuse, State.bump_fuse, State.arm_fuse, State.closeFrame_fuse]
@[simp] theorem State.rxPackEnd_fuse (s : State) (n : Nat) : (State.rxPackEnd s n).sec.fuse = s.sec.fuse := by
  unfold State.rxPackEnd; grind [→ State.expire_fuse_of, State.closeFrame_fuse]
@[simp] theorem State.stopEngine_fuse (s : State) (n : Nat) (cause : Nat) :
    (State.stopEngine s n cause).sec.fuse = s.sec.fuse := by
  simp [State.stopEngine, apply_ite State.sec, apply_ite SecS.fuse]
@[simp] theorem State.startEngine_fuse (s : State) (n : Nat) (pc : Nat) (after : Nat) :
    (State.startEngine s n pc after).sec.fuse = s.sec.fuse := by
  simp [State.startEngine, apply_ite State.sec, apply_ite SecS.fuse]
@[simp] theorem State.clearEngine_fuse (s : State) (n : Nat) : (State.clearEngine s n).sec.fuse = s.sec.fuse := by
  simp [State.clearEngine]
@[simp] theorem State.clkRestart_fuse (s : State) (k : Nat) : (State.clkRestart s k).sec.fuse = s.sec.fuse := by
  simp [State.clkRestart]
@[simp] theorem State.startMask_fuse (s : State) (k : Nat) (m : Nat) : (State.startMask s k m).sec.fuse = s.sec.fuse := by
  simp [State.startMask]
@[simp] theorem State.stopMask_fuse (s : State) (k : Nat) (m : Nat) : (State.stopMask s k m).sec.fuse = s.sec.fuse := by
  simp [State.stopMask]
@[simp] theorem State.injectWrite_fuse (s : State) (n : Nat) (w : Word) :
    (State.injectWrite s n w).sec.fuse = s.sec.fuse := by
  simp [State.injectWrite]
@[simp] theorem State.cluSafe_fuse (s : State) (k : Nat) : (State.cluSafe s k).sec.fuse = s.sec.fuse := by
  simp [State.cluSafe, apply_ite State.sec, apply_ite SecS.fuse]
@[simp] theorem State.cluCommission_fuse (s : State) : (State.cluCommission s).sec.fuse = s.sec.fuse := by
  simp [State.cluCommission]
@[simp] theorem State.cluRun_fuse (s : State) : (State.cluRun s).sec.fuse = s.sec.fuse := by
  simp [State.cluRun, apply_ite State.sec, apply_ite SecS.fuse]
@[simp] theorem State.settleAll_fuse (s : State) : (State.settleAll s).sec.fuse = s.sec.fuse := by
  simp [State.settleAll]
@[simp] theorem State.cluCleared_fuse (s : State) (k : Nat) : (State.cluCleared s k).sec.fuse = s.sec.fuse := by
  simp [State.cluCleared]
@[simp] theorem State.cluReleased_fuse (s : State) (k : Nat) : (State.cluReleased s k).sec.fuse = s.sec.fuse := by
  simp [State.cluReleased]

/-! ### FacetOps -/

@[simp] theorem State.setOsr_fuse (s : State) (n : Nat) (w : Word) (cnt : Nat) :
    (State.setOsr s n w cnt).sec.fuse = s.sec.fuse := by
  simp [State.setOsr]
@[simp] theorem State.setIsr_fuse (s : State) (n : Nat) (w : Word) (cnt : Nat) :
    (State.setIsr s n w cnt).sec.fuse = s.sec.fuse := by
  simp [State.setIsr]
@[simp] theorem State.setX_fuse (s : State) (n : Nat) (v : Nat) : (State.setX s n v).sec.fuse = s.sec.fuse := by
  simp [State.setX]
@[simp] theorem State.setY_fuse (s : State) (n : Nat) (v : Nat) : (State.setY s n v).sec.fuse = s.sec.fuse := by
  simp [State.setY]
@[simp] theorem State.setPattern_fuse (s : State) (n : Nat) (w : Word) : (State.setPattern s n w).sec.fuse = s.sec.fuse := by
  simp [State.setPattern]
@[simp] theorem State.setCrc_fuse (s : State) (n : Nat) (w : Word) : (State.setCrc s n w).sec.fuse = s.sec.fuse := by
  simp [State.setCrc]
@[simp] theorem State.driveLatch_fuse (s : State) (n : Nat) (v : Word) : (State.driveLatch s n v).sec.fuse = s.sec.fuse := by
  simp [State.driveLatch]
@[simp] theorem State.setDirs_fuse (s : State) (n : Nat) (v : Word) : (State.setDirs s n v).sec.fuse = s.sec.fuse := by
  simp [State.setDirs]
@[simp] theorem State.sideSet_fuse (s : State) (n : Nat) (w : Word) : (State.sideSet s n w).sec.fuse = s.sec.fuse := by
  simp [State.sideSet, apply_ite State.sec, apply_ite SecS.fuse]
@[simp] theorem State.dstReg_fuse (s : State) (n : Nat) (c : Nat) (v : Word) :
    (State.dstReg s n c v).sec.fuse = s.sec.fuse := by
  unfold State.dstReg; split <;> simp [apply_ite State.sec, apply_ite SecS.fuse]
@[simp] theorem State.crcFeed_fuse (s : State) (n : Nat) (v : Word) (m : Nat) :
    (State.crcFeed s n v m).sec.fuse = s.sec.fuse := by
  simp [State.crcFeed]
@[simp] theorem State.giveWord_fuse (s : State) (n : Nat) (w : Word) (last : Bool) (bad : Bool) :
    (State.giveWord s n w last bad).sec.fuse = s.sec.fuse := by
  simp [State.giveWord, apply_ite State.sec, apply_ite SecS.fuse]
@[simp] theorem State.opShiftin_fuse (s : State) (n : Nat) (w : Word) :
    ((State.opShiftin s n w).1).sec.fuse = s.sec.fuse := by
  unfold State.opShiftin; split <;> simp [apply_ite State.sec, apply_ite SecS.fuse]
theorem State.opShiftin_fuse_of (s : State) (n : Nat) (w : Word) {sx : State} {qx : Flow} (h : State.opShiftin s n w = (sx, qx)) : sx.sec.fuse = s.sec.fuse := by
  have e := State.opShiftin_fuse s n w
  rw [h] at e
  exact e
@[simp] theorem State.opShiftout_fuse (s : State) (n : Nat) (w : Word) :
    ((State.opShiftout s n w).1).sec.fuse = s.sec.fuse := by
  unfold State.opShiftout; (repeat' split) <;> simp_all [apply_ite State.sec, apply_ite SecS.fuse]
theorem State.opShiftout_fuse_of (s : State) (n : Nat) (w : Word) {sx : State} {qx : Flow} (h : State.opShiftout s n w = (sx, qx)) : sx.sec.fuse = s.sec.fuse := by
  have e := State.opShiftout_fuse s n w
  rw [h] at e
  exact e
@[simp] theorem State.opTake_fuse (s : State) (n : Nat) (w : Word) : ((State.opTake s n w).1).sec.fuse = s.sec.fuse := by
  unfold State.opTake; grind [State.setEng_fuse, State.notePoison_fuse, State.setOsr_fuse, State.setX_fuse, State.setY_fuse, State.setPattern_fuse]
theorem State.opTake_fuse_of (s : State) (n : Nat) (w : Word) {sx : State} {qx : Flow} (h : State.opTake s n w = (sx, qx)) : sx.sec.fuse = s.sec.fuse := by
  have e := State.opTake_fuse s n w
  rw [h] at e
  exact e
@[simp] theorem State.opGive_fuse (s : State) (n : Nat) (w : Word) : ((State.opGive s n w).1).sec.fuse = s.sec.fuse := by
  simp [State.opGive, apply_ite State.sec, apply_ite SecS.fuse]
theorem State.opGive_fuse_of (s : State) (n : Nat) (w : Word) {sx : State} {qx : Flow} (h : State.opGive s n w = (sx, qx)) : sx.sec.fuse = s.sec.fuse := by
  have e := State.opGive_fuse s n w
  rw [h] at e
  exact e
@[simp] theorem State.opHold_fuse (s : State) (n : Nat) (w : Word) : ((State.opHold s n w).1).sec.fuse = s.sec.fuse := by
  unfold State.opHold; split <;> simp [apply_ite State.sec, apply_ite SecS.fuse]
theorem State.opHold_fuse_of (s : State) (n : Nat) (w : Word) {sx : State} {qx : Flow} (h : State.opHold s n w = (sx, qx)) : sx.sec.fuse = s.sec.fuse := by
  have e := State.opHold_fuse s n w
  rw [h] at e
  exact e
@[simp] theorem State.opBranch_fuse (s : State) (n : Nat) (w : Word) : ((State.opBranch s n w).1).sec.fuse = s.sec.fuse := by
  simp [State.opBranch]
theorem State.opBranch_fuse_of (s : State) (n : Nat) (w : Word) {sx : State} {qx : Flow} (h : State.opBranch s n w = (sx, qx)) : sx.sec.fuse = s.sec.fuse := by
  have e := State.opBranch_fuse s n w
  rw [h] at e
  exact e
@[simp] theorem State.opLoop_fuse (s : State) (n : Nat) (w : Word) : ((State.opLoop s n w).1).sec.fuse = s.sec.fuse := by
  unfold State.opLoop; (repeat' split) <;> simp_all [apply_ite State.sec, apply_ite SecS.fuse]
theorem State.opLoop_fuse_of (s : State) (n : Nat) (w : Word) {sx : State} {qx : Flow} (h : State.opLoop s n w = (sx, qx)) : sx.sec.fuse = s.sec.fuse := by
  have e := State.opLoop_fuse s n w
  rw [h] at e
  exact e
@[simp] theorem State.opLoad_fuse (s : State) (n : Nat) (w : Word) : ((State.opLoad s n w).1).sec.fuse = s.sec.fuse := by
  unfold State.opLoad; split <;> simp [apply_ite State.sec, apply_ite SecS.fuse]
theorem State.opLoad_fuse_of (s : State) (n : Nat) (w : Word) {sx : State} {qx : Flow} (h : State.opLoad s n w = (sx, qx)) : sx.sec.fuse = s.sec.fuse := by
  have e := State.opLoad_fuse s n w
  rw [h] at e
  exact e
@[simp] theorem State.opMove_fuse (s : State) (n : Nat) (w : Word) : ((State.opMove s n w).1).sec.fuse = s.sec.fuse := by
  unfold State.opMove; (repeat' split) <;> simp_all [apply_ite State.sec, apply_ite SecS.fuse]
theorem State.opMove_fuse_of (s : State) (n : Nat) (w : Word) {sx : State} {qx : Flow} (h : State.opMove s n w = (sx, qx)) : sx.sec.fuse = s.sec.fuse := by
  have e := State.opMove_fuse s n w
  rw [h] at e
  exact e
@[simp] theorem State.opDrive_fuse (s : State) (n : Nat) (w : Word) : ((State.opDrive s n w).1).sec.fuse = s.sec.fuse := by
  simp [State.opDrive]
theorem State.opDrive_fuse_of (s : State) (n : Nat) (w : Word) {sx : State} {qx : Flow} (h : State.opDrive s n w = (sx, qx)) : sx.sec.fuse = s.sec.fuse := by
  have e := State.opDrive_fuse s n w
  rw [h] at e
  exact e
@[simp] theorem State.opDir_fuse (s : State) (n : Nat) (w : Word) : ((State.opDir s n w).1).sec.fuse = s.sec.fuse := by
  simp [State.opDir]
theorem State.opDir_fuse_of (s : State) (n : Nat) (w : Word) {sx : State} {qx : Flow} (h : State.opDir s n w = (sx, qx)) : sx.sec.fuse = s.sec.fuse := by
  have e := State.opDir_fuse s n w
  rw [h] at e
  exact e
@[simp] theorem State.opSignal_fuse (s : State) (n : Nat) (w : Word) : ((State.opSignal s n w).1).sec.fuse = s.sec.fuse := by
  simp [State.opSignal]
theorem State.opSignal_fuse_of (s : State) (n : Nat) (w : Word) {sx : State} {qx : Flow} (h : State.opSignal s n w = (sx, qx)) : sx.sec.fuse = s.sec.fuse := by
  have e := State.opSignal_fuse s n w
  rw [h] at e
  exact e
@[simp] theorem State.flowSignals_fuse (s : State) (k : Nat) : (State.flowSignals s k).sec.fuse = s.sec.fuse := by
  simp [State.flowSignals, apply_ite State.sec, apply_ite SecS.fuse]
@[simp] theorem State.opCrc_fuse (s : State) (n : Nat) (w : Word) : ((State.opCrc s n w).1).sec.fuse = s.sec.fuse := by
  unfold State.opCrc; split <;> simp [apply_ite State.sec, apply_ite SecS.fuse]
theorem State.opCrc_fuse_of (s : State) (n : Nat) (w : Word) {sx : State} {qx : Flow} (h : State.opCrc s n w = (sx, qx)) : sx.sec.fuse = s.sec.fuse := by
  have e := State.opCrc_fuse s n w
  rw [h] at e
  exact e
@[simp] theorem State.opMatch_fuse (s : State) (n : Nat) (w : Word) : ((State.opMatch s n w).1).sec.fuse = s.sec.fuse := by
  unfold State.opMatch; split <;> simp [apply_ite State.sec, apply_ite SecS.fuse]
theorem State.opMatch_fuse_of (s : State) (n : Nat) (w : Word) {sx : State} {qx : Flow} (h : State.opMatch s n w = (sx, qx)) : sx.sec.fuse = s.sec.fuse := by
  have e := State.opMatch_fuse s n w
  rw [h] at e
  exact e
@[simp] theorem State.opStamp_fuse (s : State) (n : Nat) (w : Word) : ((State.opStamp s n w).1).sec.fuse = s.sec.fuse := by
  unfold State.opStamp; split <;> simp [apply_ite State.sec, apply_ite SecS.fuse]
theorem State.opStamp_fuse_of (s : State) (n : Nat) (w : Word) {sx : State} {qx : Flow} (h : State.opStamp s n w = (sx, qx)) : sx.sec.fuse = s.sec.fuse := by
  have e := State.opStamp_fuse s n w
  rw [h] at e
  exact e
@[simp] theorem State.opHalt_fuse (s : State) (_n : Nat) (_w : Word) : ((State.opHalt s _n _w).1).sec.fuse = s.sec.fuse := by
  simp [State.opHalt]
theorem State.opHalt_fuse_of (s : State) (_n : Nat) (_w : Word) {sx : State} {qx : Flow} (h : State.opHalt s _n _w = (sx, qx)) : sx.sec.fuse = s.sec.fuse := by
  have e := State.opHalt_fuse s _n _w
  rw [h] at e
  exact e
@[simp] theorem State.opNop_fuse (s : State) (_n : Nat) (_w : Word) : ((State.opNop s _n _w).1).sec.fuse = s.sec.fuse := by
  simp [State.opNop]
theorem State.opNop_fuse_of (s : State) (_n : Nat) (_w : Word) {sx : State} {qx : Flow} (h : State.opNop s _n _w = (sx, qx)) : sx.sec.fuse = s.sec.fuse := by
  have e := State.opNop_fuse s _n _w
  rw [h] at e
  exact e
@[simp] theorem State.toEdge_fuse (s : State) (n : Nat) : (State.toEdge s n).sec.fuse = s.sec.fuse := by
  simp [State.toEdge]
@[simp] theorem State.divideTo_fuse (s : State) (n : Nat) (t : Nat) : (State.divideTo s n t).sec.fuse = s.sec.fuse := by
  simp [State.divideTo, apply_ite State.sec, apply_ite SecS.fuse]
@[simp] theorem State.flow_fuse (s : State) (n : Nat) (f : Flow) : (State.flow s n f).sec.fuse = s.sec.fuse := by
  unfold State.flow; split <;> simp [apply_ite State.sec, apply_ite SecS.fuse]
@[simp] theorem State.operate_fuse (s : State) (n : Nat) (w : Word) : ((State.operate s n w).1).sec.fuse = s.sec.fuse := by
  unfold State.operate; (repeat' split) <;> simp_all [apply_ite State.sec, apply_ite SecS.fuse]
theorem State.operate_fuse_of (s : State) (n : Nat) (w : Word) {sx : State} {qx : Flow} (h : State.operate s n w = (sx, qx)) : sx.sec.fuse = s.sec.fuse := by
  have e := State.operate_fuse s n w
  rw [h] at e
  exact e
@[simp] theorem State.flushTx_fuse (s : State) (n : Nat) : (State.flushTx s n).sec.fuse = s.sec.fuse := by
  unfold State.flushTx; grind [State.setEng_fuse, State.wr_fuse, State.flow_fuse, State.eput_fuse]
@[simp] theorem State.flushRx_fuse (s : State) (n : Nat) : (State.flushRx s n).sec.fuse = s.sec.fuse := by
  simp [State.flushRx, apply_ite State.sec, apply_ite SecS.fuse]
@[simp] theorem State.injectEdge_fuse (s : State) (n : Nat) : (State.injectEdge s n).sec.fuse = s.sec.fuse := by
  unfold State.injectEdge; grind [State.toEdge_fuse, State.divideTo_fuse, State.eput_fuse, → State.operate_fuse_of, State.sideSet_fuse, State.setEng_fuse, State.stopEngine_fuse]

theorem State.engineEdge_fuse (s : State) (n : Nat) (want : Word → Bool) (op : State → Nat → Word → State × Flow)
    (h : ∀ s n w, (op s n w).1.sec.fuse = s.sec.fuse) : (s.engineEdge n want op).sec.fuse = s.sec.fuse := by
  have I : ∀ {c : Prop} [Decidable c] {a b : State}, a.sec.fuse = s.sec.fuse → b.sec.fuse = s.sec.fuse → (if c then a else b).sec.fuse = s.sec.fuse := by
    intro c _ a b ha hb; split <;> assumption
  unfold State.engineEdge
  extract_lets w due s1 s2 x first took
  have h1 : s1.sec.fuse = s.sec.fuse := by simp [s1]
  have h2 : s2.sec.fuse = s.sec.fuse := by
    simp only [s2]
    refine I ?_ h1
    simp [h1]
  clear_value s1 s2 x took
  refine I rfl (I (by simp [h1]) (I (by simp [h2]) ?_))
  have h3 := h s1 n w
  split
  rename_i s3 f e3
  rw [e3] at h3
  have h3 : s3.sec.fuse = s.sec.fuse := h3.trans h1
  extract_lets _ s4
  have h4 : s4.sec.fuse = s.sec.fuse := by
    simp only [s4]
    refine I ?_ h3
    simp [h3]
  clear_value s4
  rw [State.flow_fuse]
  refine I ?_ h4
  simp [h4]

/-! ### CanOps -/

@[simp] theorem State.setCan_fuse (s : State) (n : Nat) (x : CanS) : (State.setCan s n x).sec.fuse = s.sec.fuse := by
  simp [State.setCan]
@[simp] theorem State.canLose_fuse (s : State) (n : Nat) (count : Nat) : (State.canLose s n count).sec.fuse = s.sec.fuse := by
  simp [State.canLose]
@[simp] theorem State.canClose_fuse (s : State) (n : Nat) : (State.canClose s n).sec.fuse = s.sec.fuse := by
  simp [State.canClose, apply_ite State.sec, apply_ite SecS.fuse]
@[simp] theorem State.canPackRec_fuse (s : State) (n : Nat) (time : Word) (alone : Bool) (ws : List Word) :
    (State.canPackRec s n time alone ws).sec.fuse = s.sec.fuse := by
  simp [State.canPackRec, apply_ite State.sec, apply_ite SecS.fuse]
@[simp] theorem State.canDeliver_fuse (s : State) (n : Nat) (hdr : List Word) (data : List Byte) :
    (State.canDeliver s n hdr data).sec.fuse = s.sec.fuse := by
  simp [State.canDeliver, apply_ite State.sec, apply_ite SecS.fuse]
@[simp] theorem State.canPackEnd_fuse (s : State) (n : Nat) : (State.canPackEnd s n).sec.fuse = s.sec.fuse := by
  unfold State.canPackEnd; grind [→ State.expire_fuse_of, State.canClose_fuse]
@[simp] theorem State.canLoad_fuse (s : State) (n : Nat) (t : CanTx) : (State.canLoad s n t).sec.fuse = s.sec.fuse := by
  simp [State.canLoad]
@[simp] theorem State.canFillAt_fuse (s : State) (n : Nat) (at_ : Nat) : (State.canFillAt s n at_).sec.fuse = s.sec.fuse := by
  unfold State.canFillAt; grind [State.canLoad_fuse, State.setCan_fuse, → State.takeLocal_fuse_of]
@[simp] theorem State.canFill_fuse (s : State) (n : Nat) : (State.canFill s n).sec.fuse = s.sec.fuse := by
  simp [State.canFill]
@[simp] theorem State.canReport_fuse (s : State) (n : Nat) (t : CanTx) (outcome : Nat) (time : Word) :
    (State.canReport s n t outcome time).sec.fuse = s.sec.fuse := by
  simp [State.canReport, apply_ite State.sec, apply_ite SecS.fuse]
@[simp] theorem State.canStamp_fuse (s : State) (n : Nat) (t : CanTx) (at_ : Nat) :
    (State.canStamp s n t at_).sec.fuse = s.sec.fuse := by
  simp [State.canStamp, apply_ite State.sec, apply_ite SecS.fuse]
@[simp] theorem State.canTsqPop_fuse (s : State) (n : Nat) : (State.canTsqPop s n).sec.fuse = s.sec.fuse := by
  simp [State.canTsqPop]
@[simp] theorem State.canLeave_fuse (s : State) (n : Nat) (t : CanTx) (outcome : Nat) (time : Word) :
    (State.canLeave s n t outcome time).sec.fuse = s.sec.fuse := by
  simp [State.canLeave, apply_ite State.sec, apply_ite SecS.fuse]
@[simp] theorem State.canAbandon_fuse (s : State) (n : Nat) (t : CanTx) (outcome : Nat) (time : Word) :
    (State.canAbandon s n t outcome time).sec.fuse = s.sec.fuse := by
  simp [State.canAbandon, apply_ite State.sec, apply_ite SecS.fuse]
@[simp] theorem State.canGone_fuse (s : State) (n : Nat) (t : CanTx) (time : Word) :
    (State.canGone s n t time).sec.fuse = s.sec.fuse := by
  simp [State.canGone]
@[simp] theorem State.canFlushSlot_fuse (s : State) (n : Nat) (cur : Bool) :
    (State.canFlushSlot s n cur).sec.fuse = s.sec.fuse := by
  unfold State.canFlushSlot; grind [→ State.freeIn_fuse_of, State.setCan_fuse, State.canGone_fuse]
@[simp] theorem State.canFlushTx_fuse (s : State) (n : Nat) (cur : Bool) :
    ((State.canFlushTx s n cur).1).sec.fuse = s.sec.fuse := by
  simp [State.canFlushTx]
theorem State.canFlushTx_fuse_of (s : State) (n : Nat) (cur : Bool) {sx : State} {qx : Nat} (h : State.canFlushTx s n cur = (sx, qx)) : sx.sec.fuse = s.sec.fuse := by
  have e := State.canFlushTx_fuse s n cur
  rw [h] at e
  exact e
@[simp] theorem State.canBegin_fuse (s : State) (n : Nat) (sof : Nat) : (State.canBegin s n sof).sec.fuse = s.sec.fuse := by
  unfold State.canBegin; grind [State.canGone_fuse, State.setCan_fuse, State.canFillAt_fuse]
@[simp] theorem State.canFlushRx_fuse (s : State) (n : Nat) : (State.canFlushRx s n).sec.fuse = s.sec.fuse := by
  simp [State.canFlushRx]
@[simp] theorem State.canState_fuse (s : State) (n : Nat) (time : Word) :
    (State.canState s n time).sec.fuse = s.sec.fuse := by
  unfold State.canState; grind [State.bump_fuse, State.put_fuse, State.raise_fuse, State.canAbandon_fuse]
@[simp] theorem State.canSafe_fuse (s : State) : (State.canSafe s).sec.fuse = s.sec.fuse := by
  simp [State.canSafe, apply_ite State.sec, apply_ite SecS.fuse]
@[simp] theorem State.canCommission_fuse (s : State) : (State.canCommission s).sec.fuse = s.sec.fuse := by
  simp [State.canCommission]
@[simp] theorem State.canRecover_fuse (s : State) (n : Nat) : (State.canRecover s n).sec.fuse = s.sec.fuse := by
  simp [State.canRecover, apply_ite State.sec, apply_ite SecS.fuse]
@[simp] theorem State.canRecovered_fuse (s : State) (n : Nat) : (State.canRecovered s n).sec.fuse = s.sec.fuse := by
  simp [State.canRecovered, apply_ite State.sec, apply_ite SecS.fuse]
@[simp] theorem State.canOpmode_fuse (s : State) (n : Nat) : (State.canOpmode s n).sec.fuse = s.sec.fuse := by
  simp [State.canOpmode, apply_ite State.sec, apply_ite SecS.fuse]
@[simp] theorem State.canOpmodeWritten_fuse (s : State) (n : Nat) : (State.canOpmodeWritten s n).sec.fuse = s.sec.fuse := by
  simp [State.canOpmodeWritten, apply_ite State.sec, apply_ite SecS.fuse]
@[simp] theorem State.canRdStart_fuse (s : State) (n : Nat) : (State.canRdStart s n).sec.fuse = s.sec.fuse := by
  simp [State.canRdStart]
@[simp] theorem State.canRdEnd_fuse (s : State) (n : Nat) : (State.canRdEnd s n).sec.fuse = s.sec.fuse := by
  simp [State.canRdEnd]
@[simp] theorem State.canRdAbort_fuse (s : State) (n : Nat) : (State.canRdAbort s n).sec.fuse = s.sec.fuse := by
  simp [State.canRdAbort, apply_ite State.sec, apply_ite SecS.fuse]
@[simp] theorem State.canRdTimeout_fuse (s : State) (n : Nat) : (State.canRdTimeout s n).sec.fuse = s.sec.fuse := by
  unfold State.canRdTimeout; grind [→ State.expire_fuse_of, State.canRdEnd_fuse, State.put_fuse]
@[simp] theorem State.canHold_fuse (s : State) (n : Nat) (stage : Nat) (cands : List Nat) :
    (State.canHold s n stage cands).sec.fuse = s.sec.fuse := by
  simp [State.canHold]
@[simp] theorem State.canSurveyEnd_fuse (s : State) (n : Nat) (pulses : List Nat) :
    (State.canSurveyEnd s n pulses).sec.fuse = s.sec.fuse := by
  unfold State.canSurveyEnd; grind [→ State.expire_fuse_of, State.canHold_fuse, State.disarm_fuse]
@[simp] theorem State.canDwellEnd_fuse (s : State) (n : Nat) : (State.canDwellEnd s n).sec.fuse = s.sec.fuse := by
  unfold State.canDwellEnd; grind [→ State.expire_fuse_of, State.canHold_fuse]
@[simp] theorem State.canRdDone_fuse (s : State) (n : Nat) (nom : Nat) (data : Option Nat) :
    (State.canRdDone s n nom data).sec.fuse = s.sec.fuse := by
  unfold State.canRdDone; split <;> simp [apply_ite State.sec, apply_ite SecS.fuse]
@[simp] theorem State.canRdFrame_fuse (s : State) (n : Nat) (f : CanFrame) :
    (State.canRdFrame s n f).sec.fuse = s.sec.fuse := by
  unfold State.canRdFrame; grind [State.put_fuse, State.setCan_fuse, State.canHold_fuse, State.canRdDone_fuse]
@[simp] theorem State.canRecGood_fuse (s : State) (n : Nat) : (State.canRecGood s n).sec.fuse = s.sec.fuse := by
  simp [State.canRecGood, apply_ite State.sec, apply_ite SecS.fuse]
@[simp] theorem State.canReceive_fuse (s : State) (n : Nat) (f : CanFrame) :
    (State.canReceive s n f).sec.fuse = s.sec.fuse := by
  simp [State.canReceive, apply_ite State.sec, apply_ite SecS.fuse]
@[simp] theorem State.canBusErr_fuse (s : State) (n : Nat) (e : CanError) :
    (State.canBusErr s n e).sec.fuse = s.sec.fuse := by
  simp [State.canBusErr, apply_ite State.sec, apply_ite SecS.fuse]
@[simp] theorem State.canSent_fuse (s : State) (n : Nat) (t : CanTx) (ago : Nat) :
    (State.canSent s n t ago).sec.fuse = s.sec.fuse := by
  simp [State.canSent, apply_ite State.sec, apply_ite SecS.fuse]
@[simp] theorem State.canFailed_fuse (s : State) (n : Nat) (t : CanTx) (e : CanError) (at_ : Word) :
    (State.canFailed s n t e at_).sec.fuse = s.sec.fuse := by
  simp [State.canFailed, apply_ite State.sec, apply_ite SecS.fuse]
@[simp] theorem State.canLoop_fuse (s : State) (n : Nat) (t : CanTx) (a : CanAttempt) :
    (State.canLoop s n t a).sec.fuse = s.sec.fuse := by
  unfold State.canLoop; (repeat' split) <;> simp_all [apply_ite State.sec, apply_ite SecS.fuse]
@[simp] theorem State.canLateEnd_fuse (s : State) (n : Nat) (a : CanAttempt) :
    (State.canLateEnd s n a).sec.fuse = s.sec.fuse := by
  unfold State.canLateEnd; split <;> simp [apply_ite State.sec, apply_ite SecS.fuse]
@[simp] theorem State.canAttempt_fuse (s : State) (n : Nat) (a : CanAttempt) :
    (State.canAttempt s n a).sec.fuse = s.sec.fuse := by
  unfold State.canAttempt; grind [State.canLateEnd_fuse, State.canBegin_fuse, State.canLoop_fuse, State.canSent_fuse, State.bump_fuse, State.canGone_fuse, State.canFailed_fuse, State.canFill_fuse]
@[simp] theorem State.canReference_fuse (s : State) (n : Nat) : (State.canReference s n).sec.fuse = s.sec.fuse := by
  simp [State.canReference, apply_ite State.sec, apply_ite SecS.fuse]
@[simp] theorem State.canWoke_fuse (s : State) (n : Nat) (f : Option CanFrame) :
    (State.canWoke s n f).sec.fuse = s.sec.fuse := by
  simp [State.canWoke]
@[simp] theorem State.canCleared_fuse (s : State) : (State.canCleared s).sec.fuse = s.sec.fuse := by
  simp [State.canCleared]

/-! ### MacOps -/

@[simp] theorem State.setMac_fuse (s : State) (m : Nat) (x : MacS) : (State.setMac s m x).sec.fuse = s.sec.fuse := by
  simp [State.setMac]
@[simp] theorem State.macLinkChange_fuse (s : State) (m : Nat) (f : State → State) (hf : ∀ x, (f x).sec.fuse = x.sec.fuse) :
    (State.macLinkChange s m f).sec.fuse = s.sec.fuse := by
  unfold State.macLinkChange; (repeat' split) <;> simp_all [apply_ite State.sec, apply_ite SecS.fuse]
@[simp] theorem State.macRxc_fuse (s : State) (m : Nat) (runs : Bool) : (State.macRxc s m runs).sec.fuse = s.sec.fuse := by
  simp [State.macRxc]
@[simp] theorem State.setMacQueue_fuse (s : State) (m : Nat) (q : Nat) (l : List MacTx) :
    (State.setMacQueue s m q l).sec.fuse = s.sec.fuse := by
  simp [State.setMacQueue]
@[simp] theorem State.macFeed_fuse (s : State) (m : Nat) : (State.macFeed s m).sec.fuse = s.sec.fuse := by
  unfold State.macFeed; (repeat' split) <;> simp_all [apply_ite State.sec, apply_ite SecS.fuse]
@[simp] theorem State.macStart_fuse (s : State) (m : Nat) (at_ : Nat) : (State.macStart s m at_).sec.fuse = s.sec.fuse := by
  simp [State.macStart]
@[simp] theorem State.macLoad_fuse (s : State) (m : Nat) (t : MacTx) : (State.macLoad s m t).sec.fuse = s.sec.fuse := by
  simp [State.macLoad, apply_ite State.sec, apply_ite SecS.fuse]
@[simp] theorem State.macYield_fuse (s : State) (m : Nat) : (State.macYield s m).sec.fuse = s.sec.fuse := by
  unfold State.macYield; grind [State.setMacQueue_fuse, State.setMac_fuse]
@[simp] theorem State.macFill_fuse (s : State) (m : Nat) : (State.macFill s m).sec.fuse = s.sec.fuse := by
  unfold State.macFill; grind [State.macYield_fuse, State.macLoad_fuse, State.setMac_fuse, State.setMacQueue_fuse]
@[simp] theorem State.macTransmit_fuse (s : State) (m : Nat) : (State.macTransmit s m).sec.fuse = s.sec.fuse := by
  simp [State.macTransmit]
@[simp] theorem State.macLose_fuse (s : State) (m : Nat) (count : Nat) : (State.macLose s m count).sec.fuse = s.sec.fuse := by
  simp [State.macLose]
@[simp] theorem State.macClose_fuse (s : State) (m : Nat) : (State.macClose s m).sec.fuse = s.sec.fuse := by
  simp [State.macClose, apply_ite State.sec, apply_ite SecS.fuse]
@[simp] theorem State.macPackRec_fuse (s : State) (m : Nat) (time : Word) (alone : Bool) (ws : List Word) :
    (State.macPackRec s m time alone ws).sec.fuse = s.sec.fuse := by
  simp [State.macPackRec, apply_ite State.sec, apply_ite SecS.fuse]
@[simp] theorem State.macDeliver_fuse (s : State) (m : Nat) (hdr : Word) (time : Word) (data : List Byte) :
    (State.macDeliver s m hdr time data).sec.fuse = s.sec.fuse := by
  simp [State.macDeliver, apply_ite State.sec, apply_ite SecS.fuse]
@[simp] theorem State.macPackEnd_fuse (s : State) (m : Nat) : (State.macPackEnd s m).sec.fuse = s.sec.fuse := by
  unfold State.macPackEnd; grind [→ State.expire_fuse_of, State.macClose_fuse]
@[simp] theorem State.macReport_fuse (s : State) (m : Nat) (t : MacTx) (outcome : Nat) :
    (State.macReport s m t outcome).sec.fuse = s.sec.fuse := by
  simp [State.macReport, apply_ite State.sec, apply_ite SecS.fuse]
@[simp] theorem State.macLeave_fuse (s : State) (m : Nat) (t : MacTx) (outcome : Nat) :
    (State.macLeave s m t outcome).sec.fuse = s.sec.fuse := by
  simp [State.macLeave, apply_ite State.sec, apply_ite SecS.fuse]
@[simp] theorem State.macStamp_fuse (s : State) (m : Nat) (t : MacTx) : (State.macStamp s m t).sec.fuse = s.sec.fuse := by
  simp [State.macStamp, apply_ite State.sec, apply_ite SecS.fuse]
@[simp] theorem State.macTsqPop_fuse (s : State) (m : Nat) : (State.macTsqPop s m).sec.fuse = s.sec.fuse := by
  simp [State.macTsqPop]
@[simp] theorem State.macGate_fuse (s : State) (m : Nat) : (State.macGate s m).sec.fuse = s.sec.fuse := by
  unfold State.macGate; grind [State.macYield_fuse, State.macFill_fuse, State.macLeave_fuse, State.macCount_fuse, State.setMac_fuse, State.macStart_fuse, State.disarm_fuse]
@[simp] theorem State.macInband_fuse (s : State) (m : Nat) (speed : BitVec 2) (duplex : Bool) (link : Bool) :
    (State.macInband s m speed duplex link).sec.fuse = s.sec.fuse := by
  simp [State.macInband]
@[simp] theorem State.macDefer_fuse (s : State) (m : Nat) (carrier : Bool) :
    (State.macDefer s m carrier).sec.fuse = s.sec.fuse := by
  simp [State.macDefer, apply_ite State.sec, apply_ite SecS.fuse]
@[simp] theorem State.macCollision_fuse (s : State) (m : Nat) (bits : Nat) :
    (State.macCollision s m bits).sec.fuse = s.sec.fuse := by
  unfold State.macCollision; grind [State.setMac_fuse, State.macGate_fuse, State.macCount_fuse, State.advance_fuse, State.macLeave_fuse, → State.freeIn_fuse_of, State.arm_fuse]
@[simp] theorem State.macBackoff_fuse (s : State) (m : Nat) : (State.macBackoff s m).sec.fuse = s.sec.fuse := by
  unfold State.macBackoff; grind [→ State.expire_fuse_of, State.setMac_fuse]
@[simp] theorem State.macLateEnd_fuse (s : State) (m : Nat) : (State.macLateEnd s m).sec.fuse = s.sec.fuse := by
  unfold State.macLateEnd; grind [State.setMac_fuse]
@[simp] theorem State.macTxEnd_fuse (s : State) (m : Nat) : (State.macTxEnd s m).sec.fuse = s.sec.fuse := by
  unfold State.macTxEnd; grind [State.macLateEnd_fuse, State.macGate_fuse, State.advance_fuse, State.setMac_fuse, State.macCount_fuse, State.macLeave_fuse, State.macStamp_fuse]
@[simp] theorem State.macFlushTx_fuse (s : State) (m : Nat) : ((State.macFlushTx s m).1).sec.fuse = s.sec.fuse := by
  unfold State.macFlushTx; grind [State.macCount_fuse, State.setMac_fuse, State.macLeave_fuse, State.disarm_fuse, → State.emptyPort_fuse_of]
theorem State.macFlushTx_fuse_of (s : State) (m : Nat) {sx : State} {qx : Nat} (h : State.macFlushTx s m = (sx, qx)) : sx.sec.fuse = s.sec.fuse := by
  have e := State.macFlushTx_fuse s m
  rw [h] at e
  exact e
@[simp] theorem State.macFlushRx_fuse (s : State) (m : Nat) : (State.macFlushRx s m).sec.fuse = s.sec.fuse := by
  simp [State.macFlushRx]
@[simp] theorem State.macSafe1_fuse (s : State) (m : Nat) : (State.macSafe1 s m).sec.fuse = s.sec.fuse := by
  simp [State.macSafe1]
@[simp] theorem State.macSafe_fuse (s : State) : (State.macSafe s).sec.fuse = s.sec.fuse := by
  simp [State.macSafe, apply_ite State.sec, apply_ite SecS.fuse]
@[simp] theorem State.macCommission_fuse (s : State) : (State.macCommission s).sec.fuse = s.sec.fuse := by
  simp [State.macCommission]
@[simp] theorem State.macComm_fuse (s : State) (m : Nat) (r : MacRx) : (State.macComm s m r).sec.fuse = s.sec.fuse := by
  unfold State.macComm; split <;> simp [apply_ite State.sec, apply_ite SecS.fuse]
@[simp] theorem State.macReceive_fuse (s : State) (m : Nat) (r : MacRx) : (State.macReceive s m r).sec.fuse = s.sec.fuse := by
  unfold State.macReceive; (repeat' split) <;> simp_all [apply_ite State.sec, apply_ite SecS.fuse]
@[simp] theorem State.mdioGo_fuse (s : State) : (State.mdioGo s).sec.fuse = s.sec.fuse := by
  simp [State.mdioGo]
@[simp] theorem State.mdioEnd_fuse (s : State) (data : BitVec 16) : (State.mdioEnd s data).sec.fuse = s.sec.fuse := by
  simp [State.mdioEnd, apply_ite State.sec, apply_ite SecS.fuse]
@[simp] theorem State.macWoke_fuse (s : State) (m : Nat) (mode : Nat) : (State.macWoke s m mode).sec.fuse = s.sec.fuse := by
  simp [State.macWoke]
@[simp] theorem State.macCleared_fuse (s : State) : (State.macCleared s).sec.fuse = s.sec.fuse := by
  simp [State.macCleared]

/-! ### BridgeOps -/

@[simp] theorem State.setHbr_fuse (s : State) (h : HbrS) : (State.setHbr s h).sec.fuse = s.sec.fuse := by
  simp [State.setHbr]
@[simp] theorem State.hostOut_fuse (s : State) (o : HostOut) : (State.hostOut s o).sec.fuse = s.sec.fuse := by
  simp [State.hostOut]
@[simp] theorem State.msi_fuse (s : State) (v : Nat) : (State.msi s v).sec.fuse = s.sec.fuse := by
  simp [State.msi, apply_ite State.sec, apply_ite SecS.fuse]
@[simp] theorem State.hbrIrq_fuse (s : State) (f : Fld) (v : Nat) : (State.hbrIrq s f v).sec.fuse = s.sec.fuse := by
  simp [State.hbrIrq, apply_ite State.sec, apply_ite SecS.fuse]
@[simp] theorem State.bar4Write_fuse (s : State) (off : Nat) (w : Word) :
    (State.bar4Write s off w).sec.fuse = s.sec.fuse := by
  simp [State.bar4Write, apply_ite State.sec, apply_ite SecS.fuse]
@[simp] theorem State.aerNote_fuse (s : State) (b : Nat) : (State.aerNote s b).sec.fuse = s.sec.fuse := by
  simp [State.aerNote]
@[simp] theorem State.tlpBad_fuse (s : State) (read : Bool) : (State.tlpBad s read).sec.fuse = s.sec.fuse := by
  simp [State.tlpBad, apply_ite State.sec, apply_ite SecS.fuse]
@[simp] theorem State.bar4_fuse (s : State) (off : Nat) (wr : Option Word) (beOk : Bool) :
    (State.bar4 s off wr beOk).sec.fuse = s.sec.fuse := by
  unfold State.bar4; (repeat' split) <;> simp_all [apply_ite State.sec, apply_ite SecS.fuse]
@[simp] theorem State.elog_fuse (s : State) (e : List Word) : (State.elog s e).sec.fuse = s.sec.fuse := by
  simp [State.elog, apply_ite State.sec, apply_ite SecS.fuse]
@[simp] theorem State.elogCmd_fuse (s : State) (c : HbrCmd) (st : Status) (src : Option (BitVec 24)) (sent : Bool) :
    (State.elogCmd s c st src sent).sec.fuse = s.sec.fuse := by
  simp [State.elogCmd, apply_ite State.sec, apply_ite SecS.fuse]
@[simp] theorem State.errPendClear_fuse (s : State) : (State.errPendClear s).sec.fuse = s.sec.fuse := by
  simp [State.errPendClear, apply_ite State.sec, apply_ite SecS.fuse]
@[simp] theorem State.pfDrop_fuse (s : State) (i : Nat) : (State.pfDrop s i).sec.fuse = s.sec.fuse := by
  unfold State.pfDrop; split <;> simp [apply_ite State.sec, apply_ite SecS.fuse]
@[simp] theorem State.pfDropWin_fuse (s : State) (w : Nat) : (State.pfDropWin s w).sec.fuse = s.sec.fuse := by
  simp [State.pfDropWin]
@[simp] theorem State.pfEnd_fuse (s : State) (i : Nat) : (State.pfEnd s i).sec.fuse = s.sec.fuse := by
  unfold State.pfEnd; grind [→ State.expire_fuse_of, State.pfDrop_fuse]
@[simp] theorem State.pfKeep_fuse (s : State) (off : Nat) (ws : List Word) :
    (State.pfKeep s off ws).sec.fuse = s.sec.fuse := by
  simp [State.pfKeep, apply_ite State.sec, apply_ite SecS.fuse]
@[simp] theorem State.readEnd_fuse (s : State) (id : Nat) : (State.readEnd s id).sec.fuse = s.sec.fuse := by
  unfold State.readEnd; split <;> simp [apply_ite State.sec, apply_ite SecS.fuse]
@[simp] theorem State.readPart_fuse (s : State) (id : Nat) (at_ : Nat) (ws : List Word) (ok : Bool) :
    (State.readPart s id at_ ws ok).sec.fuse = s.sec.fuse := by
  unfold State.readPart; split <;> simp [apply_ite State.sec, apply_ite SecS.fuse]
@[simp] theorem State.pfServe_fuse (s : State) (c : HbrCmd) (i : Nat) (b : PfBuf) :
    (State.pfServe s c i b).sec.fuse = s.sec.fuse := by
  unfold State.pfServe; split <;> simp [apply_ite State.sec, apply_ite SecS.fuse]
@[simp] theorem State.hbrSend_fuse (s : State) (c : HbrCmd) : (State.hbrSend s c).sec.fuse = s.sec.fuse := by
  unfold State.hbrSend; grind [State.pfServe_fuse, State.bump_fuse, State.emit_fuse, State.setHbr_fuse]
@[simp] theorem State.hbrPump_fuse (x0 : Nat) (x1 : State) : (State.hbrPump x0 x1).sec.fuse = x1.sec.fuse := by
  (induction x0 generalizing x1) <;> (unfold State.hbrPump; (repeat' split)) <;> simp_all [apply_ite State.sec, apply_ite SecS.fuse]
@[simp] theorem State.hbrQueue_fuse (s : State) (cs : List HbrCmd) : (State.hbrQueue s cs).sec.fuse = s.sec.fuse := by
  simp [State.hbrQueue]
@[simp] theorem State.nextOrder_fuse (s : State) : ((State.nextOrder s).2).sec.fuse = s.sec.fuse := by
  simp [State.nextOrder]
theorem State.nextOrder_fuse_of (s : State) {sx : Nat} {qx : State} (h : State.nextOrder s = (sx, qx)) : qx.sec.fuse = s.sec.fuse := by
  have e := State.nextOrder_fuse s
  rw [h] at e
  exact e
@[simp] theorem State.winWrite_fuse (s : State) (off : Nat) (ws : List Word) (beOk : Bool) :
    (State.winWrite s off ws beOk).sec.fuse = s.sec.fuse := by
  unfold State.winWrite; grind [State.pfDropWin_fuse, → State.nextOrder_fuse_of, State.elogCmd_fuse, State.hbrQueue_fuse]
@[simp] theorem State.winRead_fuse (s : State) (off : Nat) (n : Nat) : (State.winRead s off n).sec.fuse = s.sec.fuse := by
  simp only [State.winRead, State.expire]; (repeat' split) <;> simp_all [apply_ite State.sec, apply_ite SecS.fuse]
@[simp] theorem State.cmdEnd_fuse (s : State) (c : HbrCmd) (st : Status) (ws : List Word) (src : Option (BitVec 24)) (sent : Bool) :
    (State.cmdEnd s c st ws src sent).sec.fuse = s.sec.fuse := by
  unfold State.cmdEnd; (repeat' split) <;> simp_all [apply_ite State.sec, apply_ite SecS.fuse]
@[simp] theorem State.trkFree_fuse (s : State) (t : Nat) : (State.trkFree s t).sec.fuse = s.sec.fuse := by
  simp [State.trkFree]
@[simp] theorem State.trkReply_fuse (s : State) (f : Frame) (authOk : Bool) :
    (State.trkReply s f authOk).sec.fuse = s.sec.fuse := by
  unfold State.trkReply; grind [State.bump_fuse, State.trkFree_fuse, State.arm_fuse, State.disarm_fuse, State.cmdEnd_fuse, State.hbrPump_fuse]
@[simp] theorem State.postedReply_fuse (s : State) (f : Frame) : (State.postedReply s f).sec.fuse = s.sec.fuse := by
  unfold State.postedReply; split <;> simp [apply_ite State.sec, apply_ite SecS.fuse]
@[simp] theorem State.ncRetry_fuse (s : State) (t : Nat) : (State.ncRetry s t).sec.fuse = s.sec.fuse := by
  unfold State.ncRetry; grind [→ State.expire_fuse_of, State.bump_fuse, State.setHbr_fuse, State.emit_fuse, State.arm_fuse]
@[simp] theorem State.trkTimeout_fuse (s : State) (t : Nat) : (State.trkTimeout s t).sec.fuse = s.sec.fuse := by
  unfold State.trkTimeout; grind [→ State.expire_fuse_of, State.setHbr_fuse, State.arm_fuse, State.cmdEnd_fuse, State.hbrPump_fuse]
@[simp] theorem State.trkRelease_fuse (s : State) (t : Nat) : (State.trkRelease s t).sec.fuse = s.sec.fuse := by
  unfold State.trkRelease; grind [→ State.expire_fuse_of, State.trkFree_fuse, State.hbrPump_fuse]
@[simp] theorem State.readDeadline_fuse (s : State) (id : Nat) : (State.readDeadline s id).sec.fuse = s.sec.fuse := by
  unfold State.readDeadline; grind [→ State.expire_fuse_of, State.setHbr_fuse, State.elogCmd_fuse, State.readEnd_fuse]
@[simp] theorem State.txBack_fuse (s : State) (st : Status) (seq : BitVec 16) :
    (State.txBack s st seq).sec.fuse = s.sec.fuse := by
  unfold State.txBack; split <;> simp [apply_ite State.sec, apply_ite SecS.fuse]
@[simp] theorem State.txPump_fuse (x0 : Nat) (x1 : State) : (State.txPump x0 x1).sec.fuse = x1.sec.fuse := by
  (induction x0 generalizing x1) <;> (unfold State.txPump; grind [State.enqueue_fuse, State.setHbr_fuse, State.txBack_fuse, → State.fresh_fuse_of])
@[simp] theorem State.txTail_fuse (s : State) (tail : Nat) (ds : List TxDesc) :
    (State.txTail s tail ds).sec.fuse = s.sec.fuse := by
  simp [State.txTail, apply_ite State.sec, apply_ite SecS.fuse]
@[simp] theorem State.txLooked_fuse (s : State) : (State.txLooked s).sec.fuse = s.sec.fuse := by
  unfold State.txLooked; split <;> simp [apply_ite State.sec, apply_ite SecS.fuse]
@[simp] theorem State.rxTail_fuse (s : State) (q : Nat) (tail : Nat) (bufs : List RxDesc) :
    (State.rxTail s q tail bufs).sec.fuse = s.sec.fuse := by
  simp [State.rxTail, apply_ite State.sec, apply_ite SecS.fuse]
@[simp] theorem State.rxVector_fuse (s : State) (q : Nat) : (State.rxVector s q).sec.fuse = s.sec.fuse := by
  simp [State.rxVector, apply_ite State.sec, apply_ite SecS.fuse]
@[simp] theorem State.intModEnd_fuse (s : State) (q : Nat) : (State.intModEnd s q).sec.fuse = s.sec.fuse := by
  unfold State.intModEnd; grind [→ State.expire_fuse_of, State.arm_fuse, State.msi_fuse, State.setHbr_fuse]
@[simp] theorem State.rxWrite_fuse (s : State) (q : Nat) (v : VUnit) (loupe : Bool) :
    (State.rxWrite s q v loupe).sec.fuse = s.sec.fuse := by
  unfold State.rxWrite; grind [→ State.freshWords_fuse_of, State.setHbr_fuse, State.hostOut_fuse, State.rxVector_fuse, State.bump_fuse, State.put_fuse]
@[simp] theorem State.rxDeliver_fuse (s : State) : (State.rxDeliver s).sec.fuse = s.sec.fuse := by
  unfold State.rxDeliver; (repeat' split) <;> simp_all [apply_ite State.sec, apply_ite SecS.fuse]
@[simp] theorem State.linkUpPcie_fuse (s : State) (speed : Nat) (width : Nat) :
    (State.linkUpPcie s speed width).sec.fuse = s.sec.fuse := by
  simp [State.linkUpPcie, apply_ite State.sec, apply_ite SecS.fuse]
@[simp] theorem State.linkDownPcie_fuse (s : State) : (State.linkDownPcie s).sec.fuse = s.sec.fuse := by
  simp [State.linkDownPcie, apply_ite State.sec, apply_ite SecS.fuse]
@[simp] theorem State.hbrCleared_fuse (s : State) : (State.hbrCleared s).sec.fuse = s.sec.fuse := by
  simp [State.hbrCleared]
@[simp] theorem State.hbrMode_fuse (s : State) : (State.hbrMode s).sec.fuse = s.sec.fuse := by
  simp [State.hbrMode, apply_ite State.sec, apply_ite SecS.fuse]

/-! ### PowerOps -/

@[simp] theorem State.setPch_fuse (s : State) (c : Nat) (x : PchS) : (State.setPch s c x).sec.fuse = s.sec.fuse := by
  simp [State.setPch]
@[simp] theorem State.setPst_fuse (s : State) (c : Nat) (st : Nat) : (State.setPst s c st).sec.fuse = s.sec.fuse := by
  simp [State.setPst]
@[simp] theorem State.stopLimit_fuse (s : State) (c : Nat) : (State.stopLimit s c).sec.fuse = s.sec.fuse := by
  simp [State.stopLimit, apply_ite State.sec, apply_ite SecS.fuse]
@[simp] theorem State.pgQualify_fuse (s : State) (c : Nat) (from_ : Nat) :
    (State.pgQualify s c from_).sec.fuse = s.sec.fuse := by
  simp [State.pgQualify, apply_ite State.sec, apply_ite SecS.fuse]
@[simp] theorem State.pgDrop_fuse (s : State) (c : Nat) : (State.pgDrop s c).sec.fuse = s.sec.fuse := by
  simp [State.pgDrop, apply_ite State.sec, apply_ite SecS.fuse]
@[simp] theorem State.pgAssert_fuse (s : State) (c : Nat) : (State.pgAssert s c).sec.fuse = s.sec.fuse := by
  unfold State.pgAssert; grind [→ State.expire_fuse_of, State.setPch_fuse, State.put_fuse, State.arm_fuse]
@[simp] theorem State.gateTimers_fuse (s : State) (c : Nat) : (State.gateTimers s c).sec.fuse = s.sec.fuse := by
  simp [State.gateTimers]
@[simp] theorem State.gateOff_fuse (s : State) (c : Nat) (st : Nat) : (State.gateOff s c st).sec.fuse = s.sec.fuse := by
  simp [State.gateOff]
@[simp] theorem State.startRamp_fuse (s : State) (c : Nat) : (State.startRamp s c).sec.fuse = s.sec.fuse := by
  simp [State.startRamp, apply_ite State.sec, apply_ite SecS.fuse]
@[simp] theorem State.pchClrLatch_fuse (s : State) (c : Nat) : (State.pchClrLatch s c).sec.fuse = s.sec.fuse := by
  simp [State.pchClrLatch, apply_ite State.sec, apply_ite SecS.fuse]
@[simp] theorem State.park_fuse (s : State) (c : Nat) : (State.park s c).sec.fuse = s.sec.fuse := by
  simp [State.park]
@[simp] theorem State.pchLose_fuse (s : State) (c : Nat) : (State.pchLose s c).sec.fuse = s.sec.fuse := by
  simp [State.pchLose, apply_ite State.sec, apply_ite SecS.fuse]
@[simp] theorem State.pchRegain_fuse (s : State) (c : Nat) : (State.pchRegain s c).sec.fuse = s.sec.fuse := by
  simp [State.pchRegain, apply_ite State.sec, apply_ite SecS.fuse]
@[simp] theorem State.pwrSettle_fuse (s : State) : (State.pwrSettle s).sec.fuse = s.sec.fuse := by
  simp [State.pwrSettle]
@[simp] theorem State.parkTimeout_fuse (s : State) (c : Nat) : (State.parkTimeout s c).sec.fuse = s.sec.fuse := by
  unfold State.parkTimeout; grind [→ State.expire_fuse_of, State.gateOff_fuse]
@[simp] theorem State.parkHandoff_fuse (s : State) (c : Nat) : (State.parkHandoff s c).sec.fuse = s.sec.fuse := by
  simp [State.parkHandoff, apply_ite State.sec, apply_ite SecS.fuse]
@[simp] theorem State.rampDone_fuse (s : State) (c : Nat) (enhance : Bool) :
    (State.rampDone s c enhance).sec.fuse = s.sec.fuse := by
  simp [State.rampDone, apply_ite State.sec, apply_ite SecS.fuse]
@[simp] theorem State.faultOff_fuse (s : State) (c : Nat) (code : Nat) (end_ : Nat) :
    (State.faultOff s c code end_).sec.fuse = s.sec.fuse := by
  simp [State.faultOff, apply_ite State.sec, apply_ite SecS.fuse]
@[simp] theorem State.limitOnset_fuse (s : State) (c : Nat) : (State.limitOnset s c).sec.fuse = s.sec.fuse := by
  simp [State.limitOnset, apply_ite State.sec, apply_ite SecS.fuse]
@[simp] theorem State.limitEnd_fuse (s : State) (c : Nat) : (State.limitEnd s c).sec.fuse = s.sec.fuse := by
  simp [State.limitEnd, apply_ite State.sec, apply_ite SecS.fuse]
@[simp] theorem State.ftExpire_fuse (s : State) (c : Nat) : (State.ftExpire s c).sec.fuse = s.sec.fuse := by
  unfold State.ftExpire; grind [→ State.expire_fuse_of, State.faultOff_fuse]
@[simp] theorem State.tickFault_fuse (s : State) (c : Nat) : (State.tickFault s c).sec.fuse = s.sec.fuse := by
  simp [State.tickFault, apply_ite State.sec, apply_ite SecS.fuse]
@[simp] theorem State.pchCmdOn_fuse (s : State) (c : Nat) : (State.pchCmdOn s c).sec.fuse = s.sec.fuse := by
  simp [State.pchCmdOn, apply_ite State.sec, apply_ite SecS.fuse]
@[simp] theorem State.pchCmdOff_fuse (s : State) (c : Nat) : (State.pchCmdOff s c).sec.fuse = s.sec.fuse := by
  simp [State.pchCmdOff, apply_ite State.sec, apply_ite SecS.fuse]
@[simp] theorem State.thermal_fuse (s : State) (c : Nat) : (State.thermal s c).sec.fuse = s.sec.fuse := by
  simp [State.thermal, apply_ite State.sec, apply_ite SecS.fuse]
@[simp] theorem State.gateFail_fuse (s : State) (c : Nat) : (State.gateFail s c).sec.fuse = s.sec.fuse := by
  simp [State.gateFail, apply_ite State.sec, apply_ite SecS.fuse]
@[simp] theorem State.stuckOn_fuse (s : State) (c : Nat) : (State.stuckOn s c).sec.fuse = s.sec.fuse := by
  simp [State.stuckOn, apply_ite State.sec, apply_ite SecS.fuse]
@[simp] theorem State.rampTimeout_fuse (s : State) (c : Nat) : (State.rampTimeout s c).sec.fuse = s.sec.fuse := by
  unfold State.rampTimeout; grind [→ State.expire_fuse_of, State.faultOff_fuse]
@[simp] theorem State.openLoad_fuse (s : State) (c : Nat) : (State.openLoad s c).sec.fuse = s.sec.fuse := by
  simp [State.openLoad, apply_ite State.sec, apply_ite SecS.fuse]
@[simp] theorem State.retryEnd_fuse (s : State) (c : Nat) : (State.retryEnd s c).sec.fuse = s.sec.fuse := by
  unfold State.retryEnd; grind [→ State.expire_fuse_of, State.arm_fuse, State.startRamp_fuse, State.bump_fuse, State.put_fuse, State.channelOrder_fuse]
@[simp] theorem State.retryReset_fuse (s : State) (c : Nat) : (State.retryReset s c).sec.fuse = s.sec.fuse := by
  unfold State.retryReset; grind [→ State.expire_fuse_of, State.put_fuse]
@[simp] theorem State.vinOut_fuse (s : State) (ov : Bool) : (State.vinOut s ov).sec.fuse = s.sec.fuse := by
  simp [State.vinOut, apply_ite State.sec, apply_ite SecS.fuse]
@[simp] theorem State.vinBack_fuse (s : State) : (State.vinBack s).sec.fuse = s.sec.fuse := by
  simp [State.vinBack, apply_ite State.sec, apply_ite SecS.fuse]
@[simp] theorem State.pfwarn_fuse (s : State) (on : Bool) : (State.pfwarn s on).sec.fuse = s.sec.fuse := by
  simp [State.pfwarn, apply_ite State.sec, apply_ite SecS.fuse]
@[simp] theorem State.trackState_fuse (s : State) (c : Nat) (m : Meas) : (State.trackState s c m).sec.fuse = s.sec.fuse := by
  simp [State.trackState, apply_ite State.sec, apply_ite SecS.fuse]
@[simp] theorem State.takeChannel_fuse (s : State) (c : Nat) : (State.takeChannel s c).sec.fuse = s.sec.fuse := by
  simp [State.takeChannel, apply_ite State.sec, apply_ite SecS.fuse]
@[simp] theorem State.channelApply_fuse (s : State) (c : Nat) (what : Nat) (code : Nat) :
    (State.channelApply s c what code).sec.fuse = s.sec.fuse := by
  simp [State.channelApply, apply_ite State.sec, apply_ite SecS.fuse]
@[simp] theorem State.measure_fuse (s : State) (c : Nat) (m : Meas) : (State.measure s c m).sec.fuse = s.sec.fuse := by
  simp [State.measure, apply_ite State.sec, apply_ite SecS.fuse]
@[simp] theorem State.dieLinkLoss_fuse (s : State) : (State.dieLinkLoss s).sec.fuse = s.sec.fuse := by
  simp [State.dieLinkLoss, apply_ite State.sec, apply_ite SecS.fuse]
@[simp] theorem State.dieLinkReturn_fuse (s : State) : (State.dieLinkReturn s).sec.fuse = s.sec.fuse := by
  simp [State.dieLinkReturn]
@[simp] theorem State.pwrSafe_fuse (s : State) : (State.pwrSafe s).sec.fuse = s.sec.fuse := by
  unfold State.pwrSafe
  split
  · rfl
  · refine foldl_fuse _ (fun s c => ?_) _ _
    split <;> simp
@[simp] theorem State.pwrCommission_fuse (s : State) : (State.pwrCommission s).sec.fuse = s.sec.fuse := by
  simp [State.pwrCommission, apply_ite State.sec, apply_ite SecS.fuse]
@[simp] theorem State.pwrRun_fuse (s : State) : (State.pwrRun s).sec.fuse = s.sec.fuse := by
  simp [State.pwrRun, apply_ite State.sec, apply_ite SecS.fuse]
@[simp] theorem State.pwrSleep_fuse (s : State) : (State.pwrSleep s).sec.fuse = s.sec.fuse := by
  simp [State.pwrSleep]
@[simp] theorem State.pwrCoreReset_fuse (s : State) : ((State.pwrCoreReset s).1).sec.fuse = s.sec.fuse := by
  simp [State.pwrCoreReset, apply_ite State.sec, apply_ite SecS.fuse]
theorem State.pwrCoreReset_fuse_of (s : State) {sx : State} {qx : Bool} (h : State.pwrCoreReset s = (sx, qx)) : sx.sec.fuse = s.sec.fuse := by
  have e := State.pwrCoreReset_fuse s
  rw [h] at e
  exact e
@[simp] theorem State.pwrCleared_fuse (s : State) : (State.pwrCleared s).sec.fuse = s.sec.fuse := by
  simp [State.pwrCleared]
@[simp] theorem State.pwrMasks_fuse (s : State) (on : BitVec 16) (off : BitVec 16) :
    (State.pwrMasks s on off).sec.fuse = s.sec.fuse := by
  simp [State.pwrMasks, apply_ite State.sec, apply_ite SecS.fuse]
@[simp] theorem State.pchCalibrate_fuse (s : State) (gain : Bool) (c : Nat) :
    (State.pchCalibrate s gain c).sec.fuse = s.sec.fuse := by
  simp [State.pchCalibrate]

/-! ### FireOps -/

@[simp] theorem State.fireStart_fuse (s : State) (n : Nat) : (State.fireStart s n).sec.fuse = s.sec.fuse := by
  unfold State.fireStart; (repeat' split) <;> (try have h0 := State.takeEntry_fuse_of (h := by assumption)) <;> first | rfl | (simp_all [apply_ite State.sec, apply_ite SecS.fuse]; done)
@[simp] theorem State.fireStop_fuse (s : State) (n : Nat) : (State.fireStop s n).sec.fuse = s.sec.fuse := by
  unfold State.fireStop; (repeat' split) <;> (try have h0 := State.takeEntry_fuse_of (h := by assumption)) <;> first | rfl | (simp_all [apply_ite State.sec, apply_ite SecS.fuse]; done)
@[simp] theorem State.sendNow_fuse (s : State) (e : Entry) : (State.sendNow s e).sec.fuse = s.sec.fuse := by
  simp [State.sendNow, apply_ite State.sec, apply_ite SecS.fuse]
@[simp] theorem State.fireSend_fuse (s : State) (n : Nat) : (State.fireSend s n).sec.fuse = s.sec.fuse := by
  unfold State.fireSend; grind [→ State.takeEntry_fuse_of, State.fired_fuse, State.sendNow_fuse]
@[simp] theorem State.firePinSet_fuse (s : State) (n : Nat) : (State.firePinSet s n).sec.fuse = s.sec.fuse := by
  unfold State.firePinSet; grind [→ State.takeEntry_fuse_of, State.fired_fuse, State.setDout_fuse]
@[simp] theorem State.firePinSample_fuse (s : State) (n : Nat) : (State.firePinSample s n).sec.fuse = s.sec.fuse := by
  unfold State.firePinSample; grind [→ State.takeEntry_fuse_of, State.fired_fuse]
@[simp] theorem State.fireCountSample_fuse (s : State) (n : Nat) : (State.fireCountSample s n).sec.fuse = s.sec.fuse := by
  unfold State.fireCountSample; grind [→ State.takeEntry_fuse_of, State.fired_fuse]
@[simp] theorem State.fireTrigger_fuse (s : State) (n : Nat) : (State.fireTrigger s n).sec.fuse = s.sec.fuse := by
  unfold State.fireTrigger; (repeat' split) <;> (try have h0 := State.takeEntry_fuse_of (h := by assumption)) <;> first | rfl | (simp_all [apply_ite State.sec, apply_ite SecS.fuse]; done)
@[simp] theorem State.entryOver_fuse (s : State) (e : Entry) (c : Nat) : (State.entryOver s e c).sec.fuse = s.sec.fuse := by
  simp [State.entryOver, apply_ite State.sec, apply_ite SecS.fuse]
@[simp] theorem State.entryOn_fuse (s : State) (e : Entry) (c : Nat) : (State.entryOn s e c).sec.fuse = s.sec.fuse := by
  simp [State.entryOn]
@[simp] theorem State.entryOff_fuse (s : State) (e : Entry) (c : Nat) : (State.entryOff s e c).sec.fuse = s.sec.fuse := by
  simp [State.entryOff]
@[simp] theorem State.firePwrOn_fuse (s : State) (n : Nat) : (State.firePwrOn s n).sec.fuse = s.sec.fuse := by
  unfold State.firePwrOn; (repeat' split) <;> (try have h0 := State.takeEntry_fuse_of (h := by assumption)) <;> first | rfl | (simp_all [apply_ite State.sec, apply_ite SecS.fuse]; done)
@[simp] theorem State.firePwrOff_fuse (s : State) (n : Nat) : (State.firePwrOff s n).sec.fuse = s.sec.fuse := by
  unfold State.firePwrOff; (repeat' split) <;> (try have h0 := State.takeEntry_fuse_of (h := by assumption)) <;> first | rfl | (simp_all [apply_ite State.sec, apply_ite SecS.fuse]; done)
@[simp] theorem State.firePwrSample_fuse (s : State) (n : Nat) : (State.firePwrSample s n).sec.fuse = s.sec.fuse := by
  unfold State.firePwrSample; grind [→ State.takeEntry_fuse_of, State.fired_fuse]
@[simp] theorem State.schedCancel_fuse (s : State) (n : Nat) : (State.schedCancel s n).sec.fuse = s.sec.fuse := by
  simp [State.schedCancel, apply_ite State.sec, apply_ite SecS.fuse]

/-! ### SafeOps -/

@[simp] theorem State.settleOutputs_fuse (s : State) : (State.settleOutputs s).sec.fuse = s.sec.fuse := by
  simp [State.settleOutputs]
@[simp] theorem State.logMode_fuse (s : State) (old : Mode) (cause : Option Nat) (reason : Word) :
    (State.logMode s old cause reason).sec.fuse = s.sec.fuse := by
  unfold State.logMode; grind [→ State.fresh_fuse_of, State.log_fuse]
@[simp] theorem State.endTestRelease_fuse (s : State) (m : Mode) : (State.endTestRelease s m).sec.fuse = s.sec.fuse := by
  simp [State.endTestRelease, apply_ite State.sec, apply_ite SecS.fuse]
@[simp] theorem State.setMode_fuse (s : State) (m : Mode) : (State.setMode s m).sec.fuse = s.sec.fuse := by
  simp [State.setMode, apply_ite State.sec, apply_ite SecS.fuse]
@[simp] theorem State.toSafe_fuse (s : State) (w : Word) : (State.toSafe s w).sec.fuse = s.sec.fuse := by
  simp [State.toSafe]
@[simp] theorem State.enterSafe_fuse (s : State) (cause : Nat) (source : Nat) (reason : Nat) :
    (State.enterSafe s cause source reason).sec.fuse = s.sec.fuse := by
  simp [State.enterSafe, apply_ite State.sec, apply_ite SecS.fuse]
@[simp] theorem State.commissionOutputs_fuse (s : State) : (State.commissionOutputs s).sec.fuse = s.sec.fuse := by
  simp [State.commissionOutputs]
@[simp] theorem State.leaveSafe_fuse (s : State) : (State.leaveSafe s).sec.fuse = s.sec.fuse := by
  simp [State.leaveSafe, apply_ite State.sec, apply_ite SecS.fuse]

/-! ### PairOps -/

@[simp] theorem State.driveIlk_fuse (s : State) (on : Bool) : (State.driveIlk s on).sec.fuse = s.sec.fuse := by
  simp [State.driveIlk, apply_ite State.sec, apply_ite SecS.fuse]
@[simp] theorem State.setPair_fuse (s : State) (st : Nat) : (State.setPair s st).sec.fuse = s.sec.fuse := by
  simp [State.setPair, apply_ite State.sec, apply_ite SecS.fuse]
@[simp] theorem State.enterSync_fuse (s : State) : (State.enterSync s).sec.fuse = s.sec.fuse := by
  simp [State.enterSync, apply_ite State.sec, apply_ite SecS.fuse]
@[simp] theorem State.enterOos_fuse (s : State) (stuck : Bool) : (State.enterOos s stuck).sec.fuse = s.sec.fuse := by
  simp [State.enterOos]
@[simp] theorem State.leaveOos_fuse (s : State) : (State.leaveOos s).sec.fuse = s.sec.fuse := by
  simp [State.leaveOos, apply_ite State.sec, apply_ite SecS.fuse]
@[simp] theorem State.ackSend_fuse (s : State) : (State.ackSend s).sec.fuse = s.sec.fuse := by
  simp [State.ackSend, apply_ite State.sec, apply_ite SecS.fuse]
@[simp] theorem State.heartbeatSend_fuse (s : State) : (State.heartbeatSend s).sec.fuse = s.sec.fuse := by
  unfold State.heartbeatSend; grind [→ State.expire_fuse_of, State.arm_fuse, State.ackSend_fuse, State.orderedSet_fuse]
@[simp] theorem State.startClaim_fuse (s : State) (cause : Nat) : (State.startClaim s cause).sec.fuse = s.sec.fuse := by
  simp [State.startClaim]
@[simp] theorem State.claimAbort_fuse (s : State) : (State.claimAbort s).sec.fuse = s.sec.fuse := by
  simp [State.claimAbort, apply_ite State.sec, apply_ite SecS.fuse]
@[simp] theorem State.declare_fuse (s : State) (cause : Nat) : (State.declare s cause).sec.fuse = s.sec.fuse := by
  simp [State.declare, apply_ite State.sec, apply_ite SecS.fuse]
@[simp] theorem State.judgePaths_fuse (s : State) : (State.judgePaths s).sec.fuse = s.sec.fuse := by
  simp [State.judgePaths, apply_ite State.sec, apply_ite SecS.fuse]
@[simp] theorem State.heartbeatIn_fuse (s : State) (d2 : BitVec 8) (d3 : BitVec 8) :
    (State.heartbeatIn s d2 d3).sec.fuse = s.sec.fuse := by
  simp [State.heartbeatIn, apply_ite State.sec, apply_ite SecS.fuse]
@[simp] theorem State.hbInEdge_fuse (s : State) (interval : Nat) : (State.hbInEdge s interval).sec.fuse = s.sec.fuse := by
  simp [State.hbInEdge, apply_ite State.sec, apply_ite SecS.fuse]
theorem State.silence_fuse (s : State) (pin : Bool) : ∀ tx, State.silence s pin = some tx → tx.sec.fuse = s.sec.fuse := by
  unfold State.silence; grind [State.disarm_fuse, → State.expire_fuse_of]
theorem State.silence_fuse_of (s : State) (pin : Bool) {tx : State} (h : State.silence s pin = some tx) : tx.sec.fuse = s.sec.fuse :=
  State.silence_fuse s pin tx h
@[simp] theorem State.handoverFails_fuse (s : State) : (State.handoverFails s).sec.fuse = s.sec.fuse := by
  unfold State.handoverFails; split <;> simp [apply_ite State.sec, apply_ite SecS.fuse]
@[simp] theorem State.pathLost_fuse (s : State) (pin : Bool) : (State.pathLost s pin).sec.fuse = s.sec.fuse := by
  simp [State.pathLost, apply_ite State.sec, apply_ite SecS.fuse]
@[simp] theorem State.heartbeatSilent_fuse (s : State) (pin : Bool) :
    (State.heartbeatSilent s pin).sec.fuse = s.sec.fuse := by
  unfold State.heartbeatSilent; grind [→ State.silence_fuse_of, State.pathLost_fuse]
@[simp] theorem State.pinWaitEnd_fuse (s : State) : (State.pinWaitEnd s).sec.fuse = s.sec.fuse := by
  unfold State.pinWaitEnd; grind [→ State.expire_fuse_of, State.declare_fuse, State.enterOos_fuse]
@[simp] theorem State.releaseHeld_fuse (s : State) : (State.releaseHeld s).sec.fuse = s.sec.fuse := by
  simp [State.releaseHeld]
@[simp] theorem State.claimWon_fuse (s : State) : (State.claimWon s).sec.fuse = s.sec.fuse := by
  simp [State.claimWon, apply_ite State.sec, apply_ite SecS.fuse]
@[simp] theorem State.claimDrive_fuse (s : State) : (State.claimDrive s).sec.fuse = s.sec.fuse := by
  simp [State.claimDrive]
@[simp] theorem State.claimWaitEnd_fuse (s : State) : (State.claimWaitEnd s).sec.fuse = s.sec.fuse := by
  unfold State.claimWaitEnd; grind [→ State.expire_fuse_of, State.claimAbort_fuse, State.claimDrive_fuse]
@[simp] theorem State.claimCheck_fuse (s : State) : (State.claimCheck s).sec.fuse = s.sec.fuse := by
  unfold State.claimCheck; grind [→ State.expire_fuse_of, State.claimWon_fuse, State.raise_fuse, State.enterOos_fuse, State.driveIlk_fuse]
@[simp] theorem State.ilkChange_fuse (s : State) (low : Bool) : (State.ilkChange s low).sec.fuse = s.sec.fuse := by
  simp [State.ilkChange, apply_ite State.sec, apply_ite SecS.fuse]
@[simp] theorem State.fitnessLoss_fuse (s : State) : (State.fitnessLoss s).sec.fuse = s.sec.fuse := by
  simp [State.fitnessLoss, apply_ite State.sec, apply_ite SecS.fuse]
@[simp] theorem State.joinSend_fuse (s : State) : (State.joinSend s).sec.fuse = s.sec.fuse := by
  unfold State.joinSend; grind [→ State.expire_fuse_of, State.arm_fuse, State.transmit_fuse, State.startClaim_fuse]
@[simp] theorem State.joinIn_fuse (s : State) (p : List Word) : (State.joinIn s p).sec.fuse = s.sec.fuse := by
  simp [State.joinIn, apply_ite State.sec, apply_ite SecS.fuse]
@[simp] theorem State.startPairing_fuse (s : State) (alt : Bool) : (State.startPairing s alt).sec.fuse = s.sec.fuse := by
  simp [State.startPairing, apply_ite State.sec, apply_ite SecS.fuse]
@[simp] theorem State.pairWaitEnd_fuse (s : State) : (State.pairWaitEnd s).sec.fuse = s.sec.fuse := by
  unfold State.pairWaitEnd; grind [→ State.expire_fuse_of, State.startClaim_fuse]
@[simp] theorem State.rejoin_fuse (s : State) : (State.rejoin s).sec.fuse = s.sec.fuse := by
  simp [State.rejoin, apply_ite State.sec, apply_ite SecS.fuse]
@[simp] theorem State.resync_fuse (s : State) : (State.resync s).sec.fuse = s.sec.fuse := by
  simp [State.resync, apply_ite State.sec, apply_ite SecS.fuse]
@[simp] theorem State.takeOrder_fuse (s : State) (on : BitVec 16) : ((State.takeOrder s on).1).sec.fuse = s.sec.fuse := by
  unfold State.takeOrder; grind [State.put_fuse, State.orderSet_fuse]
theorem State.takeOrder_fuse_of (s : State) (on : BitVec 16) {sx : State} {qx : Bool} (h : State.takeOrder s on = (sx, qx)) : sx.sec.fuse = s.sec.fuse := by
  have e := State.takeOrder_fuse s on
  rw [h] at e
  exact e
@[simp] theorem State.seqFollow_fuse (s : State) (f : Frame) : (State.seqFollow s f).sec.fuse = s.sec.fuse := by
  simp [State.seqFollow]
@[simp] theorem State.pressFollow_fuse (s : State) (f : Frame) : (State.pressFollow s f).sec.fuse = s.sec.fuse := by
  unfold State.pressFollow; grind [State.pressTouch_fuse, State.setCtx_fuse, State.roomForCtx_fuse]
@[simp] theorem State.cancelHeld_fuse (s : State) (f : Frame) : (State.cancelHeld s f).sec.fuse = s.sec.fuse := by
  simp [State.cancelHeld]
@[simp] theorem State.progressIn_fuse (s : State) (p : Nat) (seq : BitVec 16) :
    (State.progressIn s p seq).sec.fuse = s.sec.fuse := by
  unfold State.progressIn; split <;> simp [apply_ite State.sec, apply_ite SecS.fuse]
@[simp] theorem State.holdExpire_fuse (s : State) : (State.holdExpire s).sec.fuse = s.sec.fuse := by
  unfold State.holdExpire; split <;> simp [apply_ite State.sec, apply_ite SecS.fuse]
@[simp] theorem State.digestSend_fuse (s : State) : (State.digestSend s).sec.fuse = s.sec.fuse := by
  unfold State.digestSend; split <;> simp [apply_ite State.sec, apply_ite SecS.fuse]
@[simp] theorem State.digestMiss_fuse (s : State) : (State.digestMiss s).sec.fuse = s.sec.fuse := by
  simp [State.digestMiss, apply_ite State.sec, apply_ite SecS.fuse]
@[simp] theorem State.digestOrder_fuse (s : State) (p : List Word) : (State.digestOrder s p).sec.fuse = s.sec.fuse := by
  simp [State.digestOrder, apply_ite State.sec, apply_ite SecS.fuse]
@[simp] theorem State.digestVerdict_fuse (s : State) (on : Nat) (eq : Bool) :
    (State.digestVerdict s on eq).sec.fuse = s.sec.fuse := by
  simp [State.digestVerdict, apply_ite State.sec, apply_ite SecS.fuse]
@[simp] theorem State.digestReturned_fuse (s : State) (on : Nat) (p : List Word) :
    (State.digestReturned s on p).sec.fuse = s.sec.fuse := by
  unfold State.digestReturned; split <;> simp [apply_ite State.sec, apply_ite SecS.fuse]
@[simp] theorem State.digestBack_fuse (s : State) (p : List Word) : (State.digestBack s p).sec.fuse = s.sec.fuse := by
  simp [State.digestBack]
@[simp] theorem State.digestIn_fuse (s : State) (on : BitVec 16) (p : List Word) :
    (State.digestIn s on p).sec.fuse = s.sec.fuse := by
  simp [State.digestIn, apply_ite State.sec, apply_ite SecS.fuse]
@[simp] theorem State.transferFailed_fuse (s : State) : (State.transferFailed s).sec.fuse = s.sec.fuse := by
  simp [State.transferFailed, apply_ite State.sec, apply_ite SecS.fuse]
@[simp] theorem State.transferTimeout_fuse (s : State) : (State.transferTimeout s).sec.fuse = s.sec.fuse := by
  unfold State.transferTimeout; grind [→ State.expire_fuse_of, State.transferFailed_fuse]
@[simp] theorem State.takeSession_fuse (s : State) (x : Session) (age : Nat) (left : Option Nat) :
    (State.takeSession s x age left).sec.fuse = s.sec.fuse := by
  unfold State.takeSession; split <;> simp [apply_ite State.sec, apply_ite SecS.fuse]
@[simp] theorem State.takeQueues_fuse (s : State) (r : SyncRecord) : (State.takeQueues s r).sec.fuse = s.sec.fuse := by
  simp [State.takeQueues]
@[simp] theorem State.syncIn_fuse (s : State) (r : SyncRecord) : (State.syncIn s r).sec.fuse = s.sec.fuse := by
  simp [State.syncIn, apply_ite State.sec, apply_ite SecS.fuse]
@[simp] theorem State.handoverRelease_fuse (s : State) (fault : Bool) :
    (State.handoverRelease s fault).sec.fuse = s.sec.fuse := by
  simp [State.handoverRelease, apply_ite State.sec, apply_ite SecS.fuse]
@[simp] theorem State.ackIn_fuse (s : State) (on : BitVec 16) : (State.ackIn s on).sec.fuse = s.sec.fuse := by
  unfold State.ackIn; grind [State.disarm_fuse, State.arm_fuse, State.placeWaiting_fuse, State.handoverRelease_fuse]
@[simp] theorem State.nakIn_fuse (s : State) (on : BitVec 16) : (State.nakIn s on).sec.fuse = s.sec.fuse := by
  simp [State.nakIn, apply_ite State.sec, apply_ite SecS.fuse]
@[simp] theorem State.ackTimeout_fuse (s : State) : (State.ackTimeout s).sec.fuse = s.sec.fuse := by
  unfold State.ackTimeout; grind [→ State.expire_fuse_of, State.resendOrders_fuse]
@[simp] theorem State.backlogFull_fuse (s : State) : (State.backlogFull s).sec.fuse = s.sec.fuse := by
  unfold State.backlogFull; grind [→ State.expire_fuse_of, State.startTransfer_fuse]
@[simp] theorem State.startHandover_fuse (s : State) (c : Option Cmd) : (State.startHandover s c).sec.fuse = s.sec.fuse := by
  simp [State.startHandover]
@[simp] theorem State.handoverIn_fuse (s : State) (on : BitVec 16) : (State.handoverIn s on).sec.fuse = s.sec.fuse := by
  simp [State.handoverIn, apply_ite State.sec, apply_ite SecS.fuse]
@[simp] theorem State.progressOrderIn_fuse (s : State) (on : BitVec 16) (p : List Word) :
    (State.progressOrderIn s on p).sec.fuse = s.sec.fuse := by
  simp [State.progressOrderIn, apply_ite State.sec, apply_ite SecS.fuse]
@[simp] theorem State.channelOrderIn_fuse (s : State) (on : BitVec 16) (p : List Word) :
    (State.channelOrderIn s on p).sec.fuse = s.sec.fuse := by
  simp [State.channelOrderIn, apply_ite State.sec, apply_ite SecS.fuse]
@[simp] theorem State.pairCleared_fuse (s : State) : (State.pairCleared s).sec.fuse = s.sec.fuse := by
  simp [State.pairCleared]
@[simp] theorem State.leavePair_fuse (s : State) : (State.leavePair s).sec.fuse = s.sec.fuse := by
  simp [State.leavePair]

/-! ### Quiesce -/

@[simp] theorem State.resetRegs_fuse (s : State) (p : Cls → Nat → Bool) : (State.resetRegs s p).sec.fuse = s.sec.fuse := by
  simp [State.resetRegs]
@[simp] theorem State.loadRecord_fuse (s : State) (isl : Nat → Bool) (e : Nat × Word) :
    (State.loadRecord s isl e).sec.fuse = s.sec.fuse := by
  unfold State.loadRecord; split <;> simp [apply_ite State.sec, apply_ite SecS.fuse]
@[simp] theorem State.loadProfile_fuse (s : State) (isl : Nat → Bool) : (State.loadProfile s isl).sec.fuse = s.sec.fuse := by
  simp [State.loadProfile, apply_ite State.sec, apply_ite SecS.fuse]

/-! ### ResetOps -/

@[simp] theorem State.setRst_fuse (s : State) (i : Nat) (on : Bool) : (State.setRst s i on).sec.fuse = s.sec.fuse := by
  simp [State.setRst]
@[simp] theorem State.setResync_fuse (s : State) (i : Nat) (on : Bool) : (State.setResync s i on).sec.fuse = s.sec.fuse := by
  simp [State.setResync]
@[simp] theorem State.setIslRst_fuse (s : State) (i : Nat) (on : Bool) : (State.setIslRst s i on).sec.fuse = s.sec.fuse := by
  simp [State.setIslRst]
@[simp] theorem State.dropHold_fuse (s : State) : (State.dropHold s).sec.fuse = s.sec.fuse := by
  simp [State.dropHold, apply_ite State.sec, apply_ite SecS.fuse]
@[simp] theorem State.dropToward_fuse (s : State) (i : Nat) : (State.dropToward s i).sec.fuse = s.sec.fuse := by
  simp [State.dropToward, apply_ite State.sec, apply_ite SecS.fuse]
@[simp] theorem State.swcCleared_fuse (s : State) : (State.swcCleared s).sec.fuse = s.sec.fuse := by
  simp [State.swcCleared]
@[simp] theorem State.dropStore_fuse (s : State) : (State.dropStore s).sec.fuse = s.sec.fuse := by
  unfold State.dropStore; split <;> simp [apply_ite State.sec, apply_ite SecS.fuse]
@[simp] theorem State.loseSessions_fuse (s : State) : (State.loseSessions s).sec.fuse = s.sec.fuse := by
  simp [State.loseSessions]
@[simp] theorem State.mgtCleared_fuse (s : State) : (State.mgtCleared s).sec.fuse = s.sec.fuse := by
  simp [State.mgtCleared]
@[simp] theorem State.laneCleared_fuse (s : State) (l : Nat) : (State.laneCleared s l).sec.fuse = s.sec.fuse := by
  simp [State.laneCleared, apply_ite State.sec, apply_ite SecS.fuse]
@[simp] theorem State.clearIsland_fuse (s : State) (i : Nat) : (State.clearIsland s i).sec.fuse = s.sec.fuse := by
  simp [State.clearIsland, apply_ite State.sec, apply_ite SecS.fuse]
@[simp] theorem State.assertReset_fuse (s : State) (i : Nat) (p : Cls → Bool) :
    (State.assertReset s i p).sec.fuse = s.sec.fuse := by
  simp [State.assertReset, apply_ite State.sec, apply_ite SecS.fuse]
@[simp] theorem State.islReset_fuse (s : State) (i : Nat) : (State.islReset s i).sec.fuse = s.sec.fuse := by
  simp [State.islReset, apply_ite State.sec, apply_ite SecS.fuse]
@[simp] theorem State.releaseIsland_fuse (s : State) (i : Nat) : (State.releaseIsland s i).sec.fuse = s.sec.fuse := by
  simp [State.releaseIsland, apply_ite State.sec, apply_ite SecS.fuse]
@[simp] theorem State.islRelease_fuse (s : State) (i : Nat) : (State.islRelease s i).sec.fuse = s.sec.fuse := by
  unfold State.islRelease; grind [→ State.expire_fuse_of, State.releaseIsland_fuse]
@[simp] theorem State.resyncToken_fuse (s : State) (i : Nat) : (State.resyncToken s i).sec.fuse = s.sec.fuse := by
  simp [State.resyncToken, apply_ite State.sec, apply_ite SecS.fuse]
@[simp] theorem State.handshakeEnd_fuse (s : State) (a : Nat) (b : Nat) :
    (State.handshakeEnd s a b).sec.fuse = s.sec.fuse := by
  simp [State.handshakeEnd, apply_ite State.sec, apply_ite SecS.fuse]
@[simp] theorem State.clockStop_fuse (s : State) (i : Nat) : (State.clockStop s i).sec.fuse = s.sec.fuse := by
  simp [State.clockStop, apply_ite State.sec, apply_ite SecS.fuse]
@[simp] theorem State.clockResume_fuse (s : State) (i : Nat) : (State.clockResume s i).sec.fuse = s.sec.fuse := by
  simp [State.clockResume, apply_ite State.sec, apply_ite SecS.fuse]
@[simp] theorem State.powerDown_fuse (s : State) (i : Nat) : (State.powerDown s i).sec.fuse = s.sec.fuse := by
  simp [State.powerDown, apply_ite State.sec, apply_ite SecS.fuse]
@[simp] theorem State.powerMask_fuse (s : State) (m : Nat) : (State.powerMask s m).sec.fuse = s.sec.fuse := by
  simp [State.powerMask, apply_ite State.sec, apply_ite SecS.fuse]
@[simp] theorem State.powerUp_fuse (s : State) (i : Nat) : (State.powerUp s i).sec.fuse = s.sec.fuse := by
  unfold State.powerUp; grind [→ State.expire_fuse_of, State.loadProfile_fuse, State.wr_fuse, State.releaseIsland_fuse]
@[simp] theorem State.pwrAfterPark_fuse (s : State) : (State.pwrAfterPark s).sec.fuse = s.sec.fuse := by
  simp [State.pwrAfterPark, apply_ite State.sec, apply_ite SecS.fuse]
@[simp] theorem State.putStraps_fuse (s : State) (st : Straps) : (State.putStraps s st).sec.fuse = s.sec.fuse := by
  simp [State.putStraps]
@[simp] theorem State.startOver_fuse (s : State) (kind : ResetKind) : (State.startOver s kind).sec.fuse = s.sec.fuse := by
  simp [State.startOver]
@[simp] theorem State.chipReset_fuse (s : State) (kind : ResetKind) : (State.chipReset s kind).sec.fuse = s.sec.fuse := by
  simp only [State.chipReset, State.expire]; (repeat' split) <;> simp_all [apply_ite State.sec, apply_ite SecS.fuse]
@[simp] theorem State.powerOn_fuse (s : State) (st : Straps) : (State.powerOn s st).sec.fuse = s.sec.fuse := by
  unfold State.powerOn
  extract_lets s1 _ _ _ _ r1 r2
  have h1 : s1.sec.fuse = s.sec.fuse := by simp [s1]
  have h2 : r2.sec.fuse = s1.sec.fuse := by simp [r2]; rfl
  clear_value s1 r2
  simp [h1, h2]
@[simp] theorem State.powerOnEvent_fuse (s : State) (st : Straps) : (State.powerOnEvent s st).sec.fuse = s.sec.fuse := by
  simp [State.powerOnEvent, apply_ite State.sec, apply_ite SecS.fuse]
@[simp] theorem State.hold_fuse (s : State) : (State.hold s).sec.fuse = s.sec.fuse := by
  simp [State.hold]
@[simp] theorem State.resetN_fuse (s : State) (low : Bool) (st : Straps) : (State.resetN s low st).sec.fuse = s.sec.fuse := by
  simp [State.resetN, apply_ite State.sec, apply_ite SecS.fuse]
@[simp] theorem State.railDrop_fuse (s : State) (r : Rail) : (State.railDrop s r).sec.fuse = s.sec.fuse := by
  unfold State.railDrop; (repeat' split) <;> simp_all [apply_ite State.sec, apply_ite SecS.fuse]
@[simp] theorem State.switchReset_fuse (s : State) : (State.switchReset s).sec.fuse = s.sec.fuse := by
  simp [State.switchReset]
@[simp] theorem State.enterSleep_fuse (s : State) : (State.enterSleep s).sec.fuse = s.sec.fuse := by
  simp [State.enterSleep, apply_ite State.sec, apply_ite SecS.fuse]
@[simp] theorem State.wakeFall_fuse (s : State) : (State.wakeFall s).sec.fuse = s.sec.fuse := by
  simp [State.wakeFall, apply_ite State.sec, apply_ite SecS.fuse]
@[simp] theorem State.wakeUp_fuse (s : State) : (State.wakeUp s).sec.fuse = s.sec.fuse := by
  simp [State.wakeUp]
@[simp] theorem State.wakeHigh_fuse (s : State) : (State.wakeHigh s).sec.fuse = s.sec.fuse := by
  simp [State.wakeHigh, apply_ite State.sec, apply_ite SecS.fuse]
@[simp] theorem State.wakeRise_fuse (s : State) : (State.wakeRise s).sec.fuse = s.sec.fuse := by
  simp [State.wakeRise, apply_ite State.sec, apply_ite SecS.fuse]
@[simp] theorem State.canWakeUp_fuse (s : State) (n : Nat) (f : Option CanFrame) :
    (State.canWakeUp s n f).sec.fuse = s.sec.fuse := by
  simp [State.canWakeUp, apply_ite State.sec, apply_ite SecS.fuse]

/-! ### ReactOps -/

@[simp] theorem State.reactionRecord_fuse (s : State) (src : Nat) (r : Nat) :
    (State.reactionRecord s src r).sec.fuse = s.sec.fuse := by
  simp [State.reactionRecord]
@[simp] theorem State.reactedOnly_fuse (s : State) (src : Nat) (counted : Bool) :
    (State.reactedOnly s src counted).sec.fuse = s.sec.fuse := by
  simp [State.reactedOnly, apply_ite State.sec, apply_ite SecS.fuse]
@[simp] theorem State.reactTaken_fuse (s : State) (srcs : List Nat) (r : Nat) :
    (State.reactTaken s srcs r).sec.fuse = s.sec.fuse := by
  unfold State.reactTaken; split <;> simp [apply_ite State.sec, apply_ite SecS.fuse]
@[simp] theorem State.reactSafe_fuse (s : State) (srcs : List Nat) : (State.reactSafe s srcs).sec.fuse = s.sec.fuse := by
  simp [State.reactSafe]
@[simp] theorem State.holdReaction_fuse (s : State) (srcs : List Nat) :
    (State.holdReaction s srcs).sec.fuse = s.sec.fuse := by
  simp [State.holdReaction]
@[simp] theorem State.reactAsSafe_fuse (s : State) (srcs : List Nat) : (State.reactAsSafe s srcs).sec.fuse = s.sec.fuse := by
  simp [State.reactAsSafe, apply_ite State.sec, apply_ite SecS.fuse]
@[simp] theorem State.reactIsland_fuse (s : State) (srcs : List Nat) : (State.reactIsland s srcs).sec.fuse = s.sec.fuse := by
  simp [State.reactIsland, apply_ite State.sec, apply_ite SecS.fuse]
@[simp] theorem State.reactHandover_fuse (s : State) (srcs : List Nat) :
    (State.reactHandover s srcs).sec.fuse = s.sec.fuse := by
  simp [State.reactHandover, apply_ite State.sec, apply_ite SecS.fuse]
@[simp] theorem State.reactChip_fuse (s : State) (srcs : List Nat) : (State.reactChip s srcs).sec.fuse = s.sec.fuse := by
  simp [State.reactChip]
@[simp] theorem State.reactBy_fuse (s : State) (r : Nat) (srcs : List Nat) :
    (State.reactBy s r srcs).sec.fuse = s.sec.fuse := by
  simp [State.reactBy, apply_ite State.sec, apply_ite SecS.fuse]
@[simp] theorem State.takeDue_fuse (s : State) : (State.takeDue s).sec.fuse = s.sec.fuse := by
  simp [State.takeDue, apply_ite State.sec, apply_ite SecS.fuse]
@[simp] theorem State.settle_fuse (s : State) : (State.settle s).sec.fuse = s.sec.fuse := by
  simp [State.settle, apply_ite State.sec, apply_ite SecS.fuse]
@[simp] theorem State.graceExpire_fuse (s : State) (src : Nat) : (State.graceExpire s src).sec.fuse = s.sec.fuse := by
  unfold State.graceExpire; grind [→ State.expire_fuse_of, State.put_fuse]
@[simp] theorem State.reactionComplete_fuse (s : State) : (State.reactionComplete s).sec.fuse = s.sec.fuse := by
  unfold State.reactionComplete; split <;> simp [apply_ite State.sec, apply_ite SecS.fuse]
@[simp] theorem State.clearInst_fuse (s : State) (src : Nat) (keep : BitVec 64) :
    (State.clearInst s src keep).sec.fuse = s.sec.fuse := by
  simp [State.clearInst]
@[simp] theorem State.faultAck_fuse (s : State) (src : Nat) (clear : Bool) :
    (State.faultAck s src clear).sec.fuse = s.sec.fuse := by
  unfold State.faultAck; grind [State.settle_fuse, State.graceExpire_fuse, State.clearInst_fuse, State.disarm_fuse, State.put_fuse, State.faultRecord_fuse, State.faultEvent_fuse, State.updateAlive_fuse]
@[simp] theorem State.collectorCheck_fuse (s : State) : (State.collectorCheck s).sec.fuse = s.sec.fuse := by
  simp [State.collectorCheck, apply_ite State.sec, apply_ite SecS.fuse]
@[simp] theorem State.fltInject_fuse (s : State) : (State.fltInject s).sec.fuse = s.sec.fuse := by
  simp [State.fltInject]
@[simp] theorem State.pulseEnd_fuse (s : State) : (State.pulseEnd s).sec.fuse = s.sec.fuse := by
  unfold State.pulseEnd; grind [→ State.expire_fuse_of, State.arm_fuse, State.faultPulse_fuse]
@[simp] theorem State.aliveToggle_fuse (s : State) : (State.aliveToggle s).sec.fuse = s.sec.fuse := by
  unfold State.aliveToggle; grind [→ State.expire_fuse_of, State.arm_fuse, State.updateAlive_fuse]
@[simp] theorem State.upset_fuse (s : State) (src : Nat) (inst : Nat) (place : Nat) (bits : Nat) :
    (State.upset s src inst place bits).sec.fuse = s.sec.fuse := by
  simp [State.upset, apply_ite State.sec, apply_ite SecS.fuse]
@[simp] theorem State.sourceRaise_fuse (s : State) (src : Nat) (inst : Nat) (e : Edge) :
    (State.sourceRaise s src inst e).sec.fuse = s.sec.fuse := by
  unfold State.sourceRaise; (repeat' split) <;> simp_all [apply_ite State.sec, apply_ite SecS.fuse]

/-! ### MgtOps -/

@[simp] theorem State.lockstep_fuse (s : State) (g : Nat) : (State.lockstep s g).sec.fuse = s.sec.fuse := by
  simp [State.lockstep, apply_ite State.sec, apply_ite SecS.fuse]
@[simp] theorem State.localWdg_fuse (s : State) : (State.localWdg s).sec.fuse = s.sec.fuse := by
  simp [State.localWdg, apply_ite State.sec, apply_ite SecS.fuse]
@[simp] theorem State.tempLimit_fuse (s : State) (k : Nat) (src : Nat) (limit : Nat) (crit : Bool) :
    (State.tempLimit s k src limit crit).sec.fuse = s.sec.fuse := by
  simp only [State.tempLimit, State.expire]; (repeat' split) <;> simp_all [apply_ite State.sec, apply_ite SecS.fuse]
@[simp] theorem State.tempCheck_fuse (s : State) (k : Nat) : (State.tempCheck s k).sec.fuse = s.sec.fuse := by
  simp [State.tempCheck]
@[simp] theorem State.sensorRead_fuse (s : State) (r : Sensor) : (State.sensorRead s r).sec.fuse = s.sec.fuse := by
  unfold State.sensorRead; (repeat' split) <;> simp_all [apply_ite State.sec, apply_ite SecS.fuse]
@[simp] theorem State.logMirror_fuse (s : State) : (State.logMirror s).sec.fuse = s.sec.fuse := by
  simp [State.logMirror, apply_ite State.sec, apply_ite SecS.fuse]
@[simp] theorem State.wdgReset_fuse (s : State) (pending : Option Nat) :
    (State.wdgReset s pending).sec.fuse = s.sec.fuse := by
  simp [State.wdgReset]
@[simp] theorem State.kick_fuse (s : State) (v : Nat) : (State.kick s v).sec.fuse = s.sec.fuse := by
  simp [State.kick, apply_ite State.sec, apply_ite SecS.fuse]
@[simp] theorem State.wdgExpire_fuse (s : State) (pending : Option Nat) :
    (State.wdgExpire s pending).sec.fuse = s.sec.fuse := by
  unfold State.wdgExpire; grind [→ State.expire_fuse_of, State.wdgReset_fuse]
@[simp] theorem State.sramScrub_fuse (s : State) (found : EccResult) (core : Bool) :
    (State.sramScrub s found core).sec.fuse = s.sec.fuse := by
  unfold State.sramScrub; (repeat' split) <;> simp_all [apply_ite State.sec, apply_ite SecS.fuse]

/-! ### BootOps -/

@[simp] theorem State.setSlot_fuse (s : State) (t : Nat) (x : Slot) : (State.setSlot s t x).sec.fuse = s.sec.fuse := by
  simp [State.setSlot]
@[simp] theorem State.logUpdate_fuse (s : State) (op : Nat) (slot : Nat) (status : Status) :
    (State.logUpdate s op slot status).sec.fuse = s.sec.fuse := by
  simp [State.logUpdate]
@[simp] theorem State.setSlotState_fuse (s : State) (t : Nat) (st : Nat) (op : Nat) (status : Status) :
    (State.setSlotState s t st op status).sec.fuse = s.sec.fuse := by
  simp [State.setSlotState]
@[simp] theorem State.revokeOld_fuse (s : State) (t : Nat) : (State.revokeOld s t).sec.fuse = s.sec.fuse := by
  simp [State.revokeOld, apply_ite State.sec, apply_ite SecS.fuse]
@[simp] theorem State.chooseSlot_fuse (s : State) : ((State.chooseSlot s).1).sec.fuse = s.sec.fuse := by
  unfold State.chooseSlot; (repeat' split) <;> simp_all [apply_ite State.sec, apply_ite SecS.fuse]
theorem State.chooseSlot_fuse_of (s : State) {sx : State} {qx : Option Nat} (h : State.chooseSlot s = (sx, qx)) : sx.sec.fuse = s.sec.fuse := by
  have e := State.chooseSlot_fuse s
  rw [h] at e
  exact e
@[simp] theorem State.setMarks_fuse (s : State) (n : Nat) (m : Marks) : (State.setMarks s n m).sec.fuse = s.sec.fuse := by
  simp [State.setMarks]
@[simp] theorem State.enterRecovery_fuse (s : State) (chosen : Nat) :
    (State.enterRecovery s chosen).sec.fuse = s.sec.fuse := by
  simp [State.enterRecovery]
@[simp] theorem State.profileLoaded_fuse (s : State) (p : Nat) (defaults : Bool) :
    (State.profileLoaded s p defaults).sec.fuse = s.sec.fuse := by
  simp [State.profileLoaded]
@[simp] theorem State.endOfBoot_fuse (s : State) (forceSafe : Bool) :
    (State.endOfBoot s forceSafe).sec.fuse = s.sec.fuse := by
  simp [State.endOfBoot, apply_ite State.sec, apply_ite SecS.fuse]
@[simp] theorem State.splitDecision_fuse (s : State) : (State.splitDecision s).sec.fuse = s.sec.fuse := by
  simp [State.splitDecision, apply_ite State.sec, apply_ite SecS.fuse]
@[simp] theorem State.logLastLife_fuse (s : State) : (State.logLastLife s).sec.fuse = s.sec.fuse := by
  simp [State.logLastLife, apply_ite State.sec, apply_ite SecS.fuse]
@[simp] theorem State.logStepRecs_fuse (s : State) : (State.logStepRecs s).sec.fuse = s.sec.fuse := by
  simp [State.logStepRecs]
@[simp] theorem State.lanesFollow_fuse (s : State) : (State.lanesFollow s).sec.fuse = s.sec.fuse := by
  simp [State.lanesFollow, apply_ite State.sec, apply_ite SecS.fuse]
@[simp] theorem State.stepBegin_fuse (s : State) (n : Nat) (alt : Bool) :
    (State.stepBegin s n alt).sec.fuse = s.sec.fuse := by
  simp [State.stepBegin, apply_ite State.sec, apply_ite SecS.fuse]
@[simp] theorem State.stepFailNote_fuse (s : State) (n : Nat) (c : Nat) (act : Nat) :
    (State.stepFailNote s n c act).sec.fuse = s.sec.fuse := by
  simp [State.stepFailNote, apply_ite State.sec, apply_ite SecS.fuse]
@[simp] theorem State.skipB14_fuse (s : State) : (State.skipB14 s).sec.fuse = s.sec.fuse := by
  simp [State.skipB14]
@[simp] theorem State.reachStep_fuse (x0 : Nat) (x1 : Nat) (x2 : State) :
    (State.reachStep x0 x1 x2).sec.fuse = x2.sec.fuse := by
  (induction x0 generalizing x1 x2) <;> (unfold State.reachStep; grind [State.stepFailNote_fuse, State.profileLoaded_fuse, State.stepBegin_fuse, State.enterRecovery_fuse, State.setMarks_fuse, State.endOfBoot_fuse, State.skipB14_fuse])
@[simp] theorem State.stepFailed_fuse (s : State) (n : Nat) : (State.stepFailed s n).sec.fuse = s.sec.fuse := by
  simp [State.stepFailed, apply_ite State.sec, apply_ite SecS.fuse]
@[simp] theorem State.drawChallenge_fuse (s : State) : (State.drawChallenge s).sec.fuse = s.sec.fuse := by
  simp [State.drawChallenge]
@[simp] theorem State.bootStart_fuse (s : State) : (State.bootStart s).sec.fuse = s.sec.fuse := by
  simp [State.bootStart, apply_ite State.sec, apply_ite SecS.fuse]

/-! ### CmdOps -/

@[simp] theorem State.auditRefusal_fuse (s : State) (denied : Bool) (f : Frame) (st : Status) (data : List Word) :
    (State.auditRefusal s denied f st data).sec.fuse = s.sec.fuse := by
  unfold State.auditRefusal; grind [State.log_fuse]
@[simp] theorem State.noteAuthFail_fuse (s : State) (f : Frame) : (State.noteAuthFail s f).sec.fuse = s.sec.fuse := by
  simp [State.noteAuthFail, apply_ite State.sec, apply_ite SecS.fuse]
@[simp] theorem State.noteRefusal_fuse (s : State) (f : Frame) (st : Status) (step5 : Bool) :
    (State.noteRefusal s f st step5).sec.fuse = s.sec.fuse := by
  simp [State.noteRefusal, apply_ite State.sec, apply_ite SecS.fuse]
@[simp] theorem State.auditCmd_fuse (s : State) (f : Frame) (st : Status) :
    (State.auditCmd s f st).sec.fuse = s.sec.fuse := by
  unfold State.auditCmd; split <;> simp [apply_ite State.sec, apply_ite SecS.fuse]
@[simp] theorem State.romSend_fuse (s : State) (f : Frame) : (State.romSend s f).sec.fuse = s.sec.fuse := by
  unfold State.romSend; grind [→ State.takeSeq_fuse_of, → State.sealFrame_fuse_of, State.spendSessions_fuse, State.bump_fuse, State.rxWrite_fuse, State.transmit_fuse]
@[simp] theorem State.sendOwn_fuse (s : State) (f : Frame) : (State.sendOwn s f).sec.fuse = s.sec.fuse := by
  simp [State.sendOwn, apply_ite State.sec, apply_ite SecS.fuse]
@[simp] theorem State.romFlush_fuse (s : State) : (State.romFlush s).sec.fuse = s.sec.fuse := by
  simp [State.romFlush, apply_ite State.sec, apply_ite SecS.fuse]
@[simp] theorem State.cachePut_fuse (s : State) (f : Frame) (reply : Frame) :
    (State.cachePut s f reply).sec.fuse = s.sec.fuse := by
  simp [State.cachePut, apply_ite State.sec, apply_ite SecS.fuse]
@[simp] theorem State.unserve_fuse (s : State) (c : Cmd) : (State.unserve s c).sec.fuse = s.sec.fuse := by
  simp [State.unserve]
@[simp] theorem State.putSlot_fuse (s : State) (ring : Nat) (tail : Nat) (f : Frame) :
    (State.putSlot s ring tail f).sec.fuse = s.sec.fuse := by
  simp [State.putSlot]
@[simp] theorem State.respond_fuse (s : State) (f : Frame) : (State.respond s f).sec.fuse = s.sec.fuse := by
  simp [State.respond]
@[simp] theorem State.reply_fuse (s : State) (c : Cmd) (ordered : Bool) (a : Answer) :
    (State.reply s c ordered a).sec.fuse = s.sec.fuse := by
  simp [State.reply, apply_ite State.sec, apply_ite SecS.fuse]
@[simp] theorem State.answer_fuse (s : State) (c : Cmd) (ordered : Bool) (a : Answer) :
    (State.answer s c ordered a).sec.fuse = s.sec.fuse := by
  simp [State.answer, apply_ite State.sec, apply_ite SecS.fuse]
@[simp] theorem State.release_fuse (s : State) (c : Cmd) (r : Option Frame) :
    (State.release s c r).sec.fuse = s.sec.fuse := by
  simp [State.release, apply_ite State.sec, apply_ite SecS.fuse]
@[simp] theorem State.finish_fuse (s : State) (c : Cmd) (ordered : Bool) (a : Answer) :
    (State.finish s c ordered a).sec.fuse = s.sec.fuse := by
  unfold State.finish; (repeat' split) <;> simp_all [apply_ite State.sec, apply_ite SecS.fuse]
@[simp] theorem State.complete_fuse (s : State) (c : Cmd) (st : Status) (payload : List Word) :
    (State.complete s c st payload).sec.fuse = s.sec.fuse := by
  simp [State.complete, apply_ite State.sec, apply_ite SecS.fuse]
@[simp] theorem State.setSession_fuse (s : State) (x : Session) : (State.setSession s x).sec.fuse = s.sec.fuse := by
  simp [State.setSession]
@[simp] theorem State.dropVerify_fuse (s : State) : (State.dropVerify s).sec.fuse = s.sec.fuse := by
  unfold State.dropVerify; split <;> simp [apply_ite State.sec, apply_ite SecS.fuse]
@[simp] theorem State.abandonUpdate_fuse (s : State) (n : BitVec 16) : (State.abandonUpdate s n).sec.fuse = s.sec.fuse := by
  simp [State.abandonUpdate, apply_ite State.sec, apply_ite SecS.fuse]
@[simp] theorem State.dropSessions_fuse (s : State) (p : Session → Bool) :
    (State.dropSessions s p).sec.fuse = s.sec.fuse := by
  simp [State.dropSessions]
@[simp] theorem State.closeSession_fuse (s : State) (n : BitVec 16) (cause : Nat) :
    (State.closeSession s n cause).sec.fuse = s.sec.fuse := by
  unfold State.closeSession; split <;> simp [apply_ite State.sec, apply_ite SecS.fuse]
@[simp] theorem State.armIdle_fuse (s : State) (n : BitVec 16) : (State.armIdle s n).sec.fuse = s.sec.fuse := by
  simp [State.armIdle, apply_ite State.sec, apply_ite SecS.fuse]
@[simp] theorem State.touchSession_fuse (s : State) (n : BitVec 16) : (State.touchSession s n).sec.fuse = s.sec.fuse := by
  unfold State.touchSession; split <;> simp [apply_ite State.sec, apply_ite SecS.fuse]
@[simp] theorem State.freeSession_fuse (s : State) : ((State.freeSession s).2).sec.fuse = s.sec.fuse := by
  simp [State.freeSession]
theorem State.freeSession_fuse_of (s : State) {sx : BitVec 16} {qx : State} (h : State.freeSession s = (sx, qx)) : qx.sec.fuse = s.sec.fuse := by
  have e := State.freeSession_fuse s
  rw [h] at e
  exact e
@[simp] theorem State.openSession_fuse (s : State) (f : Frame) (x : KeyExchange) :
    ((State.openSession s f x).1).sec.fuse = s.sec.fuse := by
  unfold State.openSession; grind [→ State.freeSession_fuse_of, → State.freshWords_fuse_of, State.armIdle_fuse, State.arm_fuse, State.log_fuse, State.disarmAll_fuse, State.setSession_fuse, State.sessionOrder_fuse]
theorem State.openSession_fuse_of (s : State) (f : Frame) (x : KeyExchange) {sx : State} {qx : Answer} (h : State.openSession s f x = (sx, qx)) : sx.sec.fuse = s.sec.fuse := by
  have e := State.openSession_fuse s f x
  rw [h] at e
  exact e
@[simp] theorem State.sessIdle_fuse (s : State) (n : BitVec 16) : (State.sessIdle s n).sec.fuse = s.sec.fuse := by
  unfold State.sessIdle; grind [→ State.expire_fuse_of, State.closeSession_fuse]
@[simp] theorem State.sessUnused_fuse (s : State) (n : BitVec 16) : (State.sessUnused s n).sec.fuse = s.sec.fuse := by
  unfold State.sessUnused; grind [→ State.expire_fuse_of, State.closeSession_fuse]
@[simp] theorem State.sessSpent_fuse (s : State) (n : BitVec 16) : (State.sessSpent s n).sec.fuse = s.sec.fuse := by
  unfold State.sessSpent; grind [→ State.expire_fuse_of, State.closeSession_fuse]
@[simp] theorem State.sessionOpened_fuse (s : State) (n : BitVec 16) : (State.sessionOpened s n).sec.fuse = s.sec.fuse := by
  simp [State.sessionOpened, apply_ite State.sec, apply_ite SecS.fuse]
@[simp] theorem State.sessionClosing_fuse (s : State) (n : BitVec 16) : (State.sessionClosing s n).sec.fuse = s.sec.fuse := by
  unfold State.sessionClosing; split <;> simp [apply_ite State.sec, apply_ite SecS.fuse]
@[simp] theorem State.rekeyClose_fuse (s : State) (n : BitVec 16) : (State.rekeyClose s n).sec.fuse = s.sec.fuse := by
  simp [State.rekeyClose, apply_ite State.sec, apply_ite SecS.fuse]

/-! ### SecOps -/

@[simp] theorem State.ownerStart_fuse (s : State) (w : Word) : (State.ownerStart s w).sec.fuse = s.sec.fuse := by
  unfold State.ownerStart
  split <;> rfl
@[simp] theorem State.unlockStart_fuse (s : State) (k : Nat) : (State.unlockStart s k).sec.fuse = s.sec.fuse :=
  (State.raise_fuse _ _ (s := { s with sec := { s.sec with unlock := some k } })).trans rfl
@[simp] theorem State.unlockDone_fuse (s : State) (tokenOk : Bool) : (State.unlockDone s tokenOk).sec.fuse = s.sec.fuse := by
  unfold State.unlockDone
  split
  · rfl
  · rename_i k _
    extract_lets ok src s1 n s2 s3
    have h1 : s1.sec.fuse = s.sec.fuse := rfl
    have h2 : s3.sec.fuse = s.sec.fuse := by simp [s3, s2, h1, apply_ite State.sec, apply_ite SecS.fuse]
    simp [h2]
@[simp] theorem State.tapLoad_fuse (s : State) (i : TapInstr) : (State.tapLoad s i).sec.fuse = s.sec.fuse := by
  simp [State.tapLoad, SecS.fuse]

/-! ### UpdateOps -/

@[simp] theorem State.openTarget_fuse (s : State) (h : ImgHead) : (State.openTarget s h).sec.fuse = s.sec.fuse := by
  simp [State.openTarget, apply_ite State.sec, apply_ite SecS.fuse]
@[simp] theorem State.updateBegin_fuse (s : State) (f : Frame) : ((State.updateBegin s f).1).sec.fuse = s.sec.fuse := by
  unfold State.updateBegin; grind [State.openTarget_fuse, State.disarm_fuse]
theorem State.updateBegin_fuse_of (s : State) (f : Frame) {sx : State} {qx : Status × Word} (h : State.updateBegin s f = (sx, qx)) : sx.sec.fuse = s.sec.fuse := by
  have e := State.updateBegin_fuse s f
  rw [h] at e
  exact e
@[simp] theorem State.setUpdTarget_fuse (s : State) (u : Update) (x : Slot) :
    (State.setUpdTarget s u x).sec.fuse = s.sec.fuse := by
  simp [State.setUpdTarget, apply_ite State.sec, apply_ite SecS.fuse]
@[simp] theorem State.setUpdate_fuse (s : State) (u : Update) : (State.setUpdate s u).sec.fuse = s.sec.fuse := by
  simp [State.setUpdate]
@[simp] theorem State.updateBlock_fuse (s : State) (f : Frame) (readOk : Bool) :
    ((State.updateBlock s f readOk).1).sec.fuse = s.sec.fuse := by
  unfold State.updateBlock; grind [State.setUpdTarget_fuse, → State.freshWords_fuse_of]
theorem State.updateBlock_fuse_of (s : State) (f : Frame) (readOk : Bool) {sx : State} {qx : Status} (h : State.updateBlock s f readOk = (sx, qx)) : sx.sec.fuse = s.sec.fuse := by
  have e := State.updateBlock_fuse s f readOk
  rw [h] at e
  exact e
@[simp] theorem State.eraseDone_fuse (s : State) : (State.eraseDone s).sec.fuse = s.sec.fuse := by
  unfold State.eraseDone; split <;> simp [apply_ite State.sec, apply_ite SecS.fuse]
@[simp] theorem State.verifyStart_fuse (s : State) (u : Update) (c : Option Cmd) :
    (State.verifyStart s u c).sec.fuse = s.sec.fuse := by
  simp [State.verifyStart, apply_ite State.sec, apply_ite SecS.fuse]
@[simp] theorem State.verified_fuse (s : State) (u : Update) (r : VerifyResult) :
    (State.verified s u r).sec.fuse = s.sec.fuse := by
  simp [State.verified]
@[simp] theorem State.profileOf_fuse (s : State) (x : Slot) : ((State.profileOf s x).1).sec.fuse = s.sec.fuse := by
  simp [State.profileOf]
theorem State.profileOf_fuse_of (s : State) (x : Slot) {sx : State} {qx : Profile} (h : State.profileOf s x = (sx, qx)) : sx.sec.fuse = s.sec.fuse := by
  have e := State.profileOf_fuse s x
  rw [h] at e
  exact e
@[simp] theorem State.storeDone_fuse (s : State) : (State.storeDone s).sec.fuse = s.sec.fuse := by
  unfold State.storeDone; split <;> simp [apply_ite State.sec, apply_ite SecS.fuse]
@[simp] theorem State.activateSlot_fuse (s : State) (t : Nat) : (State.activateSlot s t).sec.fuse = s.sec.fuse := by
  simp [State.activateSlot]
@[simp] theorem State.updateActivate_fuse (s : State) (session : BitVec 16) :
    ((State.updateActivate s session).1).sec.fuse = s.sec.fuse := by
  unfold State.updateActivate; grind [State.activateSlot_fuse, → State.profileOf_fuse_of]
theorem State.updateActivate_fuse_of (s : State) (session : BitVec 16) {sx : State} {qx : Status} (h : State.updateActivate s session = (sx, qx)) : sx.sec.fuse = s.sec.fuse := by
  have e := State.updateActivate_fuse s session
  rw [h] at e
  exact e
@[simp] theorem State.updateAbort_fuse (s : State) (session : BitVec 16) :
    ((State.updateAbort s session).1).sec.fuse = s.sec.fuse := by
  unfold State.updateAbort; (repeat' split) <;> simp_all [apply_ite State.sec, apply_ite SecS.fuse]
theorem State.updateAbort_fuse_of (s : State) (session : BitVec 16) {sx : State} {qx : Status} (h : State.updateAbort s session = (sx, qx)) : sx.sec.fuse = s.sec.fuse := by
  have e := State.updateAbort_fuse s session
  rw [h] at e
  exact e
@[simp] theorem State.relaySend_fuse (s : State) (l : Nat) (ws : List Word) :
    (State.relaySend s l ws).sec.fuse = s.sec.fuse := by
  simp [State.relaySend, apply_ite State.sec, apply_ite SecS.fuse]
@[simp] theorem State.relayReq_fuse (s : State) (p : Pull) (off : Nat) (n : Nat) :
    (State.relayReq s p off n).sec.fuse = s.sec.fuse := by
  simp [State.relayReq]
@[simp] theorem State.setPull_fuse (s : State) (p : Option Pull) : (State.setPull s p).sec.fuse = s.sec.fuse := by
  simp [State.setPull]
@[simp] theorem State.startPull_fuse (s : State) (p : Pull) : (State.startPull s p).sec.fuse = s.sec.fuse := by
  simp [State.startPull]
@[simp] theorem State.romPull_fuse (s : State) (lanes : List Nat) : (State.romPull s lanes).sec.fuse = s.sec.fuse := by
  unfold State.romPull; split <;> simp [apply_ite State.sec, apply_ite SecS.fuse]
@[simp] theorem State.pullEnd_fuse (s : State) (p : Pull) (st : Status) : (State.pullEnd s p st).sec.fuse = s.sec.fuse := by
  unfold State.pullEnd; split <;> simp [apply_ite State.sec, apply_ite SecS.fuse]
@[simp] theorem State.updateRelay_fuse (s : State) (c : Cmd) : ((State.updateRelay s c).1).sec.fuse = s.sec.fuse := by
  unfold State.updateRelay; grind [State.startPull_fuse]
theorem State.updateRelay_fuse_of (s : State) (c : Cmd) {sx : State} {qx : Status} (h : State.updateRelay s c = (sx, qx)) : sx.sec.fuse = s.sec.fuse := by
  have e := State.updateRelay_fuse s c
  rw [h] at e
  exact e
@[simp] theorem State.pullHeader_fuse (s : State) (p : Pull) (ws : List Word) (body : List Word) :
    (State.pullHeader s p ws body).sec.fuse = s.sec.fuse := by
  simp [State.pullHeader, apply_ite State.sec, apply_ite SecS.fuse]
@[simp] theorem State.pullNext_fuse (s : State) (p : Pull) : (State.pullNext s p).sec.fuse = s.sec.fuse := by
  simp [State.pullNext, apply_ite State.sec, apply_ite SecS.fuse]
@[simp] theorem State.pullErased_fuse (s : State) : (State.pullErased s).sec.fuse = s.sec.fuse := by
  unfold State.pullErased; split <;> simp [apply_ite State.sec, apply_ite SecS.fuse]
@[simp] theorem State.relayData_fuse (s : State) (l : Nat) (ws : List Word) (good : Bool) :
    (State.relayData s l ws good).sec.fuse = s.sec.fuse := by
  unfold State.relayData; (repeat' split) <;> simp_all [apply_ite State.sec, apply_ite SecS.fuse]
@[simp] theorem State.relayRefuse_fuse (s : State) (l : Nat) (ws : List Word) :
    (State.relayRefuse s l ws).sec.fuse = s.sec.fuse := by
  unfold State.relayRefuse; grind [State.bump_fuse, State.pullEnd_fuse, → State.freeIn_fuse_of]
@[simp] theorem State.relayWindowEnd_fuse (s : State) : (State.relayWindowEnd s).sec.fuse = s.sec.fuse := by
  unfold State.relayWindowEnd; grind [→ State.expire_fuse_of, State.relayReq_fuse]
@[simp] theorem State.relayNoProgress_fuse (s : State) : (State.relayNoProgress s).sec.fuse = s.sec.fuse := by
  unfold State.relayNoProgress; grind [→ State.expire_fuse_of, State.pullEnd_fuse]
@[simp] theorem State.verifyComplete_fuse (s : State) (r : VerifyResult) :
    (State.verifyComplete s r).sec.fuse = s.sec.fuse := by
  unfold State.verifyComplete; (repeat' split) <;> simp_all [apply_ite State.sec, apply_ite SecS.fuse]
@[simp] theorem State.relayServe_fuse (s : State) (l : Nat) (ws : List Word) :
    (State.relayServe s l ws).sec.fuse = s.sec.fuse := by
  simp [State.relayServe, apply_ite State.sec, apply_ite SecS.fuse]
@[simp] theorem State.chunkWords_fuse (s : State) (x : Slot) (off : Nat) (n : Nat) :
    ((State.chunkWords s x off n).2).sec.fuse = s.sec.fuse := by
  unfold State.chunkWords; split <;> simp [apply_ite State.sec, apply_ite SecS.fuse]
theorem State.chunkWords_fuse_of (s : State) (x : Slot) (off : Nat) (n : Nat) {sx : List Word} {qx : State} (h : State.chunkWords s x off n = (sx, qx)) : qx.sec.fuse = s.sec.fuse := by
  have e := State.chunkWords_fuse s x off n
  rw [h] at e
  exact e
@[simp] theorem State.relayDataSend_fuse (s : State) : (State.relayDataSend s).sec.fuse = s.sec.fuse := by
  unfold State.relayDataSend; grind [→ State.expire_fuse_of, → State.chunkWords_fuse_of, State.relaySend_fuse, State.arm_fuse]
@[simp] theorem State.recoveryPull_fuse (s : State) : (State.recoveryPull s).sec.fuse = s.sec.fuse := by
  unfold State.recoveryPull; grind [→ State.expire_fuse_of, State.romPull_fuse, State.arm_fuse]

/-! ### ReadOps -/

@[simp] theorem State.readMet_fuse (s : State) (x : Place) : (State.readMet s x).sec.fuse = s.sec.fuse := by
  unfold State.readMet
  split <;> simp

/-! ### WriteOps -/

@[simp] theorem State.freeDesc_fuse (s : State) : ((State.freeDesc s).2).sec.fuse = s.sec.fuse := by
  simp [State.freeDesc]
theorem State.freeDesc_fuse_of (s : State) {sx : TxDesc} {qx : State} (h : State.freeDesc s = (sx, qx)) : qx.sec.fuse = s.sec.fuse := by
  have e := State.freeDesc_fuse s
  rw [h] at e
  exact e
@[simp] theorem State.freeDescs_fuse (x0 : Nat) (x1 : State) : ((State.freeDescs x0 x1).2).sec.fuse = x1.sec.fuse := by
  induction x0 generalizing x1 <;> simp_all [State.freeDescs, apply_ite State.sec, apply_ite SecS.fuse]
theorem State.freeDescs_fuse_of (x0 : Nat) (x1 : State) {sx : List TxDesc} {qx : State} (h : State.freeDescs x0 x1 = (sx, qx)) : qx.sec.fuse = x1.sec.fuse := by
  have e := State.freeDescs_fuse x0 x1
  rw [h] at e
  exact e
@[simp] theorem State.freeBufs_fuse (x0 : Nat) (x1 : State) : ((State.freeBufs x0 x1).2).sec.fuse = x1.sec.fuse := by
  induction x0 generalizing x1 <;> simp_all [State.freeBufs, apply_ite State.sec, apply_ite SecS.fuse]
theorem State.freeBufs_fuse_of (x0 : Nat) (x1 : State) {sx : List RxDesc} {qx : State} (h : State.freeBufs x0 x1 = (sx, qx)) : qx.sec.fuse = x1.sec.fuse := by
  have e := State.freeBufs_fuse x0 x1
  rw [h] at e
  exact e
@[simp] theorem State.txTailReg_fuse (s : State) (tail : Nat) : (State.txTailReg s tail).sec.fuse = s.sec.fuse := by
  simp [State.txTailReg]
@[simp] theorem State.rxTailReg_fuse (s : State) (q : Nat) (tail : Nat) :
    (State.rxTailReg s q tail).sec.fuse = s.sec.fuse := by
  simp [State.rxTailReg]
@[simp] theorem State.txEnable_fuse (s : State) (was : Bool) : (State.txEnable s was).sec.fuse = s.sec.fuse := by
  simp [State.txEnable, apply_ite State.sec, apply_ite SecS.fuse]
@[simp] theorem State.rxEnable_fuse (s : State) (q : Nat) (was : Bool) : (State.rxEnable s q was).sec.fuse = s.sec.fuse := by
  simp [State.rxEnable, apply_ite State.sec, apply_ite SecS.fuse]
@[simp] theorem State.lnkCfgWritten_fuse (s : State) (l : Nat) (old : Word) :
    (State.lnkCfgWritten s l old).sec.fuse = s.sec.fuse := by
  simp [State.lnkCfgWritten, apply_ite State.sec, apply_ite SecS.fuse]
@[simp] theorem State.engCtlWritten_fuse (s : State) (n : Nat) (a : Word) :
    (State.engCtlWritten s n a).sec.fuse = s.sec.fuse := by
  simp [State.engCtlWritten, apply_ite State.sec, apply_ite SecS.fuse]
@[simp] theorem State.cluCtlWritten_fuse (s : State) (k : Nat) (a : Word) :
    (State.cluCtlWritten s k a).sec.fuse = s.sec.fuse := by
  simp [State.cluCtlWritten, apply_ite State.sec, apply_ite SecS.fuse]
@[simp] theorem State.pwrCfgWritten_fuse (s : State) (old : Word) : (State.pwrCfgWritten s old).sec.fuse = s.sec.fuse := by
  simp [State.pwrCfgWritten, apply_ite State.sec, apply_ite SecS.fuse]
@[simp] theorem State.pchCtlWritten_fuse (s : State) (c : Nat) (a : Word) :
    (State.pchCtlWritten s c a).sec.fuse = s.sec.fuse := by
  simp [State.pchCtlWritten, apply_ite State.sec, apply_ite SecS.fuse]
@[simp] theorem State.seccfgWritten_fuse (s : State) (old : Word) : (State.seccfgWritten s old).sec.fuse = s.sec.fuse := by
  simp [State.seccfgWritten, apply_ite State.sec, apply_ite SecS.fuse]
@[simp] theorem State.keySessWritten_fuse (s : State) (k : Nat) : (State.keySessWritten s k).sec.fuse = s.sec.fuse := by
  simp [State.keySessWritten, apply_ite State.sec, apply_ite SecS.fuse]
@[simp] theorem State.portEffect_fuse (s : State) (r : Reg) (i : Nat) (j : Nat) (old : Word) (a : Word) :
    (State.portEffect s r i j old a).sec.fuse = s.sec.fuse := by
  unfold State.portEffect; split <;> simp [apply_ite State.sec, apply_ite SecS.fuse]
@[simp] theorem State.shadowSound_fuse (s : State) (i : Nat) : (State.shadowSound s i).sec.fuse = s.sec.fuse := by
  simp [State.shadowSound]
@[simp] theorem State.capLowered_fuse (s : State) (old : Nat) : (State.capLowered s old).sec.fuse = s.sec.fuse := by
  simp [State.capLowered]
@[simp] theorem State.pairValidWritten_fuse (s : State) : (State.pairValidWritten s).sec.fuse = s.sec.fuse := by
  simp [State.pairValidWritten, apply_ite State.sec, apply_ite SecS.fuse]
@[simp] theorem State.coreEffect_fuse (s : State) (r : Reg) (i : Nat) (_j : Nat) (old : Word) (a : Word) :
    (State.coreEffect s r i _j old a).sec.fuse = s.sec.fuse := by
  unfold State.coreEffect; split <;> simp [apply_ite State.sec, apply_ite SecS.fuse]
@[simp] theorem State.writeReg_fuse (s : State) (priv : Bool) (r : Reg) (i : Nat) (j : Nat) (w : Word) :
    (State.writeReg s priv r i j w).sec.fuse = s.sec.fuse := by
  simp [State.writeReg, apply_ite State.sec, apply_ite SecS.fuse]
@[simp] theorem State.vatWrite_fuse (s : State) (b : Nat) (w : Word) : (State.vatWrite s b w).sec.fuse = s.sec.fuse := by
  simp [State.vatWrite]
@[simp] theorem State.vatSound_fuse (s : State) (w : Nat) : (State.vatSound s w).sec.fuse = s.sec.fuse := by
  simp [State.vatSound]
@[simp] theorem State.placeWrite_fuse (s : State) (priv : Bool) (p : Place) (w : Word) :
    ((State.placeWrite s priv p w).1).sec.fuse = s.sec.fuse := by
  unfold State.placeWrite; split <;> simp [apply_ite State.sec, apply_ite SecS.fuse]
theorem State.placeWrite_fuse_of (s : State) (priv : Bool) (p : Place) (w : Word) {sx : State} {qx : BitVec 21} (h : State.placeWrite s priv p w = (sx, qx)) : sx.sec.fuse = s.sec.fuse := by
  have e := State.placeWrite_fuse s priv p w
  rw [h] at e
  exact e
@[simp] theorem State.resetIslands_fuse (s : State) (m : BitVec 21) : (State.resetIslands s m).sec.fuse = s.sec.fuse := by
  simp [State.resetIslands, apply_ite State.sec, apply_ite SecS.fuse]
@[simp] theorem State.refuseWrite_fuse (s : State) (st : Status) (step5 : Bool) :
    (State.refuseWrite s st step5).sec.fuse = s.sec.fuse := by
  simp [State.refuseWrite, apply_ite State.sec, apply_ite SecS.fuse]
@[simp] theorem State.hostWrite_fuse (s : State) (priv : Bool) (off : Nat) (w : Word) :
    (State.hostWrite s priv off w).sec.fuse = s.sec.fuse := by
  unfold State.hostWrite; grind [State.refuseWrite_fuse, → State.placeWrite_fuse_of, State.resetIslands_fuse]
@[simp] theorem State.setReg_fuse (s : State) (r : Reg) (i : Nat) (j : Nat) (w : Word) :
    (State.setReg s r i j w).sec.fuse = s.sec.fuse := by
  simp [State.setReg]

/-! ### WindowOps -/

@[simp] theorem State.conclude_fuse (s : State) (c : Cmd) (a : Answer) : (State.conclude s c a).sec.fuse = s.sec.fuse := by
  unfold State.conclude; split <;> simp [apply_ite State.sec, apply_ite SecS.fuse]
@[simp] theorem State.auditWrite_fuse (s : State) (f : Frame) (count : Nat) (first : Word) (ordered : Bool) :
    (State.auditWrite s f count first ordered).sec.fuse = s.sec.fuse := by
  simp [State.auditWrite, apply_ite State.sec, apply_ite SecS.fuse]
@[simp] theorem State.setWin_fuse (s : State) (w : Nat) (x : WinS) : (State.setWin s w x).sec.fuse = s.sec.fuse := by
  simp [State.setWin]
@[simp] theorem State.sendBehind_fuse (s : State) (n : Nat) (item : List QWord) :
    (State.sendBehind s n item).sec.fuse = s.sec.fuse := by
  unfold State.sendBehind; grind [State.fillTxq_fuse, → State.unlink_fuse_of, State.setEng_fuse]
@[simp] theorem State.winEnter_fuse (s : State) (w : Nat) (r : WinReq) : (State.winEnter s w r).sec.fuse = s.sec.fuse := by
  simp [State.winEnter]
@[simp] theorem State.winTimer_fuse (s : State) (w : Nat) : (State.winTimer s w).sec.fuse = s.sec.fuse := by
  unfold State.winTimer; grind [State.disarm_fuse, State.arm_fuse]
@[simp] theorem State.winReply_fuse (s : State) (w : Nat) (r : WinReq) (a : Answer) :
    (State.winReply s w r a).sec.fuse = s.sec.fuse := by
  simp [State.winReply]
@[simp] theorem State.winNext_fuse (s : State) (w : Nat) (x2 : List WinReq) :
    (State.winNext s w x2).sec.fuse = s.sec.fuse := by
  induction x2 generalizing s w <;> simp_all [State.winNext, apply_ite State.sec, apply_ite SecS.fuse]
@[simp] theorem State.winEnd_fuse (s : State) (w : Nat) (r : WinReq) (a : Answer) :
    (State.winEnd s w r a).sec.fuse = s.sec.fuse := by
  simp [State.winEnd]
@[simp] theorem State.winRequest_fuse (s : State) (w : Nat) (r : WinReq) :
    (State.winRequest s w r).sec.fuse = s.sec.fuse := by
  simp [State.winRequest, apply_ite State.sec, apply_ite SecS.fuse]
@[simp] theorem State.windowAnswer_fuse (s : State) (w : Nat) : (State.windowAnswer s w).sec.fuse = s.sec.fuse := by
  unfold State.windowAnswer; grind [State.setWin_fuse, State.bump_fuse, State.auditWrite_fuse, State.winEnd_fuse]
@[simp] theorem State.windowTimeout_fuse (s : State) (w : Nat) : (State.windowTimeout s w).sec.fuse = s.sec.fuse := by
  unfold State.windowTimeout
  split
  · rfl
  · rename_i s1 h1
    have h1 := State.expire_fuse_of (h := h1)
    extract_lets out late s2 s3 s4
    have h3 : s4.sec.fuse = s.sec.fuse := by
      simp only [s4]
      refine (foldl_fuse _ (fun s r => by simp) _ _).trans ?_
      simp [s3, h1]
    clear_value s4
    split
    · split <;> simp [h3]
    · simp [h3]
@[simp] theorem State.winSweep_fuse (s : State) (w : Nat) : (State.winSweep s w).sec.fuse = s.sec.fuse := by
  unfold State.winSweep
  extract_lets x all s1 gone left
  split
  · rfl
  · split
    · have h1 : s1.sec.fuse = s.sec.fuse := by simp [s1]
      rw [← h1]
      exact foldl_fuse _ (fun s a => by simp) _ _
    · split <;> simp

/-! ### AccessOps -/

@[simp] theorem State.actWindow_fuse (s : State) (c : Cmd) (w : Nat) (o : Nat) (write : Bool) (n : Nat) (data : List Word) :
    ((State.actWindow s c w o write n data).1).sec.fuse = s.sec.fuse := by
  unfold State.actWindow; (repeat' split) <;> simp_all [apply_ite State.sec, apply_ite SecS.fuse]
theorem State.actWindow_fuse_of (s : State) (c : Cmd) (w : Nat) (o : Nat) (write : Bool) (n : Nat) (data : List Word) {sx : State} {qx : Answer} (h : State.actWindow s c w o write n data = (sx, qx)) : sx.sec.fuse = s.sec.fuse := by
  have e := State.actWindow_fuse s c w o write n data
  rw [h] at e
  exact e
@[simp] theorem State.actRead_fuse (s : State) (c : Cmd) : ((State.actRead s c).1).sec.fuse = s.sec.fuse := by
  simp only [State.actRead, State.expire]; (repeat' split) <;> simp_all [apply_ite State.sec, apply_ite SecS.fuse]
theorem State.actRead_fuse_of (s : State) (c : Cmd) {sx : State} {qx : Answer} (h : State.actRead s c = (sx, qx)) : sx.sec.fuse = s.sec.fuse := by
  have e := State.actRead_fuse s c
  rw [h] at e
  exact e
@[simp] theorem State.writeWords_fuse (s : State) (priv : Bool) (x : Option Session) (x3 : List (Place × Word)) :
    ((State.writeWords s priv x x3).1).sec.fuse = s.sec.fuse := by
  (induction x3 generalizing s priv x) <;> (unfold State.writeWords; grind [→ State.placeWrite_fuse_of])
theorem State.writeWords_fuse_of (s : State) (priv : Bool) (x : Option Session) (x3 : List (Place × Word)) {sx : State} {qx : BitVec 21 × Status} (h : State.writeWords s priv x x3 = (sx, qx)) : sx.sec.fuse = s.sec.fuse := by
  have e := State.writeWords_fuse s priv x x3
  rw [h] at e
  exact e
@[simp] theorem State.actWrites_fuse (s : State) (f : Frame) (ordered : Bool) (l : List (Place × Word)) (first : Word) (payload : List Word) :
    ((State.actWrites s f ordered l first payload).1).sec.fuse = s.sec.fuse := by
  simp only [State.actWrites, State.expire]; (repeat' split) <;> simp_all [apply_ite State.sec, apply_ite SecS.fuse]
theorem State.actWrites_fuse_of (s : State) (f : Frame) (ordered : Bool) (l : List (Place × Word)) (first : Word) (payload : List Word) {sx : State} {qx : Answer} (h : State.actWrites s f ordered l first payload = (sx, qx)) : sx.sec.fuse = s.sec.fuse := by
  have e := State.actWrites_fuse s f ordered l first payload
  rw [h] at e
  exact e
@[simp] theorem State.actWrite_fuse (s : State) (c : Cmd) (ordered : Bool) :
    ((State.actWrite s c ordered).1).sec.fuse = s.sec.fuse := by
  unfold State.actWrite; grind [→ State.actWindow_fuse_of, → State.actWrites_fuse_of]
theorem State.actWrite_fuse_of (s : State) (c : Cmd) (ordered : Bool) {sx : State} {qx : Answer} (h : State.actWrite s c ordered = (sx, qx)) : sx.sec.fuse = s.sec.fuse := by
  have e := State.actWrite_fuse s c ordered
  rw [h] at e
  exact e
@[simp] theorem State.actModify_fuse (s : State) (c : Cmd) (ordered : Bool) :
    ((State.actModify s c ordered).1).sec.fuse = s.sec.fuse := by
  unfold State.actModify; grind [State.readMet_fuse, → State.actWrites_fuse_of]
theorem State.actModify_fuse_of (s : State) (c : Cmd) (ordered : Bool) {sx : State} {qx : Answer} (h : State.actModify s c ordered = (sx, qx)) : sx.sec.fuse = s.sec.fuse := by
  have e := State.actModify_fuse s c ordered
  rw [h] at e
  exact e

/-! ### PortCmdOps -/

@[simp] theorem State.actPortSend_fuse (s : State) (f : Frame) : ((State.actPortSend s f).1).sec.fuse = s.sec.fuse := by
  simp only [State.actPortSend, State.expire]; (repeat' split) <;> simp_all [apply_ite State.sec, apply_ite SecS.fuse]
theorem State.actPortSend_fuse_of (s : State) (f : Frame) {sx : State} {qx : Answer} (h : State.actPortSend s f = (sx, qx)) : sx.sec.fuse = s.sec.fuse := by
  have e := State.actPortSend_fuse s f
  rw [h] at e
  exact e
@[simp] theorem State.tentative_fuse (s : State) (l : List (Reg × Nat × Nat × Word)) :
    (State.tentative s l).sec.fuse = s.sec.fuse := by
  simp [State.tentative]
@[simp] theorem State.recordWrite_fuse (s : State) (l : List (Reg × Nat × Nat × Word)) :
    (State.recordWrite s l).sec.fuse = s.sec.fuse := by
  simp [State.recordWrite, apply_ite State.sec, apply_ite SecS.fuse]
@[simp] theorem State.actPortConfig_fuse (s : State) (f : Frame) : ((State.actPortConfig s f).1).sec.fuse = s.sec.fuse := by
  unfold State.actPortConfig; grind [State.recordWrite_fuse]
theorem State.actPortConfig_fuse_of (s : State) (f : Frame) {sx : State} {qx : Answer} (h : State.actPortConfig s f = (sx, qx)) : sx.sec.fuse = s.sec.fuse := by
  have e := State.actPortConfig_fuse s f
  rw [h] at e
  exact e
@[simp] theorem State.flushPortTx_fuse (s : State) (p : Nat) : ((State.flushPortTx s p).1).sec.fuse = s.sec.fuse := by
  unfold State.flushPortTx; grind [→ State.endCut_fuse_of, → State.emptyPort_fuse_of, → State.macFlushTx_fuse_of, → State.canFlushTx_fuse_of, State.flushTx_fuse, State.setEng_fuse]
theorem State.flushPortTx_fuse_of (s : State) (p : Nat) {sx : State} {qx : Nat} (h : State.flushPortTx s p = (sx, qx)) : sx.sec.fuse = s.sec.fuse := by
  have e := State.flushPortTx_fuse s p
  rw [h] at e
  exact e
@[simp] theorem State.flushPortRx_fuse (s : State) (p : Nat) : (State.flushPortRx s p).sec.fuse = s.sec.fuse := by
  unfold State.flushPortRx; grind [State.macFlushRx_fuse, State.canFlushRx_fuse, State.flushRx_fuse, State.disarm_fuse, State.setEng_fuse, State.setWin_fuse]
@[simp] theorem State.actPortFlush_fuse (s : State) (f : Frame) : ((State.actPortFlush s f).1).sec.fuse = s.sec.fuse := by
  unfold State.actPortFlush; grind [→ State.flushPortTx_fuse_of, State.flushPortRx_fuse]
theorem State.actPortFlush_fuse_of (s : State) (f : Frame) {sx : State} {qx : Answer} (h : State.actPortFlush s f = (sx, qx)) : sx.sec.fuse = s.sec.fuse := by
  have e := State.actPortFlush_fuse s f
  rw [h] at e
  exact e
@[simp] theorem State.schedule_fuse (s : State) (e : Entry) (t : Word) :
    ((State.schedule s e t).1).sec.fuse = s.sec.fuse := by
  unfold State.schedule; (repeat' split) <;> simp_all [apply_ite State.sec, apply_ite SecS.fuse]
theorem State.schedule_fuse_of (s : State) (e : Entry) (t : Word) {sx : State} {qx : Answer} (h : State.schedule s e t = (sx, qx)) : sx.sec.fuse = s.sec.fuse := by
  have e := State.schedule_fuse s e t
  rw [h] at e
  exact e
@[simp] theorem State.actSchedule_fuse (s : State) (apply : Bool) (f : Frame) :
    ((State.actSchedule s apply f).1).sec.fuse = s.sec.fuse := by
  unfold State.actSchedule; grind [→ State.schedule_fuse_of]
theorem State.actSchedule_fuse_of (s : State) (apply : Bool) (f : Frame) {sx : State} {qx : Answer} (h : State.actSchedule s apply f = (sx, qx)) : sx.sec.fuse = s.sec.fuse := by
  have e := State.actSchedule_fuse s apply f
  rw [h] at e
  exact e
@[simp] theorem State.actSnapshot_fuse (s : State) (f : Frame) : ((State.actSnapshot s f).1).sec.fuse = s.sec.fuse := by
  unfold State.actSnapshot; grind [→ State.schedule_fuse_of, State.floodSnap_fuse, State.markSeen_fuse]
theorem State.actSnapshot_fuse_of (s : State) (f : Frame) {sx : State} {qx : Answer} (h : State.actSnapshot s f = (sx, qx)) : sx.sec.fuse = s.sec.fuse := by
  have e := State.actSnapshot_fuse s f
  rw [h] at e
  exact e
@[simp] theorem State.actFence_fuse (s : State) (c : Cmd) : ((State.actFence s c).1).sec.fuse = s.sec.fuse := by
  unfold State.actFence; grind []
theorem State.actFence_fuse_of (s : State) (c : Cmd) {sx : State} {qx : Answer} (h : State.actFence s c = (sx, qx)) : sx.sec.fuse = s.sec.fuse := by
  have e := State.actFence_fuse s c
  rw [h] at e
  exact e
@[simp] theorem State.endFences_fuse (s : State) (l : List Fence) (st : Status) :
    (State.endFences s l st).sec.fuse = s.sec.fuse := by
  simp [State.endFences]
@[simp] theorem State.fenceComplete_fuse (s : State) : (State.fenceComplete s).sec.fuse = s.sec.fuse := by
  simp [State.fenceComplete, apply_ite State.sec, apply_ite SecS.fuse]
@[simp] theorem State.fenceTimeout_fuse (s : State) : (State.fenceTimeout s).sec.fuse = s.sec.fuse := by
  unfold State.fenceTimeout; split <;> simp [apply_ite State.sec, apply_ite SecS.fuse]

/-! ### HostCmdOps -/

@[simp] theorem State.actProfileSelect_fuse (s : State) (f : Frame) :
    ((State.actProfileSelect s f).1).sec.fuse = s.sec.fuse := by
  unfold State.actProfileSelect; grind []
theorem State.actProfileSelect_fuse_of (s : State) (f : Frame) {sx : State} {qx : Answer} (h : State.actProfileSelect s f = (sx, qx)) : sx.sec.fuse = s.sec.fuse := by
  have e := State.actProfileSelect_fuse s f
  rw [h] at e
  exact e
@[simp] theorem State.actProfileStore_fuse (s : State) (c : Cmd) : ((State.actProfileStore s c).1).sec.fuse = s.sec.fuse := by
  unfold State.actProfileStore; split <;> simp [apply_ite State.sec, apply_ite SecS.fuse]
theorem State.actProfileStore_fuse_of (s : State) (c : Cmd) {sx : State} {qx : Answer} (h : State.actProfileStore s c = (sx, qx)) : sx.sec.fuse = s.sec.fuse := by
  have e := State.actProfileStore_fuse s c
  rw [h] at e
  exact e
@[simp] theorem State.actSelftest_fuse (s : State) (f : Frame) : ((State.actSelftest s f).1).sec.fuse = s.sec.fuse := by
  unfold State.actSelftest; grind []
theorem State.actSelftest_fuse_of (s : State) (f : Frame) {sx : State} {qx : Answer} (h : State.actSelftest s f = (sx, qx)) : sx.sec.fuse = s.sec.fuse := by
  have e := State.actSelftest_fuse s f
  rw [h] at e
  exact e
@[simp] theorem State.testResult_fuse (s : State) (t : Nat) (arg : Nat) (found : BitVec 128) :
    ((State.testResult s t arg found).1).sec.fuse = s.sec.fuse := by
  unfold State.testResult; split <;> simp [apply_ite State.sec, apply_ite SecS.fuse]
theorem State.testResult_fuse_of (s : State) (t : Nat) (arg : Nat) (found : BitVec 128) {sx : State} {qx : Nat} (h : State.testResult s t arg found = (sx, qx)) : sx.sec.fuse = s.sec.fuse := by
  have e := State.testResult_fuse s t arg found
  rw [h] at e
  exact e
@[simp] theorem State.selftestDone_fuse (s : State) (t : Nat) (found : BitVec 128) :
    (State.selftestDone s t found).sec.fuse = s.sec.fuse := by
  unfold State.selftestDone; grind [→ State.testResult_fuse_of, State.complete_fuse]
@[simp] theorem State.healthWords_fuse (s : State) (priv : Bool) : ((State.healthWords s priv).2).sec.fuse = s.sec.fuse := by
  simp [State.healthWords]
theorem State.healthWords_fuse_of (s : State) (priv : Bool) {sx : List Word} {qx : State} (h : State.healthWords s priv = (sx, qx)) : qx.sec.fuse = s.sec.fuse := by
  have e := State.healthWords_fuse s priv
  rw [h] at e
  exact e
@[simp] theorem State.actHealth_fuse (s : State) (maint : Bool) : ((State.actHealth s maint).1).sec.fuse = s.sec.fuse := by
  simp [State.actHealth]
theorem State.actHealth_fuse_of (s : State) (maint : Bool) {sx : State} {qx : Answer} (h : State.actHealth s maint = (sx, qx)) : sx.sec.fuse = s.sec.fuse := by
  have e := State.actHealth_fuse s maint
  rw [h] at e
  exact e
@[simp] theorem State.actFaultAck_fuse (s : State) (f : Frame) : ((State.actFaultAck s f).1).sec.fuse = s.sec.fuse := by
  unfold State.actFaultAck; grind [State.faultAck_fuse]
theorem State.actFaultAck_fuse_of (s : State) (f : Frame) {sx : State} {qx : Answer} (h : State.actFaultAck s f = (sx, qx)) : sx.sec.fuse = s.sec.fuse := by
  have e := State.actFaultAck_fuse s f
  rw [h] at e
  exact e
@[simp] theorem State.actSafeEnter_fuse (s : State) (f : Frame) : ((State.actSafeEnter s f).1).sec.fuse = s.sec.fuse := by
  simp [State.actSafeEnter]
theorem State.actSafeEnter_fuse_of (s : State) (f : Frame) {sx : State} {qx : Answer} (h : State.actSafeEnter s f = (sx, qx)) : sx.sec.fuse = s.sec.fuse := by
  have e := State.actSafeEnter_fuse s f
  rw [h] at e
  exact e
@[simp] theorem State.actSafeLeave_fuse (s : State) : ((State.actSafeLeave s).1).sec.fuse = s.sec.fuse := by
  unfold State.actSafeLeave; split <;> simp [apply_ite State.sec, apply_ite SecS.fuse]
theorem State.actSafeLeave_fuse_of (s : State) {sx : State} {qx : Answer} (h : State.actSafeLeave s = (sx, qx)) : sx.sec.fuse = s.sec.fuse := by
  have e := State.actSafeLeave_fuse s
  rw [h] at e
  exact e
@[simp] theorem State.actUpdateBegin_fuse (s : State) (f : Frame) : ((State.actUpdateBegin s f).1).sec.fuse = s.sec.fuse := by
  simp [State.actUpdateBegin]
theorem State.actUpdateBegin_fuse_of (s : State) (f : Frame) {sx : State} {qx : Answer} (h : State.actUpdateBegin s f = (sx, qx)) : sx.sec.fuse = s.sec.fuse := by
  have e := State.actUpdateBegin_fuse s f
  rw [h] at e
  exact e
@[simp] theorem State.actUpdateBlock_fuse (s : State) (c : Cmd) : ((State.actUpdateBlock s c).1).sec.fuse = s.sec.fuse := by
  simp [State.actUpdateBlock]
theorem State.actUpdateBlock_fuse_of (s : State) (c : Cmd) {sx : State} {qx : Answer} (h : State.actUpdateBlock s c = (sx, qx)) : sx.sec.fuse = s.sec.fuse := by
  have e := State.actUpdateBlock_fuse s c
  rw [h] at e
  exact e
@[simp] theorem State.actUpdateVerify_fuse (s : State) (c : Cmd) : ((State.actUpdateVerify s c).1).sec.fuse = s.sec.fuse := by
  unfold State.actUpdateVerify; (repeat' split) <;> simp_all [apply_ite State.sec, apply_ite SecS.fuse]
theorem State.actUpdateVerify_fuse_of (s : State) (c : Cmd) {sx : State} {qx : Answer} (h : State.actUpdateVerify s c = (sx, qx)) : sx.sec.fuse = s.sec.fuse := by
  have e := State.actUpdateVerify_fuse s c
  rw [h] at e
  exact e
@[simp] theorem State.actUpdateActivate_fuse (s : State) (f : Frame) :
    ((State.actUpdateActivate s f).1).sec.fuse = s.sec.fuse := by
  simp [State.actUpdateActivate]
theorem State.actUpdateActivate_fuse_of (s : State) (f : Frame) {sx : State} {qx : Answer} (h : State.actUpdateActivate s f = (sx, qx)) : sx.sec.fuse = s.sec.fuse := by
  have e := State.actUpdateActivate_fuse s f
  rw [h] at e
  exact e
@[simp] theorem State.actUpdateRelay_fuse (s : State) (c : Cmd) : ((State.actUpdateRelay s c).1).sec.fuse = s.sec.fuse := by
  simp [State.actUpdateRelay]
theorem State.actUpdateRelay_fuse_of (s : State) (c : Cmd) {sx : State} {qx : Answer} (h : State.actUpdateRelay s c = (sx, qx)) : sx.sec.fuse = s.sec.fuse := by
  have e := State.actUpdateRelay_fuse s c
  rw [h] at e
  exact e
@[simp] theorem State.actUpdateAbort_fuse (s : State) (f : Frame) : ((State.actUpdateAbort s f).1).sec.fuse = s.sec.fuse := by
  simp [State.actUpdateAbort]
theorem State.actUpdateAbort_fuse_of (s : State) (f : Frame) {sx : State} {qx : Answer} (h : State.actUpdateAbort s f = (sx, qx)) : sx.sec.fuse = s.sec.fuse := by
  have e := State.actUpdateAbort_fuse s f
  rw [h] at e
  exact e
@[simp] theorem State.actTimeStep_fuse (s : State) (f : Frame) : ((State.actTimeStep s f).1).sec.fuse = s.sec.fuse := by
  simp [State.actTimeStep]
theorem State.actTimeStep_fuse_of (s : State) (f : Frame) {sx : State} {qx : Answer} (h : State.actTimeStep s f = (sx, qx)) : sx.sec.fuse = s.sec.fuse := by
  have e := State.actTimeStep_fuse s f
  rw [h] at e
  exact e
@[simp] theorem State.actTimeRate_fuse (s : State) (f : Frame) : ((State.actTimeRate s f).1).sec.fuse = s.sec.fuse := by
  simp [State.actTimeRate]
theorem State.actTimeRate_fuse_of (s : State) (f : Frame) {sx : State} {qx : Answer} (h : State.actTimeRate s f = (sx, qx)) : sx.sec.fuse = s.sec.fuse := by
  have e := State.actTimeRate_fuse s f
  rw [h] at e
  exact e
@[simp] theorem State.actStepRearm_fuse (s : State) : ((State.actStepRearm s).1).sec.fuse = s.sec.fuse := by
  simp [State.actStepRearm]
theorem State.actStepRearm_fuse_of (s : State) {sx : State} {qx : Answer} (h : State.actStepRearm s = (sx, qx)) : sx.sec.fuse = s.sec.fuse := by
  have e := State.actStepRearm_fuse s
  rw [h] at e
  exact e
@[simp] theorem State.actHandover_fuse (s : State) (c : Cmd) (ordered : Bool) :
    ((State.actHandover s c ordered).1).sec.fuse = s.sec.fuse := by
  unfold State.actHandover; (repeat' split) <;> simp_all [apply_ite State.sec, apply_ite SecS.fuse]
theorem State.actHandover_fuse_of (s : State) (c : Cmd) (ordered : Bool) {sx : State} {qx : Answer} (h : State.actHandover s c ordered = (sx, qx)) : sx.sec.fuse = s.sec.fuse := by
  have e := State.actHandover_fuse s c ordered
  rw [h] at e
  exact e
@[simp] theorem State.actPairStatus_fuse (s : State) : ((State.actPairStatus s).1).sec.fuse = s.sec.fuse := by
  simp [State.actPairStatus]
theorem State.actPairStatus_fuse_of (s : State) {sx : State} {qx : Answer} (h : State.actPairStatus s = (sx, qx)) : sx.sec.fuse = s.sec.fuse := by
  have e := State.actPairStatus_fuse s
  rw [h] at e
  exact e
@[simp] theorem State.pairAnswer_fuse (s : State) : (State.pairAnswer s).sec.fuse = s.sec.fuse := by
  unfold State.pairAnswer; split <;> simp [apply_ite State.sec, apply_ite SecS.fuse]
@[simp] theorem State.actLogRead_fuse (s : State) (c : Cmd) (maint : Bool) :
    ((State.actLogRead s c maint).1).sec.fuse = s.sec.fuse := by
  unfold State.actLogRead; grind [→ State.freeIn_fuse_of]
theorem State.actLogRead_fuse_of (s : State) (c : Cmd) (maint : Bool) {sx : State} {qx : Answer} (h : State.actLogRead s c maint = (sx, qx)) : sx.sec.fuse = s.sec.fuse := by
  have e := State.actLogRead_fuse s c maint
  rw [h] at e
  exact e
@[simp] theorem State.actEcho_fuse (s : State) (f : Frame) : ((State.actEcho s f).1).sec.fuse = s.sec.fuse := by
  unfold State.actEcho; split <;> simp [apply_ite State.sec, apply_ite SecS.fuse]
theorem State.actEcho_fuse_of (s : State) (f : Frame) {sx : State} {qx : Answer} (h : State.actEcho s f = (sx, qx)) : sx.sec.fuse = s.sec.fuse := by
  have e := State.actEcho_fuse s f
  rw [h] at e
  exact e
@[simp] theorem State.actResetChip_fuse (s : State) (f : Frame) : ((State.actResetChip s f).1).sec.fuse = s.sec.fuse := by
  unfold State.actResetChip; split <;> simp [apply_ite State.sec, apply_ite SecS.fuse]
theorem State.actResetChip_fuse_of (s : State) (f : Frame) {sx : State} {qx : Answer} (h : State.actResetChip s f = (sx, qx)) : sx.sec.fuse = s.sec.fuse := by
  have e := State.actResetChip_fuse s f
  rw [h] at e
  exact e
@[simp] theorem State.actSessionClose_fuse (s : State) (f : Frame) :
    ((State.actSessionClose s f).1).sec.fuse = s.sec.fuse := by
  simp [State.actSessionClose]
theorem State.actSessionClose_fuse_of (s : State) (f : Frame) {sx : State} {qx : Answer} (h : State.actSessionClose s f = (sx, qx)) : sx.sec.fuse = s.sec.fuse := by
  have e := State.actSessionClose_fuse s f
  rw [h] at e
  exact e

/-! ### ServeOps -/

@[simp] theorem State.refuse_fuse (s : State) (e : Service) (st : Status) : (State.refuse s e st).sec.fuse = s.sec.fuse := by
  simp [State.refuse]
@[simp] theorem State.enter_fuse (s : State) (t : Target) (e : Service) : (State.enter s t e).sec.fuse = s.sec.fuse := by
  simp [State.enter, apply_ite State.sec, apply_ite SecS.fuse]
@[simp] theorem State.reject_fuse (s : State) (c : Cmd) (st : Status) : (State.reject s c st).sec.fuse = s.sec.fuse := by
  simp [State.reject]
@[simp] theorem State.resendReply_fuse (s : State) (c : Cmd) (e : CacheEntry) :
    (State.resendReply s c e).sec.fuse = s.sec.fuse := by
  simp [State.resendReply, apply_ite State.sec, apply_ite SecS.fuse]
@[simp] theorem State.romTake_fuse (s : State) (c : Cmd) : (State.romTake s c).sec.fuse = s.sec.fuse := by
  simp [State.romTake, apply_ite State.sec, apply_ite SecS.fuse]
@[simp] theorem State.cacheExpire_fuse (s : State) : (State.cacheExpire s).sec.fuse = s.sec.fuse := by
  unfold State.cacheExpire; split <;> simp [apply_ite State.sec, apply_ite SecS.fuse]
@[simp] theorem State.forget_fuse (s : State) : (State.forget s).sec.fuse = s.sec.fuse := by
  simp [State.forget]
@[simp] theorem State.departed_fuse (s : State) : (State.departed s).sec.fuse = s.sec.fuse := by
  simp [State.departed]
@[simp] theorem State.lostCommands_fuse (s : State) : (State.lostCommands s).sec.fuse = s.sec.fuse := by
  unfold State.lostCommands
  refine foldl_fuse _ (fun s c => ?_) _ _
  split <;> simp
@[simp] theorem State.switchBegin_fuse (s : State) (p : Nat) : (State.switchBegin s p).sec.fuse = s.sec.fuse := by
  simp [State.switchBegin]
@[simp] theorem State.runAfter_fuse (s : State) (x1 : After) : (State.runAfter s x1).sec.fuse = s.sec.fuse := by
  unfold State.runAfter; (repeat' split) <;> simp_all [apply_ite State.sec, apply_ite SecS.fuse]
@[simp] theorem State.runDue_fuse (s : State) : (State.runDue s).sec.fuse = s.sec.fuse := by
  simp [State.runDue]

/-! ### EventOps -/

@[simp] theorem State.dropOutst_fuse (s : State) (tag : BitVec 9) : (State.dropOutst s tag).sec.fuse = s.sec.fuse := by
  simp [State.dropOutst]
@[simp] theorem State.replyReceive_fuse (s : State) (f : Frame) (authOk : Bool) :
    (State.replyReceive s f authOk).sec.fuse = s.sec.fuse := by
  unfold State.replyReceive; (repeat' split) <;> simp_all [apply_ite State.sec, apply_ite SecS.fuse]
@[simp] theorem State.eventReceive_fuse (s : State) (f : Frame) : (State.eventReceive s f).sec.fuse = s.sec.fuse := by
  simp [State.eventReceive, apply_ite State.sec, apply_ite SecS.fuse]
@[simp] theorem State.commandTimeout_fuse (s : State) (port : BitVec 8) (tag : BitVec 9) :
    (State.commandTimeout s port tag).sec.fuse = s.sec.fuse := by
  unfold State.commandTimeout; grind [State.trkTimeout_fuse, → State.expire_fuse_of, State.arm_fuse]
@[simp] theorem State.quarantineEnd_fuse (s : State) (port : BitVec 8) (tag : BitVec 9) :
    (State.quarantineEnd s port tag).sec.fuse = s.sec.fuse := by
  unfold State.quarantineEnd; grind [State.trkRelease_fuse, → State.expire_fuse_of, State.dropOutst_fuse]
@[simp] theorem State.orderSchedule_fuse (s : State) (r : Frame) : (State.orderSchedule s r).sec.fuse = s.sec.fuse := by
  unfold State.orderSchedule; grind [State.enterEntry_fuse]
@[simp] theorem State.orderReply_fuse (s : State) (r : Frame) : (State.orderReply s r).sec.fuse = s.sec.fuse := by
  unfold State.orderReply; grind [State.orderSchedule_fuse, State.sessionOpened_fuse, State.unserve_fuse, State.cachePut_fuse]
@[simp] theorem State.countOrder_fuse (s : State) (f : Frame) (good : Bool) :
    (State.countOrder s f good).sec.fuse = s.sec.fuse := by
  simp [State.countOrder, apply_ite State.sec, apply_ite SecS.fuse]
@[simp] theorem State.sessionIn_fuse (s : State) (on : BitVec 16) (r : SessionOrder) :
    (State.sessionIn s on r).sec.fuse = s.sec.fuse := by
  simp [State.sessionIn, apply_ite State.sec, apply_ite SecS.fuse]
@[simp] theorem State.sessionIdle_fuse (s : State) (n : BitVec 16) : (State.sessionIdle s n).sec.fuse = s.sec.fuse := by
  simp [State.sessionIdle, apply_ite State.sec, apply_ite SecS.fuse]
@[simp] theorem State.sessionUnused_fuse (s : State) (n : BitVec 16) : (State.sessionUnused s n).sec.fuse = s.sec.fuse := by
  simp [State.sessionUnused, apply_ite State.sec, apply_ite SecS.fuse]
@[simp] theorem State.sessionSpent_fuse (s : State) (n : BitVec 16) : (State.sessionSpent s n).sec.fuse = s.sec.fuse := by
  simp [State.sessionSpent, apply_ite State.sec, apply_ite SecS.fuse]
@[simp] theorem State.bar0_fuse (s : State) (off : Nat) (wr : Option Word) (beOk : Bool) :
    (State.bar0 s off wr beOk).sec.fuse = s.sec.fuse := by
  unfold State.bar0; (repeat' split) <;> simp_all [apply_ite State.sec, apply_ite SecS.fuse]
@[simp] theorem State.switchStep5_fuse (s : State) : ((State.switchStep5 s).1).sec.fuse = s.sec.fuse := by
  unfold State.switchStep5
  refine foldl_fuse_fst _ (fun p a => ?_) _ _
  dsimp only
  split <;> simp
theorem State.switchStep5_fuse_of (s : State) {sx : State} {qx : Nat} (h : State.switchStep5 s = (sx, qx)) : sx.sec.fuse = s.sec.fuse := by
  have e := State.switchStep5_fuse s
  rw [h] at e
  exact e
@[simp] theorem State.invalidate_fuse (s : State) (p : Nat) : (State.invalidate s p).sec.fuse = s.sec.fuse := by
  simp [State.invalidate]
@[simp] theorem State.switchLoad_fuse (s : State) (p : Nat) (prev : Nat) (ok : Bool) (prevOk : Bool) (hadPrev : Bool) :
    (State.switchLoad s p prev ok prevOk hadPrev).sec.fuse = s.sec.fuse := by
  simp [State.switchLoad, apply_ite State.sec, apply_ite SecS.fuse]
@[simp] theorem State.switchFinish_fuse (s : State) (skipped : Nat) :
    (State.switchFinish s skipped).sec.fuse = s.sec.fuse := by
  simp [State.switchFinish, apply_ite State.sec, apply_ite SecS.fuse]
@[simp] theorem State.profileSwitchEnd_fuse (s : State) (ok : Bool) (prevOk : Bool) :
    (State.profileSwitchEnd s ok prevOk).sec.fuse = s.sec.fuse := by
  unfold State.profileSwitchEnd
  split
  · rfl
  · refine (State.switchFinish_fuse _ _).trans ?_
    refine (State.switchStep5_fuse _).trans ?_
    refine (State.fwdCommit_fuse _).trans ?_
    refine (State.loadProfile_fuse _ _).trans ?_
    exact (State.switchLoad_fuse _ _ _ _ _ _)

/-! ### Clusters -/

@[simp] theorem State.engCtl_fuse (s : State) (n : Nat) (m : Word) (pc : Nat) :
    (State.engCtl s n m pc).sec.fuse = s.sec.fuse := by
  simp [State.engCtl]
@[simp] theorem State.engBit_fuse (s : State) (n : Nat) (m : Word) : (State.engBit s n m).sec.fuse = s.sec.fuse := by
  simp [State.engBit]

/-! ### Ethernet -/

@[simp] theorem State.macWakes_fuse (s : State) (m : Nat) (r : MacRx) : (State.macWakes s m r).sec.fuse = s.sec.fuse := by
  simp [State.macWakes, apply_ite State.sec, apply_ite SecS.fuse]

/-! ### FieldPower -/

@[simp] theorem State.pwrCtl_fuse (s : State) (c : Nat) (w : Word) : (State.pwrCtl s c w).sec.fuse = s.sec.fuse := by
  simp [State.pwrCtl]

/-! ### Firmware -/

@[simp] theorem State.updateFrame_fuse (s : State) (l : Nat) (f : State → State) (hf : ∀ x, (f x).sec.fuse = x.sec.fuse) :
    (State.updateFrame s l f).sec.fuse = s.sec.fuse := by
  unfold State.updateFrame; (repeat' split) <;> simp_all [apply_ite State.sec, apply_ite SecS.fuse]

/-! ### HostBridge -/

@[simp] theorem State.flr_fuse (s : State) : (State.flr s).sec.fuse = s.sec.fuse := by
  simp [State.flr, apply_ite State.sec, apply_ite SecS.fuse]
@[simp] theorem State.hostTxTail_fuse (s : State) (t : Nat) (ds : List TxDesc) :
    (State.hostTxTail s t ds).sec.fuse = s.sec.fuse := by
  simp [State.hostTxTail, apply_ite State.sec, apply_ite SecS.fuse]
@[simp] theorem State.hostRxTail_fuse (s : State) (q : Nat) (t : Nat) (bs : List RxDesc) :
    (State.hostRxTail s q t bs).sec.fuse = s.sec.fuse := by
  simp [State.hostRxTail, apply_ite State.sec, apply_ite SecS.fuse]

/-! ### SwitchCore -/

@[simp] theorem State.handLocal_fuse (s : State) : (State.handLocal s).sec.fuse = s.sec.fuse := by
  unfold State.handLocal; grind [→ State.takeLocal_fuse_of, State.bump_fuse, State.transmit_fuse]
@[simp] theorem State.unitLeaves_fuse (s : State) (p : Nat) : (State.unitLeaves s p).sec.fuse = s.sec.fuse := by
  simp [State.unitLeaves, apply_ite State.sec, apply_ite SecS.fuse]
@[simp] theorem State.residueHead_fuse (s : State) (q : Nat) : (State.residueHead s q).sec.fuse = s.sec.fuse := by
  simp [State.residueHead, apply_ite State.sec, apply_ite SecS.fuse]
@[simp] theorem State.residueDue_fuse (s : State) (q : Nat) : (State.residueDue s q).sec.fuse = s.sec.fuse := by
  unfold State.residueDue; split <;> simp [apply_ite State.sec, apply_ite SecS.fuse]
@[simp] theorem State.pressClock_fuse (s : State) (t : Timer) (f : State → State) (hf : ∀ x, (f x).sec.fuse = x.sec.fuse) :
    (State.pressClock s t f).sec.fuse = s.sec.fuse := by
  unfold State.pressClock; grind [→ State.expire_fuse_of]

/-! ### The operations that write -/

theorem foldl_fle {α : Type} {x₀ : Tab (List Word) × List Nat × Nat} (f : State → α → State) (h : ∀ s a, FuseLe x₀ s.sec.fuse → FuseLe x₀ (f s a).sec.fuse)
    (l : List α) (s : State) (hw : FuseLe x₀ s.sec.fuse) : FuseLe x₀ (l.foldl f s).sec.fuse := by
  induction l generalizing s with
  | nil => exact hw
  | cons a l ih => exact ih _ (h s a hw)
@[simp] theorem State.finishBurn_fle (s : State) {x₀ : Tab (List Word) × List Nat × Nat} (hw : FuseLe x₀ s.sec.fuse) :
    FuseLe x₀ (State.finishBurn s).sec.fuse := by
  unfold State.finishBurn
  simp only []
  split
  · rename_i h
    exact ⟨hw.1, hw.2.1, Nat.le_trans hw.2.2 (Nat.le_of_lt h.2)⟩
  · exact hw
@[simp] theorem State.logStart_fle (s : State) {x₀ : Tab (List Word) × List Nat × Nat} (hw : FuseLe x₀ s.sec.fuse) :
    FuseLe x₀ ((State.logStart s).sec.fuse) := by
  simp [State.logStart, hw, apply_ite State.sec, apply_ite SecS.fuse]
@[simp] theorem State.stepWork_fle (s : State) (n : Nat) (r : StepResult) {x₀ : Tab (List Word) × List Nat × Nat} (hw : FuseLe x₀ s.sec.fuse) :
    FuseLe x₀ ((State.stepWork s n r).sec.fuse) := by
  unfold State.stepWork; split <;> simp [hw, apply_ite State.sec, apply_ite SecS.fuse]
@[simp] theorem State.stepDone_fle (s : State) (n : Nat) (r : StepResult) {x₀ : Tab (List Word) × List Nat × Nat} (hw : FuseLe x₀ s.sec.fuse) :
    FuseLe x₀ ((State.stepDone s n r).sec.fuse) := by
  simp [State.stepDone, hw, apply_ite State.sec, apply_ite SecS.fuse]
@[simp] theorem State.bootImage_fle (s : State) (r : StepResult) {x₀ : Tab (List Word) × List Nat × Nat}
    (hw : FuseLe x₀ s.sec.fuse) : FuseLe x₀ (State.bootImage s r).sec.fuse := by
  unfold State.bootImage
  simp only []
  split
  · simp [hw, apply_ite Prod.fst, apply_ite State.sec, apply_ite SecS.fuse]
  · split <;> split <;> simp [hw, apply_ite Prod.fst, apply_ite State.sec, apply_ite SecS.fuse]
@[simp] theorem State.bootProfile_fle (s : State) (r : StepResult) {x₀ : Tab (List Word) × List Nat × Nat}
    (hw : FuseLe x₀ s.sec.fuse) : FuseLe x₀ (State.bootProfile s r).sec.fuse := by
  unfold State.bootProfile
  extract_lets p
  clear_value p
  split <;> simp [hw]
@[simp] theorem State.bootStepDone_fle (s : State) (r : StepResult) {x₀ : Tab (List Word) × List Nat × Nat} (hw : FuseLe x₀ s.sec.fuse) :
    FuseLe x₀ ((State.bootStepDone s r).sec.fuse) := by
  unfold State.bootStepDone; (repeat' split) <;> simp_all [apply_ite State.sec, apply_ite SecS.fuse]
@[simp] theorem State.updateConfirm_fle (s : State) {x₀ : Tab (List Word) × List Nat × Nat} (hw : FuseLe x₀ s.sec.fuse) :
    FuseLe x₀ (State.updateConfirm s).sec.fuse := by
  unfold State.updateConfirm
  extract_lets t _ s1 _ _ s2 o
  have h1 : s1.sec.fuse = s.sec.fuse := by simp [s1]
  have h2 : FuseLe x₀ s2.sec.fuse := by
    rw [← h1] at hw
    exact ⟨hw.1, hw.2.1, Nat.le_trans hw.2.2 (Nat.le_max_left _ _)⟩
  split
  · exact hw
  · split <;> simp [h2]
@[simp] theorem State.actUpdateConfirm_fle (s : State) {x₀ : Tab (List Word) × List Nat × Nat} (hw : FuseLe x₀ s.sec.fuse) :
    FuseLe x₀ (((State.actUpdateConfirm s).1).sec.fuse) := by
  simp [State.actUpdateConfirm, hw]
@[simp] theorem State.act_fle (s : State) (e : Service) {x₀ : Tab (List Word) × List Nat × Nat} (hw : FuseLe x₀ s.sec.fuse) :
    FuseLe x₀ (State.act s e).1.sec.fuse := by
  unfold State.act
  simp only []
  split <;> simp [hw]
@[simp] theorem State.execute_fle (s : State) (e : Service) {x₀ : Tab (List Word) × List Nat × Nat} (hw : FuseLe x₀ s.sec.fuse) :
    FuseLe x₀ (State.execute s e).sec.fuse := by
  unfold State.execute
  simp only []
  split
  · simp [hw]
  · split
    · simp [hw, apply_ite State.sec, apply_ite SecS.fuse]
    · split
      · simp [hw]
      · split
        · simp [hw]
        · simp [hw, apply_ite State.sec, apply_ite SecS.fuse]
@[simp] theorem State.accept_fle (s : State) (c : Cmd) (t : Target) (maint : Bool) (x : KeyExchange)
    {x₀ : Tab (List Word) × List Nat × Nat} (hw : FuseLe x₀ s.sec.fuse) : FuseLe x₀ (State.accept s c t maint x).sec.fuse := by
  unfold State.accept
  simp only []
  split
  · simp [hw]
  · exact State.execute_fle _ _ (by simp [hw])

@[simp] theorem State.admit4_fle (s : State) (row : OpRow) (c : Cmd) (t : Target) (maint : Bool) (x : KeyExchange) {x₀ : Tab (List Word) × List Nat × Nat} (hw : FuseLe x₀ s.sec.fuse) :
    FuseLe x₀ ((State.admit4 s row c t maint x).sec.fuse) := by
  unfold State.admit4; (repeat' split) <;> simp_all [apply_ite State.sec, apply_ite SecS.fuse]
@[simp] theorem State.admit2_fle (s : State) (c : Cmd) (t : Target) (r : Rights) (x : KeyExchange)
    {x₀ : Tab (List Word) × List Nat × Nat} (hw : FuseLe x₀ s.sec.fuse) : FuseLe x₀ (State.admit2 s c t r x).sec.fuse := by
  unfold State.admit2
  simp only []
  (repeat' split) <;> simp [hw]
@[simp] theorem State.serve_fle (s : State) (op : BitVec 8) (c : Cmd) (x : KeyExchange) {x₀ : Tab (List Word) × List Nat × Nat} (hw : FuseLe x₀ s.sec.fuse) :
    FuseLe x₀ (State.serve s op c x).sec.fuse := by
  unfold State.serve
  simp only []
  (repeat' split) <;> simp [hw]
@[simp] theorem State.runHeld_fle (n : Nat) (s : State) {x₀ : Tab (List Word) × List Nat × Nat} (hw : FuseLe x₀ s.sec.fuse) :
    FuseLe x₀ (State.runHeld n s).sec.fuse := by
  induction n generalizing s with
  | zero => exact hw
  | succ n ih =>
    unfold State.runHeld
    simp only []
    split
    · exact hw
    · split
      · exact hw
      · exact ih _ (State.execute_fle _ _ hw)
@[simp] theorem State.done_fle (s : State) {x₀ : Tab (List Word) × List Nat × Nat} (hw : FuseLe x₀ s.sec.fuse) :
    FuseLe x₀ ((State.done s).sec.fuse) := by
  unfold State.done; split <;> simp [hw, apply_ite State.sec, apply_ite SecS.fuse]
@[simp] theorem State.orderCommand_fle (s : State) (f : Frame) {x₀ : Tab (List Word) × List Nat × Nat} (hw : FuseLe x₀ s.sec.fuse) :
    FuseLe x₀ (State.orderCommand s f).sec.fuse := by
  unfold State.orderCommand
  have ht : FuseLe x₀ (s.touchSession f.session).sec.fuse := by rw [State.touchSession_fuse]; exact hw
  split
  · exact hw
  · split
    · exact ht
    · simp only []
      split
      · exact ht
      · exact State.execute_fle _ _ ht
@[simp] theorem State.orderIn_fle (s : State) (on : BitVec 16) (f : Frame) (good : Bool) {x₀ : Tab (List Word) × List Nat × Nat} (hw : FuseLe x₀ s.sec.fuse) :
    FuseLe x₀ (State.orderIn s on f good).sec.fuse := by
  unfold State.orderIn
  simp only []
  (repeat' split) <;> simp [hw]
@[simp] theorem State.llRequest_fle (s : State) (f : Frame) {x₀ : Tab (List Word) × List Nat × Nat} (hw : FuseLe x₀ s.sec.fuse) :
    FuseLe x₀ (State.llRequest s f).sec.fuse := by
  unfold State.llRequest
  extract_lets g c s1 s2 s3 s4
  have h1 : s1.sec.fuse = s.sec.fuse := by simp [s1]
  have h2 : s2.sec.fuse = s1.sec.fuse := by simp [s2]
  have h3 : s3.sec.fuse = s2.sec.fuse := by simp [s3]
  have h4 : s4.sec.fuse = s3.sec.fuse := by simp [s4]
  clear_value s4 s3 s2 s1
  split
  · exact hw
  · exact State.serve_fle _ _ _ _ (by rw [h4, h3, h2, h1]; exact hw)
@[simp] theorem State.collectorDone_fle (s : State) {x₀ : Tab (List Word) × List Nat × Nat} (hw : FuseLe x₀ s.sec.fuse) :
    FuseLe x₀ ((State.collectorDone s).sec.fuse) := by
  unfold State.collectorDone; split <;> simp [hw, apply_ite State.sec, apply_ite SecS.fuse]

end Sys2Proof.Machine
end

