-- ==== Sys2Proof/Laws/State.lean ====
section
/-!
SUPPORT. What each plain update of the state changes: one lemma per update and field. The queue is the concern of Laws/Queue.lean.
-/
namespace Sys2Proof.Machine

/-! ### wr -/

@[simp] theorem State.wr_now (s : State) (r : Reg) (i j : Nat) (w : Word) : (s.wr r i j w).now = s.now := rfl
@[simp] theorem State.wr_freeIx (s : State) (r : Reg) (i j : Nat) (w : Word) : (s.wr r i j w).freeIx = s.freeIx := rfl
@[simp] theorem State.wr_timers (s : State) (r : Reg) (i j : Nat) (w : Word) : (s.wr r i j w).timers = s.timers := rfl
@[simp] theorem State.wr_mode (s : State) (r : Reg) (i j : Nat) (w : Word) : (s.wr r i j w).mode = s.mode := rfl
@[simp] theorem State.wr_ringAcc (s : State) (r : Reg) (i j : Nat) (w : Word) : (s.wr r i j w).ringAcc = s.ringAcc := rfl
@[simp] theorem State.wr_mgt (s : State) (r : Reg) (i j : Nat) (w : Word) : (s.wr r i j w).mgt = s.mgt := rfl
@[simp] theorem State.wr_flt (s : State) (r : Reg) (i j : Nat) (w : Word) : (s.wr r i j w).flt = s.flt := rfl
@[simp] theorem State.wr_isl (s : State) (r : Reg) (i j : Nat) (w : Word) : (s.wr r i j w).isl = s.isl := rfl
@[simp] theorem State.wr_boot (s : State) (r : Reg) (i j : Nat) (w : Word) : (s.wr r i j w).boot = s.boot := rfl
@[simp] theorem State.wr_profiles (s : State) (r : Reg) (i j : Nat) (w : Word) : (s.wr r i j w).profiles = s.profiles := rfl
@[simp] theorem State.wr_pair (s : State) (r : Reg) (i j : Nat) (w : Word) : (s.wr r i j w).pair = s.pair := rfl
@[simp] theorem State.wr_cmd (s : State) (r : Reg) (i j : Nat) (w : Word) : (s.wr r i j w).cmd = s.cmd := rfl
@[simp] theorem State.wr_upd (s : State) (r : Reg) (i j : Nat) (w : Word) : (s.wr r i j w).upd = s.upd := rfl
@[simp] theorem State.wr_sec (s : State) (r : Reg) (i j : Nat) (w : Word) : (s.wr r i j w).sec = s.sec := rfl
@[simp] theorem State.wr_ingress (s : State) (r : Reg) (i j : Nat) (w : Word) : (s.wr r i j w).ingress = s.ingress := rfl
@[simp] theorem State.wr_sent (s : State) (r : Reg) (i j : Nat) (w : Word) : (s.wr r i j w).sent = s.sent := rfl
@[simp] theorem State.wr_sw (s : State) (r : Reg) (i j : Nat) (w : Word) : (s.wr r i j w).sw = s.sw := rfl
@[simp] theorem State.wr_lanes (s : State) (r : Reg) (i j : Nat) (w : Word) : (s.wr r i j w).lanes = s.lanes := rfl
@[simp] theorem State.wr_time (s : State) (r : Reg) (i j : Nat) (w : Word) : (s.wr r i j w).time = s.time := rfl
@[simp] theorem State.wr_sched (s : State) (r : Reg) (i j : Nat) (w : Word) : (s.wr r i j w).sched = s.sched := rfl
@[simp] theorem State.wr_snap (s : State) (r : Reg) (i j : Nat) (w : Word) : (s.wr r i j w).snap = s.snap := rfl
@[simp] theorem State.wr_ports (s : State) (r : Reg) (i j : Nat) (w : Word) : (s.wr r i j w).ports = s.ports := rfl
@[simp] theorem State.wr_clus (s : State) (r : Reg) (i j : Nat) (w : Word) : (s.wr r i j w).clus = s.clus := rfl
@[simp] theorem State.wr_engs (s : State) (r : Reg) (i j : Nat) (w : Word) : (s.wr r i j w).engs = s.engs := rfl
@[simp] theorem State.wr_wins (s : State) (r : Reg) (i j : Nat) (w : Word) : (s.wr r i j w).wins = s.wins := rfl
@[simp] theorem State.wr_cans (s : State) (r : Reg) (i j : Nat) (w : Word) : (s.wr r i j w).cans = s.cans := rfl
@[simp] theorem State.wr_macs (s : State) (r : Reg) (i j : Nat) (w : Word) : (s.wr r i j w).macs = s.macs := rfl
@[simp] theorem State.wr_hbr (s : State) (r : Reg) (i j : Nat) (w : Word) : (s.wr r i j w).hbr = s.hbr := rfl
@[simp] theorem State.wr_pchs (s : State) (r : Reg) (i j : Nat) (w : Word) : (s.wr r i j w).pchs = s.pchs := rfl
@[simp] theorem State.wr_wire (s : State) (r : Reg) (i j : Nat) (w : Word) : (s.wr r i j w).wire = s.wire := rfl
@[simp] theorem State.wr_bypHold (s : State) (r : Reg) (i j : Nat) (w : Word) : (s.wr r i j w).bypHold = s.bypHold := rfl
@[simp] theorem State.wr_deadline (s : State) (r : Reg) (i j : Nat) (w : Word) (t' : Timer) :
    (s.wr r i j w).deadline t' = s.deadline t' := rfl

/-! ### put -/

@[simp] theorem State.put_now (s : State) (f : Fld) (v i j : Nat) : (s.put f v i j).now = s.now := rfl
@[simp] theorem State.put_freeIx (s : State) (f : Fld) (v i j : Nat) : (s.put f v i j).freeIx = s.freeIx := rfl
@[simp] theorem State.put_timers (s : State) (f : Fld) (v i j : Nat) : (s.put f v i j).timers = s.timers := rfl
@[simp] theorem State.put_mode (s : State) (f : Fld) (v i j : Nat) : (s.put f v i j).mode = s.mode := rfl
@[simp] theorem State.put_ringAcc (s : State) (f : Fld) (v i j : Nat) : (s.put f v i j).ringAcc = s.ringAcc := rfl
@[simp] theorem State.put_mgt (s : State) (f : Fld) (v i j : Nat) : (s.put f v i j).mgt = s.mgt := rfl
@[simp] theorem State.put_flt (s : State) (f : Fld) (v i j : Nat) : (s.put f v i j).flt = s.flt := rfl
@[simp] theorem State.put_isl (s : State) (f : Fld) (v i j : Nat) : (s.put f v i j).isl = s.isl := rfl
@[simp] theorem State.put_boot (s : State) (f : Fld) (v i j : Nat) : (s.put f v i j).boot = s.boot := rfl
@[simp] theorem State.put_profiles (s : State) (f : Fld) (v i j : Nat) : (s.put f v i j).profiles = s.profiles := rfl
@[simp] theorem State.put_pair (s : State) (f : Fld) (v i j : Nat) : (s.put f v i j).pair = s.pair := rfl
@[simp] theorem State.put_cmd (s : State) (f : Fld) (v i j : Nat) : (s.put f v i j).cmd = s.cmd := rfl
@[simp] theorem State.put_upd (s : State) (f : Fld) (v i j : Nat) : (s.put f v i j).upd = s.upd := rfl
@[simp] theorem State.put_sec (s : State) (f : Fld) (v i j : Nat) : (s.put f v i j).sec = s.sec := rfl
@[simp] theorem State.put_ingress (s : State) (f : Fld) (v i j : Nat) : (s.put f v i j).ingress = s.ingress := rfl
@[simp] theorem State.put_sent (s : State) (f : Fld) (v i j : Nat) : (s.put f v i j).sent = s.sent := rfl
@[simp] theorem State.put_sw (s : State) (f : Fld) (v i j : Nat) : (s.put f v i j).sw = s.sw := rfl
@[simp] theorem State.put_lanes (s : State) (f : Fld) (v i j : Nat) : (s.put f v i j).lanes = s.lanes := rfl
@[simp] theorem State.put_time (s : State) (f : Fld) (v i j : Nat) : (s.put f v i j).time = s.time := rfl
@[simp] theorem State.put_sched (s : State) (f : Fld) (v i j : Nat) : (s.put f v i j).sched = s.sched := rfl
@[simp] theorem State.put_snap (s : State) (f : Fld) (v i j : Nat) : (s.put f v i j).snap = s.snap := rfl
@[simp] theorem State.put_ports (s : State) (f : Fld) (v i j : Nat) : (s.put f v i j).ports = s.ports := rfl
@[simp] theorem State.put_clus (s : State) (f : Fld) (v i j : Nat) : (s.put f v i j).clus = s.clus := rfl
@[simp] theorem State.put_engs (s : State) (f : Fld) (v i j : Nat) : (s.put f v i j).engs = s.engs := rfl
@[simp] theorem State.put_wins (s : State) (f : Fld) (v i j : Nat) : (s.put f v i j).wins = s.wins := rfl
@[simp] theorem State.put_cans (s : State) (f : Fld) (v i j : Nat) : (s.put f v i j).cans = s.cans := rfl
@[simp] theorem State.put_macs (s : State) (f : Fld) (v i j : Nat) : (s.put f v i j).macs = s.macs := rfl
@[simp] theorem State.put_hbr (s : State) (f : Fld) (v i j : Nat) : (s.put f v i j).hbr = s.hbr := rfl
@[simp] theorem State.put_pchs (s : State) (f : Fld) (v i j : Nat) : (s.put f v i j).pchs = s.pchs := rfl
@[simp] theorem State.put_wire (s : State) (f : Fld) (v i j : Nat) : (s.put f v i j).wire = s.wire := rfl
@[simp] theorem State.put_bypHold (s : State) (f : Fld) (v i j : Nat) : (s.put f v i j).bypHold = s.bypHold := rfl
@[simp] theorem State.put_deadline (s : State) (f : Fld) (v i j : Nat) (t' : Timer) :
    (s.put f v i j).deadline t' = s.deadline t' := rfl

/-! ### bump -/

@[simp] theorem State.bump_now (s : State) (r : Reg) (i j n : Nat) : (s.bump r i j n).now = s.now := rfl
@[simp] theorem State.bump_freeIx (s : State) (r : Reg) (i j n : Nat) : (s.bump r i j n).freeIx = s.freeIx := rfl
@[simp] theorem State.bump_timers (s : State) (r : Reg) (i j n : Nat) : (s.bump r i j n).timers = s.timers := rfl
@[simp] theorem State.bump_mode (s : State) (r : Reg) (i j n : Nat) : (s.bump r i j n).mode = s.mode := rfl
@[simp] theorem State.bump_ringAcc (s : State) (r : Reg) (i j n : Nat) : (s.bump r i j n).ringAcc = s.ringAcc := rfl
@[simp] theorem State.bump_mgt (s : State) (r : Reg) (i j n : Nat) : (s.bump r i j n).mgt = s.mgt := rfl
@[simp] theorem State.bump_flt (s : State) (r : Reg) (i j n : Nat) : (s.bump r i j n).flt = s.flt := rfl
@[simp] theorem State.bump_isl (s : State) (r : Reg) (i j n : Nat) : (s.bump r i j n).isl = s.isl := rfl
@[simp] theorem State.bump_boot (s : State) (r : Reg) (i j n : Nat) : (s.bump r i j n).boot = s.boot := rfl
@[simp] theorem State.bump_profiles (s : State) (r : Reg) (i j n : Nat) : (s.bump r i j n).profiles = s.profiles := rfl
@[simp] theorem State.bump_pair (s : State) (r : Reg) (i j n : Nat) : (s.bump r i j n).pair = s.pair := rfl
@[simp] theorem State.bump_cmd (s : State) (r : Reg) (i j n : Nat) : (s.bump r i j n).cmd = s.cmd := rfl
@[simp] theorem State.bump_upd (s : State) (r : Reg) (i j n : Nat) : (s.bump r i j n).upd = s.upd := rfl
@[simp] theorem State.bump_sec (s : State) (r : Reg) (i j n : Nat) : (s.bump r i j n).sec = s.sec := rfl
@[simp] theorem State.bump_ingress (s : State) (r : Reg) (i j n : Nat) : (s.bump r i j n).ingress = s.ingress := rfl
@[simp] theorem State.bump_sent (s : State) (r : Reg) (i j n : Nat) : (s.bump r i j n).sent = s.sent := rfl
@[simp] theorem State.bump_sw (s : State) (r : Reg) (i j n : Nat) : (s.bump r i j n).sw = s.sw := rfl
@[simp] theorem State.bump_lanes (s : State) (r : Reg) (i j n : Nat) : (s.bump r i j n).lanes = s.lanes := rfl
@[simp] theorem State.bump_time (s : State) (r : Reg) (i j n : Nat) : (s.bump r i j n).time = s.time := rfl
@[simp] theorem State.bump_sched (s : State) (r : Reg) (i j n : Nat) : (s.bump r i j n).sched = s.sched := rfl
@[simp] theorem State.bump_snap (s : State) (r : Reg) (i j n : Nat) : (s.bump r i j n).snap = s.snap := rfl
@[simp] theorem State.bump_ports (s : State) (r : Reg) (i j n : Nat) : (s.bump r i j n).ports = s.ports := rfl
@[simp] theorem State.bump_clus (s : State) (r : Reg) (i j n : Nat) : (s.bump r i j n).clus = s.clus := rfl
@[simp] theorem State.bump_engs (s : State) (r : Reg) (i j n : Nat) : (s.bump r i j n).engs = s.engs := rfl
@[simp] theorem State.bump_wins (s : State) (r : Reg) (i j n : Nat) : (s.bump r i j n).wins = s.wins := rfl
@[simp] theorem State.bump_cans (s : State) (r : Reg) (i j n : Nat) : (s.bump r i j n).cans = s.cans := rfl
@[simp] theorem State.bump_macs (s : State) (r : Reg) (i j n : Nat) : (s.bump r i j n).macs = s.macs := rfl
@[simp] theorem State.bump_hbr (s : State) (r : Reg) (i j n : Nat) : (s.bump r i j n).hbr = s.hbr := rfl
@[simp] theorem State.bump_pchs (s : State) (r : Reg) (i j n : Nat) : (s.bump r i j n).pchs = s.pchs := rfl
@[simp] theorem State.bump_wire (s : State) (r : Reg) (i j n : Nat) : (s.bump r i j n).wire = s.wire := rfl
@[simp] theorem State.bump_bypHold (s : State) (r : Reg) (i j n : Nat) : (s.bump r i j n).bypHold = s.bypHold := rfl
@[simp] theorem State.bump_deadline (s : State) (r : Reg) (i j n : Nat) (t' : Timer) :
    (s.bump r i j n).deadline t' = s.deadline t' := rfl

/-! ### arm -/

@[simp] theorem State.arm_now (s : State) (t : Timer) (d : Nat) : (s.arm t d).now = s.now := rfl
@[simp] theorem State.arm_freeIx (s : State) (t : Timer) (d : Nat) : (s.arm t d).freeIx = s.freeIx := rfl
@[simp] theorem State.arm_regs (s : State) (t : Timer) (d : Nat) : (s.arm t d).regs = s.regs := rfl
@[simp] theorem State.arm_mode (s : State) (t : Timer) (d : Nat) : (s.arm t d).mode = s.mode := rfl
@[simp] theorem State.arm_ringAcc (s : State) (t : Timer) (d : Nat) : (s.arm t d).ringAcc = s.ringAcc := rfl
@[simp] theorem State.arm_mgt (s : State) (t : Timer) (d : Nat) : (s.arm t d).mgt = s.mgt := rfl
@[simp] theorem State.arm_flt (s : State) (t : Timer) (d : Nat) : (s.arm t d).flt = s.flt := rfl
@[simp] theorem State.arm_isl (s : State) (t : Timer) (d : Nat) : (s.arm t d).isl = s.isl := rfl
@[simp] theorem State.arm_boot (s : State) (t : Timer) (d : Nat) : (s.arm t d).boot = s.boot := rfl
@[simp] theorem State.arm_profiles (s : State) (t : Timer) (d : Nat) : (s.arm t d).profiles = s.profiles := rfl
@[simp] theorem State.arm_pair (s : State) (t : Timer) (d : Nat) : (s.arm t d).pair = s.pair := rfl
@[simp] theorem State.arm_cmd (s : State) (t : Timer) (d : Nat) : (s.arm t d).cmd = s.cmd := rfl
@[simp] theorem State.arm_upd (s : State) (t : Timer) (d : Nat) : (s.arm t d).upd = s.upd := rfl
@[simp] theorem State.arm_sec (s : State) (t : Timer) (d : Nat) : (s.arm t d).sec = s.sec := rfl
@[simp] theorem State.arm_ingress (s : State) (t : Timer) (d : Nat) : (s.arm t d).ingress = s.ingress := rfl
@[simp] theorem State.arm_sent (s : State) (t : Timer) (d : Nat) : (s.arm t d).sent = s.sent := rfl
@[simp] theorem State.arm_sw (s : State) (t : Timer) (d : Nat) : (s.arm t d).sw = s.sw := rfl
@[simp] theorem State.arm_lanes (s : State) (t : Timer) (d : Nat) : (s.arm t d).lanes = s.lanes := rfl
@[simp] theorem State.arm_time (s : State) (t : Timer) (d : Nat) : (s.arm t d).time = s.time := rfl
@[simp] theorem State.arm_sched (s : State) (t : Timer) (d : Nat) : (s.arm t d).sched = s.sched := rfl
@[simp] theorem State.arm_snap (s : State) (t : Timer) (d : Nat) : (s.arm t d).snap = s.snap := rfl
@[simp] theorem State.arm_ports (s : State) (t : Timer) (d : Nat) : (s.arm t d).ports = s.ports := rfl
@[simp] theorem State.arm_clus (s : State) (t : Timer) (d : Nat) : (s.arm t d).clus = s.clus := rfl
@[simp] theorem State.arm_engs (s : State) (t : Timer) (d : Nat) : (s.arm t d).engs = s.engs := rfl
@[simp] theorem State.arm_wins (s : State) (t : Timer) (d : Nat) : (s.arm t d).wins = s.wins := rfl
@[simp] theorem State.arm_cans (s : State) (t : Timer) (d : Nat) : (s.arm t d).cans = s.cans := rfl
@[simp] theorem State.arm_macs (s : State) (t : Timer) (d : Nat) : (s.arm t d).macs = s.macs := rfl
@[simp] theorem State.arm_hbr (s : State) (t : Timer) (d : Nat) : (s.arm t d).hbr = s.hbr := rfl
@[simp] theorem State.arm_pchs (s : State) (t : Timer) (d : Nat) : (s.arm t d).pchs = s.pchs := rfl
@[simp] theorem State.arm_wire (s : State) (t : Timer) (d : Nat) : (s.arm t d).wire = s.wire := rfl
@[simp] theorem State.arm_bypHold (s : State) (t : Timer) (d : Nat) : (s.arm t d).bypHold = s.bypHold := rfl
@[simp] theorem State.arm_rd (s : State) (t : Timer) (d : Nat) (r' : Reg) (i' j' : Nat) :
    (s.arm t d).rd r' i' j' = s.rd r' i' j' := rfl
@[simp] theorem State.arm_get (s : State) (t : Timer) (d : Nat) (g : Fld) (i' j' : Nat) :
    (s.arm t d).get g i' j' = s.get g i' j' := rfl
@[simp] theorem State.arm_is (s : State) (t : Timer) (d : Nat) (g : Fld) (i' j' : Nat) :
    (s.arm t d).is g i' j' = s.is g i' j' := rfl

/-! ### disarm -/

@[simp] theorem State.disarm_now (s : State) (t : Timer) : (s.disarm t).now = s.now := rfl
@[simp] theorem State.disarm_freeIx (s : State) (t : Timer) : (s.disarm t).freeIx = s.freeIx := rfl
@[simp] theorem State.disarm_regs (s : State) (t : Timer) : (s.disarm t).regs = s.regs := rfl
@[simp] theorem State.disarm_mode (s : State) (t : Timer) : (s.disarm t).mode = s.mode := rfl
@[simp] theorem State.disarm_ringAcc (s : State) (t : Timer) : (s.disarm t).ringAcc = s.ringAcc := rfl
@[simp] theorem State.disarm_mgt (s : State) (t : Timer) : (s.disarm t).mgt = s.mgt := rfl
@[simp] theorem State.disarm_flt (s : State) (t : Timer) : (s.disarm t).flt = s.flt := rfl
@[simp] theorem State.disarm_isl (s : State) (t : Timer) : (s.disarm t).isl = s.isl := rfl
@[simp] theorem State.disarm_boot (s : State) (t : Timer) : (s.disarm t).boot = s.boot := rfl
@[simp] theorem State.disarm_profiles (s : State) (t : Timer) : (s.disarm t).profiles = s.profiles := rfl
@[simp] theorem State.disarm_pair (s : State) (t : Timer) : (s.disarm t).pair = s.pair := rfl
@[simp] theorem State.disarm_cmd (s : State) (t : Timer) : (s.disarm t).cmd = s.cmd := rfl
@[simp] theorem State.disarm_upd (s : State) (t : Timer) : (s.disarm t).upd = s.upd := rfl
@[simp] theorem State.disarm_sec (s : State) (t : Timer) : (s.disarm t).sec = s.sec := rfl
@[simp] theorem State.disarm_ingress (s : State) (t : Timer) : (s.disarm t).ingress = s.ingress := rfl
@[simp] theorem State.disarm_sent (s : State) (t : Timer) : (s.disarm t).sent = s.sent := rfl
@[simp] theorem State.disarm_sw (s : State) (t : Timer) : (s.disarm t).sw = s.sw := rfl
@[simp] theorem State.disarm_lanes (s : State) (t : Timer) : (s.disarm t).lanes = s.lanes := rfl
@[simp] theorem State.disarm_time (s : State) (t : Timer) : (s.disarm t).time = s.time := rfl
@[simp] theorem State.disarm_sched (s : State) (t : Timer) : (s.disarm t).sched = s.sched := rfl
@[simp] theorem State.disarm_snap (s : State) (t : Timer) : (s.disarm t).snap = s.snap := rfl
@[simp] theorem State.disarm_ports (s : State) (t : Timer) : (s.disarm t).ports = s.ports := rfl
@[simp] theorem State.disarm_clus (s : State) (t : Timer) : (s.disarm t).clus = s.clus := rfl
@[simp] theorem State.disarm_engs (s : State) (t : Timer) : (s.disarm t).engs = s.engs := rfl
@[simp] theorem State.disarm_wins (s : State) (t : Timer) : (s.disarm t).wins = s.wins := rfl
@[simp] theorem State.disarm_cans (s : State) (t : Timer) : (s.disarm t).cans = s.cans := rfl
@[simp] theorem State.disarm_macs (s : State) (t : Timer) : (s.disarm t).macs = s.macs := rfl
@[simp] theorem State.disarm_hbr (s : State) (t : Timer) : (s.disarm t).hbr = s.hbr := rfl
@[simp] theorem State.disarm_pchs (s : State) (t : Timer) : (s.disarm t).pchs = s.pchs := rfl
@[simp] theorem State.disarm_wire (s : State) (t : Timer) : (s.disarm t).wire = s.wire := rfl
@[simp] theorem State.disarm_bypHold (s : State) (t : Timer) : (s.disarm t).bypHold = s.bypHold := rfl
@[simp] theorem State.disarm_rd (s : State) (t : Timer) (r' : Reg) (i' j' : Nat) :
    (s.disarm t).rd r' i' j' = s.rd r' i' j' := rfl
@[simp] theorem State.disarm_get (s : State) (t : Timer) (g : Fld) (i' j' : Nat) :
    (s.disarm t).get g i' j' = s.get g i' j' := rfl
@[simp] theorem State.disarm_is (s : State) (t : Timer) (g : Fld) (i' j' : Nat) :
    (s.disarm t).is g i' j' = s.is g i' j' := rfl

/-! ### disarmAll -/

@[simp] theorem State.disarmAll_now (s : State) (p : Timer → Bool) : (s.disarmAll p).now = s.now := rfl
@[simp] theorem State.disarmAll_freeIx (s : State) (p : Timer → Bool) : (s.disarmAll p).freeIx = s.freeIx := rfl
@[simp] theorem State.disarmAll_regs (s : State) (p : Timer → Bool) : (s.disarmAll p).regs = s.regs := rfl
@[simp] theorem State.disarmAll_mode (s : State) (p : Timer → Bool) : (s.disarmAll p).mode = s.mode := rfl
@[simp] theorem State.disarmAll_ringAcc (s : State) (p : Timer → Bool) : (s.disarmAll p).ringAcc = s.ringAcc := rfl
@[simp] theorem State.disarmAll_mgt (s : State) (p : Timer → Bool) : (s.disarmAll p).mgt = s.mgt := rfl
@[simp] theorem State.disarmAll_flt (s : State) (p : Timer → Bool) : (s.disarmAll p).flt = s.flt := rfl
@[simp] theorem State.disarmAll_isl (s : State) (p : Timer → Bool) : (s.disarmAll p).isl = s.isl := rfl
@[simp] theorem State.disarmAll_boot (s : State) (p : Timer → Bool) : (s.disarmAll p).boot = s.boot := rfl
@[simp] theorem State.disarmAll_profiles (s : State) (p : Timer → Bool) : (s.disarmAll p).profiles = s.profiles := rfl
@[simp] theorem State.disarmAll_pair (s : State) (p : Timer → Bool) : (s.disarmAll p).pair = s.pair := rfl
@[simp] theorem State.disarmAll_cmd (s : State) (p : Timer → Bool) : (s.disarmAll p).cmd = s.cmd := rfl
@[simp] theorem State.disarmAll_upd (s : State) (p : Timer → Bool) : (s.disarmAll p).upd = s.upd := rfl
@[simp] theorem State.disarmAll_sec (s : State) (p : Timer → Bool) : (s.disarmAll p).sec = s.sec := rfl
@[simp] theorem State.disarmAll_ingress (s : State) (p : Timer → Bool) : (s.disarmAll p).ingress = s.ingress := rfl
@[simp] theorem State.disarmAll_sent (s : State) (p : Timer → Bool) : (s.disarmAll p).sent = s.sent := rfl
@[simp] theorem State.disarmAll_sw (s : State) (p : Timer → Bool) : (s.disarmAll p).sw = s.sw := rfl
@[simp] theorem State.disarmAll_lanes (s : State) (p : Timer → Bool) : (s.disarmAll p).lanes = s.lanes := rfl
@[simp] theorem State.disarmAll_time (s : State) (p : Timer → Bool) : (s.disarmAll p).time = s.time := rfl
@[simp] theorem State.disarmAll_sched (s : State) (p : Timer → Bool) : (s.disarmAll p).sched = s.sched := rfl
@[simp] theorem State.disarmAll_snap (s : State) (p : Timer → Bool) : (s.disarmAll p).snap = s.snap := rfl
@[simp] theorem State.disarmAll_ports (s : State) (p : Timer → Bool) : (s.disarmAll p).ports = s.ports := rfl
@[simp] theorem State.disarmAll_clus (s : State) (p : Timer → Bool) : (s.disarmAll p).clus = s.clus := rfl
@[simp] theorem State.disarmAll_engs (s : State) (p : Timer → Bool) : (s.disarmAll p).engs = s.engs := rfl
@[simp] theorem State.disarmAll_wins (s : State) (p : Timer → Bool) : (s.disarmAll p).wins = s.wins := rfl
@[simp] theorem State.disarmAll_cans (s : State) (p : Timer → Bool) : (s.disarmAll p).cans = s.cans := rfl
@[simp] theorem State.disarmAll_macs (s : State) (p : Timer → Bool) : (s.disarmAll p).macs = s.macs := rfl
@[simp] theorem State.disarmAll_hbr (s : State) (p : Timer → Bool) : (s.disarmAll p).hbr = s.hbr := rfl
@[simp] theorem State.disarmAll_pchs (s : State) (p : Timer → Bool) : (s.disarmAll p).pchs = s.pchs := rfl
@[simp] theorem State.disarmAll_wire (s : State) (p : Timer → Bool) : (s.disarmAll p).wire = s.wire := rfl
@[simp] theorem State.disarmAll_bypHold (s : State) (p : Timer → Bool) : (s.disarmAll p).bypHold = s.bypHold := rfl
@[simp] theorem State.disarmAll_rd (s : State) (p : Timer → Bool) (r' : Reg) (i' j' : Nat) :
    (s.disarmAll p).rd r' i' j' = s.rd r' i' j' := rfl
@[simp] theorem State.disarmAll_get (s : State) (p : Timer → Bool) (g : Fld) (i' j' : Nat) :
    (s.disarmAll p).get g i' j' = s.get g i' j' := rfl
@[simp] theorem State.disarmAll_is (s : State) (p : Timer → Bool) (g : Fld) (i' j' : Nat) :
    (s.disarmAll p).is g i' j' = s.is g i' j' := rfl

/-! ### setLane -/

@[simp] theorem State.setLane_now (s : State) (l : Nat) (x : LaneS) : (s.setLane l x).now = s.now := rfl
@[simp] theorem State.setLane_freeIx (s : State) (l : Nat) (x : LaneS) : (s.setLane l x).freeIx = s.freeIx := rfl
@[simp] theorem State.setLane_regs (s : State) (l : Nat) (x : LaneS) : (s.setLane l x).regs = s.regs := rfl
@[simp] theorem State.setLane_timers (s : State) (l : Nat) (x : LaneS) : (s.setLane l x).timers = s.timers := rfl
@[simp] theorem State.setLane_mode (s : State) (l : Nat) (x : LaneS) : (s.setLane l x).mode = s.mode := rfl
@[simp] theorem State.setLane_ringAcc (s : State) (l : Nat) (x : LaneS) : (s.setLane l x).ringAcc = s.ringAcc := rfl
@[simp] theorem State.setLane_mgt (s : State) (l : Nat) (x : LaneS) : (s.setLane l x).mgt = s.mgt := rfl
@[simp] theorem State.setLane_flt (s : State) (l : Nat) (x : LaneS) : (s.setLane l x).flt = s.flt := rfl
@[simp] theorem State.setLane_isl (s : State) (l : Nat) (x : LaneS) : (s.setLane l x).isl = s.isl := rfl
@[simp] theorem State.setLane_boot (s : State) (l : Nat) (x : LaneS) : (s.setLane l x).boot = s.boot := rfl
@[simp] theorem State.setLane_profiles (s : State) (l : Nat) (x : LaneS) : (s.setLane l x).profiles = s.profiles := rfl
@[simp] theorem State.setLane_pair (s : State) (l : Nat) (x : LaneS) : (s.setLane l x).pair = s.pair := rfl
@[simp] theorem State.setLane_cmd (s : State) (l : Nat) (x : LaneS) : (s.setLane l x).cmd = s.cmd := rfl
@[simp] theorem State.setLane_upd (s : State) (l : Nat) (x : LaneS) : (s.setLane l x).upd = s.upd := rfl
@[simp] theorem State.setLane_sec (s : State) (l : Nat) (x : LaneS) : (s.setLane l x).sec = s.sec := rfl
@[simp] theorem State.setLane_ingress (s : State) (l : Nat) (x : LaneS) : (s.setLane l x).ingress = s.ingress := rfl
@[simp] theorem State.setLane_sent (s : State) (l : Nat) (x : LaneS) : (s.setLane l x).sent = s.sent := rfl
@[simp] theorem State.setLane_sw (s : State) (l : Nat) (x : LaneS) : (s.setLane l x).sw = s.sw := rfl
@[simp] theorem State.setLane_time (s : State) (l : Nat) (x : LaneS) : (s.setLane l x).time = s.time := rfl
@[simp] theorem State.setLane_sched (s : State) (l : Nat) (x : LaneS) : (s.setLane l x).sched = s.sched := rfl
@[simp] theorem State.setLane_snap (s : State) (l : Nat) (x : LaneS) : (s.setLane l x).snap = s.snap := rfl
@[simp] theorem State.setLane_ports (s : State) (l : Nat) (x : LaneS) : (s.setLane l x).ports = s.ports := rfl
@[simp] theorem State.setLane_clus (s : State) (l : Nat) (x : LaneS) : (s.setLane l x).clus = s.clus := rfl
@[simp] theorem State.setLane_engs (s : State) (l : Nat) (x : LaneS) : (s.setLane l x).engs = s.engs := rfl
@[simp] theorem State.setLane_wins (s : State) (l : Nat) (x : LaneS) : (s.setLane l x).wins = s.wins := rfl
@[simp] theorem State.setLane_cans (s : State) (l : Nat) (x : LaneS) : (s.setLane l x).cans = s.cans := rfl
@[simp] theorem State.setLane_macs (s : State) (l : Nat) (x : LaneS) : (s.setLane l x).macs = s.macs := rfl
@[simp] theorem State.setLane_hbr (s : State) (l : Nat) (x : LaneS) : (s.setLane l x).hbr = s.hbr := rfl
@[simp] theorem State.setLane_pchs (s : State) (l : Nat) (x : LaneS) : (s.setLane l x).pchs = s.pchs := rfl
@[simp] theorem State.setLane_wire (s : State) (l : Nat) (x : LaneS) : (s.setLane l x).wire = s.wire := rfl
@[simp] theorem State.setLane_bypHold (s : State) (l : Nat) (x : LaneS) : (s.setLane l x).bypHold = s.bypHold := rfl
@[simp] theorem State.setLane_rd (s : State) (l : Nat) (x : LaneS) (r' : Reg) (i' j' : Nat) :
    (s.setLane l x).rd r' i' j' = s.rd r' i' j' := rfl
@[simp] theorem State.setLane_get (s : State) (l : Nat) (x : LaneS) (g : Fld) (i' j' : Nat) :
    (s.setLane l x).get g i' j' = s.get g i' j' := rfl
@[simp] theorem State.setLane_is (s : State) (l : Nat) (x : LaneS) (g : Fld) (i' j' : Nat) :
    (s.setLane l x).is g i' j' = s.is g i' j' := rfl
@[simp] theorem State.setLane_deadline (s : State) (l : Nat) (x : LaneS) (t' : Timer) :
    (s.setLane l x).deadline t' = s.deadline t' := rfl

/-! ### setClu -/

@[simp] theorem State.setClu_now (s : State) (k : Nat) (x : CluS) : (s.setClu k x).now = s.now := rfl
@[simp] theorem State.setClu_freeIx (s : State) (k : Nat) (x : CluS) : (s.setClu k x).freeIx = s.freeIx := rfl
@[simp] theorem State.setClu_regs (s : State) (k : Nat) (x : CluS) : (s.setClu k x).regs = s.regs := rfl
@[simp] theorem State.setClu_timers (s : State) (k : Nat) (x : CluS) : (s.setClu k x).timers = s.timers := rfl
@[simp] theorem State.setClu_mode (s : State) (k : Nat) (x : CluS) : (s.setClu k x).mode = s.mode := rfl
@[simp] theorem State.setClu_ringAcc (s : State) (k : Nat) (x : CluS) : (s.setClu k x).ringAcc = s.ringAcc := rfl
@[simp] theorem State.setClu_mgt (s : State) (k : Nat) (x : CluS) : (s.setClu k x).mgt = s.mgt := rfl
@[simp] theorem State.setClu_flt (s : State) (k : Nat) (x : CluS) : (s.setClu k x).flt = s.flt := rfl
@[simp] theorem State.setClu_isl (s : State) (k : Nat) (x : CluS) : (s.setClu k x).isl = s.isl := rfl
@[simp] theorem State.setClu_boot (s : State) (k : Nat) (x : CluS) : (s.setClu k x).boot = s.boot := rfl
@[simp] theorem State.setClu_profiles (s : State) (k : Nat) (x : CluS) : (s.setClu k x).profiles = s.profiles := rfl
@[simp] theorem State.setClu_pair (s : State) (k : Nat) (x : CluS) : (s.setClu k x).pair = s.pair := rfl
@[simp] theorem State.setClu_cmd (s : State) (k : Nat) (x : CluS) : (s.setClu k x).cmd = s.cmd := rfl
@[simp] theorem State.setClu_upd (s : State) (k : Nat) (x : CluS) : (s.setClu k x).upd = s.upd := rfl
@[simp] theorem State.setClu_sec (s : State) (k : Nat) (x : CluS) : (s.setClu k x).sec = s.sec := rfl
@[simp] theorem State.setClu_ingress (s : State) (k : Nat) (x : CluS) : (s.setClu k x).ingress = s.ingress := rfl
@[simp] theorem State.setClu_sent (s : State) (k : Nat) (x : CluS) : (s.setClu k x).sent = s.sent := rfl
@[simp] theorem State.setClu_sw (s : State) (k : Nat) (x : CluS) : (s.setClu k x).sw = s.sw := rfl
@[simp] theorem State.setClu_lanes (s : State) (k : Nat) (x : CluS) : (s.setClu k x).lanes = s.lanes := rfl
@[simp] theorem State.setClu_time (s : State) (k : Nat) (x : CluS) : (s.setClu k x).time = s.time := rfl
@[simp] theorem State.setClu_sched (s : State) (k : Nat) (x : CluS) : (s.setClu k x).sched = s.sched := rfl
@[simp] theorem State.setClu_snap (s : State) (k : Nat) (x : CluS) : (s.setClu k x).snap = s.snap := rfl
@[simp] theorem State.setClu_ports (s : State) (k : Nat) (x : CluS) : (s.setClu k x).ports = s.ports := rfl
@[simp] theorem State.setClu_engs (s : State) (k : Nat) (x : CluS) : (s.setClu k x).engs = s.engs := rfl
@[simp] theorem State.setClu_wins (s : State) (k : Nat) (x : CluS) : (s.setClu k x).wins = s.wins := rfl
@[simp] theorem State.setClu_cans (s : State) (k : Nat) (x : CluS) : (s.setClu k x).cans = s.cans := rfl
@[simp] theorem State.setClu_macs (s : State) (k : Nat) (x : CluS) : (s.setClu k x).macs = s.macs := rfl
@[simp] theorem State.setClu_hbr (s : State) (k : Nat) (x : CluS) : (s.setClu k x).hbr = s.hbr := rfl
@[simp] theorem State.setClu_pchs (s : State) (k : Nat) (x : CluS) : (s.setClu k x).pchs = s.pchs := rfl
@[simp] theorem State.setClu_wire (s : State) (k : Nat) (x : CluS) : (s.setClu k x).wire = s.wire := rfl
@[simp] theorem State.setClu_bypHold (s : State) (k : Nat) (x : CluS) : (s.setClu k x).bypHold = s.bypHold := rfl
@[simp] theorem State.setClu_rd (s : State) (k : Nat) (x : CluS) (r' : Reg) (i' j' : Nat) :
    (s.setClu k x).rd r' i' j' = s.rd r' i' j' := rfl
@[simp] theorem State.setClu_get (s : State) (k : Nat) (x : CluS) (g : Fld) (i' j' : Nat) :
    (s.setClu k x).get g i' j' = s.get g i' j' := rfl
@[simp] theorem State.setClu_is (s : State) (k : Nat) (x : CluS) (g : Fld) (i' j' : Nat) :
    (s.setClu k x).is g i' j' = s.is g i' j' := rfl
@[simp] theorem State.setClu_deadline (s : State) (k : Nat) (x : CluS) (t' : Timer) :
    (s.setClu k x).deadline t' = s.deadline t' := rfl

/-! ### setEng -/

@[simp] theorem State.setEng_now (s : State) (n : Nat) (x : EngS) : (s.setEng n x).now = s.now := rfl
@[simp] theorem State.setEng_freeIx (s : State) (n : Nat) (x : EngS) : (s.setEng n x).freeIx = s.freeIx := rfl
@[simp] theorem State.setEng_regs (s : State) (n : Nat) (x : EngS) : (s.setEng n x).regs = s.regs := rfl
@[simp] theorem State.setEng_timers (s : State) (n : Nat) (x : EngS) : (s.setEng n x).timers = s.timers := rfl
@[simp] theorem State.setEng_mode (s : State) (n : Nat) (x : EngS) : (s.setEng n x).mode = s.mode := rfl
@[simp] theorem State.setEng_ringAcc (s : State) (n : Nat) (x : EngS) : (s.setEng n x).ringAcc = s.ringAcc := rfl
@[simp] theorem State.setEng_mgt (s : State) (n : Nat) (x : EngS) : (s.setEng n x).mgt = s.mgt := rfl
@[simp] theorem State.setEng_flt (s : State) (n : Nat) (x : EngS) : (s.setEng n x).flt = s.flt := rfl
@[simp] theorem State.setEng_isl (s : State) (n : Nat) (x : EngS) : (s.setEng n x).isl = s.isl := rfl
@[simp] theorem State.setEng_boot (s : State) (n : Nat) (x : EngS) : (s.setEng n x).boot = s.boot := rfl
@[simp] theorem State.setEng_profiles (s : State) (n : Nat) (x : EngS) : (s.setEng n x).profiles = s.profiles := rfl
@[simp] theorem State.setEng_pair (s : State) (n : Nat) (x : EngS) : (s.setEng n x).pair = s.pair := rfl
@[simp] theorem State.setEng_cmd (s : State) (n : Nat) (x : EngS) : (s.setEng n x).cmd = s.cmd := rfl
@[simp] theorem State.setEng_upd (s : State) (n : Nat) (x : EngS) : (s.setEng n x).upd = s.upd := rfl
@[simp] theorem State.setEng_sec (s : State) (n : Nat) (x : EngS) : (s.setEng n x).sec = s.sec := rfl
@[simp] theorem State.setEng_ingress (s : State) (n : Nat) (x : EngS) : (s.setEng n x).ingress = s.ingress := rfl
@[simp] theorem State.setEng_sent (s : State) (n : Nat) (x : EngS) : (s.setEng n x).sent = s.sent := rfl
@[simp] theorem State.setEng_sw (s : State) (n : Nat) (x : EngS) : (s.setEng n x).sw = s.sw := rfl
@[simp] theorem State.setEng_lanes (s : State) (n : Nat) (x : EngS) : (s.setEng n x).lanes = s.lanes := rfl
@[simp] theorem State.setEng_time (s : State) (n : Nat) (x : EngS) : (s.setEng n x).time = s.time := rfl
@[simp] theorem State.setEng_sched (s : State) (n : Nat) (x : EngS) : (s.setEng n x).sched = s.sched := rfl
@[simp] theorem State.setEng_snap (s : State) (n : Nat) (x : EngS) : (s.setEng n x).snap = s.snap := rfl
@[simp] theorem State.setEng_ports (s : State) (n : Nat) (x : EngS) : (s.setEng n x).ports = s.ports := rfl
@[simp] theorem State.setEng_clus (s : State) (n : Nat) (x : EngS) : (s.setEng n x).clus = s.clus := rfl
@[simp] theorem State.setEng_wins (s : State) (n : Nat) (x : EngS) : (s.setEng n x).wins = s.wins := rfl
@[simp] theorem State.setEng_cans (s : State) (n : Nat) (x : EngS) : (s.setEng n x).cans = s.cans := rfl
@[simp] theorem State.setEng_macs (s : State) (n : Nat) (x : EngS) : (s.setEng n x).macs = s.macs := rfl
@[simp] theorem State.setEng_hbr (s : State) (n : Nat) (x : EngS) : (s.setEng n x).hbr = s.hbr := rfl
@[simp] theorem State.setEng_pchs (s : State) (n : Nat) (x : EngS) : (s.setEng n x).pchs = s.pchs := rfl
@[simp] theorem State.setEng_wire (s : State) (n : Nat) (x : EngS) : (s.setEng n x).wire = s.wire := rfl
@[simp] theorem State.setEng_bypHold (s : State) (n : Nat) (x : EngS) : (s.setEng n x).bypHold = s.bypHold := rfl
@[simp] theorem State.setEng_rd (s : State) (n : Nat) (x : EngS) (r' : Reg) (i' j' : Nat) :
    (s.setEng n x).rd r' i' j' = s.rd r' i' j' := rfl
@[simp] theorem State.setEng_get (s : State) (n : Nat) (x : EngS) (g : Fld) (i' j' : Nat) :
    (s.setEng n x).get g i' j' = s.get g i' j' := rfl
@[simp] theorem State.setEng_is (s : State) (n : Nat) (x : EngS) (g : Fld) (i' j' : Nat) :
    (s.setEng n x).is g i' j' = s.is g i' j' := rfl
@[simp] theorem State.setEng_deadline (s : State) (n : Nat) (x : EngS) (t' : Timer) :
    (s.setEng n x).deadline t' = s.deadline t' := rfl

/-! ### setWin -/

@[simp] theorem State.setWin_now (s : State) (w : Nat) (x : WinS) : (s.setWin w x).now = s.now := rfl
@[simp] theorem State.setWin_freeIx (s : State) (w : Nat) (x : WinS) : (s.setWin w x).freeIx = s.freeIx := rfl
@[simp] theorem State.setWin_regs (s : State) (w : Nat) (x : WinS) : (s.setWin w x).regs = s.regs := rfl
@[simp] theorem State.setWin_timers (s : State) (w : Nat) (x : WinS) : (s.setWin w x).timers = s.timers := rfl
@[simp] theorem State.setWin_mode (s : State) (w : Nat) (x : WinS) : (s.setWin w x).mode = s.mode := rfl
@[simp] theorem State.setWin_ringAcc (s : State) (w : Nat) (x : WinS) : (s.setWin w x).ringAcc = s.ringAcc := rfl
@[simp] theorem State.setWin_mgt (s : State) (w : Nat) (x : WinS) : (s.setWin w x).mgt = s.mgt := rfl
@[simp] theorem State.setWin_flt (s : State) (w : Nat) (x : WinS) : (s.setWin w x).flt = s.flt := rfl
@[simp] theorem State.setWin_isl (s : State) (w : Nat) (x : WinS) : (s.setWin w x).isl = s.isl := rfl
@[simp] theorem State.setWin_boot (s : State) (w : Nat) (x : WinS) : (s.setWin w x).boot = s.boot := rfl
@[simp] theorem State.setWin_profiles (s : State) (w : Nat) (x : WinS) : (s.setWin w x).profiles = s.profiles := rfl
@[simp] theorem State.setWin_pair (s : State) (w : Nat) (x : WinS) : (s.setWin w x).pair = s.pair := rfl
@[simp] theorem State.setWin_cmd (s : State) (w : Nat) (x : WinS) : (s.setWin w x).cmd = s.cmd := rfl
@[simp] theorem State.setWin_upd (s : State) (w : Nat) (x : WinS) : (s.setWin w x).upd = s.upd := rfl
@[simp] theorem State.setWin_sec (s : State) (w : Nat) (x : WinS) : (s.setWin w x).sec = s.sec := rfl
@[simp] theorem State.setWin_ingress (s : State) (w : Nat) (x : WinS) : (s.setWin w x).ingress = s.ingress := rfl
@[simp] theorem State.setWin_sent (s : State) (w : Nat) (x : WinS) : (s.setWin w x).sent = s.sent := rfl
@[simp] theorem State.setWin_sw (s : State) (w : Nat) (x : WinS) : (s.setWin w x).sw = s.sw := rfl
@[simp] theorem State.setWin_lanes (s : State) (w : Nat) (x : WinS) : (s.setWin w x).lanes = s.lanes := rfl
@[simp] theorem State.setWin_time (s : State) (w : Nat) (x : WinS) : (s.setWin w x).time = s.time := rfl
@[simp] theorem State.setWin_sched (s : State) (w : Nat) (x : WinS) : (s.setWin w x).sched = s.sched := rfl
@[simp] theorem State.setWin_snap (s : State) (w : Nat) (x : WinS) : (s.setWin w x).snap = s.snap := rfl
@[simp] theorem State.setWin_ports (s : State) (w : Nat) (x : WinS) : (s.setWin w x).ports = s.ports := rfl
@[simp] theorem State.setWin_clus (s : State) (w : Nat) (x : WinS) : (s.setWin w x).clus = s.clus := rfl
@[simp] theorem State.setWin_engs (s : State) (w : Nat) (x : WinS) : (s.setWin w x).engs = s.engs := rfl
@[simp] theorem State.setWin_cans (s : State) (w : Nat) (x : WinS) : (s.setWin w x).cans = s.cans := rfl
@[simp] theorem State.setWin_macs (s : State) (w : Nat) (x : WinS) : (s.setWin w x).macs = s.macs := rfl
@[simp] theorem State.setWin_hbr (s : State) (w : Nat) (x : WinS) : (s.setWin w x).hbr = s.hbr := rfl
@[simp] theorem State.setWin_pchs (s : State) (w : Nat) (x : WinS) : (s.setWin w x).pchs = s.pchs := rfl
@[simp] theorem State.setWin_wire (s : State) (w : Nat) (x : WinS) : (s.setWin w x).wire = s.wire := rfl
@[simp] theorem State.setWin_bypHold (s : State) (w : Nat) (x : WinS) : (s.setWin w x).bypHold = s.bypHold := rfl
@[simp] theorem State.setWin_rd (s : State) (w : Nat) (x : WinS) (r' : Reg) (i' j' : Nat) :
    (s.setWin w x).rd r' i' j' = s.rd r' i' j' := rfl
@[simp] theorem State.setWin_get (s : State) (w : Nat) (x : WinS) (g : Fld) (i' j' : Nat) :
    (s.setWin w x).get g i' j' = s.get g i' j' := rfl
@[simp] theorem State.setWin_is (s : State) (w : Nat) (x : WinS) (g : Fld) (i' j' : Nat) :
    (s.setWin w x).is g i' j' = s.is g i' j' := rfl
@[simp] theorem State.setWin_deadline (s : State) (w : Nat) (x : WinS) (t' : Timer) :
    (s.setWin w x).deadline t' = s.deadline t' := rfl

/-! ### setCan -/

@[simp] theorem State.setCan_now (s : State) (n : Nat) (x : CanS) : (s.setCan n x).now = s.now := rfl
@[simp] theorem State.setCan_freeIx (s : State) (n : Nat) (x : CanS) : (s.setCan n x).freeIx = s.freeIx := rfl
@[simp] theorem State.setCan_regs (s : State) (n : Nat) (x : CanS) : (s.setCan n x).regs = s.regs := rfl
@[simp] theorem State.setCan_timers (s : State) (n : Nat) (x : CanS) : (s.setCan n x).timers = s.timers := rfl
@[simp] theorem State.setCan_mode (s : State) (n : Nat) (x : CanS) : (s.setCan n x).mode = s.mode := rfl
@[simp] theorem State.setCan_ringAcc (s : State) (n : Nat) (x : CanS) : (s.setCan n x).ringAcc = s.ringAcc := rfl
@[simp] theorem State.setCan_mgt (s : State) (n : Nat) (x : CanS) : (s.setCan n x).mgt = s.mgt := rfl
@[simp] theorem State.setCan_flt (s : State) (n : Nat) (x : CanS) : (s.setCan n x).flt = s.flt := rfl
@[simp] theorem State.setCan_isl (s : State) (n : Nat) (x : CanS) : (s.setCan n x).isl = s.isl := rfl
@[simp] theorem State.setCan_boot (s : State) (n : Nat) (x : CanS) : (s.setCan n x).boot = s.boot := rfl
@[simp] theorem State.setCan_profiles (s : State) (n : Nat) (x : CanS) : (s.setCan n x).profiles = s.profiles := rfl
@[simp] theorem State.setCan_pair (s : State) (n : Nat) (x : CanS) : (s.setCan n x).pair = s.pair := rfl
@[simp] theorem State.setCan_cmd (s : State) (n : Nat) (x : CanS) : (s.setCan n x).cmd = s.cmd := rfl
@[simp] theorem State.setCan_upd (s : State) (n : Nat) (x : CanS) : (s.setCan n x).upd = s.upd := rfl
@[simp] theorem State.setCan_sec (s : State) (n : Nat) (x : CanS) : (s.setCan n x).sec = s.sec := rfl
@[simp] theorem State.setCan_ingress (s : State) (n : Nat) (x : CanS) : (s.setCan n x).ingress = s.ingress := rfl
@[simp] theorem State.setCan_sent (s : State) (n : Nat) (x : CanS) : (s.setCan n x).sent = s.sent := rfl
@[simp] theorem State.setCan_sw (s : State) (n : Nat) (x : CanS) : (s.setCan n x).sw = s.sw := rfl
@[simp] theorem State.setCan_lanes (s : State) (n : Nat) (x : CanS) : (s.setCan n x).lanes = s.lanes := rfl
@[simp] theorem State.setCan_time (s : State) (n : Nat) (x : CanS) : (s.setCan n x).time = s.time := rfl
@[simp] theorem State.setCan_sched (s : State) (n : Nat) (x : CanS) : (s.setCan n x).sched = s.sched := rfl
@[simp] theorem State.setCan_snap (s : State) (n : Nat) (x : CanS) : (s.setCan n x).snap = s.snap := rfl
@[simp] theorem State.setCan_ports (s : State) (n : Nat) (x : CanS) : (s.setCan n x).ports = s.ports := rfl
@[simp] theorem State.setCan_clus (s : State) (n : Nat) (x : CanS) : (s.setCan n x).clus = s.clus := rfl
@[simp] theorem State.setCan_engs (s : State) (n : Nat) (x : CanS) : (s.setCan n x).engs = s.engs := rfl
@[simp] theorem State.setCan_wins (s : State) (n : Nat) (x : CanS) : (s.setCan n x).wins = s.wins := rfl
@[simp] theorem State.setCan_macs (s : State) (n : Nat) (x : CanS) : (s.setCan n x).macs = s.macs := rfl
@[simp] theorem State.setCan_hbr (s : State) (n : Nat) (x : CanS) : (s.setCan n x).hbr = s.hbr := rfl
@[simp] theorem State.setCan_pchs (s : State) (n : Nat) (x : CanS) : (s.setCan n x).pchs = s.pchs := rfl
@[simp] theorem State.setCan_wire (s : State) (n : Nat) (x : CanS) : (s.setCan n x).wire = s.wire := rfl
@[simp] theorem State.setCan_bypHold (s : State) (n : Nat) (x : CanS) : (s.setCan n x).bypHold = s.bypHold := rfl
@[simp] theorem State.setCan_rd (s : State) (n : Nat) (x : CanS) (r' : Reg) (i' j' : Nat) :
    (s.setCan n x).rd r' i' j' = s.rd r' i' j' := rfl
@[simp] theorem State.setCan_get (s : State) (n : Nat) (x : CanS) (g : Fld) (i' j' : Nat) :
    (s.setCan n x).get g i' j' = s.get g i' j' := rfl
@[simp] theorem State.setCan_is (s : State) (n : Nat) (x : CanS) (g : Fld) (i' j' : Nat) :
    (s.setCan n x).is g i' j' = s.is g i' j' := rfl
@[simp] theorem State.setCan_deadline (s : State) (n : Nat) (x : CanS) (t' : Timer) :
    (s.setCan n x).deadline t' = s.deadline t' := rfl

/-! ### setMac -/

@[simp] theorem State.setMac_now (s : State) (m : Nat) (x : MacS) : (s.setMac m x).now = s.now := rfl
@[simp] theorem State.setMac_freeIx (s : State) (m : Nat) (x : MacS) : (s.setMac m x).freeIx = s.freeIx := rfl
@[simp] theorem State.setMac_regs (s : State) (m : Nat) (x : MacS) : (s.setMac m x).regs = s.regs := rfl
@[simp] theorem State.setMac_timers (s : State) (m : Nat) (x : MacS) : (s.setMac m x).timers = s.timers := rfl
@[simp] theorem State.setMac_mode (s : State) (m : Nat) (x : MacS) : (s.setMac m x).mode = s.mode := rfl
@[simp] theorem State.setMac_ringAcc (s : State) (m : Nat) (x : MacS) : (s.setMac m x).ringAcc = s.ringAcc := rfl
@[simp] theorem State.setMac_mgt (s : State) (m : Nat) (x : MacS) : (s.setMac m x).mgt = s.mgt := rfl
@[simp] theorem State.setMac_flt (s : State) (m : Nat) (x : MacS) : (s.setMac m x).flt = s.flt := rfl
@[simp] theorem State.setMac_isl (s : State) (m : Nat) (x : MacS) : (s.setMac m x).isl = s.isl := rfl
@[simp] theorem State.setMac_boot (s : State) (m : Nat) (x : MacS) : (s.setMac m x).boot = s.boot := rfl
@[simp] theorem State.setMac_profiles (s : State) (m : Nat) (x : MacS) : (s.setMac m x).profiles = s.profiles := rfl
@[simp] theorem State.setMac_pair (s : State) (m : Nat) (x : MacS) : (s.setMac m x).pair = s.pair := rfl
@[simp] theorem State.setMac_cmd (s : State) (m : Nat) (x : MacS) : (s.setMac m x).cmd = s.cmd := rfl
@[simp] theorem State.setMac_upd (s : State) (m : Nat) (x : MacS) : (s.setMac m x).upd = s.upd := rfl
@[simp] theorem State.setMac_sec (s : State) (m : Nat) (x : MacS) : (s.setMac m x).sec = s.sec := rfl
@[simp] theorem State.setMac_ingress (s : State) (m : Nat) (x : MacS) : (s.setMac m x).ingress = s.ingress := rfl
@[simp] theorem State.setMac_sent (s : State) (m : Nat) (x : MacS) : (s.setMac m x).sent = s.sent := rfl
@[simp] theorem State.setMac_sw (s : State) (m : Nat) (x : MacS) : (s.setMac m x).sw = s.sw := rfl
@[simp] theorem State.setMac_lanes (s : State) (m : Nat) (x : MacS) : (s.setMac m x).lanes = s.lanes := rfl
@[simp] theorem State.setMac_time (s : State) (m : Nat) (x : MacS) : (s.setMac m x).time = s.time := rfl
@[simp] theorem State.setMac_sched (s : State) (m : Nat) (x : MacS) : (s.setMac m x).sched = s.sched := rfl
@[simp] theorem State.setMac_snap (s : State) (m : Nat) (x : MacS) : (s.setMac m x).snap = s.snap := rfl
@[simp] theorem State.setMac_ports (s : State) (m : Nat) (x : MacS) : (s.setMac m x).ports = s.ports := rfl
@[simp] theorem State.setMac_clus (s : State) (m : Nat) (x : MacS) : (s.setMac m x).clus = s.clus := rfl
@[simp] theorem State.setMac_engs (s : State) (m : Nat) (x : MacS) : (s.setMac m x).engs = s.engs := rfl
@[simp] theorem State.setMac_wins (s : State) (m : Nat) (x : MacS) : (s.setMac m x).wins = s.wins := rfl
@[simp] theorem State.setMac_cans (s : State) (m : Nat) (x : MacS) : (s.setMac m x).cans = s.cans := rfl
@[simp] theorem State.setMac_hbr (s : State) (m : Nat) (x : MacS) : (s.setMac m x).hbr = s.hbr := rfl
@[simp] theorem State.setMac_pchs (s : State) (m : Nat) (x : MacS) : (s.setMac m x).pchs = s.pchs := rfl
@[simp] theorem State.setMac_wire (s : State) (m : Nat) (x : MacS) : (s.setMac m x).wire = s.wire := rfl
@[simp] theorem State.setMac_bypHold (s : State) (m : Nat) (x : MacS) : (s.setMac m x).bypHold = s.bypHold := rfl
@[simp] theorem State.setMac_rd (s : State) (m : Nat) (x : MacS) (r' : Reg) (i' j' : Nat) :
    (s.setMac m x).rd r' i' j' = s.rd r' i' j' := rfl
@[simp] theorem State.setMac_get (s : State) (m : Nat) (x : MacS) (g : Fld) (i' j' : Nat) :
    (s.setMac m x).get g i' j' = s.get g i' j' := rfl
@[simp] theorem State.setMac_is (s : State) (m : Nat) (x : MacS) (g : Fld) (i' j' : Nat) :
    (s.setMac m x).is g i' j' = s.is g i' j' := rfl
@[simp] theorem State.setMac_deadline (s : State) (m : Nat) (x : MacS) (t' : Timer) :
    (s.setMac m x).deadline t' = s.deadline t' := rfl

/-! ### setPch -/

@[simp] theorem State.setPch_now (s : State) (c : Nat) (x : PchS) : (s.setPch c x).now = s.now := rfl
@[simp] theorem State.setPch_freeIx (s : State) (c : Nat) (x : PchS) : (s.setPch c x).freeIx = s.freeIx := rfl
@[simp] theorem State.setPch_regs (s : State) (c : Nat) (x : PchS) : (s.setPch c x).regs = s.regs := rfl
@[simp] theorem State.setPch_timers (s : State) (c : Nat) (x : PchS) : (s.setPch c x).timers = s.timers := rfl
@[simp] theorem State.setPch_mode (s : State) (c : Nat) (x : PchS) : (s.setPch c x).mode = s.mode := rfl
@[simp] theorem State.setPch_ringAcc (s : State) (c : Nat) (x : PchS) : (s.setPch c x).ringAcc = s.ringAcc := rfl
@[simp] theorem State.setPch_mgt (s : State) (c : Nat) (x : PchS) : (s.setPch c x).mgt = s.mgt := rfl
@[simp] theorem State.setPch_flt (s : State) (c : Nat) (x : PchS) : (s.setPch c x).flt = s.flt := rfl
@[simp] theorem State.setPch_isl (s : State) (c : Nat) (x : PchS) : (s.setPch c x).isl = s.isl := rfl
@[simp] theorem State.setPch_boot (s : State) (c : Nat) (x : PchS) : (s.setPch c x).boot = s.boot := rfl
@[simp] theorem State.setPch_profiles (s : State) (c : Nat) (x : PchS) : (s.setPch c x).profiles = s.profiles := rfl
@[simp] theorem State.setPch_pair (s : State) (c : Nat) (x : PchS) : (s.setPch c x).pair = s.pair := rfl
@[simp] theorem State.setPch_cmd (s : State) (c : Nat) (x : PchS) : (s.setPch c x).cmd = s.cmd := rfl
@[simp] theorem State.setPch_upd (s : State) (c : Nat) (x : PchS) : (s.setPch c x).upd = s.upd := rfl
@[simp] theorem State.setPch_sec (s : State) (c : Nat) (x : PchS) : (s.setPch c x).sec = s.sec := rfl
@[simp] theorem State.setPch_ingress (s : State) (c : Nat) (x : PchS) : (s.setPch c x).ingress = s.ingress := rfl
@[simp] theorem State.setPch_sent (s : State) (c : Nat) (x : PchS) : (s.setPch c x).sent = s.sent := rfl
@[simp] theorem State.setPch_sw (s : State) (c : Nat) (x : PchS) : (s.setPch c x).sw = s.sw := rfl
@[simp] theorem State.setPch_lanes (s : State) (c : Nat) (x : PchS) : (s.setPch c x).lanes = s.lanes := rfl
@[simp] theorem State.setPch_time (s : State) (c : Nat) (x : PchS) : (s.setPch c x).time = s.time := rfl
@[simp] theorem State.setPch_sched (s : State) (c : Nat) (x : PchS) : (s.setPch c x).sched = s.sched := rfl
@[simp] theorem State.setPch_snap (s : State) (c : Nat) (x : PchS) : (s.setPch c x).snap = s.snap := rfl
@[simp] theorem State.setPch_ports (s : State) (c : Nat) (x : PchS) : (s.setPch c x).ports = s.ports := rfl
@[simp] theorem State.setPch_clus (s : State) (c : Nat) (x : PchS) : (s.setPch c x).clus = s.clus := rfl
@[simp] theorem State.setPch_engs (s : State) (c : Nat) (x : PchS) : (s.setPch c x).engs = s.engs := rfl
@[simp] theorem State.setPch_wins (s : State) (c : Nat) (x : PchS) : (s.setPch c x).wins = s.wins := rfl
@[simp] theorem State.setPch_cans (s : State) (c : Nat) (x : PchS) : (s.setPch c x).cans = s.cans := rfl
@[simp] theorem State.setPch_macs (s : State) (c : Nat) (x : PchS) : (s.setPch c x).macs = s.macs := rfl
@[simp] theorem State.setPch_hbr (s : State) (c : Nat) (x : PchS) : (s.setPch c x).hbr = s.hbr := rfl
@[simp] theorem State.setPch_wire (s : State) (c : Nat) (x : PchS) : (s.setPch c x).wire = s.wire := rfl
@[simp] theorem State.setPch_bypHold (s : State) (c : Nat) (x : PchS) : (s.setPch c x).bypHold = s.bypHold := rfl
@[simp] theorem State.setPch_rd (s : State) (c : Nat) (x : PchS) (r' : Reg) (i' j' : Nat) :
    (s.setPch c x).rd r' i' j' = s.rd r' i' j' := rfl
@[simp] theorem State.setPch_get (s : State) (c : Nat) (x : PchS) (g : Fld) (i' j' : Nat) :
    (s.setPch c x).get g i' j' = s.get g i' j' := rfl
@[simp] theorem State.setPch_is (s : State) (c : Nat) (x : PchS) (g : Fld) (i' j' : Nat) :
    (s.setPch c x).is g i' j' = s.is g i' j' := rfl
@[simp] theorem State.setPch_deadline (s : State) (c : Nat) (x : PchS) (t' : Timer) :
    (s.setPch c x).deadline t' = s.deadline t' := rfl

/-! ### setHbr -/

@[simp] theorem State.setHbr_now (s : State) (h : HbrS) : (s.setHbr h).now = s.now := rfl
@[simp] theorem State.setHbr_freeIx (s : State) (h : HbrS) : (s.setHbr h).freeIx = s.freeIx := rfl
@[simp] theorem State.setHbr_regs (s : State) (h : HbrS) : (s.setHbr h).regs = s.regs := rfl
@[simp] theorem State.setHbr_timers (s : State) (h : HbrS) : (s.setHbr h).timers = s.timers := rfl
@[simp] theorem State.setHbr_mode (s : State) (h : HbrS) : (s.setHbr h).mode = s.mode := rfl
@[simp] theorem State.setHbr_ringAcc (s : State) (h : HbrS) : (s.setHbr h).ringAcc = s.ringAcc := rfl
@[simp] theorem State.setHbr_mgt (s : State) (h : HbrS) : (s.setHbr h).mgt = s.mgt := rfl
@[simp] theorem State.setHbr_flt (s : State) (h : HbrS) : (s.setHbr h).flt = s.flt := rfl
@[simp] theorem State.setHbr_isl (s : State) (h : HbrS) : (s.setHbr h).isl = s.isl := rfl
@[simp] theorem State.setHbr_boot (s : State) (h : HbrS) : (s.setHbr h).boot = s.boot := rfl
@[simp] theorem State.setHbr_profiles (s : State) (h : HbrS) : (s.setHbr h).profiles = s.profiles := rfl
@[simp] theorem State.setHbr_pair (s : State) (h : HbrS) : (s.setHbr h).pair = s.pair := rfl
@[simp] theorem State.setHbr_cmd (s : State) (h : HbrS) : (s.setHbr h).cmd = s.cmd := rfl
@[simp] theorem State.setHbr_upd (s : State) (h : HbrS) : (s.setHbr h).upd = s.upd := rfl
@[simp] theorem State.setHbr_sec (s : State) (h : HbrS) : (s.setHbr h).sec = s.sec := rfl
@[simp] theorem State.setHbr_ingress (s : State) (h : HbrS) : (s.setHbr h).ingress = s.ingress := rfl
@[simp] theorem State.setHbr_sent (s : State) (h : HbrS) : (s.setHbr h).sent = s.sent := rfl
@[simp] theorem State.setHbr_sw (s : State) (h : HbrS) : (s.setHbr h).sw = s.sw := rfl
@[simp] theorem State.setHbr_lanes (s : State) (h : HbrS) : (s.setHbr h).lanes = s.lanes := rfl
@[simp] theorem State.setHbr_time (s : State) (h : HbrS) : (s.setHbr h).time = s.time := rfl
@[simp] theorem State.setHbr_sched (s : State) (h : HbrS) : (s.setHbr h).sched = s.sched := rfl
@[simp] theorem State.setHbr_snap (s : State) (h : HbrS) : (s.setHbr h).snap = s.snap := rfl
@[simp] theorem State.setHbr_ports (s : State) (h : HbrS) : (s.setHbr h).ports = s.ports := rfl
@[simp] theorem State.setHbr_clus (s : State) (h : HbrS) : (s.setHbr h).clus = s.clus := rfl
@[simp] theorem State.setHbr_engs (s : State) (h : HbrS) : (s.setHbr h).engs = s.engs := rfl
@[simp] theorem State.setHbr_wins (s : State) (h : HbrS) : (s.setHbr h).wins = s.wins := rfl
@[simp] theorem State.setHbr_cans (s : State) (h : HbrS) : (s.setHbr h).cans = s.cans := rfl
@[simp] theorem State.setHbr_macs (s : State) (h : HbrS) : (s.setHbr h).macs = s.macs := rfl
@[simp] theorem State.setHbr_pchs (s : State) (h : HbrS) : (s.setHbr h).pchs = s.pchs := rfl
@[simp] theorem State.setHbr_wire (s : State) (h : HbrS) : (s.setHbr h).wire = s.wire := rfl
@[simp] theorem State.setHbr_bypHold (s : State) (h : HbrS) : (s.setHbr h).bypHold = s.bypHold := rfl
@[simp] theorem State.setHbr_rd (s : State) (h : HbrS) (r' : Reg) (i' j' : Nat) :
    (s.setHbr h).rd r' i' j' = s.rd r' i' j' := rfl
@[simp] theorem State.setHbr_get (s : State) (h : HbrS) (g : Fld) (i' j' : Nat) :
    (s.setHbr h).get g i' j' = s.get g i' j' := rfl
@[simp] theorem State.setHbr_is (s : State) (h : HbrS) (g : Fld) (i' j' : Nat) :
    (s.setHbr h).is g i' j' = s.is g i' j' := rfl
@[simp] theorem State.setHbr_deadline (s : State) (h : HbrS) (t' : Timer) :
    (s.setHbr h).deadline t' = s.deadline t' := rfl

/-! ### setCtx -/

@[simp] theorem State.setCtx_now (s : State) (k : Nat) (c : PressCtx) : (s.setCtx k c).now = s.now := rfl
@[simp] theorem State.setCtx_freeIx (s : State) (k : Nat) (c : PressCtx) : (s.setCtx k c).freeIx = s.freeIx := rfl
@[simp] theorem State.setCtx_regs (s : State) (k : Nat) (c : PressCtx) : (s.setCtx k c).regs = s.regs := rfl
@[simp] theorem State.setCtx_timers (s : State) (k : Nat) (c : PressCtx) : (s.setCtx k c).timers = s.timers := rfl
@[simp] theorem State.setCtx_mode (s : State) (k : Nat) (c : PressCtx) : (s.setCtx k c).mode = s.mode := rfl
@[simp] theorem State.setCtx_ringAcc (s : State) (k : Nat) (c : PressCtx) : (s.setCtx k c).ringAcc = s.ringAcc := rfl
@[simp] theorem State.setCtx_mgt (s : State) (k : Nat) (c : PressCtx) : (s.setCtx k c).mgt = s.mgt := rfl
@[simp] theorem State.setCtx_flt (s : State) (k : Nat) (c : PressCtx) : (s.setCtx k c).flt = s.flt := rfl
@[simp] theorem State.setCtx_isl (s : State) (k : Nat) (c : PressCtx) : (s.setCtx k c).isl = s.isl := rfl
@[simp] theorem State.setCtx_boot (s : State) (k : Nat) (c : PressCtx) : (s.setCtx k c).boot = s.boot := rfl
@[simp] theorem State.setCtx_profiles (s : State) (k : Nat) (c : PressCtx) : (s.setCtx k c).profiles = s.profiles := rfl
@[simp] theorem State.setCtx_pair (s : State) (k : Nat) (c : PressCtx) : (s.setCtx k c).pair = s.pair := rfl
@[simp] theorem State.setCtx_cmd (s : State) (k : Nat) (c : PressCtx) : (s.setCtx k c).cmd = s.cmd := rfl
@[simp] theorem State.setCtx_upd (s : State) (k : Nat) (c : PressCtx) : (s.setCtx k c).upd = s.upd := rfl
@[simp] theorem State.setCtx_sec (s : State) (k : Nat) (c : PressCtx) : (s.setCtx k c).sec = s.sec := rfl
@[simp] theorem State.setCtx_ingress (s : State) (k : Nat) (c : PressCtx) : (s.setCtx k c).ingress = s.ingress := rfl
@[simp] theorem State.setCtx_sent (s : State) (k : Nat) (c : PressCtx) : (s.setCtx k c).sent = s.sent := rfl
@[simp] theorem State.setCtx_lanes (s : State) (k : Nat) (c : PressCtx) : (s.setCtx k c).lanes = s.lanes := rfl
@[simp] theorem State.setCtx_time (s : State) (k : Nat) (c : PressCtx) : (s.setCtx k c).time = s.time := rfl
@[simp] theorem State.setCtx_sched (s : State) (k : Nat) (c : PressCtx) : (s.setCtx k c).sched = s.sched := rfl
@[simp] theorem State.setCtx_snap (s : State) (k : Nat) (c : PressCtx) : (s.setCtx k c).snap = s.snap := rfl
@[simp] theorem State.setCtx_ports (s : State) (k : Nat) (c : PressCtx) : (s.setCtx k c).ports = s.ports := rfl
@[simp] theorem State.setCtx_clus (s : State) (k : Nat) (c : PressCtx) : (s.setCtx k c).clus = s.clus := rfl
@[simp] theorem State.setCtx_engs (s : State) (k : Nat) (c : PressCtx) : (s.setCtx k c).engs = s.engs := rfl
@[simp] theorem State.setCtx_wins (s : State) (k : Nat) (c : PressCtx) : (s.setCtx k c).wins = s.wins := rfl
@[simp] theorem State.setCtx_cans (s : State) (k : Nat) (c : PressCtx) : (s.setCtx k c).cans = s.cans := rfl
@[simp] theorem State.setCtx_macs (s : State) (k : Nat) (c : PressCtx) : (s.setCtx k c).macs = s.macs := rfl
@[simp] theorem State.setCtx_hbr (s : State) (k : Nat) (c : PressCtx) : (s.setCtx k c).hbr = s.hbr := rfl
@[simp] theorem State.setCtx_pchs (s : State) (k : Nat) (c : PressCtx) : (s.setCtx k c).pchs = s.pchs := rfl
@[simp] theorem State.setCtx_wire (s : State) (k : Nat) (c : PressCtx) : (s.setCtx k c).wire = s.wire := rfl
@[simp] theorem State.setCtx_bypHold (s : State) (k : Nat) (c : PressCtx) : (s.setCtx k c).bypHold = s.bypHold := rfl
@[simp] theorem State.setCtx_rd (s : State) (k : Nat) (c : PressCtx) (r' : Reg) (i' j' : Nat) :
    (s.setCtx k c).rd r' i' j' = s.rd r' i' j' := rfl
@[simp] theorem State.setCtx_get (s : State) (k : Nat) (c : PressCtx) (g : Fld) (i' j' : Nat) :
    (s.setCtx k c).get g i' j' = s.get g i' j' := rfl
@[simp] theorem State.setCtx_is (s : State) (k : Nat) (c : PressCtx) (g : Fld) (i' j' : Nat) :
    (s.setCtx k c).is g i' j' = s.is g i' j' := rfl
@[simp] theorem State.setCtx_deadline (s : State) (k : Nat) (c : PressCtx) (t' : Timer) :
    (s.setCtx k c).deadline t' = s.deadline t' := rfl

/-! ### setUnit -/

@[simp] theorem State.setUnit_now (s : State) (u : Nat) (v : VUnit) : (s.setUnit u v).now = s.now := rfl
@[simp] theorem State.setUnit_freeIx (s : State) (u : Nat) (v : VUnit) : (s.setUnit u v).freeIx = s.freeIx := rfl
@[simp] theorem State.setUnit_regs (s : State) (u : Nat) (v : VUnit) : (s.setUnit u v).regs = s.regs := rfl
@[simp] theorem State.setUnit_timers (s : State) (u : Nat) (v : VUnit) : (s.setUnit u v).timers = s.timers := rfl
@[simp] theorem State.setUnit_mode (s : State) (u : Nat) (v : VUnit) : (s.setUnit u v).mode = s.mode := rfl
@[simp] theorem State.setUnit_ringAcc (s : State) (u : Nat) (v : VUnit) : (s.setUnit u v).ringAcc = s.ringAcc := rfl
@[simp] theorem State.setUnit_mgt (s : State) (u : Nat) (v : VUnit) : (s.setUnit u v).mgt = s.mgt := rfl
@[simp] theorem State.setUnit_flt (s : State) (u : Nat) (v : VUnit) : (s.setUnit u v).flt = s.flt := rfl
@[simp] theorem State.setUnit_isl (s : State) (u : Nat) (v : VUnit) : (s.setUnit u v).isl = s.isl := rfl
@[simp] theorem State.setUnit_boot (s : State) (u : Nat) (v : VUnit) : (s.setUnit u v).boot = s.boot := rfl
@[simp] theorem State.setUnit_profiles (s : State) (u : Nat) (v : VUnit) : (s.setUnit u v).profiles = s.profiles := rfl
@[simp] theorem State.setUnit_pair (s : State) (u : Nat) (v : VUnit) : (s.setUnit u v).pair = s.pair := rfl
@[simp] theorem State.setUnit_cmd (s : State) (u : Nat) (v : VUnit) : (s.setUnit u v).cmd = s.cmd := rfl
@[simp] theorem State.setUnit_upd (s : State) (u : Nat) (v : VUnit) : (s.setUnit u v).upd = s.upd := rfl
@[simp] theorem State.setUnit_sec (s : State) (u : Nat) (v : VUnit) : (s.setUnit u v).sec = s.sec := rfl
@[simp] theorem State.setUnit_ingress (s : State) (u : Nat) (v : VUnit) : (s.setUnit u v).ingress = s.ingress := rfl
@[simp] theorem State.setUnit_sent (s : State) (u : Nat) (v : VUnit) : (s.setUnit u v).sent = s.sent := rfl
@[simp] theorem State.setUnit_lanes (s : State) (u : Nat) (v : VUnit) : (s.setUnit u v).lanes = s.lanes := rfl
@[simp] theorem State.setUnit_time (s : State) (u : Nat) (v : VUnit) : (s.setUnit u v).time = s.time := rfl
@[simp] theorem State.setUnit_sched (s : State) (u : Nat) (v : VUnit) : (s.setUnit u v).sched = s.sched := rfl
@[simp] theorem State.setUnit_snap (s : State) (u : Nat) (v : VUnit) : (s.setUnit u v).snap = s.snap := rfl
@[simp] theorem State.setUnit_ports (s : State) (u : Nat) (v : VUnit) : (s.setUnit u v).ports = s.ports := rfl
@[simp] theorem State.setUnit_clus (s : State) (u : Nat) (v : VUnit) : (s.setUnit u v).clus = s.clus := rfl
@[simp] theorem State.setUnit_engs (s : State) (u : Nat) (v : VUnit) : (s.setUnit u v).engs = s.engs := rfl
@[simp] theorem State.setUnit_wins (s : State) (u : Nat) (v : VUnit) : (s.setUnit u v).wins = s.wins := rfl
@[simp] theorem State.setUnit_cans (s : State) (u : Nat) (v : VUnit) : (s.setUnit u v).cans = s.cans := rfl
@[simp] theorem State.setUnit_macs (s : State) (u : Nat) (v : VUnit) : (s.setUnit u v).macs = s.macs := rfl
@[simp] theorem State.setUnit_hbr (s : State) (u : Nat) (v : VUnit) : (s.setUnit u v).hbr = s.hbr := rfl
@[simp] theorem State.setUnit_pchs (s : State) (u : Nat) (v : VUnit) : (s.setUnit u v).pchs = s.pchs := rfl
@[simp] theorem State.setUnit_wire (s : State) (u : Nat) (v : VUnit) : (s.setUnit u v).wire = s.wire := rfl
@[simp] theorem State.setUnit_bypHold (s : State) (u : Nat) (v : VUnit) : (s.setUnit u v).bypHold = s.bypHold := rfl
@[simp] theorem State.setUnit_rd (s : State) (u : Nat) (v : VUnit) (r' : Reg) (i' j' : Nat) :
    (s.setUnit u v).rd r' i' j' = s.rd r' i' j' := rfl
@[simp] theorem State.setUnit_get (s : State) (u : Nat) (v : VUnit) (g : Fld) (i' j' : Nat) :
    (s.setUnit u v).get g i' j' = s.get g i' j' := rfl
@[simp] theorem State.setUnit_is (s : State) (u : Nat) (v : VUnit) (g : Fld) (i' j' : Nat) :
    (s.setUnit u v).is g i' j' = s.is g i' j' := rfl
@[simp] theorem State.setUnit_deadline (s : State) (u : Nat) (v : VUnit) (t' : Timer) :
    (s.setUnit u v).deadline t' = s.deadline t' := rfl

/-! ### setQueue -/

@[simp] theorem State.setQueue_now (s : State) (q : Nat) (l : List Link) : (s.setQueue q l).now = s.now := rfl
@[simp] theorem State.setQueue_freeIx (s : State) (q : Nat) (l : List Link) : (s.setQueue q l).freeIx = s.freeIx := rfl
@[simp] theorem State.setQueue_regs (s : State) (q : Nat) (l : List Link) : (s.setQueue q l).regs = s.regs := rfl
@[simp] theorem State.setQueue_timers (s : State) (q : Nat) (l : List Link) : (s.setQueue q l).timers = s.timers := rfl
@[simp] theorem State.setQueue_mode (s : State) (q : Nat) (l : List Link) : (s.setQueue q l).mode = s.mode := rfl
@[simp] theorem State.setQueue_ringAcc (s : State) (q : Nat) (l : List Link) : (s.setQueue q l).ringAcc = s.ringAcc := rfl
@[simp] theorem State.setQueue_mgt (s : State) (q : Nat) (l : List Link) : (s.setQueue q l).mgt = s.mgt := rfl
@[simp] theorem State.setQueue_flt (s : State) (q : Nat) (l : List Link) : (s.setQueue q l).flt = s.flt := rfl
@[simp] theorem State.setQueue_isl (s : State) (q : Nat) (l : List Link) : (s.setQueue q l).isl = s.isl := rfl
@[simp] theorem State.setQueue_boot (s : State) (q : Nat) (l : List Link) : (s.setQueue q l).boot = s.boot := rfl
@[simp] theorem State.setQueue_profiles (s : State) (q : Nat) (l : List Link) : (s.setQueue q l).profiles = s.profiles := rfl
@[simp] theorem State.setQueue_pair (s : State) (q : Nat) (l : List Link) : (s.setQueue q l).pair = s.pair := rfl
@[simp] theorem State.setQueue_cmd (s : State) (q : Nat) (l : List Link) : (s.setQueue q l).cmd = s.cmd := rfl
@[simp] theorem State.setQueue_upd (s : State) (q : Nat) (l : List Link) : (s.setQueue q l).upd = s.upd := rfl
@[simp] theorem State.setQueue_sec (s : State) (q : Nat) (l : List Link) : (s.setQueue q l).sec = s.sec := rfl
@[simp] theorem State.setQueue_ingress (s : State) (q : Nat) (l : List Link) : (s.setQueue q l).ingress = s.ingress := rfl
@[simp] theorem State.setQueue_sent (s : State) (q : Nat) (l : List Link) : (s.setQueue q l).sent = s.sent := rfl
@[simp] theorem State.setQueue_lanes (s : State) (q : Nat) (l : List Link) : (s.setQueue q l).lanes = s.lanes := rfl
@[simp] theorem State.setQueue_time (s : State) (q : Nat) (l : List Link) : (s.setQueue q l).time = s.time := rfl
@[simp] theorem State.setQueue_sched (s : State) (q : Nat) (l : List Link) : (s.setQueue q l).sched = s.sched := rfl
@[simp] theorem State.setQueue_snap (s : State) (q : Nat) (l : List Link) : (s.setQueue q l).snap = s.snap := rfl
@[simp] theorem State.setQueue_ports (s : State) (q : Nat) (l : List Link) : (s.setQueue q l).ports = s.ports := rfl
@[simp] theorem State.setQueue_clus (s : State) (q : Nat) (l : List Link) : (s.setQueue q l).clus = s.clus := rfl
@[simp] theorem State.setQueue_engs (s : State) (q : Nat) (l : List Link) : (s.setQueue q l).engs = s.engs := rfl
@[simp] theorem State.setQueue_wins (s : State) (q : Nat) (l : List Link) : (s.setQueue q l).wins = s.wins := rfl
@[simp] theorem State.setQueue_cans (s : State) (q : Nat) (l : List Link) : (s.setQueue q l).cans = s.cans := rfl
@[simp] theorem State.setQueue_macs (s : State) (q : Nat) (l : List Link) : (s.setQueue q l).macs = s.macs := rfl
@[simp] theorem State.setQueue_hbr (s : State) (q : Nat) (l : List Link) : (s.setQueue q l).hbr = s.hbr := rfl
@[simp] theorem State.setQueue_pchs (s : State) (q : Nat) (l : List Link) : (s.setQueue q l).pchs = s.pchs := rfl
@[simp] theorem State.setQueue_wire (s : State) (q : Nat) (l : List Link) : (s.setQueue q l).wire = s.wire := rfl
@[simp] theorem State.setQueue_bypHold (s : State) (q : Nat) (l : List Link) : (s.setQueue q l).bypHold = s.bypHold := rfl
@[simp] theorem State.setQueue_rd (s : State) (q : Nat) (l : List Link) (r' : Reg) (i' j' : Nat) :
    (s.setQueue q l).rd r' i' j' = s.rd r' i' j' := rfl
@[simp] theorem State.setQueue_get (s : State) (q : Nat) (l : List Link) (g : Fld) (i' j' : Nat) :
    (s.setQueue q l).get g i' j' = s.get g i' j' := rfl
@[simp] theorem State.setQueue_is (s : State) (q : Nat) (l : List Link) (g : Fld) (i' j' : Nat) :
    (s.setQueue q l).is g i' j' = s.is g i' j' := rfl
@[simp] theorem State.setQueue_deadline (s : State) (q : Nat) (l : List Link) (t' : Timer) :
    (s.setQueue q l).deadline t' = s.deadline t' := rfl

/-! ### setResidue -/

@[simp] theorem State.setResidue_now (s : State) (q : Nat) (l : List ResEntry) : (s.setResidue q l).now = s.now := rfl
@[simp] theorem State.setResidue_freeIx (s : State) (q : Nat) (l : List ResEntry) : (s.setResidue q l).freeIx = s.freeIx := rfl
@[simp] theorem State.setResidue_regs (s : State) (q : Nat) (l : List ResEntry) : (s.setResidue q l).regs = s.regs := rfl
@[simp] theorem State.setResidue_timers (s : State) (q : Nat) (l : List ResEntry) : (s.setResidue q l).timers = s.timers := rfl
@[simp] theorem State.setResidue_mode (s : State) (q : Nat) (l : List ResEntry) : (s.setResidue q l).mode = s.mode := rfl
@[simp] theorem State.setResidue_ringAcc (s : State) (q : Nat) (l : List ResEntry) : (s.setResidue q l).ringAcc = s.ringAcc := rfl
@[simp] theorem State.setResidue_mgt (s : State) (q : Nat) (l : List ResEntry) : (s.setResidue q l).mgt = s.mgt := rfl
@[simp] theorem State.setResidue_flt (s : State) (q : Nat) (l : List ResEntry) : (s.setResidue q l).flt = s.flt := rfl
@[simp] theorem State.setResidue_isl (s : State) (q : Nat) (l : List ResEntry) : (s.setResidue q l).isl = s.isl := rfl
@[simp] theorem State.setResidue_boot (s : State) (q : Nat) (l : List ResEntry) : (s.setResidue q l).boot = s.boot := rfl
@[simp] theorem State.setResidue_profiles (s : State) (q : Nat) (l : List ResEntry) : (s.setResidue q l).profiles = s.profiles := rfl
@[simp] theorem State.setResidue_pair (s : State) (q : Nat) (l : List ResEntry) : (s.setResidue q l).pair = s.pair := rfl
@[simp] theorem State.setResidue_cmd (s : State) (q : Nat) (l : List ResEntry) : (s.setResidue q l).cmd = s.cmd := rfl
@[simp] theorem State.setResidue_upd (s : State) (q : Nat) (l : List ResEntry) : (s.setResidue q l).upd = s.upd := rfl
@[simp] theorem State.setResidue_sec (s : State) (q : Nat) (l : List ResEntry) : (s.setResidue q l).sec = s.sec := rfl
@[simp] theorem State.setResidue_ingress (s : State) (q : Nat) (l : List ResEntry) : (s.setResidue q l).ingress = s.ingress := rfl
@[simp] theorem State.setResidue_sent (s : State) (q : Nat) (l : List ResEntry) : (s.setResidue q l).sent = s.sent := rfl
@[simp] theorem State.setResidue_lanes (s : State) (q : Nat) (l : List ResEntry) : (s.setResidue q l).lanes = s.lanes := rfl
@[simp] theorem State.setResidue_time (s : State) (q : Nat) (l : List ResEntry) : (s.setResidue q l).time = s.time := rfl
@[simp] theorem State.setResidue_sched (s : State) (q : Nat) (l : List ResEntry) : (s.setResidue q l).sched = s.sched := rfl
@[simp] theorem State.setResidue_snap (s : State) (q : Nat) (l : List ResEntry) : (s.setResidue q l).snap = s.snap := rfl
@[simp] theorem State.setResidue_ports (s : State) (q : Nat) (l : List ResEntry) : (s.setResidue q l).ports = s.ports := rfl
@[simp] theorem State.setResidue_clus (s : State) (q : Nat) (l : List ResEntry) : (s.setResidue q l).clus = s.clus := rfl
@[simp] theorem State.setResidue_engs (s : State) (q : Nat) (l : List ResEntry) : (s.setResidue q l).engs = s.engs := rfl
@[simp] theorem State.setResidue_wins (s : State) (q : Nat) (l : List ResEntry) : (s.setResidue q l).wins = s.wins := rfl
@[simp] theorem State.setResidue_cans (s : State) (q : Nat) (l : List ResEntry) : (s.setResidue q l).cans = s.cans := rfl
@[simp] theorem State.setResidue_macs (s : State) (q : Nat) (l : List ResEntry) : (s.setResidue q l).macs = s.macs := rfl
@[simp] theorem State.setResidue_hbr (s : State) (q : Nat) (l : List ResEntry) : (s.setResidue q l).hbr = s.hbr := rfl
@[simp] theorem State.setResidue_pchs (s : State) (q : Nat) (l : List ResEntry) : (s.setResidue q l).pchs = s.pchs := rfl
@[simp] theorem State.setResidue_wire (s : State) (q : Nat) (l : List ResEntry) : (s.setResidue q l).wire = s.wire := rfl
@[simp] theorem State.setResidue_bypHold (s : State) (q : Nat) (l : List ResEntry) : (s.setResidue q l).bypHold = s.bypHold := rfl
@[simp] theorem State.setResidue_rd (s : State) (q : Nat) (l : List ResEntry) (r' : Reg) (i' j' : Nat) :
    (s.setResidue q l).rd r' i' j' = s.rd r' i' j' := rfl
@[simp] theorem State.setResidue_get (s : State) (q : Nat) (l : List ResEntry) (g : Fld) (i' j' : Nat) :
    (s.setResidue q l).get g i' j' = s.get g i' j' := rfl
@[simp] theorem State.setResidue_is (s : State) (q : Nat) (l : List ResEntry) (g : Fld) (i' j' : Nat) :
    (s.setResidue q l).is g i' j' = s.is g i' j' := rfl
@[simp] theorem State.setResidue_deadline (s : State) (q : Nat) (l : List ResEntry) (t' : Timer) :
    (s.setResidue q l).deadline t' = s.deadline t' := rfl

/-! ### setTlane -/

@[simp] theorem State.setTlane_now (s : State) (l : Nat) (x : TLane) : (s.setTlane l x).now = s.now := rfl
@[simp] theorem State.setTlane_freeIx (s : State) (l : Nat) (x : TLane) : (s.setTlane l x).freeIx = s.freeIx := rfl
@[simp] theorem State.setTlane_regs (s : State) (l : Nat) (x : TLane) : (s.setTlane l x).regs = s.regs := rfl
@[simp] theorem State.setTlane_timers (s : State) (l : Nat) (x : TLane) : (s.setTlane l x).timers = s.timers := rfl
@[simp] theorem State.setTlane_mode (s : State) (l : Nat) (x : TLane) : (s.setTlane l x).mode = s.mode := rfl
@[simp] theorem State.setTlane_ringAcc (s : State) (l : Nat) (x : TLane) : (s.setTlane l x).ringAcc = s.ringAcc := rfl
@[simp] theorem State.setTlane_mgt (s : State) (l : Nat) (x : TLane) : (s.setTlane l x).mgt = s.mgt := rfl
@[simp] theorem State.setTlane_flt (s : State) (l : Nat) (x : TLane) : (s.setTlane l x).flt = s.flt := rfl
@[simp] theorem State.setTlane_isl (s : State) (l : Nat) (x : TLane) : (s.setTlane l x).isl = s.isl := rfl
@[simp] theorem State.setTlane_boot (s : State) (l : Nat) (x : TLane) : (s.setTlane l x).boot = s.boot := rfl
@[simp] theorem State.setTlane_profiles (s : State) (l : Nat) (x : TLane) : (s.setTlane l x).profiles = s.profiles := rfl
@[simp] theorem State.setTlane_pair (s : State) (l : Nat) (x : TLane) : (s.setTlane l x).pair = s.pair := rfl
@[simp] theorem State.setTlane_cmd (s : State) (l : Nat) (x : TLane) : (s.setTlane l x).cmd = s.cmd := rfl
@[simp] theorem State.setTlane_upd (s : State) (l : Nat) (x : TLane) : (s.setTlane l x).upd = s.upd := rfl
@[simp] theorem State.setTlane_sec (s : State) (l : Nat) (x : TLane) : (s.setTlane l x).sec = s.sec := rfl
@[simp] theorem State.setTlane_ingress (s : State) (l : Nat) (x : TLane) : (s.setTlane l x).ingress = s.ingress := rfl
@[simp] theorem State.setTlane_sent (s : State) (l : Nat) (x : TLane) : (s.setTlane l x).sent = s.sent := rfl
@[simp] theorem State.setTlane_sw (s : State) (l : Nat) (x : TLane) : (s.setTlane l x).sw = s.sw := rfl
@[simp] theorem State.setTlane_lanes (s : State) (l : Nat) (x : TLane) : (s.setTlane l x).lanes = s.lanes := rfl
@[simp] theorem State.setTlane_sched (s : State) (l : Nat) (x : TLane) : (s.setTlane l x).sched = s.sched := rfl
@[simp] theorem State.setTlane_snap (s : State) (l : Nat) (x : TLane) : (s.setTlane l x).snap = s.snap := rfl
@[simp] theorem State.setTlane_ports (s : State) (l : Nat) (x : TLane) : (s.setTlane l x).ports = s.ports := rfl
@[simp] theorem State.setTlane_clus (s : State) (l : Nat) (x : TLane) : (s.setTlane l x).clus = s.clus := rfl
@[simp] theorem State.setTlane_engs (s : State) (l : Nat) (x : TLane) : (s.setTlane l x).engs = s.engs := rfl
@[simp] theorem State.setTlane_wins (s : State) (l : Nat) (x : TLane) : (s.setTlane l x).wins = s.wins := rfl
@[simp] theorem State.setTlane_cans (s : State) (l : Nat) (x : TLane) : (s.setTlane l x).cans = s.cans := rfl
@[simp] theorem State.setTlane_macs (s : State) (l : Nat) (x : TLane) : (s.setTlane l x).macs = s.macs := rfl
@[simp] theorem State.setTlane_hbr (s : State) (l : Nat) (x : TLane) : (s.setTlane l x).hbr = s.hbr := rfl
@[simp] theorem State.setTlane_pchs (s : State) (l : Nat) (x : TLane) : (s.setTlane l x).pchs = s.pchs := rfl
@[simp] theorem State.setTlane_wire (s : State) (l : Nat) (x : TLane) : (s.setTlane l x).wire = s.wire := rfl
@[simp] theorem State.setTlane_bypHold (s : State) (l : Nat) (x : TLane) : (s.setTlane l x).bypHold = s.bypHold := rfl
@[simp] theorem State.setTlane_rd (s : State) (l : Nat) (x : TLane) (r' : Reg) (i' j' : Nat) :
    (s.setTlane l x).rd r' i' j' = s.rd r' i' j' := rfl
@[simp] theorem State.setTlane_get (s : State) (l : Nat) (x : TLane) (g : Fld) (i' j' : Nat) :
    (s.setTlane l x).get g i' j' = s.get g i' j' := rfl
@[simp] theorem State.setTlane_is (s : State) (l : Nat) (x : TLane) (g : Fld) (i' j' : Nat) :
    (s.setTlane l x).is g i' j' = s.is g i' j' := rfl
@[simp] theorem State.setTlane_deadline (s : State) (l : Nat) (x : TLane) (t' : Timer) :
    (s.setTlane l x).deadline t' = s.deadline t' := rfl

/-! ### setUpdate -/

@[simp] theorem State.setUpdate_now (s : State) (u : Update) : (s.setUpdate u).now = s.now := rfl
@[simp] theorem State.setUpdate_freeIx (s : State) (u : Update) : (s.setUpdate u).freeIx = s.freeIx := rfl
@[simp] theorem State.setUpdate_regs (s : State) (u : Update) : (s.setUpdate u).regs = s.regs := rfl
@[simp] theorem State.setUpdate_timers (s : State) (u : Update) : (s.setUpdate u).timers = s.timers := rfl
@[simp] theorem State.setUpdate_mode (s : State) (u : Update) : (s.setUpdate u).mode = s.mode := rfl
@[simp] theorem State.setUpdate_ringAcc (s : State) (u : Update) : (s.setUpdate u).ringAcc = s.ringAcc := rfl
@[simp] theorem State.setUpdate_mgt (s : State) (u : Update) : (s.setUpdate u).mgt = s.mgt := rfl
@[simp] theorem State.setUpdate_flt (s : State) (u : Update) : (s.setUpdate u).flt = s.flt := rfl
@[simp] theorem State.setUpdate_isl (s : State) (u : Update) : (s.setUpdate u).isl = s.isl := rfl
@[simp] theorem State.setUpdate_boot (s : State) (u : Update) : (s.setUpdate u).boot = s.boot := rfl
@[simp] theorem State.setUpdate_profiles (s : State) (u : Update) : (s.setUpdate u).profiles = s.profiles := rfl
@[simp] theorem State.setUpdate_pair (s : State) (u : Update) : (s.setUpdate u).pair = s.pair := rfl
@[simp] theorem State.setUpdate_cmd (s : State) (u : Update) : (s.setUpdate u).cmd = s.cmd := rfl
@[simp] theorem State.setUpdate_sec (s : State) (u : Update) : (s.setUpdate u).sec = s.sec := rfl
@[simp] theorem State.setUpdate_ingress (s : State) (u : Update) : (s.setUpdate u).ingress = s.ingress := rfl
@[simp] theorem State.setUpdate_sent (s : State) (u : Update) : (s.setUpdate u).sent = s.sent := rfl
@[simp] theorem State.setUpdate_sw (s : State) (u : Update) : (s.setUpdate u).sw = s.sw := rfl
@[simp] theorem State.setUpdate_lanes (s : State) (u : Update) : (s.setUpdate u).lanes = s.lanes := rfl
@[simp] theorem State.setUpdate_time (s : State) (u : Update) : (s.setUpdate u).time = s.time := rfl
@[simp] theorem State.setUpdate_sched (s : State) (u : Update) : (s.setUpdate u).sched = s.sched := rfl
@[simp] theorem State.setUpdate_snap (s : State) (u : Update) : (s.setUpdate u).snap = s.snap := rfl
@[simp] theorem State.setUpdate_ports (s : State) (u : Update) : (s.setUpdate u).ports = s.ports := rfl
@[simp] theorem State.setUpdate_clus (s : State) (u : Update) : (s.setUpdate u).clus = s.clus := rfl
@[simp] theorem State.setUpdate_engs (s : State) (u : Update) : (s.setUpdate u).engs = s.engs := rfl
@[simp] theorem State.setUpdate_wins (s : State) (u : Update) : (s.setUpdate u).wins = s.wins := rfl
@[simp] theorem State.setUpdate_cans (s : State) (u : Update) : (s.setUpdate u).cans = s.cans := rfl
@[simp] theorem State.setUpdate_macs (s : State) (u : Update) : (s.setUpdate u).macs = s.macs := rfl
@[simp] theorem State.setUpdate_hbr (s : State) (u : Update) : (s.setUpdate u).hbr = s.hbr := rfl
@[simp] theorem State.setUpdate_pchs (s : State) (u : Update) : (s.setUpdate u).pchs = s.pchs := rfl
@[simp] theorem State.setUpdate_wire (s : State) (u : Update) : (s.setUpdate u).wire = s.wire := rfl
@[simp] theorem State.setUpdate_bypHold (s : State) (u : Update) : (s.setUpdate u).bypHold = s.bypHold := rfl
@[simp] theorem State.setUpdate_rd (s : State) (u : Update) (r' : Reg) (i' j' : Nat) :
    (s.setUpdate u).rd r' i' j' = s.rd r' i' j' := rfl
@[simp] theorem State.setUpdate_get (s : State) (u : Update) (g : Fld) (i' j' : Nat) :
    (s.setUpdate u).get g i' j' = s.get g i' j' := rfl
@[simp] theorem State.setUpdate_is (s : State) (u : Update) (g : Fld) (i' j' : Nat) :
    (s.setUpdate u).is g i' j' = s.is g i' j' := rfl
@[simp] theorem State.setUpdate_deadline (s : State) (u : Update) (t' : Timer) :
    (s.setUpdate u).deadline t' = s.deadline t' := rfl

/-! ### setPull -/

@[simp] theorem State.setPull_now (s : State) (p : Option Pull) : (s.setPull p).now = s.now := rfl
@[simp] theorem State.setPull_freeIx (s : State) (p : Option Pull) : (s.setPull p).freeIx = s.freeIx := rfl
@[simp] theorem State.setPull_regs (s : State) (p : Option Pull) : (s.setPull p).regs = s.regs := rfl
@[simp] theorem State.setPull_timers (s : State) (p : Option Pull) : (s.setPull p).timers = s.timers := rfl
@[simp] theorem State.setPull_mode (s : State) (p : Option Pull) : (s.setPull p).mode = s.mode := rfl
@[simp] theorem State.setPull_ringAcc (s : State) (p : Option Pull) : (s.setPull p).ringAcc = s.ringAcc := rfl
@[simp] theorem State.setPull_mgt (s : State) (p : Option Pull) : (s.setPull p).mgt = s.mgt := rfl
@[simp] theorem State.setPull_flt (s : State) (p : Option Pull) : (s.setPull p).flt = s.flt := rfl
@[simp] theorem State.setPull_isl (s : State) (p : Option Pull) : (s.setPull p).isl = s.isl := rfl
@[simp] theorem State.setPull_boot (s : State) (p : Option Pull) : (s.setPull p).boot = s.boot := rfl
@[simp] theorem State.setPull_profiles (s : State) (p : Option Pull) : (s.setPull p).profiles = s.profiles := rfl
@[simp] theorem State.setPull_pair (s : State) (p : Option Pull) : (s.setPull p).pair = s.pair := rfl
@[simp] theorem State.setPull_cmd (s : State) (p : Option Pull) : (s.setPull p).cmd = s.cmd := rfl
@[simp] theorem State.setPull_sec (s : State) (p : Option Pull) : (s.setPull p).sec = s.sec := rfl
@[simp] theorem State.setPull_ingress (s : State) (p : Option Pull) : (s.setPull p).ingress = s.ingress := rfl
@[simp] theorem State.setPull_sent (s : State) (p : Option Pull) : (s.setPull p).sent = s.sent := rfl
@[simp] theorem State.setPull_sw (s : State) (p : Option Pull) : (s.setPull p).sw = s.sw := rfl
@[simp] theorem State.setPull_lanes (s : State) (p : Option Pull) : (s.setPull p).lanes = s.lanes := rfl
@[simp] theorem State.setPull_time (s : State) (p : Option Pull) : (s.setPull p).time = s.time := rfl
@[simp] theorem State.setPull_sched (s : State) (p : Option Pull) : (s.setPull p).sched = s.sched := rfl
@[simp] theorem State.setPull_snap (s : State) (p : Option Pull) : (s.setPull p).snap = s.snap := rfl
@[simp] theorem State.setPull_ports (s : State) (p : Option Pull) : (s.setPull p).ports = s.ports := rfl
@[simp] theorem State.setPull_clus (s : State) (p : Option Pull) : (s.setPull p).clus = s.clus := rfl
@[simp] theorem State.setPull_engs (s : State) (p : Option Pull) : (s.setPull p).engs = s.engs := rfl
@[simp] theorem State.setPull_wins (s : State) (p : Option Pull) : (s.setPull p).wins = s.wins := rfl
@[simp] theorem State.setPull_cans (s : State) (p : Option Pull) : (s.setPull p).cans = s.cans := rfl
@[simp] theorem State.setPull_macs (s : State) (p : Option Pull) : (s.setPull p).macs = s.macs := rfl
@[simp] theorem State.setPull_hbr (s : State) (p : Option Pull) : (s.setPull p).hbr = s.hbr := rfl
@[simp] theorem State.setPull_pchs (s : State) (p : Option Pull) : (s.setPull p).pchs = s.pchs := rfl
@[simp] theorem State.setPull_wire (s : State) (p : Option Pull) : (s.setPull p).wire = s.wire := rfl
@[simp] theorem State.setPull_bypHold (s : State) (p : Option Pull) : (s.setPull p).bypHold = s.bypHold := rfl
@[simp] theorem State.setPull_rd (s : State) (p : Option Pull) (r' : Reg) (i' j' : Nat) :
    (s.setPull p).rd r' i' j' = s.rd r' i' j' := rfl
@[simp] theorem State.setPull_get (s : State) (p : Option Pull) (g : Fld) (i' j' : Nat) :
    (s.setPull p).get g i' j' = s.get g i' j' := rfl
@[simp] theorem State.setPull_is (s : State) (p : Option Pull) (g : Fld) (i' j' : Nat) :
    (s.setPull p).is g i' j' = s.is g i' j' := rfl
@[simp] theorem State.setPull_deadline (s : State) (p : Option Pull) (t' : Timer) :
    (s.setPull p).deadline t' = s.deadline t' := rfl

/-! ### enqueue -/

@[simp] theorem State.enqueue_now (s : State) (x : UnitIn) : (s.enqueue x).now = s.now := rfl
@[simp] theorem State.enqueue_freeIx (s : State) (x : UnitIn) : (s.enqueue x).freeIx = s.freeIx := rfl
@[simp] theorem State.enqueue_regs (s : State) (x : UnitIn) : (s.enqueue x).regs = s.regs := rfl
@[simp] theorem State.enqueue_timers (s : State) (x : UnitIn) : (s.enqueue x).timers = s.timers := rfl
@[simp] theorem State.enqueue_mode (s : State) (x : UnitIn) : (s.enqueue x).mode = s.mode := rfl
@[simp] theorem State.enqueue_ringAcc (s : State) (x : UnitIn) : (s.enqueue x).ringAcc = s.ringAcc := rfl
@[simp] theorem State.enqueue_mgt (s : State) (x : UnitIn) : (s.enqueue x).mgt = s.mgt := rfl
@[simp] theorem State.enqueue_flt (s : State) (x : UnitIn) : (s.enqueue x).flt = s.flt := rfl
@[simp] theorem State.enqueue_isl (s : State) (x : UnitIn) : (s.enqueue x).isl = s.isl := rfl
@[simp] theorem State.enqueue_boot (s : State) (x : UnitIn) : (s.enqueue x).boot = s.boot := rfl
@[simp] theorem State.enqueue_profiles (s : State) (x : UnitIn) : (s.enqueue x).profiles = s.profiles := rfl
@[simp] theorem State.enqueue_pair (s : State) (x : UnitIn) : (s.enqueue x).pair = s.pair := rfl
@[simp] theorem State.enqueue_cmd (s : State) (x : UnitIn) : (s.enqueue x).cmd = s.cmd := rfl
@[simp] theorem State.enqueue_upd (s : State) (x : UnitIn) : (s.enqueue x).upd = s.upd := rfl
@[simp] theorem State.enqueue_sec (s : State) (x : UnitIn) : (s.enqueue x).sec = s.sec := rfl
@[simp] theorem State.enqueue_sent (s : State) (x : UnitIn) : (s.enqueue x).sent = s.sent := rfl
@[simp] theorem State.enqueue_sw (s : State) (x : UnitIn) : (s.enqueue x).sw = s.sw := rfl
@[simp] theorem State.enqueue_lanes (s : State) (x : UnitIn) : (s.enqueue x).lanes = s.lanes := rfl
@[simp] theorem State.enqueue_time (s : State) (x : UnitIn) : (s.enqueue x).time = s.time := rfl
@[simp] theorem State.enqueue_sched (s : State) (x : UnitIn) : (s.enqueue x).sched = s.sched := rfl
@[simp] theorem State.enqueue_snap (s : State) (x : UnitIn) : (s.enqueue x).snap = s.snap := rfl
@[simp] theorem State.enqueue_ports (s : State) (x : UnitIn) : (s.enqueue x).ports = s.ports := rfl
@[simp] theorem State.enqueue_clus (s : State) (x : UnitIn) : (s.enqueue x).clus = s.clus := rfl
@[simp] theorem State.enqueue_engs (s : State) (x : UnitIn) : (s.enqueue x).engs = s.engs := rfl
@[simp] theorem State.enqueue_wins (s : State) (x : UnitIn) : (s.enqueue x).wins = s.wins := rfl
@[simp] theorem State.enqueue_cans (s : State) (x : UnitIn) : (s.enqueue x).cans = s.cans := rfl
@[simp] theorem State.enqueue_macs (s : State) (x : UnitIn) : (s.enqueue x).macs = s.macs := rfl
@[simp] theorem State.enqueue_hbr (s : State) (x : UnitIn) : (s.enqueue x).hbr = s.hbr := rfl
@[simp] theorem State.enqueue_pchs (s : State) (x : UnitIn) : (s.enqueue x).pchs = s.pchs := rfl
@[simp] theorem State.enqueue_wire (s : State) (x : UnitIn) : (s.enqueue x).wire = s.wire := rfl
@[simp] theorem State.enqueue_bypHold (s : State) (x : UnitIn) : (s.enqueue x).bypHold = s.bypHold := rfl
@[simp] theorem State.enqueue_rd (s : State) (x : UnitIn) (r' : Reg) (i' j' : Nat) :
    (s.enqueue x).rd r' i' j' = s.rd r' i' j' := rfl
@[simp] theorem State.enqueue_get (s : State) (x : UnitIn) (g : Fld) (i' j' : Nat) :
    (s.enqueue x).get g i' j' = s.get g i' j' := rfl
@[simp] theorem State.enqueue_is (s : State) (x : UnitIn) (g : Fld) (i' j' : Nat) :
    (s.enqueue x).is g i' j' = s.is g i' j' := rfl
@[simp] theorem State.enqueue_deadline (s : State) (x : UnitIn) (t' : Timer) :
    (s.enqueue x).deadline t' = s.deadline t' := rfl

/-! ### setSession -/

@[simp] theorem State.setSession_now (s : State) (x : Session) : (s.setSession x).now = s.now := rfl
@[simp] theorem State.setSession_freeIx (s : State) (x : Session) : (s.setSession x).freeIx = s.freeIx := rfl
@[simp] theorem State.setSession_regs (s : State) (x : Session) : (s.setSession x).regs = s.regs := rfl
@[simp] theorem State.setSession_timers (s : State) (x : Session) : (s.setSession x).timers = s.timers := rfl
@[simp] theorem State.setSession_mode (s : State) (x : Session) : (s.setSession x).mode = s.mode := rfl
@[simp] theorem State.setSession_ringAcc (s : State) (x : Session) : (s.setSession x).ringAcc = s.ringAcc := rfl
@[simp] theorem State.setSession_mgt (s : State) (x : Session) : (s.setSession x).mgt = s.mgt := rfl
@[simp] theorem State.setSession_flt (s : State) (x : Session) : (s.setSession x).flt = s.flt := rfl
@[simp] theorem State.setSession_isl (s : State) (x : Session) : (s.setSession x).isl = s.isl := rfl
@[simp] theorem State.setSession_boot (s : State) (x : Session) : (s.setSession x).boot = s.boot := rfl
@[simp] theorem State.setSession_profiles (s : State) (x : Session) : (s.setSession x).profiles = s.profiles := rfl
@[simp] theorem State.setSession_pair (s : State) (x : Session) : (s.setSession x).pair = s.pair := rfl
@[simp] theorem State.setSession_upd (s : State) (x : Session) : (s.setSession x).upd = s.upd := rfl
@[simp] theorem State.setSession_sec (s : State) (x : Session) : (s.setSession x).sec = s.sec := rfl
@[simp] theorem State.setSession_ingress (s : State) (x : Session) : (s.setSession x).ingress = s.ingress := rfl
@[simp] theorem State.setSession_sent (s : State) (x : Session) : (s.setSession x).sent = s.sent := rfl
@[simp] theorem State.setSession_sw (s : State) (x : Session) : (s.setSession x).sw = s.sw := rfl
@[simp] theorem State.setSession_lanes (s : State) (x : Session) : (s.setSession x).lanes = s.lanes := rfl
@[simp] theorem State.setSession_time (s : State) (x : Session) : (s.setSession x).time = s.time := rfl
@[simp] theorem State.setSession_sched (s : State) (x : Session) : (s.setSession x).sched = s.sched := rfl
@[simp] theorem State.setSession_snap (s : State) (x : Session) : (s.setSession x).snap = s.snap := rfl
@[simp] theorem State.setSession_ports (s : State) (x : Session) : (s.setSession x).ports = s.ports := rfl
@[simp] theorem State.setSession_clus (s : State) (x : Session) : (s.setSession x).clus = s.clus := rfl
@[simp] theorem State.setSession_engs (s : State) (x : Session) : (s.setSession x).engs = s.engs := rfl
@[simp] theorem State.setSession_wins (s : State) (x : Session) : (s.setSession x).wins = s.wins := rfl
@[simp] theorem State.setSession_cans (s : State) (x : Session) : (s.setSession x).cans = s.cans := rfl
@[simp] theorem State.setSession_macs (s : State) (x : Session) : (s.setSession x).macs = s.macs := rfl
@[simp] theorem State.setSession_hbr (s : State) (x : Session) : (s.setSession x).hbr = s.hbr := rfl
@[simp] theorem State.setSession_pchs (s : State) (x : Session) : (s.setSession x).pchs = s.pchs := rfl
@[simp] theorem State.setSession_wire (s : State) (x : Session) : (s.setSession x).wire = s.wire := rfl
@[simp] theorem State.setSession_bypHold (s : State) (x : Session) : (s.setSession x).bypHold = s.bypHold := rfl
@[simp] theorem State.setSession_rd (s : State) (x : Session) (r' : Reg) (i' j' : Nat) :
    (s.setSession x).rd r' i' j' = s.rd r' i' j' := rfl
@[simp] theorem State.setSession_get (s : State) (x : Session) (g : Fld) (i' j' : Nat) :
    (s.setSession x).get g i' j' = s.get g i' j' := rfl
@[simp] theorem State.setSession_is (s : State) (x : Session) (g : Fld) (i' j' : Nat) :
    (s.setSession x).is g i' j' = s.is g i' j' := rfl
@[simp] theorem State.setSession_deadline (s : State) (x : Session) (t' : Timer) :
    (s.setSession x).deadline t' = s.deadline t' := rfl

@[simp] theorem State.setLane_lane_self (s : State) (l : Nat) (x : LaneS) : (s.setLane l x).lane l = x := tget_tset_self _ _ _ _
theorem State.setLane_lane_of_ne (s : State) (l : Nat) (x : LaneS) {k' : Nat} (h : k' ≠ l) : (s.setLane l x).lane k' = s.lane k' :=
  tget_tset_of_ne _ _ _ h

@[simp] theorem State.setClu_clu_self (s : State) (k : Nat) (x : CluS) : (s.setClu k x).clu k = x := tget_tset_self _ _ _ _
theorem State.setClu_clu_of_ne (s : State) (k : Nat) (x : CluS) {k' : Nat} (h : k' ≠ k) : (s.setClu k x).clu k' = s.clu k' :=
  tget_tset_of_ne _ _ _ h

@[simp] theorem State.setEng_eng_self (s : State) (n : Nat) (x : EngS) : (s.setEng n x).eng n = x := tget_tset_self _ _ _ _
theorem State.setEng_eng_of_ne (s : State) (n : Nat) (x : EngS) {k' : Nat} (h : k' ≠ n) : (s.setEng n x).eng k' = s.eng k' :=
  tget_tset_of_ne _ _ _ h

@[simp] theorem State.setWin_win_self (s : State) (w : Nat) (x : WinS) : (s.setWin w x).win w = x := tget_tset_self _ _ _ _
theorem State.setWin_win_of_ne (s : State) (w : Nat) (x : WinS) {k' : Nat} (h : k' ≠ w) : (s.setWin w x).win k' = s.win k' :=
  tget_tset_of_ne _ _ _ h

@[simp] theorem State.setCan_can_self (s : State) (n : Nat) (x : CanS) : (s.setCan n x).can n = x := tget_tset_self _ _ _ _
theorem State.setCan_can_of_ne (s : State) (n : Nat) (x : CanS) {k' : Nat} (h : k' ≠ n) : (s.setCan n x).can k' = s.can k' :=
  tget_tset_of_ne _ _ _ h

@[simp] theorem State.setMac_mac_self (s : State) (m : Nat) (x : MacS) : (s.setMac m x).mac m = x := tget_tset_self _ _ _ _
theorem State.setMac_mac_of_ne (s : State) (m : Nat) (x : MacS) {k' : Nat} (h : k' ≠ m) : (s.setMac m x).mac k' = s.mac k' :=
  tget_tset_of_ne _ _ _ h

@[simp] theorem State.setPch_pch_self (s : State) (c : Nat) (x : PchS) : (s.setPch c x).pch c = x := tget_tset_self _ _ _ _
theorem State.setPch_pch_of_ne (s : State) (c : Nat) (x : PchS) {k' : Nat} (h : k' ≠ c) : (s.setPch c x).pch k' = s.pch k' :=
  tget_tset_of_ne _ _ _ h

/-! ### The end of a step -/

/-- When nothing waits, the end of a step changes nothing. -/
theorem State.done_of_quiet (s : State) (h : s.quiet = true) : s.done = s := by
  unfold State.done
  rw [if_pos h]

theorem State.settle_of_none (s : State) (h : s.flt.due = []) : s.settle = s := by
  unfold State.settle
  rw [h]
  rfl

/-- The expiry of a timer that runs. -/
theorem State.expire_eq (s : State) (t : Timer) {d : Nat} (h : s.deadline t = some d) :
    s.expire t = some ((s.advance (d - s.now)).disarm t) := by
  unfold State.expire
  rw [h]

/-- A timer that has expired does not run. -/
theorem State.expire_deadline (s : State) (t : Timer) {u : State} (h : s.expire t = some u) : u.deadline t = none := by
  unfold State.expire at h
  split at h
  · cases h
  · cases h
    exact State.disarm_deadline_self _ _

/-- Time has passed to the deadline. -/
theorem State.expire_now (s : State) (t : Timer) {u : State} (h : s.expire t = some u) :
    ∃ d, s.deadline t = some d ∧ u.now = s.now + (d - s.now) := by
  unfold State.expire at h
  split at h
  · cases h
  · rename_i d hd
    cases h
    exact ⟨d, hd, rfl⟩

/-- Time moves the ring clock, its epoch and `now`, and no other register. -/
theorem State.advance_rd_of_ne (s : State) (n : Nat) {r : Reg} {i j : Nat} (h : r.addr i j ≠ Reg.timEpoch.addr 0 0) :
    (s.advance n).rd r i j = s.rd r i j := by
  unfold State.advance State.timClocks
  simp only []
  split
  · rfl
  · split
    · rfl
    · exact State.bump_rd_of_ne _ _ h

theorem State.expire_rd_of_ne (s : State) (t : Timer) {u : State} (hu : s.expire t = some u) {r : Reg} {i j : Nat}
    (h : r.addr i j ≠ Reg.timEpoch.addr 0 0) : u.rd r i j = s.rd r i j := by
  unfold State.expire at hu
  split at hu
  · cases hu
  · cases hu
    exact State.advance_rd_of_ne s _ h

@[simp] theorem State.advance_freeIx (s : State) (n : Nat) : (s.advance n).freeIx = s.freeIx := by
  unfold State.advance State.timClocks
  simp only []
  (repeat' split) <;> rfl
theorem State.expire_freeIx (s : State) (t : Timer) {u : State} (hu : s.expire t = some u) : u.freeIx = s.freeIx := by
  unfold State.expire at hu
  split at hu <;> cases hu
  exact State.advance_freeIx _ _
@[simp] theorem State.advance_mode (s : State) (n : Nat) : (s.advance n).mode = s.mode := by
  unfold State.advance State.timClocks
  simp only []
  (repeat' split) <;> rfl
theorem State.expire_mode (s : State) (t : Timer) {u : State} (hu : s.expire t = some u) : u.mode = s.mode := by
  unfold State.expire at hu
  split at hu <;> cases hu
  exact State.advance_mode _ _
@[simp] theorem State.advance_mgt (s : State) (n : Nat) : (s.advance n).mgt = s.mgt := by
  unfold State.advance State.timClocks
  simp only []
  (repeat' split) <;> rfl
theorem State.expire_mgt (s : State) (t : Timer) {u : State} (hu : s.expire t = some u) : u.mgt = s.mgt := by
  unfold State.expire at hu
  split at hu <;> cases hu
  exact State.advance_mgt _ _
@[simp] theorem State.advance_flt (s : State) (n : Nat) : (s.advance n).flt = s.flt := by
  unfold State.advance State.timClocks
  simp only []
  (repeat' split) <;> rfl
theorem State.expire_flt (s : State) (t : Timer) {u : State} (hu : s.expire t = some u) : u.flt = s.flt := by
  unfold State.expire at hu
  split at hu <;> cases hu
  exact State.advance_flt _ _
@[simp] theorem State.advance_isl (s : State) (n : Nat) : (s.advance n).isl = s.isl := by
  unfold State.advance State.timClocks
  simp only []
  (repeat' split) <;> rfl
theorem State.expire_isl (s : State) (t : Timer) {u : State} (hu : s.expire t = some u) : u.isl = s.isl := by
  unfold State.expire at hu
  split at hu <;> cases hu
  exact State.advance_isl _ _
@[simp] theorem State.advance_boot (s : State) (n : Nat) : (s.advance n).boot = s.boot := by
  unfold State.advance State.timClocks
  simp only []
  (repeat' split) <;> rfl
theorem State.expire_boot (s : State) (t : Timer) {u : State} (hu : s.expire t = some u) : u.boot = s.boot := by
  unfold State.expire at hu
  split at hu <;> cases hu
  exact State.advance_boot _ _
@[simp] theorem State.advance_profiles (s : State) (n : Nat) : (s.advance n).profiles = s.profiles := by
  unfold State.advance State.timClocks
  simp only []
  (repeat' split) <;> rfl
theorem State.expire_profiles (s : State) (t : Timer) {u : State} (hu : s.expire t = some u) : u.profiles = s.profiles := by
  unfold State.expire at hu
  split at hu <;> cases hu
  exact State.advance_profiles _ _
@[simp] theorem State.advance_pair (s : State) (n : Nat) : (s.advance n).pair = s.pair := by
  unfold State.advance State.timClocks
  simp only []
  (repeat' split) <;> rfl
theorem State.expire_pair (s : State) (t : Timer) {u : State} (hu : s.expire t = some u) : u.pair = s.pair := by
  unfold State.expire at hu
  split at hu <;> cases hu
  exact State.advance_pair _ _
@[simp] theorem State.advance_cmd (s : State) (n : Nat) : (s.advance n).cmd = s.cmd := by
  unfold State.advance State.timClocks
  simp only []
  (repeat' split) <;> rfl
theorem State.expire_cmd (s : State) (t : Timer) {u : State} (hu : s.expire t = some u) : u.cmd = s.cmd := by
  unfold State.expire at hu
  split at hu <;> cases hu
  exact State.advance_cmd _ _
@[simp] theorem State.advance_upd (s : State) (n : Nat) : (s.advance n).upd = s.upd := by
  unfold State.advance State.timClocks
  simp only []
  (repeat' split) <;> rfl
theorem State.expire_upd (s : State) (t : Timer) {u : State} (hu : s.expire t = some u) : u.upd = s.upd := by
  unfold State.expire at hu
  split at hu <;> cases hu
  exact State.advance_upd _ _
@[simp] theorem State.advance_sec (s : State) (n : Nat) : (s.advance n).sec = s.sec := by
  unfold State.advance State.timClocks
  simp only []
  (repeat' split) <;> rfl
theorem State.expire_sec (s : State) (t : Timer) {u : State} (hu : s.expire t = some u) : u.sec = s.sec := by
  unfold State.expire at hu
  split at hu <;> cases hu
  exact State.advance_sec _ _
@[simp] theorem State.advance_ingress (s : State) (n : Nat) : (s.advance n).ingress = s.ingress := by
  unfold State.advance State.timClocks
  simp only []
  (repeat' split) <;> rfl
theorem State.expire_ingress (s : State) (t : Timer) {u : State} (hu : s.expire t = some u) : u.ingress = s.ingress := by
  unfold State.expire at hu
  split at hu <;> cases hu
  exact State.advance_ingress _ _
@[simp] theorem State.advance_sent (s : State) (n : Nat) : (s.advance n).sent = s.sent := by
  unfold State.advance State.timClocks
  simp only []
  (repeat' split) <;> rfl
theorem State.expire_sent (s : State) (t : Timer) {u : State} (hu : s.expire t = some u) : u.sent = s.sent := by
  unfold State.expire at hu
  split at hu <;> cases hu
  exact State.advance_sent _ _
@[simp] theorem State.advance_sw (s : State) (n : Nat) : (s.advance n).sw = s.sw := by
  unfold State.advance State.timClocks
  simp only []
  (repeat' split) <;> rfl
theorem State.expire_sw (s : State) (t : Timer) {u : State} (hu : s.expire t = some u) : u.sw = s.sw := by
  unfold State.expire at hu
  split at hu <;> cases hu
  exact State.advance_sw _ _
@[simp] theorem State.advance_lanes (s : State) (n : Nat) : (s.advance n).lanes = s.lanes := by
  unfold State.advance State.timClocks
  simp only []
  (repeat' split) <;> rfl
theorem State.expire_lanes (s : State) (t : Timer) {u : State} (hu : s.expire t = some u) : u.lanes = s.lanes := by
  unfold State.expire at hu
  split at hu <;> cases hu
  exact State.advance_lanes _ _
@[simp] theorem State.advance_time (s : State) (n : Nat) : (s.advance n).time = s.time := by
  unfold State.advance State.timClocks
  simp only []
  (repeat' split) <;> rfl
theorem State.expire_time (s : State) (t : Timer) {u : State} (hu : s.expire t = some u) : u.time = s.time := by
  unfold State.expire at hu
  split at hu <;> cases hu
  exact State.advance_time _ _
@[simp] theorem State.advance_sched (s : State) (n : Nat) : (s.advance n).sched = s.sched := by
  unfold State.advance State.timClocks
  simp only []
  (repeat' split) <;> rfl
theorem State.expire_sched (s : State) (t : Timer) {u : State} (hu : s.expire t = some u) : u.sched = s.sched := by
  unfold State.expire at hu
  split at hu <;> cases hu
  exact State.advance_sched _ _
@[simp] theorem State.advance_snap (s : State) (n : Nat) : (s.advance n).snap = s.snap := by
  unfold State.advance State.timClocks
  simp only []
  (repeat' split) <;> rfl
theorem State.expire_snap (s : State) (t : Timer) {u : State} (hu : s.expire t = some u) : u.snap = s.snap := by
  unfold State.expire at hu
  split at hu <;> cases hu
  exact State.advance_snap _ _
@[simp] theorem State.advance_ports (s : State) (n : Nat) : (s.advance n).ports = s.ports := by
  unfold State.advance State.timClocks
  simp only []
  (repeat' split) <;> rfl
theorem State.expire_ports (s : State) (t : Timer) {u : State} (hu : s.expire t = some u) : u.ports = s.ports := by
  unfold State.expire at hu
  split at hu <;> cases hu
  exact State.advance_ports _ _
@[simp] theorem State.advance_clus (s : State) (n : Nat) : (s.advance n).clus = s.clus := by
  unfold State.advance State.timClocks
  simp only []
  (repeat' split) <;> rfl
theorem State.expire_clus (s : State) (t : Timer) {u : State} (hu : s.expire t = some u) : u.clus = s.clus := by
  unfold State.expire at hu
  split at hu <;> cases hu
  exact State.advance_clus _ _
@[simp] theorem State.advance_engs (s : State) (n : Nat) : (s.advance n).engs = s.engs := by
  unfold State.advance State.timClocks
  simp only []
  (repeat' split) <;> rfl
theorem State.expire_engs (s : State) (t : Timer) {u : State} (hu : s.expire t = some u) : u.engs = s.engs := by
  unfold State.expire at hu
  split at hu <;> cases hu
  exact State.advance_engs _ _
@[simp] theorem State.advance_wins (s : State) (n : Nat) : (s.advance n).wins = s.wins := by
  unfold State.advance State.timClocks
  simp only []
  (repeat' split) <;> rfl
theorem State.expire_wins (s : State) (t : Timer) {u : State} (hu : s.expire t = some u) : u.wins = s.wins := by
  unfold State.expire at hu
  split at hu <;> cases hu
  exact State.advance_wins _ _
@[simp] theorem State.advance_cans (s : State) (n : Nat) : (s.advance n).cans = s.cans := by
  unfold State.advance State.timClocks
  simp only []
  (repeat' split) <;> rfl
theorem State.expire_cans (s : State) (t : Timer) {u : State} (hu : s.expire t = some u) : u.cans = s.cans := by
  unfold State.expire at hu
  split at hu <;> cases hu
  exact State.advance_cans _ _
@[simp] theorem State.advance_macs (s : State) (n : Nat) : (s.advance n).macs = s.macs := by
  unfold State.advance State.timClocks
  simp only []
  (repeat' split) <;> rfl
theorem State.expire_macs (s : State) (t : Timer) {u : State} (hu : s.expire t = some u) : u.macs = s.macs := by
  unfold State.expire at hu
  split at hu <;> cases hu
  exact State.advance_macs _ _
@[simp] theorem State.advance_hbr (s : State) (n : Nat) : (s.advance n).hbr = s.hbr := by
  unfold State.advance State.timClocks
  simp only []
  (repeat' split) <;> rfl
theorem State.expire_hbr (s : State) (t : Timer) {u : State} (hu : s.expire t = some u) : u.hbr = s.hbr := by
  unfold State.expire at hu
  split at hu <;> cases hu
  exact State.advance_hbr _ _
@[simp] theorem State.advance_pchs (s : State) (n : Nat) : (s.advance n).pchs = s.pchs := by
  unfold State.advance State.timClocks
  simp only []
  (repeat' split) <;> rfl
theorem State.expire_pchs (s : State) (t : Timer) {u : State} (hu : s.expire t = some u) : u.pchs = s.pchs := by
  unfold State.expire at hu
  split at hu <;> cases hu
  exact State.advance_pchs _ _
@[simp] theorem State.advance_wire (s : State) (n : Nat) : (s.advance n).wire = s.wire := by
  unfold State.advance State.timClocks
  simp only []
  (repeat' split) <;> rfl
theorem State.expire_wire (s : State) (t : Timer) {u : State} (hu : s.expire t = some u) : u.wire = s.wire := by
  unfold State.expire at hu
  split at hu <;> cases hu
  exact State.advance_wire _ _
@[simp] theorem State.advance_bypHold (s : State) (n : Nat) : (s.advance n).bypHold = s.bypHold := by
  unfold State.advance State.timClocks
  simp only []
  (repeat' split) <;> rfl
theorem State.expire_bypHold (s : State) (t : Timer) {u : State} (hu : s.expire t = some u) : u.bypHold = s.bypHold := by
  unfold State.expire at hu
  split at hu <;> cases hu
  exact State.advance_bypHold _ _

end Sys2Proof.Machine
end

