-- ==== Sys2Proof/WellFormed.lean ====
section
/-!
DEFINITION. Which operand combinations a command of the table can have: the well-formed instances of `Instr`. The machine
answers on every term; this predicate says which terms stand for something that can happen outside.
-/
namespace Sys2Proof
open Machine

/-- A frame whose header agrees with what follows it (R48, R51, R52). -/
def Frame.wellFormed (f : Frame) : Bool := !f.malformed

/-- The frame of a command: it is well formed and goes out under FTYPE COMMAND (R51). -/
def Cmd.wellFormed (c : Cmd) : Bool := c.frame.wellFormed && c.frame.ftype == ftCommand

/-- The operands of a command that can occur. -/
def Instr.wellFormed : Instr → Bool
  | .read c | .write c | .writePosted c | .readModifyWrite c | .readBlock c | .writeBlock c | .portSend c | .portConfig c
  | .portFlush c | .applyAt c | .sampleAt c | .snapshotAt c | .sessionOpen c _ | .sessionClose c | .profileSelect c
  | .profileStore c | .selftestReq c | .healthGet c | .faultAck c | .safeEnter c | .safeLeave c | .updateBegin c
  | .updateBlock c | .updateVerify c | .updateActivate c | .updateConfirm c | .updateRelay c | .updateAbort c | .timeStep c
  | .timeRate c | .stepRearm c | .tableFence c | .pairHandover c | .pairStatus c | .logRead c | .echo c
  | .resetChip c => c.wellFormed
  | .registerWrite _ off _ => off % 4 == 0
  | .replyReceive f _ => f.wellFormed && f.ftype == ftReply
  | .eventReceive f => f.wellFormed && f.ftype == ftEvent
  | .snapshotFrameReceive _ f _ => f.wellFormed && f.ftype == ftSnapshot
  | .timeFrameReceive _ t => t.frame.wellFormed && t.frame.ftype == ftTime
  | .scrubWord w _ => decide (w < 2097152)
  | .windowWriteTlp off ws _ => off % 4 == 0 && decide (ws.length ≤ 256)
  | .windowReadTlp off n => off % 4 == 0 && decide (n ≤ 128)
  | .llRequest f => f.wellFormed
  | _ => true

end Sys2Proof
end

