-- ==== Sys2Proof/Tests/Slice0.lean ====
section
/-!
SUPPORT. Small tests of the model, and for every statement with hypotheses a state that meets them.
-/
namespace Sys2Proof.Tests
-- One theorem after the other: each of them makes the kernel evaluate the model, and a hundred at once ask for too many threads.
set_option Elab.async false
open Sys2Proof Sys2Proof.Machine

/-- A hub in RUN with every island powered, clocked and out of reset, and no command accepted yet. -/
def up : State :=
  ((({ State.reset with
    mode := .run, isl := { State.reset.isl with rst := 0, resync := 0 },
    boot := { State.reset.boot with powered := true, pll := true } } : State).wr .islPwrStat 0 0 0x1FFFFF).wr
    .islClkOk 0 0 0x1FFFFF)

/-! Smoke tests of WellFormed: for each check a term that it refuses, and one that passes. -/

theorem test_wf_command : (Instr.read { frame := { ftype := ftReply } }).wellFormed = false ∧
    (Instr.read { frame := { ftype := ftCommand, lenW := 1 } }).wellFormed = false ∧
    (Instr.read { frame := { ftype := ftCommand, fver := 1 } }).wellFormed = false ∧
    (Instr.read { frame := { ftype := ftCommand, session := 7 } }).wellFormed = false ∧
    (Instr.read { frame := { ftype := ftCommand } }).wellFormed = true := by decide
theorem test_wf_offsets : (Instr.registerWrite true 0x41 0).wellFormed = false ∧ (Instr.registerWrite true 0x40 0).wellFormed = true ∧
    (Instr.scrubWord 2097152 .clean).wellFormed = false ∧ (Instr.scrubWord 2097151 .clean).wellFormed = true ∧
    (Instr.windowWriteTlp 2 [0] true).wellFormed = false ∧ (Instr.windowWriteTlp 0 (List.replicate 257 0) true).wellFormed = false ∧
    (Instr.windowReadTlp 2 1).wellFormed = false ∧ (Instr.windowReadTlp 4 129).wellFormed = false ∧
    (Instr.windowReadTlp 4 128).wellFormed = true := by decide +kernel
theorem test_wf_frames : (Instr.replyReceive { ftype := ftEvent } true).wellFormed = false ∧
    (Instr.eventReceive { ftype := ftReply }).wellFormed = false ∧ (Instr.eventReceive { ftype := ftEvent, fver := 0 }).wellFormed = false ∧
    (Instr.snapshotFrameReceive 0 { ftype := ftEvent } {}).wellFormed = false ∧
    (Instr.timeFrameReceive 0 { frame := { ftype := ftEvent }, tail := {} }).wellFormed = false ∧
    (Instr.llRequest { fver := 3 }).wellFormed = false ∧ (Instr.eventReceive { ftype := ftEvent }).wellFormed = true := by decide

/-! Witnesses: IdleStepIsOneClock -/

theorem witness_IdleStepIsOneClock : State.reset.pending = [] := rfl

/-! Witnesses: IdleClockAddsTimInc -/

theorem witness_IdleClockAddsTimInc :
    ({ State.reset with isl := { State.reset.isl with rst := 0 } } : State).pending = [] ∧
    ({ State.reset with isl := { State.reset.isl with rst := 0 } } : State).isl.rst.getLsbD 7 = false ∧
    (State.rd { State.reset with isl := { State.reset.isl with rst := 0 } } .islClkOk).getLsbD 7 = true := by decide +kernel

/-! Witnesses: EveryCommandAnswers -/

theorem witness_EveryCommandAnswers : ∀ w f, (Instr.scrubWord 2097151 .clean) = .scrubWord w f → w < 2 ^ 21 := by
  intro w f h
  cases h
  decide

/-! Witnesses: ScrubBeyondTheVatFaults -/

theorem witness_ScrubBeyondTheVatFaults : 2 ^ 21 ≤ 2097152 := by decide

/-! Witnesses: QueueFirstInFirstOut -/

theorem witness_QueueFirstInFirstOut : ∃ t, step { State.reset with pending := [.nop 0] } = .next t := ⟨_, rfl⟩

/-! Witnesses: VatKeepsItsForm -/

theorem witness_VatKeepsItsForm : Memory.wf State.reset.sw.vat = true ∧ ∃ t, step State.reset = .next t := ⟨rfl, _, rfl⟩

/-! Witnesses: FusesAreOnlyBlown -/

theorem witness_FusesAreOnlyBlown :
    (∃ t, step { State.reset with sec := { owner := [(2, [])], revoked := [1] } } = .next t) ∧
    (∀ hash, ({ State.reset with sec := { owner := [(2, [])], revoked := [1] } } : State).sec.otp ≠ some (2, false, hash)) ∧
    (tfind ({ State.reset with sec := { owner := [(2, [])], revoked := [1] } } : State).sec.owner 2).isSome = true :=
  ⟨⟨_, rfl⟩, by intro h; simp [State.reset], rfl⟩

/-! Witnesses: QuietStepEndsAtOnce -/

theorem witness_QuietStepEndsAtOnce : State.reset.quiet = true := rfl

/-! Witnesses: RegistersReadBack -/

theorem witness_RegistersReadBack :
    (F.LNK_STATE_STATE.reg = .lnkState ∧ F.LNK_STATE_STATE.lo ≤ F.LNK_STATE_STATE.hi ∧ F.LNK_STATE_STATE.hi < 32 ∧
      10 < 2 ^ (F.LNK_STATE_STATE.hi + 1 - F.LNK_STATE_STATE.lo)) ∧
    (F.LNK_STATE_RATE.reg = .lnkState ∧ F.LNK_STATE_RATE.lo ≤ F.LNK_STATE_RATE.hi ∧
      (F.LNK_STATE_STATE.hi < F.LNK_STATE_RATE.lo ∨ F.LNK_STATE_RATE.hi < F.LNK_STATE_STATE.lo)) ∧
    Reg.lnkState.addr 1 0 ≠ Reg.lnkState.addr 0 0 := by decide

/-! Witnesses: VatWordWrites -/

theorem witness_VatWordWrites : (63 : Nat) < 64 ∨ 64 + 4 ≤ 63 := by decide
theorem witness_VatWordWrites_above : (68 : Nat) < 64 ∨ 64 + 4 ≤ 68 := by decide

/-! Witnesses: LinkTraining -/

/-- Lane 2 enabled and in state `st`, every island running. -/
def laneIn (st : Nat) : State := (up.put F.LNK_STATE_STATE st 2).put F.LNK_CFG_ENABLE 1 2
theorem witness_LinkTraining_signal :
    ((laneIn 1).put F.LNK_CFG_MEDIA 1 2).laneOn 2 = true ∧ ((laneIn 1).put F.LNK_CFG_MEDIA 1 2).lst 2 = lsNoSignal ∧
    ((laneIn 1).put F.LNK_CFG_MEDIA 1 2).deadline (.fallback 2) = none ∧
    ((laneIn 1).put F.LNK_CFG_MEDIA 1 2).get F.LNK_CFG_MEDIA 2 ≠ 0 := by decide +kernel
theorem witness_LinkTraining_states :
    (laneIn 2).lst 2 = lsCdrLock ∧ (laneIn 3).lst 2 = lsBlockLock ∧ (laneIn 9).lst 2 = lsCabling := by decide +kernel
theorem witness_LinkTraining_trainId :
    linkValid [1, 0, 5, 0x100] {} = true ∧
    ((laneIn 4).setLane 2 { trainId := [1, 0, 5, 0x100], trainRun := 2 }).lst 2 = lsIdent ∧
    (((laneIn 4).setLane 2 { trainId := [1, 0, 5, 0x100], trainRun := 2 }).lane 2).trainRun = 2 ∧
    partnerOk 2 ((([1, 0, 5, 0x100] : List Word).getD 0 0).bits 7 0) = true ∧
    ([1, 0, 5, 0x100] : List Word).getD 2 0 ≠ (laneIn 4).rd .ctlUid 0 ∧ ([1, 0, 5, 0x100] : List Word).length = 4 := by
  decide +kernel
theorem witness_LinkTraining_verify :
    ((laneIn 5).arm (.train 2) 10).lst 2 = lsVerify ∧ (((laneIn 5).arm (.train 2) 10).expire (.train 2)).any
      (fun u => !u.is F.LNK_RPT_RING_JOINED && !u.is F.LNK_RPT_SPUR_JOINED) = true := by decide +kernel
theorem witness_LinkTraining_limit :
    lsCdrLock ≤ (((laneIn 3).put F.LNK_STATE_RATE 1 2).arm (.train 2) 0).lst 2 ∧
    (((laneIn 3).put F.LNK_STATE_RATE 1 2).arm (.train 2) 0).lst 2 ≤ lsVerify ∧
    ((((laneIn 3).put F.LNK_STATE_RATE 1 2).arm (.train 2) 0).expire (.train 2)).any
      (fun u => decide ((u.lane 2).fails < 2) && u.get F.LNK_STATE_RATE 2 == u.wantRate 2) = true := by decide +kernel
theorem witness_LinkTraining_fallback :
    ((((laneIn 3).put F.LNK_STATE_RATE 1 2).arm (.train 2) 0).setLane 2 { fails := 2 }).lst 2 = lsBlockLock ∧
    (((((laneIn 3).put F.LNK_STATE_RATE 1 2).arm (.train 2) 0).setLane 2 { fails := 2 }).expire (.train 2)).any
      (fun u => decide ((u.lane 2).fails = 2) && u.get F.LNK_STATE_RATE 2 == 1 && u.wantRate 2 == 1) = true := by decide +kernel
theorem witness_LinkTraining_wait : (((laneIn 1).arm (.fallback 2) 0).expire (.fallback 2)).isSome = true := by decide +kernel

/-! Witnesses: LinkControlFrames -/

theorem witness_LinkControlFrames_timers :
    (((laneIn 4).arm (.trainSend 2) 0).expire (.trainSend 2)).any (fun u => u.lst 2 == lsIdent) = true ∧
    (((laneIn 6).arm (.hello 2) 0).expire (.hello 2)).any (fun u => u.laneUp 2) = true ∧
    (((laneIn 6).arm (.nbr 2) 0).expire (.nbr 2)).any (fun u => u.laneUp 2) = true := by decide +kernel
theorem witness_LinkControlFrames_leaving :
    ((((laneIn 6).setLane 2 { leavingLeft := 2 }).arm (.leaving 2) 0).expire (.leaving 2)).any
      (fun u => decide (1 < (u.lane 2).leavingLeft)) = true ∧
    ((((laneIn 6).setLane 2 { leavingLeft := 1 }).arm (.leaving 2) 0).expire (.leaving 2)).any
      (fun u => decide ((u.lane 2).leavingLeft = 1)) = true := by decide +kernel
theorem witness_LinkControlFrames_up : (laneIn 7).laneUp 2 = true ∧ (laneIn 5).laneLocked 2 = true ∧ (laneIn 8).lst 2 = lsRepeat ∧
    linkValid [1, 0, 5, 0x100] {} = true ∧ linkValid [1, 0, 5, 0x100] { fcsOk := false } = false ∧
    (laneIn 7).is F.LNK_RPT_RING_JOINED = false := by decide +kernel

/-! Witnesses: LinksGoDownAndModules -/

theorem witness_LinksGoDownAndModules :
    (laneIn 6).laneLinked 2 = true ∧ (laneIn 6).mediaOf 2 = 0 ∧ (laneIn 6).outOfReset (2 + 1) = true ∧
    (laneIn 1).laneLinked 2 = false ∧ (laneIn 6).outOfReset 8 = true ∧ ((laneIn 6).lane 2).modReady = false ∧
    (laneIn 6).deadline (.modWait 2) = none ∧ (((laneIn 6).setLane 2 { modAbs := false }).lane 2).modAbs = false ∧
    (((laneIn 10).arm (.heldDown 2) 0).expire (.heldDown 2)).any (fun u => u.lst 2 == lsHeldDown) = true ∧
    (((laneIn 6).arm (.modWait 2) 0).expire (.modWait 2)).isSome = true ∧
    (((laneIn 6).arm (.modPoll 2) 0).expire (.modPoll 2)).isSome = true := by decide +kernel
theorem witness_LinksGoDownAndModules_hold : up.holdOk = true ∧ ({ up with mode := .sleep } : State).holdOk = false := by
  decide +kernel
theorem witness_LinksGoDownAndModules_repeat :
    up.islandUp 6 = true ∧ (up.put F.LNK_RPT_RING_JOINED 1).is F.LNK_RPT_RING_JOINED = true ∧
    ({ up with isl := { up.isl with rst := 0x40 } } : State).isl.rst.getLsbD 6 = true ∧
    ({ up with isl := { up.isl with rst := 0x40 } } : State).islandUp 1 = true ∧
    ({ up with isl := { up.isl with rst := 0x40 } } : State).islandUp 2 = true ∧
    up.is F.LNK_RPT_RING_JOINED = false := by decide +kernel

/-! Witnesses: RingFrames -/

/-- A frame in a stream. -/
def aFrame : Frame := { ftype := ftCommand, hop := 3, dstNode := 0x010203, srcNode := 0x040506 }
theorem witness_RingFrames_repeat : tfind (laneIn 8).sw.rx 2 = none ∧ inStream aFrame = true ∧ (laneIn 8).lst 2 = lsRepeat := by
  decide +kernel
theorem witness_RingFrames_own :
    (laneIn 6).laneUp 2 = true ∧ (laneIn 6).islandUp 6 = true ∧ aFrame.malformed = false ∧
    ((laneIn 6).wr .ctlNode 0 0 0x80040506).addressed = true ∧
    aFrame.srcNode = ((laneIn 6).wr .ctlNode 0 0 0x80040506).ownNode := by decide +kernel
theorem witness_RingFrames_hop :
    (laneIn 6).addressed = false ∧ (laneIn 6).ownAddress aFrame.dstNode = false ∧ aFrame.hop ≠ 0 := by decide +kernel
theorem witness_RingFrames_repeating : (((laneIn 8).setLane 2 { repeating := true }).lane 2).repeating = true ∧
    ((laneIn 6).lane 2).repeating = false := by decide +kernel
/-- Lane 0 of an addressed hub, up; a command to it, and the unit that it becomes. -/
def toOwn : State := ((up.put F.LNK_STATE_STATE 6 0).put F.LNK_CFG_ENABLE 1 0).wr .ctlNode 0 0 0x80010203
def ownFrame : Frame := { aFrame with dstPort := 0xFF }
theorem witness_RingFrames_admitted :
    toOwn.laneUp 0 = true ∧ toOwn.islandUp 6 = true ∧ ownFrame.malformed = false ∧ toOwn.addressed = true ∧ toOwn.paired = false ∧
    ownFrame.srcNode ≠ toOwn.ownNode ∧ ownFrame.dstNode = toOwn.ownNode ∧ toOwn.portDead 122 = false ∧
    toOwn.residue (8 * 122 + ownFrame.cls.toNat) = [] ∧ inStream ownFrame = true ∧
    (toOwn.tierFor (8 * 122 + ownFrame.cls.toNat) (cellsFor ownFrame.size)).isSome = true ∧
    toOwn.ownAddress ownFrame.dstNode = true ∧ tfind toOwn.sw.rx 0 = none := by decide +kernel
theorem witness_RingFrames_passed :
    (toOwn.tableRead ownFrame.dstNode (toOwn.ringReadsTable 0 ownFrame.dstNode)).ringDests 0 ownFrame =
      (toOwn, [{ port := 122, wait := true }], .take) ∧
    (toOwn.admitUnit ownFrame 0 false false true (sortDests [{ port := 122, wait := true }])).2 = some 0 := by decide +kernel
theorem witness_RingFrames_good :
    rindOf ownFrame { fcs := ownFrame.fcs, rind := rindGood } = rindGood ∧ (toOwn.lane 0).repeating = false ∧
    (tfind (toOwn.setUnit 3 { frame := ownFrame, inPort := 0, own := false, cells := [1], tier := .shared, gen := 0,
                              complete := false, ready := false, rind := rindGood, authOk := true }).sw.units 3).any (fun v => v.frame == ownFrame) = true :=
  by decide +kernel
theorem witness_RingFrames_tail : ({ lengthOk := false, rind := rindGood } : Tail).lengthOk = false := rfl

/-! Witnesses: SwitchCoreMoves -/

/-- A state with one whole unit queued to lane 2, class 1. -/
def withUnit : State := ((laneIn 6).setUnit 7 {
  frame := aFrame, inPort := 0, own := false, cells := [3], tier := .shared, gen := 0
  complete := true, ready := true, rind := rindGood, authOk := true }).setQueue 17 [{ uid := 7 }]
theorem witness_SwitchCoreMoves_lane :
    withUnit.laneUp 2 = true ∧ tfind withUnit.sw.cutting 2 = none ∧ withUnit.nextQueue 2 = some (17, { uid := 7 }) ∧
    (withUnit.unit? 7).any (fun v => v.complete && (withUnit.ueOf v).isEmpty) = true := by decide +kernel
theorem witness_SwitchCoreMoves_lookup :
    ({ up with ingress := [{ frame := { aFrame with dual := false }, inPort := 122, own := true }] } : State).islandUp 6 = true ∧
    (State.ownDests up { aFrame with dual := false, hop := 255, dstNode := up.ownNode, dstPort := 0xFF }).2 ≠ [] ∧
    ({ up with isl := { up.isl with rst := 0x40 } } : State).islandUp 6 = false := by decide +kernel
theorem witness_SwitchCoreMoves_admitted :
    (((State.ownDests up { aFrame with dual := false, hop := 255, dstNode := up.ownNode, dstPort := 0xFF }).1.admitUnit
      { aFrame with dual := false, hop := 255, dstNode := up.ownNode, dstPort := 0xFF } 122 true true true
      (State.ownDests up { aFrame with dual := false, hop := 255, dstNode := up.ownNode, dstPort := 0xFF }).2).2).isSome = true := by
  decide +kernel
theorem witness_SwitchCoreMoves_residue : (up.setResidue 5 [{ uid := 7, until_ := 100 }]).residue 5 = [{ uid := 7, until_ := 100 }] := by decide +kernel
theorem witness_SwitchCoreMoves_scrub : 2097150 + 1 < 2 ^ 21 ∧ up.islandUp 6 = true := by decide +kernel

/-! Witnesses: PressAndFences -/

theorem witness_PressAndFences_press :
    ((up.arm (.pressWait 9) 5).expire (.pressWait 9)).isSome = true ∧
    ((((up.setCtx 9 { next := 0 }).arm (.pressIdle 9) 5).expire (.pressIdle 9)).any
      (fun u => (u.ctx? 9).any (fun c => c.held.isEmpty))) = true := by decide +kernel
theorem witness_PressAndFences_fence : up.mgtUp = true := by decide +kernel

/-! Witnesses: RingTimeMoves -/

theorem witness_RingTimeMoves_send :
    ((((laneIn 6).wr .timCfg 0 0 0xFF00).arm (.timeSend 2) 5).expire (.timeSend 2)).any (fun u => u.timeLane 2) = true ∧
    ((laneIn 6).wr .timCfg 0 0 0xFF00).timeLane 2 = true := by decide +kernel
theorem witness_RingTimeMoves_listen :
    (((up.put F.TIM_CFG_MASTER_CAP 1).arm .listen 0).expire .listen).any
      (fun u => u.tst == tsListen && u.is F.TIM_CFG_MASTER_CAP) = true := by decide +kernel
theorem witness_RingTimeMoves_loss :
    ((up.put F.TIM_STAT_STATE 2).arm .upstream 5).deadline .upstream = some 5 ∧
    ((up.put F.TIM_STAT_STATE 2).arm .upstream 5).tst = tsLocked ∧
    (State.setTlane ((up.put F.TIM_STAT_STATE 2).arm .upstream 5) 7 {}).heardLanes = [] := by decide +kernel
theorem witness_RingTimeMoves_step : ({ up with time := { up.time with stepAt := some 9 } } : State).time.stepAt = some 9 := rfl
theorem witness_RingTimeMoves_copies : up.islandUp 7 = true ∧ up.islandUp 20 = true ∧ up.islandUp 1 = true := by decide +kernel
theorem witness_RingTimeMoves_snap :
    ((up.enterEntry 255 { kind := 3, node := 0, id := 5, t := 100 }).takeEntry 255 3 0).isSome = true := by decide +kernel
theorem witness_RingTimeMoves_time :
    ((laneIn 6).wr .timCfg 0 0 0xFF00).laneUp 2 = true ∧
    (((laneIn 6).wr .timCfg 0 0 0xFF00).linkLocalIn 2 aFrame { fcs := aFrame.fcs, rind := 0 }).2 = false ∧
    (((laneIn 6).wr .timCfg 0 0 0xFF00).linkLocalIn 2 aFrame { fcs := aFrame.fcs, rind := 0 }).1.timeLane 2 = true ∧
    aFrame.malformed = false ∧ rindOf aFrame { fcs := aFrame.fcs, rind := rindGood } = rindGood ∧
    ({ aFrame with payload := [0, 1] } : Frame).payload.getD 1 0 = 1 := by decide +kernel
theorem witness_RingTimeMoves_goodSnap :
    ((laneIn 6).put F.TIM_STAT_VALID 1).laneUp 2 = true ∧ ((laneIn 6).put F.TIM_STAT_VALID 1).islandUp 7 = true ∧
    ((laneIn 6).put F.TIM_STAT_VALID 1).snapSeen 0 0x100000 = false ∧ ((laneIn 6).put F.TIM_STAT_VALID 1).freeEntry = some 0 ∧
    ((laneIn 6).put F.TIM_STAT_VALID 1).timeInvalid = false ∧ ((laneIn 6).put F.TIM_STAT_VALID 1).leadOk 0x100000 = true ∧
    ({ aFrame with time := 0x100000 } : Frame).time = 0x100000 := by decide +kernel
theorem witness_RingTimeMoves_badSnap :
    (laneIn 6).laneUp 2 = true ∧ ((laneIn 6).linkLocalIn 2 aFrame { lengthOk := false, rind := 0 }).2 = false := by decide +kernel

/-! Witnesses: ScheduledActions -/

/-- Entry 255 of the given kind and action. -/
def entry (kind action port : Nat) (data : List Word) : State :=
  up.enterEntry 255 { kind := kind, action := action, port := port, data := data, node := 0, id := 5, t := 100 }
theorem witness_ScheduledActions_engines :
    ((entry 1 1 0 [8]).takeEntry 255 1 1).any (fun r => r.2.engines == [3] && !r.2.dead 9 && !r.1.running 3 && r.1.startOk 3) = true ∧
    ((entry 1 1 0 [0]).takeEntry 255 1 1).any (fun r => r.2.engines == []) = true ∧
    ((entry 1 2 0 [8]).takeEntry 255 1 2).isSome = true ∧ ((entry 2 0x42 0 [8]).takeEntry 255 2 0x42).isSome = true := by
  decide +kernel
theorem witness_ScheduledActions_send :
    ((State.put { entry 1 0x10 26 [0] with ports := [(26, { enable := true })] } F.CAN_CFG_OUT_EN 1 0).takeEntry 255 1 0x10).any
      (fun r => !r.2.dead (portIsland r.2.port) && r.1.portOutOk r.2.port) = true := by decide +kernel
theorem witness_ScheduledActions_barred :
    ((entry 1 0x10 26 [0]).takeEntry 255 1 0x10).any (fun r => !r.2.dead (portIsland r.2.port) && !r.1.portOutOk r.2.port) = true := by
  decide +kernel
theorem witness_ScheduledActions_pins :
    ((entry 1 0x20 0 [1, 2, 2]).takeEntry 255 1 0x20).any (fun r => !r.2.dead (9 + r.2.cluster)) = true ∧
    ((entry 2 0x40 0 [1, 2]).takeEntry 255 2 0x40).any (fun r => !r.2.dead (9 + r.2.cluster)) = true ∧
    ((entry 2 0x41 0 [1, 2]).takeEntry 255 2 0x41).any (fun r => !r.2.dead (9 + r.2.cluster)) = true := by decide +kernel
theorem witness_ScheduledActions_channels :
    (((entry 1 0x30 0 [1]).put F.PWR_CH_STAT_STATE pcOn 0).takeEntry 255 1 0x30).any (fun r => !r.2.dead 20 &&
      !(r.2.channels.any (fun c => let st := (r.2.channels.foldl (fun s c => s.entryOn r.2 c) r.1).pst c
        st == pcHeld || st == pcRetryWait || st == pcLatched))) = true ∧
    ((entry 1 0x31 0 [1]).takeEntry 255 1 0x31).any (fun r => !r.2.dead 20) = true ∧
    ((entry 2 0x43 0 [1]).takeEntry 255 2 0x43).any (fun r => !r.2.dead 20) = true := by decide +kernel
theorem witness_ScheduledActions_handoff : (tfind (entry 1 0x30 0 [1]).sched 255).any (fun x => !x.stepped) = true := by
  decide +kernel

/-! Witnesses: EngineClockEdge -/

/-- Engine 0 running at the program word `w`. -/
def engAt (w : Word) : State := (up.wr .engProg 0 0 w).startEngine 0 0
/-- Does engine 0 come to an edge with the instruction `w` of operation code `k`? -/
def edgeOf (s : State) (k : Nat) : Bool :=
  s.islandRuns 9 && s.running 0 && !((s.toEdge 0).eng 0).badProg.contains ((s.toEdge 0).eget F.ENG_STATUS_PC 0) && !(s.eis F.ENG_INJECT_PENDING 0 && decide ((s.eng 0).edge ≥ (s.eng 0).injAt)) && opOf (s.fetch 0) == k
theorem witness_EngineClockEdge_stalls :
    edgeOf (engAt 0x200000) 2 = true ∧ ((engAt 0x200000).toEdge 0).stalls 0 0x200000 = true ∧
    edgeOf (engAt 0x400005) 4 = true ∧ ((engAt 0x400005).toEdge 0).stalls 0 0x400005 = true := by decide +kernel
/-- An engine whose RXQ is full. -/
def fullEng (w : Word) : State :=
  (engAt w).setEng 0 { (engAt w).eng 0 with rxq := List.replicate 8 { w := 0, last := false, time := 0, at_ := 0, invalid := false } }
theorem witness_EngineClockEdge_full :
    edgeOf (fullEng 0x300000) 3 = true ∧ ((fullEng 0x300000).toEdge 0).stalls 0 0x300000 = true ∧
    edgeOf (fullEng 0xE04000) 14 = true ∧ ((fullEng 0xE04000).toEdge 0).stalls 0 0xE04000 = true := by decide +kernel
theorem witness_EngineClockEdge_halt :
    edgeOf (engAt 0xF00000) 15 = true ∧ edgeOf (engAt 0xF00001) 15 = true := by decide +kernel

/-! Witnesses: FacetShifts -/

theorem witness_FacetShifts :
    edgeOf (engAt 0x006020) 0 = true ∧ (0x006020 : Word).bits 5 0 = 32 ∧ (0x006020 : Word).bits 14 13 = 3 ∧
    edgeOf (engAt 0x107001) 1 = true ∧ (0x107001 : Word).bits 5 0 = 1 ∧ (0x107001 : Word).bits 14 13 = 3 ∧
    edgeOf (engAt 0xC00008) 12 = true ∧ (0xC00008 : Word).bits 5 0 = 8 ∧
    edgeOf (engAt 0xD00020) 13 = true ∧ (0xD00020 : Word).bits 5 0 = 32 := by decide +kernel
theorem witness_FacetShifts_reserved :
    edgeOf (engAt 0x000021) 0 = true ∧ (0x000021 : Word).bits 5 0 = 33 ∧ edgeOf (engAt 0x10003F) 1 = true ∧
    (0x10003F : Word).bits 5 0 = 63 ∧ edgeOf (engAt 0xC00000) 12 = true ∧ (0xC00000 : Word).bits 5 0 = 0 ∧
    edgeOf (engAt 0xD00000) 13 = true := by decide +kernel

/-! Witnesses: FacetQueuesAndWaits -/

/-- Engine 0 at the word `w` with one word in TXQ. -/
def fedEng (w : Word) (poison : Bool) : State := (engAt w).setEng 0 { (engAt w).eng 0 with
  path := [{ w := 7, last := true, time := 0, at_ := 0, invalid := false, poison := poison }], txn := 1 }
theorem witness_FacetQueuesAndWaits_take :
    edgeOf (fedEng 0x206000 false) 2 = true ∧ (((fedEng 0x206000 false).toEdge 0).eng 0).txq.length = 1 ∧
    (0x206000 : Word).bits 14 13 = 3 ∧ edgeOf (engAt 0x201000) 2 = true ∧
    (((engAt 0x201000).toEdge 0).eng 0).txq = [] := by decide +kernel
theorem witness_FacetQueuesAndWaits_poison :
    ((((State.eput (fedEng 0x200000 true) F.ENG_QCFG_POISON_HALT 1 0).toEdge 0).eng 0).txq.map (·.poison)) = [true] ∧
    edgeOf (State.eput (fedEng 0x200000 true) F.ENG_QCFG_POISON_HALT 1 0) 2 = true ∧
    (((State.eput (fedEng 0x200000 true) F.ENG_QCFG_POISON_HALT 1 0).toEdge 0).eis F.ENG_QCFG_POISON_HALT 0) = true := by
  decide +kernel
theorem witness_FacetQueuesAndWaits_give :
    edgeOf (engAt 0x300800) 3 = true ∧ ((engAt 0x300800).toEdge 0).rxFull 0 = false ∧ edgeOf (engAt 0xE04000) 14 = true ∧
    ((engAt 0xE04000).toEdge 0).rxFull 0 = false ∧ edgeOf (engAt 0xE00000) 14 = true ∧ edgeOf (engAt 0xB04001) 11 = true ∧
    ((engAt 0x300800).toEdge 0).rxCap 0 ≠ 0 ∧ (State.eput up F.ENG_QCFG_TX_DEPTH 4 0).rxCap 0 = 0 := by decide +kernel
theorem witness_FacetQueuesAndWaits_hold :
    edgeOf (engAt 0x400000) 4 = true ∧ ((engAt 0x400000).toEdge 0).holdWaits 0 0x400000 = false ∧
    edgeOf ((engAt 0x403000).setEng 0 { (engAt 0x403000).eng 0 with trig := true }) 4 = true ∧
    (((engAt 0x403000).setEng 0 { (engAt 0x403000).eng 0 with trig := true }).toEdge 0).holdWaits 0 0x403000 = false ∧
    ((State.setClu (engAt 0x405008) 0 { (engAt 0x405008).clu 0 with signals := 1 }).toEdge 0).holdWaits 0 0x405008 = false := by
  decide +kernel

/-! Witnesses: FacetFlowAndData -/

theorem witness_FacetFlowAndData :
    edgeOf (engAt 0x505000) 5 = true ∧ edgeOf (engAt 0x600001) 6 = true ∧ ((engAt 0x600001).toEdge 0).xReg 0 = 0 ∧
    edgeOf (State.eput (engAt 0x600001) F.ENG_XY_X 9 0) 6 = true ∧
    ((State.eput (engAt 0x600001) F.ENG_XY_X 9 0).toEdge 0).xReg 0 ≠ 0 ∧
    edgeOf (State.eput (engAt 0x604001) F.ENG_XY_Y 9 0) 6 = true ∧
    ((State.eput (engAt 0x604001) F.ENG_XY_Y 9 0).toEdge 0).yReg 0 ≠ 0 ∧ edgeOf (engAt 0x701FFF) 7 = true ∧
    edgeOf (engAt 0x800180) 8 = true ∧ edgeOf (engAt 0x900001) 9 = true ∧ edgeOf (engAt 0xA00001) 10 = true := by decide +kernel
theorem witness_FacetFlowAndData_swap :
    swapBytes 0x11223344 = 0x44332211 := by decide

/-! Witnesses: ClusterPins -/

/-- Engine 0 at `w` with the instruction `j` injected. -/
def injEng (w j : Word) : State :=
  State.eput ((engAt w).setEng 0 { (engAt w).eng 0 with inj := j }) F.ENG_INJECT_PENDING 1 0
theorem witness_ClusterPins_inject :
    (injEng 0xF00001 0x200000).eis F.ENG_INJECT_PENDING 0 = true ∧ (injEng 0xF00001 0x200000).cluUp 0 = true ∧
    ((State.eput ((injEng 0xF00001 0x200000).toEdge 0) F.ENG_INJECT_PENDING 0 0).injectStalls 0 0x200000) = true ∧
    (State.eput ((injEng 0xF00001 0xF00001).toEdge 0) F.ENG_INJECT_PENDING 0 0).injectStalls 0 0xF00001 = false ∧
    ((State.eput ((injEng 0xF00001 0xF00001).toEdge 0) F.ENG_INJECT_PENDING 0 0).operate 0 0xF00001).2 = .next ∧
    ((State.eput ((injEng 0xF00001 0xF00000).toEdge 0) F.ENG_INJECT_PENDING 0 0).operate 0 0xF00000).2 = .halt ∧
    ((State.eput ((injEng 0xF00001 0x500009).toEdge 0) F.ENG_INJECT_PENDING 0 0).operate 0 0x500009).2 = .jump 9 := by
  decide +kernel
/-- A DIRECT_IN pin 3 of cluster 0 whose ball is high, with the debounce time `d`. -/
def pinUp (d : Nat) : State :=
  State.setClu ((up.put F.PIN_CFG_MODE 1 0 3).put F.PIN_CFG_DEB_US d 0 3) 0 { up.clu 0 with net := 8 }
theorem witness_ClusterPins_debounce :
    (pinUp 1).get F.PIN_CFG_MODE 0 3 = 1 ∧ (pinUp 1).get F.PIN_CFG_DEB_US 0 3 = 1 ∧
    ((pinUp 1).clu 0).net.getLsbD 3 ≠ ((pinUp 1).clu 0).acc.getLsbD 3 ∧ tget 0 ((pinUp 1).clu 0).runs 3 + 1 = 1 ∧
    (pinUp 2).get F.PIN_CFG_DEB_US 0 3 = 2 ∧ (pinUp 1).cluUp 0 = true := by decide +kernel
theorem witness_ClusterPins_cos :
    (State.setClu (up.put F.CLU_COS_DEST_NODE 9 0) 0 { up.clu 0 with cosMask := 1 }).cluUp 0 = true ∧
    (State.setClu (up.put F.CLU_COS_DEST_NODE 9 0) 0 { up.clu 0 with cosMask := 1 }).get F.CLU_COS_DEST_NODE 0 ≠ 0 := by
  decide +kernel
theorem witness_ClusterPins_level :
    up.pinDrives 0 31 = false ∧ (up.clu 0).net.getLsbD 31 ≠ true ∧ up.get F.PIN_CFG_MODE 0 31 ≠ 1 ∧
    (up.put F.PIN_CFG_MODE 1 0 3).pinDrives 0 3 = false ∧ ((up.put F.PIN_CFG_MODE 1 0 3).clu 0).acc.getLsbD 3 ≠ true ∧
    (up.put F.PIN_CFG_MODE 1 0 3).get F.PIN_CFG_DEB_US 0 3 = 0 ∧ up.flowPins 0 = up ∧
    (up.put F.PIN_CFG_MODE 1 0 3).flowPins 0 = up.put F.PIN_CFG_MODE 1 0 3 := by decide +kernel

/-! Witnesses: ClusterQueuesAndWindows -/

/-- A unit of PORT_DATA queued to engine 0's port. -/
def feedUnit (ft : BitVec 4) : State := ((up.setUnit 7 {
  frame := { aFrame with ftype := ft, payload := [5] }, inPort := 0, own := false, cells := [3], tier := .shared, gen := 0
  complete := true, ready := true, rind := rindGood, authOk := true }).setQueue (8 * 58) [{ uid := 7 }])
theorem witness_ClusterQueuesAndWindows_feed :
    ((feedUnit ftPortData).nextQueue 58).isSome = true ∧ ((feedUnit ftPortData).unit? 7).any
      (fun v => ((feedUnit ftPortData).ueOf v).isEmpty && v.frame.ftype == ftPortData && !v.frame.payload.isEmpty) = true ∧
    ((feedUnit ftEvent).nextQueue 58).isSome = true ∧ (feedUnit ftEvent).cluUp 0 = true ∧
    ((feedUnit ftEvent).eng 0).feed = none := by decide +kernel
/-- Engine 0 with one word in RXQ and one in the frame of its port. -/
def packEng (last enable : Bool) : State :=
  State.setEng { up with ports := [(58, { enable := enable })] } 0 { up.eng 0 with
    rxq := [{ w := 1, last := last, time := 0, at_ := 0, invalid := false }]
    frame := [{ w := 2, last := false, time := 0, at_ := 0, invalid := false }] }
theorem witness_ClusterQueuesAndWindows_pack :
    (State.setEng (packEng true true) 0 { (packEng true true).eng 0 with rxq := [] }).windowOf 0 = none ∧
    ((packEng true true).portCfg 58).enable = true ∧ ((packEng true false).portCfg 58).enable = false ∧
    (packEng true true).packTurn 0 = some 0 ∧ (packEng true true).windowOf 0 = none ∧
    ((packEng false true).eng 0).frame.length + 1 < (State.eput (packEng false true) F.ENG_QCFG_RX_MAX_W 9 0).eget F.ENG_QCFG_RX_MAX_W 0 := by
  decide +kernel
theorem witness_ClusterQueuesAndWindows_window :
    ((packEng true true).put F.WIN_CFG_ENABLE 1 0 0).windowOf 0 = some 0 := by decide +kernel
theorem witness_ClusterQueuesAndWindows_packTimer : ((up.arm (.rxPack 0) 5).expire (.rxPack 0)).isSome = true := by decide +kernel
/-- A window with a whole answer waiting. -/
def winWith (cur : Option WinReq) : State :=
  up.setWin 0 { cur := cur, answer := [{ w := 0, last := true, time := 0, at_ := 0, invalid := false }] }
/-- A request in service. -/
def aReq : WinReq :=
  { cmd := { frame := { aFrame with ftype := ftCommand } }, write := false, off := 0, count := 1, data := [], arrival := 0 }
theorem witness_ClusterQueuesAndWindows_answer :
    (splitItem ((winWith none).win 0).answer).1.any (·.last) = true ∧ (winWith none).mgtUp = true ∧ (winWith none).cluUp 0 = true ∧
    (0 : Word).bits 23 16 = (winWith (some aReq)).get F.WIN_STAT_RID 0 0 ∧
    (0 : Word).bits 23 16 ≠ ((winWith (some aReq)).put F.WIN_STAT_RID 3 0 0).get F.WIN_STAT_RID 0 0 := by decide +kernel
theorem witness_ClusterQueuesAndWindows_timeout :
    ((((winWith (some aReq)).arm (.window 0) 5000000).expire (.window 0)).any
      (fun u => decide (aReq.arrival + u.winTime 0 ≤ u.now))) = true ∧
    (((winWith none).arm (.window 0) 5).expire (.window 0)).any (fun u => (u.win 0).cur.isNone) = true := by decide +kernel

/-! Witnesses: CanTraffic -/

/-- Controller 3 in OPMODE `m` with its outputs enabled, sending and receiving. -/
def canIn (m : Nat) : State :=
  State.setCan (up.put F.CAN_CFG_OUT_EN 1 3) 3 { opmode := m, slot := some { hdr := [0, 5, 0, 0, 0], data := [] } }
theorem witness_CanTraffic_receive :
    (canIn 1).canOnBus 3 = true ∧ ((canIn 1).can 3).rd.stage = 0 ∧ (canIn 1).canTransmits 3 = true ∧
    (((canIn 1).canBegin 3 0).can 3).slot.isSome = true ∧ (canIn 1).mode ≠ .sleep ∧ (((canIn 1).canBegin 3 0).can 3).flush = false ∧
    (State.can (State.setCan (canIn 1) 3 { (canIn 1).can 3 with started := true, flush := true } |>.canBegin 3 0) 3).flush = true ∧ (canIn 1).canUp = true ∧ ({} : CanFrame).good = true ∧ ({} : CanFrame).crcOk = true ∧
    (State.put (canIn 1) F.CAN_CFG_FD_EN 1 3).is F.CAN_CFG_FD_EN 3 = true ∧
    (State.put (canIn 1) F.CAN_CFG_XL_EN 1 3).is F.CAN_CFG_XL_EN 3 = true ∧
    (State.put (canIn 1) F.CAN_CFG_PEX_EN 1 3).is F.CAN_CFG_PEX_EN 3 = true := by decide +kernel
theorem witness_CanTraffic_states :
    (up.can 3).slot = none ∧ (up.put F.CAN_STAT_TEC 256 3).get F.CAN_STAT_STATE 3 < 2 ∧
    256 ≤ (up.put F.CAN_STAT_TEC 256 3).get F.CAN_STAT_TEC 3 ∧ 128 ≤ (up.put F.CAN_STAT_TEC 128 3).get F.CAN_STAT_TEC 3 ∧
    128 ≤ (up.put F.CAN_STAT_REC 128 3).get F.CAN_STAT_REC 3 ∧ up.get F.CAN_STAT_TEC 3 < 128 := by decide +kernel
theorem witness_CanTraffic_moves :
    (up.put F.CAN_STAT_STATE 3 3).get F.CAN_STAT_STATE 3 = 3 ∧ (canIn 1).get F.CAN_CTL_OPMODE 3 ≠ 1 ∧
    ((((up.setCan 3 { pack := [1] }).arm (.canPack 3) 5).expire (.canPack 3)).any
      (fun u => !(u.can 3).pack.isEmpty && !u.portOpen (26 + 3))) = true := by decide +kernel

/-! Witnesses: CanDetectionAndReferences -/

theorem witness_CanDetectionAndReferences_survey :
    ((up.setCan 3 { rd := { stage := 1 } }).can 3).rd.stage = 1 ∧ (List.replicate 64 (800 : Nat)).length = 64 ∧
    (((up.setCan 3 { rd := { stage := 1 } }).arm (.survey 3) 9).expire (.survey 3)).isSome = true := by decide +kernel
theorem witness_CanDetectionAndReferences_dwell :
    (((up.setCan 3 { rd := { stage := 2, cands := [4, 5] } }).arm (.dwell 3) 9).expire (.dwell 3)).any
      (fun u => (u.can 3).rd.cands == [4, 5]) = true ∧
    ((up.arm (.rdTimeout 3) 9).expire (.rdTimeout 3)).any (fun u => (u.can 3).opmode != 1) = true := by decide +kernel
/-- Controller 3 sending references each 1 us; `t` is one that is pending. -/
def canRef (t : Option CanTx) : State :=
  State.setCan (((up.put F.CAN_CFG_OUT_EN 1 3).put F.CAN_REF_CFG_ENABLE 1 3).put F.CAN_REF_CFG_PERIOD_US 1 3) 3 { opmode := 1, ref := t }
theorem witness_CanDetectionAndReferences_reference :
    (canRef none).is F.CAN_REF_CFG_ENABLE 3 = true ∧ (canRef none).canUp = true ∧ (canRef none).canActs 3 = 1 ∧
    1000 * (canRef none).get F.CAN_REF_CFG_PERIOD_US 3 = 1000 ∧
    ((State.advanceRing (canRef none) 1000).can 3).ref = none ∧ ((State.advanceRing (canRef none) 1000).can 3).slot = none ∧
    ((State.advanceRing (canRef (some { hdr := [], data := [] })) 1000).can 3).ref.isSome = true := by decide +kernel
/-- A hub in SLEEP whose controller 3 wakes it under `m`. -/
def canSleep (m : Nat) : State := ({ State.put up F.CAN_WAKE_CFG_WAKE_MODE m 3 with mode := .sleep } : State)
theorem witness_CanDetectionAndReferences_wake :
    (canSleep 1).mode = .sleep ∧ (canSleep 1).get F.CAN_WAKE_CFG_WAKE_MODE 3 = 1 ∧ (canSleep 2).get F.CAN_WAKE_CFG_WAKE_MODE 3 = 2 ∧
    (canSleep 2).canWakes 3 {} = true := by decide +kernel
theorem witness_CanDetectionAndReferences_pulse : ∀ p : Nat, ([] : List Nat).foldl min p = p := fun _ => rfl

/-! Witnesses: MacReception -/

/-- The hub with MAC 17 enabled and its link up. -/
def macOn : State := State.setMac (((up.put F.MAC_CFG_MAC_EN 1 17).put F.MAC_CFG_INBAND 1 17).put F.MAC_CFG_MAX_LEN 1518 17) 17 { inLink := true }
theorem witness_MacReception_errors :
    macOn.macUp = true ∧ macOn.macEn 17 = true ∧ macOn.macReject 17 { symbolErr := true } = some 20 ∧
    fcsGood [] = false ∧ macOn.macReject 17 { bytes := List.replicate 64 0 } = some 15 ∧
    macOn.macReject 17 { bytes := List.replicate 64 0, aligned := false } = some 16 := by decide +kernel
/-- A sound frame of 64 bytes to 02:00:00:00:00:00. -/
def aMacRx : MacRx :=
  { bytes := [2, 0, 0, 0, 0, 0] ++ List.replicate 54 0 ++ macFcs ([2, 0, 0, 0, 0, 0] ++ List.replicate 54 0) }
theorem witness_MacReception_good :
    fcsGood aMacRx.bytes = true ∧ macOn.macReject 17 aMacRx = none ∧ isMcastAddr (aMacRx.bytes.take 6) = false ∧
    isBcastAddr (aMacRx.bytes.take 6) = false ∧ (aMacRx.bytes.drop 12).take 2 ≠ [0x88, 0x08] ∧ macOn.isComm 17 = false ∧
    ((macOn.macCount 17 11).macCount 17 12 64).macPasses 17 (aMacRx.bytes.take 6) = false ∧
    (State.put macOn F.MAC_CFG_PROMISC 1 17).macPasses 17 (aMacRx.bytes.take 6) = true ∧
    fcsGood (macFcs []) = true ∧ (State.put macOn F.MAC_CFG_MAX_LEN 63 17).macMaxLen 17 < 64 := by decide +kernel
theorem witness_MacReception_link :
    macOn.macLink 17 = true ∧ (macOn.setMac 17 { inLink := false }).macLink 17 = false ∧
    ((macOn.setMac 17 { inLink := false }).macCount 17 27).macEn 17 = true ∧ up.macLink 18 = false ∧
    (State.setMac ((up.put F.MAC_CFG_MAC_EN 0 18).put F.MAC_CFG_INBAND 0 18) 18 { rxc := true }).macLink 18 = true ∧
    ((State.setMac ((up.put F.MAC_CFG_MAC_EN 0 18).put F.MAC_CFG_INBAND 0 18) 18 { rxc := false }).macCount 18 27).macEn 18 = false := by
  decide +kernel
theorem witness_MacReception_rest :
    ((State.arm { up.setMac 17 { pack := [1] } with ports := [(macPort 17, { enable := true, node := 7 })] } (.macPack 17) 5).expire
      (.macPack 17)).any (fun u => !(u.mac 17).pack.isEmpty && u.portOpen (macPort 17)) = true ∧
    up.macUp = true ∧ (up.put F.MAC_MDIO_CTL_BUSY 1).is F.MAC_MDIO_CTL_BUSY = true := by decide +kernel

/-! Witnesses: MacTransmission -/

/-- T1S MAC 3 enabled with a frame in its slot in phase `p` after `c` collisions. -/
def macTx (p c : Nat) : State :=
  State.setMac ((up.put F.MAC_CFG_MAC_EN 1 3).put F.MAC_CFG_OUT_EN 1 3) 3
    { slot := some { bytes := List.replicate 60 2 }, phase := p, cols := c }
theorem witness_MacTransmission :
    ((macTx 0 0).mac 3).phase = 0 ∧ (macTx 0 0).macFull 3 = false ∧ (macTx 0 0).macRuns 3 = true ∧ (macTx 1 0).macFull 3 = false ∧
    (macTx 1 0).macRuns 3 = true ∧ ((macTx 0 0).mac 3).tried = false ∧ ((macTx 1 14).mac 3).cols < 15 ∧
    ((macTx 1 15).mac 3).flush = false ∧ 15 ≤ ((macTx 1 15).mac 3).cols ∧
    (((macTx 2 1).arm (.backoff 3) 9).expire (.backoff 3)).any (fun u => (u.mac 3).phase == 2) = true := by decide +kernel
theorem witness_MacTransmission_end :
    ((macTx 1 0).mac 3).phase = 1 ∧ ((macTx 1 0).mac 3).cols = 0 ∧
    isMcastAddr (({ bytes := List.replicate 60 2 } : MacTx).onWire.take 6) = false ∧
    isBcastAddr (({ bytes := List.replicate 60 2 } : MacTx).onWire.take 6) = false ∧
    (State.put (macTx 1 0) F.MAC_CFG_OUT_EN 0 3).macRuns 3 = false ∧ ((State.put (macTx 1 0) F.MAC_CFG_OUT_EN 0 3).mac 3).waits (macTx 1 0).now = false := by decide +kernel

/-! Witnesses: FieldPowerStates -/

/-- A hub that may drive channel 3, which is in state `st`. -/
def pwrIn (st : Nat) : State :=
  ((up.put F.PWR_STAT_LINK_OK 1).put F.PWR_CFG_OUT_EN 1).put F.PWR_CH_STAT_STATE st 3
theorem witness_FieldPowerStates_ramp :
    (pwrIn 1).pwrRight = true ∧ (pwrIn 1).pst 3 = pcRamp ∧ (pwrIn 2).pst 3 = pcEnhance ∧ (pwrIn 3).pchOn 3 = true ∧
    (pwrIn 3).is F.PWR_CH_STAT_LIMITING 3 = false ∧ (pwrIn 7).pst 3 = pcParked ∧
    ((pwrIn 3).put F.PWR_CH_STAT_LIMITING 1 3).is F.PWR_CH_STAT_LIMITING 3 = true ∧
    (((pwrIn 3).arm (.pg 3) 9).expire (.pg 3)).isSome = true ∧
    (State.setPch (pwrIn 3) 3 { ft := 9 }).ftNow 3 ≠ 0 := by decide +kernel
theorem witness_FieldPowerStates_loss :
    ((pwrIn 3).put F.PWR_STAT_LINK_OK 0).pwrRight = false ∧ ((pwrIn 3).put F.PWR_STAT_LINK_OK 0).pst 3 = pcOn ∧
    ((pwrIn 3).put F.PWR_STAT_LINK_OK 0).pwrHard = true ∧ ((pwrIn 3).put F.PWR_STAT_LINK_OK 0).vinOk = true ∧
    ((pwrIn 3).put F.PWR_CH_CFG_HOLD_ON_RELEASE 1 3).is F.PWR_CH_CFG_HOLD_ON_RELEASE 3 = true ∧
    ((pwrIn 3).put F.PWR_CFG_OUT_EN 0).pwrHard = false ∧ ((pwrIn 3).pch 3).handed = false := by decide +kernel
theorem witness_FieldPowerStates_park :
    (((pwrIn 7).arm (.park 3) 9).expire (.park 3)).any (fun u => u.pst 3 == pcParked) = true ∧
    ((State.setPch ((pwrIn 7).put F.PAR_STAT_ILK_LOW 1) 3 { pairPark := true }).pch 3).pairPark = true ∧
    ((pwrIn 7).put F.PAR_STAT_ILK_LOW 1).is F.PAR_STAT_ILK_LOW = true ∧ (pwrIn 7).is F.PAR_STAT_ILK_DRIVE = false := by
  decide +kernel
theorem witness_FieldPowerStates_supply :
    up.pwrUp = true ∧ up.is F.PWR_STAT_PFWARN = false ∧ (up.put F.PWR_STAT_PFWARN 1).is F.PWR_STAT_PFWARN = true ∧
    up.tracking = false ∧ up.is F.PWR_CH_STAT_OPEN_LOAD 3 = false ∧ up.is F.PWR_CH_STAT_PG 3 = false := by decide +kernel

/-! Witnesses: FieldPowerFaults -/

theorem witness_FieldPowerFaults_timers :
    (((pwrIn 3).arm (.ft 3) 9).expire (.ft 3)).isSome = true ∧ (((pwrIn 1).arm (.ramp 3) 9).expire (.ramp 3)).isSome = true ∧
    (((pwrIn 4).arm (.retry 3) 9).expire (.retry 3)).any (fun u => u.pst 3 == pcRetryWait && !u.tracking &&
      u.get F.PWR_CH_FAULT_CODE 3 != fcTemp) = true ∧
    ((((pwrIn 4).put F.PWR_CH_FAULT_CODE fcTemp 3).arm (.retry 3) 9).expire (.retry 3)).any
      (fun u => u.get F.PWR_CH_FAULT_CODE 3 == fcTemp) = true ∧
    (((pwrIn 3).arm (.retryReset 3) 9).expire (.retryReset 3)).isSome = true := by decide +kernel
theorem witness_FieldPowerFaults_warm : (State.put (pwrIn 4) F.PWR_CH_MEAS2_T_EST 0x7FFF 3).cool 3 = false := by decide +kernel
theorem witness_FieldPowerFaults_off :
    (pwrIn 3).tracking = false ∧ (pwrIn 3).paired = false ∧ (pwrIn 3).pchOn 3 = true ∧ (pwrIn 0).pchOn 3 = false ∧
    ((pwrIn 0).pch 3).handed = false ∧ ((pwrIn 3).put F.PWR_CH_SNS_OPEN_MA 5 3).get F.PWR_CH_SNS_OPEN_MA 3 ≠ 0 ∧
    ((pwrIn 3).put F.PWR_CH_CFG_RETRY_MAX 2 3).get F.PWR_CH_FAULT_RETRY_CNT 3 < 2 ∧
    (((pwrIn 3).put F.PWR_CH_CFG_RETRY_MAX 2 3).faultOff 3 fcRamp 0).pst 3 = pcRetryWait ∧
    ((pwrIn 3).faultOff 3 fcGate 0).pst 3 = pcLatched ∧ ((pwrIn 3).faultOff 3 fcVinOv 0).pst 3 = pcHeld ∧
    ((pwrIn 3).faultOff 3 fcVinOv 0).get F.PWR_CH_FAULT_CODE 3 = 9 := by decide +kernel
theorem witness_FieldPowerFaults_heat :
    State.tRef (pwrIn 3) 3 + 0 < 8 * (State.get (pwrIn 3) F.PWR_CH_THERM1_TFET_MAX 3 : Int) ∧
    (pwrIn 3).get F.PWR_CH_CFG_TMP_MODE 3 = 0 ∧
    8 * (State.get (State.put (pwrIn 3) F.PWR_CH_THERM1_TFET_MAX 0 3) F.PWR_CH_THERM1_TFET_MAX 3 : Int) ≤
      State.tRef (pwrIn 3) 3 := by decide +kernel

/-! Witnesses: HostBridgeWindows -/

/-- A hub whose PCIe link is up, window 2 enabled. -/
def pci : State := (((up.put F.HBR_STAT_LINK_UP 1).put F.HBR_WIN_ATTR_ENABLE 1 2).put F.HBR_WIN_NODE_NODE 5 2)
theorem witness_HostBridgeWindows :
    pci.pcieUp = true ∧ pci.tlpRoom = true ∧ winOf 0x20000000 = 2 ∧ winOf 0x30000000 = 3 ∧
    (State.winLocal (pci.pfDropWin 2).nextOrder.2 2 true true) = none ∧
    (State.winLocal (pci.pfDropWin 2).nextOrder.2 2 true false) = some stBadParam ∧
    pci.is F.HBR_WIN_ATTR_POSTED 2 = false ∧ (State.put pci F.HBR_WIN_ATTR_POSTED 1 2).is F.HBR_WIN_ATTR_POSTED 2 = true ∧
    (State.winLocal pci 3 false true) = some stBadParam ∧ pci.is F.HBR_WIN_ATTR_PREFETCH 2 = false := by decide +kernel
theorem witness_HostBridgeWindows_bars :
    locate (0x700000 + 0xFFFC) = none ∧ (locate (0x700000 + 0)).isSome = true ∧ (0xFFFC : Nat) < 0x10000 ∧
    (locate (0x700000 + (Reg.hbrKey.addr 0 0 - 0x700000))).map (·.1) = some .hbrKey := by decide +kernel

/-! Witnesses: HostBridgeRings -/

/-- A unit at the head of port 5's class 7. -/
def port5 (s : State) : State := (s.setUnit 7 { frame := { aFrame with ftype := ftEvent, cls := 7 }, inPort := 0, own := false
                                                cells := [3], tier := .shared, gen := 0, complete := true, ready := true
                                                rind := rindGood, authOk := true }).setQueue 47 [{ uid := 7 }]
theorem witness_HostBridgeRings_deliver :
    (port5 up).islandUp 19 = true ∧ (State.rxHead (port5 up)).isSome = true ∧ (port5 up).is F.HBR_STAT_LINK_UP = false ∧
    (State.rxHead (port5 pci)).isSome = true ∧ (port5 pci).is F.HBR_STAT_LINK_UP = true ∧
    (port5 pci).isTrkReply { frame := { aFrame with ftype := ftEvent, cls := 7 }, inPort := 0, own := false
                             cells := [3], tier := .shared, gen := 0, complete := true, rind := rindGood, authOk := true } { uid := 7 } = false ∧
    pci.is F.HBR_RXR_CFG_ENABLE 7 = false ∧
    (State.put pci F.HBR_RXR_CFG_ENABLE 1 7).is F.HBR_RXR_CFG_ENABLE 7 = true ∧
    (((State.put pci F.HBR_RXR_CFG_LOG2 4 7)).put F.HBR_RXR_TAIL_TAIL 3 7).rxFree 7 = 3 := by decide +kernel
theorem witness_HostBridgeRings_reply :
    ((port5 pci).isTrkReply { frame := { aFrame with ftype := ftReply, tag := 0 }, inPort := 0, own := false
                              cells := [3], tier := .shared, gen := 0, complete := true, rind := rindGood, authOk := true } { uid := 7 }) = true := by decide +kernel
/-- A reply with a tag of the tracker to a posted write. -/
def aPostedReply : VUnit := { frame := { aFrame with ftype := ftReply, tag := 0, opcode := ocWritePosted }, inPort := 0, own := false
                              cells := [3], tier := .shared, gen := 0, complete := true, rind := rindGood, authOk := true }
theorem witness_HostBridgeRings_posted :
    isPostedReply aPostedReply { uid := 7 } = true ∧
    (State.postedReply (pci.setHbr { pci.hbr with posted := [(0, { frame := aFrame, win := 0, off := 0, write := true })] })
      aPostedReply.frame).isTrkReply aPostedReply { uid := 7 } = true := by decide +kernel
/-- A hub with a moderated vector, a retry, a read and a prefetch buffer that wait. -/
def hbrBusy : State :=
  State.setHbr pci { pci.hbr with
    intWait := [3], trk := [(4, { cmd := { frame := aFrame, win := 0, off := 0, write := true } })]
    reads := [(5, { win := 0, n := 1, left := 1 })], pf := [(6, { win := 0, base := 0, words := [], taken := [], lastUse := 0 })] }
theorem witness_HostBridgeRings_timers :
    ((hbrBusy.arm (.intMod 3) 9).expire (.intMod 3)).any (fun u => u.hbr.intWait.contains 3 && !u.hbr.intWait.contains 2) = true ∧
    ((hbrBusy.arm (.ncRetry 4) 9).expire (.ncRetry 4)).any (fun u => (tfind u.hbr.trk 4).isSome) = true ∧
    (tfind (State.setHbr pci { pci.hbr with trk := [(4, { cmd := { frame := aFrame, win := 0, off := 0, write := true }, waits := true })]
      }).hbr.trk 4).any (·.waits) = true ∧
    ((hbrBusy.arm (.readDeadline 5) 9).expire (.readDeadline 5)).any (fun u => (tfind u.hbr.reads 5).isSome &&
      u.hbr.wait.isEmpty) = true ∧
    ((hbrBusy.arm (.prefetch 6) 9).expire (.prefetch 6)).any (fun u => (tfind u.hbr.pf 6).isSome) = true := by decide +kernel
theorem witness_HostBridgeRings_resets :
    ((up.rd .islPwrStat).getLsbD 19) = true ∧ up.isl.rst.getLsbD 19 = false ∧ pci.pcieUp = true := by decide +kernel

/-! Witnesses: PairOrders -/

/-- A hub of a pair in pair state `st` whose twin link is up, expecting order 5. -/
def pairIn (st : Nat) : State :=
  { (((((up.wr .ctlNode 0 0 0x80040506).put F.CTL_PAIRADDR_PAIR_VALID 1).put F.PAR_STAT_STATE st).put F.LNK_STATE_STATE 6
      4).put F.PAR_STAT_TWIN_HB 1) with pair := { up.pair with expect := 5 } }
theorem witness_PairOrders_take :
    (pairIn 5).follows = true ∧ (pairIn 5).laneUp 4 = true ∧ (State.countOrder (pairIn 5) aFrame true).follows = true ∧
    (State.countOrder (pairIn 5) aFrame true).pair.expect = 5 ∧ (pairIn 5).pair.expect = 5 ∧ (5#16).toNat = 5 ∧ ((4#16).toNat + 65536 - 5) % 65536 = 65535 ∧
    ((6#16).toNat + 65536 - 5) % 65536 = 1 ∧ ((32772#16).toNat + 65536 - 5) % 65536 = 32767 ∧ (pairIn 2).follows = false ∧
    ((pairIn 5).takeOrder 5).2 = true ∧ ((pairIn 5).takeOrder 6).2 = false := by decide +kernel
theorem witness_PairOrders_frame :
    aFrame.malformed = false ∧ aFrame.ftype = ftCommand ∧ ({ aFrame with ftype := ftReply } : Frame).malformed = false ∧
    (pairIn 2).servesPair = true ∧ (pairIn 2).twinUp = true ∧ (pairIn 5).servesPair = false ∧ ({} : SessionOrder).ok = true := by
  decide +kernel
theorem witness_PairOrders_handover :
    ((pairIn 5).takeOrder 5).1.is F.PAR_STAT_ILK_LOW = false ∧ ((pairIn 5).takeOrder 5).1.fit = true ∧
    (((pairIn 5).put F.PAR_STAT_ILK_LOW 1).takeOrder 5).1.is F.PAR_STAT_ILK_LOW = true := by decide +kernel

/-! Witnesses: PairHeartbeatsAndClaims -/

theorem witness_PairHeartbeatsAndClaims_beats :
    (pairIn 2).pairs = true ∧ (pairIn 2).twinUp = true ∧ (pairIn 2).parSt = psActive ∧
    (((pairIn 2).arm .hbSend 9).expire .hbSend).any (fun u => u.parSt == psActive && u.fit && u.twinUp) = true ∧
    (((pairIn 2).arm .hbPin 9).silence true).isSome = true ∧ (pairIn 2).pathSilent true = true ∧
    (pairIn 2).pathSilent false = false ∧ (pairIn 2).pathFault false = false ∧ (pairIn 2).pair.handover = none ∧ (pairIn 5).parSt = psShadow ∧ (pairIn 5).is F.PAR_STAT_ILK_LOW = false := by
  decide +kernel
theorem witness_PairHeartbeatsAndClaims_pinWait :
    (((((pairIn 5).put F.PAR_STAT_TWIN_HB 0).put F.PAR_STAT_PIN_HB 1).arm .pinWait 9).expire .pinWait).any
      (fun u => u.parSt == psShadow && !u.is F.PAR_STAT_TWIN_HB && u.is F.PAR_STAT_PIN_HB && !u.pair.pinFault) = true := by
  decide +kernel
/-- A hub that claims. -/
def claiming (c : Nat) : State := { pairIn 6 with pair := { (pairIn 6).pair with claim := c } }
theorem witness_PairHeartbeatsAndClaims_claim :
    (((claiming 1).arm .claimWait 9).expire .claimWait).any (fun u => u.pair.claim == 1 && u.fit && !u.is F.PAR_STAT_ILK_LOW) = true ∧
    (((State.put (claiming 1) F.PAR_STAT_ILK_LOW 1).arm .claimWait 9).expire .claimWait).any
      (fun u => u.pair.claim == 1 && u.fit && u.is F.PAR_STAT_ILK_LOW) = true ∧
    (((claiming 1).arm .claimCheck 9).expire .claimCheck).any (fun u => u.pair.claim == 1 && !u.is F.PAR_STAT_ILK_LOW) = true := by
  decide +kernel
theorem witness_PairHeartbeatsAndClaims_ilk :
    (claiming 1).paired = true ∧ (claiming 1).is F.PAR_STAT_ILK_LOW = false ∧ (claiming 1).is F.PAR_STAT_ILK_DRIVE = false ∧
    (State.put (claiming 3) F.PAR_STAT_ILK_LOW 1).is F.PAR_STAT_ILK_LOW = true ∧ (claiming 3).fit = true ∧
    (State.put (claiming 3) F.FLT_STAT_UNFIT 1).fit = false := by decide +kernel
theorem witness_PairHeartbeatsAndClaims_pairWait :
    ((State.arm { pairIn 1 with pair := {} } .pairWait 9).expire .pairWait).any (fun u => u.parSt == psPairing && u.pair.claim == 0 &&
      u.pair.join.isNone && !u.is F.PAR_STAT_ILK_LOW) = true := by decide +kernel

/-! Witnesses: PairTransfers -/

/-- An active with two orders unacknowledged. -/
def ordering : State := { pairIn 2 with pair := { (pairIn 2).pair with unacked := [(5, aFrame), (6, aFrame)] } }
theorem witness_PairTransfers_ack :
    ordering.paired = true ∧ ordering.pair.handover = none ∧ ordering.pair.waiting = [] ∧
    (ordering.pair.unacked.filter (fun e => decide (32768 ≤ ((5#16).toNat + 65536 - e.1) % 65536))).length = 1 ∧
    (ordering.pair.unacked.filter (fun e => decide (32768 ≤ ((6#16).toNat + 65536 - e.1) % 65536))).length = 0 ∧
    ((ordering.arm .ack 9).expire .ack).any (fun u => u.pair.unacked.length == 2 && u.twinUp) = true := by decide +kernel
theorem witness_PairTransfers_backlog :
    ((State.arm { pairIn 2 with pair := { unacked := List.replicate 512 (0, aFrame) } } .backlog 9).expire .backlog).any
      (fun u => u.servesPair && u.twinUp && decide (512 ≤ u.pair.unacked.length)) = true := by decide +kernel
theorem witness_PairTransfers_digest :
    ((pairIn 2).arm .digestSend 9).deadline .digestSend = some 9 ∧ (((pairIn 2).arm .digestSend 9).advance 9).streaming = true ∧
    (((pairIn 5).arm .digestSend 9).advance 9).streaming = false := by decide +kernel
theorem witness_PairTransfers_join :
    (((pairIn 4).arm .joinSend 9).expire .joinSend).any (fun u => u.fit && u.twinUp && u.parSt == psShadowSync &&
      !u.pair.synced) = true ∧ (pairIn 1).pairs = true ∧ (pairIn 1).is F.PAR_STAT_NO_PAIR = false ∧
    (pairIn 1).parSt = psPairing ∧ (pairIn 4).fit = true ∧ ({} : SyncRecord).ok = true := by decide +kernel
theorem witness_PairTransfers_rest :
    (((pairIn 4).arm .transfer 9).expire .transfer).any (fun u => u.parSt == psShadowSync) = true ∧
    ({ pairIn 5 with pair := { heldFrames := [(7, aFrame)] } } : State).pair.heldFrames.length = 1 := by decide +kernel

/-! Witnesses: ManagementCores -/

/-- A READ of one word by core B of the hub itself. -/
def llFrame : Frame := { ftype := ftCommand, dstPort := 0xFF, opcode := 0x01, dstNode := up.ownNode }
/-- The command that the request of core B becomes. -/
def llCmd : Cmd :=
  { frame := { llFrame with srcNode := up.ownNode, srcPort := 122, session := 0, gcm := [] }, via := .localLogic }
theorem witness_ManagementCores :
    up.mgtUp = true ∧ (up.put F.MGT_STAT_LOCKSTEP 1).is F.MGT_STAT_LOCKSTEP = true ∧ up.boot.switch = none ∧
    (up.put F.MGT_LL_STAT_RUNNING 1).is F.MGT_LL_STAT_RUNNING = true ∧
    (up.put F.MGT_LL_STAT_RUNNING 1).get F.MGT_LL_STAT_LL_RESTARTS < 2 ^ 16 - 1 ∧
    ((up.arm .wdg 9).expire .wdg).any (fun u => u.mode == .run && !u.boot.held) = true ∧
    up.isl.rst.getLsbD 8 = false := by decide +kernel
theorem witness_ManagementCores_request :
    (up.put F.MGT_STAT_LOCKSTEP 0).hears llCmd = true ∧ llCmd.frame.malformed = false ∧ llFrame.tag.toNat ≤ 15 ∧
    up.llOutstanding < 16 := by decide +kernel

/-! Witnesses: SensorsAndLog -/

/-- A hub with one audit record behind an operational one, neither mirrored. -/
def logTwo : State := (up.log false 0 0 0 1 {} []).log true 0 0 0 2 {} []
/-- Source 0x14 live at sensor 0. -/
def hot : State := up.setLive 0x14 0
theorem witness_SensorsAndLog :
    up.mgtUp = true ∧ (State.setRst up 8 true).mgtUp = false ∧ (up.put F.PWR_STAT_LINK_OK 1).is F.PWR_STAT_LINK_OK = true ∧
    (up.put F.MGT_TEMP_T_LO 0x400).tempOf 0 = some 1024 ∧ (up.put F.MGT_TEMP_T_HI 0xFFF8).tempOf 1 = some (-8) ∧
    hot.is F.FLT_SRC_STAT_LIVE 0x14 = true ∧ ((List.range 10).all fun i => (hot.tempOf i).all (· ≤ 8 * 85 - 40)) = true ∧
    hot.deadline (.tempClear false) = none ∧ (hot.arm (.tempClear false) 5).deadline (.tempClear false) = some 5 ∧
    (State.advance (hot.arm (.tempClear false) 5) 6).now = 6 := by decide +kernel
theorem witness_SensorsAndLog_mirror :
    logTwo.logBacklog = 2 ∧ logTwo.mgt.gapRun = 0 ∧ (nextToMirror logTwo.mgt.ramLog).any (·.audit) = true ∧
    (nextToMirror logTwo.mgt.ramLog).all (fun r => logTwo.skipRecord r) = false ∧
    ((up.put F.MGT_CFG_LOG_INFO_FLASH 0).log false 0 0 0 1 {} []).mirrorOne.mgt.gapRun = 1 ∧
    logTwo.mgt.flashLog.length < 4096 ∧
    (State.mirrorOne { logTwo with mgt := { logTwo.mgt with gapRun := 2 } }).mgt.gapRun = 2 := by decide +kernel

/-! Witnesses: FaultSources -/

theorem witness_FaultSources :
    up.canRaise 0x14 3 = true ∧ up.get F.FLT_EVT_DEST_NODE = 0 ∧ homeIsland 0x61 3 = some 9 ∧ up.canRaise 0x61 3 = true ∧
    tget 0 up.isl.cdc (21 * 9) = 0 ∧ up.is F.FLT_SRC_STAT_LATCHED 0x15 = false := by decide +kernel
theorem witness_FaultSources_classes :
    up.srcClass 1 ≥ 4 ∧ up.srcClass 0x15 = 4 ∧ up.is F.FLT_SRC_STAT_PENDING 0x15 = false ∧
    up.get F.FLT_SRC_CFG_GRACE 0x15 = 100 ∧ (up.put F.FLT_SRC_CFG_GRACE 0 0x15).get F.FLT_SRC_CFG_GRACE 0x15 = 0 ∧
    (up.raise 0x15 2).is F.FLT_SRC_STAT_PENDING 0x15 = true ∧ up.srcClass 0x14 < 4 ∧ up.srcClass 0x10 = 5 ∧
    (up.setLive 0x14 3).isLive 0x14 3 = true ∧ up.canRaise 0x14 10 = false ∧ up.canRaise 0x10 0 = true := by decide +kernel
theorem witness_FaultSources_crossing :
    tget 0 (State.isl { up with isl := { up.isl with cdc := tset up.isl.cdc (21 * 9) 16 } }).cdc (21 * 9) = 16 ∧
    homeIsland 0x63 3 = some 9 ∧ up.canRaise 0x63 3 = true ∧ ((up.raise 0x15 2).expire (.grace 0x15)).isSome = true ∧
    up.boot.powered = true ∧ homeIsland 0x14 3 = none := by decide +kernel

/-! Witnesses: FaultReactions -/

/-- A hub with the sources `l` due. -/
def dueOf (l : List Nat) : State := { up with flt := { up.flt with due := l } }
theorem witness_FaultReactions :
    (dueOf [0x10, 0x15]).flt.due = [0x10, 0x15] ∧ (dueOf []).srcReaction 0x10 ≠ 0 ∧
    (up.put F.FLT_SRC_CFG_REACTION 1 0x15).srcReaction 0x15 < (up.put F.FLT_SRC_CFG_REACTION 2 0x10).srcReaction 0x10 ∧
    up.checkFail = false ∧ up.flt.reacting = none ∧ up.canHandOver = false ∧ up.parSt < psShadowSync ∧
    (up.put F.FLT_SRC_STAT_LATCHED 1 1).checkFail = true ∧ (up.raise 0x15 2).is F.FLT_SRC_STAT_LATCHED 0x15 = true ∧
    tget 0 (up.setLive 0x15 2).flt.live 0x15 ≠ 0 ∧ tget 0 (up.raise 0x15 2).flt.live 0x15 = 0 ∧
    tfind (up.raise 0x15 2).flt.lastRaise 0x15 = some (0, 2) ∧ (up.raise 0x15 2).thisAonClock 0 = true ∧
    State.thisAonClock { up.raise 0x15 2 with now := 40 } 0 = false ∧
    (((up.raise 0x15 2).deadline (.grace 0x15)).any fun d => decide (d / 40 ≤ (up.raise 0x15 2).now / 40)) = false := by
  decide +kernel
theorem witness_FaultReactions_pins :
    (({ up with flt := { up.flt with pulse := .low } } : State).arm .pulse 5 |>.expire .pulse).any
      (fun u => u.flt.pulse == .low) = true ∧
    (({ up with flt := { up.flt with pulse := .gap, pulseQueued := true } } : State).arm .pulse 5 |>.expire .pulse).any
      (fun u => u.flt.pulse == .gap && u.flt.pulseQueued && u.is F.FLT_CFG_FAULTN_EN) = true ∧
    ((up.arm .alive 5).expire .alive).any (fun u => !u.aliveOk) = true ∧
    (((up.put F.FLT_CFG_ALIVE_EN 1).arm .alive 5).expire .alive).any (fun u => u.aliveOk) = true := by decide +kernel
theorem witness_FaultReactions_progress :
    ({ up with flt := { up.flt with reacting := some (.islandReset, 4) } } : State).flt.reacting = some (.islandReset, 4) ∧
    up.islandUp 2 = true ∧ ({ up with isl := { up.isl with rst := 4 } } : State).islandUp 2 = false ∧
    up.pair.handover = none := by decide +kernel

/-! Witnesses: IslandClocksAndResets -/

/-- A hub whose island 9 is in reset. -/
def rst9 : State := { up with isl := { up.isl with rst := 0x200 } }
theorem witness_IslandClocksAndResets :
    (up.rd .islClkOk).getLsbD 9 = true ∧ (up.rd .islPwrStat).getLsbD 9 = true ∧ up.isl.rst.getLsbD 9 = false ∧
    up.islandUp 9 = true ∧ rst9.islandUp 9 = false ∧ rst9.isl.rst.getLsbD 9 = true ∧
    ((rst9.arm (.islRelease 9) 5).expire (.islRelease 9)).any (fun u => u.isl.rst.getLsbD 9) = true ∧
    ((up.arm (.islPower 9) 5).expire (.islPower 9)).isSome = true ∧
    (State.isl { up with isl := { up.isl with resync := 0x200 } }).resync.getLsbD 9 = true := by decide +kernel
theorem witness_IslandClocksAndResets_registers :
    locate (Reg.cluCfg.addr 3) = some (.cluCfg, 3, 0) ∧ (∀ f ∈ Reg.cluCfg.row.fields, f.cls ≠ some .a) ∧
    (up.wr .islClkOk 0 0 0).islandUp 9 = true ∧ ((up.wr .islClkOk 0 0 0).rd .islClkOk).getLsbD 9 = false ∧
    ((up.wr .islPwrStat 0 0 0).rd .islPwrStat).getLsbD 9 = false := by decide +kernel

/-! Witnesses: ChipResets -/

/-- A hub without power. -/
def noPower : State := { up with boot := { up.boot with powered := false } }
theorem witness_ChipResets :
    noPower.boot.powered = false ∧ up.boot.powered = true ∧ up.boot.held = false ∧ up.mode ≠ .boot ∧
    (State.hold up).boot.held = true ∧ (State.hold up).boot.powered = true := by decide +kernel
theorem test_power_on_starts_in_boot :
    (noPower.powerOnEvent { bootsel := true }).mode = .boot ∧ (noPower.powerOnEvent {}).boot.powered = true ∧
    (noPower.powerOnEvent {}).is F.CTL_RSTCAUSE_POR = true ∧ (up.chipReset .cmd).is F.CTL_RSTCAUSE_CMD = true := by
  decide +kernel

/-! Witnesses: BootSteps -/

/-- A hub in BOOT at step `n`, found failed `c` times. -/
def bootAt (n c : Nat) : State :=
  { State.reset with boot := { State.reset.boot with step := some n, marks := { fails := [(n, c)] } } }
theorem witness_BootSteps :
    State.reset.mode = .boot ∧ State.reset.boot.step = none ∧ State.reset.boot.held = false ∧
    State.reset.boot.powered = true ∧ up.mode ≠ .boot ∧ (bootAt 1 0).mode = .boot ∧ (bootAt 1 0).mgt.halted = false ∧
    (bootAt 2 2).stepFails 2 + 1 ≤ 3 ∧ (bootAt 4 1).stepFails 4 + 1 ≤ 2 ∧ (bootAt 9 0).stepFails 9 = 0 ∧
    3 ≤ (bootAt 2 3).stepFails 2 ∧ 1 ≤ (bootAt 3 1).stepFails 3 ∧ 2 ≤ (bootAt 15 2).stepFails 15 ∧
    (bootAt 15 0).boot.kind ≠ .slp ∧ (bootAt 15 0).boot.noProfile = true ∧ (bootAt 15 0).flt.heldSafe = none ∧
    (State.flt { bootAt 15 0 with flt := { heldSafe := some 1 } }).heldSafe.isSome = true := by decide +kernel
/-- R408 and R412: what a step does with its count. -/
theorem test_step_action :
    [stepAction 1 9, stepAction 2 3, stepAction 2 4, stepAction 3 1, stepAction 3 2, stepAction 10 1, stepAction 15 3] =
      [0, 0, 3, 1, 3, 2, 3] := by decide
theorem test_boot_start_counts :
    (State.bootStart { State.reset with boot := { State.reset.boot with marks := { start := 0x1E, done := 0xE } } }).stepFails 4 =
      1 := by decide +kernel

/-! Witnesses: ProfilesAndSleep -/

/-- A hub that switches from profile 1 to profile 2, both valid when `ok`. -/
def switching (ok : Bool) : State :=
  { up with boot := { up.boot with switch := some (2, 1, .run), noProfile := false }
            profiles := [(1, { valid := ok }), (2, { valid := ok })] }
theorem witness_ProfilesAndSleep :
    (switching true).boot.switch.map (fun y => (y.1, y.2.1)) = some (2, 1) ∧ (switching true).mode = .run ∧
    (tget ({} : Profile) (switching true).profiles 2).valid = true ∧ up.boot.switch = none ∧ up.boot.wake = true ∧
    (tget ({} : Profile) (switching true).profiles 1).valid = true ∧ (switching true).boot.noProfile = false ∧
    (State.profile { up with profiles := [(0, { valid := true, sleepEn := true })]
                             boot := { up.boot with noProfile := false } }).sleepEn = true ∧
    up.upd.open_ = none ∧ up.profile.sleepEn = false ∧
    (State.mode { up with mode := .sleep }) = .sleep ∧ up.boot.powered = true := by decide +kernel
/-- A self-test 0x04 in the background. -/
def testing : State :=
  { up with cmd := { up.cmd with service := [{ cmd := { frame := { opcode := 0x30, w6 := 0x04 } }, bg := true }] } }
theorem witness_ProfilesAndSleep_answers :
    (testing.cmd.service.find? (fun e => e.working && e.cmd.frame.opcode == 0x30 &&
      testOp e.cmd.frame == testOp { opcode := 0x30, w6 := 0x04 })).isSome = true ∧ testing.mgtUp = true ∧
    (State.upd { up with upd := { up.upd with storing := some ({ frame := {} }, 2, []) } }).storing.isSome = true := by
  decide +kernel

/-! Witnesses: UpdateWork -/

/-- A hub whose open update of slot B, of `n` bytes, is being verified. -/
def verifying (n : Nat) : State :=
  { up with upd := { up.upd with open_ := some { target := 1, length := n, verify := some { frame := {} } } } }
/-- A hub that pulls an image of 2016 bytes, at stage `st`. -/
def pulling (st : Nat) : State :=
  { up with upd := { up.upd with b := { head := { length := 2016 } }, pull := some { stage := st, lane := 0 } } }
theorem witness_UpdateWork :
    (State.upd { up with upd := { up.upd with open_ := some { erasing := true } } }).open_.any (·.erasing) = true ∧
    up.upd.pull = none ∧ (pulling 1).upd.pull.any (fun p => p.stage == 1) = true ∧ (pulling 1).upd.open_ = none ∧
    chunkBytes < (pulling 1).pullLength ∧ (verifying 0).upd.open_.any (fun u => u.verify.isSome && u.kind == 1) = true ∧
    (verifying 0).verifyStatus ((verifying 0).slot 1) 0 { sigOk := false } = stAuthFail ∧
    (verifying 8).verifyStatus ((verifying 8).slot 1) 8 {} = stBadParam ∧
    (pulling 3).upd.pull.any (fun p => p.stage == 3) = true := by decide +kernel
theorem witness_UpdateWork_verified :
    (State.verifyStatus up { cells := (List.range 18).map (fun i => (i, (0 : Byte))) } 18 {}) = stOk ∧
    programmed { cells := (List.range 18).map (fun i => (i, (0 : Byte))) } 18 = true ∧ programmed {} 4 = false ∧
    up.keyOk 0 = true ∧ up.keyOk 1 = false ∧ up.sec.count ≤ (Slot.byte {} 0x10) := by decide +kernel

/-! Witnesses: RelayTraffic -/

/-- A hub with lane 0 in service. -/
def relayUp : State := up.setLst 0 lsUp25
/-- A relay of slot A that is served on lane `l`. -/
def serving (l : Nat) : State :=
  { relayUp with upd := { relayUp.upd with serve := some { lane := l, uid := 0, slot := 0, off := 0, left := 2 } } }
theorem witness_RelayTraffic :
    relayUp.laneUp 0 = true ∧ relayUp.mgtUp = true ∧ ([0, relayUp.rd .ctlUid 0] : List Word).getD 1 0 = relayUp.rd .ctlUid 0 ∧
    relayUp.upd.serve = none ∧ relayUp.slotState 0 = slGood ∧ relayUp.slotState 1 < slVerified ∧
    relayUp.deadline .relaySend = none ∧ (serving 1).upd.serve.any (fun v => v.lane != 0 && decide (0 < v.left)) = true ∧
    (pulling 2).upd.open_ = none := by decide +kernel
theorem witness_RelayTraffic_pull :
    (pulling 2).upd.pull.any (fun p => p.lane == 0 && p.stage == 2 && !p.got.contains 1) = true ∧
    (pulling 0).upd.pull.any (fun p => p.stage == 0) = true ∧ (pulling 2).pullLength = 2016 ∧
    (((pulling 2).arm .relayWindow 5).expire .relayWindow).any (fun u => u.upd.pull.isSome) = true ∧
    (((pulling 2).arm .relayProgress 5).expire .relayProgress).any (fun u => u.upd.pull.isSome) = true ∧
    (((serving 0).arm .relaySend 5).expire .relaySend).any (fun u => u.upd.serve.isSome) = true ∧
    windowLeft { got := [0] } 2016 = (1, 1) ∧ windowLeft {} 2016 = (0, 2) := by decide +kernel
theorem witness_RelayTraffic_rom :
    (({ up with mode := .recovery } : State).arm .recoveryPull 5 |>.expire .recoveryPull).any
      (fun u => u.mode == .recovery && !u.updateBusy) = true ∧
    ((up.arm .recoveryPull 5).expire .recoveryPull).any (fun u => u.mode != .recovery) = true ∧
    (({ up with mode := .sleep } : State)).mgtUp = false ∧ Word.bits (0xFF : Word) 7 0 = 255 := by decide +kernel

/-! Witnesses: SessionsAndFuses -/

/-- A hub with session 7 open, and its idle time running. -/
def sess7 : State := State.arm { up with cmd := { up.cmd with sessions := [{ num := 7, maint := true, closing := true }] } }
  (.sessIdle 7) 5
/-- A hub whose OTP operation on slot 1 ends next. -/
def otpAt (revoke : Bool) : State := { sess7 with sec := { sess7.sec with otp := some (1, revoke, [1, 2, 3]) } }
theorem witness_SessionsAndFuses :
    (sess7.expire (.sessIdle 7)).any (fun u => u.closesSession 7) = true ∧ (sess7.session? 7).any (·.closing) = true ∧
    sess7.cmd.service.any (fun x => x.cmd.frame.session == 7) = false ∧ sess7.upd.open_ = none ∧
    (testing.cmd.service.any (fun x => x.cmd.frame.session == 0)) = true ∧
    (State.closesSession { sess7 with cmd := { sess7.cmd with sessions := [{ num := 7, pair := true }] } } 7) = false ∧
    ((sess7.arm (.sessUnused 7) 5).expire (.sessUnused 7)).any (fun u => u.closesSession 7) = true ∧
    ((sess7.arm (.sessSpent 7) 5).expire (.sessSpent 7)).any (fun u => u.closesSession 7) = true := by decide +kernel
theorem witness_SessionsAndFuses_otp :
    (otpAt false).sec.otp = some (1, false, [1, 2, 3]) ∧ (otpAt true).sec.otp = some (1, true, [1, 2, 3]) ∧
    (State.ownerOk { up with sec := { up.sec with owner := [(1, [])] } } 1) = true ∧ up.ownerOk 1 = false ∧
    (State.sec { up with sec := { up.sec with unlock := some 1 } }).unlock = some 1 ∧ up.get F.SEC_DBG_STAT_FAILS < 3 ∧
    (up.put F.SEC_DBG_STAT_FAILS 2).get F.SEC_DBG_STAT_FAILS = 2 := by decide +kernel

/-! Witnesses: InitiatorRules -/

/-- A hub with tag 3 of its own outstanding. -/
def asking (q : Bool) : State :=
  { up with cmd := { up.cmd with outstanding := [{ port := 0xFF, tag := 3, node := 9, opcode := 1, quarantine := q }] } }
/-- A reply or an event for tag 3 at Hihovos. -/
def toHihovos (t : BitVec 4) : Frame := { ftype := t, dstNode := up.ownNode, dstPort := 0xFF, srcNode := 9, opcode := 1, tag := 3 }
theorem witness_InitiatorRules :
    (toHihovos ftReply).malformed = false ∧ (toHihovos ftReply).dstNode = (asking true).ownNode ∧ (asking true).mgtUp = true ∧
    ((asking false).ownOutst 3).any (fun o => !o.quarantine) = true ∧ ((asking true).ownOutst 3).any (·.quarantine) = true ∧
    up.ownOutst 3 = none ∧ (toHihovos ftEvent).malformed = false ∧
    (∃ o ∈ (asking false).cmd.outstanding, o.tag = 3 ∧ o.opcode = 1 ∧ o.node = 9) ∧
    up.toHere { toHihovos ftReply with dstNode := 5 } = false ∧
    (pairIn 2).toHere { toHihovos ftReply with dstNode := (pairIn 2).pairNode } = true ∧
    (pairIn 2).pairNode ≠ (pairIn 2).ownNode ∧ (pairIn 2).mgtUp = true := by decide +kernel
theorem witness_InitiatorRules_timers :
    (((asking false).arm (.cmdTimeout 0xFF 3) 5).expire (.cmdTimeout 0xFF 3)).isSome = true ∧
    (((asking true).arm (.quarantine 0xFF 3) 5).expire (.quarantine 0xFF 3)).isSome = true ∧
    (((asking true).arm (.quarantine 5 3) 5).expire (.quarantine 5 3)).isSome = true ∧
    (State.cmd { up with cmd := { up.cmd with cache := [{ node := 1, port := 2, session := 0, tag := 3, opcode := 1, pair := false,
                                                          reply := {}, expires := 7 }] } }).cache.any (!·.leaving) = true ∧
    up.cmd.cache.find? (fun x => !x.leaving) = none := by decide +kernel

/-! Witnesses: RegisterWriteGate -/

theorem witness_RegisterWriteGate :
    up.mgtUp = true ∧ up.boot.switch = none ∧ (State.mgtUp { up with mgt := { up.mgt with halted := true } }) = false ∧ up.mode = .run ∧
    (place 0xE00000).isNone = true ∧ place 0xC00010 = some (.reg .islRstCtl 0 0) ∧ up.placeUp (.reg .islRstCtl 0 0) = true ∧
    up.deniedTo false (.reg .islRstCtl 0 0) = true ∧ up.deniedTo true (.reg .islRstCtl 0 0) = false ∧
    rst9.placeUp (.reg .cluCfg 0 0) = false ∧ place 0xC00020 = some (.empty 0xC00020) ∧
    place 0x100000008 = some (.vat 8) ∧ up.placeStatus true (.reg .islRstCtl 0 0) 0x40 none = stOk ∧
    up.placeStatus true (.reg .islRstCtl 0 0) 1 none = stBadParam ∧ up.sw.ueWords.contains 0 = false := by decide +kernel
theorem witness_RegisterWriteGate_modes :
    (State.mode { up with mode := .safe }) = .safe ∧
    (State.safeWrite { up with mode := .safe } true (.reg .lnkCfg 0 0)) = false ∧
    (State.safeWrite { up with mode := .safe } true (.reg .hbrIrq 0 0)) = true ∧
    (State.mgtUp { up with mode := .recovery }) = true ∧
    (State.placeUp { up with mode := .commission } (.vat 8)) = true := by decide +kernel

/-! Witnesses: FieldAccessCodes -/

theorem witness_FieldAccessCodes :
    (∃ f ∈ Reg.lnkCfg.row.fields, f.lo ≤ 20 ∧ 20 ≤ f.hi ∧ f.writable true = true ∧ f.acc = .rwp) ∧
    (∃ f ∈ Reg.hbrIrq.row.fields, f.lo ≤ 2 ∧ 2 ≤ f.hi ∧ f.writable false = true ∧ f.acc = .w1c) ∧
    (∃ f ∈ Reg.lnkCtl.row.fields, f.lo ≤ 1 ∧ 1 ≤ f.hi ∧ f.acc = .wo) ∧ (∃ f ∈ Reg.canCtl.row.fields, f.lo ≤ 2 ∧ f.acc = .rw) ∧
    (∃ f ∈ Reg.fltChk.row.fields, f.acc = .ro) ∧ (∃ f ∈ Reg.islPwrCtl.row.fields, f.acc = .po) ∧
    (∀ f ∈ Reg.lnkCtl.row.fields, ¬ (f.lo ≤ 5 ∧ 5 ≤ f.hi)) := by decide
/-- R7: a write to HBR_IRQ clears the bits written 1; RWP fields of LNK_CFG stay in the unprivileged view. -/
theorem test_merge : Reg.hbrIrq.merge true 7 2 = 5 ∧ Reg.lnkCfg.merge false 0x80000000 0 = 0x80000000 ∧
    Reg.lnkCfg.merge true 0x80000000 0 = 0 := by decide

/-! Witnesses: WriteRowsOfTheCore -/

/-- A hub in COMMISSION. -/
def comm : State := { up with mode := .commission }
/-- Does the write of `w` pass every check? -/
def takes (s : State) (r : Reg) (i : Nat) (w : Word) (j : Nat := 0) : Bool :=
  s.mgtUp && s.boot.switch.isNone && (s.mode == .commission || s.mode == .run || s.mode == .safe) &&
  r.addr i j % 4 == 0 && place (r.addr i j) == some (.reg r i j) && s.placeUp (.reg r i j) && s.placeStatus true (.reg r i j) w s.lastMaint == stOk
theorem witness_WriteRowsOfTheCore_links :
    takes up .lnkCtl 2 2 = true ∧ takes up .lnkCtl 4 1 = true ∧ takes up .lnkCfg 2 ((up.rd .lnkCfg 2).setBits 31 31 0) = true ∧
    takes up .lnkCfg 2 ((up.rd .lnkCfg 2).setBits 31 31 1) = true ∧ (up.rd .lnkCfg 2).getLsbD 31 = true ∧
    takes (up.put F.LNK_CFG_ENABLE 0 2) .lnkCfg 2 ((up.rd .lnkCfg 2).setBits 31 31 1) = true ∧
    ((up.put F.LNK_CFG_ENABLE 0 2).rd .lnkCfg 2).getLsbD 31 = false ∧ takes comm .lnkByp 0 1 = true ∧
    takes up .swcFwdCtl 0 0x80000000 = true ∧ takes up .capCtl 0 (up.rd .capCtl ||| 1) = true := by decide +kernel
theorem witness_WriteRowsOfTheCore_rest :
    takes up .prsGapctl 0 0 = true ∧ takes up .timSchedCancel 0 255 = true ∧ takes up .parCtl 0 2 = true ∧
    takes up .parCtl 0 1 = true ∧ takes comm .fltChk 0 0x80000000 = true ∧ takes up .islRstCtl 0 0x1FFFFE = true ∧
    takes comm .islPwrCtl 0 0x2 = true ∧ takes comm .secOwnerCtl 0 0x5A0C0101 = true ∧ takes comm .secDbgCtl 0 5 = true ∧
    takes { comm with sec := { comm.sec with owner := [(1, []), (2, [])] },
                      cmd := { comm.cmd with sessions := [{ num := 7, maint := true, cred := true, keyIndex := 2 }] } }
      .secOwnerCtl 0 0x5A0C0102 = true := by decide +kernel

/-! Witnesses: WriteRowsOfThePorts -/

theorem witness_WriteRowsOfThePorts_engines :
    takes up .engCtl 3 (Word.setBits 0x80000000 22 16 5) 4 = true ∧ takes (engAt 0) .engCtl 0 0x40000000 = true ∧
    (engAt 0).running 0 = true ∧ up.running 28 = false ∧ takes up .engCtl 0 0x20000000 = true ∧
    takes up .engCtl 7 0x10000000 7 = true ∧ takes up .engCtl 0 0x08000000 = true ∧ takes up .cluCtl 7 0xFF = true ∧
    takes up .cluCtl 0 0xFF00 = true ∧ takes up .cluCtl 0 0x10000 = true ∧ takes up .engInject 7 0xFFFFFF 7 = true ∧
    takes up .cluDoutSet 3 0xF = true ∧ takes up .cluDoutClr 3 0xF = true := by decide +kernel
theorem witness_WriteRowsOfThePorts_fields :
    takes up .canCtl 31 (up.rd .canCtl 31 ||| 0x10) = true ∧ (up.put F.CAN_STAT_STATE 2 31).get F.CAN_STAT_STATE 31 = 2 ∧
    takes (up.put F.CAN_CTL_OPMODE 2 3) .canRdCtl 3 (up.rd .canRdCtl 3 ||| 0x80000000) = true ∧
    takes up .canRdCtl 3 (up.rd .canRdCtl 3 ||| 0x40000000) = true ∧ (up.rd .canRdCtl 3).getLsbD 31 = false ∧
    takes up .canTsqCtl 0 0 = true ∧ takes up .macTsqCtl 19 0 = true ∧ takes up .macMdioCtl 0 0x88000000 = true ∧
    takes up .hbrElogTail 0 0 = true ∧ takes up .hbrIrq 0 1 = true ∧ (up.put F.HBR_IRQ_ERR_PEND 1).is F.HBR_IRQ_ERR_PEND = true := by
  decide +kernel
theorem witness_WriteRowsOfThePorts_power :
    takes (pwrIn 0) .pwrChCtl 3 1 = true ∧ takes (pwrIn 3) .pwrChCtl 3 2 = true ∧ takes (pwrIn 6) .pwrChCtl 3 4 = true ∧
    takes (pwrIn 0) .pwrCmd 0 0xFFFE0001 = true ∧ (pwrIn 0).pst 3 = pcOff ∧ (pwrIn 0).pwrRight = true ∧
    (pwrIn pcRetryWait).pst 3 = pcRetryWait ∧ (pwrIn pcLatched).pst 3 = pcLatched := by decide +kernel

/-! Witnesses: CommandChecks -/

/-- A hub in mode `m` with the own address 1, its bridge up and the MAINTAIN session 7 open. -/
def hubIn (m : Mode) : State :=
  let s := (up.put F.CTL_NODE_NODE_ADDR 1).put F.HBR_STAT_LINK_UP 1
  { s with mode := m, cmd := { s.cmd with sessions := [{ num := 7, maint := true }] } }
/-- A command of session 7 from node 2 to this hub, by the bridge. -/
def cmdOf (op : BitVec 8) (w6 w7 : Word := 0) (ws : List Word := []) : Cmd :=
  { via := .pcie, frame := { ftype := ftCommand, dstNode := 1, dstPort := 0xFF, srcNode := 2, srcPort := 5, session := 7,
                             opcode := op, tag := 3, w6 := w6, w7 := w7, payload := ws, lenW := BitVec.ofNat 9 ws.length
                             gcm := [0, 0, 0, 0] } }
/-- The state in which a command is in service for the address `t` under the rights `r`, if it passes steps 1 to 4. -/
def begunBy (s : State) (c0 : Cmd) (x : KeyExchange := {}) (t : Target := .own) (r : Rights := .maintain) : Option State :=
  let c := s.sourced c0
  let v := s.romTake c
  if s.hears c && !c.frame.malformed && !s.romTaken c && s.target c == some t && v.rights c t == some r &&
    (t != .broadcast || broadcastOp c.frame.opcode) &&
    (opRow c.frame.opcode).any (fun r => r.inMode v.mode) && v.allowed c t r && !c.frame.retry &&
    decide (v.cmd.service.length < 512) && !s.mustWait s.cmd.service c.frame
  then some (v.enter t (v.newService c (r == .maintain) x)) else none
/-- The same at step 8. -/
def servedBy (s : State) (c : Cmd) (x : KeyExchange := {}) (t : Target := .own) (r : Rights := .maintain) : Option State :=
  match begunBy s c x t r with
  | some u => if (u.refused57 c.frame (r == .maintain)).isNone && !c.frame.poison then some u else none
  | none => none
theorem witness_CommandChecks :
    (begunBy (hubIn .run) (cmdOf 0x7F)).isSome = true ∧ (servedBy (hubIn .run) (cmdOf 0x7F)).isSome = true ∧
    (begunBy (hubIn .run) (cmdOf 0x01 0x00000280)).any (fun u => u.refused57 (cmdOf 0x01 0x00000280).frame true ==
      some (stBadParam, true)) = true ∧
    (begunBy (hubIn .run) (cmdOf 0x01 0x00000180 1)).any (fun u => u.refused57 (cmdOf 0x01 0x00000180 1).frame true ==
      some (stBadParam, true)) = true ∧
    (hubIn .sleep).hears (cmdOf 0x7F) = false ∧ State.hears up (cmdOf 0x7F) = false ∧ (opRow 0x00).isNone = true ∧
    (hubIn .run).target (cmdOf 0x7F) = some .own ∧ (hubIn .run).rights (cmdOf 0x7F) .own = some .maintain ∧
    ({ hubIn .run with cmd := {} } : State).rights (cmdOf 0x7F) .own = none ∧ broadcastOp 0x7F = false ∧
    (hubIn .run).allowed (cmdOf 0x7F) .own .operate = false := by decide +kernel
theorem witness_CommandChecks_rest :
    (opRow 0x3A).any (fun r => r.inMode .run) = false ∧ (opRow 0x02).any (fun r => r.retry == .cache) = true ∧
    (opRow 0x03).any (fun r => r.retry == .cache) = false ∧
    (State.mustWait { hubIn .run with cmd := { (hubIn .run).cmd with service := [{ cmd := cmdOf 0x60 }] } }
      [{ cmd := cmdOf 0x60 }] (cmdOf 0x7F).frame) = true ∧
    (({ hubIn .run with cmd := { (hubIn .run).cmd with service := List.replicate 512 { cmd := cmdOf 0x60 } } } :
      State).cmd.service.length) = 512 ∧
    (begunBy rst9 (cmdOf 0x7F)).isNone = true ∧ (hubIn .run).silentTo (cmdOf 0x7F).frame false = false ∧
    ({ (cmdOf 0x7F).frame with poison := true } : Frame).malformed = false := by decide +kernel

/-! Witnesses: AccessCommands -/

/-- A command of session 7 to offset `o` of this hub, in the privileged view. -/
def access (op : BitVec 8) (o : Nat) (ws : List Word := []) : Cmd :=
  cmdOf op (BitVec.ofNat 32 (384 + o / 2 ^ 32)) (BitVec.ofNat 32 o) ws
theorem witness_AccessCommands_reads :
    (servedBy (hubIn .run) (access 0x01 0x40)).any (fun u => decide (place (access 0x01 0x40).frame.addrOff =
      some (.reg .ctlNode 0 0)) && u.readReg true .ctlNode 0 0 == 1) = true ∧
    (servedBy (hubIn .run) (access 0x01 0xC00020)).any (fun u => decide (place (access 0x01 0xC00020).frame.addrOff =
      some (.empty 0xC00020)) && u.mode == .run) = true ∧
    (servedBy (hubIn .run) (access 0x01 0x100000008)).any (fun u => decide (place (access 0x01 0x100000008).frame.addrOff =
      some (.vat 8)) && !u.sw.ueWords.contains 0) = true ∧
    (servedBy { hubIn .run with sw := { (hubIn .run).sw with ueWords := [0] } } (access 0x01 0x100000008)).any
      (fun u => u.sw.ueWords.contains (8 / 32)) = true ∧
    (servedBy (hubIn .run) (access 0x05 0x40 [2])).isSome = true ∧ (access 0x05 0x40 [2]).frame.accessCount = some 2 ∧
    (access 0x05 0x40 [0]).frame.accessCount = none ∧ (access 0x05 0x40 [257]).frame.accessCount = none ∧
    (servedBy (hubIn .run) (access 0x05 0x40 [257])).isSome = true ∧
    decide (place 0x180040 = some (.bank 0x100040 .lnkCnt 0)) = true ∧
    (servedBy (hubIn .run) (access 0x01 0x180040)).isSome = true := by decide +kernel
theorem witness_AccessCommands_writes :
    (servedBy (hubIn .run) (access 0x02 0x300088 [5])).any (fun u => u.placeStatus true (.reg .timSchedCancel 0 0) 5 none == stOk) = true ∧
    decide (place (access 0x02 0x300088 [5]).frame.addrOff = some (.reg .timSchedCancel 0 0)) = true ∧
    (servedBy (hubIn .run) (access 0x03 0x300088 [5])).isSome = true ∧ (servedBy (hubIn .run) (access 0x03 0x300088 [])).isSome = true ∧
    (servedBy (hubIn .run) (access 0x02 0xC00010 [0x40])).any (fun u => u.placeStatus true (.reg .islRstCtl 0 0) 0x40 none == stOk) = true ∧
    (servedBy (hubIn .run) (access 0x02 0xC00010 [1])).any (fun u => u.placeStatus true (.reg .islRstCtl 0 0) 1 none == stBadParam) = true ∧
    (servedBy (hubIn .run) (access 0x02 0xC00020 [1])).isSome = true ∧ (servedBy (hubIn .run) (access 0x02 0x100000008 [1])).isSome = true ∧
    (servedBy (hubIn .commission) (access 0x02 0x100000008 [1])).any (fun u => u.mode == .commission && !u.sw.ueWords.contains 0) = true ∧
    (servedBy (hubIn .run) (access 0x03 0x100000008 [1])).isSome = true := by decide +kernel
theorem witness_AccessCommands_more :
    (servedBy (hubIn .run) (access 0x04 0xD00180 [3, 1])).any (fun u =>
      u.placeStatus true (.reg .secCredDeny 0 0) 1 (u.session? 7) == stOk) = true ∧
    (servedBy (hubIn .run) (access 0x04 0x40 [3, 1])).any (fun u =>
      u.placeStatus true (.reg .ctlNode 0 0) 1 (u.session? 7) == stNotInMode) = true ∧
    (servedBy (hubIn .run) (access 0x04 0x300088 [3])).isSome = true ∧
    (servedBy (hubIn .run) (access 0x06 0xC00010 [])).isSome = true ∧ (servedBy (hubIn .run) (access 0x06 0x100000008 [1])).isSome = true ∧
    (servedBy (hubIn .run) (access 0x06 0xD00180 [8, 9])).any (fun u =>
      u.placeStatus true (.reg .secCredDeny 0 0) 8 (u.session? 7) == stOk &&
      State.placeStatus (u.writeReg true .secCredDeny 0 0 8) true (.reg .secCredDeny 1 0) 9 (u.session? 7) == stOk) = true ∧
    (servedBy (hubIn .commission) (access 0x06 0x40 [1, 0xFFFFFFFF])).any (fun u =>
      u.placeStatus true (.reg .ctlNode 0 0) 1 (u.session? 7) == stOk &&
      State.placeStatus (u.writeReg true .ctlNode 0 0 1) true (.reg .ctlPairaddr 0 0) 0xFFFFFFFF (u.session? 7) == stBadParam) = true := by
  decide +kernel
/-- A hub in mode `m` whose vat word 0 and forwarding entry 0 of both copies cannot be corrected. -/
def lostHub (m : Mode) : State :=
  { hubIn m with sw := { (hubIn m).sw with ueWords := [0], fwdErr := [(0, 3)], fwdBad := [256] } }
theorem witness_AccessCommands_errors :
    (servedBy (lostHub .commission) (access 0x02 0x100000008 [1])).any (fun u => u.mode == .commission && u.sw.ueWords.contains 0) =
      true ∧
    (servedBy (lostHub .run) (access 0x04 0x100000008 [3, 1])).isSome = true ∧
    (servedBy (lostHub .run) (access 0x01 (Reg.swcFwdAct.addr 0 0))).any (fun u => u.fwdLost 0 && u.fwdLost 256 && !u.fwdLost 1 &&
      (u.readPlace true (.reg .swcFwdAct 0 0)).isNone) = true ∧
    (servedBy (lostHub .commission) (access 0x04 (Reg.swcFwdShd.addr 0 0) [3, 1])).any (fun u =>
      (u.readPlace true (.reg .swcFwdShd 0 0)).isNone) = true ∧
    decide (place (Reg.swcFwdShd.addr 0 0) = some (.reg .swcFwdShd 0 0)) = true ∧
    tfind (hubIn .run).sw.ceWords 0 = none := by decide +kernel
/-- A hub with window 0 enabled on the running engine 0. -/
def winHub : State := State.startEngine ((hubIn .run).put F.WIN_CFG_ENABLE 1) 0 0
theorem witness_AccessCommands_windows :
    decide (place 0x200000004 = some (.window 0 4)) = true ∧ (servedBy winHub (access 0x01 0x200000004)).any (fun u =>
      u.is F.WIN_CFG_ENABLE 0 0 && u.running (u.winEngine 0)) = true ∧
    (servedBy winHub (access 0x02 0x200000004 [1])).any (fun u => u.mode == .run && u.running (u.winEngine 0)) = true ∧
    (servedBy (hubIn .run) (access 0x01 0x200000004)).any (fun u => !u.is F.WIN_CFG_ENABLE 0 0) = true ∧
    (servedBy ((hubIn .run).put F.WIN_CFG_ENABLE 1) (access 0x01 0x200000004)).any (fun u => u.is F.WIN_CFG_ENABLE 0 0 &&
      !u.running (u.winEngine 0)) = true := by decide +kernel

/-! Witnesses: PortAndScheduleCommands -/

/-- An entry of the schedule a millisecond ahead of a hub with valid ring time. -/
def timed (op : BitVec 8) (w6 w7 : Word) (ws : List Word) (at_ : Word) : Cmd :=
  let c := cmdOf op w6 w7 ws
  { c with frame := { c.frame with time := at_ } }
/-- A hub in RUN with valid ring time and engine port 58 in service, its outputs enabled if `en`. -/
def outHub (en : Bool) : State :=
  let s := ((hubIn .run).put F.TIM_STAT_VALID 1).put F.CLU_CFG_OUT_EN (bit en)
  { s with ports := [(58, { enable := true })] }
theorem witness_PortAndScheduleCommands_ports :
    (servedBy (outHub true) (cmdOf 0x10 5)).isSome = true ∧ (cmdOf 0x10 5).frame.portOp = 5 ∧
    (servedBy (outHub true) (cmdOf 0x10 58 4 [9])).any (fun u => u.portDataOk 58 [9] 4 && u.portOutOk 58 &&
      u.portAdmits 464 (portUnit (cmdOf 0x10 58 4 [9]).frame).size) = true ∧
    (servedBy (outHub true) (cmdOf 0x10 58 0)).any (fun u => u.portDataOk 58 [] 0 && u.portOutOk 58) = true ∧
    (servedBy (outHub false) (cmdOf 0x10 58 4 [9])).any (fun u => u.portDataOk 58 [9] 4 && !u.portOutOk 58) = true ∧
    (servedBy ((outHub true).put F.SWC_QCFG1_MAX 0 464) (cmdOf 0x10 58 4 [9])).any (fun u =>
      !u.portAdmits 464 (portUnit (cmdOf 0x10 58 4 [9]).frame).size) = true ∧
    (servedBy (outHub true) (cmdOf 0x10 58 1 [9, 9])).any (fun u => !u.portDataOk 58 [9, 9] 1) = true ∧
    (servedBy (outHub true) (cmdOf 0x11 122 0 [0, 0, 0])).isSome = true ∧
    (servedBy (outHub true) (cmdOf 0x11 58 0 [0x0000020A, 0x00010105, 0])).isSome = true ∧
    (servedBy (outHub true) (cmdOf 0x11 58 0 [0, 0, 3, 1, 2, 3])).isSome = true ∧ kindRecord 58 [1, 2, 3] = none ∧
    (servedBy (outHub true) (cmdOf 0x11 58 0 [0, 0, 2, 0x12, 0x4000])).any (fun u =>
      !u.recordBad [(.engQcfg, 0, 0, 0x4012)] && !u.recordBusy [(.engQcfg, 0, 0, 0x4012)]) = true ∧
    (servedBy winHub (cmdOf 0x11 58 0 [0, 0, 2, 0x0A, 0x4000])).any (fun u =>
      !u.recordBad [(.engQcfg, 0, 0, 0x400A)] && u.recordBusy [(.engQcfg, 0, 0, 0x400A)]) = true ∧
    (servedBy winHub (cmdOf 0x11 58 0 [0, 0, 2, 2, 0])).any (fun u => u.recordBad [(.engQcfg, 0, 0, 2)]) = true := by decide +kernel
theorem witness_PortAndScheduleCommands_length :
    (outHub true).eis F.ENG_QCFG_TX_LENWORD 0 = false ∧
    (servedBy ((outHub true).put F.ENG_QCFG_TX_LENWORD 1) (cmdOf 0x10 58 0)).any (fun u => u.portDataOk 58 [] 0 &&
      u.portOutOk 58 && u.eis F.ENG_QCFG_TX_LENWORD 0 && u.portAdmits 464 (portUnit (cmdOf 0x10 58 0).frame).size) = true := by
  decide +kernel
theorem witness_PortAndScheduleCommands_flush :
    (servedBy (outHub true) (cmdOf 0x12 123 0)).isSome = true ∧ (servedBy (outHub true) (cmdOf 0x12 58 3)).isSome = true ∧
    (servedBy (outHub true) (cmdOf 0x12 58 1)).isSome = true ∧ (servedBy (outHub true) (cmdOf 0x12 58 2)).isSome = true ∧
    (servedBy (outHub true) (cmdOf 0x12 124 2)).isSome = true ∧ (cmdOf 0x12 124 2).frame.portOp = 124 := by decide +kernel
/-- A copy of the schedule entry that a command asks for, in every one of the 256 places. -/
def fullTable (s : State) (c : Cmd) : State := { s with sched := (List.range 256).map (fun n => (n, s.entryOf 1 c.frame)) }
theorem witness_PortAndScheduleCommands_schedule :
    (servedBy (hubIn .run) (timed 0x18 0xFF 0x30 [1] 1000000)).any (fun u => u.timeInvalid) = true ∧
    (servedBy (outHub true) (timed 0x18 0xFF 0x30 [] 1000000)).any (fun u => !u.timeInvalid &&
      u.actionBad true (u.entryOf 1 (timed 0x18 0xFF 0x30 [] 1000000).frame)) = true ∧
    (servedBy (outHub true) (timed 0x18 0xFF 0x30 [1] 1000000)).any (fun u => !u.timeInvalid &&
      !u.actionBad true (u.entryOf 1 (timed 0x18 0xFF 0x30 [1] 1000000).frame) &&
      !u.actionOutOk (u.entryOf 1 (timed 0x18 0xFF 0x30 [1] 1000000).frame)) = true ∧
    (servedBy (outHub true) (timed 0x18 0xFF 0x02 [0, 1] 1000000)).any (fun u => !u.timeInvalid &&
      !u.actionBad true (u.entryOf 1 (timed 0x18 0xFF 0x02 [0, 1] 1000000).frame) &&
      u.actionOutOk (u.entryOf 1 (timed 0x18 0xFF 0x02 [0, 1] 1000000).frame) && u.leadOk 1000000 && !u.leadOk 0 &&
      u.freeEntry == some 0) = true ∧
    (servedBy (outHub true) (timed 0x19 0xFF 0x42 [0, 1] 1000000)).any (fun u =>
      !u.actionBad false (u.entryOf 2 (timed 0x19 0xFF 0x42 [0, 1] 1000000).frame) && u.leadOk 1000000) = true ∧
    (servedBy (fullTable (outHub true) {}) (timed 0x1A 5 0 [] 1000000)).any (fun u => u.freeEntry == none && u.leadOk 1000000) = true ∧
    (servedBy (outHub true) (timed 0x1A 5 0 [] 1000000)).any (fun u => !u.timeInvalid && u.freeEntry == some 0) = true := by
  decide +kernel
theorem witness_PortAndScheduleCommands_fence :
    (servedBy (outHub true) (cmdOf 0x58)).any (fun u => u.fenceClear (u.get F.SWC_FWD_CTL_GEN)) = true ∧
    (servedBy ((State.newUnit (outHub true) {} 6 true true true .shared 1).1.put F.SWC_FWD_CTL_GEN 1) (cmdOf 0x58)).any (fun u =>
      !u.fenceClear (u.get F.SWC_FWD_CTL_GEN)) = true := by decide +kernel

/-! Witnesses: HubCommands -/

theorem witness_HubCommands_sessions :
    (servedBy (hubIn .run) (cmdOf 0x20 1) { peerHash := [] }).any (fun u => !u.sessionsFull true (u.session? 7)) = true ∧
    (servedBy (hubIn .run) (cmdOf 0x20 1) { ok := false }).any (fun u => !u.exchangeOk (cmdOf 0x20 1).frame true { ok := false }) = true ∧
    (servedBy (hubIn .commission) (cmdOf 0x20 1 0 (0x01000000 :: List.replicate 24 0))).any (fun u =>
      !u.sessionsFull true (u.session? 7) && u.exchangeOk (cmdOf 0x20 1 0 (0x01000000 :: List.replicate 24 0)).frame true {} &&
      decide (u.cmd.sessions.length < 65534)) = true ∧
    (servedBy { hubIn .run with cmd := { (hubIn .run).cmd with
        sessions := { num := 7, maint := true } :: (List.range 31).map (fun n => { num := BitVec.ofNat 16 (n + 20) }) } }
      (cmdOf 0x20 0)).any (fun u => u.sessionsFull false (u.session? 7)) = true ∧
    (servedBy (hubIn .run) (cmdOf 0x21)).isSome = true := by decide +kernel
theorem witness_HubCommands_profiles :
    (servedBy (hubIn .run) (cmdOf 0x28 2)).any (fun u => !u.is F.SEC_STAT_DEBUG_OPEN && !(tget ({} : Profile) u.profiles 2).valid) = true ∧
    (servedBy ((hubIn .run).put F.SEC_STAT_DEBUG_OPEN 1) (cmdOf 0x28 2)).any (fun u => u.is F.SEC_STAT_DEBUG_OPEN) = true ∧
    (servedBy { hubIn .run with profiles := [(3, { valid := true })] } (cmdOf 0x28 3)).any (fun u =>
      !u.is F.SEC_STAT_DEBUG_OPEN && (tget ({} : Profile) u.profiles 3).valid) = true ∧
    (servedBy (hubIn .commission) (cmdOf 0x29 3)).any (fun u => !u.updateBusy) = true ∧
    (servedBy { hubIn .commission with upd := { (hubIn .commission).upd with open_ := some {} } } (cmdOf 0x29 3)).any (fun u =>
      u.updateBusy) = true := by decide +kernel
theorem witness_HubCommands_health :
    (servedBy (hubIn .run) (cmdOf 0x30 5)).isSome = true ∧ (servedBy (hubIn .run) (cmdOf 0x30 2 5)).isSome = true ∧
    (servedBy (hubIn .run) (cmdOf 0x30 0x13)).any (fun u => u.mode == .run) = true ∧
    (servedBy (hubIn .safe) (cmdOf 0x30 0x13)).any (fun u => u.mode != .run && !u.testRuns 0x13) = true ∧
    (servedBy { hubIn .run with cmd := { (hubIn .run).cmd with service := [{ cmd := cmdOf 0x30 1, bg := true }] } }
      (cmdOf 0x30 1)).any (fun u => u.testRuns 1) = true ∧
    (servedBy (hubIn .run) (cmdOf 0x31)).any (fun u => (u.cmd.service.find? (·.working)).isNone) = true ∧
    (servedBy (hubIn .run) (cmdOf 0x38 0x42 1)).any (fun u => (fltRow 0x42).isSome && (tfind u.flt.lastRaise 0x42).isNone && !u.is F.FLT_SRC_STAT_LATCHED 0x42 &&
      !u.is F.FLT_SRC_STAT_PENDING 0x42) = true ∧
    (servedBy ((hubIn .run).put F.FLT_SRC_STAT_LATCHED 1 0x42) (cmdOf 0x38 0x42 1)).any (fun u =>
      (tfind u.flt.lastRaise 0x42).isNone && u.is F.FLT_SRC_STAT_LATCHED 0x42) = true ∧
    (fltRow 0xFF).isNone = true ∧ (servedBy (hubIn .run) (cmdOf 0x38 0xFF)).isSome = true ∧
    (servedBy (hubIn .run) (cmdOf 0x39 0xFFFF)).any (fun u => u.mode == .run) = true ∧
    (servedBy (hubIn .safe) (cmdOf 0x39 0)).any (fun u => u.mode == .safe) = true ∧
    (servedBy (hubIn .safe) (cmdOf 0x3A)).any (fun u => !u.safeHeld) = true ∧
    (servedBy ((hubIn .safe).put F.FLT_STAT_UNFIT 1) (cmdOf 0x3A)).any (fun u => u.safeHeld) = true := by decide +kernel
theorem witness_HubCommands_time :
    (servedBy (hubIn .run) (cmdOf 0x50 1)).any (fun u => u.tst != tsMaster) = true ∧
    (servedBy ((hubIn .run).put F.TIM_STAT_STATE tsMaster) (cmdOf 0x50 0x7FFFFFFF)).any (fun u =>
      u.tst == tsMaster && !u.is F.TIM_STAT_STEP_LOCK) = true ∧
    (servedBy (((hubIn .run).put F.TIM_STAT_STATE tsMaster).put F.TIM_STAT_STEP_LOCK 1) (cmdOf 0x50 1)).any (fun u =>
      u.tst == tsMaster && u.is F.TIM_STAT_STEP_LOCK) = true ∧
    (servedBy ((hubIn .run).put F.TIM_STAT_STATE tsMaster) (cmdOf 0x51 0x1FFBE76D)).any (fun u => u.tst == tsMaster) = true ∧
    (servedBy ((hubIn .run).put F.TIM_STAT_STATE tsMaster) (cmdOf 0x51 0x20041894)).isSome = true ∧
    (servedBy (hubIn .run) (cmdOf 0x52)).isSome = true ∧ (servedBy (hubIn .run) (cmdOf 0x61)).isSome = true ∧
    (servedBy (hubIn .run) (cmdOf 0x7E 1 2 [3])).isSome = true ∧ isBroadcast (cmdOf 0x7E).frame.dstNode = false := by decide +kernel
theorem witness_HubCommands_log :
    (servedBy (hubIn .run) (cmdOf 0x70 0 0)).isSome = true ∧ (cmdOf 0x70 0 0).frame.logCountOp = 0 ∧
    (servedBy { hubIn .run with mgt := { (hubIn .run).mgt with ramLog := logTwo.mgt.ramLog } } (cmdOf 0x70 0 1)).any (fun u =>
      decide (u.mgt.ramLog.length ≥ 1)) = true ∧ (cmdOf 0x70 0 16).frame.logCountOp = 16 ∧
    (servedBy { hubIn .run with mgt := { (hubIn .run).mgt with flashLog := logTwo.mgt.ramLog.map (·.1) } }
      { cmdOf 0x70 0x80000000 1 with recordOk := false }).any (fun u => decide (u.mgt.flashLog.length ≥ 1)) = true ∧
    (cmdOf 0x70 0x80000000 1).frame.logSrcOp = true := by decide +kernel
/-- A hub that is ACTIVE at the pair address 2 with its partner in SHADOW, and a MAINTAIN session 7 of that address. -/
def activeHub : State :=
  let s := ((((hubIn .run).put F.CTL_PAIRADDR_PAIR_VALID 1).put F.CTL_PAIRADDR_PAIR_ADDR 2).put F.PAR_STAT_STATE psActive)
  let s := ((s.put F.PAR_STAT_TWIN_HB 1).put F.PAR_PARTNER_STATE psShadow).put F.LNK_STATE_STATE 6 4
  { s with cmd := { s.cmd with sessions := [{ num := 7, maint := true, pair := true }] } }
/-- A command to the pair address. -/
def toPair (c : Cmd) : Cmd := { c with frame := { c.frame with dstNode := 2 } }
/-- A broadcast in session 0 on a hub with OPEN_OPERATE. -/
def toAll (c : Cmd) : Cmd := { c with frame := { c.frame with dstNode := 0xFFFFFF, session := 0, gcm := [] } }
theorem witness_HubCommands_pair :
    (servedBy (activeHub.put F.PAR_PARTNER_STATE psActiveAlone) (toPair (cmdOf 0x60)) {} .pair).any (fun u => !u.canHandOver) = true ∧
    (servedBy activeHub (toPair (cmdOf 0x60)) {} .pair).any (fun u => u.canHandOver && u.pair.join.isNone) = true ∧
    (servedBy { activeHub with pair := { activeHub.pair with join := some { compat := 1 } } } (toPair (cmdOf 0x60)) {} .pair).any
      (fun u => u.canHandOver && u.pair.join.any (fun j => j.compat != u.compatCrc)) = true ∧
    (servedBy ((hubIn .run).put F.CTL_SECCFG_OPEN_OPERATE 1) (toAll (cmdOf 0x7E 1 2 [3])) {} .broadcast .operate).isSome = true ∧
    isBroadcast (toAll (cmdOf 0x7E)).frame.dstNode = true := by decide +kernel

/-! Witnesses: UpdateCommands -/

/-- A hub with an open update of slot B by session 7, of `n` bytes. -/
def updating (u : Update) : State :=
  { hubIn .run with upd := { (hubIn .run).upd with open_ := some { u with session := 7, target := 1 }
                                                   b := { state := slIncomplete } } }
/-- The header of a firmware image of 352 bytes. -/
def aHeader : List Word :=
  [0x5344494D, 0x00010100, 352, 0, 0, 0, 0, 0, 0, 0, 0, 0, 0, 0, 0, 0, 0, 0x00010001, 0x00012001] ++ List.replicate 45 0
theorem witness_UpdateCommands_begin :
    (servedBy (hubIn .run) (cmdOf 0x40 352 0 aHeader)).any (fun u => !u.updateBusy && !u.onTrial &&
      headFormOk (wordByte aHeader) 352 && u.headCompatible (headOf (wordByte aHeader))) = true ∧ aHeader.length = 64 ∧
    (headOf (wordByte aHeader)).kind = 1 ∧ headFormOk (wordByte aHeader) 356 = false ∧
    (servedBy (hubIn .run) (cmdOf 0x40 356 0 aHeader)).isSome = true ∧
    (servedBy ((hubIn .run).put F.CTL_FWSLOT_TRIAL 1) (cmdOf 0x40 352 0 aHeader)).any (·.onTrial) = true ∧
    (servedBy { hubIn .run with sec := { (hubIn .run).sec with count := 1 } } (cmdOf 0x40 352 0 aHeader)).any (fun u =>
      !u.headCompatible (headOf (wordByte aHeader))) = true ∧
    (servedBy (updating {}) (cmdOf 0x40 352 0 aHeader)).any (·.updateBusy) = true := by decide +kernel
theorem witness_UpdateCommands_block :
    (servedBy (updating { length := 8 }) (cmdOf 0x41 4 0 [5])).any (fun u => u.upd.open_.any (fun v => !v.erasing && v.verify.isNone &&
      v.session == 7 && !clashes (u.updTarget v) 4 [5])) = true ∧
    (servedBy (updating { length := 8 }) (cmdOf 0x41 8 0 [5])).isSome = true ∧
    (servedBy (updating { length := 8 }) { cmdOf 0x41 4 0 [5] with recordOk := false }).isSome = true ∧
    (servedBy (updating { length := 8, erasing := true }) (cmdOf 0x41 4 0 [5])).any (fun u => u.upd.open_.any (·.erasing)) = true ∧
    (servedBy (hubIn .run) (cmdOf 0x41 4 0 [5])).any (fun u => u.upd.open_.isNone) = true ∧
    (servedBy (updating {}) (cmdOf 0x42)).any (fun u => u.upd.open_.any (fun v => !v.erasing && v.verify.isNone && v.session == 7)) = true ∧
    (servedBy (updating { erasing := true }) (cmdOf 0x42)).isSome = true ∧ (servedBy (hubIn .run) (cmdOf 0x42)).isSome = true := by
  decide +kernel
theorem witness_UpdateCommands_activate :
    (servedBy { updating {} with upd := { (updating {}).upd with b := { state := slVerified, head := { profileFmt := 1 } } } }
      (cmdOf 0x43)).any (fun u => u.upd.open_.any (fun v => (u.updTarget v).state == slVerified && v.kind == 1 && v.session == 7 &&
        u.activateOk (u.updTarget v).head)) = true ∧
    (servedBy { updating {} with upd := { (updating {}).upd with b := { state := slVerified, head := { profileFmt := 0 } } }
                                 profiles := [(0, { valid := true })] }
      (cmdOf 0x43)).any (fun u => u.upd.open_.any (fun v => !u.activateOk (u.updTarget v).head)) = true ∧
    (servedBy (updating {}) (cmdOf 0x43)).any (fun u => u.upd.open_.any (fun v => (u.updTarget v).state != slVerified)) = true ∧
    (servedBy (hubIn .run) (cmdOf 0x43)).any (fun u => u.slotState u.updateSlot != slVerified) = true ∧
    (servedBy { hubIn .run with upd := { (hubIn .run).upd with b := { state := slVerified, head := { profileFmt := 1 } } } }
      (cmdOf 0x43)).any (fun u => u.slotState u.updateSlot == slVerified && u.activateOk (u.slot u.updateSlot).head) = true ∧
    (servedBy (hubIn .run) (cmdOf 0x44)).any (fun u => !u.runTrial) = true ∧
    (servedBy ((hubIn .run).put F.CTL_FWSLOT_TRIAL 1) (cmdOf 0x44)).any (·.runTrial) = true := by decide +kernel
theorem witness_UpdateCommands_rest :
    (servedBy (hubIn .run) (cmdOf 0x45 2)).any (fun u => (u.relayLane 2).isNone && !u.updateBusy && !u.onTrial) = true ∧
    (servedBy (((((hubIn .run).put F.LNK_STATE_STATE 6 0).put F.LNK_STATE_NBR_VALID 1 0).put F.LNK_NBR0_NODE 2 0)) (cmdOf 0x45 2)).any
      (fun u => u.relayLane 2 == some 0) = true ∧
    (servedBy (updating {}) (cmdOf 0x45 2)).any (·.updateBusy) = true ∧
    (servedBy (updating {}) (cmdOf 0x46)).any (fun u => u.upd.open_.any (fun v => decide ((u.updTarget v).state < slVerified) &&
      v.session == 7 && v.verify.isNone)) = true ∧
    (servedBy { updating {} with upd := { (updating {}).upd with b := { state := slVerified } } } (cmdOf 0x46)).any (fun u =>
      u.upd.open_.any (fun v => decide (slVerified ≤ (u.updTarget v).state))) = true ∧
    (servedBy (hubIn .run) (cmdOf 0x46)).any (fun u => u.upd.open_.isNone && !u.runTrial) = true ∧
    (servedBy ((hubIn .run).put F.CTL_FWSLOT_TRIAL 1) (cmdOf 0x46)).any (fun u => u.upd.open_.isNone && u.runTrial) = true := by
  decide +kernel

/-! Witnesses: ResetChipCommand -/

theorem witness_ResetChipCommand :
    (servedBy (hubIn .run) (cmdOf 0x7F 0xA5C3)).isSome = true ∧ (servedBy (hubIn .run) (cmdOf 0x7F 0xA5C2)).isSome = true ∧
    (cmdOf 0x7F 0xA5C3).frame.w6 = 0xA5C3 ∧
    (State.stillHere { hubIn .run with cmd := { (hubIn .run).cmd with after := [(aFrame, .chip)] } } aFrame) = false ∧
    (State.stillHere (State.newUnit (hubIn .run) { aFrame with ftype := ftReply } 6 true true true .shared 1).1
      { aFrame with ftype := ftReply }) = true := by decide +kernel

/-! Witnesses: ResetValues -/

theorem witness_ResetValues : (fltRow 0x42).isSome = true ∧ (fltRow 0x06).isNone = true ∧ State.reset.get F.MAC_CFG_SPEED 15 = 0 ∧
    State.reset.get F.MAC_CFG_SPEED 16 = 2 ∧ State.reset.is F.SWC_QCFG0_PRIV 7 = true := by decide +kernel

end Sys2Proof.Tests
end

section
/-!
Proofs about registers: the bits that a put changes, the layout of the fields of every register row, and what a write and the
Reset column leave in each field.
-/
namespace Sys2Proof

/-! ### Bits of a word -/

/-- A put of `v` replaces the bits of its range and no other. -/
theorem Word.getLsbD_setBits (w : Word) {hi lo : Nat} (v b : Nat) (hl : lo ≤ hi) (hh : hi < 32) :
    (Word.setBits w hi lo v).getLsbD b = if lo ≤ b ∧ b ≤ hi then v.testBit (b - lo) else w.getLsbD b := by
  have hlow : w.toNat % 2 ^ lo < 2 ^ lo := Nat.mod_lt _ (Nat.two_pow_pos _)
  have hin : 2 ^ lo * (v % 2 ^ (hi + 1 - lo)) + w.toNat % 2 ^ lo < 2 ^ (hi + 1) := by
    have hv : v % 2 ^ (hi + 1 - lo) + 1 ≤ 2 ^ (hi + 1 - lo) := Nat.mod_lt _ (Nat.two_pow_pos _)
    calc 2 ^ lo * (v % 2 ^ (hi + 1 - lo)) + w.toNat % 2 ^ lo < 2 ^ lo * (v % 2 ^ (hi + 1 - lo) + 1) := by
          rw [Nat.mul_add]; omega
      _ ≤ 2 ^ lo * 2 ^ (hi + 1 - lo) := Nat.mul_le_mul_left _ hv
      _ = 2 ^ (hi + 1) := by rw [← Nat.pow_add]; congr 1; omega
  have hsum : (Word.setBits w hi lo v).toNat = 2 ^ (hi + 1) * (w.toNat / 2 ^ (hi + 1)) +
      (2 ^ lo * (v % 2 ^ (hi + 1 - lo)) + w.toNat % 2 ^ lo) := by
    rw [Word.setBits_toNat w hi lo v hl hh]; omega
  rw [BitVec.getLsbD, hsum, Nat.testBit_two_pow_mul_add _ hin, Nat.testBit_two_pow_mul_add _ hlow, BitVec.getLsbD]
  simp only [Nat.testBit_mod_two_pow, Nat.testBit_div_two_pow]
  rcases Nat.lt_or_ge b lo with h | h
  · rw [if_pos (by omega), if_pos h, if_neg (by omega)]; simp [h]
  rcases Nat.lt_or_ge hi b with h' | h'
  · rw [if_neg (by omega), if_neg (by omega)]; congr 1; omega
  · rw [if_pos (by omega), if_neg (by omega), if_pos ⟨h, h'⟩]
    simp only [show b - lo < hi + 1 - lo by omega, decide_true, Bool.true_and]

/-- The bits of a range, read as a number. -/
theorem Word.testBit_bits (w : Word) (hi lo k : Nat) :
    (Word.bits w hi lo).testBit k = (decide (k < hi + 1 - lo) && w.getLsbD (lo + k)) := by
  simp [Word.bits, Nat.testBit_mod_two_pow, Nat.testBit_shiftRight, BitVec.getLsbD]

/-- A bit of a word, read through the range that holds it. -/
theorem Word.testBit_bits_sub (w : Word) {hi lo b : Nat} (hl : lo ≤ b) (hh : b ≤ hi) :
    (Word.bits w hi lo).testBit (b - lo) = w.getLsbD b := by
  rw [Word.testBit_bits, Nat.add_sub_cancel' hl]
  simp only [show b - lo < hi + 1 - lo by omega, decide_true, Bool.true_and]

end Sys2Proof

namespace Sys2Proof.Machine

/-! ### The layout of a register row -/

/-- Does the field cover bit `b`? -/
abbrev Field.covers (f : Field) (b : Nat) : Prop := f.lo ≤ b ∧ b ≤ f.hi

/-- The fields lie in a word, hold their Reset-column values, and do not overlap. -/
def FieldsFit (l : List Field) : Prop :=
  (∀ f ∈ l, f.lo ≤ f.hi ∧ f.hi < 32 ∧ f.reset < 2 ^ (f.hi + 1 - f.lo)) ∧
  l.Pairwise (fun f g => f.hi < g.lo ∨ g.hi < f.lo)

/-- Every row of the register tables is laid out so. -/
theorem Reg.fields_fit (r : Reg) : FieldsFit r.row.fields := by
  unfold FieldsFit
  cases r <;> decide

theorem FieldsFit.tail {f : Field} {l : List Field} (h : FieldsFit (f :: l)) : FieldsFit l :=
  ⟨fun g hg => h.1 g (List.mem_cons_of_mem f hg), (List.pairwise_cons.1 h.2).2⟩

/-- A bit of a field belongs to no other field of the row. -/
theorem FieldsFit.not_covers {f g : Field} {l : List Field} (h : FieldsFit (f :: l)) (hg : g ∈ l) {b : Nat} (hb : g.covers b) :
    ¬ f.covers b := by
  have hd : f.hi < g.lo ∨ g.hi < f.lo := (List.pairwise_cons.1 h.2).1 g hg
  rintro ⟨h1, h2⟩
  obtain ⟨h3, h4⟩ := hb
  omega

/-! ### Values stored field by field -/

/-- The word in which each field `f` with a value `val f` holds it; the other bits are those of `w`. -/
def storeFields (val : Field → Option Nat) (l : List Field) (w : Word) : Word :=
  l.foldl (fun v f => ((val f).map (v.setBits f.hi f.lo)).getD v) w

theorem storeFields_cons (val : Field → Option Nat) (f : Field) (l : List Field) (w : Word) :
    storeFields val (f :: l) w = storeFields val l (((val f).map (w.setBits f.hi f.lo)).getD w) := rfl

/-- Storing one field changes the bits that it covers. -/
theorem getLsbD_store (f : Field) (x : Option Nat) (w : Word) (b : Nat) (hl : f.lo ≤ f.hi) (hh : f.hi < 32) :
    ((x.map (w.setBits f.hi f.lo)).getD w).getLsbD b =
      if f.covers b then (x.map (·.testBit (b - f.lo))).getD (w.getLsbD b) else w.getLsbD b := by
  cases x with
  | none => simp
  | some v => simp [Word.getLsbD_setBits w v b hl hh]

/-- A bit of no field keeps its value. -/
theorem storeFields_getLsbD_of_no_field (val : Field → Option Nat) {l : List Field} (hl : FieldsFit l) (w : Word) {b : Nat}
    (hb : ∀ f ∈ l, ¬ f.covers b) : (storeFields val l w).getLsbD b = w.getLsbD b := by
  induction l generalizing w with
  | nil => rfl
  | cons f l ih =>
    obtain ⟨h1, h2, _⟩ := hl.1 f List.mem_cons_self
    rw [storeFields_cons, ih hl.tail _ fun g hg => hb g (List.mem_cons_of_mem f hg), getLsbD_store f _ w b h1 h2,
      if_neg (hb f List.mem_cons_self)]

/-- A bit of a field is that of the field's value, or keeps its own when the field has none. -/
theorem storeFields_getLsbD_of_mem (val : Field → Option Nat) {l : List Field} (hl : FieldsFit l) (w : Word) {f : Field}
    (hf : f ∈ l) {b : Nat} (hb : f.covers b) :
    (storeFields val l w).getLsbD b = ((val f).map (·.testBit (b - f.lo))).getD (w.getLsbD b) := by
  induction l generalizing w with
  | nil => cases hf
  | cons g l ih =>
    obtain ⟨h1, h2, _⟩ := hl.1 g List.mem_cons_self
    rw [storeFields_cons]
    rcases List.mem_cons.1 hf with rfl | hf
    · rw [storeFields_getLsbD_of_no_field val hl.tail _ fun g hg hgb => hl.not_covers hg hgb hb, getLsbD_store f _ w b h1 h2,
        if_pos hb]
    · rw [ih hl.tail _ hf, getLsbD_store g _ w b h1 h2, if_neg (hl.not_covers hf hb)]

/-! ### What a write leaves in a register (R7-R9) -/

/-- What a write of `w` over `old` puts into a field, if it puts anything there. -/
def Field.written (f : Field) (priv : Bool) (old w : Word) : Option Nat :=
  if !f.writable priv then none else
  match f.acc with
  | .wo => none
  | .w1c => some ((old &&& ~~~w).bits f.hi f.lo)
  | _ => some (w.bits f.hi f.lo)

theorem Reg.merge_eq_storeFields (r : Reg) (priv : Bool) (old w : Word) :
    r.merge priv old w = storeFields (·.written priv old w) r.row.fields old := by
  unfold Reg.merge storeFields
  congr 1
  funext v f
  by_cases hw : f.writable priv = true
  · cases ha : f.acc <;> simp [Field.written, hw, ha]
  · simp [Field.written, hw]

/-- A bit of a field after a write. -/
theorem Reg.merge_getLsbD_of_mem (r : Reg) (priv : Bool) (old w : Word) {f : Field} (hf : f ∈ r.row.fields) {b : Nat}
    (hb : f.covers b) :
    (r.merge priv old w).getLsbD b = ((f.written priv old w).map (·.testBit (b - f.lo))).getD (old.getLsbD b) := by
  rw [Reg.merge_eq_storeFields, storeFields_getLsbD_of_mem _ r.fields_fit old hf hb]

/-- A field that the view may not write, and an action field, take nothing from the write. -/
theorem Field.written_of_kept {f : Field} {priv : Bool} (old w : Word) (h : f.writable priv = false ∨ f.acc = .wo) :
    f.written priv old w = none := by
  unfold Field.written
  rcases h with h | h <;> simp [h]

theorem Field.written_of_w1c {f : Field} {priv : Bool} (old w : Word) (h : f.writable priv = true) (ha : f.acc = .w1c) :
    f.written priv old w = some ((old &&& ~~~w).bits f.hi f.lo) := by
  simp [Field.written, h, ha]

theorem Field.written_of_plain {f : Field} {priv : Bool} (old w : Word) (h : f.writable priv = true)
    (ha : f.acc = .rw ∨ f.acc = .rwp ∨ f.acc = .po ∨ f.acc = .poKey) : f.written priv old w = some (w.bits f.hi f.lo) := by
  rcases ha with ha | ha | ha | ha <;> simp [Field.written, h, ha]

/-- Settles O51: the fields of every row are disjoint, so each bit is decided by the one field that covers it. -/
theorem fieldAccessCodes : Obligations.FieldAccessCodes := by
  intro r priv old w
  refine ⟨fun f hf b hlo hhi => ?_, fun b hb => ?_⟩
  · have bit_eq := r.merge_getLsbD_of_mem priv old w hf ⟨hlo, hhi⟩
    refine ⟨fun h => ?_, fun h ha => ?_, fun h ha => ?_, fun ha => ?_, fun ha => ?_⟩
    · rw [bit_eq, Field.written_of_kept old w h]; rfl
    · have h32 : b < 32 := Nat.lt_of_le_of_lt hhi (r.fields_fit.1 f hf).2.1
      rw [bit_eq, Field.written_of_w1c old w h ha]
      simp [Word.testBit_bits_sub _ hlo hhi, h32]
    · rw [bit_eq, Field.written_of_plain old w h ha]
      exact Word.testBit_bits_sub w hlo hhi
    · rcases ha with ha | ha | ha <;> simp [Field.writable, ha]
    · simp [Field.writable, ha]
  · rw [Reg.merge_eq_storeFields, storeFields_getLsbD_of_no_field _ r.fields_fit old hb]

/-! ### Registers read back (R5, R7) -/

/-- Settles O11, by the laws of the register store. -/
theorem registersReadBack : Obligations.RegistersReadBack := by
  intro s r i j
  refine ⟨fun w => ⟨s.wr_rd_self r i j w, fun r' i' j' h => s.wr_rd_of_ne w h⟩, ?_⟩
  rintro f v rfl hl hh hv
  refine ⟨?_, fun g hr hg hd => s.put_get_of_disjoint v i j hr hl hh hg hd, fun r' i' j' h => s.put_rd_of_ne f v h⟩
  rw [s.put_get_self f v i j hl hh, Nat.mod_eq_of_lt hv]

/-! ### The Reset column (R10) -/

/-- Right after reset a register reads its Reset-column word. -/
theorem State.reset_rd (r : Reg) (i j : Nat) : State.reset.rd r i j = resetWord r i j := rfl

/-- The Reset values of the fields, one beside the other. -/
def Reg.resetColumn (r : Reg) : Word := storeFields (fun f => some f.reset) r.row.fields 0

theorem resetWord_eq_resetColumn {r : Reg} (i j : Nat) (h1 : r ≠ .fltSrcCfg) (h2 : r ≠ .swcQcfg0) (h3 : r ≠ .macCfg) :
    resetWord r i j = r.resetColumn := by
  unfold resetWord
  split
  · exact absurd rfl h1
  · exact absurd rfl h2
  · exact absurd rfl h3
  · rfl

theorem resetWord_swcQcfg0 (q j : Nat) : resetWord .swcQcfg0 q j =
    if q % 8 = 7 ∨ q / 8 = 122 then Reg.swcQcfg0.resetColumn.setBits 31 31 1 else Reg.swcQcfg0.resetColumn := rfl

theorem resetWord_macCfg (m j : Nat) : resetWord .macCfg m j =
    if m ≥ 16 then (Reg.macCfg.resetColumn.setBits 29 28 2).setBits 27 27 1 else Reg.macCfg.resetColumn := rfl

theorem resetWord_fltSrcCfg_of_none {i : Nat} (j : Nat) (h : fltRow i = none) : resetWord .fltSrcCfg i j = 0 := by
  simp only [resetWord, h]

theorem resetWord_fltSrcCfg_of_some {i k x : Nat} {g : Home} (j : Nat) (h : fltRow i = some (k, x, g)) :
    resetWord .fltSrcCfg i j = (Reg.fltSrcCfg.resetColumn.setBits 30 28 k).setBits 26 24 x := by
  simp only [resetWord, h]; rfl

/-- The Reset column gives each field its value. -/
theorem Reg.resetColumn_bits (r : Reg) {f : Field} (hf : f ∈ r.row.fields) : r.resetColumn.bits f.hi f.lo = f.reset := by
  obtain ⟨hl, _, hfit⟩ := r.fields_fit.1 f hf
  refine Nat.eq_of_testBit_eq fun k => ?_
  rw [Word.testBit_bits]
  rcases Nat.lt_or_ge k (f.hi + 1 - f.lo) with h | h
  · have hb : f.covers (f.lo + k) := ⟨Nat.le_add_right _ _, by omega⟩
    rw [Reg.resetColumn, storeFields_getLsbD_of_mem _ r.fields_fit 0 hf hb]
    simp [h]
  · have hk : f.reset < 2 ^ k := Nat.lt_of_lt_of_le hfit (Nat.pow_le_pow_right (by decide) h)
    rw [Nat.testBit_lt_two_pow hk]
    simp [Nat.not_lt.2 h]

/-- A bit of no field reads 0. -/
theorem Reg.resetColumn_getLsbD_of_no_field (r : Reg) {b : Nat} (hb : ∀ f ∈ r.row.fields, ¬ f.covers b) :
    r.resetColumn.getLsbD b = false := by
  rw [Reg.resetColumn, storeFields_getLsbD_of_no_field _ r.fields_fit 0 hb]
  exact BitVec.getLsbD_zero

/-- The classes and reactions of the source table fit their fields. -/
theorem fltRow_lt {i k x : Nat} {g : Home} (h : fltRow i = some (k, x, g)) : k < 8 ∧ x < 8 := by
  obtain ⟨e, he, heq⟩ := Option.map_eq_some_iff.1 h
  have small : ∀ e ∈ fltTable, e.2.1 < 8 ∧ e.2.2.1 < 8 := by decide
  simpa [heq] using small e (List.mem_of_find?_eq_some he)

/-- The class and the reaction of a fault source after reset (R372). -/
theorem State.reset_fltSrcCfg {i k x : Nat} {g : Home} (h : fltRow i = some (k, x, g)) :
    State.reset.get F.FLT_SRC_CFG_CLASS i = k ∧ State.reset.get F.FLT_SRC_CFG_REACTION i = x := by
  obtain ⟨hk, hx⟩ := fltRow_lt h
  unfold State.get
  rw [State.reset_rd, resetWord_fltSrcCfg_of_some 0 h]
  refine ⟨?_, ?_⟩
  · rw [Word.bits_setBits_of_disjoint _ _ _ _ _ _ (by decide) (by decide) (by decide) (by decide),
      Word.bits_setBits_self _ _ _ _ (by decide) (by decide)]
    exact Nat.mod_eq_of_lt hk
  · rw [Word.bits_setBits_self _ _ _ _ (by decide) (by decide)]
    exact Nat.mod_eq_of_lt hx

/-- The class-7 queues and the queues of port 122 are privileged (R147). -/
theorem State.reset_swcQcfg0_priv (q : Nat) : State.reset.is F.SWC_QCFG0_PRIV q = decide (q % 8 = 7 ∨ q / 8 = 122) := by
  unfold State.is State.get
  rw [State.reset_rd, resetWord_swcQcfg0]
  split
  case isTrue h => rw [decide_eq_true h]; decide
  case isFalse h => rw [decide_eq_false h]; decide

/-- The MACs of the 1G kind. -/
theorem State.reset_macCfg (m : Nat) : State.reset.get F.MAC_CFG_SPEED m = (if 16 ≤ m then 2 else 0) ∧
    State.reset.is F.MAC_CFG_FULL_DUPLEX m = decide (16 ≤ m) := by
  unfold State.is State.get
  rw [State.reset_rd, resetWord_macCfg]
  split
  case isTrue h => rw [decide_eq_true h]; decide
  case isFalse h => rw [decide_eq_false h]; decide

/-- Settles O60: no register is listed after reset, so each reads the Reset column; the rest is the literal state. -/
theorem resetValues : Obligations.ResetValues := by
  refine ⟨fun g i j h1 h2 h3 => ?_, fun i h => ?_, fun i k x g h => State.reset_fltSrcCfg h, State.reset_swcQcfg0_priv,
    State.reset_macCfg, rfl, by decide, rfl, rfl, rfl, rfl, rfl, rfl, rfl, rfl⟩
  · rw [State.reset_rd, resetWord_eq_resetColumn i j h1 h2 h3]
    exact ⟨fun f hf => g.resetColumn_bits hf, fun b hb => g.resetColumn_getLsbD_of_no_field hb⟩
  · rw [State.reset_rd, resetWord_fltSrcCfg_of_none 0 h]

end Sys2Proof.Machine
end

section
/-!
REGISTER_WRITE toward the vat. A write of a vat word first reads the word (R142, R144), so a flipped bit in it is corrected,
counted and raised; the gate of `Obligations.RegisterWriteGate` has the write change the four bytes alone.
-/
namespace Sys2Proof.Machine

/-- A hub in COMMISSION whose islands all run and whose vat word 0 holds one flipped bit. -/
def flippedHub : State :=
  { (State.reset.wr .islPwrStat 0 0 0x1FFFFF).wr .islClkOk 0 0 0x1FFFFF with
    mode := .commission, isl := {}, boot := { powered := true }, sw := { ceWords := [(0, 1)] } }

/-- The row leaves the word without its flipped bit, and nothing waits. -/
theorem flippedHub_hostWrite : (flippedHub.hostWrite true 0x100000000 5).quiet = true ∧
    (flippedHub.hostWrite true 0x100000000 5).sw.ceWords = [] := by decide +kernel

/-- Storing the four bytes alone leaves the flipped bit. -/
theorem flippedHub_vatWrite : ((flippedHub.vatWrite 0 5).noted stOk).quiet = true ∧
    ((flippedHub.vatWrite 0 5).noted stOk).sw.ceWords = [(0, 1)] := by decide +kernel

/-- Refutes O50: in `flippedHub` the write of vat word 0 corrects and counts the flipped bit that it meets, and the clause for the
vat in COMMISSION has the bit stay. -/
theorem not_registerWriteGate : ¬ Obligations.RegisterWriteGate := by
  intro h
  obtain ⟨-, hserving, -, -⟩ := h flippedHub true 0x100000000 5
  obtain ⟨-, hopen⟩ := hserving (by decide +kernel) rfl
  obtain ⟨-, hplaced⟩ := hopen (Or.inl rfl)
  obtain ⟨-, -, hpass⟩ := hplaced (.vat 0) rfl (by decide +kernel)
  obtain ⟨-, -, -, -, hvat, -⟩ := hpass (by decide +kernel) (by decide +kernel)
  have hsame : (flippedHub.hostWrite true 0x100000000 5).done = ((flippedHub.vatWrite 0 5).noted stOk).done :=
    Host.Outcome.next.inj (hvat 0 rfl rfl (by decide))
  obtain ⟨hquiet, hsound⟩ := flippedHub_hostWrite
  obtain ⟨hquiet', hflipped⟩ := flippedHub_vatWrite
  rw [State.done_of_quiet _ hquiet, State.done_of_quiet _ hquiet'] at hsame
  rw [hsame, hflipped] at hsound
  cases hsound

end Sys2Proof.Machine
end

section
/-!
Commands that come to step 8 of R46: what serving one comes down to, for every opcode.
-/
namespace Sys2Proof.Machine

/-! ### From the frame to step 8 -/

/-- What is done with the result of step 8: a command without a reply yet stays in service, any other is answered, and a refusal
counts (R46). -/
def State.answered (c : Cmd) (p : State × Answer) : State :=
  if p.2.wait then p.1
  else (if p.2.status = stOk ∨ p.2.status = stUncorrectable then p.1 else p.1.bump .mgtCnt 1).finish c false p.2

theorem State.answered_of_wait (c : Cmd) (s : State) {a : Answer} (h : a.wait = true) : State.answered c (s, a) = s := if_pos h

/-- A command that succeeds, or that meets a word which cannot be corrected, is answered. -/
theorem State.answered_of_served (c : Cmd) (s : State) {a : Answer} (hw : a.wait = false)
    (h : a.status = stOk ∨ a.status = stUncorrectable) : State.answered c (s, a) = s.finish c false a := by
  simp [State.answered, hw, h]

/-- A refusal of step 8 counts and is answered. -/
theorem State.answered_of_refused (c : Cmd) (s : State) {a : Answer} (st : Status) (hw : a.wait = false) (hst : a.status = st)
    (h : st ≠ stOk) (h' : st ≠ stUncorrectable) : State.answered c (s, a) = (s.bump .mgtCnt 1).finish c false a := by
  simp [State.answered, hw, hst, h, h']

theorem State.answered_refusal (c : Cmd) (s : State) {st : Status} (h : st ≠ stOk) (h' : st ≠ stUncorrectable) :
    State.answered c (s, { status := st }) = s.turnedAway c st := State.answered_of_refused c s st rfl rfl h h'

/-- The service entry of a command that has just been accepted and does not wait. -/
structure Service.Fresh (e : Service) (c : Cmd) (r : Rights) (x : KeyExchange) : Prop where
  cmd : e.cmd = c
  ordered : e.ordered = false
  maint : e.maint = (r == .maintain)
  exchange : e.x = x

/-- Execution of a command whose checks of steps 5 to 7 pass. -/
theorem State.execute_of_clear {u : State} {c : Cmd} {r : Rights} {x : KeyExchange} {e : Service} (he : e.Fresh c r x)
    (hcore : c.via = .localLogic → c.frame.dstNode = u.ownNode) (hclear : u.refused57 c.frame (r == .maintain) = none)
    (hpoison : c.frame.poison = false) : u.execute e = State.answered c (u.act e) := by
  obtain ⟨hc, ho, hm, -⟩ := he
  have hnode : ¬ (c.via = .localLogic ∧ c.frame.dstNode ≠ u.ownNode) := fun h => h.2 (hcore h.1)
  unfold State.execute State.answered
  simp only [hc, ho, hm, if_neg hnode, hclear, hpoison]
  rfl

/-- The ROM's note of a frame leaves what a command waits for alone. -/
theorem State.romTake_mustWait (s : State) (c : Cmd) (l : List Service) (f : Frame) :
    (s.romTake c).mustWait l f = s.mustWait l f := by
  unfold State.romTake
  split <;> rfl

theorem State.romTake_service (s : State) (c : Cmd) : (s.romTake c).cmd.service = s.cmd.service := by
  unfold State.romTake
  split <;> rfl

/-- A frame that is heard goes through step 1 of R46. -/
theorem Heard.serve {s v : State} {op : BitVec 8} {c0 : Cmd} {t : Target} {r : Rights} (x : KeyExchange)
    (h : Heard s op (s.sourced c0) t v) (hr : v.rights (s.sourced c0) t = some r) :
    s.serve op c0 x = v.admit2 (s.sourced c0) t r x := by
  obtain ⟨hhears, hform, hcode, hrom, htarget, rfl⟩ := h
  unfold State.serve
  simp only [hhears, hform, hcode, hrom, htarget, hr]
  simp

/-- Steps 2 and 3 of R46 pass, and the command is no retry. -/
theorem Allowed.admit2 {s v : State} {op : BitVec 8} {c : Cmd} {t : Target} {r : Rights} {row : OpRow} (x : KeyExchange)
    (h : Allowed s op c t r row v) (hretry : c.frame.retry = false) :
    v.admit2 c t r x = v.admit4 row c t (r == .maintain) x := by
  obtain ⟨heard, -, hrow, hcast, hallowed⟩ := h
  have hb : (decide (t = .broadcast) && !broadcastOp op) = false := by
    by_cases ht : t = .broadcast
    · simp [hcast ht]
    · simp [ht]
  unfold State.admit2
  simp only [heard.code, hrow, hb, hallowed, hretry]
  rfl

/-- A command that comes to step 8 in the state `u` is executed there. -/
theorem Served.serve {s u : State} {op : BitVec 8} {c0 : Cmd} {t : Target} {r : Rights} {x : KeyExchange}
    (h : Served s op (s.sourced c0) t r x u) :
    ∃ e, Service.Fresh e (s.sourced c0) r x ∧ s.serve op c0 x = State.answered (s.sourced c0) (u.act e) := by
  obtain ⟨⟨⟨⟨row, v, hallowed, hmode, hroom, rfl⟩, hretry⟩, hfree⟩, hcore, hclear, hpoison⟩ := h
  have hfresh : Service.Fresh (v.newService (s.sourced c0) (r == .maintain) x) (s.sourced c0) r x := ⟨rfl, rfl, rfl, rfl⟩
  have hheld : (v.newService (s.sourced c0) (r == .maintain) x).held = false := by
    show v.mustWait v.cmd.service _ = false
    rw [hallowed.heard.state, State.romTake_mustWait, State.romTake_service, hfree]
  have hadmit : v.admit4 row (s.sourced c0) t (r == .maintain) x = v.accept (s.sourced c0) t (r == .maintain) x := by
    unfold State.admit4
    rw [if_neg (by rw [hmode]; decide), if_neg (Nat.not_le.2 hroom)]
  refine ⟨_, hfresh, ?_⟩
  rw [hallowed.heard.serve x hallowed.rights, hallowed.admit2 x hretry, hadmit]
  unfold State.accept
  simp only [hheld]
  exact State.execute_of_clear hfresh hcore hclear hpoison

/-- The opcode of a command at step 8. -/
theorem Served.opcode {s u : State} {op : BitVec 8} {c : Cmd} {t : Target} {r : Rights} {x : KeyExchange}
    (h : Served s op c t r x u) : c.frame.opcode = op := by
  obtain ⟨row, v, hallowed, -⟩ := h.begun.accepted.allowed
  exact hallowed.heard.code

end Sys2Proof.Machine
end

section
/-!
READ, WRITE, WRITE_POSTED, READ_MODIFY_WRITE and the blocks at step 8 of R46 (R75-R78).
-/
namespace Sys2Proof.Machine

/-! ### What a place reads as -/

/-- An offset that is in no bridged device window. -/
def outsideWindows (off : Nat) : Prop := ∀ w o, place off ≠ some (.window w o)

theorem placesOf_one {off : Nat} {p : Place} (h : place off = some p) : placesOf off 1 = [some p] := by
  simp [placesOf, List.range_succ, h]

theorem placesOf_two {off : Nat} {p q : Place} (h : place off = some p) (h' : place (off + 4) = some q) :
    placesOf off 2 = [some p, some q] := by
  simp [placesOf, List.range_succ, h, h']

/-- The places of a range, given one by one. -/
theorem placesOf_eq_map {off n : Nat} {ps : List Place} (hl : ps.length = n)
    (h : ∀ k < n, place (off + 4 * k) = some (ps.getD k (.empty 0))) : placesOf off n = ps.map some := by
  refine List.ext_getElem (by simp [placesOf, hl]) fun k hk hk' => ?_
  have hkn : k < n := by simpa [placesOf] using hk
  have hkp : k < ps.length := by omega
  simp [placesOf, h k hkn, hkp]

/-- The words of a block whose places can all be read. -/
theorem State.readWords_eq (s : State) (priv : Bool) {ps : List Place} {ws : List Word} (hl : ws.length = ps.length)
    (h : ∀ k < ps.length, s.readPlace priv (ps.getD k (.empty 0)) = some (ws.getD k 0)) : s.readWords priv ps = ws := by
  induction ps generalizing ws with
  | nil => exact (List.eq_nil_of_length_eq_zero hl).symm
  | cons p ps ih =>
    obtain ⟨w, ws, rfl⟩ := List.exists_cons_of_length_eq_add_one hl
    have hp : s.readPlace priv p = some w := h 0 (by simp)
    have hps : s.readWords priv ps = ws :=
      ih (by simpa using hl) fun k hk => by simpa using h (k + 1) (by simpa using hk)
    simp [State.readWords, hp, hps]

/-! ### READ and READ_BLOCK -/

section
variable {u : State} {c : Cmd} {n : Nat} {ps : List Place}

theorem State.actRead_of_no_count (h : c.frame.accessCount = none) : u.actRead c = (u, { status := stBadParam }) := by
  simp [State.actRead, h]

theorem State.actRead_window {w o : Nat} (hn : c.frame.accessCount = some n) (hp : place c.frame.addrOff = some (.window w o)) :
    u.actRead c = u.actWindow c w o false n [] := by
  simp [State.actRead, hn, hp]

/-- A read outside the windows, by its words: `ws` are those up to the first that cannot be corrected. -/
theorem State.actRead_words {ws : List Word} (hn : c.frame.accessCount = some n) (hout : outsideWindows c.frame.addrOff)
    (hps : placesOf c.frame.addrOff n = ps.map some) (hws : u.readWords c.frame.addrView ps = ws) :
    u.actRead c = ((ps.take (ws.length + 1)).foldl State.readMet u,
      match c.poisonAt.filter (· < ws.length) with
      | some k => if c.frame.opcode = ocRead then { status := stPoisoned, payload := ws.take 1, poison := true }
          else { status := stPoisoned, payload := ws.take k }
      | none => if ws.length = ps.length then { payload := ws }
          else { status := stUncorrectable, payload := if c.frame.opcode = ocRead then [0] else ws }) := by
  have hall : (placesOf c.frame.addrOff n).filterMap id = ps := by simp [hps]
  unfold State.actRead
  simp only [hn]
  split
  case h_1 w o hp => exact absurd hp (hout w o)
  case h_2 =>
    simp only [hall, hws]
    cases c.poisonAt.filter (· < ws.length) with
    | some k => rfl
    | none => exact (apply_ite (Prod.mk _) _ _ _).symm

end

/-- A read all of whose words can be corrected and none of which comes back poisoned. -/
theorem State.actRead_sound {u : State} {c : Cmd} {ps : List Place} {ws : List Word} (hn : c.frame.accessCount = some ps.length)
    (hout : outsideWindows c.frame.addrOff) (hps : placesOf c.frame.addrOff ps.length = ps.map some)
    (hws : u.readWords c.frame.addrView ps = ws) (hl : ws.length = ps.length) (hc : c.poisonAt.filter (· < ps.length) = none) :
    u.actRead c = (ps.foldl State.readMet u, { payload := ws }) := by
  rw [State.actRead_words hn hout hps hws, hl, hc, List.take_of_length_le (Nat.le_succ _)]
  simp

/-- A word that comes back poisoned ends the read. -/
theorem State.actRead_poisoned {u : State} {c : Cmd} {ps : List Place} {ws : List Word} {k : Nat}
    (hn : c.frame.accessCount = some ps.length)
    (hout : outsideWindows c.frame.addrOff) (hps : placesOf c.frame.addrOff ps.length = ps.map some)
    (hws : u.readWords c.frame.addrView ps = ws) (hl : ws.length = ps.length) (hc : c.poisonAt = some k) (hk : k < ps.length) :
    u.actRead c = (ps.foldl State.readMet u,
      if c.frame.opcode = ocRead then { status := stPoisoned, payload := ws.take 1, poison := true }
        else { status := stPoisoned, payload := ws.take k }) := by
  have hfound : c.poisonAt.filter (· < ps.length) = some k := by simp [hc, Option.filter, hk]
  rw [State.actRead_words hn hout hps hws, hl, hfound, List.take_of_length_le (Nat.le_succ _)]

/-- The one word of a READ cannot be corrected. -/
theorem State.actRead_lost {u : State} {c : Cmd} {p : Place} (hop : c.frame.opcode = ocRead)
    (hn : c.frame.accessCount = some 1) (hout : outsideWindows c.frame.addrOff) (hp : place c.frame.addrOff = some p)
    (hr : u.readPlace c.frame.addrView p = none) :
    u.actRead c = (u.readMet p, { status := stUncorrectable, payload := [0] }) := by
  have hws : u.readWords c.frame.addrView [p] = [] := by simp only [State.readWords, hr]
  have hnone : c.poisonAt.filter (· < ([] : List Word).length) = none :=
    Option.filter_eq_none_iff.2 fun k _ hlt => Nat.not_lt_zero k (of_decide_eq_true hlt)
  rw [State.actRead_words hn hout (ps := [p]) (placesOf_one hp) hws, hnone]
  exact congrArg (fun l => (u.readMet p, ({ status := stUncorrectable, payload := l } : Answer))) (if_pos hop)

/-! ### Windows -/

section
variable {u : State} {c : Cmd} {w o n : Nat} {write : Bool} {data : List Word}

theorem State.actWindow_disabled (h : u.is F.WIN_CFG_ENABLE (w / 2) (w % 2) = false) :
    u.actWindow c w o write n data = (u, { status := stBadParam }) := by
  simp [State.actWindow, h]

theorem State.actWindow_stopped (h : u.is F.WIN_CFG_ENABLE (w / 2) (w % 2) = true) (ho : o + 4 * n ≤ 0x10000000)
    (hr : u.running (u.winEngine w) = false) : u.actWindow c w o write n data = (u, { status := stBusy }) := by
  have hfit : ¬ o + 4 * n > 0x10000000 := Nat.not_lt.2 ho
  simp [State.actWindow, h, hr, hfit]

theorem State.actWindow_running (h : u.is F.WIN_CFG_ENABLE (w / 2) (w % 2) = true) (ho : o + 4 * n ≤ 0x10000000)
    (hr : u.running (u.winEngine w) = true) : u.actWindow c w o write n data =
      (u.winRequest w { cmd := c, write := write, count := n, off := o, data := data,
                        arrival := ((u.serviceOf c).map (·.arrival)).getD u.now }, { wait := true }) := by
  have hfit : ¬ o + 4 * n > 0x10000000 := Nat.not_lt.2 ho
  simp [State.actWindow, h, hr, hfit]

end

/-! ### Writes of a range -/

/-- No write of a register ends with UNCORRECTABLE. -/
theorem State.writeStatus_ne_uncorrectable (s : State) (priv : Bool) (r : Reg) (i j : Nat) (w : Word) (x : Option Session) :
    s.writeStatus priv r i j w x ≠ stUncorrectable := by
  have howner : ∀ a, s.ownerCheck x a ≠ stUncorrectable := by
    intro a
    unfold State.ownerCheck
    simp only []
    repeat' split
    all_goals decide
  have hunlock : s.unlockCheck ≠ stUncorrectable := by
    unfold State.unlockCheck
    repeat' split
    all_goals decide
  unfold State.writeStatus
  simp only []
  split
  · decide
  split
  · exact howner _
  split
  · split
    · exact hunlock
    · decide
  · repeat' split
    all_goals decide

theorem State.placeStatus_reg_ne_uncorrectable (s : State) (priv : Bool) (r : Reg) (i j : Nat) (w : Word) (x : Option Session) :
    s.placeStatus priv (.reg r i j) w x ≠ stUncorrectable := by
  unfold State.placeStatus
  split
  · decide
  · exact s.writeStatus_ne_uncorrectable priv r i j w x

/-- The vat is written in COMMISSION only (R161). -/
theorem State.placeStatus_vat_of_ne (s : State) (priv : Bool) (b : Nat) (w : Word) (x : Option Session) (h : s.mode ≠ .commission) :
    s.placeStatus priv (.vat b) w x = stNotInMode := by
  simp [State.placeStatus, State.vatStatus, h]

section
variable (s : State) (priv : Bool) {b : Nat} (w : Word) (x : Option Session) (h : s.mode = .commission)
include h

theorem State.placeStatus_vat_sound (hue : s.sw.ueWords.contains (b / 32) = false) : s.placeStatus priv (.vat b) w x = stOk := by
  simp_all [State.placeStatus, State.vatStatus]

theorem State.placeStatus_vat_lost (hue : s.sw.ueWords.contains (b / 32) = true) :
    s.placeStatus priv (.vat b) w x = stUncorrectable := by
  simp_all [State.placeStatus, State.vatStatus]

end

/-- A vat word that cannot be corrected is met as such. -/
theorem State.readMet_vat_lost {s : State} {b : Nat} (hue : s.sw.ueWords.contains (b / 32) = true) :
    s.readMet (.vat b) = s.ueMet (b / 32) := by
  simp only [State.readMet, State.meetWords, List.foldl, hue, if_true]

/-- A register other than ISL_RST_CTL is written, and no island is reset for it. -/
theorem State.placeWrite_reg_of_ne (s : State) (priv : Bool) {r : Reg} (i j : Nat) (w : Word) (h : r ≠ .islRstCtl) :
    s.placeWrite priv (.reg r i j) w = (s.writeReg priv r i j w, 0) := by
  simp [State.placeWrite, h]

/-- A privileged write of ISL_RST_CTL names the islands to reset. -/
theorem State.placeWrite_islRstCtl (s : State) (i j : Nat) (w : Word) :
    s.placeWrite true (.reg .islRstCtl i j) w = (s.writeReg true .islRstCtl i j w, w.setWidth 21) := by
  have hw : Reg.islRstCtl.writable true = true := by decide
  simp [State.placeWrite, hw]

section
variable {s : State} {f : Frame} {p q : Place} {w first : Word} {payload : List Word} {st : Status}

/-- The one word of a write is refused. -/
theorem State.actWrites_refused (hst : s.placeStatus f.addrView p w (s.session? f.session) = st) (hok : st ≠ stOk) :
    s.actWrites f false [(p, w)] first payload = (if st = stUncorrectable then s.readMet p else s, { status := st }) := by
  simp [State.actWrites, State.writeWords, hst, hok]

/-- The one word of a write is written. -/
theorem State.actWrites_written {t : State} {m : BitVec 21} (hst : s.placeStatus f.addrView p w (s.session? f.session) = stOk)
    (hw : s.placeWrite f.addrView p w = (t, m)) : s.actWrites f false [(p, w)] first payload =
      (t.auditWrite f 1 first false, { payload := payload, after := if m = 0 then none else some (.islands m) }) := by
  simp [State.actWrites, State.writeWords, hst, hw]

/-- A range of two words, of which the first passes and sets no island reset going: the second decides. -/
theorem State.actWrites_two {t : State} {w' : Word} (hst : s.placeStatus f.addrView p w (s.session? f.session) = stOk)
    (hw : s.placeWrite f.addrView p w = (t, 0)) :
    (∀ t', t.placeStatus f.addrView q w' (s.session? f.session) = stOk → t.placeWrite f.addrView q w' = (t', 0) →
      s.actWrites f false [(p, w), (q, w')] first payload = (t'.auditWrite f 2 first false, { payload := payload })) ∧
    (∀ st, t.placeStatus f.addrView q w' (s.session? f.session) = st → st ≠ stOk → st ≠ stUncorrectable →
      s.actWrites f false [(p, w), (q, w')] first payload = (s, { status := st })) := by
  refine ⟨fun t' h h' => ?_, fun st h h1 h2 => ?_⟩
  · simp [State.actWrites, State.writeWords, hst, hw, h, h']
  · simp [State.actWrites, State.writeWords, hst, hw, h, h1, h2]

end

/-! ### WRITE, WRITE_POSTED and WRITE_BLOCK -/

section
variable {u : State} {c : Cmd} {n : Nat}

theorem State.actWrite_of_no_count (h : c.frame.accessCount = none) : u.actWrite c false = (u, { status := stBadParam }) := by
  simp [State.actWrite, h]

theorem State.actWrite_vat_of_ne {b : Nat} (hn : c.frame.accessCount = some n) (hp : place c.frame.addrOff = some (.vat b))
    (hop : c.frame.opcode ≠ ocWrite) : u.actWrite c false = (u, { status := stBadParam }) := by
  simp [State.actWrite, hn, hp, hop]

theorem State.actWrite_window {w o : Nat} (hn : c.frame.accessCount = some n) (hp : place c.frame.addrOff = some (.window w o))
    (hm : u.mode ≠ .safe) : u.actWrite c false = u.actWindow c w o true n c.frame.payload := by
  simp [State.actWrite, hn, hp, hm]

/-- A write to a place that takes one, word by word. -/
theorem State.actWrite_words {p : Place} (hn : c.frame.accessCount = some n) (hp : place c.frame.addrOff = some p)
    (hw : ∀ w o, p ≠ .window w o) (hv : ∀ b, p = .vat b → c.frame.opcode = ocWrite) :
    u.actWrite c false = u.actWrites c.frame false (((placesOf c.frame.addrOff n).filterMap id).zip c.frame.payload)
      (c.frame.payload.headD 0) [] := by
  unfold State.actWrite
  simp only [hn, hp]
  cases p with
  | window w o => exact absurd rfl (hw w o)
  | vat b => simp [hv b rfl]
  | reg r i j => rfl
  | bank l r i => rfl
  | empty o => rfl

/-- A write of one word. -/
theorem State.actWrite_one {p : Place} {w : Word} (hn : c.frame.accessCount = some 1) (hp : place c.frame.addrOff = some p)
    (hpay : c.frame.payload = [w]) (hw : ∀ w o, p ≠ .window w o) (hv : ∀ b, p = .vat b → c.frame.opcode = ocWrite) :
    u.actWrite c false = u.actWrites c.frame false [(p, w)] w [] := by
  rw [State.actWrite_words hn hp hw hv, placesOf_one hp, hpay]
  rfl

end

/-! ### READ_MODIFY_WRITE -/

section
variable {u : State} {c : Cmd}

theorem State.actModify_of_no_count (h : c.frame.accessCount = none) : u.actModify c false = (u, { status := stBadParam }) := by
  simp [State.actModify, h]

/-- Neither the vat nor a window takes a READ_MODIFY_WRITE. -/
theorem State.actModify_vat_or_window {p : Place} (hn : c.frame.accessCount = some 1) (hp : place c.frame.addrOff = some p)
    (h : (∃ b, p = .vat b) ∨ ∃ w o, p = .window w o) : u.actModify c false = (u, { status := stBadParam }) := by
  rcases h with ⟨b, rfl⟩ | ⟨w, o, rfl⟩ <;> simp [State.actModify, hn, hp]

section
variable {g : Reg} {i j : Nat} (hn : c.frame.accessCount = some 1) (hp : place c.frame.addrOff = some (.reg g i j))
include hn hp

theorem State.actModify_lost (hr : u.readPlace c.frame.addrView (.reg g i j) = none) :
    u.actModify c false = (u.readMet (.reg g i j), { status := stUncorrectable }) := by
  simp [State.actModify, hn, hp, hr]

theorem State.actModify_poisoned {old : Word} (hr : u.readPlace c.frame.addrView (.reg g i j) = some old)
    (hc : c.poisonAt = some 0) : u.actModify c false =
      (u.readMet (.reg g i j), { status := stPoisoned, payload := [old], poison := true }) := by
  simp [State.actModify, hn, hp, hr, hc]

/-- The word that READ_MODIFY_WRITE writes, and the old one that it answers. -/
theorem State.actModify_writes {old m v : Word} (hr : u.readPlace c.frame.addrView (.reg g i j) = some old)
    (hc : c.poisonAt ≠ some 0) (hpay : c.frame.payload = [m, v]) : u.actModify c false =
      (u.readMet (.reg g i j)).actWrites c.frame false [(.reg g i j, (old &&& ~~~m) ||| (v &&& m))] v [old] := by
  simp [State.actModify, hn, hp, hr, hc, hpay]

end

end

end Sys2Proof.Machine
end

section
/-!
The rows of the six access commands, from the step to the reply.
-/
namespace Sys2Proof.Machine

/-! ### Which operation serves which row -/

section
variable {s u : State} {c0 c : Cmd} {t : Target} {r : Rights} (hc : c = s.sourced c0)
include hc

/-- A row whose command comes to step 8 ends with the answer that step 8 gives. -/
theorem Served.next_of_act {op : BitVec 8} {x : KeyExchange} {p : State × Answer} (h : Served s op c t r x u)
    (hact : ∀ e : Service, e.Fresh c r x → u.act e = p) :
    (.next (s.serve op c0 x).done : Host.Outcome State Fault Refusal) = .next (State.answered c p).done := by
  subst hc
  obtain ⟨e, he, hserve⟩ := h.serve
  rw [hserve, hact e he]

theorem Served.exec_read (h : Served s 0x01 c t r {} u) : exec (.read c0) s = .next (State.answered c (u.actRead c)).done :=
  h.next_of_act hc fun e he => by simp [State.act, he.cmd, h.opcode]

theorem Served.exec_readBlock (h : Served s 0x05 c t r {} u) :
    exec (.readBlock c0) s = .next (State.answered c (u.actRead c)).done :=
  h.next_of_act hc fun e he => by simp [State.act, he.cmd, h.opcode]

theorem Served.exec_write {op : BitVec 8} {i : Instr} (hi : (op = 0x02 ∧ i = .write c0) ∨ (op = 0x03 ∧ i = .writePosted c0))
    (h : Served s op c t r {} u) : exec i s = .next (State.answered c (u.actWrite c false)).done := by
  have hact : ∀ e : Service, e.Fresh c r {} → u.act e = u.actWrite c false := by
    intro e he
    rcases hi with ⟨hop, -⟩ | ⟨hop, -⟩ <;> simp [State.act, he.cmd, he.ordered, h.opcode, hop]
  obtain ⟨rfl, rfl⟩ | ⟨rfl, rfl⟩ := hi
  · exact h.next_of_act hc hact
  · exact h.next_of_act hc hact

theorem Served.exec_readModifyWrite (h : Served s 0x04 c t r {} u) :
    exec (.readModifyWrite c0) s = .next (State.answered c (u.actModify c false)).done :=
  h.next_of_act hc fun e he => by simp [State.act, he.cmd, he.ordered, h.opcode]

theorem Served.exec_writeBlock (h : Served s 0x06 c t r {} u) :
    exec (.writeBlock c0) s = .next (State.answered c (u.actWrite c false)).done :=
  h.next_of_act hc fun e he => by simp [State.act, he.cmd, he.ordered, h.opcode]

end

/-! ### How many words a command covers (R73) -/

theorem accessCount_read {f : Frame} (h : f.opcode = 0x01) : f.accessCount = some 1 := by simp [Frame.accessCount, h]

theorem accessCount_write {f : Frame} (h : f.opcode = 0x02 ∨ f.opcode = 0x03) :
    f.accessCount = if f.payload.length = 1 then some 1 else none := by
  rcases h with h | h <;> simp [Frame.accessCount, h]

theorem accessCount_readModifyWrite {f : Frame} (h : f.opcode = 0x04) :
    f.accessCount = if f.payload.length = 2 then some 1 else none := by simp [Frame.accessCount, h]

theorem accessCount_writeBlock {f : Frame} (h : f.opcode = 0x06) :
    f.accessCount = if f.payload.length = 0 then none else some f.payload.length := by simp [Frame.accessCount, h]

/-! ### READ and READ_BLOCK -/

section
variable {s u : State} {c0 c : Cmd} {t : Target} {r : Rights} (hc : c = s.sourced c0)
include hc

/-- READ of a place that is no window. -/
theorem Served.read_place (h : Served s 0x01 c t r {} u) {p : Place} (hp : place c.frame.addrOff = some p)
    (hw : ∀ w o, p ≠ .window w o) :
    (∀ x, u.readPlace c.frame.addrView p = some x →
      (c.poisonAt ≠ some 0 → exec (.read c0) s = .next ((u.readMet p).finish c false { payload := [x] }).done) ∧
      (c.poisonAt = some 0 → exec (.read c0) s = .next (((u.readMet p).bump .mgtCnt 1).finish c false
        { status := stPoisoned, payload := [x], poison := true }).done)) ∧
    (u.readPlace c.frame.addrView p = none → exec (.read c0) s =
      .next ((u.readMet p).finish c false { status := stUncorrectable, payload := [0] }).done) := by
  have hn : c.frame.accessCount = some [p].length := accessCount_read h.opcode
  have hop : c.frame.opcode = ocRead := h.opcode
  have hout : outsideWindows c.frame.addrOff := fun w o e => hw w o (Option.some.inj (hp.symm.trans e))
  rw [h.exec_read hc]
  refine ⟨fun x hx => ?_, fun hx => ?_⟩
  · have hws : u.readWords c.frame.addrView [p] = [x] := by simp [State.readWords, hx]
    refine ⟨fun hne => ?_, fun heq => ?_⟩
    · have hnone : c.poisonAt.filter (· < [p].length) = none := by
        refine Option.filter_eq_none_iff.2 fun k hk hlt => hne ?_
        rw [hk, Nat.lt_one_iff.1 (of_decide_eq_true hlt)]
      rw [State.actRead_sound hn hout (placesOf_one hp) hws rfl hnone, State.answered_of_served _ _ rfl (Or.inl rfl)]
      rfl
    · rw [State.actRead_poisoned hn hout (placesOf_one hp) hws rfl heq Nat.zero_lt_one, if_pos hop,
        State.answered_of_refused _ _ stPoisoned rfl rfl (by decide) (by decide)]
      rfl
  · rw [State.actRead_lost hop hn hout hp hx, State.answered_of_served _ _ rfl (Or.inr rfl)]

/-- READ through a bridged device window. -/
theorem Served.read_window (h : Served s 0x01 c t r {} u) {w o : Nat} (hp : place c.frame.addrOff = some (.window w o)) :
    (u.is F.WIN_CFG_ENABLE (w / 2) (w % 2) = false → exec (.read c0) s = .next (u.turnedAway c stBadParam).done) ∧
    (u.is F.WIN_CFG_ENABLE (w / 2) (w % 2) = true → o + 4 ≤ 0x10000000 → u.running (u.winEngine w) = false →
      exec (.read c0) s = .next (u.turnedAway c stBusy).done) ∧
    (u.is F.WIN_CFG_ENABLE (w / 2) (w % 2) = true → o + 4 ≤ 0x10000000 → u.running (u.winEngine w) = true →
      exec (.read c0) s = .next (u.winRequest w
        { cmd := c, write := false, count := 1, off := o, arrival := ((u.serviceOf c).map (·.arrival)).getD u.now }).done) := by
  rw [h.exec_read hc, State.actRead_window (accessCount_read h.opcode) hp]
  refine ⟨fun he => ?_, fun he ho hr => ?_, fun he ho hr => ?_⟩
  · rw [State.actWindow_disabled he, State.answered_refusal _ _ (by decide) (by decide)]
  · rw [State.actWindow_stopped he ho hr, State.answered_refusal _ _ (by decide) (by decide)]
  · rw [State.actWindow_running he ho hr, State.answered_of_wait _ _ rfl]

/-- READ_BLOCK with a payload that gives no number of words (R73). -/
theorem Served.readBlock_bad_count (h : Served s 0x05 c t r {} u) (hn : c.frame.accessCount = none) :
    exec (.readBlock c0) s = .next (u.turnedAway c stBadParam).done := by
  rw [h.exec_readBlock hc, State.actRead_of_no_count hn, State.answered_refusal _ _ (by decide) (by decide)]

/-- READ_BLOCK of places that can all be read. -/
theorem Served.readBlock_words (h : Served s 0x05 c t r {} u) {n : Nat} {ps : List Place} {ws : List Word}
    (hn : c.frame.accessCount = some n) (hps : ps.length = n) (hws : ws.length = n) (hout : outsideWindows c.frame.addrOff)
    (hk : ∀ k < n, place (c.frame.addrOff + 4 * k) = some (ps.getD k (.empty 0)) ∧
      u.readPlace c.frame.addrView (ps.getD k (.empty 0)) = some (ws.getD k 0)) :
    (c.poisonAt = none ∨ c.poisonAt.any (fun k => decide (n ≤ k)) = true →
      exec (.readBlock c0) s = .next ((ps.foldl State.readMet u).finish c false { payload := ws }).done) ∧
    (∀ k, c.poisonAt = some k → k < n → exec (.readBlock c0) s =
      .next (((ps.foldl State.readMet u).bump .mgtCnt 1).finish c false { status := stPoisoned, payload := ws.take k }).done) := by
  subst hps
  have hplaces := placesOf_eq_map rfl fun k hlt => (hk k hlt).1
  have hwords := u.readWords_eq c.frame.addrView hws fun k hlt => (hk k hlt).2
  have hop : ¬ c.frame.opcode = ocRead := by rw [h.opcode]; decide
  rw [h.exec_readBlock hc]
  refine ⟨fun hclean => ?_, fun k hpoison hlt => ?_⟩
  · have hnone : c.poisonAt.filter (· < ps.length) = none := by
      refine Option.filter_eq_none_iff.2 fun k hk hlt => ?_
      have hge : ps.length ≤ k := by simpa [hk] using hclean
      exact absurd (of_decide_eq_true hlt) (Nat.not_lt.2 hge)
    rw [State.actRead_sound hn hout hplaces hwords hws hnone, State.answered_of_served _ _ rfl (Or.inl rfl)]
  · rw [State.actRead_poisoned hn hout hplaces hwords hws hpoison hlt, if_neg hop,
      State.answered_of_refused _ _ stPoisoned rfl rfl (by decide) (by decide)]

end

/-! ### WRITE and WRITE_POSTED -/

section
variable {s u : State} {c0 c : Cmd} {t : Target} {r : Rights} {op : BitVec 8} {i : Instr} {w : Word}
  (hc : c = s.sourced c0) (hi : (op = 0x02 ∧ i = .write c0) ∨ (op = 0x03 ∧ i = .writePosted c0))
  (h : Served s op c t r {} u) (hpay : c.frame.payload = [w])

section
include hi h

theorem Served.write_opcode : c.frame.opcode = 0x02 ∨ c.frame.opcode = 0x03 := by
  rw [h.opcode]
  exact hi.imp And.left And.left

include hpay in
theorem Served.write_count : c.frame.accessCount = some 1 := by
  rw [accessCount_write (h.write_opcode hi), hpay]
  rfl

include hc in
/-- A payload of another length than one word (R73). -/
theorem Served.write_bad_length (hl : c.frame.payload.length ≠ 1) : exec i s = .next (u.turnedAway c stBadParam).done := by
  have hn : c.frame.accessCount = none := by rw [accessCount_write (h.write_opcode hi), if_neg hl]
  rw [h.exec_write hc hi, State.actWrite_of_no_count hn, State.answered_refusal _ _ (by decide) (by decide)]

end

include hc hi h hpay

/-- A write of a register. -/
theorem Served.write_reg {g : Reg} {j k : Nat} (hp : place c.frame.addrOff = some (.reg g j k)) :
    (∀ st, u.placeStatus c.frame.addrView (.reg g j k) w (u.session? c.frame.session) = st → st ≠ stOk →
      exec i s = .next (u.turnedAway c st).done) ∧
    (u.placeStatus c.frame.addrView (.reg g j k) w (u.session? c.frame.session) = stOk → g ≠ .islRstCtl →
      exec i s = .next (((u.writeReg c.frame.addrView g j k w).auditWrite c.frame 1 w false).finish c false {}).done) ∧
    (u.placeStatus c.frame.addrView (.reg g j k) w (u.session? c.frame.session) = stOk → g = .islRstCtl →
      c.frame.addrView = true → w.setWidth 21 ≠ (0 : BitVec 21) →
      exec i s = .next (((u.writeReg true g j k w).auditWrite c.frame 1 w false).finish c false
        { after := some (.islands (w.setWidth 21)) }).done) := by
  rw [h.exec_write hc hi, State.actWrite_one (h.write_count hi hpay) hp hpay (by simp) (by simp)]
  refine ⟨fun st hst hne => ?_, fun hst hg => ?_, fun hst hg hview hmask => ?_⟩
  · have hcor : st ≠ stUncorrectable := hst ▸ u.placeStatus_reg_ne_uncorrectable _ g j k w _
    rw [State.actWrites_refused hst hne, if_neg hcor, State.answered_refusal _ _ hne hcor]
  · rw [State.actWrites_written hst (u.placeWrite_reg_of_ne _ j k w hg), if_pos rfl,
      State.answered_of_served _ _ rfl (Or.inl rfl)]
  · subst hg
    have hplace : u.placeWrite c.frame.addrView (.reg .islRstCtl j k) w = (u.writeReg true .islRstCtl j k w, w.setWidth 21) := by
      rw [hview, State.placeWrite_islRstCtl]
    rw [State.actWrites_written hst hplace, if_neg hmask, State.answered_of_served _ _ rfl (Or.inl rfl)]

/-- An offset that no register occupies takes any word (R9). -/
theorem Served.write_empty {o : Nat} (hp : place c.frame.addrOff = some (.empty o)) :
    exec i s = .next ((u.auditWrite c.frame 1 w false).finish c false {}).done := by
  have hst : u.placeStatus c.frame.addrView (.empty o) w (u.session? c.frame.session) = stOk := by
    simp [State.placeStatus, State.safeWrite]
  rw [h.exec_write hc hi, State.actWrite_one (h.write_count hi hpay) hp hpay (by simp) (by simp),
    State.actWrites_written hst rfl, if_pos rfl, State.answered_of_served _ _ rfl (Or.inl rfl)]

/-- The vat window takes WRITE, in COMMISSION (R161). -/
theorem Served.write_vat {b : Nat} (hp : place c.frame.addrOff = some (.vat b)) :
    (op = 0x03 → exec i s = .next (u.turnedAway c stBadParam).done) ∧
    (op = 0x02 → u.mode = .run → exec i s = .next (u.turnedAway c stNotInMode).done) ∧
    (op = 0x02 → u.mode = .commission → u.sw.ueWords.contains (b / 32) = false →
      exec i s = .next ((((((u.meetWords [b / 32]).vatSound (b / 32)).vatWrite b w)).auditWrite c.frame 1 w false).finish
        c false {}).done) ∧
    (op = 0x02 → u.mode = .commission → u.sw.ueWords.contains (b / 32) = true →
      exec i s = .next ((u.ueMet (b / 32)).finish c false { status := stUncorrectable }).done) := by
  have hn := h.write_count hi hpay
  have hone : op = 0x02 → u.actWrite c false = u.actWrites c.frame false [(.vat b, w)] w [] := fun hop =>
    State.actWrite_one hn hp hpay (by simp) fun _ _ => h.opcode.trans hop
  rw [h.exec_write hc hi]
  refine ⟨fun hop => ?_, fun hop hm => ?_, fun hop hm hue => ?_, fun hop hm hue => ?_⟩
  · rw [State.actWrite_vat_of_ne hn hp (by rw [h.opcode, hop]; decide), State.answered_refusal _ _ (by decide) (by decide)]
  · have hst := u.placeStatus_vat_of_ne c.frame.addrView b w (u.session? c.frame.session) (by rw [hm]; decide)
    rw [hone hop, State.actWrites_refused hst (by decide), if_neg (by decide), State.answered_refusal _ _ (by decide) (by decide)]
  · have hst := u.placeStatus_vat_sound c.frame.addrView w (u.session? c.frame.session) hm hue
    rw [hone hop, State.actWrites_written hst rfl, if_pos rfl, State.answered_of_served _ _ rfl (Or.inl rfl)]
  · have hst := u.placeStatus_vat_lost c.frame.addrView w (u.session? c.frame.session) hm hue
    rw [hone hop, State.actWrites_refused hst (by decide), if_pos rfl, State.readMet_vat_lost hue,
      State.answered_of_served _ _ rfl (Or.inr rfl)]

/-- A write through a bridged device window. -/
theorem Served.write_window {n o : Nat} (hp : place c.frame.addrOff = some (.window n o)) (hm : u.mode ≠ .safe)
    (he : u.is F.WIN_CFG_ENABLE (n / 2) (n % 2) = true) (ho : o + 4 ≤ 0x10000000) (hr : u.running (u.winEngine n) = true) :
    exec i s = .next (u.winRequest n
      { cmd := c, write := true, count := 1, off := o, data := [w],
        arrival := ((u.serviceOf c).map (·.arrival)).getD u.now }).done := by
  rw [h.exec_write hc hi, State.actWrite_window (h.write_count hi hpay) hp hm, hpay, State.actWindow_running he ho hr,
    State.answered_of_wait _ _ rfl]

end

/-! ### READ_MODIFY_WRITE and WRITE_BLOCK -/

section
variable {s u : State} {c0 c : Cmd} {t : Target} {r : Rights} (hc : c = s.sourced c0)
include hc

/-- READ_MODIFY_WRITE with a payload of another length than two words (R73). -/
theorem Served.modify_bad_length (h : Served s 0x04 c t r {} u) (hl : c.frame.payload.length ≠ 2) :
    exec (.readModifyWrite c0) s = .next (u.turnedAway c stBadParam).done := by
  have hn : c.frame.accessCount = none := by rw [accessCount_readModifyWrite h.opcode, if_neg hl]
  rw [h.exec_readModifyWrite hc, State.actModify_of_no_count hn, State.answered_refusal _ _ (by decide) (by decide)]

/-- Neither the vat nor a window takes READ_MODIFY_WRITE. -/
theorem Served.modify_vat_or_window (h : Served s 0x04 c t r {} u) {m v : Word} {p : Place} (hpay : c.frame.payload = [m, v])
    (hp : place c.frame.addrOff = some p) (hplace : (∃ b, p = .vat b) ∨ ∃ w o, p = .window w o) :
    exec (.readModifyWrite c0) s = .next (u.turnedAway c stBadParam).done := by
  have hn : c.frame.accessCount = some 1 := by rw [accessCount_readModifyWrite h.opcode, hpay]; rfl
  rw [h.exec_readModifyWrite hc, State.actModify_vat_or_window hn hp hplace, State.answered_refusal _ _ (by decide) (by decide)]

/-- READ_MODIFY_WRITE of a register; `z` is the state after the read. -/
theorem Served.modify_reg (h : Served s 0x04 c t r {} u) {m v : Word} {g : Reg} {i j : Nat} {z : State}
    (hpay : c.frame.payload = [m, v]) (hp : place c.frame.addrOff = some (.reg g i j)) (hz : z = u.readMet (.reg g i j)) :
    (u.readPlace c.frame.addrView (.reg g i j) = none →
      exec (.readModifyWrite c0) s = .next (z.finish c false { status := stUncorrectable }).done) ∧
    (∀ old w, u.readPlace c.frame.addrView (.reg g i j) = some old → w = (old &&& ~~~m) ||| (v &&& m) →
      (c.poisonAt = some 0 → exec (.readModifyWrite c0) s = .next ((z.bump .mgtCnt 1).finish c false
        { status := stPoisoned, payload := [old], poison := true }).done) ∧
      (∀ st, c.poisonAt ≠ some 0 → z.placeStatus c.frame.addrView (.reg g i j) w (z.session? c.frame.session) = st → st ≠ stOk →
        exec (.readModifyWrite c0) s = .next (z.turnedAway c st).done) ∧
      (c.poisonAt ≠ some 0 → z.placeStatus c.frame.addrView (.reg g i j) w (z.session? c.frame.session) = stOk → g ≠ .islRstCtl →
        exec (.readModifyWrite c0) s =
          .next (((z.writeReg c.frame.addrView g i j w).auditWrite c.frame 1 v false).finish c false { payload := [old] }).done)) := by
  have hn : c.frame.accessCount = some 1 := by rw [accessCount_readModifyWrite h.opcode, hpay]; rfl
  rw [h.exec_readModifyWrite hc]
  subst hz
  refine ⟨fun hr => ?_, fun old w hr hw => ⟨fun hpo => ?_, fun st hpo hst hne => ?_, fun hpo hst hg => ?_⟩⟩
  · rw [State.actModify_lost hn hp hr, State.answered_of_served _ _ rfl (Or.inr rfl)]
  · rw [State.actModify_poisoned hn hp hr hpo, State.answered_of_refused _ _ stPoisoned rfl rfl (by decide) (by decide)]
  · have hcor : st ≠ stUncorrectable := hst ▸ State.placeStatus_reg_ne_uncorrectable _ _ g i j w _
    rw [State.actModify_writes hn hp hr hpo hpay, ← hw, State.actWrites_refused hst hne, if_neg hcor,
      State.answered_refusal _ _ hne hcor]
  · rw [State.actModify_writes hn hp hr hpo hpay, ← hw, State.actWrites_written hst (State.placeWrite_reg_of_ne _ _ i j w hg),
      if_pos rfl, State.answered_of_served _ _ rfl (Or.inl rfl)]

/-- WRITE_BLOCK without words (R73). -/
theorem Served.writeBlock_empty (h : Served s 0x06 c t r {} u) (hl : c.frame.payload = []) :
    exec (.writeBlock c0) s = .next (u.turnedAway c stBadParam).done := by
  have hn : c.frame.accessCount = none := by rw [accessCount_writeBlock h.opcode, hl]; rfl
  rw [h.exec_writeBlock hc, State.actWrite_of_no_count hn, State.answered_refusal _ _ (by decide) (by decide)]

/-- The vat does not take WRITE_BLOCK. -/
theorem Served.writeBlock_vat (h : Served s 0x06 c t r {} u) {b : Nat} (hl : c.frame.payload ≠ [])
    (hp : place c.frame.addrOff = some (.vat b)) : exec (.writeBlock c0) s = .next (u.turnedAway c stBadParam).done := by
  have hn : c.frame.accessCount = some c.frame.payload.length := by
    rw [accessCount_writeBlock h.opcode, if_neg (mt List.length_eq_zero_iff.1 hl)]
  rw [h.exec_writeBlock hc, State.actWrite_vat_of_ne hn hp (by rw [h.opcode]; decide),
    State.answered_refusal _ _ (by decide) (by decide)]

/-- WRITE_BLOCK of two registers: both are written, or none is when the second refuses. -/
theorem Served.writeBlock_two (h : Served s 0x06 c t r {} u) {w0 w1 : Word} {g g' : Reg} {i j i' j' : Nat} {u1 : State}
    (hpay : c.frame.payload = [w0, w1]) (hp : place c.frame.addrOff = some (.reg g i j))
    (hp' : place (c.frame.addrOff + 4) = some (.reg g' i' j')) (hg : g ≠ .islRstCtl) (hg' : g' ≠ .islRstCtl)
    (hst : u.placeStatus c.frame.addrView (.reg g i j) w0 (u.session? c.frame.session) = stOk)
    (hu1 : u1 = u.writeReg c.frame.addrView g i j w0) :
    (u1.placeStatus c.frame.addrView (.reg g' i' j') w1 (u.session? c.frame.session) = stOk → exec (.writeBlock c0) s =
      .next (((u1.writeReg c.frame.addrView g' i' j' w1).auditWrite c.frame 2 w0 false).finish c false {}).done) ∧
    (∀ st, u1.placeStatus c.frame.addrView (.reg g' i' j') w1 (u.session? c.frame.session) = st → st ≠ stOk →
      exec (.writeBlock c0) s = .next (u.turnedAway c st).done) := by
  have hn : c.frame.accessCount = some 2 := by rw [accessCount_writeBlock h.opcode, hpay]; rfl
  have hact : u.actWrite c false = u.actWrites c.frame false [(.reg g i j, w0), (.reg g' i' j', w1)] w0 [] := by
    rw [State.actWrite_words hn hp (by simp) (by simp), placesOf_two hp hp', hpay]
    rfl
  obtain ⟨hwritten, hrefused⟩ := State.actWrites_two (f := c.frame) (q := .reg g' i' j') (first := w0) (payload := [])
    (w' := w1) hst (hu1 ▸ u.placeWrite_reg_of_ne c.frame.addrView i j w0 hg)
  rw [h.exec_writeBlock hc, hact]
  refine ⟨fun hst' => ?_, fun st hst' hne => ?_⟩
  · rw [hwritten _ hst' (State.placeWrite_reg_of_ne _ _ i' j' w1 hg'), State.answered_of_served _ _ rfl (Or.inl rfl)]
  · have hcor : st ≠ stUncorrectable := hst' ▸ State.placeStatus_reg_ne_uncorrectable _ _ g' i' j' w1 _
    rw [hrefused st hst' hne hcor, State.answered_refusal _ _ hne hcor]

end

/-! ### Reading a place, and writing the vat -/

/-- A register outside the forwarding table is read as the view shows it. -/
theorem State.readPlace_reg_of_ne (s : State) (priv : Bool) {g : Reg} (i j : Nat) (h : g ≠ .swcFwdAct) (h' : g ≠ .swcFwdShd) :
    s.readPlace priv (.reg g i j) = some (s.readReg priv g i j) ∧ s.readMet (.reg g i j) = s := by
  simp [State.readPlace, State.readMet, h, h']

/-- An entry of the forwarding table is read under its code (R142, R155). -/
theorem State.readPlace_fwd (s : State) (priv : Bool) {g : Reg} {i k : Nat} (j : Nat)
    (h : (g = .swcFwdAct ∧ k = i) ∨ (g = .swcFwdShd ∧ k = 256 + i)) : s.readMet (.reg g i j) = s.fwdRead k ∧
      s.readPlace priv (.reg g i j) = (if s.fwdLost k = true then none else some (s.readReg priv g i j)) := by
  obtain ⟨rfl, rfl⟩ | ⟨rfl, rfl⟩ := h <;> exact ⟨rfl, rfl⟩

theorem State.fwdLost_iff (s : State) (k : Nat) : s.fwdLost k = true ↔ k ∈ s.sw.fwdBad ∨ 2 < tget 0 s.sw.fwdErr k := by
  simp [State.fwdLost]

theorem State.readPlace_vat (s : State) (priv : Bool) (b : Nat) :
    s.readPlace priv (.vat b) = if b / 32 ∈ s.sw.ueWords then none else some (mreadWord s.sw.vat b) := by
  simp [State.readPlace]

/-- A vat word without an error is read as it is. -/
theorem State.readMet_vat_sound {s : State} {b : Nat} (hue : b / 32 ∉ s.sw.ueWords) (hce : tfind s.sw.ceWords (b / 32) = none) :
    s.readMet (.vat b) = s := by
  simp [State.readMet, State.meetWords, hue, hce]

/-- The four bytes of a word, most significant first, are the word. -/
theorem word4_wordBytes (w : Word) :
    word4 ((w >>> 24).setWidth 8) ((w >>> 16).setWidth 8) ((w >>> 8).setWidth 8) (w.setWidth 8) = w := by
  refine BitVec.eq_of_getLsbD_eq fun b hb => ?_
  have h4 : b - 8 - 8 - 8 < 8 := by omega
  simp only [word4, BitVec.getLsbD_append, BitVec.getLsbD_setWidth, BitVec.getLsbD_ushiftRight]
  by_cases h1 : b < 8
  · simp [h1]
  by_cases h2 : b - 8 < 8
  · rw [if_neg h1, if_pos h2, decide_eq_true h2, Bool.true_and]
    congr 1; omega
  by_cases h3 : b - 8 - 8 < 8
  · rw [if_neg h1, if_neg h2, if_pos h3, decide_eq_true h3, Bool.true_and]
    congr 1; omega
  · rw [if_neg h1, if_neg h2, if_neg h3, decide_eq_true h4, Bool.true_and]
    congr 1; omega

/-- A vat write changes the four bytes of its word. -/
theorem State.vatWrite_reads (s : State) (b : Nat) (w : Word) : mreadWord (s.vatWrite b w).sw.vat b = w ∧
    (∀ a, a < b ∨ b + 4 ≤ a → mread (s.vatWrite b w).sw.vat a = mread s.sw.vat a) ∧ (s.vatWrite b w).regs = s.regs := by
  have hbyte : ∀ k (hk : k < (wordBytes w).length), mread (s.vatWrite b w).sw.vat (b + k) = (wordBytes w)[k] :=
    mread_mwrites_self (wordBytes w) s.sw.vat b
  refine ⟨?_, fun a ha => ?_, rfl⟩
  · unfold mreadWord
    rw [show mread (s.vatWrite b w).sw.vat b = _ from hbyte 0 (by simp [wordBytes]), hbyte 1 (by simp [wordBytes]),
      hbyte 2 (by simp [wordBytes]), hbyte 3 (by simp [wordBytes])]
    exact word4_wordBytes w
  · rcases ha with ha | ha
    · exact mread_mwrites_of_lt (wordBytes w) s.sw.vat ha
    · exact mread_mwrites_of_ge (wordBytes w) s.sw.vat ha

/-! ### The statement -/

/-- What a read of each kind of place answers and meets. -/
theorem State.readPlace_cases (s : State) (p : Bool) (g : Reg) (i j l b o : Nat) :
    (g ≠ .swcFwdAct → g ≠ .swcFwdShd → s.readPlace p (.reg g i j) = some (s.readReg p g i j) ∧ s.readMet (.reg g i j) = s) ∧
    (∀ k, (g = .swcFwdAct ∧ k = i) ∨ (g = .swcFwdShd ∧ k = 256 + i) → s.readMet (.reg g i j) = s.fwdRead k ∧
      s.readPlace p (.reg g i j) = (if s.fwdLost k = true then none else some (s.readReg p g i j)) ∧
      (s.fwdLost k = true ↔ k ∈ s.sw.fwdBad ∨ 2 < tget 0 s.sw.fwdErr k)) ∧
    s.readPlace p (.bank l g i) = some (s.bankRead l) ∧ s.readMet (.bank l g i) = s ∧
    s.readPlace p (.empty o) = some 0 ∧ s.readMet (.empty o) = s ∧
    s.readPlace p (.vat b) = (if b / 32 ∈ s.sw.ueWords then none else some (mreadWord s.sw.vat b)) ∧
    (b / 32 ∈ s.sw.ueWords → s.readMet (.vat b) = s.ueMet (b / 32)) ∧
    (b / 32 ∉ s.sw.ueWords → tfind s.sw.ceWords (b / 32) = none → s.readMet (.vat b) = s) := by
  refine ⟨s.readPlace_reg_of_ne p i j, fun k hk => ?_, rfl, rfl, rfl, rfl, s.readPlace_vat p b,
    fun hue => State.readMet_vat_lost (List.contains_iff_mem.2 hue), State.readMet_vat_sound⟩
  obtain ⟨hmet, hread⟩ := s.readPlace_fwd p j hk
  exact ⟨hmet, hread, s.fwdLost_iff k⟩

/-- Settles O55, row by row from step 8. -/
theorem accessCommands : Obligations.AccessCommands := by
  rintro s u c0 c t r f hc rfl
  refine ⟨fun h => ⟨?_, ?_⟩, fun h => ⟨?_, ?_⟩, fun op i hi h => ⟨?_, fun w hpay => ⟨?_, ?_, ?_, ?_⟩⟩,
    fun h => ⟨?_, fun m v hpay => ⟨?_, ?_⟩, ?_⟩, fun h => ⟨?_, ?_, ?_⟩, u.readPlace_cases, u.vatWrite_reads⟩
  · exact fun p hp hw => h.read_place hc hp hw
  · exact fun w o hp => h.read_window hc hp
  · exact h.readBlock_bad_count hc
  · exact fun n ps ws hn hps hws hout hk => h.readBlock_words hc hn hps hws hout hk
  · exact h.write_bad_length hc hi
  · exact fun g j k hp => h.write_reg hc hi hpay hp
  · exact fun o hp => h.write_empty hc hi hpay hp
  · exact fun b hp => h.write_vat hc hi hpay hp
  · exact fun n o hp hm he ho hr => h.write_window hc hi hpay hp hm he ho hr
  · exact h.modify_bad_length hc
  · exact fun b hp => h.modify_vat_or_window hc hpay hp (Or.inl ⟨b, rfl⟩)
  · exact fun w o hp => h.modify_vat_or_window hc hpay hp (Or.inr ⟨w, o, rfl⟩)
  · exact fun m v g i j z hpay hp hz => h.modify_reg hc hpay hp hz
  · exact h.writeBlock_empty hc
  · exact fun b hl hp => h.writeBlock_vat hc hl hp
  · exact fun w0 w1 g i j g' i' j' u1 hpay hp hp' hg hg' hst hu1 => h.writeBlock_two hc hpay hp hp' hg hg' hst hu1

end Sys2Proof.Machine
end

section
/-!
The checks of R46 on a COMMAND at its target: which check decides and what it leaves, the reply to a command, and its entry in the
retry cache.
-/
namespace Sys2Proof.Machine

/-! ### From the row to step 1 -/

/-- The rows with an opcode are those that serve a COMMAND. -/
theorem exec_of_hostCommand {i : Instr} {op : BitVec 8} {c0 : Cmd} {x : KeyExchange} (h : hostCommand i = some (op, c0, x))
    (s : State) : exec i s = .next (s.serve op c0 x).done := by
  cases i <;> cases h <;> rfl

/-- R74 has a row for the opcode of each of them. -/
theorem exists_opRow_of_hostCommand {i : Instr} {op : BitVec 8} {c0 : Cmd} {x : KeyExchange}
    (h : hostCommand i = some (op, c0, x)) : ∃ row, opRow op = some row := by
  cases i <;> cases h <;> exact ⟨_, rfl⟩

/-- A frame that the hub does not hear, that is malformed, that the ROM has taken or that is for another hub. -/
theorem State.serve_of_unheard {s : State} {op : BitVec 8} {c0 : Cmd} (x : KeyExchange)
    (h : s.hears (s.sourced c0) = false ∨ (s.sourced c0).frame.malformed = true ∨ s.romTaken (s.sourced c0) = true ∨
      s.target (s.sourced c0) = none) : s.serve op c0 x = s := by
  unfold State.serve
  simp only []
  split
  · rfl
  · next hpass =>
    obtain hhears | hform | hrom | htarget := h
    · simp [hhears] at hpass
    · simp [hform] at hpass
    · simp [hrom] at hpass
    · simp only [htarget]

/-- A frame whose opcode is not defined, and that passes step 1, fails step 2. -/
theorem State.serve_of_undefined {s : State} {op : BitVec 8} {c0 : Cmd} {t : Target} (x : KeyExchange)
    (hhears : s.hears (s.sourced c0) = true) (hform : (s.sourced c0).frame.malformed = false)
    (hrom : s.romTaken (s.sourced c0) = false) (htarget : s.target (s.sourced c0) = some t)
    (hrights : (s.romTake (s.sourced c0)).rights (s.sourced c0) t ≠ none) (hrow : opRow (s.sourced c0).frame.opcode = none) :
    s.serve op c0 x = (s.romTake (s.sourced c0)).reject (s.sourced c0) stBadOpcode := by
  obtain ⟨r, hr⟩ := Option.ne_none_iff_exists'.1 hrights
  unfold State.serve
  simp only [hhears, hform, hrow, hrom, htarget, hr, State.admit2]
  simp

/-- A frame without rights fails step 1. -/
theorem Heard.serve_of_no_rights {s v : State} {op : BitVec 8} {c0 : Cmd} {t : Target} (x : KeyExchange)
    (h : Heard s op (s.sourced c0) t v) (hr : v.rights (s.sourced c0) t = none) :
    s.serve op c0 x = v.reject (s.sourced c0) stAuthFail := by
  obtain ⟨hhears, hform, hcode, hrom, htarget, rfl⟩ := h
  unfold State.serve
  simp only [hhears, hform, hcode, hrom, htarget, hr]
  simp

/-! ### Steps 2 to 4, and the retries -/

section
variable {s v : State} {op : BitVec 8} {c : Cmd} {t : Target} {r : Rights} {row : OpRow} (x : KeyExchange)

/-- Step 2: an opcode that a broadcast may not carry (R71). -/
theorem State.admit2_of_no_broadcast (hb : broadcastOp c.frame.opcode = false) :
    v.admit2 c .broadcast r x = v.reject c stBadOpcode := by
  unfold State.admit2
  cases hrow : opRow c.frame.opcode with
  | none => simp only [hrow]
  | some row => simp [hrow, hb]

/-- Step 3: the rights do not cover the opcode. -/
theorem State.admit2_of_not_allowed (hrow : opRow c.frame.opcode = some row)
    (hcast : t = .broadcast → broadcastOp c.frame.opcode = true) (hallowed : v.allowed c t r = false) :
    v.admit2 c t r x = v.reject c stDenied := by
  unfold State.admit2
  simp only [hrow, hallowed]
  by_cases ht : t = .broadcast
  · simp [hcast ht]
  · simp [ht]

/-- A retry that passes step 3 is looked up in the cache, then among the commands in service (R67). -/
theorem Allowed.admit2_of_retry (h : Allowed s op c t r row v) (hretry : c.frame.retry = true) :
    v.admit2 c t r x = ((v.cached c.frame).map (v.resendReply c)).getD
      (if v.cmd.service.any (fun e => sameIdentity e.cmd.frame c.frame) then v
        else v.admit4 row c t (r == .maintain) x) := by
  obtain ⟨heard, -, hrow, hcast, hallowed⟩ := h
  have hb : (decide (t = .broadcast) && !broadcastOp op) = false := by simpa using hcast
  unfold State.admit2
  simp only [heard.code, hrow, hb, hallowed, hretry]
  cases v.cached c.frame <;> rfl

/-- Step 4: the mode (R74). -/
theorem State.admit4_of_not_in_mode {maint : Bool} (h : row.inMode v.mode = false) :
    v.admit4 row c t maint x = v.reject c stNotInMode := by
  unfold State.admit4
  rw [if_pos (by rw [h]; decide)]

/-- The 513th command in service (R63). -/
theorem State.admit4_of_full {maint : Bool} (h : row.inMode v.mode = true) (hfull : 512 ≤ v.cmd.service.length) :
    v.admit4 row c t maint x = v.reject c stNoCredit := by
  unfold State.admit4
  rw [if_neg (by rw [h]; decide), if_pos hfull]

/-- A command that passes step 4. -/
theorem State.admit4_of_room {maint : Bool} (h : row.inMode v.mode = true) (hroom : v.cmd.service.length < 512) :
    v.admit4 row c t maint x = v.accept c t maint x := by
  unfold State.admit4
  rw [if_neg (by rw [h]; decide), if_neg (Nat.not_le.2 hroom)]

end

/-! ### In service -/

/-- An accepted command waits in service (R68), or is executed. -/
theorem Accepted.serve {s u : State} {op : BitVec 8} {c0 : Cmd} {t : Target} {r : Rights} {x : KeyExchange}
    (h : Accepted s op (s.sourced c0) t r x u) : ∃ e, Service.Fresh e (s.sourced c0) r x ∧ s.serve op c0 x =
      if s.mustWait s.cmd.service (s.sourced c0).frame then u else u.execute e := by
  obtain ⟨⟨row, v, hallowed, hmode, hroom, rfl⟩, hretry⟩ := h
  have hheld : (v.newService (s.sourced c0) (r == .maintain) x).held = s.mustWait s.cmd.service (s.sourced c0).frame := by
    show v.mustWait v.cmd.service _ = _
    rw [hallowed.heard.state, State.romTake_mustWait, State.romTake_service]
  refine ⟨v.newService (s.sourced c0) (r == .maintain) x, ⟨rfl, rfl, rfl, rfl⟩, ?_⟩
  rw [hallowed.heard.serve x hallowed.rights, hallowed.admit2 x hretry, State.admit4_of_room x hmode hroom, ← hheld]
  rfl

section
variable {u : State} {c : Cmd} {r : Rights} {x : KeyExchange} {e : Service} (he : e.Fresh c r x)
include he

theorem State.refuse_of_fresh (st : Status) : u.refuse e st = u.turnedAway c st := by
  obtain ⟨rfl, hordered, -, -⟩ := he
  rw [State.refuse, hordered, State.turnedAway]

/-- Core B addresses another hub than its own (R354). -/
theorem State.execute_of_other_hub (hvia : c.via = .localLogic) (hnode : c.frame.dstNode ≠ u.ownNode) :
    u.execute e = u.turnedAway c stBadParam := by
  rw [← State.refuse_of_fresh he]
  unfold State.execute
  rw [he.cmd]
  exact if_pos ⟨hvia, hnode⟩

variable (hcore : c.via = .localLogic → c.frame.dstNode = u.ownNode)

omit he in
include hcore in
theorem State.not_other_hub : ¬ (c.via = .localLogic ∧ c.frame.dstNode ≠ u.ownNode) := fun h => h.2 (hcore h.1)

include hcore

/-- Steps 5 to 7 fail; step 5 counts. -/
theorem State.execute_of_refused57 {st : Status} {five : Bool} (h : u.refused57 c.frame (r == .maintain) = some (st, five)) :
    u.execute e = (if five then u.sat F.CTL_DENYCNT_BADADDR_CNT else u).turnedAway c st := by
  rw [← State.refuse_of_fresh he]
  unfold State.execute
  simp only [he.cmd, he.maint, if_neg (State.not_other_hub hcore), h]

/-- A poisoned command (R72). -/
theorem State.execute_of_poison (h : u.refused57 c.frame (r == .maintain) = none) (hpoison : c.frame.poison = true) :
    u.execute e = u.turnedAway c stPoisoned := by
  rw [← State.refuse_of_fresh he]
  unfold State.execute
  simp only [he.cmd, he.maint, if_neg (State.not_other_hub hcore), h, hpoison]
  rfl

end

/-- Step 5 fails with BAD_PARAM only. -/
theorem State.status_of_refused57_five {u : State} {f : Frame} {maint : Bool} {st : Status}
    (h : u.refused57 f maint = some (st, true)) : st = stBadParam := by
  unfold State.refused57 at h
  split at h
  · unfold State.accessRefused at h
    simp only [] at h
    split at h
    · cases h
    split at h
    · cases h; rfl
    split at h
    · cases h
    split at h
    · cases h
    split at h <;> cases h
  · split at h
    · split at h <;> cases h
    · cases h

/-! ### The reply and its cache entry -/

section
variable {s : State} {c : Cmd} (hvia : c.via ≠ .localLogic) (a : Answer)
include hvia

/-- R58 leaves the command without a reply. -/
theorem State.answer_of_silent
    (h : s.silentTo c.frame false = true ∨ (c.frame.opcode = ocWritePosted ∧ a.status = stOk)) : s.answer c false a = s := by
  have hnone : s.hasReply c false a = false := by
    obtain hs | ⟨hop, hst⟩ := h
    · simp [State.hasReply, hs, hvia]
    · simp [State.hasReply, hop, hst]
  simp [State.answer, State.reply, hnone]

/-- Any other command has its reply sent and cached. -/
theorem State.answer_of_heard (hs : s.silentTo c.frame false = false) (h : c.frame.opcode ≠ ocWritePosted ∨ a.status ≠ stOk) :
    s.answer c false a = (s.sendOwn (s.replyFrame c.frame a)).cachePut c.frame (s.replyFrame c.frame a) := by
  have hsome : s.hasReply c false a = true := by
    obtain hop | hst := h
    · simp [State.hasReply, hs, hop]
    · simp [State.hasReply, hs, hst]
  simp [State.answer, State.reply, hsome, hvia]

end

section
variable (s : State) (f g : Frame)

/-- An opcode whose replies are not cached leaves the cache alone. -/
theorem State.cachePut_of_not_cache {row : OpRow} (hrow : opRow f.opcode = some row) (h : row.retry ≠ .cache) :
    s.cachePut f g = s := by
  simp [State.cachePut, hrow, h]

/-- The entry under which the reply `g` to the command `f` is stored (R67). -/
def State.cacheEntry : CacheEntry :=
  { node := f.srcNode, port := f.srcPort, session := f.session, tag := f.tag, opcode := f.opcode
    pair := s.paired && f.dstNode == s.pairNode, reply := g, leaving := s.stillHere g, expires := s.now + 1000000000 }

/-- Does the entry stand for the command `f`? -/
def CacheEntry.keyed (f : Frame) (e : CacheEntry) : Bool :=
  e.node == f.srcNode && e.port == f.srcPort && e.session == f.session && e.tag == f.tag && e.opcode == f.opcode

/-- The entries of the retry cache that stand for other commands than `f`. -/
def State.cacheOthers : List CacheEntry := s.cmd.cache.filter (fun e => !e.keyed f)

theorem State.cached_eq_find : s.cached f = s.cmd.cache.find? (fun e => e.keyed f && (e.leaving || decide (s.now < e.expires))) :=
  rfl

/-- A reply displaces the entry of the same command, and the oldest of more than 255 others. -/
theorem State.cachePut_of_cache {row : OpRow} (hrow : opRow f.opcode = some row) (h : row.retry = .cache) :
    s.cachePut f g = { s with cmd := { s.cmd with
      cache := (s.cacheOthers f).drop ((s.cacheOthers f).length - 255) ++ [s.cacheEntry f g] } } := by
  unfold State.cachePut
  rw [if_neg (by simp [hrow, h])]
  rfl

/-- A stored reply is found under the identity of its command. -/
theorem State.cached_cachePut {row : OpRow} (hrow : opRow f.opcode = some row) (h : row.retry = .cache) :
    (s.cachePut f g).cached f = some (s.cacheEntry f g) := by
  have hothers : ∀ n, ((s.cacheOthers f).drop n).find? (fun e => e.keyed f && (e.leaving || decide (s.now < e.expires))) = none := by
    refine fun n => List.find?_eq_none.2 fun e he => ?_
    have hkey : e.keyed f = false := by simpa using (List.mem_filter.1 (List.mem_of_mem_drop he)).2
    simp [hkey]
  rw [s.cachePut_of_cache f g hrow h, State.cached_eq_find, List.find?_append, hothers]
  simp [State.cacheEntry, CacheEntry.keyed]

/-- The cache holds at most 256 entries (R67). -/
theorem State.cachePut_length_le (hlen : s.cmd.cache.length ≤ 256) : (s.cachePut f g).cmd.cache.length ≤ 256 := by
  unfold State.cachePut
  split
  · exact hlen
  · simp only [List.length_append, List.length_drop, List.length_singleton]
    omega

end

/-- The header of a reply, and its payload (R57). -/
theorem State.replyFrame_fields (s : State) (f : Frame) (a : Answer) :
    (s.replyFrame f a).ftype = ftReply ∧ (s.replyFrame f a).dstNode = f.srcNode ∧
    (s.replyFrame f a).dstPort = f.srcPort ∧ (s.replyFrame f a).srcNode = f.dstNode ∧ (s.replyFrame f a).srcPort = 0xFF ∧
    (s.replyFrame f a).cls = f.cls ∧ (s.replyFrame f a).dual = f.dual ∧ (s.replyFrame f a).session = f.session ∧
    (s.replyFrame f a).opcode = f.opcode ∧ (s.replyFrame f a).tag = f.tag ∧ (s.replyFrame f a).retry = false ∧
    (s.replyFrame f a).status = a.status ∧ (s.replyFrame f a).w6 = a.w6.getD f.w6 ∧ (s.replyFrame f a).w7 = f.w7 ∧
    (s.replyFrame f a).payload = a.payload ∧ (s.replyFrame f a).lenW = BitVec.ofNat 9 a.payload.length ∧
    (s.replyFrame f a).time = BitVec.ofNat 32 s.ringNs := by
  and_intros <;> rfl

/-! ### The source of a host's frame -/

/-- A frame of the PCIe host carries this hub's node and port 5 as its source (R24). -/
theorem State.sourced_pcie (s : State) {c0 : Cmd} (h : c0.via = .pcie) :
    (s.sourced c0).frame.srcNode = s.ownNode ∧ (s.sourced c0).frame.srcPort = 5 := by
  simp [State.sourced, h]

/-- A frame of a commissioning host carries this hub's node and the port of its MAC as its source (R24). -/
theorem State.sourced_comm (s : State) {c0 : Cmd} {m : Fin 4} (h : c0.via = .comm m) :
    (s.sourced c0).frame.srcNode = s.ownNode ∧ (s.sourced c0).frame.srcPort = BitVec.ofNat 8 (6 + m.val) := by
  simp [State.sourced, h]

/-! ### The statement -/

/-- Steps 1 to 3, for a frame of a defined opcode that is heard. -/
theorem Heard.exec_refused {s v : State} {i : Instr} {op : BitVec 8} {c0 : Cmd} {x : KeyExchange} {t : Target}
    (hi : hostCommand i = some (op, c0, x)) (h : Heard s op (s.sourced c0) t v) :
    (v.rights (s.sourced c0) t = none → exec i s = .next (v.reject (s.sourced c0) stAuthFail).done) ∧
    (v.rights (s.sourced c0) t ≠ none → t = .broadcast → broadcastOp op = false →
      exec i s = .next (v.reject (s.sourced c0) stBadOpcode).done) ∧
    (∀ r, v.rights (s.sourced c0) t = some r → (t = .broadcast → broadcastOp op = true) → v.allowed (s.sourced c0) t r = false →
      exec i s = .next (v.reject (s.sourced c0) stDenied).done) := by
  obtain ⟨row, hrow⟩ := exists_opRow_of_hostCommand hi
  rw [exec_of_hostCommand hi]
  refine ⟨fun hr => ?_, fun hr ht hb => ?_, fun r hr hcast hallowed => ?_⟩
  · rw [h.serve_of_no_rights x hr]
  · obtain ⟨r, hr⟩ := Option.ne_none_iff_exists'.1 hr
    subst ht
    rw [h.serve x hr, State.admit2_of_no_broadcast x (by rw [h.code, hb])]
  · rw [h.serve x hr, State.admit2_of_not_allowed x (h.code.symm ▸ hrow) (h.code.symm ▸ hcast) hallowed]

/-- Retries, step 4 and the number of commands in service. -/
theorem Allowed.exec_cases {s v : State} {i : Instr} {op : BitVec 8} {c0 : Cmd} {x : KeyExchange} {t : Target} {r : Rights}
    {row : OpRow} (hi : hostCommand i = some (op, c0, x)) (h : Allowed s op (s.sourced c0) t r row v) :
    (∀ e, (s.sourced c0).frame.retry = true → v.cached (s.sourced c0).frame = some e →
      exec i s = .next (v.resendReply (s.sourced c0) e).done) ∧
    ((s.sourced c0).frame.retry = true → v.cached (s.sourced c0).frame = none →
      v.cmd.service.any (fun e => sameIdentity e.cmd.frame (s.sourced c0).frame) = true → exec i s = .next v.done) ∧
    ((s.sourced c0).frame.retry = false →
      (row.inMode v.mode = false → exec i s = .next (v.reject (s.sourced c0) stNotInMode).done) ∧
      (row.inMode v.mode = true → 512 ≤ v.cmd.service.length → exec i s = .next (v.reject (s.sourced c0) stNoCredit).done)) := by
  rw [exec_of_hostCommand hi, h.heard.serve x h.rights]
  refine ⟨fun e hretry hcached => ?_, fun hretry hcached hsame => ?_, fun hretry => ⟨fun hmode => ?_, fun hmode hfull => ?_⟩⟩
  · rw [h.admit2_of_retry x hretry, hcached]
    rfl
  · rw [h.admit2_of_retry x hretry, hcached, hsame]
    rfl
  · rw [h.admit2 x hretry, State.admit4_of_not_in_mode x hmode]
  · rw [h.admit2 x hretry, State.admit4_of_full x hmode hfull]

/-- Steps 5 to 7 and poison, for a command in service that does not wait. -/
theorem Begun.exec_refused {s u : State} {i : Instr} {op : BitVec 8} {c0 : Cmd} {x : KeyExchange} {t : Target} {r : Rights}
    (hi : hostCommand i = some (op, c0, x)) (h : Begun s op (s.sourced c0) t r x u) :
    ((s.sourced c0).via = .localLogic → (s.sourced c0).frame.dstNode ≠ u.ownNode →
      exec i s = .next (u.turnedAway (s.sourced c0) stBadParam).done) ∧
    (((s.sourced c0).via = .localLogic → (s.sourced c0).frame.dstNode = u.ownNode) →
      (∀ st, u.refused57 (s.sourced c0).frame (r == .maintain) = some (st, false) →
        exec i s = .next (u.turnedAway (s.sourced c0) st).done) ∧
      (∀ st, u.refused57 (s.sourced c0).frame (r == .maintain) = some (st, true) → st = stBadParam ∧
        exec i s = .next ((u.sat F.CTL_DENYCNT_BADADDR_CNT).turnedAway (s.sourced c0) st).done) ∧
      (u.refused57 (s.sourced c0).frame (r == .maintain) = none → (s.sourced c0).frame.poison = true →
        exec i s = .next (u.turnedAway (s.sourced c0) stPoisoned).done)) := by
  obtain ⟨e, he, hserve⟩ := h.accepted.serve
  rw [exec_of_hostCommand hi, hserve, h.free, if_neg Bool.false_ne_true]
  refine ⟨fun hvia hnode => ?_, fun hcore => ⟨fun st h57 => ?_, fun st h57 => ⟨State.status_of_refused57_five h57, ?_⟩,
    fun h57 hpoison => ?_⟩⟩
  · rw [State.execute_of_other_hub he hvia hnode]
  · rw [State.execute_of_refused57 he hcore h57, if_neg Bool.false_ne_true]
  · rw [State.execute_of_refused57 he hcore h57, if_pos rfl]
  · rw [State.execute_of_poison he hcore h57 hpoison]

/-- Settles O54, check by check in the order of R46. -/
theorem commandChecks : Obligations.CommandChecks := by
  rintro s v u i op c0 c x hi rfl
  have hexec := exec_of_hostCommand hi s
  refine ⟨fun h => ?_, fun t hhears hform hrom htarget hv hr hrow => ?_, fun t h => h.exec_refused hi,
    fun t r row h => h.exec_cases hi, fun t r h hwait => ?_, fun t r h => h.exec_refused hi, s.replyFrame_fields,
    fun a hvia => ⟨State.answer_of_silent hvia a, State.answer_of_heard hvia a⟩, fun h => s.sourced_pcie h,
    fun m h => s.sourced_comm h, fun f g => ⟨?_, ?_, s.cachePut_length_le f g⟩⟩
  · rw [hexec, State.serve_of_unheard x h]
  · subst hv
    rw [hexec, State.serve_of_undefined x hhears hform hrom htarget hr hrow]
  · obtain ⟨e, -, hserve⟩ := h.serve
    rw [hexec, hserve, if_pos hwait]
  · exact fun ⟨row, hrow, h⟩ => s.cached_cachePut f g hrow h
  · exact fun ⟨row, hrow, h⟩ => s.cachePut_of_not_cache f g hrow h

end Sys2Proof.Machine
end

section
/-!
A part of the state that the ends of a step leave as it is: whether the PIN reset is held (R407), a change of profile
(R420), the mode, the islands in reset (R389), a handover (R343), the sessions (R42), and which of two kinds of timer was
started last. One lemma per operation.
-/
namespace Sys2Proof.Machine

/-- The timers whose order tells which came first: a new order to be acknowledged (R337), or the end of a spent session (R42). -/
def Timer.marks : Timer → Bool
  | .ack => true
  | .sessSpent _ => true
  | _ => false

@[simp] theorem Timer.marks_alive : Timer.alive.marks = false := by unfold marks; rfl
@[simp] theorem Timer.marks_pulse : Timer.pulse.marks = false := by unfold marks; rfl
@[simp] theorem Timer.marks_grace (src : Nat) : (Timer.grace src).marks = false := by unfold marks; rfl
@[simp] theorem Timer.marks_intMod (q : Nat) : (Timer.intMod q).marks = false := by unfold marks; rfl
@[simp] theorem Timer.marks_window (w : Nat) : (Timer.window w).marks = false := by unfold marks; rfl

/-- Which of the two was started last. -/
def lastMark (l : List (Timer × Nat)) : Option Timer := (l.find? (·.1.marks)).map (·.1)

/-- The parts of the state that are followed: see `State.watch`. -/
abbrev Watched := Bool × Option (Nat × Nat × Mode) × Mode × BitVec 21 × Option (Option Cmd) × List Session × Option Timer

/-- The followed parts of a state. -/
def State.watch (s : State) : Watched :=
  (s.boot.held, s.boot.switch, s.mode, s.isl.rst, s.pair.handover, s.cmd.sessions, lastMark s.timers)

/-! `watch` is opaque to `simp`: it is folded and taken apart by these lemmas alone, which keeps the terms small. -/

@[simp] theorem watch_fold (s : State) :
    (s.boot.held, s.boot.switch, s.mode, s.isl.rst, s.pair.handover, s.cmd.sessions, lastMark s.timers) = s.watch := by
  unfold State.watch; exact Eq.refl _
@[simp] theorem watch_mk (now freeIx pending regs timers mode ringAcc mgt flt isl boot profiles pair cmd upd sec ingress sent sw lanes time sched snap ports clus engs wins cans macs hbr pchs wire bypHold) :
    (State.mk now freeIx pending regs timers mode ringAcc mgt flt isl boot profiles pair cmd upd sec ingress sent sw lanes time sched snap ports clus engs wins cans macs hbr pchs wire bypHold).watch =
      (boot.held, boot.switch, mode, isl.rst, pair.handover, cmd.sessions, lastMark timers) := by
  unfold State.watch; exact Eq.refl _

theorem lastMark_filter {p : Timer × Nat → Bool} (l : List (Timer × Nat)) (h : ∀ e, e.1.marks = true → p e = true) :
    lastMark (l.filter p) = lastMark l := by
  unfold lastMark
  rw [List.find?_filter]
  congr 2
  funext e
  cases hm : e.1.marks <;> simp
  exact h e hm

@[simp] theorem lastMark_disarm (l : List (Timer × Nat)) {t : Timer} (h : t.marks = false) :
    lastMark (l.filter (fun e => e.1 != t)) = lastMark l :=
  lastMark_filter l fun e he => by
    have hne : e.1 ≠ t := fun ht => by rw [ht, h] at he; cases he
    simp [hne]

@[simp] theorem lastMark_cons (l : List (Timer × Nat)) {t : Timer} (d : Nat) (h : t.marks = false) :
    lastMark ((t, d) :: l) = lastMark l := by
  simp [lastMark, h]

@[simp] theorem State.arm_watch (s : State) {t : Timer} (d : Nat) (h : t.marks = false) : (s.arm t d).watch = s.watch := by
  simp [State.arm, h]
@[simp] theorem State.disarm_watch (s : State) {t : Timer} (h : t.marks = false) : (s.disarm t).watch = s.watch := by
  simp [State.disarm, h]

/-! ### State -/

@[simp] theorem foldl_watch {α : Type} (f : State → α → State) (h : ∀ s a, (f s a).watch = s.watch) (l : List α)
    (s : State) : (l.foldl f s).watch = s.watch := by
  induction l generalizing s with
  | nil => rfl
  | cons a l ih => simp [ih, h]

/-! ### Ops -/

@[simp] theorem State.wr_watch (s : State) (r : Reg) (i : Nat) (j : Nat) (w : Word) :
    (State.wr s r i j w).watch = s.watch := by
  simp [State.wr]
@[simp] theorem State.put_watch (s : State) (f : Fld) (v : Nat) (i : Nat) (j : Nat) :
    (State.put s f v i j).watch = s.watch := by
  simp [State.put]
@[simp] theorem State.bump_watch (s : State) (r : Reg) (i : Nat) (j : Nat) (n : Nat) :
    (State.bump s r i j n).watch = s.watch := by
  simp [State.bump]
@[simp] theorem State.sat_watch (s : State) (f : Fld) (i : Nat) (j : Nat) : (State.sat s f i j).watch = s.watch := by
  simp [State.sat, apply_ite State.watch]

@[simp] theorem State.fresh_watch (s : State) : ((State.fresh s).2).watch = s.watch := by
  simp [State.fresh]
theorem State.fresh_watch_of (s : State) {sx : Word} {qx : State} (h : State.fresh s = (sx, qx)) : qx.watch = s.watch := by
  have e := State.fresh_watch s
  rw [h] at e
  exact e
@[simp] theorem State.freshWords_watch (x0 : Nat) (x1 : State) : ((State.freshWords x0 x1).2).watch = x1.watch := by
  induction x0 generalizing x1 <;> simp_all [State.freshWords]
theorem State.freshWords_watch_of (x0 : Nat) (x1 : State) {sx : List Word} {qx : State} (h : State.freshWords x0 x1 = (sx, qx)) : qx.watch = x1.watch := by
  have e := State.freshWords_watch x0 x1
  rw [h] at e
  exact e
@[simp] theorem State.freeIn_watch (s : State) (lo : Nat) (hi : Nat) : ((State.freeIn s lo hi).2).watch = s.watch := by
  simp [State.freeIn]
@[simp] theorem State.enqueue_watch (s : State) (x : UnitIn) : (State.enqueue s x).watch = s.watch := by
  simp [State.enqueue]
@[simp] theorem State.emit_watch (s : State) (f : Frame) (inPort : Nat) (slot : (Option Nat)) :
    (State.emit s f inPort slot).watch = s.watch := by
  simp [State.emit]
@[simp] theorem State.emitOut_watch (s : State) (f : Frame) (inPort : Nat) :
    (State.emitOut s f inPort).watch = s.watch := by
  simp [State.emitOut, apply_ite State.watch]
@[simp] theorem State.mirrorOne_watch (s : State) : (State.mirrorOne s).watch = s.watch := by
  unfold State.mirrorOne; split <;> simp [apply_ite State.watch]
@[simp] theorem State.log_watch (s : State) (audit : Bool) (cls : Nat) (origin : Nat) (source : Nat) (code : Nat) (who : Who) (data : List Word) :
    (State.log s audit cls origin source code who data).watch = s.watch := by
  simp [State.log, apply_ite State.watch]

/-! ### Flags -/

@[simp] theorem State.updateAlive_watch (s : State) : (State.updateAlive s).watch = s.watch := by
  have hdis (fl : FltS) : ({ s.disarm .alive with flt := fl } : State).watch = s.watch :=
    (by unfold State.watch; exact Eq.refl _ : _ = (s.disarm .alive).watch).trans (s.disarm_watch Timer.marks_alive)
  unfold State.updateAlive
  split
  · split <;> simp
  · exact hdis _
@[simp] theorem State.faultPulse_watch (s : State) : (State.faultPulse s).watch = s.watch := by
  unfold State.faultPulse; dsimp only; split; rfl; split <;> simp [apply_ite State.watch]
@[simp] theorem State.faultEvent_watch (s : State) (kind : Nat) (src : Nat) (reaction : Nat) :
    (State.faultEvent s kind src reaction).watch = s.watch := by
  simp [State.faultEvent, apply_ite State.watch]
@[simp] theorem State.raiseEvent_watch (s : State) (src : Nat) : (State.raiseEvent s src).watch = s.watch := by
  simp [State.raiseEvent, apply_ite State.watch]
@[simp] theorem State.faultRecord_watch (s : State) (src : Nat) (raised : Bool) :
    (State.faultRecord s src raised).watch = s.watch := by
  simp [State.faultRecord, apply_ite State.watch]
@[simp] theorem State.raiseCore_watch (s : State) (src : Nat) (inst : Nat) :
    (State.raiseCore s src inst).watch = s.watch := by
  simp [State.raiseCore, apply_ite State.watch]
@[simp] theorem State.raise_watch (s : State) (src : Nat) (inst : Nat) : (State.raise s src inst).watch = s.watch := by
  simp [State.raise, apply_ite State.watch]

/-! ### SwitchOps -/

@[simp] theorem State.transmit_watch (s : State) (p : Nat) (f : Frame) (rind : Word) :
    (State.transmit s p f rind).watch = s.watch := by
  simp [State.transmit, apply_ite State.watch]

/-! ### RouteOps -/

@[simp] theorem State.takeSeq_watch (s : State) (f : Frame) : ((State.takeSeq s f).2).watch = s.watch := by
  simp [State.takeSeq]
theorem State.takeSeq_watch_of (s : State) (f : Frame) {sx : Frame} {qx : State} (h : State.takeSeq s f = (sx, qx)) : qx.watch = s.watch := by
  have e := State.takeSeq_watch s f
  rw [h] at e
  exact e

/-! ### ClusterOps -/

@[simp] theorem State.setClu_watch (s : State) (k : Nat) (x : CluS) : (State.setClu s k x).watch = s.watch := by
  simp [State.setClu]
@[simp] theorem State.setEng_watch (s : State) (n : Nat) (x : EngS) : (State.setEng s n x).watch = s.watch := by
  simp [State.setEng]
@[simp] theorem State.settleAt_watch (s : State) (k : Nat) (t : Nat) : (State.settleAt s k t).watch = s.watch := by
  simp [State.settleAt, apply_ite State.watch]
@[simp] theorem State.flowPins_watch (s : State) (k : Nat) : (State.flowPins s k).watch = s.watch := by
  simp [State.flowPins, apply_ite State.watch]
@[simp] theorem State.fillTxq_watch (s : State) (n : Nat) : (State.fillTxq s n).watch = s.watch := by
  simp [State.fillTxq]

/-! ### BridgeOps -/

@[simp] theorem State.setHbr_watch (s : State) (h : HbrS) : (State.setHbr s h).watch = s.watch := by
  simp [State.setHbr]
@[simp] theorem State.hostOut_watch (s : State) (o : HostOut) : (State.hostOut s o).watch = s.watch := by
  simp [State.hostOut]
@[simp] theorem State.msi_watch (s : State) (v : Nat) : (State.msi s v).watch = s.watch := by
  simp [State.msi, apply_ite State.watch]
@[simp] theorem State.txBack_watch (s : State) (st : Status) (seq : BitVec 16) :
    (State.txBack s st seq).watch = s.watch := by
  unfold State.txBack; split <;> simp [apply_ite State.watch]
@[simp] theorem State.txPump_watch (x0 : Nat) (x1 : State) : (State.txPump x0 x1).watch = x1.watch := by
  (induction x0 generalizing x1) <;> (unfold State.txPump; grind [watch_mk, watch_fold, → State.fresh_watch_of, State.txBack_watch, State.enqueue_watch, State.setHbr_watch])
@[simp] theorem State.rxVector_watch (s : State) (q : Nat) : (State.rxVector s q).watch = s.watch := by
  simp [State.rxVector, apply_ite State.watch]
@[simp] theorem State.rxWrite_watch (s : State) (q : Nat) (v : VUnit) (loupe : Bool) :
    (State.rxWrite s q v loupe).watch = s.watch := by
  unfold State.rxWrite; grind [watch_mk, watch_fold, → State.freshWords_watch_of, State.setHbr_watch, State.hostOut_watch, State.rxVector_watch, State.bump_watch, State.put_watch]

/-! ### ReactOps -/

@[simp] theorem State.reactionRecord_watch (s : State) (src : Nat) (r : Nat) :
    (State.reactionRecord s src r).watch = s.watch := by
  simp [State.reactionRecord]
@[simp] theorem State.reactedOnly_watch (s : State) (src : Nat) (counted : Bool) :
    (State.reactedOnly s src counted).watch = s.watch := by
  simp [State.reactedOnly, apply_ite State.watch]
@[simp] theorem State.reactTaken_watch (s : State) (srcs : List Nat) (r : Nat) :
    (State.reactTaken s srcs r).watch = s.watch := by
  unfold State.reactTaken; split <;> simp [apply_ite State.watch]
@[simp] theorem State.holdReaction_watch (s : State) (srcs : List Nat) :
    (State.holdReaction s srcs).watch = s.watch := by
  simp [State.holdReaction]

/-! ### CmdOps -/

@[simp] theorem State.auditRefusal_watch (s : State) (denied : Bool) (f : Frame) (st : Status) (data : List Word) :
    (State.auditRefusal s denied f st data).watch = s.watch := by
  unfold State.auditRefusal; grind [watch_mk, watch_fold, State.log_watch]
@[simp] theorem State.noteAuthFail_watch (s : State) (f : Frame) : (State.noteAuthFail s f).watch = s.watch := by
  simp [State.noteAuthFail, apply_ite State.watch]
@[simp] theorem State.noteRefusal_watch (s : State) (f : Frame) (st : Status) (step5 : Bool) :
    (State.noteRefusal s f st step5).watch = s.watch := by
  simp [State.noteRefusal, apply_ite State.watch]
@[simp] theorem State.auditCmd_watch (s : State) (f : Frame) (st : Status) :
    (State.auditCmd s f st).watch = s.watch := by
  unfold State.auditCmd; split <;> simp
@[simp] theorem State.cachePut_watch (s : State) (f : Frame) (reply : Frame) :
    (State.cachePut s f reply).watch = s.watch := by
  simp [State.cachePut, apply_ite State.watch]
@[simp] theorem State.unserve_watch (s : State) (c : Cmd) : (State.unserve s c).watch = s.watch := by
  simp [State.unserve]
@[simp] theorem State.putSlot_watch (s : State) (ring : Nat) (tail : Nat) (f : Frame) :
    (State.putSlot s ring tail f).watch = s.watch := by
  simp [State.putSlot]
@[simp] theorem State.respond_watch (s : State) (f : Frame) : (State.respond s f).watch = s.watch := by
  simp [State.respond]
@[simp] theorem State.release_watch (s : State) (c : Cmd) (r : Option Frame) :
    (State.release s c r).watch = s.watch := by
  simp [State.release, apply_ite State.watch]

/-! ### WindowOps -/

@[simp] theorem State.setWin_watch (s : State) (w : Nat) (x : WinS) : (State.setWin s w x).watch = s.watch := by
  simp [State.setWin]
@[simp] theorem State.sendBehind_watch (s : State) (n : Nat) (item : List QWord) :
    (State.sendBehind s n item).watch = s.watch := by
  unfold State.sendBehind; grind [watch_mk, watch_fold, State.fillTxq_watch, State.setEng_watch]
@[simp] theorem State.winEnter_watch (s : State) (w : Nat) (r : WinReq) : (State.winEnter s w r).watch = s.watch := by
  simp [State.winEnter]
@[simp] theorem State.winTimer_watch (s : State) (w : Nat) : (State.winTimer s w).watch = s.watch := by
  unfold State.winTimer; dsimp only; split <;> simp

end Sys2Proof.Machine
end

section
/-!
No command touches the hold of a PIN reset (R407): one lemma per operation that the execution of a command may come to.
-/
namespace Sys2Proof.Machine

/-- Is RESET_N held low, or a core rail out of range (R407, R467)? -/
def State.isHeld (s : State) : Bool := s.boot.held

theorem isHeld_of_boot (s : State) : s.boot.held = s.isHeld := by
  unfold State.isHeld; exact Eq.refl _
@[simp] theorem isHeld_mk (now freeIx pending regs timers mode ringAcc mgt flt isl boot profiles pair cmd upd sec ingress sent sw lanes time sched snap ports clus engs wins cans macs hbr pchs wire bypHold) :
    (State.mk now freeIx pending regs timers mode ringAcc mgt flt isl boot profiles pair cmd upd sec ingress sent sw lanes time sched snap ports clus engs wins cans macs hbr pchs wire bypHold).isHeld = boot.held := by
  unfold State.isHeld; exact Eq.refl _

/-! ### State -/

@[simp] theorem foldl_isHeld {α : Type} (f : State → α → State) (h : ∀ s a, (f s a).isHeld = s.isHeld) (l : List α)
    (s : State) : (l.foldl f s).isHeld = s.isHeld := by
  induction l generalizing s with
  | nil => rfl
  | cons a l ih => simp [ih, h]
@[simp] theorem foldl_isHeld_fst {α β : Type} (f : State × β → α → State × β) (h : ∀ p a, (f p a).1.isHeld = p.1.isHeld)
    (l : List α) (p : State × β) : (l.foldl f p).1.isHeld = p.1.isHeld := by
  induction l generalizing p with
  | nil => rfl
  | cons a l ih => simp [ih, h]

/-! ### Ops -/

@[simp] theorem State.wr_isHeld (s : State) (r : Reg) (i : Nat) (j : Nat) (w : Word) :
    (State.wr s r i j w).isHeld = s.isHeld := by
  simp [↓isHeld_of_boot, State.wr]
@[simp] theorem State.put_isHeld (s : State) (f : Fld) (v : Nat) (i : Nat) (j : Nat) :
    (State.put s f v i j).isHeld = s.isHeld := by
  simp [State.put]
@[simp] theorem State.bump_isHeld (s : State) (r : Reg) (i : Nat) (j : Nat) (n : Nat) :
    (State.bump s r i j n).isHeld = s.isHeld := by
  simp [State.bump]
@[simp] theorem State.sat_isHeld (s : State) (f : Fld) (i : Nat) (j : Nat) : (State.sat s f i j).isHeld = s.isHeld := by
  simp [State.sat, apply_ite State.isHeld]
@[simp] theorem State.timClocks_isHeld (s : State) (n : Nat) : (State.timClocks s n).isHeld = s.isHeld := by
  simp [↓isHeld_of_boot, State.timClocks, apply_ite State.isHeld]
@[simp] theorem State.advance_isHeld (s : State) (dt : Nat) : (State.advance s dt).isHeld = s.isHeld := by
  simp [↓isHeld_of_boot, State.advance]
@[simp] theorem State.disarm_isHeld (s : State) (t : Timer) : (State.disarm s t).isHeld = s.isHeld := by
  simp [↓isHeld_of_boot, State.disarm]
@[simp] theorem State.arm_isHeld (s : State) (t : Timer) (d : Nat) : (State.arm s t d).isHeld = s.isHeld := by
  simp [↓isHeld_of_boot, State.arm]
theorem State.expire_isHeld (s : State) (t : Timer) : ∀ tx, State.expire s t = some tx → tx.isHeld = s.isHeld := by
  unfold State.expire; split <;> simp
theorem State.expire_isHeld_of (s : State) (t : Timer) {tx : State} (h : State.expire s t = some tx) : tx.isHeld = s.isHeld :=
  State.expire_isHeld s t tx h
@[simp] theorem State.disarmAll_isHeld (s : State) (p : Timer → Bool) : (State.disarmAll s p).isHeld = s.isHeld := by
  simp [↓isHeld_of_boot, State.disarmAll]
@[simp] theorem State.fresh_isHeld (s : State) : ((State.fresh s).2).isHeld = s.isHeld := by
  simp [↓isHeld_of_boot, State.fresh]
theorem State.fresh_isHeld_of (s : State) {sx : Word} {qx : State} (h : State.fresh s = (sx, qx)) : qx.isHeld = s.isHeld := by
  have e := State.fresh_isHeld s
  rw [h] at e
  exact e
@[simp] theorem State.freshWords_isHeld (x0 : Nat) (x1 : State) : ((State.freshWords x0 x1).2).isHeld = x1.isHeld := by
  induction x0 generalizing x1 <;> simp_all [State.freshWords]
theorem State.freshWords_isHeld_of (x0 : Nat) (x1 : State) {sx : List Word} {qx : State} (h : State.freshWords x0 x1 = (sx, qx)) : qx.isHeld = x1.isHeld := by
  have e := State.freshWords_isHeld x0 x1
  rw [h] at e
  exact e
@[simp] theorem State.freeIn_isHeld (s : State) (lo : Nat) (hi : Nat) : ((State.freeIn s lo hi).2).isHeld = s.isHeld := by
  simp [↓isHeld_of_boot, State.freeIn]
theorem State.freeIn_isHeld_of (s : State) (lo : Nat) (hi : Nat) {sx : Nat} {qx : State} (h : State.freeIn s lo hi = (sx, qx)) : qx.isHeld = s.isHeld := by
  have e := State.freeIn_isHeld s lo hi
  rw [h] at e
  exact e
@[simp] theorem State.enqueue_isHeld (s : State) (x : UnitIn) : (State.enqueue s x).isHeld = s.isHeld := by
  simp [↓isHeld_of_boot, State.enqueue]
@[simp] theorem State.emit_isHeld (s : State) (f : Frame) (inPort : Nat) (slot : (Option Nat)) :
    (State.emit s f inPort slot).isHeld = s.isHeld := by
  simp [State.emit]
@[simp] theorem State.emitOut_isHeld (s : State) (f : Frame) (inPort : Nat) :
    (State.emitOut s f inPort).isHeld = s.isHeld := by
  simp [↓isHeld_of_boot, State.emitOut, apply_ite State.isHeld]
@[simp] theorem State.mirrorOne_isHeld (s : State) : (State.mirrorOne s).isHeld = s.isHeld := by
  unfold State.mirrorOne; split <;> simp [↓isHeld_of_boot, apply_ite State.isHeld]
@[simp] theorem State.log_isHeld (s : State) (audit : Bool) (cls : Nat) (origin : Nat) (source : Nat) (code : Nat) (who : Who) (data : List Word) :
    (State.log s audit cls origin source code who data).isHeld = s.isHeld := by
  simp [↓isHeld_of_boot, State.log, apply_ite State.isHeld]

/-! ### Flags -/

@[simp] theorem State.updateAlive_isHeld (s : State) : (State.updateAlive s).isHeld = s.isHeld := by
  simp [↓isHeld_of_boot, State.updateAlive, apply_ite State.isHeld]
@[simp] theorem State.faultPulse_isHeld (s : State) : (State.faultPulse s).isHeld = s.isHeld := by
  unfold State.faultPulse; grind [isHeld_mk, isHeld_of_boot, → State.freeIn_isHeld_of, State.arm_isHeld, State.bump_isHeld]
@[simp] theorem State.faultEvent_isHeld (s : State) (kind : Nat) (src : Nat) (reaction : Nat) :
    (State.faultEvent s kind src reaction).isHeld = s.isHeld := by
  simp [↓isHeld_of_boot, State.faultEvent, apply_ite State.isHeld]
@[simp] theorem State.raiseEvent_isHeld (s : State) (src : Nat) : (State.raiseEvent s src).isHeld = s.isHeld := by
  simp [↓isHeld_of_boot, State.raiseEvent, apply_ite State.isHeld]
@[simp] theorem State.faultRecord_isHeld (s : State) (src : Nat) (raised : Bool) :
    (State.faultRecord s src raised).isHeld = s.isHeld := by
  simp [↓isHeld_of_boot, State.faultRecord, apply_ite State.isHeld]
@[simp] theorem State.raiseCore_isHeld (s : State) (src : Nat) (inst : Nat) :
    (State.raiseCore s src inst).isHeld = s.isHeld := by
  simp [↓isHeld_of_boot, State.raiseCore, apply_ite State.isHeld]
@[simp] theorem State.raise_isHeld (s : State) (src : Nat) (inst : Nat) : (State.raise s src inst).isHeld = s.isHeld := by
  simp [State.raise, apply_ite State.isHeld]
@[simp] theorem State.setLive_isHeld (s : State) (src : Nat) (inst : Nat) :
    (State.setLive s src inst).isHeld = s.isHeld := by
  simp [↓isHeld_of_boot, State.setLive, apply_ite State.isHeld]
@[simp] theorem State.clearLive_isHeld (s : State) (src : Nat) (inst : Nat) :
    (State.clearLive s src inst).isHeld = s.isHeld := by
  simp [↓isHeld_of_boot, State.clearLive, apply_ite State.isHeld]

/-! ### SwitchOps -/

@[simp] theorem State.setUnit_isHeld (s : State) (u : Nat) (v : VUnit) : (State.setUnit s u v).isHeld = s.isHeld := by
  simp [↓isHeld_of_boot, State.setUnit]
@[simp] theorem State.setQueue_isHeld (s : State) (q : Nat) (l : List Link) :
    (State.setQueue s q l).isHeld = s.isHeld := by
  simp [↓isHeld_of_boot, State.setQueue]
@[simp] theorem State.setResidue_isHeld (s : State) (q : Nat) (l : List ResEntry) :
    (State.setResidue s q l).isHeld = s.isHeld := by
  simp [↓isHeld_of_boot, State.setResidue]
@[simp] theorem State.retireCell_isHeld (s : State) (c : Nat) : (State.retireCell s c).isHeld = s.isHeld := by
  simp [↓isHeld_of_boot, State.retireCell, apply_ite State.isHeld]
@[simp] theorem State.gc_isHeld (s : State) (u : Nat) : ((State.gc s u).1).isHeld = s.isHeld := by
  unfold State.gc; (repeat' split) <;> simp_all [↓isHeld_of_boot]
theorem State.gc_isHeld_of (s : State) (u : Nat) {sx : State} {qx : Nat} (h : State.gc s u = (sx, qx)) : sx.isHeld = s.isHeld := by
  have e := State.gc_isHeld s u
  rw [h] at e
  exact e
@[simp] theorem State.notePeak_isHeld (s : State) (q : Nat) : (State.notePeak s q).isHeld = s.isHeld := by
  simp [State.notePeak, apply_ite State.isHeld]
@[simp] theorem State.linkQ_isHeld (s : State) (q : Nat) (l : Link) : (State.linkQ s q l).isHeld = s.isHeld := by
  simp [State.linkQ]
@[simp] theorem State.holdFor_isHeld (s : State) (u : Nat) (q : Nat) : (State.holdFor s u q).isHeld = s.isHeld := by
  simp [↓isHeld_of_boot, State.holdFor]
@[simp] theorem State.loupeCopy_isHeld (s : State) (m : Nat) (u : Nat) : (State.loupeCopy s m u).isHeld = s.isHeld := by
  unfold State.loupeCopy; grind [isHeld_mk, isHeld_of_boot, State.bump_isHeld, State.setResidue_isHeld, State.linkQ_isHeld]
@[simp] theorem State.loupeMark_isHeld (s : State) (m : Nat) (u : Nat) : (State.loupeMark s m u).isHeld = s.isHeld := by
  unfold State.loupeMark; split <;> simp
@[simp] theorem State.loupes_isHeld (s : State) (u : Nat) (p : Nat) (egress : Bool) (f : Frame) :
    (State.loupes s u p egress f).isHeld = s.isHeld := by
  simp [State.loupes, apply_ite State.isHeld]
@[simp] theorem State.linkUnit_isHeld (s : State) (q : Nat) (u : Nat) (cut : Bool) :
    (State.linkUnit s q u cut).isHeld = s.isHeld := by
  unfold State.linkUnit; grind [isHeld_mk, isHeld_of_boot, → State.gc_isHeld_of, State.bump_isHeld, State.linkQ_isHeld, State.loupes_isHeld]
@[simp] theorem State.unblock_isHeld (s : State) (q : Nat) (x2 : Nat) : (State.unblock s q x2).isHeld = s.isHeld := by
  (induction x2 generalizing s q) <;> (unfold State.unblock; (repeat' split)) <;> simp_all [↓isHeld_of_boot]
@[simp] theorem State.unblockAll_isHeld (s : State) (q : Nat) : (State.unblockAll s q).isHeld = s.isHeld := by
  simp [State.unblockAll]
@[simp] theorem State.residueTest_isHeld (s : State) (q : Nat) (x2 : Nat) :
    (State.residueTest s q x2).isHeld = s.isHeld := by
  (induction x2 generalizing s q) <;> (unfold State.residueTest; (repeat' split)) <;> simp_all
@[simp] theorem State.unlink_isHeld (s : State) (q : Nat) (u : Nat) (loupe : Option Nat) :
    ((State.unlink s q u loupe).1).isHeld = s.isHeld := by
  simp [State.unlink]
@[simp] theorem State.dropHolds_isHeld (s : State) (p : Nat) : ((State.dropHolds s p).1).isHeld = s.isHeld := by
  simp [↓isHeld_of_boot, State.dropHolds]
@[simp] theorem State.emptyQueue_isHeld (s : State) (q : Nat) : ((State.emptyQueue s q).1).isHeld = s.isHeld := by
  simp [↓isHeld_of_boot, State.emptyQueue]
@[simp] theorem State.emptyPort_isHeld (s : State) (p : Nat) : ((State.emptyPort s p).1).isHeld = s.isHeld := by
  simp [State.emptyPort]
theorem State.emptyPort_isHeld_of (s : State) (p : Nat) {sx : State} {qx : Nat} (h : State.emptyPort s p = (sx, qx)) : sx.isHeld = s.isHeld := by
  have e := State.emptyPort_isHeld s p
  rw [h] at e
  exact e
@[simp] theorem State.transmit_isHeld (s : State) (p : Nat) (f : Frame) (rind : Word) :
    (State.transmit s p f rind).isHeld = s.isHeld := by
  simp [↓isHeld_of_boot, State.transmit, apply_ite State.isHeld]
@[simp] theorem State.ruined_isHeld (s : State) (u : Nat) : (State.ruined s u).isHeld = s.isHeld := by
  unfold State.ruined; split <;> simp [apply_ite State.isHeld]
@[simp] theorem State.endCut_isHeld (s : State) (p : Nat) : ((State.endCut s p).1).isHeld = s.isHeld := by
  unfold State.endCut; (repeat' split) <;> simp_all [↓isHeld_of_boot]
theorem State.endCut_isHeld_of (s : State) (p : Nat) {sx : State} {qx : Nat} (h : State.endCut s p = (sx, qx)) : sx.isHeld = s.isHeld := by
  have e := State.endCut_isHeld s p
  rw [h] at e
  exact e
@[simp] theorem State.truncate_isHeld (s : State) (p : Nat) : (State.truncate s p).isHeld = s.isHeld := by
  simp [State.truncate]
@[simp] theorem State.newUnit_isHeld (s : State) (f : Frame) (inPort : Nat) (own : Bool) (complete : Bool) (authOk : Bool) (tier : Tier) (k : Nat) :
    ((State.newUnit s f inPort own complete authOk tier k).1).isHeld = s.isHeld := by
  simp [↓isHeld_of_boot, State.newUnit]
@[simp] theorem State.admitUnit_isHeld (s : State) (f : Frame) (inPort : Nat) (own complete authOk : Bool) (ds : List Dest) :
  (State.admitUnit s f inPort own complete authOk ds).1.isHeld = s.isHeld := by
  unfold State.admitUnit
  simp only
  split
  · simp
  · simp [apply_ite State.isHeld]

/-! ### PressOps -/

@[simp] theorem State.setCtx_isHeld (s : State) (k : Nat) (c : PressCtx) : (State.setCtx s k c).isHeld = s.isHeld := by
  simp [↓isHeld_of_boot, State.setCtx]
@[simp] theorem State.declareLost_isHeld (s : State) (k : Nat) (next : Nat) (cause : Nat) (runs : List (Nat × Nat)) :
    (State.declareLost s k next cause runs).isHeld = s.isHeld := by
  simp [↓isHeld_of_boot, State.declareLost, apply_ite State.isHeld]
@[simp] theorem State.linkWaiting_isHeld (s : State) (u : Nat) (p : Nat → Bool) :
    (State.linkWaiting s u p).isHeld = s.isHeld := by
  simp [State.linkWaiting]
@[simp] theorem State.dropWaiting_isHeld (s : State) (u : Nat) (p : Nat → Bool) :
    (State.dropWaiting s u p).isHeld = s.isHeld := by
  simp [↓isHeld_of_boot, State.dropWaiting]
@[simp] theorem State.deliverLocal_isHeld (s : State) (u : Nat) : (State.deliverLocal s u).isHeld = s.isHeld := by
  unfold State.deliverLocal; split <;> simp
@[simp] theorem State.discardLocal_isHeld (s : State) (u : Nat) : (State.discardLocal s u).isHeld = s.isHeld := by
  simp [State.discardLocal]
@[simp] theorem State.pressAdvance_isHeld (s : State) (k : Nat) (n : Nat) :
    (State.pressAdvance s k n).isHeld = s.isHeld := by
  unfold State.pressAdvance; split <;> simp
@[simp] theorem State.pressDrain_isHeld (s : State) (k : Nat) (x2 : Nat) :
    (State.pressDrain s k x2).isHeld = s.isHeld := by
  (induction x2 generalizing s k) <;> (unfold State.pressDrain; (repeat' split)) <;> simp_all
@[simp] theorem State.startWait_isHeld (s : State) (k : Nat) (t : Nat) : (State.startWait s k t).isHeld = s.isHeld := by
  unfold State.startWait; split <;> simp [↓isHeld_of_boot]
@[simp] theorem State.pressTimer_isHeld (s : State) (k : Nat) : (State.pressTimer s k).isHeld = s.isHeld := by
  unfold State.pressTimer; (repeat' split) <;> simp_all [apply_ite State.isHeld]
@[simp] theorem State.pressTouch_isHeld (s : State) (k : Nat) : (State.pressTouch s k).isHeld = s.isHeld := by
  simp [State.pressTouch]
@[simp] theorem State.freeCtx_isHeld (s : State) (k : Nat) : (State.freeCtx s k).isHeld = s.isHeld := by
  unfold State.freeCtx; (repeat' split) <;> simp_all [↓isHeld_of_boot]
@[simp] theorem State.roomForCtx_isHeld (s : State) : (State.roomForCtx s).isHeld = s.isHeld := by
  unfold State.roomForCtx; (repeat' split) <;> simp_all
@[simp] theorem State.pressWindow_isHeld (s : State) (k : Nat) (u : Nat) (q : Nat) :
    (State.pressWindow s k u q).isHeld = s.isHeld := by
  unfold State.pressWindow; grind [State.setCtx_isHeld, State.deliverLocal_isHeld, State.pressDrain_isHeld, State.pressTimer_isHeld, State.pressTouch_isHeld, State.discardLocal_isHeld, State.bump_isHeld, State.startWait_isHeld]
@[simp] theorem State.pressArrive_isHeld (s : State) (u : Nat) (f : Frame) :
    (State.pressArrive s u f).isHeld = s.isHeld := by
  unfold State.pressArrive; grind [isHeld_mk, isHeld_of_boot, State.roomForCtx_isHeld, State.pressTouch_isHeld, State.deliverLocal_isHeld, State.setCtx_isHeld, State.pressWindow_isHeld, State.declareLost_isHeld, State.pressDrain_isHeld, State.pressAdvance_isHeld, State.pressTimer_isHeld, State.bump_isHeld, State.discardLocal_isHeld]
@[simp] theorem State.transitEnd_isHeld (s : State) (f : Frame) (u : Nat) (good : Bool) :
    (State.transitEnd s f u good).isHeld = s.isHeld := by
  simp only [State.transitEnd]; (repeat' split) <;> simp_all

/-! ### OrderOps -/

@[simp] theorem State.orderedSet_isHeld (s : State) (d1 : BitVec 8) (d2 : BitVec 8) (d3 : BitVec 8) :
    (State.orderedSet s d1 d2 d3).isHeld = s.isHeld := by
  simp [↓isHeld_of_boot, State.orderedSet]
@[simp] theorem State.orderSet_isHeld (s : State) (d1 : BitVec 8) (on : Nat) :
    (State.orderSet s d1 on).isHeld = s.isHeld := by
  simp [State.orderSet]
@[simp] theorem State.privateWords_isHeld (s : State) : ((State.privateWords s).2).isHeld = s.isHeld := by
  simp [State.privateWords]
@[simp] theorem State.startTransfer_isHeld (s : State) : (State.startTransfer s).isHeld = s.isHeld := by
  simp [↓isHeld_of_boot, State.startTransfer]
@[simp] theorem State.twinDown_isHeld (s : State) : (State.twinDown s).isHeld = s.isHeld := by
  simp [↓isHeld_of_boot, State.twinDown]
@[simp] theorem State.transferAgain_isHeld (s : State) : (State.transferAgain s).isHeld = s.isHeld := by
  simp [↓isHeld_of_boot, State.transferAgain, apply_ite State.isHeld]
@[simp] theorem State.placeOrder_isHeld (s : State) (f : Frame) : (State.placeOrder s f).isHeld = s.isHeld := by
  simp [↓isHeld_of_boot, State.placeOrder, apply_ite State.isHeld]
@[simp] theorem State.sendOrder_isHeld (s : State) (f : Frame) : (State.sendOrder s f).isHeld = s.isHeld := by
  simp [↓isHeld_of_boot, State.sendOrder, apply_ite State.isHeld]
@[simp] theorem State.sendPairOrder_isHeld (s : State) (kind : Nat) (ws : List Word) :
    (State.sendPairOrder s kind ws).isHeld = s.isHeld := by
  simp [State.sendPairOrder]
@[simp] theorem State.progressOrder_isHeld (s : State) (port : Nat) (outcome : Nat) (seq : BitVec 16) :
    (State.progressOrder s port outcome seq).isHeld = s.isHeld := by
  simp [State.progressOrder]
@[simp] theorem State.channelOrder_isHeld (s : State) (c : Nat) (what : Nat) (code : Nat) :
    (State.channelOrder s c what code).isHeld = s.isHeld := by
  simp [State.channelOrder]
@[simp] theorem State.sessionOrder_isHeld (s : State) : (State.sessionOrder s).isHeld = s.isHeld := by
  simp [State.sessionOrder, apply_ite State.isHeld]

/-! ### RouteOps -/

@[simp] theorem State.setLane_isHeld (s : State) (l : Nat) (x : LaneS) : (State.setLane s l x).isHeld = s.isHeld := by
  simp [↓isHeld_of_boot, State.setLane]
@[simp] theorem State.spendSessions_isHeld (s : State) : (State.spendSessions s).isHeld = s.isHeld := by
  simp [↓isHeld_of_boot, State.spendSessions, apply_ite State.isHeld]
@[simp] theorem State.takeSeq_isHeld (s : State) (f : Frame) : ((State.takeSeq s f).2).isHeld = s.isHeld := by
  simp [↓isHeld_of_boot, State.takeSeq]
theorem State.takeSeq_isHeld_of (s : State) (f : Frame) {sx : Frame} {qx : State} (h : State.takeSeq s f = (sx, qx)) : qx.isHeld = s.isHeld := by
  have e := State.takeSeq_isHeld s f
  rw [h] at e
  exact e
@[simp] theorem State.sealFrame_isHeld (s : State) (slot : Option Nat) (f : Frame) :
    ((State.sealFrame s slot f).2).isHeld = s.isHeld := by
  simp [↓isHeld_of_boot, State.sealFrame]
theorem State.sealFrame_isHeld_of (s : State) (slot : Option Nat) (f : Frame) {sx : Frame} {qx : State} (h : State.sealFrame s slot f = (sx, qx)) : qx.isHeld = s.isHeld := by
  have e := State.sealFrame_isHeld s slot f
  rw [h] at e
  exact e
@[simp] theorem State.macCount_isHeld (s : State) (m : Nat) (k : Nat) (n : Nat) :
    (State.macCount s m k n).isHeld = s.isHeld := by
  simp [State.macCount, apply_ite State.isHeld]
@[simp] theorem State.txResult_isHeld (s : State) (x : UnitIn) (st : Status) (seq : BitVec 16) :
    (State.txResult s x st seq).isHeld = s.isHeld := by
  simp [↓isHeld_of_boot, State.txResult, apply_ite State.isHeld]
@[simp] theorem State.fwdRead_isHeld (s : State) (k : Nat) : (State.fwdRead s k).isHeld = s.isHeld := by
  simp [↓isHeld_of_boot, State.fwdRead, apply_ite State.isHeld]
@[simp] theorem State.ueMet_isHeld (s : State) (w : Nat) : (State.ueMet s w).isHeld = s.isHeld := by
  simp [↓isHeld_of_boot, State.ueMet, apply_ite State.isHeld]
@[simp] theorem State.ceMet_isHeld (s : State) (w : Nat) (n : Nat) : (State.ceMet s w n).isHeld = s.isHeld := by
  simp [State.ceMet]
@[simp] theorem State.meetWords_isHeld (s : State) (ws : List Nat) : (State.meetWords s ws).isHeld = s.isHeld := by
  unfold State.meetWords
  refine foldl_isHeld _ (fun s w => ?_) _ _
  split
  · simp
  · split <;> simp
@[simp] theorem State.meetUnit_isHeld (s : State) (v : VUnit) : (State.meetUnit s v).isHeld = s.isHeld := by
  simp [State.meetUnit]
@[simp] theorem State.endSend_isHeld (s : State) (p u : Nat) (v : VUnit) (rind : Word) :
    (State.endSend s p u v rind).isHeld = s.isHeld := by
  unfold State.endSend
  dsimp only
  split <;> simp
@[simp] theorem State.endCuts_isHeld (s : State) (u : Nat) (v : VUnit) (rind : Word) :
    (State.endCuts s u v rind).isHeld = s.isHeld := by
  simp [↓isHeld_of_boot, State.endCuts]
@[simp] theorem State.purgeBad_isHeld (s : State) (u : Nat) : (State.purgeBad s u).isHeld = s.isHeld := by
  simp [↓isHeld_of_boot, State.purgeBad]
@[simp] theorem State.repeatOut_isHeld (s : State) (l : Nat) (f : Frame) (rind : Word) :
    (State.repeatOut s l f rind).isHeld = s.isHeld := by
  simp [↓isHeld_of_boot, State.repeatOut]
@[simp] theorem State.countEnd_isHeld (s : State) (l : Nat) (f : Frame) (t : Tail) (ou : Option Nat) :
    (State.countEnd s l f t ou).isHeld = s.isHeld := by
  simp [State.countEnd, apply_ite State.isHeld]
@[simp] theorem State.frameEnd_isHeld (s : State) (l : Nat) (t : Tail) : (State.frameEnd s l t).isHeld = s.isHeld := by
  unfold State.frameEnd; grind [isHeld_mk, isHeld_of_boot, State.bump_isHeld, State.repeatOut_isHeld, State.countEnd_isHeld, State.transitEnd_isHeld, State.setUnit_isHeld, State.endCuts_isHeld, → State.gc_isHeld_of, State.purgeBad_isHeld, State.pressArrive_isHeld, State.deliverLocal_isHeld]
@[simp] theorem State.takeLocal_isHeld (s : State) (p : Nat) : ((State.takeLocal s p).1).isHeld = s.isHeld := by
  simp only [State.takeLocal]; (repeat' split) <;> simp_all
theorem State.takeLocal_isHeld_of (s : State) (p : Nat) {sx : State} {qx : Option (VUnit × Link)} (h : State.takeLocal s p = (sx, qx)) : sx.isHeld = s.isHeld := by
  have e := State.takeLocal_isHeld s p
  rw [h] at e
  exact e
@[simp] theorem State.captureStart_isHeld (s : State) : (State.captureStart s).isHeld = s.isHeld := by
  simp [↓isHeld_of_boot, State.captureStart]
@[simp] theorem State.fwdCopy_isHeld (s : State) : (State.fwdCopy s).isHeld = s.isHeld := by
  simp [↓isHeld_of_boot, State.fwdCopy]
@[simp] theorem State.fwdCommit_isHeld (s : State) : (State.fwdCommit s).isHeld = s.isHeld := by
  simp [State.fwdCommit]
@[simp] theorem State.gapRemove_isHeld (s : State) : (State.gapRemove s).isHeld = s.isHeld := by
  simp [↓isHeld_of_boot, State.gapRemove]

/-! ### LinkOps -/

@[simp] theorem State.setLst_isHeld (s : State) (l : Nat) (st : Nat) : (State.setLst s l st).isHeld = s.isHeld := by
  simp [State.setLst]
@[simp] theorem State.sendLink_isHeld (s : State) (l : Nat) (sub : BitVec 8) :
    (State.sendLink s l sub).isHeld = s.isHeld := by
  simp [State.sendLink]
@[simp] theorem State.modRun_isHeld (s : State) (l : Nat) : (State.modRun s l).isHeld = s.isHeld := by
  unfold State.modRun
  dsimp only
  (repeat' split) <;> simp
@[simp] theorem State.setRate_isHeld (s : State) (l : Nat) : (State.setRate s l).isHeld = s.isHeld := by
  simp [State.setRate, apply_ite State.isHeld]
@[simp] theorem State.fullRate_isHeld (s : State) (l : Nat) : (State.fullRate s l).isHeld = s.isHeld := by
  simp [State.fullRate]
@[simp] theorem State.enterNoSignal_isHeld (s : State) (l : Nat) : (State.enterNoSignal s l).isHeld = s.isHeld := by
  simp [State.enterNoSignal]
@[simp] theorem State.laneStart_isHeld (s : State) (l : Nat) : (State.laneStart s l).isHeld = s.isHeld := by
  simp [State.laneStart, apply_ite State.isHeld]
@[simp] theorem State.spurJoin_isHeld (s : State) : (State.spurJoin s).isHeld = s.isHeld := by
  simp [↓isHeld_of_boot, State.spurJoin, apply_ite State.isHeld]
@[simp] theorem State.dropLane_isHeld (s : State) (l : Nat) : (State.dropLane s l).isHeld = s.isHeld := by
  simp [State.dropLane]
@[simp] theorem State.cutLane_isHeld (s : State) (l : Nat) : (State.cutLane s l).isHeld = s.isHeld := by
  unfold State.cutLane
  extract_lets s1 s2
  have h2 : s2.isHeld = s.isHeld := by
    simp only [s2]
    (repeat' split) <;> simp [s1]
  clear_value s2
  split <;> simp [h2]
@[simp] theorem State.declareDown_isHeld (s : State) (l : Nat) : (State.declareDown s l).isHeld = s.isHeld := by
  simp [State.declareDown, apply_ite State.isHeld]
@[simp] theorem State.laneOff_isHeld (s : State) (l : Nat) : (State.laneOff s l).isHeld = s.isHeld := by
  simp [State.laneOff, apply_ite State.isHeld]
@[simp] theorem State.laneDisable_isHeld (s : State) (l : Nat) : (State.laneDisable s l).isHeld = s.isHeld := by
  simp [State.laneDisable, apply_ite State.isHeld]
@[simp] theorem State.sayLeaving_isHeld (s : State) (ls : List Nat) : (State.sayLeaving s ls).isHeld = s.isHeld := by
  simp [State.sayLeaving, apply_ite State.isHeld]
@[simp] theorem State.retrain_isHeld (s : State) (l : Nat) : (State.retrain s l).isHeld = s.isHeld := by
  simp [State.retrain, apply_ite State.isHeld]
@[simp] theorem State.holdEnd_isHeld (s : State) (l : Nat) : (State.holdEnd s l).isHeld = s.isHeld := by
  simp [State.holdEnd, apply_ite State.isHeld]
@[simp] theorem State.repeatJoin_isHeld (s : State) : (State.repeatJoin s).isHeld = s.isHeld := by
  simp [↓isHeld_of_boot, State.repeatJoin, apply_ite State.isHeld]

/-! ### TimeOps -/

@[simp] theorem State.wordsInvalid_isHeld (s : State) : (State.wordsInvalid s).isHeld = s.isHeld := by
  simp [↓isHeld_of_boot, State.wordsInvalid]
@[simp] theorem State.pendStep_isHeld (s : State) (seq : Nat) (v : Word) (at_ : Word) (t : Nat) :
    (State.pendStep s seq v at_ t).isHeld = s.isHeld := by
  simp [↓isHeld_of_boot, State.pendStep]
@[simp] theorem State.timeRate_isHeld (s : State) (v : Word) : ((State.timeRate s v).2).isHeld = s.isHeld := by
  unfold State.timeRate; (repeat' split) <;> simp_all
@[simp] theorem State.timeStep_isHeld (s : State) (v : Word) : ((State.timeStep s v).2).isHeld = s.isHeld := by
  unfold State.timeStep; (repeat' split) <;> simp_all
@[simp] theorem State.stepRearm_isHeld (s : State) : (State.stepRearm s).isHeld = s.isHeld := by
  simp [State.stepRearm]
@[simp] theorem State.startListen_isHeld (s : State) : (State.startListen s).isHeld = s.isHeld := by
  simp [State.startListen, apply_ite State.isHeld]
@[simp] theorem State.enterEntry_isHeld (s : State) (n : Nat) (e : Entry) :
    (State.enterEntry s n e).isHeld = s.isHeld := by
  simp [↓isHeld_of_boot, State.enterEntry, apply_ite State.isHeld]
@[simp] theorem State.dropEntry_isHeld (s : State) (n : Nat) : (State.dropEntry s n).isHeld = s.isHeld := by
  simp [↓isHeld_of_boot, State.dropEntry]
@[simp] theorem State.fireEvent_isHeld (s : State) (n : Nat) (e : Entry) (outcome : Status) (cancelled : Bool) (results : List Word) :
    (State.fireEvent s n e outcome cancelled results).isHeld = s.isHeld := by
  simp [State.fireEvent]
@[simp] theorem State.cancelEntry_isHeld (s : State) (force : Bool) (n : Nat) :
    (State.cancelEntry s force n).isHeld = s.isHeld := by
  unfold State.cancelEntry; split <;> simp [apply_ite State.isHeld]
@[simp] theorem State.cancelForSafe_isHeld (s : State) : (State.cancelForSafe s).isHeld = s.isHeld := by
  simp [State.cancelForSafe]
@[simp] theorem State.markSeen_isHeld (s : State) (id : Nat) (t : Word) : (State.markSeen s id t).isHeld = s.isHeld := by
  simp [↓isHeld_of_boot, State.markSeen]
@[simp] theorem State.floodSnap_isHeld (s : State) (id : Nat) (t : Word) (node : BitVec 24) (but : Option Nat) :
    (State.floodSnap s id t node but).isHeld = s.isHeld := by
  simp [State.floodSnap, apply_ite State.isHeld]
@[simp] theorem State.keepCounters_isHeld (s : State) (i : Nat) : (State.keepCounters s i).isHeld = s.isHeld := by
  simp [↓isHeld_of_boot, State.keepCounters]
@[simp] theorem State.timCleared_isHeld (s : State) : (State.timCleared s).isHeld = s.isHeld := by
  simp [↓isHeld_of_boot, State.timCleared]

/-! ### ClusterOps -/

@[simp] theorem State.setClu_isHeld (s : State) (k : Nat) (x : CluS) : (State.setClu s k x).isHeld = s.isHeld := by
  simp [↓isHeld_of_boot, State.setClu]
@[simp] theorem State.setEng_isHeld (s : State) (n : Nat) (x : EngS) : (State.setEng s n x).isHeld = s.isHeld := by
  simp [↓isHeld_of_boot, State.setEng]
@[simp] theorem State.eput_isHeld (s : State) (f : Fld) (v : Nat) (n : Nat) : (State.eput s f v n).isHeld = s.isHeld := by
  simp [State.eput]
@[simp] theorem State.settleAt_isHeld (s : State) (k : Nat) (t : Nat) : (State.settleAt s k t).isHeld = s.isHeld := by
  simp [State.settleAt, apply_ite State.isHeld]
@[simp] theorem State.settleNet_isHeld (s : State) (k : Nat) : (State.settleNet s k).isHeld = s.isHeld := by
  simp [State.settleNet]
@[simp] theorem State.setLatch_isHeld (s : State) (k : Nat) (latch : Word) (dirs : Word) :
    (State.setLatch s k latch dirs).isHeld = s.isHeld := by
  simp [State.setLatch]
@[simp] theorem State.acceptLevel_isHeld (s : State) (k : Nat) (p : Nat) :
    (State.acceptLevel s k p).isHeld = s.isHeld := by
  simp [State.acceptLevel, apply_ite State.isHeld]
@[simp] theorem State.pinCfgWritten_isHeld (s : State) (k : Nat) (p : Nat) (old : Word) :
    (State.pinCfgWritten s k p old).isHeld = s.isHeld := by
  unfold State.pinCfgWritten; grind [State.setClu_isHeld, State.settleNet_isHeld, State.acceptLevel_isHeld, State.disarm_isHeld, State.arm_isHeld]
@[simp] theorem State.setDout_isHeld (s : State) (k : Nat) (w : Word) : (State.setDout s k w).isHeld = s.isHeld := by
  unfold State.setDout; simp only; split <;> simp
@[simp] theorem State.bankCompare_isHeld (s : State) (k : Nat) : (State.bankCompare s k).isHeld = s.isHeld := by
  simp [State.bankCompare, apply_ite State.isHeld]
@[simp] theorem State.cluCfgWritten_isHeld (s : State) (k : Nat) (old : Word) :
    (State.cluCfgWritten s k old).isHeld = s.isHeld := by
  simp [State.cluCfgWritten]
@[simp] theorem State.fillTxq_isHeld (s : State) (n : Nat) : (State.fillTxq s n).isHeld = s.isHeld := by
  simp [State.fillTxq]
@[simp] theorem State.notePoison_isHeld (s : State) (n : Nat) (w : QWord) :
    (State.notePoison s n w).isHeld = s.isHeld := by
  simp [State.notePoison, apply_ite State.isHeld]
@[simp] theorem State.stopEngine_isHeld (s : State) (n : Nat) (cause : Nat) :
    (State.stopEngine s n cause).isHeld = s.isHeld := by
  simp [State.stopEngine, apply_ite State.isHeld]
@[simp] theorem State.startEngine_isHeld (s : State) (n : Nat) (pc : Nat) (after : Nat) :
    (State.startEngine s n pc after).isHeld = s.isHeld := by
  simp [State.startEngine, apply_ite State.isHeld]
@[simp] theorem State.clearEngine_isHeld (s : State) (n : Nat) : (State.clearEngine s n).isHeld = s.isHeld := by
  simp [State.clearEngine]
@[simp] theorem State.clkRestart_isHeld (s : State) (k : Nat) : (State.clkRestart s k).isHeld = s.isHeld := by
  simp [State.clkRestart]
@[simp] theorem State.startMask_isHeld (s : State) (k : Nat) (m : Nat) : (State.startMask s k m).isHeld = s.isHeld := by
  simp [State.startMask]
@[simp] theorem State.stopMask_isHeld (s : State) (k : Nat) (m : Nat) : (State.stopMask s k m).isHeld = s.isHeld := by
  simp [State.stopMask]
@[simp] theorem State.injectWrite_isHeld (s : State) (n : Nat) (w : Word) :
    (State.injectWrite s n w).isHeld = s.isHeld := by
  simp [State.injectWrite]
@[simp] theorem State.cluSafe_isHeld (s : State) (k : Nat) : (State.cluSafe s k).isHeld = s.isHeld := by
  simp [State.cluSafe]
@[simp] theorem State.cluCommission_isHeld (s : State) : (State.cluCommission s).isHeld = s.isHeld := by
  simp [State.cluCommission]
@[simp] theorem State.settleAll_isHeld (s : State) : (State.settleAll s).isHeld = s.isHeld := by
  simp [State.settleAll]
@[simp] theorem State.cluCleared_isHeld (s : State) (k : Nat) : (State.cluCleared s k).isHeld = s.isHeld := by
  simp [↓isHeld_of_boot, State.cluCleared]

/-! ### FacetOps -/

@[simp] theorem State.setOsr_isHeld (s : State) (n : Nat) (w : Word) (cnt : Nat) :
    (State.setOsr s n w cnt).isHeld = s.isHeld := by
  simp [State.setOsr]
@[simp] theorem State.setIsr_isHeld (s : State) (n : Nat) (w : Word) (cnt : Nat) :
    (State.setIsr s n w cnt).isHeld = s.isHeld := by
  simp [State.setIsr]
@[simp] theorem State.setX_isHeld (s : State) (n : Nat) (v : Nat) : (State.setX s n v).isHeld = s.isHeld := by
  simp [State.setX]
@[simp] theorem State.setY_isHeld (s : State) (n : Nat) (v : Nat) : (State.setY s n v).isHeld = s.isHeld := by
  simp [State.setY]
@[simp] theorem State.setPattern_isHeld (s : State) (n : Nat) (w : Word) : (State.setPattern s n w).isHeld = s.isHeld := by
  simp [State.setPattern]
@[simp] theorem State.setCrc_isHeld (s : State) (n : Nat) (w : Word) : (State.setCrc s n w).isHeld = s.isHeld := by
  simp [State.setCrc]
@[simp] theorem State.driveLatch_isHeld (s : State) (n : Nat) (v : Word) : (State.driveLatch s n v).isHeld = s.isHeld := by
  simp [State.driveLatch]
@[simp] theorem State.setDirs_isHeld (s : State) (n : Nat) (v : Word) : (State.setDirs s n v).isHeld = s.isHeld := by
  simp [State.setDirs]
@[simp] theorem State.dstReg_isHeld (s : State) (n : Nat) (c : Nat) (v : Word) :
    (State.dstReg s n c v).isHeld = s.isHeld := by
  unfold State.dstReg; split <;> simp
@[simp] theorem State.crcFeed_isHeld (s : State) (n : Nat) (v : Word) (m : Nat) :
    (State.crcFeed s n v m).isHeld = s.isHeld := by
  simp [State.crcFeed]
@[simp] theorem State.giveWord_isHeld (s : State) (n : Nat) (w : Word) (last : Bool) (bad : Bool) :
    (State.giveWord s n w last bad).isHeld = s.isHeld := by
  simp [State.giveWord, apply_ite State.isHeld]
@[simp] theorem State.opShiftin_isHeld (s : State) (n : Nat) (w : Word) :
    ((State.opShiftin s n w).1).isHeld = s.isHeld := by
  unfold State.opShiftin; split <;> simp [apply_ite State.isHeld]
@[simp] theorem State.opShiftout_isHeld (s : State) (n : Nat) (w : Word) :
    ((State.opShiftout s n w).1).isHeld = s.isHeld := by
  unfold State.opShiftout; (repeat' split) <;> simp_all
@[simp] theorem State.opTake_isHeld (s : State) (n : Nat) (w : Word) : ((State.opTake s n w).1).isHeld = s.isHeld := by
  unfold State.opTake; grind [isHeld_mk, isHeld_of_boot, State.setEng_isHeld, State.notePoison_isHeld, State.setOsr_isHeld, State.setX_isHeld, State.setY_isHeld, State.setPattern_isHeld]
@[simp] theorem State.opGive_isHeld (s : State) (n : Nat) (w : Word) : ((State.opGive s n w).1).isHeld = s.isHeld := by
  simp [State.opGive, apply_ite State.isHeld]
@[simp] theorem State.opHold_isHeld (s : State) (n : Nat) (w : Word) : ((State.opHold s n w).1).isHeld = s.isHeld := by
  unfold State.opHold; split <;> simp [apply_ite State.isHeld]
@[simp] theorem State.opBranch_isHeld (s : State) (n : Nat) (w : Word) : ((State.opBranch s n w).1).isHeld = s.isHeld := by
  simp [State.opBranch]
@[simp] theorem State.opLoop_isHeld (s : State) (n : Nat) (w : Word) : ((State.opLoop s n w).1).isHeld = s.isHeld := by
  unfold State.opLoop; (repeat' split) <;> simp_all
@[simp] theorem State.opLoad_isHeld (s : State) (n : Nat) (w : Word) : ((State.opLoad s n w).1).isHeld = s.isHeld := by
  unfold State.opLoad; split <;> simp
@[simp] theorem State.opMove_isHeld (s : State) (n : Nat) (w : Word) : ((State.opMove s n w).1).isHeld = s.isHeld := by
  unfold State.opMove; (repeat' split) <;> simp_all [apply_ite State.isHeld]
@[simp] theorem State.opDrive_isHeld (s : State) (n : Nat) (w : Word) : ((State.opDrive s n w).1).isHeld = s.isHeld := by
  simp [State.opDrive]
@[simp] theorem State.opDir_isHeld (s : State) (n : Nat) (w : Word) : ((State.opDir s n w).1).isHeld = s.isHeld := by
  simp [State.opDir]
@[simp] theorem State.opSignal_isHeld (s : State) (n : Nat) (w : Word) : ((State.opSignal s n w).1).isHeld = s.isHeld := by
  simp [State.opSignal]
@[simp] theorem State.opCrc_isHeld (s : State) (n : Nat) (w : Word) : ((State.opCrc s n w).1).isHeld = s.isHeld := by
  unfold State.opCrc; split <;> simp [apply_ite State.isHeld]
@[simp] theorem State.opMatch_isHeld (s : State) (n : Nat) (w : Word) : ((State.opMatch s n w).1).isHeld = s.isHeld := by
  unfold State.opMatch; split <;> simp
@[simp] theorem State.opStamp_isHeld (s : State) (n : Nat) (w : Word) : ((State.opStamp s n w).1).isHeld = s.isHeld := by
  unfold State.opStamp; split <;> simp
@[simp] theorem State.opHalt_isHeld (s : State) (_n : Nat) (_w : Word) : ((State.opHalt s _n _w).1).isHeld = s.isHeld := by
  simp [State.opHalt]
@[simp] theorem State.opNop_isHeld (s : State) (_n : Nat) (_w : Word) : ((State.opNop s _n _w).1).isHeld = s.isHeld := by
  simp [State.opNop]
@[simp] theorem State.flow_isHeld (s : State) (n : Nat) (f : Flow) : (State.flow s n f).isHeld = s.isHeld := by
  unfold State.flow; split <;> simp
@[simp] theorem State.operate_isHeld (s : State) (n : Nat) (w : Word) : ((State.operate s n w).1).isHeld = s.isHeld := by
  unfold State.operate; (repeat' split) <;> simp_all
@[simp] theorem State.flushTx_isHeld (s : State) (n : Nat) : (State.flushTx s n).isHeld = s.isHeld := by
  unfold State.flushTx; grind [isHeld_mk, isHeld_of_boot, State.setEng_isHeld, State.wr_isHeld, State.flow_isHeld, State.eput_isHeld]
@[simp] theorem State.flushRx_isHeld (s : State) (n : Nat) : (State.flushRx s n).isHeld = s.isHeld := by
  simp [State.flushRx, apply_ite State.isHeld]

/-! ### CanOps -/

@[simp] theorem State.setCan_isHeld (s : State) (n : Nat) (x : CanS) : (State.setCan s n x).isHeld = s.isHeld := by
  simp [↓isHeld_of_boot, State.setCan]
@[simp] theorem State.canLose_isHeld (s : State) (n : Nat) (count : Nat) :
    (State.canLose s n count).isHeld = s.isHeld := by
  simp [State.canLose]
@[simp] theorem State.canClose_isHeld (s : State) (n : Nat) : (State.canClose s n).isHeld = s.isHeld := by
  simp [State.canClose, apply_ite State.isHeld]
@[simp] theorem State.canPackRec_isHeld (s : State) (n : Nat) (time : Word) (alone : Bool) (ws : List Word) :
    (State.canPackRec s n time alone ws).isHeld = s.isHeld := by
  simp [State.canPackRec, apply_ite State.isHeld]
@[simp] theorem State.canDeliver_isHeld (s : State) (n : Nat) (hdr : List Word) (data : List Byte) :
    (State.canDeliver s n hdr data).isHeld = s.isHeld := by
  simp [State.canDeliver, apply_ite State.isHeld]
@[simp] theorem State.canLoad_isHeld (s : State) (n : Nat) (t : CanTx) : (State.canLoad s n t).isHeld = s.isHeld := by
  simp [State.canLoad]
@[simp] theorem State.canFillAt_isHeld (s : State) (n : Nat) (at_ : Nat) :
    (State.canFillAt s n at_).isHeld = s.isHeld := by
  unfold State.canFillAt; grind [isHeld_mk, isHeld_of_boot, State.canLoad_isHeld, State.setCan_isHeld, → State.takeLocal_isHeld_of]
@[simp] theorem State.canFill_isHeld (s : State) (n : Nat) : (State.canFill s n).isHeld = s.isHeld := by
  simp [State.canFill]
@[simp] theorem State.canReport_isHeld (s : State) (n : Nat) (t : CanTx) (outcome : Nat) (time : Word) :
    (State.canReport s n t outcome time).isHeld = s.isHeld := by
  simp [State.canReport, apply_ite State.isHeld]
@[simp] theorem State.canTsqPop_isHeld (s : State) (n : Nat) : (State.canTsqPop s n).isHeld = s.isHeld := by
  simp [State.canTsqPop]
@[simp] theorem State.canLeave_isHeld (s : State) (n : Nat) (t : CanTx) (outcome : Nat) (time : Word) :
    (State.canLeave s n t outcome time).isHeld = s.isHeld := by
  simp [State.canLeave, apply_ite State.isHeld]
@[simp] theorem State.canGone_isHeld (s : State) (n : Nat) (t : CanTx) (time : Word) :
    (State.canGone s n t time).isHeld = s.isHeld := by
  simp [State.canGone]
@[simp] theorem State.canFlushSlot_isHeld (s : State) (n : Nat) (cur : Bool) :
    (State.canFlushSlot s n cur).isHeld = s.isHeld := by
  unfold State.canFlushSlot; grind [isHeld_mk, isHeld_of_boot, → State.freeIn_isHeld_of, State.setCan_isHeld, State.canGone_isHeld]
@[simp] theorem State.canFlushTx_isHeld (s : State) (n : Nat) (cur : Bool) :
    ((State.canFlushTx s n cur).1).isHeld = s.isHeld := by
  simp [State.canFlushTx]
theorem State.canFlushTx_isHeld_of (s : State) (n : Nat) (cur : Bool) {sx : State} {qx : Nat} (h : State.canFlushTx s n cur = (sx, qx)) : sx.isHeld = s.isHeld := by
  have e := State.canFlushTx_isHeld s n cur
  rw [h] at e
  exact e
@[simp] theorem State.canFlushRx_isHeld (s : State) (n : Nat) : (State.canFlushRx s n).isHeld = s.isHeld := by
  simp [State.canFlushRx]
@[simp] theorem State.canSafe_isHeld (s : State) : (State.canSafe s).isHeld = s.isHeld := by
  simp [State.canSafe, apply_ite State.isHeld]
@[simp] theorem State.canCommission_isHeld (s : State) : (State.canCommission s).isHeld = s.isHeld := by
  simp [State.canCommission]
@[simp] theorem State.canRecover_isHeld (s : State) (n : Nat) : (State.canRecover s n).isHeld = s.isHeld := by
  simp [State.canRecover, apply_ite State.isHeld]
@[simp] theorem State.canOpmodeWritten_isHeld (s : State) (n : Nat) : (State.canOpmodeWritten s n).isHeld = s.isHeld := by
  unfold State.canOpmodeWritten; split <;> simp
@[simp] theorem State.canRdStart_isHeld (s : State) (n : Nat) : (State.canRdStart s n).isHeld = s.isHeld := by
  simp only [State.canRdStart, State.arm_isHeld, State.setCan_isHeld, State.put_isHeld]
@[simp] theorem State.canRdEnd_isHeld (s : State) (n : Nat) : (State.canRdEnd s n).isHeld = s.isHeld := by
  simp [State.canRdEnd]
@[simp] theorem State.canRdAbort_isHeld (s : State) (n : Nat) : (State.canRdAbort s n).isHeld = s.isHeld := by
  simp [State.canRdAbort, apply_ite State.isHeld]
@[simp] theorem State.canCleared_isHeld (s : State) : (State.canCleared s).isHeld = s.isHeld := by
  simp [↓isHeld_of_boot, State.canCleared]

/-! ### MacOps -/

@[simp] theorem State.setMac_isHeld (s : State) (m : Nat) (x : MacS) : (State.setMac s m x).isHeld = s.isHeld := by
  simp [↓isHeld_of_boot, State.setMac]
@[simp] theorem State.macLinkChange_isHeld (s : State) (m : Nat) (f : State → State) (hf : ∀ x, (f x).isHeld = x.isHeld) :
    (State.macLinkChange s m f).isHeld = s.isHeld := by
  simp [State.macLinkChange, apply_ite State.isHeld, hf]
@[simp] theorem State.setMacQueue_isHeld (s : State) (m : Nat) (q : Nat) (l : List MacTx) :
    (State.setMacQueue s m q l).isHeld = s.isHeld := by
  simp [State.setMacQueue]
@[simp] theorem State.macStart_isHeld (s : State) (m : Nat) (at_ : Nat) : (State.macStart s m at_).isHeld = s.isHeld := by
  simp [State.macStart]
@[simp] theorem State.macLoad_isHeld (s : State) (m : Nat) (t : MacTx) : (State.macLoad s m t).isHeld = s.isHeld := by
  simp [State.macLoad, apply_ite State.isHeld]
@[simp] theorem State.macYield_isHeld (s : State) (m : Nat) : (State.macYield s m).isHeld = s.isHeld := by
  unfold State.macYield; grind [isHeld_mk, isHeld_of_boot, State.setMacQueue_isHeld, State.setMac_isHeld]
@[simp] theorem State.macFill_isHeld (s : State) (m : Nat) : (State.macFill s m).isHeld = s.isHeld := by
  unfold State.macFill; grind [isHeld_mk, isHeld_of_boot, State.macYield_isHeld, State.macLoad_isHeld, State.setMac_isHeld, State.setMacQueue_isHeld]
@[simp] theorem State.macLose_isHeld (s : State) (m : Nat) (count : Nat) :
    (State.macLose s m count).isHeld = s.isHeld := by
  simp [State.macLose]
@[simp] theorem State.macClose_isHeld (s : State) (m : Nat) : (State.macClose s m).isHeld = s.isHeld := by
  simp [State.macClose, apply_ite State.isHeld]
@[simp] theorem State.macPackRec_isHeld (s : State) (m : Nat) (time : Word) (alone : Bool) (ws : List Word) :
    (State.macPackRec s m time alone ws).isHeld = s.isHeld := by
  simp [State.macPackRec, apply_ite State.isHeld]
@[simp] theorem State.macDeliver_isHeld (s : State) (m : Nat) (hdr : Word) (time : Word) (data : List Byte) :
    (State.macDeliver s m hdr time data).isHeld = s.isHeld := by
  simp [State.macDeliver, apply_ite State.isHeld]
@[simp] theorem State.macReport_isHeld (s : State) (m : Nat) (t : MacTx) (outcome : Nat) :
    (State.macReport s m t outcome).isHeld = s.isHeld := by
  simp [State.macReport, apply_ite State.isHeld]
@[simp] theorem State.macLeave_isHeld (s : State) (m : Nat) (t : MacTx) (outcome : Nat) :
    (State.macLeave s m t outcome).isHeld = s.isHeld := by
  simp [State.macLeave, apply_ite State.isHeld]
@[simp] theorem State.macTsqPop_isHeld (s : State) (m : Nat) : (State.macTsqPop s m).isHeld = s.isHeld := by
  simp [State.macTsqPop]
@[simp] theorem State.macGate_isHeld (s : State) (m : Nat) : (State.macGate s m).isHeld = s.isHeld := by
  unfold State.macGate; grind [isHeld_mk, isHeld_of_boot, State.macYield_isHeld, State.macFill_isHeld, State.macLeave_isHeld, State.macCount_isHeld, State.setMac_isHeld, State.macStart_isHeld, State.disarm_isHeld]
@[simp] theorem State.macFlushTx_isHeld (s : State) (m : Nat) : ((State.macFlushTx s m).1).isHeld = s.isHeld := by
  unfold State.macFlushTx; grind [isHeld_mk, isHeld_of_boot, State.macCount_isHeld, State.setMac_isHeld, State.macLeave_isHeld, State.disarm_isHeld, → State.emptyPort_isHeld_of]
theorem State.macFlushTx_isHeld_of (s : State) (m : Nat) {sx : State} {qx : Nat} (h : State.macFlushTx s m = (sx, qx)) : sx.isHeld = s.isHeld := by
  have e := State.macFlushTx_isHeld s m
  rw [h] at e
  exact e
@[simp] theorem State.macFlushRx_isHeld (s : State) (m : Nat) : (State.macFlushRx s m).isHeld = s.isHeld := by
  simp [State.macFlushRx]
@[simp] theorem State.macSafe1_isHeld (s : State) (m : Nat) : (State.macSafe1 s m).isHeld = s.isHeld := by
  simp [State.macSafe1]
@[simp] theorem State.macSafe_isHeld (s : State) : (State.macSafe s).isHeld = s.isHeld := by
  simp [State.macSafe, apply_ite State.isHeld]
@[simp] theorem State.macCommission_isHeld (s : State) : (State.macCommission s).isHeld = s.isHeld := by
  simp [State.macCommission]
@[simp] theorem State.mdioGo_isHeld (s : State) : (State.mdioGo s).isHeld = s.isHeld := by
  simp [State.mdioGo]
@[simp] theorem State.macCleared_isHeld (s : State) : (State.macCleared s).isHeld = s.isHeld := by
  simp [↓isHeld_of_boot, State.macCleared]

/-! ### BridgeOps -/

@[simp] theorem State.setHbr_isHeld (s : State) (h : HbrS) : (State.setHbr s h).isHeld = s.isHeld := by
  simp [↓isHeld_of_boot, State.setHbr]
@[simp] theorem State.hostOut_isHeld (s : State) (o : HostOut) : (State.hostOut s o).isHeld = s.isHeld := by
  simp [State.hostOut]
@[simp] theorem State.msi_isHeld (s : State) (v : Nat) : (State.msi s v).isHeld = s.isHeld := by
  simp [State.msi, apply_ite State.isHeld]
@[simp] theorem State.hbrIrq_isHeld (s : State) (f : Fld) (v : Nat) : (State.hbrIrq s f v).isHeld = s.isHeld := by
  simp [State.hbrIrq, apply_ite State.isHeld]
@[simp] theorem State.errPendClear_isHeld (s : State) : (State.errPendClear s).isHeld = s.isHeld := by
  simp [State.errPendClear, apply_ite State.isHeld]
@[simp] theorem State.pfDrop_isHeld (s : State) (i : Nat) : (State.pfDrop s i).isHeld = s.isHeld := by
  unfold State.pfDrop; split <;> simp
@[simp] theorem State.pfDropWin_isHeld (s : State) (w : Nat) : (State.pfDropWin s w).isHeld = s.isHeld := by
  simp [State.pfDropWin]
@[simp] theorem State.txBack_isHeld (s : State) (st : Status) (seq : BitVec 16) :
    (State.txBack s st seq).isHeld = s.isHeld := by
  unfold State.txBack; split <;> simp [apply_ite State.isHeld]
@[simp] theorem State.txPump_isHeld (x0 : Nat) (x1 : State) : (State.txPump x0 x1).isHeld = x1.isHeld := by
  (induction x0 generalizing x1) <;> (unfold State.txPump; grind [isHeld_mk, isHeld_of_boot, → State.fresh_isHeld_of, State.txBack_isHeld, State.enqueue_isHeld, State.setHbr_isHeld])
@[simp] theorem State.txTail_isHeld (s : State) (tail : Nat) (ds : List TxDesc) :
    (State.txTail s tail ds).isHeld = s.isHeld := by
  simp [State.txTail, apply_ite State.isHeld]
@[simp] theorem State.rxTail_isHeld (s : State) (q : Nat) (tail : Nat) (bufs : List RxDesc) :
    (State.rxTail s q tail bufs).isHeld = s.isHeld := by
  simp [State.rxTail, apply_ite State.isHeld]
@[simp] theorem State.rxVector_isHeld (s : State) (q : Nat) : (State.rxVector s q).isHeld = s.isHeld := by
  simp [State.rxVector, apply_ite State.isHeld]
@[simp] theorem State.rxWrite_isHeld (s : State) (q : Nat) (v : VUnit) (loupe : Bool) :
    (State.rxWrite s q v loupe).isHeld = s.isHeld := by
  unfold State.rxWrite; grind [isHeld_mk, isHeld_of_boot, → State.freshWords_isHeld_of, State.setHbr_isHeld, State.hostOut_isHeld, State.rxVector_isHeld, State.bump_isHeld, State.put_isHeld]
@[simp] theorem State.hbrCleared_isHeld (s : State) : (State.hbrCleared s).isHeld = s.isHeld := by
  simp [↓isHeld_of_boot, State.hbrCleared]
@[simp] theorem State.hbrMode_isHeld (s : State) : (State.hbrMode s).isHeld = s.isHeld := by
  simp [State.hbrMode, apply_ite State.isHeld]

/-! ### PowerOps -/

@[simp] theorem State.setPch_isHeld (s : State) (c : Nat) (x : PchS) : (State.setPch s c x).isHeld = s.isHeld := by
  simp [↓isHeld_of_boot, State.setPch]
@[simp] theorem State.setPst_isHeld (s : State) (c : Nat) (st : Nat) : (State.setPst s c st).isHeld = s.isHeld := by
  simp [State.setPst]
@[simp] theorem State.stopLimit_isHeld (s : State) (c : Nat) : (State.stopLimit s c).isHeld = s.isHeld := by
  simp [State.stopLimit, apply_ite State.isHeld]
@[simp] theorem State.pgQualify_isHeld (s : State) (c : Nat) (from_ : Nat) :
    (State.pgQualify s c from_).isHeld = s.isHeld := by
  simp [↓isHeld_of_boot, State.pgQualify, apply_ite State.isHeld]
@[simp] theorem State.pgDrop_isHeld (s : State) (c : Nat) : (State.pgDrop s c).isHeld = s.isHeld := by
  simp [State.pgDrop, apply_ite State.isHeld]
@[simp] theorem State.gateTimers_isHeld (s : State) (c : Nat) : (State.gateTimers s c).isHeld = s.isHeld := by
  simp [State.gateTimers]
@[simp] theorem State.gateOff_isHeld (s : State) (c : Nat) (st : Nat) : (State.gateOff s c st).isHeld = s.isHeld := by
  simp [State.gateOff]
@[simp] theorem State.startRamp_isHeld (s : State) (c : Nat) : (State.startRamp s c).isHeld = s.isHeld := by
  simp [State.startRamp, apply_ite State.isHeld]
@[simp] theorem State.pchClrLatch_isHeld (s : State) (c : Nat) : (State.pchClrLatch s c).isHeld = s.isHeld := by
  simp [State.pchClrLatch, apply_ite State.isHeld]
@[simp] theorem State.park_isHeld (s : State) (c : Nat) : (State.park s c).isHeld = s.isHeld := by
  simp [State.park]
@[simp] theorem State.pchLose_isHeld (s : State) (c : Nat) : (State.pchLose s c).isHeld = s.isHeld := by
  simp [State.pchLose, apply_ite State.isHeld]
@[simp] theorem State.pchRegain_isHeld (s : State) (c : Nat) : (State.pchRegain s c).isHeld = s.isHeld := by
  simp [State.pchRegain, apply_ite State.isHeld]
@[simp] theorem State.pwrSettle_isHeld (s : State) : (State.pwrSettle s).isHeld = s.isHeld := by
  simp [State.pwrSettle]
@[simp] theorem State.faultOff_isHeld (s : State) (c : Nat) (code : Nat) (end_ : Nat) :
    (State.faultOff s c code end_).isHeld = s.isHeld := by
  simp [State.faultOff, apply_ite State.isHeld]
@[simp] theorem State.tickFault_isHeld (s : State) (c : Nat) : (State.tickFault s c).isHeld = s.isHeld := by
  simp [State.tickFault, apply_ite State.isHeld]
@[simp] theorem State.pchCmdOn_isHeld (s : State) (c : Nat) : (State.pchCmdOn s c).isHeld = s.isHeld := by
  simp [State.pchCmdOn, apply_ite State.isHeld]
@[simp] theorem State.pchCmdOff_isHeld (s : State) (c : Nat) : (State.pchCmdOff s c).isHeld = s.isHeld := by
  simp [State.pchCmdOff, apply_ite State.isHeld]
@[simp] theorem State.pwrSafe_isHeld (s : State) : (State.pwrSafe s).isHeld = s.isHeld := by
  unfold State.pwrSafe
  split
  · rfl
  · refine foldl_isHeld _ (fun s c => ?_) _ _
    split <;> simp
@[simp] theorem State.pwrCommission_isHeld (s : State) : (State.pwrCommission s).isHeld = s.isHeld := by
  simp [State.pwrCommission, apply_ite State.isHeld]
@[simp] theorem State.pwrCoreReset_isHeld (s : State) : ((State.pwrCoreReset s).1).isHeld = s.isHeld := by
  simp [State.pwrCoreReset, apply_ite State.isHeld]
@[simp] theorem State.pwrCleared_isHeld (s : State) : (State.pwrCleared s).isHeld = s.isHeld := by
  simp [↓isHeld_of_boot, State.pwrCleared]
@[simp] theorem State.pwrMasks_isHeld (s : State) (on : BitVec 16) (off : BitVec 16) :
    (State.pwrMasks s on off).isHeld = s.isHeld := by
  simp [State.pwrMasks, apply_ite State.isHeld]

/-! ### FireOps -/

@[simp] theorem State.schedCancel_isHeld (s : State) (n : Nat) : (State.schedCancel s n).isHeld = s.isHeld := by
  simp [State.schedCancel, apply_ite State.isHeld]

/-! ### SafeOps -/

@[simp] theorem State.settleOutputs_isHeld (s : State) : (State.settleOutputs s).isHeld = s.isHeld := by
  simp [State.settleOutputs]
@[simp] theorem State.logMode_isHeld (s : State) (old : Mode) (cause : Option Nat) (reason : Word) :
    (State.logMode s old cause reason).isHeld = s.isHeld := by
  unfold State.logMode; grind [isHeld_mk, isHeld_of_boot, → State.fresh_isHeld_of, State.log_isHeld]
@[simp] theorem State.endTestRelease_isHeld (s : State) (m : Mode) : (State.endTestRelease s m).isHeld = s.isHeld := by
  simp [State.endTestRelease, apply_ite State.isHeld]
@[simp] theorem State.setMode_isHeld (s : State) (m : Mode) : (State.setMode s m).isHeld = s.isHeld := by
  simp [↓isHeld_of_boot, State.setMode, apply_ite State.isHeld]
@[simp] theorem State.toSafe_isHeld (s : State) (w : Word) : (State.toSafe s w).isHeld = s.isHeld := by
  simp [↓isHeld_of_boot, State.toSafe]
@[simp] theorem State.enterSafe_isHeld (s : State) (cause : Nat) (source : Nat) (reason : Nat) :
    (State.enterSafe s cause source reason).isHeld = s.isHeld := by
  simp [State.enterSafe, apply_ite State.isHeld]
@[simp] theorem State.commissionOutputs_isHeld (s : State) : (State.commissionOutputs s).isHeld = s.isHeld := by
  simp [State.commissionOutputs]
@[simp] theorem State.leaveSafe_isHeld (s : State) : (State.leaveSafe s).isHeld = s.isHeld := by
  simp [State.leaveSafe, apply_ite State.isHeld]

/-! ### PairOps -/

@[simp] theorem State.driveIlk_isHeld (s : State) (on : Bool) : (State.driveIlk s on).isHeld = s.isHeld := by
  simp [State.driveIlk, apply_ite State.isHeld]
@[simp] theorem State.setPair_isHeld (s : State) (st : Nat) : (State.setPair s st).isHeld = s.isHeld := by
  simp [State.setPair, apply_ite State.isHeld]
@[simp] theorem State.startClaim_isHeld (s : State) (cause : Nat) : (State.startClaim s cause).isHeld = s.isHeld := by
  simp [↓isHeld_of_boot, State.startClaim]
@[simp] theorem State.startPairing_isHeld (s : State) (alt : Bool) : (State.startPairing s alt).isHeld = s.isHeld := by
  simp [↓isHeld_of_boot, State.startPairing, apply_ite State.isHeld]
@[simp] theorem State.rejoin_isHeld (s : State) : (State.rejoin s).isHeld = s.isHeld := by
  simp [State.rejoin, apply_ite State.isHeld]
@[simp] theorem State.resync_isHeld (s : State) : (State.resync s).isHeld = s.isHeld := by
  simp [↓isHeld_of_boot, State.resync, apply_ite State.isHeld]
@[simp] theorem State.startHandover_isHeld (s : State) (c : Option Cmd) : (State.startHandover s c).isHeld = s.isHeld := by
  simp [↓isHeld_of_boot, State.startHandover]
@[simp] theorem State.pairCleared_isHeld (s : State) : (State.pairCleared s).isHeld = s.isHeld := by
  simp [↓isHeld_of_boot, State.pairCleared]
@[simp] theorem State.leavePair_isHeld (s : State) : (State.leavePair s).isHeld = s.isHeld := by
  simp [↓isHeld_of_boot, State.leavePair]

/-! ### Quiesce -/

@[simp] theorem State.resetRegs_isHeld (s : State) (p : Cls → Nat → Bool) : (State.resetRegs s p).isHeld = s.isHeld := by
  simp [↓isHeld_of_boot, State.resetRegs]

/-! ### ResetOps -/

@[simp] theorem State.setRst_isHeld (s : State) (i : Nat) (on : Bool) : (State.setRst s i on).isHeld = s.isHeld := by
  simp [↓isHeld_of_boot, State.setRst]
@[simp] theorem State.setResync_isHeld (s : State) (i : Nat) (on : Bool) : (State.setResync s i on).isHeld = s.isHeld := by
  simp [↓isHeld_of_boot, State.setResync]
@[simp] theorem State.setIslRst_isHeld (s : State) (i : Nat) (on : Bool) : (State.setIslRst s i on).isHeld = s.isHeld := by
  simp [↓isHeld_of_boot, State.setIslRst]
@[simp] theorem State.dropHold_isHeld (s : State) : (State.dropHold s).isHeld = s.isHeld := by
  simp [↓isHeld_of_boot, State.dropHold, apply_ite State.isHeld]
@[simp] theorem State.dropToward_isHeld (s : State) (i : Nat) : (State.dropToward s i).isHeld = s.isHeld := by
  simp [State.dropToward, apply_ite State.isHeld]
@[simp] theorem State.swcCleared_isHeld (s : State) : (State.swcCleared s).isHeld = s.isHeld := by
  simp [↓isHeld_of_boot, State.swcCleared]
@[simp] theorem State.dropStore_isHeld (s : State) : (State.dropStore s).isHeld = s.isHeld := by
  unfold State.dropStore; split <;> simp [↓isHeld_of_boot]
@[simp] theorem State.loseSessions_isHeld (s : State) : (State.loseSessions s).isHeld = s.isHeld := by
  simp [↓isHeld_of_boot, State.loseSessions]
@[simp] theorem State.mgtCleared_isHeld (s : State) : (State.mgtCleared s).isHeld = s.isHeld := by
  simp [↓isHeld_of_boot, State.mgtCleared]
@[simp] theorem State.laneCleared_isHeld (s : State) (l : Nat) : (State.laneCleared s l).isHeld = s.isHeld := by
  simp [↓isHeld_of_boot, State.laneCleared, apply_ite State.isHeld]
@[simp] theorem State.clearIsland_isHeld (s : State) (i : Nat) : (State.clearIsland s i).isHeld = s.isHeld := by
  simp [↓isHeld_of_boot, State.clearIsland, apply_ite State.isHeld]
@[simp] theorem State.assertReset_isHeld (s : State) (i : Nat) (p : Cls → Bool) :
    (State.assertReset s i p).isHeld = s.isHeld := by
  simp [↓isHeld_of_boot, State.assertReset, apply_ite State.isHeld]
@[simp] theorem State.islReset_isHeld (s : State) (i : Nat) : (State.islReset s i).isHeld = s.isHeld := by
  unfold State.islReset; grind [State.bump_isHeld, State.put_isHeld, State.assertReset_isHeld, State.setIslRst_isHeld, State.arm_isHeld]
@[simp] theorem State.powerDown_isHeld (s : State) (i : Nat) : (State.powerDown s i).isHeld = s.isHeld := by
  simp [↓isHeld_of_boot, State.powerDown, apply_ite State.isHeld]
@[simp] theorem State.powerMask_isHeld (s : State) (m : Nat) : (State.powerMask s m).isHeld = s.isHeld := by
  simp [State.powerMask, apply_ite State.isHeld]
@[simp] theorem State.putStraps_isHeld (s : State) (st : Straps) : (State.putStraps s st).isHeld = s.isHeld := by
  simp [↓isHeld_of_boot, State.putStraps]
@[simp] theorem State.startOver_isHeld (s : State) (kind : ResetKind) : (State.startOver s kind).isHeld = s.isHeld := by
  simp [↓isHeld_of_boot, State.startOver]
@[simp] theorem State.chipReset_isHeld (s : State) (kind : ResetKind) : (State.chipReset s kind).isHeld = s.isHeld := by
  simp only [State.chipReset]; (repeat' split) <;> simp_all [↓isHeld_of_boot, apply_ite State.isHeld]

/-! ### ReactOps -/

@[simp] theorem State.reactionRecord_isHeld (s : State) (src : Nat) (r : Nat) :
    (State.reactionRecord s src r).isHeld = s.isHeld := by
  simp [State.reactionRecord]
@[simp] theorem State.reactedOnly_isHeld (s : State) (src : Nat) (counted : Bool) :
    (State.reactedOnly s src counted).isHeld = s.isHeld := by
  simp [State.reactedOnly, apply_ite State.isHeld]
@[simp] theorem State.reactTaken_isHeld (s : State) (srcs : List Nat) (r : Nat) :
    (State.reactTaken s srcs r).isHeld = s.isHeld := by
  unfold State.reactTaken; split <;> simp [apply_ite State.isHeld]
@[simp] theorem State.reactSafe_isHeld (s : State) (srcs : List Nat) : (State.reactSafe s srcs).isHeld = s.isHeld := by
  simp [↓isHeld_of_boot, State.reactSafe]
@[simp] theorem State.holdReaction_isHeld (s : State) (srcs : List Nat) :
    (State.holdReaction s srcs).isHeld = s.isHeld := by
  simp [↓isHeld_of_boot, State.holdReaction]
@[simp] theorem State.reactAsSafe_isHeld (s : State) (srcs : List Nat) : (State.reactAsSafe s srcs).isHeld = s.isHeld := by
  simp [State.reactAsSafe, apply_ite State.isHeld]
@[simp] theorem State.reactIsland_isHeld (s : State) (srcs : List Nat) : (State.reactIsland s srcs).isHeld = s.isHeld := by
  simp [↓isHeld_of_boot, State.reactIsland, apply_ite State.isHeld]
@[simp] theorem State.reactHandover_isHeld (s : State) (srcs : List Nat) :
    (State.reactHandover s srcs).isHeld = s.isHeld := by
  simp [↓isHeld_of_boot, State.reactHandover, apply_ite State.isHeld]
@[simp] theorem State.reactChip_isHeld (s : State) (srcs : List Nat) : (State.reactChip s srcs).isHeld = s.isHeld := by
  simp [State.reactChip]
@[simp] theorem State.reactBy_isHeld (s : State) (r : Nat) (srcs : List Nat) :
    (State.reactBy s r srcs).isHeld = s.isHeld := by
  simp [State.reactBy, apply_ite State.isHeld]
@[simp] theorem State.takeDue_isHeld (s : State) : (State.takeDue s).isHeld = s.isHeld := by
  simp [↓isHeld_of_boot, State.takeDue, apply_ite State.isHeld]
@[simp] theorem State.settle_isHeld (s : State) : (State.settle s).isHeld = s.isHeld := by
  simp [State.settle, apply_ite State.isHeld]
@[simp] theorem State.graceExpire_isHeld (s : State) (src : Nat) : (State.graceExpire s src).isHeld = s.isHeld := by
  unfold State.graceExpire; grind [isHeld_mk, isHeld_of_boot, → State.expire_isHeld_of, State.put_isHeld]
@[simp] theorem State.clearInst_isHeld (s : State) (src : Nat) (keep : BitVec 64) :
    (State.clearInst s src keep).isHeld = s.isHeld := by
  simp [State.clearInst]
@[simp] theorem State.faultAck_isHeld (s : State) (src : Nat) (clear : Bool) :
    (State.faultAck s src clear).isHeld = s.isHeld := by
  unfold State.faultAck; grind [isHeld_mk, isHeld_of_boot, State.settle_isHeld, State.graceExpire_isHeld, State.clearInst_isHeld, State.disarm_isHeld, State.put_isHeld, State.faultRecord_isHeld, State.faultEvent_isHeld, State.updateAlive_isHeld]
@[simp] theorem State.fltInject_isHeld (s : State) : (State.fltInject s).isHeld = s.isHeld := by
  simp [State.fltInject]

/-! ### BootOps -/

@[simp] theorem State.setSlot_isHeld (s : State) (t : Nat) (x : Slot) : (State.setSlot s t x).isHeld = s.isHeld := by
  simp [↓isHeld_of_boot, State.setSlot]
@[simp] theorem State.logUpdate_isHeld (s : State) (op : Nat) (slot : Nat) (status : Status) :
    (State.logUpdate s op slot status).isHeld = s.isHeld := by
  simp [State.logUpdate]
@[simp] theorem State.setSlotState_isHeld (s : State) (t : Nat) (st : Nat) (op : Nat) (status : Status) :
    (State.setSlotState s t st op status).isHeld = s.isHeld := by
  simp [State.setSlotState]

/-! ### CmdOps -/

@[simp] theorem State.auditRefusal_isHeld (s : State) (denied : Bool) (f : Frame) (st : Status) (data : List Word) :
    (State.auditRefusal s denied f st data).isHeld = s.isHeld := by
  unfold State.auditRefusal; grind [isHeld_mk, isHeld_of_boot, State.log_isHeld]
@[simp] theorem State.noteAuthFail_isHeld (s : State) (f : Frame) : (State.noteAuthFail s f).isHeld = s.isHeld := by
  simp [↓isHeld_of_boot, State.noteAuthFail, apply_ite State.isHeld]
@[simp] theorem State.noteRefusal_isHeld (s : State) (f : Frame) (st : Status) (step5 : Bool) :
    (State.noteRefusal s f st step5).isHeld = s.isHeld := by
  simp [State.noteRefusal, apply_ite State.isHeld]
@[simp] theorem State.auditCmd_isHeld (s : State) (f : Frame) (st : Status) :
    (State.auditCmd s f st).isHeld = s.isHeld := by
  unfold State.auditCmd; split <;> simp
@[simp] theorem State.romSend_isHeld (s : State) (f : Frame) : (State.romSend s f).isHeld = s.isHeld := by
  unfold State.romSend; grind [isHeld_mk, isHeld_of_boot, → State.takeSeq_isHeld_of, → State.sealFrame_isHeld_of, State.spendSessions_isHeld, State.bump_isHeld, State.rxWrite_isHeld, State.transmit_isHeld]
@[simp] theorem State.sendOwn_isHeld (s : State) (f : Frame) : (State.sendOwn s f).isHeld = s.isHeld := by
  simp [↓isHeld_of_boot, State.sendOwn, apply_ite State.isHeld]
@[simp] theorem State.cachePut_isHeld (s : State) (f : Frame) (reply : Frame) :
    (State.cachePut s f reply).isHeld = s.isHeld := by
  simp [↓isHeld_of_boot, State.cachePut, apply_ite State.isHeld]
@[simp] theorem State.unserve_isHeld (s : State) (c : Cmd) : (State.unserve s c).isHeld = s.isHeld := by
  simp [↓isHeld_of_boot, State.unserve]
@[simp] theorem State.putSlot_isHeld (s : State) (ring : Nat) (tail : Nat) (f : Frame) :
    (State.putSlot s ring tail f).isHeld = s.isHeld := by
  simp [↓isHeld_of_boot, State.putSlot]
@[simp] theorem State.respond_isHeld (s : State) (f : Frame) : (State.respond s f).isHeld = s.isHeld := by
  simp [State.respond]
@[simp] theorem State.reply_isHeld (s : State) (c : Cmd) (ordered : Bool) (a : Answer) :
    (State.reply s c ordered a).isHeld = s.isHeld := by
  simp [State.reply, apply_ite State.isHeld]
@[simp] theorem State.answer_isHeld (s : State) (c : Cmd) (ordered : Bool) (a : Answer) :
    (State.answer s c ordered a).isHeld = s.isHeld := by
  simp [State.answer, apply_ite State.isHeld]
@[simp] theorem State.release_isHeld (s : State) (c : Cmd) (r : Option Frame) :
    (State.release s c r).isHeld = s.isHeld := by
  simp [↓isHeld_of_boot, State.release, apply_ite State.isHeld]
@[simp] theorem State.finish_isHeld (s : State) (c : Cmd) (ordered : Bool) (a : Answer) :
    (State.finish s c ordered a).isHeld = s.isHeld := by
  unfold State.finish; (repeat' split) <;> simp_all [↓isHeld_of_boot]
@[simp] theorem State.complete_isHeld (s : State) (c : Cmd) (st : Status) (payload : List Word) :
    (State.complete s c st payload).isHeld = s.isHeld := by
  simp [State.complete, apply_ite State.isHeld]
@[simp] theorem State.dropVerify_isHeld (s : State) : (State.dropVerify s).isHeld = s.isHeld := by
  unfold State.dropVerify; split <;> simp
@[simp] theorem State.abandonUpdate_isHeld (s : State) (n : BitVec 16) : (State.abandonUpdate s n).isHeld = s.isHeld := by
  simp [↓isHeld_of_boot, State.abandonUpdate, apply_ite State.isHeld]
@[simp] theorem State.dropSessions_isHeld (s : State) (p : Session → Bool) :
    (State.dropSessions s p).isHeld = s.isHeld := by
  simp [↓isHeld_of_boot, State.dropSessions]
@[simp] theorem State.closeSession_isHeld (s : State) (n : BitVec 16) (cause : Nat) :
    (State.closeSession s n cause).isHeld = s.isHeld := by
  unfold State.closeSession; split <;> simp [apply_ite State.isHeld]
@[simp] theorem State.armIdle_isHeld (s : State) (n : BitVec 16) : (State.armIdle s n).isHeld = s.isHeld := by
  simp [State.armIdle, apply_ite State.isHeld]
@[simp] theorem State.freeSession_isHeld (s : State) : ((State.freeSession s).2).isHeld = s.isHeld := by
  simp [↓isHeld_of_boot, State.freeSession]
theorem State.freeSession_isHeld_of (s : State) {sx : BitVec 16} {qx : State} (h : State.freeSession s = (sx, qx)) : qx.isHeld = s.isHeld := by
  have e := State.freeSession_isHeld s
  rw [h] at e
  exact e
@[simp] theorem State.openSession_isHeld (s : State) (f : Frame) (x : KeyExchange) :
    ((State.openSession s f x).1).isHeld = s.isHeld := by
  unfold State.openSession; grind [isHeld_mk, isHeld_of_boot, → State.freeSession_isHeld_of, → State.freshWords_isHeld_of, State.armIdle_isHeld, State.arm_isHeld, State.log_isHeld, State.disarmAll_isHeld, State.sessionOrder_isHeld]
theorem State.openSession_isHeld_of (s : State) (f : Frame) (x : KeyExchange) {sx : State} {qx : Answer} (h : State.openSession s f x = (sx, qx)) : sx.isHeld = s.isHeld := by
  have e := State.openSession_isHeld s f x
  rw [h] at e
  exact e

/-! ### SecOps -/

@[simp] theorem State.ownerStart_isHeld (s : State) (w : Word) : (State.ownerStart s w).isHeld = s.isHeld := by
  simp [↓isHeld_of_boot, State.ownerStart, apply_ite State.isHeld]
@[simp] theorem State.unlockStart_isHeld (s : State) (k : Nat) : (State.unlockStart s k).isHeld = s.isHeld := by
  simp [↓isHeld_of_boot, State.unlockStart]

/-! ### UpdateOps -/

@[simp] theorem State.openTarget_isHeld (s : State) (h : ImgHead) : (State.openTarget s h).isHeld = s.isHeld := by
  simp [↓isHeld_of_boot, State.openTarget, apply_ite State.isHeld]
@[simp] theorem State.updateBegin_isHeld (s : State) (f : Frame) : ((State.updateBegin s f).1).isHeld = s.isHeld := by
  unfold State.updateBegin; grind [isHeld_mk, isHeld_of_boot, State.openTarget_isHeld, State.disarm_isHeld]
@[simp] theorem State.setUpdTarget_isHeld (s : State) (u : Update) (x : Slot) :
    (State.setUpdTarget s u x).isHeld = s.isHeld := by
  simp [↓isHeld_of_boot, State.setUpdTarget, apply_ite State.isHeld]
@[simp] theorem State.setUpdate_isHeld (s : State) (u : Update) : (State.setUpdate s u).isHeld = s.isHeld := by
  simp [↓isHeld_of_boot, State.setUpdate]
@[simp] theorem State.updateBlock_isHeld (s : State) (f : Frame) (readOk : Bool) :
    ((State.updateBlock s f readOk).1).isHeld = s.isHeld := by
  unfold State.updateBlock; grind [isHeld_mk, isHeld_of_boot, State.setUpdTarget_isHeld, → State.freshWords_isHeld_of]
@[simp] theorem State.verifyStart_isHeld (s : State) (u : Update) (c : Option Cmd) :
    (State.verifyStart s u c).isHeld = s.isHeld := by
  simp [State.verifyStart, apply_ite State.isHeld]
@[simp] theorem State.profileOf_isHeld (s : State) (x : Slot) : ((State.profileOf s x).1).isHeld = s.isHeld := by
  simp [State.profileOf]
theorem State.profileOf_isHeld_of (s : State) (x : Slot) {sx : State} {qx : Profile} (h : State.profileOf s x = (sx, qx)) : sx.isHeld = s.isHeld := by
  have e := State.profileOf_isHeld s x
  rw [h] at e
  exact e
@[simp] theorem State.activateSlot_isHeld (s : State) (t : Nat) : (State.activateSlot s t).isHeld = s.isHeld := by
  simp [↓isHeld_of_boot, State.activateSlot]
@[simp] theorem State.updateActivate_isHeld (s : State) (session : BitVec 16) :
    ((State.updateActivate s session).1).isHeld = s.isHeld := by
  unfold State.updateActivate; grind [isHeld_mk, isHeld_of_boot, State.activateSlot_isHeld, → State.profileOf_isHeld_of]
@[simp] theorem State.updateConfirm_isHeld (s : State) : (State.updateConfirm s).isHeld = s.isHeld := by
  simp [↓isHeld_of_boot, State.updateConfirm, apply_ite State.isHeld]
@[simp] theorem State.updateAbort_isHeld (s : State) (session : BitVec 16) :
    ((State.updateAbort s session).1).isHeld = s.isHeld := by
  unfold State.updateAbort; (repeat' split) <;> simp_all [↓isHeld_of_boot, apply_ite State.isHeld]
@[simp] theorem State.relaySend_isHeld (s : State) (l : Nat) (ws : List Word) :
    (State.relaySend s l ws).isHeld = s.isHeld := by
  simp [State.relaySend, apply_ite State.isHeld]
@[simp] theorem State.relayReq_isHeld (s : State) (p : Pull) (off : Nat) (n : Nat) :
    (State.relayReq s p off n).isHeld = s.isHeld := by
  simp [State.relayReq]
@[simp] theorem State.setPull_isHeld (s : State) (p : Option Pull) : (State.setPull s p).isHeld = s.isHeld := by
  simp [↓isHeld_of_boot, State.setPull]
@[simp] theorem State.startPull_isHeld (s : State) (p : Pull) : (State.startPull s p).isHeld = s.isHeld := by
  simp [State.startPull]
@[simp] theorem State.updateRelay_isHeld (s : State) (c : Cmd) : ((State.updateRelay s c).1).isHeld = s.isHeld := by
  unfold State.updateRelay; grind [isHeld_mk, isHeld_of_boot, State.startPull_isHeld]

/-! ### ReadOps -/

@[simp] theorem State.readMet_isHeld (s : State) (x : Place) : (State.readMet s x).isHeld = s.isHeld := by
  unfold State.readMet
  split <;> simp

/-! ### WriteOps -/

@[simp] theorem State.freeDesc_isHeld (s : State) : ((State.freeDesc s).2).isHeld = s.isHeld := by
  simp [State.freeDesc]
@[simp] theorem State.freeDescs_isHeld (x0 : Nat) (x1 : State) : ((State.freeDescs x0 x1).2).isHeld = x1.isHeld := by
  induction x0 generalizing x1 <;> simp_all [State.freeDescs]
@[simp] theorem State.freeBufs_isHeld (x0 : Nat) (x1 : State) : ((State.freeBufs x0 x1).2).isHeld = x1.isHeld := by
  induction x0 generalizing x1 <;> simp_all [State.freeBufs]
@[simp] theorem State.txTailReg_isHeld (s : State) (tail : Nat) : (State.txTailReg s tail).isHeld = s.isHeld := by
  simp [State.txTailReg]
@[simp] theorem State.rxTailReg_isHeld (s : State) (q : Nat) (tail : Nat) :
    (State.rxTailReg s q tail).isHeld = s.isHeld := by
  simp [State.rxTailReg]
@[simp] theorem State.txEnable_isHeld (s : State) (was : Bool) : (State.txEnable s was).isHeld = s.isHeld := by
  simp [↓isHeld_of_boot, State.txEnable, apply_ite State.isHeld]
@[simp] theorem State.rxEnable_isHeld (s : State) (q : Nat) (was : Bool) : (State.rxEnable s q was).isHeld = s.isHeld := by
  simp [State.rxEnable, apply_ite State.isHeld]
@[simp] theorem State.lnkCfgWritten_isHeld (s : State) (l : Nat) (old : Word) :
    (State.lnkCfgWritten s l old).isHeld = s.isHeld := by
  simp [State.lnkCfgWritten, apply_ite State.isHeld]
@[simp] theorem State.engCtlWritten_isHeld (s : State) (n : Nat) (a : Word) :
    (State.engCtlWritten s n a).isHeld = s.isHeld := by
  simp [State.engCtlWritten, apply_ite State.isHeld]
@[simp] theorem State.cluCtlWritten_isHeld (s : State) (k : Nat) (a : Word) :
    (State.cluCtlWritten s k a).isHeld = s.isHeld := by
  simp [State.cluCtlWritten, apply_ite State.isHeld]
@[simp] theorem State.pwrCfgWritten_isHeld (s : State) (old : Word) : (State.pwrCfgWritten s old).isHeld = s.isHeld := by
  simp [State.pwrCfgWritten, apply_ite State.isHeld]
@[simp] theorem State.pchCtlWritten_isHeld (s : State) (c : Nat) (a : Word) :
    (State.pchCtlWritten s c a).isHeld = s.isHeld := by
  simp [State.pchCtlWritten, apply_ite State.isHeld]
@[simp] theorem State.seccfgWritten_isHeld (s : State) (old : Word) : (State.seccfgWritten s old).isHeld = s.isHeld := by
  simp [State.seccfgWritten, apply_ite State.isHeld]
@[simp] theorem State.keySessWritten_isHeld (s : State) (k : Nat) : (State.keySessWritten s k).isHeld = s.isHeld := by
  simp [State.keySessWritten, apply_ite State.isHeld]
@[simp] theorem State.portEffect_isHeld (s : State) (r : Reg) (i : Nat) (j : Nat) (old : Word) (a : Word) :
    (State.portEffect s r i j old a).isHeld = s.isHeld := by
  unfold State.portEffect; split <;> simp [apply_ite State.isHeld]
@[simp] theorem State.shadowSound_isHeld (s : State) (i : Nat) : (State.shadowSound s i).isHeld = s.isHeld := by
  simp [↓isHeld_of_boot, State.shadowSound]
@[simp] theorem State.capLowered_isHeld (s : State) (old : Nat) : (State.capLowered s old).isHeld = s.isHeld := by
  simp [State.capLowered]
@[simp] theorem State.pairValidWritten_isHeld (s : State) : (State.pairValidWritten s).isHeld = s.isHeld := by
  simp [State.pairValidWritten, apply_ite State.isHeld]
@[simp] theorem State.coreEffect_isHeld (s : State) (r : Reg) (i : Nat) (_j : Nat) (old : Word) (a : Word) :
    (State.coreEffect s r i _j old a).isHeld = s.isHeld := by
  unfold State.coreEffect; split <;> simp [apply_ite State.isHeld]
@[simp] theorem State.writeReg_isHeld (s : State) (priv : Bool) (r : Reg) (i : Nat) (j : Nat) (w : Word) :
    (State.writeReg s priv r i j w).isHeld = s.isHeld := by
  simp [State.writeReg, apply_ite State.isHeld]
@[simp] theorem State.vatWrite_isHeld (s : State) (b : Nat) (w : Word) : (State.vatWrite s b w).isHeld = s.isHeld := by
  simp [↓isHeld_of_boot, State.vatWrite]
@[simp] theorem State.vatSound_isHeld (s : State) (w : Nat) : (State.vatSound s w).isHeld = s.isHeld := by
  simp [↓isHeld_of_boot, State.vatSound]
@[simp] theorem State.placeWrite_isHeld (s : State) (priv : Bool) (p : Place) (w : Word) :
    ((State.placeWrite s priv p w).1).isHeld = s.isHeld := by
  unfold State.placeWrite; split <;> simp
theorem State.placeWrite_isHeld_of (s : State) (priv : Bool) (p : Place) (w : Word) {sx : State} {qx : BitVec 21} (h : State.placeWrite s priv p w = (sx, qx)) : sx.isHeld = s.isHeld := by
  have e := State.placeWrite_isHeld s priv p w
  rw [h] at e
  exact e

/-! ### WindowOps -/

@[simp] theorem State.auditWrite_isHeld (s : State) (f : Frame) (count : Nat) (first : Word) (ordered : Bool) :
    (State.auditWrite s f count first ordered).isHeld = s.isHeld := by
  simp [State.auditWrite, apply_ite State.isHeld]
@[simp] theorem State.setWin_isHeld (s : State) (w : Nat) (x : WinS) : (State.setWin s w x).isHeld = s.isHeld := by
  simp [↓isHeld_of_boot, State.setWin]
@[simp] theorem State.sendBehind_isHeld (s : State) (n : Nat) (item : List QWord) :
    (State.sendBehind s n item).isHeld = s.isHeld := by
  unfold State.sendBehind; grind [isHeld_mk, isHeld_of_boot, State.fillTxq_isHeld, State.setEng_isHeld]
@[simp] theorem State.winEnter_isHeld (s : State) (w : Nat) (r : WinReq) : (State.winEnter s w r).isHeld = s.isHeld := by
  simp [State.winEnter]
@[simp] theorem State.winTimer_isHeld (s : State) (w : Nat) : (State.winTimer s w).isHeld = s.isHeld := by
  unfold State.winTimer; grind [isHeld_mk, isHeld_of_boot, State.disarm_isHeld, State.arm_isHeld]
@[simp] theorem State.winRequest_isHeld (s : State) (w : Nat) (r : WinReq) :
    (State.winRequest s w r).isHeld = s.isHeld := by
  simp [State.winRequest, apply_ite State.isHeld]

/-! ### AccessOps -/

@[simp] theorem State.actWindow_isHeld (s : State) (c : Cmd) (w : Nat) (o : Nat) (write : Bool) (n : Nat) (data : List Word) :
    ((State.actWindow s c w o write n data).1).isHeld = s.isHeld := by
  unfold State.actWindow; (repeat' split) <;> simp_all
theorem State.actWindow_isHeld_of (s : State) (c : Cmd) (w : Nat) (o : Nat) (write : Bool) (n : Nat) (data : List Word) {sx : State} {qx : Answer} (h : State.actWindow s c w o write n data = (sx, qx)) : sx.isHeld = s.isHeld := by
  have e := State.actWindow_isHeld s c w o write n data
  rw [h] at e
  exact e
@[simp] theorem State.actRead_isHeld (s : State) (c : Cmd) : ((State.actRead s c).1).isHeld = s.isHeld := by
  simp only [State.actRead]; (repeat' split) <;> simp_all
theorem State.actRead_isHeld_of (s : State) (c : Cmd) {sx : State} {qx : Answer} (h : State.actRead s c = (sx, qx)) : sx.isHeld = s.isHeld := by
  have e := State.actRead_isHeld s c
  rw [h] at e
  exact e
@[simp] theorem State.writeWords_isHeld (s : State) (priv : Bool) (x : Option Session) (x3 : List (Place × Word)) :
    ((State.writeWords s priv x x3).1).isHeld = s.isHeld := by
  (induction x3 generalizing s priv x) <;> (unfold State.writeWords; grind [isHeld_mk, isHeld_of_boot, → State.placeWrite_isHeld_of])
@[simp] theorem State.actWrites_isHeld (s : State) (f : Frame) (ordered : Bool) (l : List (Place × Word)) (first : Word) (payload : List Word) :
    ((State.actWrites s f ordered l first payload).1).isHeld = s.isHeld := by
  simp only [State.actWrites]; (repeat' split) <;> simp_all
theorem State.actWrites_isHeld_of (s : State) (f : Frame) (ordered : Bool) (l : List (Place × Word)) (first : Word) (payload : List Word) {sx : State} {qx : Answer} (h : State.actWrites s f ordered l first payload = (sx, qx)) : sx.isHeld = s.isHeld := by
  have e := State.actWrites_isHeld s f ordered l first payload
  rw [h] at e
  exact e
@[simp] theorem State.actWrite_isHeld (s : State) (c : Cmd) (ordered : Bool) :
    ((State.actWrite s c ordered).1).isHeld = s.isHeld := by
  unfold State.actWrite; grind [isHeld_mk, isHeld_of_boot, → State.actWindow_isHeld_of, → State.actWrites_isHeld_of]
theorem State.actWrite_isHeld_of (s : State) (c : Cmd) (ordered : Bool) {sx : State} {qx : Answer} (h : State.actWrite s c ordered = (sx, qx)) : sx.isHeld = s.isHeld := by
  have e := State.actWrite_isHeld s c ordered
  rw [h] at e
  exact e
@[simp] theorem State.actModify_isHeld (s : State) (c : Cmd) (ordered : Bool) :
    ((State.actModify s c ordered).1).isHeld = s.isHeld := by
  unfold State.actModify; grind [isHeld_mk, isHeld_of_boot, State.readMet_isHeld, → State.actWrites_isHeld_of]
theorem State.actModify_isHeld_of (s : State) (c : Cmd) (ordered : Bool) {sx : State} {qx : Answer} (h : State.actModify s c ordered = (sx, qx)) : sx.isHeld = s.isHeld := by
  have e := State.actModify_isHeld s c ordered
  rw [h] at e
  exact e

/-! ### PortCmdOps -/

@[simp] theorem State.actPortSend_isHeld (s : State) (f : Frame) : ((State.actPortSend s f).1).isHeld = s.isHeld := by
  simp only [State.actPortSend]; (repeat' split) <;> simp_all
theorem State.actPortSend_isHeld_of (s : State) (f : Frame) {sx : State} {qx : Answer} (h : State.actPortSend s f = (sx, qx)) : sx.isHeld = s.isHeld := by
  have e := State.actPortSend_isHeld s f
  rw [h] at e
  exact e
@[simp] theorem State.recordWrite_isHeld (s : State) (l : List (Reg × Nat × Nat × Word)) :
    (State.recordWrite s l).isHeld = s.isHeld := by
  simp [State.recordWrite, apply_ite State.isHeld]
@[simp] theorem State.actPortConfig_isHeld (s : State) (f : Frame) : ((State.actPortConfig s f).1).isHeld = s.isHeld := by
  unfold State.actPortConfig; grind [isHeld_mk, isHeld_of_boot, State.recordWrite_isHeld]
theorem State.actPortConfig_isHeld_of (s : State) (f : Frame) {sx : State} {qx : Answer} (h : State.actPortConfig s f = (sx, qx)) : sx.isHeld = s.isHeld := by
  have e := State.actPortConfig_isHeld s f
  rw [h] at e
  exact e
@[simp] theorem State.flushPortTx_isHeld (s : State) (p : Nat) : ((State.flushPortTx s p).1).isHeld = s.isHeld := by
  unfold State.flushPortTx; grind [isHeld_mk, isHeld_of_boot, → State.endCut_isHeld_of, → State.emptyPort_isHeld_of, → State.macFlushTx_isHeld_of, → State.canFlushTx_isHeld_of, State.flushTx_isHeld, State.setEng_isHeld]
theorem State.flushPortTx_isHeld_of (s : State) (p : Nat) {sx : State} {qx : Nat} (h : State.flushPortTx s p = (sx, qx)) : sx.isHeld = s.isHeld := by
  have e := State.flushPortTx_isHeld s p
  rw [h] at e
  exact e
@[simp] theorem State.flushPortRx_isHeld (s : State) (p : Nat) : (State.flushPortRx s p).isHeld = s.isHeld := by
  unfold State.flushPortRx; grind [isHeld_mk, isHeld_of_boot, State.macFlushRx_isHeld, State.canFlushRx_isHeld, State.flushRx_isHeld, State.disarm_isHeld, State.setEng_isHeld, State.setWin_isHeld]
@[simp] theorem State.actPortFlush_isHeld (s : State) (f : Frame) : ((State.actPortFlush s f).1).isHeld = s.isHeld := by
  unfold State.actPortFlush; grind [isHeld_mk, isHeld_of_boot, → State.flushPortTx_isHeld_of, State.flushPortRx_isHeld]
theorem State.actPortFlush_isHeld_of (s : State) (f : Frame) {sx : State} {qx : Answer} (h : State.actPortFlush s f = (sx, qx)) : sx.isHeld = s.isHeld := by
  have e := State.actPortFlush_isHeld s f
  rw [h] at e
  exact e
@[simp] theorem State.schedule_isHeld (s : State) (e : Entry) (t : Word) :
    ((State.schedule s e t).1).isHeld = s.isHeld := by
  unfold State.schedule; (repeat' split) <;> simp_all
theorem State.schedule_isHeld_of (s : State) (e : Entry) (t : Word) {sx : State} {qx : Answer} (h : State.schedule s e t = (sx, qx)) : sx.isHeld = s.isHeld := by
  have e := State.schedule_isHeld s e t
  rw [h] at e
  exact e
@[simp] theorem State.actSchedule_isHeld (s : State) (apply : Bool) (f : Frame) :
    ((State.actSchedule s apply f).1).isHeld = s.isHeld := by
  unfold State.actSchedule; grind [isHeld_mk, isHeld_of_boot, → State.schedule_isHeld_of]
theorem State.actSchedule_isHeld_of (s : State) (apply : Bool) (f : Frame) {sx : State} {qx : Answer} (h : State.actSchedule s apply f = (sx, qx)) : sx.isHeld = s.isHeld := by
  have e := State.actSchedule_isHeld s apply f
  rw [h] at e
  exact e
@[simp] theorem State.actSnapshot_isHeld (s : State) (f : Frame) : ((State.actSnapshot s f).1).isHeld = s.isHeld := by
  unfold State.actSnapshot; grind [isHeld_mk, isHeld_of_boot, → State.schedule_isHeld_of, State.floodSnap_isHeld, State.markSeen_isHeld]
theorem State.actSnapshot_isHeld_of (s : State) (f : Frame) {sx : State} {qx : Answer} (h : State.actSnapshot s f = (sx, qx)) : sx.isHeld = s.isHeld := by
  have e := State.actSnapshot_isHeld s f
  rw [h] at e
  exact e
@[simp] theorem State.actFence_isHeld (s : State) (c : Cmd) : ((State.actFence s c).1).isHeld = s.isHeld := by
  unfold State.actFence; grind [isHeld_mk, isHeld_of_boot]
theorem State.actFence_isHeld_of (s : State) (c : Cmd) {sx : State} {qx : Answer} (h : State.actFence s c = (sx, qx)) : sx.isHeld = s.isHeld := by
  have e := State.actFence_isHeld s c
  rw [h] at e
  exact e

/-! ### HostCmdOps -/

@[simp] theorem State.actProfileSelect_isHeld (s : State) (f : Frame) :
    ((State.actProfileSelect s f).1).isHeld = s.isHeld := by
  unfold State.actProfileSelect; grind [isHeld_mk, isHeld_of_boot]
theorem State.actProfileSelect_isHeld_of (s : State) (f : Frame) {sx : State} {qx : Answer} (h : State.actProfileSelect s f = (sx, qx)) : sx.isHeld = s.isHeld := by
  have e := State.actProfileSelect_isHeld s f
  rw [h] at e
  exact e
@[simp] theorem State.actProfileStore_isHeld (s : State) (c : Cmd) :
    ((State.actProfileStore s c).1).isHeld = s.isHeld := by
  unfold State.actProfileStore; split <;> simp [↓isHeld_of_boot]
theorem State.actProfileStore_isHeld_of (s : State) (c : Cmd) {sx : State} {qx : Answer} (h : State.actProfileStore s c = (sx, qx)) : sx.isHeld = s.isHeld := by
  have e := State.actProfileStore_isHeld s c
  rw [h] at e
  exact e
@[simp] theorem State.actSelftest_isHeld (s : State) (f : Frame) : ((State.actSelftest s f).1).isHeld = s.isHeld := by
  unfold State.actSelftest; grind [isHeld_mk, isHeld_of_boot]
theorem State.actSelftest_isHeld_of (s : State) (f : Frame) {sx : State} {qx : Answer} (h : State.actSelftest s f = (sx, qx)) : sx.isHeld = s.isHeld := by
  have e := State.actSelftest_isHeld s f
  rw [h] at e
  exact e
@[simp] theorem State.healthWords_isHeld (s : State) (priv : Bool) : ((State.healthWords s priv).2).isHeld = s.isHeld := by
  simp [State.healthWords]
@[simp] theorem State.actHealth_isHeld (s : State) (maint : Bool) : ((State.actHealth s maint).1).isHeld = s.isHeld := by
  simp [State.actHealth]
theorem State.actHealth_isHeld_of (s : State) (maint : Bool) {sx : State} {qx : Answer} (h : State.actHealth s maint = (sx, qx)) : sx.isHeld = s.isHeld := by
  have e := State.actHealth_isHeld s maint
  rw [h] at e
  exact e
@[simp] theorem State.actFaultAck_isHeld (s : State) (f : Frame) : ((State.actFaultAck s f).1).isHeld = s.isHeld := by
  unfold State.actFaultAck; grind [isHeld_mk, isHeld_of_boot, State.faultAck_isHeld]
theorem State.actFaultAck_isHeld_of (s : State) (f : Frame) {sx : State} {qx : Answer} (h : State.actFaultAck s f = (sx, qx)) : sx.isHeld = s.isHeld := by
  have e := State.actFaultAck_isHeld s f
  rw [h] at e
  exact e
@[simp] theorem State.actSafeEnter_isHeld (s : State) (f : Frame) : ((State.actSafeEnter s f).1).isHeld = s.isHeld := by
  simp [State.actSafeEnter]
theorem State.actSafeEnter_isHeld_of (s : State) (f : Frame) {sx : State} {qx : Answer} (h : State.actSafeEnter s f = (sx, qx)) : sx.isHeld = s.isHeld := by
  have e := State.actSafeEnter_isHeld s f
  rw [h] at e
  exact e
@[simp] theorem State.actSafeLeave_isHeld (s : State) : ((State.actSafeLeave s).1).isHeld = s.isHeld := by
  unfold State.actSafeLeave; split <;> simp
theorem State.actSafeLeave_isHeld_of (s : State) {sx : State} {qx : Answer} (h : State.actSafeLeave s = (sx, qx)) : sx.isHeld = s.isHeld := by
  have e := State.actSafeLeave_isHeld s
  rw [h] at e
  exact e
@[simp] theorem State.actUpdateBegin_isHeld (s : State) (f : Frame) :
    ((State.actUpdateBegin s f).1).isHeld = s.isHeld := by
  simp [State.actUpdateBegin]
theorem State.actUpdateBegin_isHeld_of (s : State) (f : Frame) {sx : State} {qx : Answer} (h : State.actUpdateBegin s f = (sx, qx)) : sx.isHeld = s.isHeld := by
  have e := State.actUpdateBegin_isHeld s f
  rw [h] at e
  exact e
@[simp] theorem State.actUpdateBlock_isHeld (s : State) (c : Cmd) : ((State.actUpdateBlock s c).1).isHeld = s.isHeld := by
  simp [State.actUpdateBlock]
theorem State.actUpdateBlock_isHeld_of (s : State) (c : Cmd) {sx : State} {qx : Answer} (h : State.actUpdateBlock s c = (sx, qx)) : sx.isHeld = s.isHeld := by
  have e := State.actUpdateBlock_isHeld s c
  rw [h] at e
  exact e
@[simp] theorem State.actUpdateVerify_isHeld (s : State) (c : Cmd) :
    ((State.actUpdateVerify s c).1).isHeld = s.isHeld := by
  unfold State.actUpdateVerify; (repeat' split) <;> simp_all
theorem State.actUpdateVerify_isHeld_of (s : State) (c : Cmd) {sx : State} {qx : Answer} (h : State.actUpdateVerify s c = (sx, qx)) : sx.isHeld = s.isHeld := by
  have e := State.actUpdateVerify_isHeld s c
  rw [h] at e
  exact e
@[simp] theorem State.actUpdateActivate_isHeld (s : State) (f : Frame) :
    ((State.actUpdateActivate s f).1).isHeld = s.isHeld := by
  simp [State.actUpdateActivate]
theorem State.actUpdateActivate_isHeld_of (s : State) (f : Frame) {sx : State} {qx : Answer} (h : State.actUpdateActivate s f = (sx, qx)) : sx.isHeld = s.isHeld := by
  have e := State.actUpdateActivate_isHeld s f
  rw [h] at e
  exact e
@[simp] theorem State.actUpdateConfirm_isHeld (s : State) : ((State.actUpdateConfirm s).1).isHeld = s.isHeld := by
  simp [State.actUpdateConfirm]
theorem State.actUpdateConfirm_isHeld_of (s : State) {sx : State} {qx : Answer} (h : State.actUpdateConfirm s = (sx, qx)) : sx.isHeld = s.isHeld := by
  have e := State.actUpdateConfirm_isHeld s
  rw [h] at e
  exact e
@[simp] theorem State.actUpdateRelay_isHeld (s : State) (c : Cmd) : ((State.actUpdateRelay s c).1).isHeld = s.isHeld := by
  simp [State.actUpdateRelay]
theorem State.actUpdateRelay_isHeld_of (s : State) (c : Cmd) {sx : State} {qx : Answer} (h : State.actUpdateRelay s c = (sx, qx)) : sx.isHeld = s.isHeld := by
  have e := State.actUpdateRelay_isHeld s c
  rw [h] at e
  exact e
@[simp] theorem State.actUpdateAbort_isHeld (s : State) (f : Frame) :
    ((State.actUpdateAbort s f).1).isHeld = s.isHeld := by
  simp [State.actUpdateAbort]
theorem State.actUpdateAbort_isHeld_of (s : State) (f : Frame) {sx : State} {qx : Answer} (h : State.actUpdateAbort s f = (sx, qx)) : sx.isHeld = s.isHeld := by
  have e := State.actUpdateAbort_isHeld s f
  rw [h] at e
  exact e
@[simp] theorem State.actTimeStep_isHeld (s : State) (f : Frame) : ((State.actTimeStep s f).1).isHeld = s.isHeld := by
  simp [State.actTimeStep]
theorem State.actTimeStep_isHeld_of (s : State) (f : Frame) {sx : State} {qx : Answer} (h : State.actTimeStep s f = (sx, qx)) : sx.isHeld = s.isHeld := by
  have e := State.actTimeStep_isHeld s f
  rw [h] at e
  exact e
@[simp] theorem State.actTimeRate_isHeld (s : State) (f : Frame) : ((State.actTimeRate s f).1).isHeld = s.isHeld := by
  simp [State.actTimeRate]
theorem State.actTimeRate_isHeld_of (s : State) (f : Frame) {sx : State} {qx : Answer} (h : State.actTimeRate s f = (sx, qx)) : sx.isHeld = s.isHeld := by
  have e := State.actTimeRate_isHeld s f
  rw [h] at e
  exact e
@[simp] theorem State.actStepRearm_isHeld (s : State) : ((State.actStepRearm s).1).isHeld = s.isHeld := by
  simp [State.actStepRearm]
theorem State.actStepRearm_isHeld_of (s : State) {sx : State} {qx : Answer} (h : State.actStepRearm s = (sx, qx)) : sx.isHeld = s.isHeld := by
  have e := State.actStepRearm_isHeld s
  rw [h] at e
  exact e
@[simp] theorem State.actHandover_isHeld (s : State) (c : Cmd) (ordered : Bool) :
    ((State.actHandover s c ordered).1).isHeld = s.isHeld := by
  unfold State.actHandover; (repeat' split) <;> simp_all [↓isHeld_of_boot]
theorem State.actHandover_isHeld_of (s : State) (c : Cmd) (ordered : Bool) {sx : State} {qx : Answer} (h : State.actHandover s c ordered = (sx, qx)) : sx.isHeld = s.isHeld := by
  have e := State.actHandover_isHeld s c ordered
  rw [h] at e
  exact e
@[simp] theorem State.actPairStatus_isHeld (s : State) : ((State.actPairStatus s).1).isHeld = s.isHeld := by
  simp [State.actPairStatus]
theorem State.actPairStatus_isHeld_of (s : State) {sx : State} {qx : Answer} (h : State.actPairStatus s = (sx, qx)) : sx.isHeld = s.isHeld := by
  have e := State.actPairStatus_isHeld s
  rw [h] at e
  exact e
@[simp] theorem State.actLogRead_isHeld (s : State) (c : Cmd) (maint : Bool) :
    ((State.actLogRead s c maint).1).isHeld = s.isHeld := by
  unfold State.actLogRead; grind [isHeld_mk, isHeld_of_boot, → State.freeIn_isHeld_of]
theorem State.actLogRead_isHeld_of (s : State) (c : Cmd) (maint : Bool) {sx : State} {qx : Answer} (h : State.actLogRead s c maint = (sx, qx)) : sx.isHeld = s.isHeld := by
  have e := State.actLogRead_isHeld s c maint
  rw [h] at e
  exact e
@[simp] theorem State.actEcho_isHeld (s : State) (f : Frame) : ((State.actEcho s f).1).isHeld = s.isHeld := by
  unfold State.actEcho; split <;> simp
theorem State.actEcho_isHeld_of (s : State) (f : Frame) {sx : State} {qx : Answer} (h : State.actEcho s f = (sx, qx)) : sx.isHeld = s.isHeld := by
  have e := State.actEcho_isHeld s f
  rw [h] at e
  exact e
@[simp] theorem State.actResetChip_isHeld (s : State) (f : Frame) : ((State.actResetChip s f).1).isHeld = s.isHeld := by
  unfold State.actResetChip; split <;> simp
theorem State.actResetChip_isHeld_of (s : State) (f : Frame) {sx : State} {qx : Answer} (h : State.actResetChip s f = (sx, qx)) : sx.isHeld = s.isHeld := by
  have e := State.actResetChip_isHeld s f
  rw [h] at e
  exact e
@[simp] theorem State.actSessionClose_isHeld (s : State) (f : Frame) :
    ((State.actSessionClose s f).1).isHeld = s.isHeld := by
  simp [State.actSessionClose]
theorem State.actSessionClose_isHeld_of (s : State) (f : Frame) {sx : State} {qx : Answer} (h : State.actSessionClose s f = (sx, qx)) : sx.isHeld = s.isHeld := by
  have e := State.actSessionClose_isHeld s f
  rw [h] at e
  exact e

/-! ### ServeOps -/

@[simp] theorem State.act_isHeld (s : State) (e : Service) : ((State.act s e).1).isHeld = s.isHeld := by
  unfold State.act; grind [isHeld_mk, isHeld_of_boot, → State.actRead_isHeld_of, → State.actWrite_isHeld_of, → State.actModify_isHeld_of, → State.actPortSend_isHeld_of, → State.actPortConfig_isHeld_of, → State.actPortFlush_isHeld_of, → State.actSchedule_isHeld_of, → State.actSnapshot_isHeld_of, → State.openSession_isHeld_of, → State.actSessionClose_isHeld_of, → State.actProfileSelect_isHeld_of, → State.actProfileStore_isHeld_of, → State.actSelftest_isHeld_of, → State.actHealth_isHeld_of, → State.actFaultAck_isHeld_of, → State.actSafeEnter_isHeld_of, → State.actSafeLeave_isHeld_of, → State.actUpdateBegin_isHeld_of, → State.actUpdateBlock_isHeld_of, → State.actUpdateVerify_isHeld_of, → State.actUpdateActivate_isHeld_of, → State.actUpdateConfirm_isHeld_of, → State.actUpdateRelay_isHeld_of, → State.actUpdateAbort_isHeld_of, → State.actTimeStep_isHeld_of, → State.actTimeRate_isHeld_of, → State.actStepRearm_isHeld_of, → State.actFence_isHeld_of, → State.actHandover_isHeld_of, → State.actPairStatus_isHeld_of, → State.actLogRead_isHeld_of, → State.actEcho_isHeld_of, → State.actResetChip_isHeld_of]
theorem State.act_isHeld_of (s : State) (e : Service) {sx : State} {qx : Answer} (h : State.act s e = (sx, qx)) : sx.isHeld = s.isHeld := by
  have e := State.act_isHeld s e
  rw [h] at e
  exact e
@[simp] theorem State.refuse_isHeld (s : State) (e : Service) (st : Status) : (State.refuse s e st).isHeld = s.isHeld := by
  simp [State.refuse]
@[simp] theorem State.execute_isHeld (s : State) (e : Service) : (State.execute s e).isHeld = s.isHeld := by
  unfold State.execute; grind [isHeld_mk, isHeld_of_boot, State.refuse_isHeld, State.sat_isHeld, → State.act_isHeld_of, State.finish_isHeld, State.bump_isHeld]

end Sys2Proof.Machine
end

section
/-!
What follows a change of mode leaves the mode as it is: one lemma per operation of the outputs and of the records (R198, R320, R359).
-/
namespace Sys2Proof.Machine

/-- The mode of the hub (R403). -/
def State.modeNow (s : State) : Mode := s.mode

theorem modeNow_of_mode (s : State) : s.mode = s.modeNow := by
  unfold State.modeNow; exact Eq.refl _
@[simp] theorem modeNow_mk (now freeIx pending regs timers mode ringAcc mgt flt isl boot profiles pair cmd upd sec ingress sent sw lanes time sched snap ports clus engs wins cans macs hbr pchs wire bypHold) :
    (State.mk now freeIx pending regs timers mode ringAcc mgt flt isl boot profiles pair cmd upd sec ingress sent sw lanes time sched snap ports clus engs wins cans macs hbr pchs wire bypHold).modeNow = mode := by
  unfold State.modeNow; exact Eq.refl _

/-! ### State -/

@[simp] theorem foldl_modeNow {α : Type} (f : State → α → State) (h : ∀ s a, (f s a).modeNow = s.modeNow) (l : List α)
    (s : State) : (l.foldl f s).modeNow = s.modeNow := by
  induction l generalizing s with
  | nil => rfl
  | cons a l ih => simp [ih, h]

/-! ### Ops -/

@[simp] theorem State.wr_modeNow (s : State) (r : Reg) (i : Nat) (j : Nat) (w : Word) :
    (State.wr s r i j w).modeNow = s.modeNow := by
  simp [↓modeNow_of_mode, State.wr]
@[simp] theorem State.put_modeNow (s : State) (f : Fld) (v : Nat) (i : Nat) (j : Nat) :
    (State.put s f v i j).modeNow = s.modeNow := by
  simp [State.put]
@[simp] theorem State.bump_modeNow (s : State) (r : Reg) (i : Nat) (j : Nat) (n : Nat) :
    (State.bump s r i j n).modeNow = s.modeNow := by
  simp [State.bump]
@[simp] theorem State.sat_modeNow (s : State) (f : Fld) (i : Nat) (j : Nat) : (State.sat s f i j).modeNow = s.modeNow := by
  simp [State.sat, apply_ite State.modeNow]
@[simp] theorem State.disarm_modeNow (s : State) (t : Timer) : (State.disarm s t).modeNow = s.modeNow := by
  simp [↓modeNow_of_mode, State.disarm]
@[simp] theorem State.arm_modeNow (s : State) (t : Timer) (d : Nat) : (State.arm s t d).modeNow = s.modeNow := by
  simp [↓modeNow_of_mode, State.arm]
@[simp] theorem State.fresh_modeNow (s : State) : ((State.fresh s).2).modeNow = s.modeNow := by
  simp [↓modeNow_of_mode, State.fresh]
theorem State.fresh_modeNow_of (s : State) {sx : Word} {qx : State} (h : State.fresh s = (sx, qx)) : qx.modeNow = s.modeNow := by
  have e := State.fresh_modeNow s
  rw [h] at e
  exact e
@[simp] theorem State.freshWords_modeNow (x0 : Nat) (x1 : State) : ((State.freshWords x0 x1).2).modeNow = x1.modeNow := by
  induction x0 generalizing x1 <;> simp_all [State.freshWords]
@[simp] theorem State.freeIn_modeNow (s : State) (lo : Nat) (hi : Nat) : ((State.freeIn s lo hi).2).modeNow = s.modeNow := by
  simp [↓modeNow_of_mode, State.freeIn]
theorem State.freeIn_modeNow_of (s : State) (lo : Nat) (hi : Nat) {sx : Nat} {qx : State} (h : State.freeIn s lo hi = (sx, qx)) : qx.modeNow = s.modeNow := by
  have e := State.freeIn_modeNow s lo hi
  rw [h] at e
  exact e
@[simp] theorem State.enqueue_modeNow (s : State) (x : UnitIn) : (State.enqueue s x).modeNow = s.modeNow := by
  simp [↓modeNow_of_mode, State.enqueue]
@[simp] theorem State.emit_modeNow (s : State) (f : Frame) (inPort : Nat) (slot : (Option Nat)) :
    (State.emit s f inPort slot).modeNow = s.modeNow := by
  simp [State.emit]
@[simp] theorem State.emitOut_modeNow (s : State) (f : Frame) (inPort : Nat) :
    (State.emitOut s f inPort).modeNow = s.modeNow := by
  simp [↓modeNow_of_mode, State.emitOut, apply_ite State.modeNow]
@[simp] theorem State.mirrorOne_modeNow (s : State) : (State.mirrorOne s).modeNow = s.modeNow := by
  unfold State.mirrorOne; split <;> simp [↓modeNow_of_mode, apply_ite State.modeNow]
@[simp] theorem State.log_modeNow (s : State) (audit : Bool) (cls : Nat) (origin : Nat) (source : Nat) (code : Nat) (who : Who) (data : List Word) :
    (State.log s audit cls origin source code who data).modeNow = s.modeNow := by
  simp [↓modeNow_of_mode, State.log, apply_ite State.modeNow]

/-! ### Flags -/

@[simp] theorem State.updateAlive_modeNow (s : State) : (State.updateAlive s).modeNow = s.modeNow := by
  simp [↓modeNow_of_mode, State.updateAlive, apply_ite State.modeNow]
@[simp] theorem State.faultPulse_modeNow (s : State) : (State.faultPulse s).modeNow = s.modeNow := by
  unfold State.faultPulse; grind [modeNow_mk, modeNow_of_mode, → State.freeIn_modeNow_of, State.arm_modeNow, State.bump_modeNow]
@[simp] theorem State.faultEvent_modeNow (s : State) (kind : Nat) (src : Nat) (reaction : Nat) :
    (State.faultEvent s kind src reaction).modeNow = s.modeNow := by
  simp [↓modeNow_of_mode, State.faultEvent, apply_ite State.modeNow]
@[simp] theorem State.raiseEvent_modeNow (s : State) (src : Nat) : (State.raiseEvent s src).modeNow = s.modeNow := by
  simp [↓modeNow_of_mode, State.raiseEvent, apply_ite State.modeNow]
@[simp] theorem State.faultRecord_modeNow (s : State) (src : Nat) (raised : Bool) :
    (State.faultRecord s src raised).modeNow = s.modeNow := by
  simp [↓modeNow_of_mode, State.faultRecord, apply_ite State.modeNow]
@[simp] theorem State.raiseCore_modeNow (s : State) (src : Nat) (inst : Nat) :
    (State.raiseCore s src inst).modeNow = s.modeNow := by
  simp [↓modeNow_of_mode, State.raiseCore, apply_ite State.modeNow]
@[simp] theorem State.raise_modeNow (s : State) (src : Nat) (inst : Nat) : (State.raise s src inst).modeNow = s.modeNow := by
  simp [State.raise, apply_ite State.modeNow]

/-! ### SwitchOps -/

@[simp] theorem State.setUnit_modeNow (s : State) (u : Nat) (v : VUnit) : (State.setUnit s u v).modeNow = s.modeNow := by
  simp [↓modeNow_of_mode, State.setUnit]
@[simp] theorem State.setQueue_modeNow (s : State) (q : Nat) (l : List Link) :
    (State.setQueue s q l).modeNow = s.modeNow := by
  simp [↓modeNow_of_mode, State.setQueue]
@[simp] theorem State.setResidue_modeNow (s : State) (q : Nat) (l : List ResEntry) :
    (State.setResidue s q l).modeNow = s.modeNow := by
  simp [↓modeNow_of_mode, State.setResidue]
@[simp] theorem State.retireCell_modeNow (s : State) (c : Nat) : (State.retireCell s c).modeNow = s.modeNow := by
  simp [↓modeNow_of_mode, State.retireCell, apply_ite State.modeNow]
@[simp] theorem State.gc_modeNow (s : State) (u : Nat) : ((State.gc s u).1).modeNow = s.modeNow := by
  unfold State.gc; (repeat' split) <;> simp_all [↓modeNow_of_mode]
theorem State.gc_modeNow_of (s : State) (u : Nat) {sx : State} {qx : Nat} (h : State.gc s u = (sx, qx)) : sx.modeNow = s.modeNow := by
  have e := State.gc_modeNow s u
  rw [h] at e
  exact e
@[simp] theorem State.notePeak_modeNow (s : State) (q : Nat) : (State.notePeak s q).modeNow = s.modeNow := by
  simp [State.notePeak, apply_ite State.modeNow]
@[simp] theorem State.linkQ_modeNow (s : State) (q : Nat) (l : Link) : (State.linkQ s q l).modeNow = s.modeNow := by
  simp [State.linkQ]
@[simp] theorem State.holdFor_modeNow (s : State) (u : Nat) (q : Nat) : (State.holdFor s u q).modeNow = s.modeNow := by
  simp [↓modeNow_of_mode, State.holdFor]
@[simp] theorem State.loupeCopy_modeNow (s : State) (m : Nat) (u : Nat) : (State.loupeCopy s m u).modeNow = s.modeNow := by
  unfold State.loupeCopy; grind [modeNow_mk, modeNow_of_mode, State.bump_modeNow, State.setResidue_modeNow, State.linkQ_modeNow]
@[simp] theorem State.loupeMark_modeNow (s : State) (m : Nat) (u : Nat) : (State.loupeMark s m u).modeNow = s.modeNow := by
  unfold State.loupeMark; split <;> simp
@[simp] theorem State.loupes_modeNow (s : State) (u : Nat) (p : Nat) (egress : Bool) (f : Frame) :
    (State.loupes s u p egress f).modeNow = s.modeNow := by
  simp [State.loupes, apply_ite State.modeNow]
@[simp] theorem State.linkUnit_modeNow (s : State) (q : Nat) (u : Nat) (cut : Bool) :
    (State.linkUnit s q u cut).modeNow = s.modeNow := by
  unfold State.linkUnit; grind [modeNow_mk, modeNow_of_mode, → State.gc_modeNow_of, State.bump_modeNow, State.linkQ_modeNow, State.loupes_modeNow]
@[simp] theorem State.unblock_modeNow (s : State) (q : Nat) (x2 : Nat) : (State.unblock s q x2).modeNow = s.modeNow := by
  (induction x2 generalizing s q) <;> (unfold State.unblock; (repeat' split)) <;> simp_all [↓modeNow_of_mode]
@[simp] theorem State.unblockAll_modeNow (s : State) (q : Nat) : (State.unblockAll s q).modeNow = s.modeNow := by
  simp [State.unblockAll]
@[simp] theorem State.residueTest_modeNow (s : State) (q : Nat) (x2 : Nat) :
    (State.residueTest s q x2).modeNow = s.modeNow := by
  (induction x2 generalizing s q) <;> (unfold State.residueTest; (repeat' split)) <;> simp_all
@[simp] theorem State.unlink_modeNow (s : State) (q : Nat) (u : Nat) (loupe : Option Nat) :
    ((State.unlink s q u loupe).1).modeNow = s.modeNow := by
  simp [State.unlink]
@[simp] theorem State.transmit_modeNow (s : State) (p : Nat) (f : Frame) (rind : Word) :
    (State.transmit s p f rind).modeNow = s.modeNow := by
  simp [↓modeNow_of_mode, State.transmit, apply_ite State.modeNow]

/-! ### OrderOps -/

@[simp] theorem State.orderedSet_modeNow (s : State) (d1 : BitVec 8) (d2 : BitVec 8) (d3 : BitVec 8) :
    (State.orderedSet s d1 d2 d3).modeNow = s.modeNow := by
  simp [↓modeNow_of_mode, State.orderedSet]
@[simp] theorem State.orderSet_modeNow (s : State) (d1 : BitVec 8) (on : Nat) :
    (State.orderSet s d1 on).modeNow = s.modeNow := by
  simp [State.orderSet]
@[simp] theorem State.privateWords_modeNow (s : State) : ((State.privateWords s).2).modeNow = s.modeNow := by
  simp [State.privateWords]
@[simp] theorem State.startTransfer_modeNow (s : State) : (State.startTransfer s).modeNow = s.modeNow := by
  simp [↓modeNow_of_mode, State.startTransfer]
@[simp] theorem State.twinDown_modeNow (s : State) : (State.twinDown s).modeNow = s.modeNow := by
  simp [↓modeNow_of_mode, State.twinDown]
@[simp] theorem State.transferAgain_modeNow (s : State) : (State.transferAgain s).modeNow = s.modeNow := by
  simp [↓modeNow_of_mode, State.transferAgain, apply_ite State.modeNow]
@[simp] theorem State.placeOrder_modeNow (s : State) (f : Frame) : (State.placeOrder s f).modeNow = s.modeNow := by
  simp [↓modeNow_of_mode, State.placeOrder, apply_ite State.modeNow]
@[simp] theorem State.sendOrder_modeNow (s : State) (f : Frame) : (State.sendOrder s f).modeNow = s.modeNow := by
  simp [↓modeNow_of_mode, State.sendOrder, apply_ite State.modeNow]
@[simp] theorem State.sendPairOrder_modeNow (s : State) (kind : Nat) (ws : List Word) :
    (State.sendPairOrder s kind ws).modeNow = s.modeNow := by
  simp [State.sendPairOrder]
@[simp] theorem State.progressOrder_modeNow (s : State) (port : Nat) (outcome : Nat) (seq : BitVec 16) :
    (State.progressOrder s port outcome seq).modeNow = s.modeNow := by
  simp [State.progressOrder]

/-! ### RouteOps -/

@[simp] theorem State.macCount_modeNow (s : State) (m : Nat) (k : Nat) (n : Nat) :
    (State.macCount s m k n).modeNow = s.modeNow := by
  simp [State.macCount, apply_ite State.modeNow]
@[simp] theorem State.ueMet_modeNow (s : State) (w : Nat) : (State.ueMet s w).modeNow = s.modeNow := by
  simp [↓modeNow_of_mode, State.ueMet, apply_ite State.modeNow]
@[simp] theorem State.ceMet_modeNow (s : State) (w : Nat) (n : Nat) : (State.ceMet s w n).modeNow = s.modeNow := by
  simp [State.ceMet]
@[simp] theorem State.meetWords_modeNow (s : State) (ws : List Nat) : (State.meetWords s ws).modeNow = s.modeNow := by
  unfold State.meetWords
  refine foldl_modeNow _ (fun s w => ?_) _ _
  split
  · simp
  · split <;> simp
@[simp] theorem State.meetUnit_modeNow (s : State) (v : VUnit) : (State.meetUnit s v).modeNow = s.modeNow := by
  simp [State.meetUnit]
@[simp] theorem State.takeLocal_modeNow (s : State) (p : Nat) : ((State.takeLocal s p).1).modeNow = s.modeNow := by
  simp only [State.takeLocal]; (repeat' split) <;> simp_all
theorem State.takeLocal_modeNow_of (s : State) (p : Nat) {sx : State} {qx : Option (VUnit × Link)} (h : State.takeLocal s p = (sx, qx)) : sx.modeNow = s.modeNow := by
  have e := State.takeLocal_modeNow s p
  rw [h] at e
  exact e

/-! ### ClusterOps -/

@[simp] theorem State.setClu_modeNow (s : State) (k : Nat) (x : CluS) : (State.setClu s k x).modeNow = s.modeNow := by
  simp [↓modeNow_of_mode, State.setClu]
@[simp] theorem State.settleAt_modeNow (s : State) (k : Nat) (t : Nat) : (State.settleAt s k t).modeNow = s.modeNow := by
  simp [State.settleAt, apply_ite State.modeNow]
@[simp] theorem State.settleNet_modeNow (s : State) (k : Nat) : (State.settleNet s k).modeNow = s.modeNow := by
  simp [State.settleNet]
@[simp] theorem State.settleAll_modeNow (s : State) : (State.settleAll s).modeNow = s.modeNow := by
  simp [State.settleAll]

/-! ### CanOps -/

@[simp] theorem State.setCan_modeNow (s : State) (n : Nat) (x : CanS) : (State.setCan s n x).modeNow = s.modeNow := by
  simp [↓modeNow_of_mode, State.setCan]
@[simp] theorem State.canLoad_modeNow (s : State) (n : Nat) (t : CanTx) : (State.canLoad s n t).modeNow = s.modeNow := by
  simp [State.canLoad]
@[simp] theorem State.canFillAt_modeNow (s : State) (n : Nat) (at_ : Nat) :
    (State.canFillAt s n at_).modeNow = s.modeNow := by
  unfold State.canFillAt; grind [modeNow_mk, modeNow_of_mode, State.canLoad_modeNow, State.setCan_modeNow, → State.takeLocal_modeNow_of]
@[simp] theorem State.canFill_modeNow (s : State) (n : Nat) : (State.canFill s n).modeNow = s.modeNow := by
  simp [State.canFill]

/-! ### MacOps -/

@[simp] theorem State.setMac_modeNow (s : State) (m : Nat) (x : MacS) : (State.setMac s m x).modeNow = s.modeNow := by
  simp [↓modeNow_of_mode, State.setMac]
@[simp] theorem State.setMacQueue_modeNow (s : State) (m : Nat) (q : Nat) (l : List MacTx) :
    (State.setMacQueue s m q l).modeNow = s.modeNow := by
  simp [State.setMacQueue]
@[simp] theorem State.macStart_modeNow (s : State) (m : Nat) (at_ : Nat) : (State.macStart s m at_).modeNow = s.modeNow := by
  simp [State.macStart]
@[simp] theorem State.macLoad_modeNow (s : State) (m : Nat) (t : MacTx) : (State.macLoad s m t).modeNow = s.modeNow := by
  simp [State.macLoad, apply_ite State.modeNow]
@[simp] theorem State.macYield_modeNow (s : State) (m : Nat) : (State.macYield s m).modeNow = s.modeNow := by
  unfold State.macYield; grind [modeNow_mk, modeNow_of_mode, State.setMacQueue_modeNow, State.setMac_modeNow]
@[simp] theorem State.macFill_modeNow (s : State) (m : Nat) : (State.macFill s m).modeNow = s.modeNow := by
  unfold State.macFill; grind [modeNow_mk, modeNow_of_mode, State.macYield_modeNow, State.macLoad_modeNow, State.setMac_modeNow, State.setMacQueue_modeNow]
@[simp] theorem State.macLose_modeNow (s : State) (m : Nat) (count : Nat) :
    (State.macLose s m count).modeNow = s.modeNow := by
  simp [State.macLose]
@[simp] theorem State.macClose_modeNow (s : State) (m : Nat) : (State.macClose s m).modeNow = s.modeNow := by
  simp [State.macClose, apply_ite State.modeNow]
@[simp] theorem State.macPackRec_modeNow (s : State) (m : Nat) (time : Word) (alone : Bool) (ws : List Word) :
    (State.macPackRec s m time alone ws).modeNow = s.modeNow := by
  simp [State.macPackRec, apply_ite State.modeNow]
@[simp] theorem State.macDeliver_modeNow (s : State) (m : Nat) (hdr : Word) (time : Word) (data : List Byte) :
    (State.macDeliver s m hdr time data).modeNow = s.modeNow := by
  simp [State.macDeliver, apply_ite State.modeNow]
@[simp] theorem State.macReport_modeNow (s : State) (m : Nat) (t : MacTx) (outcome : Nat) :
    (State.macReport s m t outcome).modeNow = s.modeNow := by
  simp [State.macReport, apply_ite State.modeNow]
@[simp] theorem State.macLeave_modeNow (s : State) (m : Nat) (t : MacTx) (outcome : Nat) :
    (State.macLeave s m t outcome).modeNow = s.modeNow := by
  simp [State.macLeave, apply_ite State.modeNow]
@[simp] theorem State.macGate_modeNow (s : State) (m : Nat) : (State.macGate s m).modeNow = s.modeNow := by
  unfold State.macGate; grind [modeNow_mk, modeNow_of_mode, State.macYield_modeNow, State.macFill_modeNow, State.macLeave_modeNow, State.macCount_modeNow, State.setMac_modeNow, State.macStart_modeNow, State.disarm_modeNow]

/-! ### BridgeOps -/

@[simp] theorem State.setHbr_modeNow (s : State) (h : HbrS) : (State.setHbr s h).modeNow = s.modeNow := by
  simp [↓modeNow_of_mode, State.setHbr]
@[simp] theorem State.hostOut_modeNow (s : State) (o : HostOut) : (State.hostOut s o).modeNow = s.modeNow := by
  simp [State.hostOut]
@[simp] theorem State.msi_modeNow (s : State) (v : Nat) : (State.msi s v).modeNow = s.modeNow := by
  simp [State.msi, apply_ite State.modeNow]
@[simp] theorem State.hbrIrq_modeNow (s : State) (f : Fld) (v : Nat) : (State.hbrIrq s f v).modeNow = s.modeNow := by
  simp [State.hbrIrq, apply_ite State.modeNow]
@[simp] theorem State.hbrMode_modeNow (s : State) : (State.hbrMode s).modeNow = s.modeNow := by
  simp [State.hbrMode, apply_ite State.modeNow]

/-! ### PowerOps -/

@[simp] theorem State.setPch_modeNow (s : State) (c : Nat) (x : PchS) : (State.setPch s c x).modeNow = s.modeNow := by
  simp [↓modeNow_of_mode, State.setPch]
@[simp] theorem State.setPst_modeNow (s : State) (c : Nat) (st : Nat) : (State.setPst s c st).modeNow = s.modeNow := by
  simp [State.setPst]
@[simp] theorem State.pgQualify_modeNow (s : State) (c : Nat) (from_ : Nat) :
    (State.pgQualify s c from_).modeNow = s.modeNow := by
  simp [↓modeNow_of_mode, State.pgQualify, apply_ite State.modeNow]
@[simp] theorem State.startRamp_modeNow (s : State) (c : Nat) : (State.startRamp s c).modeNow = s.modeNow := by
  simp [State.startRamp, apply_ite State.modeNow]
@[simp] theorem State.pchRegain_modeNow (s : State) (c : Nat) : (State.pchRegain s c).modeNow = s.modeNow := by
  simp [State.pchRegain, apply_ite State.modeNow]
@[simp] theorem State.pwrSettle_modeNow (s : State) : (State.pwrSettle s).modeNow = s.modeNow := by
  simp [State.pwrSettle]

/-! ### SafeOps -/

@[simp] theorem State.settleOutputs_modeNow (s : State) : (State.settleOutputs s).modeNow = s.modeNow := by
  simp [State.settleOutputs]
@[simp] theorem State.logMode_modeNow (s : State) (old : Mode) (cause : Option Nat) (reason : Word) :
    (State.logMode s old cause reason).modeNow = s.modeNow := by
  unfold State.logMode; grind [modeNow_mk, modeNow_of_mode, → State.fresh_modeNow_of, State.log_modeNow]

/-! ### ReactOps -/

@[simp] theorem State.reactionRecord_modeNow (s : State) (src : Nat) (r : Nat) :
    (State.reactionRecord s src r).modeNow = s.modeNow := by
  simp [State.reactionRecord]
@[simp] theorem State.reactTaken_modeNow (s : State) (srcs : List Nat) (r : Nat) :
    (State.reactTaken s srcs r).modeNow = s.modeNow := by
  unfold State.reactTaken; split <;> simp [apply_ite State.modeNow]

end Sys2Proof.Machine
end

section
/-!
What joins the ring again and settles the field nets leaves the islands' resets as they are (R103, R198).
-/
namespace Sys2Proof.Machine

/-- The islands in reset (R389). -/
def State.inReset (s : State) : BitVec 21 := s.isl.rst

theorem inReset_of_isl (s : State) : s.isl.rst = s.inReset := by
  unfold State.inReset; exact Eq.refl _
@[simp] theorem inReset_mk (now freeIx pending regs timers mode ringAcc mgt flt isl boot profiles pair cmd upd sec ingress sent sw lanes time sched snap ports clus engs wins cans macs hbr pchs wire bypHold) :
    (State.mk now freeIx pending regs timers mode ringAcc mgt flt isl boot profiles pair cmd upd sec ingress sent sw lanes time sched snap ports clus engs wins cans macs hbr pchs wire bypHold).inReset = isl.rst := by
  unfold State.inReset; exact Eq.refl _

/-! ### State -/

@[simp] theorem foldl_inReset {α : Type} (f : State → α → State) (h : ∀ s a, (f s a).inReset = s.inReset) (l : List α)
    (s : State) : (l.foldl f s).inReset = s.inReset := by
  induction l generalizing s with
  | nil => rfl
  | cons a l ih => simp [ih, h]

/-! ### Ops -/

@[simp] theorem State.wr_inReset (s : State) (r : Reg) (i : Nat) (j : Nat) (w : Word) :
    (State.wr s r i j w).inReset = s.inReset := by
  simp [↓inReset_of_isl, State.wr]
@[simp] theorem State.put_inReset (s : State) (f : Fld) (v : Nat) (i : Nat) (j : Nat) :
    (State.put s f v i j).inReset = s.inReset := by
  simp [State.put]
@[simp] theorem State.bump_inReset (s : State) (r : Reg) (i : Nat) (j : Nat) (n : Nat) :
    (State.bump s r i j n).inReset = s.inReset := by
  simp [State.bump]
@[simp] theorem State.sat_inReset (s : State) (f : Fld) (i : Nat) (j : Nat) : (State.sat s f i j).inReset = s.inReset := by
  simp [State.sat, apply_ite State.inReset]
@[simp] theorem State.arm_inReset (s : State) (t : Timer) (d : Nat) : (State.arm s t d).inReset = s.inReset := by
  simp [↓inReset_of_isl, State.arm]
@[simp] theorem State.disarmAll_inReset (s : State) (p : Timer → Bool) : (State.disarmAll s p).inReset = s.inReset := by
  simp [↓inReset_of_isl, State.disarmAll]
@[simp] theorem State.freeIn_inReset (s : State) (lo : Nat) (hi : Nat) : ((State.freeIn s lo hi).2).inReset = s.inReset := by
  simp [↓inReset_of_isl, State.freeIn]
theorem State.freeIn_inReset_of (s : State) (lo : Nat) (hi : Nat) {sx : Nat} {qx : State} (h : State.freeIn s lo hi = (sx, qx)) : qx.inReset = s.inReset := by
  have e := State.freeIn_inReset s lo hi
  rw [h] at e
  exact e
@[simp] theorem State.enqueue_inReset (s : State) (x : UnitIn) : (State.enqueue s x).inReset = s.inReset := by
  simp [↓inReset_of_isl, State.enqueue]
@[simp] theorem State.emit_inReset (s : State) (f : Frame) (inPort : Nat) (slot : (Option Nat)) :
    (State.emit s f inPort slot).inReset = s.inReset := by
  simp [State.emit]
@[simp] theorem State.mirrorOne_inReset (s : State) : (State.mirrorOne s).inReset = s.inReset := by
  unfold State.mirrorOne; split <;> simp [↓inReset_of_isl, apply_ite State.inReset]
@[simp] theorem State.log_inReset (s : State) (audit : Bool) (cls : Nat) (origin : Nat) (source : Nat) (code : Nat) (who : Who) (data : List Word) :
    (State.log s audit cls origin source code who data).inReset = s.inReset := by
  simp [↓inReset_of_isl, State.log, apply_ite State.inReset]

/-! ### Flags -/

@[simp] theorem State.updateAlive_inReset (s : State) : (State.updateAlive s).inReset = s.inReset := by
  simp [↓inReset_of_isl, State.updateAlive, apply_ite State.inReset]
@[simp] theorem State.faultPulse_inReset (s : State) : (State.faultPulse s).inReset = s.inReset := by
  unfold State.faultPulse; grind [inReset_mk, inReset_of_isl, → State.freeIn_inReset_of, State.arm_inReset, State.bump_inReset]
@[simp] theorem State.faultEvent_inReset (s : State) (kind : Nat) (src : Nat) (reaction : Nat) :
    (State.faultEvent s kind src reaction).inReset = s.inReset := by
  simp [↓inReset_of_isl, State.faultEvent, apply_ite State.inReset]
@[simp] theorem State.raiseEvent_inReset (s : State) (src : Nat) : (State.raiseEvent s src).inReset = s.inReset := by
  simp [↓inReset_of_isl, State.raiseEvent, apply_ite State.inReset]
@[simp] theorem State.faultRecord_inReset (s : State) (src : Nat) (raised : Bool) :
    (State.faultRecord s src raised).inReset = s.inReset := by
  simp [↓inReset_of_isl, State.faultRecord, apply_ite State.inReset]
@[simp] theorem State.raiseCore_inReset (s : State) (src : Nat) (inst : Nat) :
    (State.raiseCore s src inst).inReset = s.inReset := by
  simp [↓inReset_of_isl, State.raiseCore, apply_ite State.inReset]
@[simp] theorem State.raise_inReset (s : State) (src : Nat) (inst : Nat) : (State.raise s src inst).inReset = s.inReset := by
  simp [State.raise, apply_ite State.inReset]

/-! ### SwitchOps -/

@[simp] theorem State.setUnit_inReset (s : State) (u : Nat) (v : VUnit) : (State.setUnit s u v).inReset = s.inReset := by
  simp [↓inReset_of_isl, State.setUnit]
@[simp] theorem State.retireCell_inReset (s : State) (c : Nat) : (State.retireCell s c).inReset = s.inReset := by
  simp [↓inReset_of_isl, State.retireCell, apply_ite State.inReset]
@[simp] theorem State.gc_inReset (s : State) (u : Nat) : ((State.gc s u).1).inReset = s.inReset := by
  unfold State.gc; (repeat' split) <;> simp_all [↓inReset_of_isl]
@[simp] theorem State.transmit_inReset (s : State) (p : Nat) (f : Frame) (rind : Word) :
    (State.transmit s p f rind).inReset = s.inReset := by
  simp [↓inReset_of_isl, State.transmit, apply_ite State.inReset]
@[simp] theorem State.ruined_inReset (s : State) (u : Nat) : (State.ruined s u).inReset = s.inReset := by
  unfold State.ruined; split <;> simp [apply_ite State.inReset]
@[simp] theorem State.endCut_inReset (s : State) (p : Nat) : ((State.endCut s p).1).inReset = s.inReset := by
  unfold State.endCut; (repeat' split) <;> simp_all [↓inReset_of_isl]
@[simp] theorem State.truncate_inReset (s : State) (p : Nat) : (State.truncate s p).inReset = s.inReset := by
  simp [State.truncate]

/-! ### LinkOps -/

@[simp] theorem State.setLst_inReset (s : State) (l : Nat) (st : Nat) : (State.setLst s l st).inReset = s.inReset := by
  simp [State.setLst]
@[simp] theorem State.spurJoin_inReset (s : State) : (State.spurJoin s).inReset = s.inReset := by
  simp [↓inReset_of_isl, State.spurJoin, apply_ite State.inReset]
@[simp] theorem State.repeatJoin_inReset (s : State) : (State.repeatJoin s).inReset = s.inReset := by
  simp [↓inReset_of_isl, State.repeatJoin, apply_ite State.inReset]

/-! ### ClusterOps -/

@[simp] theorem State.setClu_inReset (s : State) (k : Nat) (x : CluS) : (State.setClu s k x).inReset = s.inReset := by
  simp [↓inReset_of_isl, State.setClu]
@[simp] theorem State.settleAt_inReset (s : State) (k : Nat) (t : Nat) : (State.settleAt s k t).inReset = s.inReset := by
  simp [State.settleAt, apply_ite State.inReset]
@[simp] theorem State.settleNet_inReset (s : State) (k : Nat) : (State.settleNet s k).inReset = s.inReset := by
  simp [State.settleNet]

end Sys2Proof.Machine
end

section
/-!
What ends a step cannot put the end of a session before an order to the partner (R42, R337): a relation between a state and what
a step makes of it, closed under composition and proved for each part of `State.done`.
-/
namespace Sys2Proof.Machine

/-- RECOVERY with the PIN reset held (R407), every island out of reset, no profile change and no handover under way. -/
def State.calm (s : State) : Prop :=
  s.boot.held = true ∧ s.boot.switch = none ∧ s.mode = .recovery ∧ s.isl.rst = 0 ∧ s.pair.handover = none

/-- If a session is spent, no order has begun to wait for its acknowledgement since the last one was. -/
def State.lateSpent (s : State) : Prop := s.cmd.sessions.any (·.spent) = true → lastMark s.timers ≠ some .ack

/-- A step that comes out calm began calm, and put no order between the end of a session and now. -/
def CalmStep (s t : State) : Prop := t.calm → s.calm ∧ (s.lateSpent → t.lateSpent)

namespace CalmStep
variable {s t u : State}

theorem refl (s : State) : CalmStep s s := fun h => ⟨h, id⟩

theorem trans (h : CalmStep s t) (g : CalmStep t u) : CalmStep s u := fun hu =>
  have ⟨ht, gl⟩ := g hu
  have ⟨hs, hl⟩ := h ht
  ⟨hs, gl ∘ hl⟩

theorem of_not_calm (h : ¬ t.calm) : CalmStep s t := fun ht => absurd ht h

theorem of_watch (h : t.watch = s.watch) : CalmStep s t := by
  simp only [State.watch, Prod.mk.injEq] at h
  obtain ⟨hheld, hswitch, hmode, hrst, hover, hsess, hlast⟩ := h
  simp only [CalmStep, State.calm, State.lateSpent, hheld, hswitch, hmode, hrst, hover, hsess, hlast]
  exact fun h => ⟨h, id⟩

theorem foldl {α : Type} {f : State → α → State} (h : ∀ s a, CalmStep s (f s a)) (l : List α) (s : State) :
    CalmStep s (l.foldl f s) := by
  induction l generalizing s with
  | nil => exact refl s
  | cons a l ih => exact (h s a).trans (ih _)

theorem ite {p : Prop} [Decidable p] (h : CalmStep s t) (g : CalmStep s u) : CalmStep s (if p then t else u) := by
  split
  · exact h
  · exact g

theorem of_parts (hboot : t.boot = s.boot) (hmode : t.mode = s.mode) (hisl : t.isl = s.isl) (hpair : t.pair = s.pair)
    (hlate : s.lateSpent → t.lateSpent) : CalmStep s t := by
  simp only [CalmStep, State.calm, hboot, hmode, hisl, hpair]
  exact fun h => ⟨h, hlate⟩

/-- Sessions may change in all but what says that they are spent. -/
theorem of_sessions (f : Session → Session) (h : ∀ x, (f x).spent = x.spent) (s : State) :
    CalmStep s { s with cmd := { s.cmd with sessions := s.cmd.sessions.map f } } := by
  refine of_parts rfl rfl rfl rfl ?_
  simp only [State.lateSpent, List.any_map, Function.comp_def, h]
  exact id

theorem arm_sessSpent (s : State) (xs : List Session) (n d : Nat) :
    CalmStep s ({ s with cmd := { s.cmd with sessions := xs } }.arm (.sessSpent n) d) :=
  of_parts rfl rfl rfl rfl fun _ _ => by simp [State.arm, lastMark, Timer.marks]

theorem spendSessions (s : State) : CalmStep s s.spendSessions := by
  unfold State.spendSessions
  refine foldl (fun s x => ?_) _ _
  split
  · exact arm_sessSpent s _ _ _
  · exact refl s

theorem sealFrame (s : State) (slot : Option Nat) (f : Frame) : CalmStep s (s.sealFrame slot f).2 :=
  of_sessions _ (fun x => by split <;> rfl) s

theorem sealFrame_unless (s s' : State) (f f' : Frame) (h : (if f.session = 0 then (f, s) else s.sealFrame none f) = (f', s')) :
    CalmStep s s' := by
  split at h
  · cases h
    exact refl s
  · have hs := sealFrame s none f
    rwa [h] at hs

theorem romSend (s : State) (f : Frame) : CalmStep s (s.romSend f) := by
  unfold State.romSend
  split
  next f' s' htake =>
  refine trans (of_watch (State.takeSeq_watch_of _ _ htake)) ?_
  split
  next f'' s'' hseal =>
  refine trans (sealFrame_unless s' s'' f' f'' hseal) ?_
  refine trans (spendSessions s'') (ite (ite ?_ ?_) ?_)
  · exact of_watch (State.bump_watch ..)
  · exact of_watch (State.rxWrite_watch ..)
  · exact foldl (fun s l => ite (of_watch (State.transmit_watch ..)) (refl s)) _ _

theorem sendOwn (s : State) (f : Frame) : CalmStep s (s.sendOwn f) := by
  unfold State.sendOwn
  split
  · split
    · exact of_parts rfl rfl rfl rfl id
    · exact romSend s f
  · exact of_watch (State.emitOut_watch ..)

theorem reply (s : State) (c : Cmd) (ordered : Bool) (a : Answer) : CalmStep s (s.reply c ordered a) := by
  unfold State.reply
  exact ite (refl s) (ite (of_watch (State.respond_watch ..)) (sendOwn s _))

theorem answer (s : State) (c : Cmd) (ordered : Bool) (a : Answer) : CalmStep s (s.answer c ordered a) := by
  unfold State.answer
  exact trans (reply s c ordered a) (ite (of_watch (State.cachePut_watch ..)) (refl _))

theorem finish (s : State) (c : Cmd) (ordered : Bool) (a : Answer) : CalmStep s (s.finish c ordered a) := by
  unfold State.finish
  dsimp only
  refine trans (t := if a.status = stDenied ∨ a.status = stAuthFail then s.noteRefusal c.frame a.status false else s)
    (ite (of_watch (State.noteRefusal_watch ..)) (refl s)) ?_
  generalize (if a.status = stDenied ∨ a.status = stAuthFail then _ else s : State) = s
  refine trans (answer s c ordered a) ?_
  generalize s.answer c ordered a = u
  refine trans (t := if ordered then u else u.auditCmd c.frame a.status) (ite (refl u) (of_watch (State.auditCmd_watch ..))) ?_
  generalize (if ordered then u else u.auditCmd c.frame a.status) = u
  split <;> split
  · exact of_parts rfl rfl rfl rfl id
  · exact of_parts rfl rfl rfl rfl id
  · exact trans (of_parts rfl rfl rfl rfl id) (of_watch (State.release_watch ..))
  · exact of_watch (State.release_watch ..)

theorem conclude (s : State) (c : Cmd) (a : Answer) : CalmStep s (s.conclude c a) := by
  unfold State.conclude
  split
  · exact finish s c _ a
  · exact refl s

theorem romFlush (s : State) : CalmStep s s.romFlush := by
  unfold State.romFlush
  exact ite (refl s) (trans (of_parts rfl rfl rfl rfl id) (foldl romSend _ _))

end CalmStep

/-! ### What ends calm -/

theorem not_calm_of_isHeld {s : State} (h : s.isHeld = false) : ¬ s.calm := fun hc => by
  have hheld : s.isHeld = true := hc.1
  simp [h] at hheld

theorem not_calm_of_modeNow {s : State} (h : s.modeNow ≠ .recovery) : ¬ s.calm := fun ⟨_, _, hmode, _, _⟩ => h hmode

theorem not_calm_of_handover {s : State} (h : s.pair.handover.isSome = true) : ¬ s.calm := fun ⟨_, _, _, _, hover⟩ => by
  simp [hover] at h

theorem not_calm_of_inReset {s : State} {i : Nat} (h : s.inReset.getLsbD i = true) : ¬ s.calm := fun ⟨_, _, _, hrst, _⟩ => by
  have hz : s.inReset = 0 := hrst
  simp [hz] at h

theorem State.setRst_inReset (s : State) {i : Nat} (h : i ≤ 20) : (s.setRst i true).inReset.getLsbD i = true := by
  simp [State.setRst, show i < 21 by omega]

@[simp] theorem State.setResync_inReset (s : State) (i : Nat) (on : Bool) : (s.setResync i on).inReset = s.inReset := by
  simp [State.setResync, ↓inReset_of_isl]

@[simp] theorem State.setIslRst_inReset (s : State) (i : Nat) (on : Bool) : (s.setIslRst i on).inReset = s.inReset := by
  simp [State.setIslRst, ↓inReset_of_isl]

@[simp] theorem State.resetRegs_inReset (s : State) (p : Cls → Nat → Bool) : (s.resetRegs p).inReset = s.inReset := by
  simp [State.resetRegs, ↓inReset_of_isl]

theorem State.assertReset_inReset (s : State) {i : Nat} (p : Cls → Bool) (h : i ≤ 20) :
    (s.assertReset i p).inReset.getLsbD i = true := by
  simp [State.assertReset, apply_ite State.inReset, ↓inReset_of_isl, State.setRst_inReset _ h]

/-- An island reset that is not refused holds its island in reset (R389). -/
theorem State.islReset_inReset (s : State) {i : Nat} (h : ¬ (i = 0 ∨ i > 20 ∨ !(s.rd .islPwrStat).getLsbD i)) :
    (s.islReset i).inReset.getLsbD i = true := by
  have hi : i ≤ 20 := by omega
  unfold State.islReset
  rw [if_neg h]
  dsimp only
  have hcount : ((s.bump .islRstCnt i).put F.CTL_RSTCAUSE_ISL 1).inReset = s.inReset := by simp
  generalize (s.bump .islRstCnt i).put F.CTL_RSTCAUSE_ISL 1 = u at hcount
  have hrst : u.isl.rst = s.isl.rst := hcount
  have hheld : (if u.isl.rst.getLsbD i then u else u.assertReset i (· == .i)).inReset.getLsbD i = true := by
    split
    · assumption
    · exact u.assertReset_inReset _ hi
  generalize (if u.isl.rst.getLsbD i then u else u.assertReset i (· == .i)) = v at hheld
  split
  · exact hheld
  · simpa using hheld

@[simp] theorem State.startOver_modeNow (s : State) (kind : ResetKind) : (s.startOver kind).modeNow = .boot := by
  unfold State.startOver State.modeNow
  rfl

/-- A chip reset goes to BOOT (R389). -/
theorem State.chipReset_modeNow (s : State) (kind : ResetKind) : (s.chipReset kind).modeNow = .boot := by
  unfold State.chipReset
  split
  simp

/-- A profile change is under way from its first step (R420). -/
theorem not_calm_switchBegin (s : State) (p : Nat) : ¬ (s.switchBegin p).calm := fun ⟨_, hswitch, _⟩ => by
  simp [State.switchBegin] at hswitch

/-- SAFE stays the mode to the end of its entry. -/
theorem State.toSafe_modeNow (s : State) (w : Word) : (s.toSafe w).modeNow = .safe := by
  simp [State.toSafe, State.setMode, apply_ite State.modeNow]

@[simp] theorem State.runHeld_isHeld (n : Nat) (s : State) : (s.runHeld n).isHeld = s.isHeld := by
  induction n generalizing s with
  | zero => rfl
  | succ n ih => unfold State.runHeld; grind [isHeld_mk, isHeld_of_boot, State.execute_isHeld]

/-- MGT is down while the PIN reset is held (R407). -/
theorem State.isHeld_of_mgtUp {s : State} (h : s.mgtUp = true) : s.isHeld = false := by
  unfold State.mgtUp at h
  unfold State.isHeld
  simp_all

theorem State.startTimeout_watch (s : State) (t : Nat) : (s.startTimeout t).watch = s.watch := by
  have harm (u : State) (d : Nat) : (u.arm (.cmdTimeout 5 t) d).watch = u.watch := u.arm_watch d (by unfold Timer.marks; rfl)
  unfold State.startTimeout
  split
  · rfl
  · split
    · rfl
    · exact harm ..

namespace CalmStep

theorem islReset (s : State) (i : Nat) : CalmStep s (s.islReset i) := by
  by_cases h : i = 0 ∨ i > 20 ∨ !(s.rd .islPwrStat).getLsbD i
  · unfold State.islReset
    rw [if_pos h]
    exact refl s
  · exact of_not_calm (not_calm_of_inReset (s.islReset_inReset h))

theorem chipReset (s : State) (kind : ResetKind) : CalmStep s (s.chipReset kind) :=
  of_not_calm (not_calm_of_modeNow (by simp [s.chipReset_modeNow]))

theorem resetIslands (s : State) (m : BitVec 21) : CalmStep s (s.resetIslands m) :=
  foldl (fun s i => ite (islReset s i) (refl s)) _ s

theorem sessionOpened (s : State) (n : BitVec 16) : CalmStep s (s.sessionOpened n) :=
  ite (of_watch (s.arm_watch _ (by unfold Timer.marks; rfl))) (refl s)

theorem sessionClosing (s : State) (n : BitVec 16) : CalmStep s (s.sessionClosing n) := by
  unfold State.sessionClosing
  split
  · exact refl s
  next x hx =>
  have hmem : x ∈ s.cmd.sessions := List.mem_of_find?_eq_some hx
  refine of_parts rfl rfl rfl rfl fun hlate hspent => ?_
  have hlast : lastMark ((s.setSession { x with closing := true }).disarmAll
      (fun t => t == .sessIdle n.toNat || t == .sessUnused n.toNat)).timers = lastMark s.timers :=
    lastMark_filter _ fun e he => by
      rcases e with ⟨t, d⟩
      cases t <;> simp_all [Timer.marks]
  rw [hlast]
  refine hlate ?_
  simp only [State.disarmAll, State.setSession, List.any_eq_true, List.mem_map] at hspent ⊢
  obtain ⟨_, ⟨y, hy, rfl⟩, hspent⟩ := hspent
  split at hspent
  · exact ⟨x, hmem, hspent⟩
  · exact ⟨y, hy, hspent⟩

theorem runAfter (s : State) (a : After) : CalmStep s (s.runAfter a) := by
  cases a with
  | islands m => exact resetIslands s m
  | opened n old =>
    cases old with
    | none => exact sessionOpened s n
    | some o => exact trans (sessionOpened s n) (sessionClosing _ o)
  | chip => exact chipReset s .cmd
  | profile p => exact of_not_calm (not_calm_switchBegin s p)

theorem runDue (s : State) : CalmStep s s.runDue := by
  unfold State.runDue
  exact trans (of_parts rfl rfl rfl rfl id) (foldl (fun s (a : Frame × After) => runAfter s a.2) _ _)

theorem winReply (s : State) (w : Nat) (r : WinReq) (a : Answer) : CalmStep s (s.winReply w r a) :=
  trans (of_watch (State.put_watch ..)) (conclude _ r.cmd a)

theorem winNext (s : State) (w : Nat) (l : List WinReq) : CalmStep s (s.winNext w l) := by
  induction l generalizing s with
  | nil => exact of_watch (by simp [State.winNext])
  | cons r rest ih =>
    unfold State.winNext
    split
    · exact trans (winReply s w r _) (ih _)
    · exact of_watch (by simp)

theorem winSweep (s : State) (w : Nat) : CalmStep s (s.winSweep w) := by
  unfold State.winSweep
  dsimp only
  split
  · exact refl s
  split
  · exact trans (of_watch (by simp)) (foldl (fun s r => conclude s _ _) _ _)
  · refine ite ?_ (of_watch (State.setWin_watch ..))
    exact trans (of_watch (State.setWin_watch ..)) (trans (winNext _ w _) (of_watch (State.winTimer_watch ..)))

theorem txLooked (s : State) : CalmStep s s.txLooked := by
  unfold State.txLooked
  split
  · exact refl s
  · exact of_watch (by simp)

theorem pairAnswer (s : State) : CalmStep s s.pairAnswer := by
  unfold State.pairAnswer
  split
  · exact ite (trans (of_watch (by unfold State.watch; rfl)) (finish _ _ _ _)) (refl s)
  · exact refl s

theorem lostCommands (s : State) : CalmStep s s.lostCommands :=
  foldl (fun s (e : Nat × HbrTrk) => ite (of_watch (s.startTimeout_watch e.1)) (refl s)) _ s

theorem runHeld (n : Nat) (s : State) : CalmStep s (s.runHeld n) := by
  cases n with
  | zero => exact refl s
  | succ n =>
    cases hup : s.mgtUp with
    | true => exact of_not_calm (not_calm_of_isHeld (by simp [State.isHeld_of_mgtUp hup]))
    | false =>
      unfold State.runHeld
      simpa [hup] using refl s

theorem reactedOnly (c : Bool) (srcs : List Nat) (s : State) :
    CalmStep s (srcs.foldl (fun s n => s.reactedOnly n c) s) :=
  foldl (fun _ _ => of_watch (State.reactedOnly_watch ..)) srcs s

theorem reactSafe (s : State) (srcs : List Nat) : CalmStep s (s.reactSafe srcs) := by
  unfold State.reactSafe
  dsimp only
  generalize hu : ({ s with flt := _ } : State) = u
  have hsu : CalmStep s u := of_watch (by subst hu; unfold State.watch; rfl)
  refine trans hsu ?_
  unfold State.enterSafe
  split
  · exact of_watch (by simp)
  · refine of_not_calm (not_calm_of_modeNow ?_)
    simp [State.toSafe_modeNow]

theorem reactAsSafe (s : State) (srcs : List Nat) : CalmStep s (s.reactAsSafe srcs) := by
  unfold State.reactAsSafe
  exact trans (ite (of_watch (State.put_watch ..)) (refl s)) (ite (reactedOnly true srcs _) (reactSafe _ srcs))

theorem reactHandover (s : State) (srcs : List Nat) : CalmStep s (s.reactHandover srcs) := by
  unfold State.reactHandover
  refine ite (trans (t := State.startHandover _ none) ?_ (of_watch (State.updateAlive_watch _))) (reactAsSafe s srcs)
  exact of_not_calm (not_calm_of_handover rfl)

theorem reactIsland (s : State) (srcs : List Nat) : CalmStep s (s.reactIsland srcs) := by
  unfold State.reactIsland
  refine ite (ite (of_watch (s.holdReaction_watch srcs)) (ite (reactedOnly true srcs s) (reactSafe s srcs))) ?_
  refine trans ?_ (of_watch (State.updateAlive_watch _))
  refine trans ?_ (foldl islReset _ _)
  refine trans (of_watch ?_) (of_watch (State.reactTaken_watch ..))
  unfold State.watch
  rfl

theorem reactBy (s : State) (r : Nat) (srcs : List Nat) : CalmStep s (s.reactBy r srcs) := by
  unfold State.reactBy
  refine ite (reactedOnly false srcs s) (ite ?_ (ite (reactedOnly false srcs s) (ite (reactedOnly true srcs s) ?_)))
  · exact trans (of_watch (s.reactTaken_watch srcs 4)) (chipReset _ .cmd)
  refine ite (of_watch (s.holdReaction_watch srcs)) (ite (reactedOnly true srcs s) (ite (reactHandover s srcs) ?_))
  exact ite (ite (reactedOnly true srcs s) (reactSafe s srcs)) (reactIsland s srcs)

theorem takeDue (s : State) : CalmStep s s.takeDue := by
  unfold State.takeDue
  refine trans (t := { s with flt := { s.flt with due := [] } }) (of_watch (by unfold State.watch; rfl)) ?_
  exact trans (reactedOnly true _ _) (ite (refl _) (reactBy _ _ _))

theorem settle (s : State) : CalmStep s s.settle := ite (refl s) (takeDue s)

theorem forget (s : State) : CalmStep s s.forget := of_parts rfl rfl rfl rfl id

theorem departed (s : State) : CalmStep s s.departed := of_parts rfl rfl rfl rfl id

theorem flowAll (s : State) : CalmStep s s.flowAll := foldl (fun _ _ => of_watch (State.flowPins_watch ..)) _ s

/-- The parts of the end of a step that send, and what follows from it. -/
theorem sent (s : State) :
    CalmStep s ((List.range 16).foldl State.winSweep s).txLooked.pairAnswer.romFlush.lostCommands.departed.runDue :=
  (foldl winSweep _ s).trans <| (txLooked _).trans <| (pairAnswer _).trans <| (romFlush _).trans <|
    (lostCommands _).trans <| (departed _).trans (runDue _)

/-- What ends a step keeps the order of the timers that were started before it. -/
theorem done (s : State) : CalmStep s s.done := by
  unfold State.done
  refine ite (refl s) ?_
  exact (flowAll s).trans <| (settle _).trans <| (sent _).trans <| (runHeld _ _).trans <| (forget _).trans (settle _)

end CalmStep

end Sys2Proof.Machine
end

section
/-!
A revocation that is read back in RECOVERY (R449): it closes the sessions opened under the slot, and by that may spend another.
-/
namespace Sys2Proof.Machine

/-- Nothing waits for the end of a step but replies in the cache and closed sessions. -/
def State.idle (s : State) : Bool :=
  s.flt.due.isEmpty && s.clus.isEmpty && s.wins.isEmpty && s.cmd.service.isEmpty && s.cmd.after.isEmpty &&
  s.cmd.romWait.isEmpty && s.hbr.trk.isEmpty && s.hbr.txDone.isNone && s.pair.answer.isNone

theorem State.winSweep_of_no_windows {s : State} (h : s.wins = []) (w : Nat) : s.winSweep w = s := by
  have hwin : s.win w = {} := by simp [State.win, h, tget, tfind]
  unfold State.winSweep
  simp [hwin]

theorem State.winSweeps_of_no_windows {s : State} (h : s.wins = []) (l : List Nat) : l.foldl State.winSweep s = s := by
  induction l with
  | nil => rfl
  | cons w l ih => rw [List.foldl_cons, State.winSweep_of_no_windows h, ih]

theorem State.done_watch_of_idle {s : State} (h : s.idle = true) : s.done.watch = s.watch := by
  unfold State.idle at h
  simp only [Bool.and_eq_true, List.isEmpty_iff, Option.isNone_iff_eq_none] at h
  obtain ⟨⟨⟨⟨⟨⟨⟨⟨hdue, hclus⟩, hwins⟩, hservice⟩, hafter⟩, hrom⟩, htrk⟩, htx⟩, hanswer⟩ := h
  have hflow : s.flowAll.settle = s := by simp [State.flowAll, State.settle, hclus, hdue]
  have hlook : s.txLooked.pairAnswer.romFlush.lostCommands = s := by
    simp [State.txLooked, State.pairAnswer, State.romFlush, State.lostCommands, htx, hanswer, hrom, htrk]
  unfold State.done
  split
  · rfl
  simp only [hflow, State.winSweeps_of_no_windows hwins, hlook]
  simp [State.departed, State.runDue, State.runHeld, State.forget, State.settle, hservice, hafter, hdue]

theorem State.freshWords_freeIx (n : Nat) (s : State) : ∃ i, (State.freshWords n s).2 = { s with freeIx := i } := by
  induction n generalizing s with
  | zero => exact ⟨s.freeIx, rfl⟩
  | succ n ih =>
    obtain ⟨i, hi⟩ := ih { s with freeIx := s.freeIx + 1 }
    exact ⟨i, hi⟩

/-- A SESSION order leaves at once when a place is free (R333). -/
theorem State.sessionOrder_of_streaming {s : State} (h : s.streaming = true) (hroom : s.pair.unacked.length < 512) :
    ∃ i f, s.sessionOrder = State.placeOrder { s with freeIx := i } f := by
  obtain ⟨i, hi⟩ := State.freshWords_freeIx (s.freeIn 1 200).1 (s.freeIn 1 200).2
  have hs : s.privateWords.2 = { s with freeIx := i } := hi
  have hstream : ({ s with freeIx := i } : State).streaming = true := h
  refine ⟨i, State.pairEvent { s with freeIx := i } 5 s.privateWords.1, ?_⟩
  unfold State.sessionOrder
  simp only [h, hs]
  simp [State.sendPairOrder, State.sendOrder, hstream, hroom]

/-- The first order in flight starts the wait for its acknowledgement (R337). -/
theorem State.placeOrder_first {s : State} (f : Frame) (hack : s.deadline .ack = none) (hroom : s.pair.unacked = []) :
    ∃ regs sent unacked out, s.placeOrder f = State.arm
      { s with regs := regs, sent := sent, pair := { s.pair with unacked := unacked, out := out } } .ack 10000 := by
  unfold State.placeOrder
  dsimp only
  generalize hu : State.put _ F.PAR_ORDER_ON _ = u
  have hu_ack : u.deadline .ack = none := by rw [← hu]; exact hack
  have hu_one : u.pair.unacked.length = 1 := by
    rw [← hu]
    change (s.pair.unacked ++ [_]).length = 1
    simp [hroom]
  simp only [hu_ack]
  simp only [Option.isSome_none, Bool.false_eq_true, if_false, State.arm_pair, hu_one]
  exact ⟨_, _, _, _, by rw [← hu]; rfl⟩

/-- An UPDATE_VERIFY that runs in the background, of a command with no session. -/
def verifyCmd : Cmd := { frame := { dstNode := 1, srcNode := 2 } }

/-- A session whose stream has used its last sequence number: the next send under any session spends it (R455). -/
def fullSession : Session := { num := 9, streams := [0] }

/-- RECOVERY, the active of a pair: session 7, opened under owner slot 1, owns the update that is being verified; slot 1 is being
revoked. -/
def beforeRevocation : State :=
  let s : State :=
    { now := 64000000, mode := .recovery, isl := { rst := 0 }, boot := { held := true }, mgt := { halted := true },
      sec := { otp := some (1, true, []) }, sw := { seqs := [(0, 65536)] },
      cmd := { sessions := [{ num := 7, pair := true, cred := true, keyIndex := 1 }, fullSession],
               service := [{ cmd := verifyCmd }] },
      upd := { open_ := some { session := 7, verify := some verifyCmd } } }
  ((s.put F.CTL_PAIRADDR_PAIR_VALID 1).put F.PAR_STAT_STATE psActive).put F.LNK_STATE_STATE 6 4

/-- Session 7 is closed and the end of its verify sent; the SESSION order of the pair comes next. -/
def beforeOrder : State :=
  let s := beforeRevocation.put F.SEC_STAT_OTP_ERR 0
  State.abandonUpdate ({ s with sec := { s.sec with otp := none, revoked := [1] } }.dropSessions (fun x => x.num == 7)) 7

theorem otpDone_beforeRevocation : beforeRevocation.otpDone true = beforeOrder.sessionOrder := by
  rfl

theorem beforeOrder_streaming : beforeOrder.streaming = true := by decide
theorem beforeOrder_idle : beforeOrder.idle = true := by decide
theorem beforeRevocation_unspent : ∀ x ∈ beforeRevocation.cmd.sessions, x.spent = false := by decide

theorem beforeOrder_ack : beforeOrder.deadline .ack = none := by decide
theorem beforeOrder_unacked : beforeOrder.pair.unacked = [] := by decide

/-- After the revocation session 9 is spent, and the SESSION order came after that. -/
theorem revocation_ends : (beforeRevocation.otpDone true).done.calm ∧ ¬ (beforeRevocation.otpDone true).done.lateSpent := by
  obtain ⟨i, f, horder⟩ := State.sessionOrder_of_streaming beforeOrder_streaming (by simp [beforeOrder_unacked])
  obtain ⟨regs, sent, unacked, out, hplace⟩ :=
    State.placeOrder_first (s := { beforeOrder with freeIx := i }) f beforeOrder_ack beforeOrder_unacked
  rw [otpDone_beforeRevocation, horder, hplace]
  generalize hu : State.arm _ .ack 10000 = u
  have hidle : u.idle = true := by subst hu; exact beforeOrder_idle
  have hend : u.done.watch = (true, none, .recovery, 0, none, [{ fullSession with spent := true }], some .ack) :=
    calc
      u.done.watch = u.watch := State.done_watch_of_idle hidle
      _ = (beforeOrder.boot.held, beforeOrder.boot.switch, beforeOrder.mode, beforeOrder.isl.rst, beforeOrder.pair.handover,
          beforeOrder.cmd.sessions, some .ack) := by subst hu; unfold State.watch; rfl
      _ = _ := rfl
  simp only [State.watch, Prod.mk.injEq] at hend
  obtain ⟨hheld, hswitch, hmode, hrst, hover, hsess, hlast⟩ := hend
  exact ⟨⟨hheld, hswitch, hmode, hrst, hover⟩, fun hlate => hlate (by rw [hsess]; rfl) hlast⟩

/-- Refutes O48: the clause of a revocation that is read back. Closing the session that owns an update ends its verify, whose
EVENT the ROM sends at once (R124); that send spends another session (R455), before the SESSION order of the pair. No state `t`
with the old sessions comes to the same end, for what ends a step cannot put the spending before an order (`CalmStep.done`). -/
theorem not_sessionsAndFuses : ¬ Obligations.SessionsAndFuses := by
  unfold Obligations.SessionsAndFuses
  intro h
  obtain ⟨-, -, -, -, -, -, hrevoke, -⟩ := h beforeRevocation beforeRevocation 7
  obtain ⟨-, t, hexec, -, -, -, -, hsessions⟩ := hrevoke 1 [] rfl
  have ht : (beforeRevocation.otpDone true).done = t.done := by
    injection hexec
  obtain ⟨hcalm, hlate⟩ := revocation_ends
  rw [ht] at hcalm hlate
  refine hlate ((CalmStep.done t hcalm).2 fun hspent => ?_)
  obtain ⟨x, hx, hspent⟩ := List.any_eq_true.mp hspent
  have hfalse := beforeRevocation_unspent x (hsessions x hx).1
  simp [hspent] at hfalse

end Sys2Proof.Machine
end

section
/-!
Proofs about the vat: the canonical form of its list of bytes under every command, the words it holds, and the scrub of a word
that it does not have.
-/
namespace Sys2Proof.Machine

/-- A scrub of a word that the vat has goes on; of another it is the only stop of the table (R141, R143). -/
theorem exec_scrubWord (w : Nat) (found : EccResult) (s : State) : exec (.scrubWord w found) s =
    if w < 2 ^ 21 then .next (s.scrub w found).done else .fault .noSuchWord := rfl

/-! ### The canonical form (R141, R161) -/

/-- When the command goes on, the vat of the next state has its canonical form. -/
def AnswersVatForm (o : Host.Outcome State Fault Refusal) : Prop := ∀ t, o = .next t → Memory.wf t.sw.vat = true

theorem answersVatForm_next {u : State} (hu : Memory.wf u.sw.vat = true) : AnswersVatForm (.next u) := by
  rintro _ ⟨⟩
  exact hu

/-- The end of a step keeps the form, so the effect of the command decides. -/
theorem answersVatForm_done {u : State} (hu : Memory.wf u.sw.vat = true) : AnswersVatForm (.next u.done) :=
  answersVatForm_next (State.done_wf u hu)

/-- An effect that leaves the vat alone. -/
theorem answersVatForm_of_same {s u : State} (hw : Memory.wf s.sw.vat = true) (hu : u.sw.vat = s.sw.vat) :
    AnswersVatForm (.next u.done) :=
  answersVatForm_done (by rwa [hu])

theorem answersVatForm_fault (r : Fault) : AnswersVatForm (.fault r) := by
  rintro _ ⟨⟩

/-- Every command keeps the form. Bytes are laid into the vat by the frames of the ring and of the hub, by the capture port, by the
scrubber, by the twin's orders and transfers, and by what a host commands or writes; the other events leave the vat alone. -/
theorem exec_answersVatForm (c : Instr) (s : State) (hw : Memory.wf s.sw.vat = true) : AnswersVatForm (exec c s) := by
  cases c with
  | ringFrameReceive l f => exact answersVatForm_done (State.ringFrame_wf s l f hw)
  | frameEndReceive l t =>
    have hlaid : Memory.wf (s.layTail l t).sw.vat = true := State.layTail_wf s l t hw
    exact answersVatForm_done (by rwa [State.frameEnd_vat])
  | unitLookup =>
    have hlooked : Memory.wf s.lookupNext.sw.vat = true := State.lookupNext_wf s hw
    exact answersVatForm_done (by rwa [State.txLooked_vat])
  | unitTransmit p => exact answersVatForm_done (State.unitLeaves_wf s p hw)
  | scrubWord w found =>
    rw [exec_scrubWord]
    split
    · exact answersVatForm_done (State.scrub_wf s w found hw)
    · exact answersVatForm_fault .noSuchWord
  | order on f good => exact answersVatForm_done (State.orderIn_wf s on f good hw)
  | sync r => exact answersVatForm_done (State.syncIn_wf s r hw)
  | llRequest f => exact answersVatForm_done (State.llRequest_wf s f hw)
  | powerOn st => exact answersVatForm_done (State.powerOnEvent_wf s st hw)
  | registerWrite view off v => exact answersVatForm_done (State.hostWrite_wf s view off v hw)
  | sourceRaise src inst edge =>
    exact answersVatForm_next (State.collectorDone_wf _ (by rwa [State.sourceRaise_vat]))
  | graceExpire src => exact answersVatForm_next (State.collectorDone_wf _ (by rwa [State.graceExpire_vat]))
  | shiftin | shiftout | take | give | hold | branch | loop | load | move | drive | dir | signal | crc | matchInstr | stamp
  | halt | nop =>
    exact answersVatForm_of_same hw (State.engineEdge_vat s _ _ _ (by simp))
  | read | write | writePosted | readModifyWrite | readBlock | writeBlock | portSend | portConfig | portFlush | applyAt | sampleAt
  | snapshotAt | sessionOpen | sessionClose | profileSelect | profileStore | selftestReq | healthGet | faultAck | safeEnter
  | safeLeave | updateBegin | updateBlock | updateVerify | updateActivate | updateConfirm | updateRelay | updateAbort | timeStep
  | timeRate | stepRearm | tableFence | pairHandover | pairStatus | logRead | echo | resetChip =>
    exact answersVatForm_done (State.serve_wf s _ _ _ hw)
  | clrHold | retrain | laneEnable | testRelease | commit | captureEnable | gapRecordRemove | timSchedCancel | start | stop | clear
  | flushTx | flushRx | startMask | stopMask | clkRestart | engInject | cluDoutSet | cluDoutClr | recover | canRateDetectStart
  | canRateDetectAbort | canTsqCtl | macTsqCtl | go | pwrChOn | pwrChOff | clrLatch | pwrCmd | rejoin | resync | inject | islRstCtl
  | islPwrCtl | burn | revoke | unlock =>
    exact answersVatForm_done (State.setReg_wf s _ _ _ _ hw)
  | _ => exact answersVatForm_of_same hw (by simp)

/-- Settles O7, from the form under every command. -/
theorem vatKeepsItsForm : Obligations.VatKeepsItsForm := by
  intro s t hw hstep
  unfold step at hstep
  split at hstep
  · have hclock : AnswersVatForm (.next (s.advance 2)) := answersVatForm_next (by rwa [State.advance_vat])
    exact hclock t hstep
  · next c rest _ => exact exec_answersVatForm c { s with pending := rest } hw t hstep

/-- Settles O8: nothing is listed, so there is nothing to order. -/
theorem resetVatHasTheForm : Obligations.ResetVatHasTheForm := ⟨rfl, rfl⟩

/-! ### The words of the vat -/

/-- Settles O12, by the reads after a vat write; the rest of the state is not written at all. -/
theorem vatWordWrites : Obligations.VatWordWrites := by
  intro s b w
  obtain ⟨hword, hrest, hregs⟩ := s.vatWrite_reads b w
  exact ⟨hword, hrest, hregs, rfl, rfl, rfl⟩

/-- Settles O5: the number is beyond the scrubber's guard. -/
theorem scrubBeyondTheVatFaults : Obligations.ScrubBeyondTheVatFaults := by
  intro w f s hw
  rw [exec_scrubWord, if_neg (Nat.not_lt.2 hw)]

end Sys2Proof.Machine
end

section
/-!
The clock of ring time: what an idle step and the TIM clocks do (R165, log entry 2).
-/
namespace Sys2Proof.Machine

/-- With nothing queued, one TIM clock passes. -/
theorem step_of_idle {s : State} (h : s.pending = []) : step s = .next (s.advance 2) := by
  unfold step
  rw [h]

/-- Settles O2: the queue is not the clock's concern. -/
theorem idleStepIsOneClock : Obligations.IdleStepIsOneClock := fun s h =>
  ⟨s.advance 2, step_of_idle h, rfl, rfl, by rw [State.advance_pending, h]⟩

/-- The accumulator, without its wrap, after `n` TIM clocks. -/
def State.accAfter (s : State) (n : Nat) : Nat := s.ringAcc.toNat + n * (s.rd .timInc).toNat

/-- While the TIM island runs, its clocks add up in the accumulator and carry into the epoch. -/
theorem State.timClocks_of_running {s : State} (n : Nat) (hrst : s.isl.rst.getLsbD 7 = false)
    (hclk : (s.rd .islClkOk).getLsbD 7 = true) :
    (s.timClocks n).ringAcc = BitVec.ofNat 60 (s.accAfter n) ∧
    (s.timClocks n).rd .timEpoch = s.rd .timEpoch + BitVec.ofNat 32 (s.accAfter n / 2 ^ 60) := by
  have hruns : ¬ (s.isl.rst.getLsbD 7 || !(s.rd .islClkOk).getLsbD 7) = true := by
    rw [hrst, hclk]
    decide
  unfold State.timClocks
  rw [if_neg hruns]
  dsimp only
  split
  next hcarry =>
    have hnone : s.accAfter n / 2 ^ 60 = 0 := hcarry
    rw [hnone]
    exact ⟨rfl, (BitVec.add_zero _).symm⟩
  next => exact ⟨rfl, State.bump_rd_self _ _ _ _ _⟩

/-- In 2 ns lies exactly one TIM clock. -/
theorem State.advance_two (s : State) : s.advance 2 = { s.timClocks 1 with now := s.now + 2 } := by
  have hone : (s.now + 2) / 2 - s.now / 2 = 1 := by omega
  unfold State.advance
  rw [hone]

/-- Settles O3: two summands below 2^60 carry at most once. -/
theorem idleClockAddsTimInc : Obligations.IdleClockAddsTimInc := by
  intro s hidle hrst hclk
  obtain ⟨hacc, hepoch⟩ := State.timClocks_of_running 1 hrst hclk
  have hsum : s.accAfter 1 = s.ringAcc.toNat + (s.rd .timInc).toNat := by rw [State.accAfter, Nat.one_mul]
  have hbound : s.accAfter 1 < 2 * 2 ^ 60 := by
    have hlow : s.ringAcc.toNat < 2 ^ 60 := s.ringAcc.isLt
    have hinc : (s.rd .timInc).toNat < 2 ^ 32 := (s.rd .timInc).isLt
    omega
  refine ⟨_, step_of_idle hidle, ?_⟩
  rw [State.advance_two, ← hsum]
  refine ⟨(congrArg BitVec.toNat hacc).trans (BitVec.toNat_ofNat _ _), hepoch.trans ?_⟩
  split
  case isTrue hle => rw [show s.accAfter 1 / 2 ^ 60 = 1 by omega]; rfl
  case isFalse hlt => rw [show s.accAfter 1 / 2 ^ 60 = 0 by omega]; exact BitVec.add_zero _

end Sys2Proof.Machine
end

section
/-!
Ring time: TIME frames, the master, steps, copies and snapshots (R168-R178, R190, R191).
-/
namespace Sys2Proof.Machine

/-- Rows with the same effect give the same answer. -/
theorem next_done_congr {t v : State} (h : t = v) :
    (.next t.done : Host.Outcome State Fault Refusal) = .next v.done := by rw [h]

/-- A row whose effect is known to be `v`. -/
theorem does_of_eq {c : Instr} {s t v : State} {P : State → Prop} (hexec : exec c s = .next t.done) (h : t = v) (hp : P v) :
    Does c s P := ⟨v, by rw [hexec, h], hp⟩

/-! ### Fields of registers -/

/-- A write leaves every field at another address alone. -/
theorem State.wr_get_of_ne (s : State) {r : Reg} {f : Fld} {i j i' j' : Nat} (w : Word) (h : f.reg.addr i' j' ≠ r.addr i j) :
    (s.wr r i j w).get f i' j' = s.get f i' j' := by
  unfold State.get
  rw [State.wr_rd_of_ne _ _ h]

/-- A put leaves every field at another address alone. -/
theorem State.put_get_of_ne (s : State) {f g : Fld} {i j i' j' : Nat} (v : Nat) (h : g.reg.addr i' j' ≠ f.reg.addr i j) :
    (s.put f v i j).get g i' j' = s.get g i' j' := State.wr_get_of_ne s _ h

/-- Two fields of one register share no bit. -/
abbrev Fld.Apart (f g : Fld) : Prop :=
  g.reg = f.reg ∧ f.lo ≤ f.hi ∧ f.hi < 32 ∧ g.lo ≤ g.hi ∧ (f.hi < g.lo ∨ g.hi < f.lo)

/-- A put leaves the other fields of its register alone. -/
theorem State.put_get_of_apart (s : State) {f g : Fld} {i j : Nat} (v : Nat) (h : f.Apart g) :
    (s.put f v i j).get g i j = s.get g i j := by
  obtain ⟨hr, hl, hh, hg, hd⟩ := h
  exact s.put_get_of_disjoint v i j hr hl hh hg hd

theorem State.advance_get_of_ne (s : State) (n : Nat) {f : Fld} {i j : Nat} (h : f.reg.addr i j ≠ Reg.timEpoch.addr 0 0) :
    (s.advance n).get f i j = s.get f i j := by
  unfold State.get
  rw [State.advance_rd_of_ne s n h]

@[simp] theorem State.setTime_rd (s : State) (x : TimS) (r : Reg) (i j : Nat) :
    ({ s with time := x } : State).rd r i j = s.rd r i j := rfl

@[simp] theorem State.setTime_get (s : State) (x : TimS) (f : Fld) (i j : Nat) :
    ({ s with time := x } : State).get f i j = s.get f i j := rfl

theorem State.is_of_get {s : State} {f : Fld} {i j : Nat} (h : s.get f i j = 1) : s.is f i j = true := by
  simp [State.is, h]

theorem State.not_is_of_get {s : State} {f : Fld} {i j : Nat} (h : s.get f i j = 0) : s.is f i j = false := by
  simp [State.is, h]

/-! ### Frames on a lane -/

/-- A lane that is up does not repeat. -/
theorem State.lst_of_laneUp {s : State} {l : Nat} (h : s.laneUp l = true) : (s.lst l == lsRepeat) = false := by
  unfold State.lst
  simp only [State.laneUp, Bool.or_eq_true, beq_iff_eq] at h
  rcases h with h | h <;> rw [h] <;> rfl

/-- A good rind stands for the whole frame and its check (R52, R112). -/
theorem rindOf_good {f : Frame} {t : Tail} (h : rindOf f t = rindGood) : t.lengthOk = true ∧ t.fcs = f.fcs := by
  unfold rindOf at h
  split at h
  · exact absurd h (by decide)
  next hlen =>
  split at h
  next hrind =>
    split at h
    · exact absurd h hrind
    · exact absurd h (by decide)
  split at h
  · exact absurd h (by decide)
  next hfcs => exact ⟨by simpa using hlen, by simpa using hfcs⟩

/-- A good frame of this hub's own is counted as received and in no other way. -/
theorem State.linkLocalIn_good (s : State) (l : Nat) {f : Frame} {t : Tail} (hm : f.malformed = false)
    (hr : rindOf f t = rindGood) : s.linkLocalIn l f t = (s.bump .lnkCnt l 0, true) := by
  obtain ⟨hlen, hfcs⟩ := rindOf_good hr
  simp [State.linkLocalIn, hm, hr, hlen, hfcs]

/-! ### The count of received frames leaves what time reads alone -/

section
variable (s : State) (l : Nat)

/-- The counter of received frames is the only register of its lane at offset 0x40. -/
theorem State.countFrame_rd {r : Reg} {i j : Nat} (h : r.addr i j % 0x1000 ≠ 0x40) :
    (s.bump .lnkCnt l 0).rd r i j = s.rd r i j := by
  refine State.bump_rd_of_ne s 1 fun heq => h ?_
  rw [heq]
  show (0x100040 + l * 0x1000) % 0x1000 = 0x40
  omega

@[simp] theorem State.countFrame_islandUp (i : Nat) : (s.bump .lnkCnt l 0).islandUp i = s.islandUp i := by
  unfold State.islandUp
  rw [s.countFrame_rd l (by decide)]
  rfl

@[simp] theorem State.countFrame_laneUp (k : Nat) : (s.bump .lnkCnt l 0).laneUp k = s.laneUp k := by
  have hstate : Reg.lnkState.addr k 0 % 0x1000 ≠ 0x40 := by
    show (0x100008 + k * 0x1000) % 0x1000 ≠ 0x40
    omega
  unfold State.laneUp State.get
  rw [s.countFrame_rd l hstate]

@[simp] theorem State.countFrame_timeLane (k : Nat) : (s.bump .lnkCnt l 0).timeLane k = s.timeLane k := by
  unfold State.timeLane
  rw [s.countFrame_islandUp, s.countFrame_laneUp, s.countFrame_rd l (by decide)]

@[simp] theorem State.countFrame_timeInvalid : (s.bump .lnkCnt l 0).timeInvalid = s.timeInvalid := by
  unfold State.timeInvalid State.is State.get
  rw [s.countFrame_rd l (by decide)]

@[simp] theorem State.countFrame_leadOk (t : Word) : (s.bump .lnkCnt l 0).leadOk t = s.leadOk t := by
  unfold State.leadOk State.get
  rw [s.countFrame_rd l (by decide)]
  rfl

@[simp] theorem State.countFrame_ring64 : (s.bump .lnkCnt l 0).ring64 = s.ring64 := by
  unfold State.ring64 State.get
  rw [s.countFrame_rd l (by decide)]
  rfl

end

/-! ### TIME frames (R169-R171) -/

theorem State.transmit_sent (s : State) (p : Nat) (f : Frame) (rind : Word) :
    (s.transmit p f rind).sent = s.sent ++ [{ port := p, frame := f, rind := rind }] := by
  unfold State.transmit
  split <;> rfl

theorem State.transmit_deadline (s : State) (p : Nat) (f : Frame) (rind : Word) (t : Timer) :
    (s.transmit p f rind).deadline t = s.deadline t := by
  unfold State.transmit
  split <;> rfl

theorem State.timeSend_of_open {s u : State} {l : Nat} (h : s.expire (.timeSend l) = some u) (hl : u.timeLane l = true) :
    s.timeSend l = (u.arm (.timeSend l) 125000).transmit l ((u.arm (.timeSend l) 125000).timeFrame l) rindGood := by
  have harmed : (u.arm (.timeSend l) 125000).timeLane l = true := hl
  simp only [State.timeSend, h, harmed, if_true]

/-- A bad TIME frame is counted and does no more. -/
theorem State.timeReceive_bad {s u : State} {l : Nat} {r : TimeRx} (hup : s.laneUp l = true)
    (hin : s.linkLocalIn l r.frame r.tail = (u, false)) (hm : r.frame.malformed = false) (hlen : r.tail.lengthOk = true)
    (hl : u.timeLane l = true) : s.timeReceive l r = u.bump .timCnt 0 := by
  simp [State.timeReceive, State.lst_of_laneUp hup, hup, hin, hm, hlen, hl]

/-- A good one gives its times to its lane, and a valid one is a vote for its master. -/
theorem State.timeReceive_good {s : State} {l : Nat} {r : TimeRx} (hup : s.laneUp l = true) (hl : s.timeLane l = true)
    (hm : r.frame.malformed = false) (hr : rindOf r.frame r.tail = rindGood) :
    s.timeReceive l r = if (r.frame.payload.getD 1 0).getLsbD 0
      then ((s.bump .lnkCnt l 0).timeHeard l r.frame).selectMaster l r.frame
      else (s.bump .lnkCnt l 0).timeHeard l r.frame := by
  have hlen : r.tail.lengthOk = true := (rindOf_good hr).1
  simp [State.timeReceive, State.lst_of_laneUp hup, hup, s.linkLocalIn_good l hm hr, hm, hlen, hl]

/-- The times that the lane holds of a good TIME frame. -/
theorem State.timeHeard_times (s : State) (l : Nat) (f : Frame) :
    ((s.timeHeard l f).tlane l).rx = f.time ∧ ((s.timeHeard l f).tlane l).rxAt = BitVec.ofNat 32 s.ringNs := by
  have hheld (x : TLane) (v : Nat) : ((s.setTlane l x).put F.TIM_LNKDLY_DELAY v l).tlane l = x := tget_tset_self _ _ _ _
  unfold State.timeHeard
  simp only [hheld]
  split <;> exact ⟨rfl, rfl⟩

/-! ### The master and the upstream lane (R168, R171, R172) -/

/-- A state in which time is valid makes no word invalid. -/
theorem State.setTst_of_valid (s : State) {n : Nat} (h : 2 ≤ n) :
    s.setTst n = (s.put F.TIM_STAT_STATE n).put F.TIM_STAT_VALID 1 := by
  unfold State.setTst
  simp only [if_neg (Nat.not_lt.2 h), decide_eq_true h]
  rfl

/-- The registers of a hub that becomes master. -/
theorem State.becomeMaster_rd (s : State) (r : Reg) (i j : Nat) : s.becomeMaster.rd r i j =
    (((((s.put F.TIM_STAT_STATE tsMaster).put F.TIM_STAT_VALID 1).put F.TIM_STAT_HOPS 0).put F.TIM_STAT_UPSTREAM 7).wr
      .timMaster 0 0 (s.rd .ctlUid 0)).rd r i j := by
  have huid : (((s.disarm .upstream).disarm .listen).setTst tsMaster).rd .ctlUid 0 = s.rd .ctlUid 0 := by
    rw [State.setTst_of_valid _ (by decide), State.put_rd_of_ne _ _ _ (by decide), State.put_rd_of_ne _ _ _ (by decide),
      State.disarm_rd, State.disarm_rd]
  unfold State.becomeMaster
  dsimp only
  rw [State.setTime_rd, huid, State.setTst_of_valid _ (by decide)]
  rfl

theorem State.becomeMaster_timStat (s : State) {f : Fld} (h : f.reg = .timStat) : s.becomeMaster.get f =
    ((((s.put F.TIM_STAT_STATE tsMaster).put F.TIM_STAT_VALID 1).put F.TIM_STAT_HOPS 0).put F.TIM_STAT_UPSTREAM 7).get f := by
  unfold State.get
  rw [State.becomeMaster_rd, h, State.wr_rd_of_ne _ _ (by decide)]

/-- What a hub that becomes master shows (R168). -/
theorem State.becomeMaster_shows (s : State) :
    s.becomeMaster.rd .timMaster = s.rd .ctlUid 0 ∧ s.becomeMaster.tst = tsMaster ∧ s.becomeMaster.get F.TIM_STAT_HOPS = 0 ∧
    s.becomeMaster.get F.TIM_STAT_VALID = 1 := by
  refine ⟨(s.becomeMaster_rd _ _ _).trans (State.wr_rd_self _ _ _ _ _), (s.becomeMaster_timStat rfl).trans ?state,
    (s.becomeMaster_timStat rfl).trans ?hops, (s.becomeMaster_timStat rfl).trans ?valid⟩
  case state =>
    rw [State.put_get_of_apart _ _ (by decide), State.put_get_of_apart _ _ (by decide),
      State.put_get_of_apart _ _ (by decide)]
    exact State.put_get_self _ _ _ _ _ (by decide) (by decide)
  case hops =>
    rw [State.put_get_of_apart _ _ (by decide)]
    exact State.put_get_self _ _ _ _ _ (by decide) (by decide)
  case valid =>
    rw [State.put_get_of_apart _ _ (by decide), State.put_get_of_apart _ _ (by decide)]
    exact State.put_get_self _ _ _ _ _ (by decide) (by decide)

/-- TIME frames of a master carry its own priority. -/
theorem State.becomeMaster_prio (s : State) : s.becomeMaster.time.prio = s.get F.TIM_CFG_PRIORITY := by
  unfold State.becomeMaster
  dsimp only
  rw [State.setTst_of_valid _ (by decide), State.wr_get_of_ne _ _ (by decide), State.put_get_of_ne _ _ (by decide),
    State.put_get_of_ne _ _ (by decide), State.put_get_of_ne _ _ (by decide), State.put_get_of_ne _ _ (by decide),
    State.disarm_get, State.disarm_get]

theorem State.listenEnd_of_candidate {s u : State} (h : s.expire .listen = some u) (hst : u.tst = tsListen)
    (hcap : u.is F.TIM_CFG_MASTER_CAP = true) : s.listenEnd = u.becomeMaster := by
  simp only [State.listenEnd, h, hst, hcap, and_self, if_true]

/-- A locked hub that hears no other lane goes to HOLDOVER when its upstream lane falls silent. -/
theorem State.upstreamLoss_of_locked {s u : State} {d : Nat} (hd : s.deadline .upstream = some d)
    (hu : State.setTlane s (s.get F.TIM_STAT_UPSTREAM) { s.tlane (s.get F.TIM_STAT_UPSTREAM) with heard := none } = u)
    (hnone : u.heardLanes = []) (hlocked : s.tst = tsLocked) :
    s.upstreamLoss = ((State.setTst { State.put ((u.advance (d - u.now)).disarm .upstream) F.TIM_STAT_UPSTREAM 7 with
      time := { ((u.advance (d - u.now)).disarm .upstream).time with run := 0 } } tsHoldover).bump .timCnt 4).raise 0x50 := by
  have hkept : (State.put ((u.advance (d - u.now)).disarm .upstream) F.TIM_STAT_UPSTREAM 7).get F.TIM_STAT_STATE = tsLocked := by
    rw [State.put_get_of_apart _ _ (by decide), State.disarm_get,
      State.advance_get_of_ne _ _ (by decide), ← hu]
    exact hlocked
  unfold State.upstreamLoss
  simp only [hd, hu, hnone, List.filter_nil, State.tst, State.setTime_get, hkept, if_true]

/-! ### Steps and copies (R174, R177, R178) -/

theorem State.stepApply_of_due {s : State} {t : Nat} (h : s.time.stepAt = some t)
    (hlast : s.sched.any (fun e => e.2.stepped || decide (e.2.t ≤ t)) = false) : s.stepApply = (s.advanceRing t).applyStep := by
  simp only [State.stepApply, h, hlast, Bool.false_eq_true, if_false]

/-- No step is pending after one has been applied. -/
theorem State.applyStep_not_pending (s : State) : s.applyStep.is F.TIM_STAT_STEP_PENDING = false := by
  refine State.not_is_of_get ?_
  show (State.put _ F.TIM_STAT_STEP_PENDING 0).get F.TIM_STAT_STEP_PENDING = 0
  exact State.put_get_self _ _ _ _ _ (by decide) (by decide)

/-- One value set at each key of a list. -/
theorem tfind_foldl_tset {α : Type} (v : α) (k : Nat) (l : List Nat) (t : Tab α) :
    tfind (l.foldl (fun t i => tset t i v) t) k = if k ∈ l then some v else tfind t k := by
  induction l generalizing t with
  | nil => simp
  | cons a l ih =>
    rw [List.foldl_cons, ih]
    by_cases hl : k ∈ l
    · simp [hl]
    · by_cases ha : k = a
      · simp [ha, tfind_tset_self]
      · simp [hl, ha, tfind_tset_of_ne t v ha]

/-- An island that is up and acts on ring time holds it now. -/
theorem State.copyResync_copies {s : State} {i : Nat} (htim : s.islandUp 7 = true)
    (hi : i ∈ ([1, 2, 3, 4, 5, 6, 9, 10, 11, 12, 13, 14, 15, 16, 17, 18, 20] : List Nat)) (hup : s.islandUp i = true) :
    tfind s.copyResync.time.copies i = some (s.ring64, s.now) := by
  unfold State.copyResync
  simp only [htim, Bool.not_true, Bool.false_eq_true, if_false]
  rw [tfind_foldl_tset, if_pos (List.mem_filter.2 ⟨hi, hup⟩)]

/-! ### Snapshots (R190, R191) -/

/-- What TIM_SNAP_ID and TIM_SNAP_TIME show of the snapshot that has fired. -/
theorem State.snapFire_shows {s u : State} {n : Nat} {x : Entry} (h : s.takeEntry n 3 0 = some (u, x)) :
    (s.snapFire n).get F.TIM_SNAP_ID_BANK = 1 - u.get F.TIM_SNAP_ID_BANK ∧ (s.snapFire n).get F.TIM_SNAP_ID_VALID = 1 ∧
    (s.snapFire n).rd .timSnapTime = BitVec.ofNat 32 x.t := by
  unfold State.snapFire
  simp only [h]
  refine ⟨?bank, ?valid, ?time⟩
  case time => rw [State.wr_rd_of_ne _ _ (by decide), State.wr_rd_self]
  all_goals rw [State.wr_get_of_ne _ _ (by decide), State.wr_get_of_ne _ _ (by decide)]
  case bank =>
    rw [State.put_get_of_apart _ _ (by decide), State.put_get_of_apart _ _ (by decide),
      State.put_get_self _ _ _ _ _ (by decide) (by decide)]
    exact Nat.mod_eq_of_lt (by show _ < 2; omega)
  case valid => exact State.put_get_self _ _ _ _ _ (by decide) (by decide)

/-- A bad SNAPSHOT frame is counted on its lane and does no more. -/
theorem State.snapReceive_bad {s u : State} {l : Nat} {f : Frame} {r : Tail} (hl : l < 4) (hup : s.laneUp l = true)
    (hin : s.linkLocalIn l f r = (u, false)) : s.snapReceive l f r = u := by
  have hring : ¬ 4 ≤ l := by omega
  simp [State.snapReceive, State.lst_of_laneUp hup, hup, hin, hring]

/-- A good one that is new, comes in time and finds a free entry takes it and goes on by the other lanes (R190). -/
theorem State.snapReceive_good {s : State} {l n : Nat} {f : Frame} {r : Tail} (hl : l < 4) (hup : s.laneUp l = true)
    (htim : s.islandUp 7 = true) (hm : f.malformed = false) (hr : rindOf f r = rindGood)
    (hnew : s.snapSeen (f.w6.bits 15 0) f.time = false) (hfree : s.freeEntry = some n) (hvalid : s.timeInvalid = false)
    (hlead : s.leadOk f.time = true) :
    s.snapReceive l f r = (State.enterEntry ((s.bump .lnkCnt l 0).markSeen (f.w6.bits 15 0) f.time) n
      { kind := 3, node := f.w7.setWidth 24, id := f.w6.bits 15 0, t := extTime f.time s.ring64 }).floodSnap
        (f.w6.bits 15 0) f.time (f.w7.setWidth 24) (some l) := by
  have hring : ¬ 4 ≤ l := by omega
  have hnew' : (s.bump .lnkCnt l 0).snapSeen (f.w6.bits 15 0) f.time = false := hnew
  have hfree' : ((s.bump .lnkCnt l 0).markSeen (f.w6.bits 15 0) f.time).freeEntry = some n := hfree
  have hvalid' : ((s.bump .lnkCnt l 0).markSeen (f.w6.bits 15 0) f.time).timeInvalid = false :=
    (s.countFrame_timeInvalid l).trans hvalid
  have hlead' : ((s.bump .lnkCnt l 0).markSeen (f.w6.bits 15 0) f.time).leadOk f.time = true :=
    (s.countFrame_leadOk l f.time).trans hlead
  have hnow : ((s.bump .lnkCnt l 0).markSeen (f.w6.bits 15 0) f.time).ring64 = s.ring64 := s.countFrame_ring64 l
  simp [State.snapReceive, State.lst_of_laneUp hup, hup, hring, s.linkLocalIn_good l hm hr, htim, hnew', hfree', hvalid',
    hlead', hnow]

@[simp] theorem State.enterEntry_time (s : State) (n : Nat) (e : Entry) : (s.enterEntry n e).time = s.time := by
  simp [State.enterEntry, apply_ite State.time]

@[simp] theorem State.enterEntry_now (s : State) (n : Nat) (e : Entry) : (s.enterEntry n e).now = s.now := by
  simp [State.enterEntry, apply_ite State.now]

/-- An entry changes nothing about the snapshots that have been seen. -/
theorem State.enterEntry_snapSeen (s : State) (n : Nat) (e : Entry) (id : Nat) (t : Word) :
    (s.enterEntry n e).snapSeen id t = s.snapSeen id t := by
  unfold State.snapSeen
  rw [State.enterEntry_time, State.enterEntry_now]

/-- A snapshot that has just been marked counts as seen. -/
theorem State.markSeen_snapSeen (s : State) (id : Nat) (t : Word) : (s.markSeen id t).snapSeen id t = true := by
  simp [State.markSeen, State.snapSeen]

/-- Settles O19, row by row. -/
theorem ringTimeMoves : Obligations.RingTimeMoves := by
  intro s u l
  refine ⟨fun h hl => ?send, fun r hup hin hm hlen hl => ?badTime, fun r hup hl hm hr hu => ?goodTime,
    fun h hst hcap => ?listen, fun d hd hnone hu hlocked => ?loss, fun t ht hlast => ?step, fun htim i hi hup => ?copies,
    fun e x h => ?fire, fun f r hl hup hin => ?badSnap, fun f r n hl hup htim hm hr hnew hfree hvalid hlead hu => ?goodSnap⟩
  case send =>
    refine does_of_eq rfl (State.timeSend_of_open h hl) ⟨?_, State.transmit_sent _ _ _ _⟩
    rw [State.transmit_deadline, State.arm_deadline_self]
  case badTime => exact next_done_congr (State.timeReceive_bad hup hin hm hlen hl)
  case goodTime =>
    subst hu
    have hexec := State.timeReceive_good hup hl hm hr
    exact ⟨fun hvalid => next_done_congr (hexec.trans (if_pos hvalid)),
      fun hinvalid => next_done_congr (hexec.trans (if_neg (by rw [hinvalid]; decide))), State.timeHeard_times _ _ _⟩
  case listen =>
    obtain ⟨hmaster, hstate, hhops, hvalid⟩ := u.becomeMaster_shows
    exact does_of_eq rfl (State.listenEnd_of_candidate h hst hcap)
      ⟨hmaster, hstate, hhops, State.is_of_get hvalid, u.becomeMaster_prio⟩
  case loss =>
    exact does_of_eq rfl (State.upstreamLoss_of_locked hd hu (hu ▸ hnone) hlocked) rfl
  case step =>
    exact does_of_eq rfl (State.stepApply_of_due ht hlast) ⟨rfl, rfl, rfl, State.applyStep_not_pending _⟩
  case copies => exact ⟨_, rfl, State.copyResync_copies htim hi hup⟩
  case fire =>
    obtain ⟨hbank, hvalid, htime⟩ := State.snapFire_shows h
    exact ⟨_, rfl, hbank, State.is_of_get hvalid, htime⟩
  case badSnap => exact next_done_congr (State.snapReceive_bad hl hup hin)
  case goodSnap =>
    subst hu
    exact ⟨next_done_congr (State.snapReceive_good hl hup htim hm hr hnew hfree hvalid hlead),
      (State.enterEntry_snapSeen _ _ _ _ _).trans (State.markSeen_snapSeen _ _ _)⟩

end Sys2Proof.Machine
end

section
/-!
The schedule table: an entry that is taken, and what its action comes down to (R183-R185).
-/
namespace Sys2Proof.Machine

/-! ### Taking an entry -/

@[simp] theorem State.advanceRing_sched (s : State) (t : Nat) : (s.advanceRing t).sched = s.sched := by
  simp [State.advanceRing, apply_ite State.sched]

/-- The hand-over adds skipped islands to an entry and changes nothing else of it. -/
theorem State.skipDown_tfind {s : State} {n : Nat} {e : Entry} (h : tfind s.sched n = some e) :
    ∃ skipped, tfind (s.skipDown n).sched n = some { e with skipped := skipped } := by
  unfold State.skipDown
  simp only [h, tfind_tset_self]
  exact ⟨_, rfl⟩

/-- A freed entry is not in the table. -/
theorem State.dropEntry_tfind (s : State) (n : Nat) : tfind (s.dropEntry n).sched n = none := tfind_terase_self _ _

/-- The entry that is taken is of the kind and action asked for, and is freed (R184). -/
theorem State.takeEntry_spec {s u : State} {n kind action : Nat} {x : Entry} (h : s.takeEntry n kind action = some (u, x)) :
    tfind u.sched n = none ∧ x.kind = kind ∧ x.action = action := by
  unfold State.takeEntry at h
  split at h
  case h_1 => cases h
  case h_2 e he =>
    split at h
    case isTrue => cases h
    case isFalse hdue =>
      have hkind : e.kind = kind := Decidable.not_not.1 fun hne => hdue (.inl hne)
      have haction : e.action = action := Decidable.not_not.1 fun hne => hdue (.inr (.inl hne))
      have hring : tfind (if e.stepped then s else s.advanceRing e.t).sched n = some e := by
        split
        · exact he
        · rw [State.advanceRing_sched, he]
      obtain ⟨skipped, hskip⟩ := State.skipDown_tfind hring
      simp only [hskip, Option.some.injEq, Prod.mk.injEq] at h
      obtain ⟨rfl, rfl⟩ := h
      refine ⟨?_, hkind, haction⟩
      split <;> simp only [State.bump_sched, State.dropEntry_tfind]

/-- The hand-over of an entry that no step has passed over comes 2 µs before T (R185). -/
theorem State.handoff_of_found {s : State} {n : Nat} {x : Entry} (h : tfind s.sched n = some x) (hs : x.stepped = false) :
    s.handoff n = (s.advanceRing (x.t - 2000)).skipDown n := by
  simp [State.handoff, h, hs]

/-! ### What each action does at T -/

section
variable {s u : State} {n : Nat} {x : Entry}

theorem State.fireStart_of_none (h : s.takeEntry n 1 0x01 = some (u, x)) (hengs : x.engines = []) :
    s.fireStart n = u.fired n x stOk [] := by
  simp [State.fireStart, h, hengs]

/-- One engine that stands still and may start (R214, R216). -/
theorem State.fireStart_of_one {m : Nat} (h : s.takeEntry n 1 0x01 = some (u, x)) (hengs : x.engines = [m])
    (hdead : x.dead (9 + m / 8) = false) (hrun : u.running m = false) (hok : u.startOk m = true) :
    s.fireStart n = (u.startEngine m (u.eget F.ENG_CTL_START_PC m) 0).fired n x stOk [] := by
  simp [State.fireStart, h, hengs, hdead, hrun, hok]

theorem State.fireStop_of_taken (h : s.takeEntry n 1 0x02 = some (u, x)) :
    s.fireStop n = ((x.engines.filter (fun m => !x.dead (9 + m / 8))).foldl
      (fun s m => s.stopEngine m scSched) u).fired n x stOk [] := by
  simp only [State.fireStop, h]

/-- A port whose outputs are enabled sends, any other reports NOT_IN_MODE. -/
theorem State.fireSend_of_taken (h : s.takeEntry n 1 0x10 = some (u, x)) (hdead : x.dead (portIsland x.port) = false) :
    s.fireSend n = if u.portOutOk x.port then (u.sendNow x).fired n x stOk [] else u.fired n x stNotInMode [] := by
  cases hout : u.portOutOk x.port <;> simp [State.fireSend, h, hdead, hout]

theorem State.firePinSet_of_taken (h : s.takeEntry n 1 0x20 = some (u, x)) (hdead : x.dead (9 + x.cluster) = false) :
    s.firePinSet n = (u.setDout x.cluster ((List.range 32).foldl (fun (w : Word) p =>
      if x.pins.getLsbD p && u.get F.PIN_CFG_MODE x.cluster p == 2 then w.setBits p p (bit ((x.data.getD 2 0).getLsbD p)) else w)
      (u.rd .cluDout x.cluster))).fired n x stOk [] := by
  simp only [State.firePinSet, h, hdead, Bool.false_eq_true, if_false]

theorem State.firePinSample_of_taken (h : s.takeEntry n 2 0x40 = some (u, x)) (hdead : x.dead (9 + x.cluster) = false) :
    s.firePinSample n = u.fired n x stOk [u.cluDinWord x.cluster &&& x.pins] := by
  simp only [State.firePinSample, h, hdead, Bool.false_eq_true, if_false]

/-- A pin that is no longer in DIRECT_IN gives 0. -/
theorem State.fireCountSample_of_taken (h : s.takeEntry n 2 0x41 = some (u, x)) (hdead : x.dead (9 + x.cluster) = false) :
    s.fireCountSample n = u.fired n x stOk (((List.range 32).filter x.pins.getLsbD).map (fun p =>
      if u.get F.PIN_CFG_MODE x.cluster p = 1 then u.rd .cluPcnt x.cluster p else 0)) := by
  have hpin (p : Nat) :
      (if x.dead (9 + x.cluster) || u.get F.PIN_CFG_MODE x.cluster p != 1 then 0 else u.rd .cluPcnt x.cluster p) =
      if u.get F.PIN_CFG_MODE x.cluster p = 1 then u.rd .cluPcnt x.cluster p else 0 := by
    by_cases hmode : u.get F.PIN_CFG_MODE x.cluster p = 1 <;> simp [hdead, hmode]
  simp only [State.fireCountSample, h, hpin]

theorem State.fireTrigger_of_taken (h : s.takeEntry n 2 0x42 = some (u, x)) :
    s.fireTrigger n = ((x.engines.filter (fun m => !x.dead (9 + m / 8))).foldl
      (fun s m => s.setEng m { s.eng m with trig := true }) u).fired n x stOk [] := by
  simp only [State.fireTrigger, h]

/-- Every channel that is named can follow (R323). -/
theorem State.firePwrOn_of_taken (h : s.takeEntry n 1 0x30 = some (u, x)) (hdead : x.dead 20 = false)
    (hfree : (x.channels.any (fun c => let st := (x.channels.foldl (fun s c => s.entryOn x c) u).pst c
      st == pcHeld || st == pcRetryWait || st == pcLatched)) = false) :
    s.firePwrOn n = (x.channels.foldl (fun s c => s.entryOn x c) u).fired n x stOk [] := by
  simp only [State.firePwrOn, h, hdead, hfree, Bool.false_eq_true, if_false]

theorem State.firePwrOff_of_taken (h : s.takeEntry n 1 0x31 = some (u, x)) (hdead : x.dead 20 = false) :
    s.firePwrOff n = (x.channels.foldl (fun s c => s.entryOff x c) u).fired n x
      (if x.channels.any (fun c => (x.channels.foldl (fun s c => s.entryOff x c) u).pst c == pcLatched)
        then stNotInMode else stOk) [] := by
  simp only [State.firePwrOff, h, hdead, Bool.false_eq_true, if_false]

theorem State.firePwrSample_of_taken (h : s.takeEntry n 2 0x43 = some (u, x)) (hdead : x.dead 20 = false) :
    s.firePwrSample n = u.fired n x stOk (x.channels.flatMap (fun c =>
      [u.rd .pwrChMeas0 c, u.rd .pwrChMeas1 c, u.rd .pwrChMeas2 c, u.pwrChStat c])) := by
  simp only [State.firePwrSample, h, hdead, Bool.false_eq_true, if_false]

end

/-- Settles O20, action by action. -/
theorem scheduledActions : Obligations.ScheduledActions := by
  intro s u e x
  refine ⟨fun k a => State.takeEntry_spec, fun h hs => ?handoff, fun h hengs => ?startNone,
    fun m h hengs hdead hrun hok => ?startOne, fun h => ?stop, fun h hdead hout => ?send, fun h hdead hout => ?barred,
    fun h hdead => ?pinSet, fun h hdead hfree => ?pwrOn, fun h hdead => ?pwrOff, fun h hdead => ?pinSample,
    fun h hdead => ?countSample, fun h => ?trigger, fun h hdead => ?pwrSample⟩
  case handoff => exact next_done_congr (State.handoff_of_found h hs)
  case startNone => exact next_done_congr (State.fireStart_of_none h hengs)
  case startOne => exact next_done_congr (State.fireStart_of_one h hengs hdead hrun hok)
  case stop => exact next_done_congr (State.fireStop_of_taken h)
  case send => exact next_done_congr ((State.fireSend_of_taken h hdead).trans (if_pos hout))
  case barred => exact next_done_congr ((State.fireSend_of_taken h hdead).trans (if_neg (by simp [hout])))
  case pinSet => exact next_done_congr (State.firePinSet_of_taken h hdead)
  case pwrOn => exact next_done_congr (State.firePwrOn_of_taken h hdead hfree)
  case pwrOff => exact next_done_congr (State.firePwrOff_of_taken h hdead)
  case pinSample => exact next_done_congr (State.firePinSample_of_taken h hdead)
  case countSample => exact next_done_congr (State.fireCountSample_of_taken h hdead)
  case trigger => exact next_done_congr (State.fireTrigger_of_taken h)
  case pwrSample => exact next_done_congr (State.firePwrSample_of_taken h hdead)

end Sys2Proof.Machine
end

section
/-!
Frames of the facet engines: the registers that a raise and the time up to an engine's edge leave alone (R228, R369).
-/
namespace Sys2Proof.Machine

/-! ### What a raise leaves alone -/

section
variable (s : State) {r : Reg} {i j : Nat}

@[simp] theorem State.updateAlive_rd : s.updateAlive.rd r i j = s.rd r i j := by
  unfold State.updateAlive
  split
  · split <;> rfl
  · rfl

theorem State.setFlt_rd (x : FltS) (r : Reg) (i j : Nat) : ({ s with flt := x } : State).rd r i j = s.rd r i j := rfl

@[simp] theorem State.emit_rd (f : Frame) (p : Nat) (slot : Option Nat) : (s.emit f p slot).rd r i j = s.rd r i j := rfl

variable (h : r.addr i j < 0xA00000)
include h

theorem Reg.addr_ne_of_lt {r' : Reg} {i' j' : Nat} (hbase : 0xA00000 ≤ r'.row.base) : r.addr i j ≠ r'.addr i' j' := by
  unfold Reg.addr at h ⊢
  dsimp only at h ⊢
  omega

theorem State.wr_rd_of_lt {r' : Reg} (i' j' : Nat) (w : Word) (hbase : 0xA00000 ≤ r'.row.base) :
    (s.wr r' i' j' w).rd r i j = s.rd r i j := s.wr_rd_of_ne w (Reg.addr_ne_of_lt h hbase)

theorem State.put_rd_of_lt {f : Fld} (v i' j' : Nat) (hbase : 0xA00000 ≤ f.reg.row.base) :
    (s.put f v i' j').rd r i j = s.rd r i j := s.wr_rd_of_lt h i' j' _ hbase

theorem State.bump_rd_of_lt {r' : Reg} (i' j' n : Nat) (hbase : 0xA00000 ≤ r'.row.base) :
    (s.bump r' i' j' n).rd r i j = s.rd r i j := s.wr_rd_of_lt h i' j' _ hbase

theorem State.sat_rd_of_lt {f : Fld} (i' j' : Nat) (hbase : 0xA00000 ≤ f.reg.row.base) :
    (s.sat f i' j').rd r i j = s.rd r i j := by
  unfold State.sat
  dsimp only
  split
  · exact s.put_rd_of_lt h _ _ _ hbase
  · rfl

theorem State.faultPulse_rd_of_lt : s.faultPulse.rd r i j = s.rd r i j := by
  unfold State.faultPulse
  split
  · rfl
  split
  · rfl
  split
  · exact s.bump_rd_of_lt h _ _ _ (by decide)
  · rfl

theorem State.faultEvent_rd_of_lt (kind src reaction : Nat) : (s.faultEvent kind src reaction).rd r i j = s.rd r i j := by
  unfold State.faultEvent
  split
  · rfl
  · exact State.bump_rd_of_lt (s.emit _) h _ _ _ (by decide)

theorem State.raiseEvent_rd_of_lt (src : Nat) : (s.raiseEvent src).rd r i j = s.rd r i j := by
  unfold State.raiseEvent
  split
  · rfl
  dsimp only
  split
  · rfl
  split
  · exact State.bump_rd_of_lt _ h _ _ _ (by decide)
  · exact State.faultEvent_rd_of_lt _ h _ _ _

theorem State.mirrorOne_rd_of_lt : s.mirrorOne.rd r i j = s.rd r i j := by
  unfold State.mirrorOne
  split
  · rfl
  dsimp only
  split
  · exact State.bump_rd_of_lt _ h _ _ _ (by decide)
  · rfl

theorem State.log_rd_of_lt (audit : Bool) (cls origin source code : Nat) (who : Who) (data : List Word) :
    (s.log audit cls origin source code who data).rd r i j = s.rd r i j := by
  unfold State.log
  split
  · rfl
  dsimp only
  refine (State.wr_rd_of_lt _ h _ _ _ (by decide)).trans ?_
  split
  · exact s.mirrorOne_rd_of_lt h
  · rfl

theorem State.faultRecord_rd_of_lt (src : Nat) (raised : Bool) : (s.faultRecord src raised).rd r i j = s.rd r i j := by
  unfold State.faultRecord
  split
  · rfl
  dsimp only
  split
  · rfl
  · exact s.log_rd_of_lt h _ _ _ _ _ _ _

theorem State.raiseCore_rd_of_lt (src inst : Nat) : (s.raiseCore src inst).rd r i j = s.rd r i j := by
  unfold State.raiseCore
  extract_lets reg instanced flags raised counted c pulsed flags' graced
  have hinstanced : instanced.rd r i j = s.rd r i j := by
    have hbase : 0xA00000 ≤ reg.row.base := by
      unfold reg
      split <;> decide
    exact s.wr_rd_of_lt h _ _ _ hbase
  have hcounted : counted.rd r i j = s.rd r i j := by
    unfold counted
    rw [State.bump_rd_of_lt _ h _ _ _ (by decide), State.sat_rd_of_lt _ h _ _ (by decide), State.put_rd_of_lt _ h _ _ _ (by decide),
      State.put_rd_of_lt _ h _ _ _ (by decide)]
    exact hinstanced
  have hpulsed : pulsed.rd r i j = s.rd r i j := by
    unfold pulsed
    split
    · exact (counted.faultPulse_rd_of_lt h).trans hcounted
    · exact hcounted
  have hgraced : graced.rd r i j = s.rd r i j := by
    unfold graced
    split
    · exact (State.setFlt_rd pulsed _ r i j).trans hpulsed
    split
    · split
      · exact hpulsed
      split
      · exact (State.setFlt_rd pulsed _ r i j).trans hpulsed
      · rw [State.arm_rd, State.put_rd_of_lt _ h _ _ _ (by decide)]
        exact hpulsed
    · exact hpulsed
  rw [State.updateAlive_rd, State.faultRecord_rd_of_lt _ h, State.raiseEvent_rd_of_lt _ h, hgraced]

theorem State.raise_rd_of_lt (src inst : Nat) : (s.raise src inst).rd r i j = s.rd r i j := by
  unfold State.raise
  split
  · exact s.raiseCore_rd_of_lt h src inst
  · rfl
end

/-! ### The edge of an engine, and its stop -/

/-- What every step of a fold keeps, the fold keeps. -/
theorem foldl_keeps {α β : Type} (g : State → β) (f : State → α → State) (h : ∀ s a, g (f s a) = g s) (l : List α)
    (s : State) : g (l.foldl f s) = g s := by
  induction l generalizing s with
  | nil => rfl
  | cons a l ih => exact (ih _).trans (h s a)

@[simp] theorem State.settleAt_regs (s : State) (k t : Nat) : (s.settleAt k t).regs = s.regs := by
  unfold State.settleAt
  dsimp only
  split <;> rfl

@[simp] theorem State.flowPins_regs (s : State) (k : Nat) : (s.flowPins k).regs = s.regs := by
  unfold State.flowPins
  dsimp only
  split
  · rfl
  · rw [foldl_keeps State.regs _ fun s o => (State.settleAt_regs _ _ _).trans (State.setClu_regs _ _ _)]
    exact State.setClu_regs _ _ _

@[simp] theorem State.flowSignals_regs (s : State) (k : Nat) : (s.flowSignals k).regs = s.regs := by
  unfold State.flowSignals
  dsimp only
  split <;> rfl

theorem State.rd_of_regs {s t : State} (h : t.regs = s.regs) (r : Reg) (i j : Nat) : t.rd r i j = s.rd r i j := by
  unfold State.rd
  rw [h]

/-- Up to an edge only the ring time changes in the registers. -/
theorem State.toEdge_rd (s : State) (n : Nat) {r : Reg} {i j : Nat} (h : r.addr i j ≠ Reg.timEpoch.addr 0 0) :
    (s.toEdge n).rd r i j = s.rd r i j := by
  have hregs : (s.toEdge n).regs = (s.advance ((s.eng n).edge - s.now)).regs := by
    unfold State.toEdge
    rw [State.flowSignals_regs, State.flowPins_regs, State.setEng_regs]
  rw [State.rd_of_regs hregs, State.advance_rd_of_ne s _ h]

theorem State.toEdge_running (s : State) (n m : Nat) : (s.toEdge n).running m = s.running m := by
  have hne : Reg.engStatus.addr (m / 8) (m % 8) ≠ Reg.timEpoch.addr 0 0 := by
    show 0x400004 + m / 8 * 0x10000 + m % 8 * 0x100 ≠ 0x30000C
    omega
  unfold State.running State.eis State.is State.get
  rw [State.toEdge_rd _ _ hne]

/-- A poisoned word that is read changes no register of its engine but the count of its cluster. -/
theorem State.notePoison_rd (s : State) {n : Nat} (q : QWord) {r : Reg} {i j : Nat} (h : r.addr i j < 0xA00000)
    (hcnt : r.addr i j ≠ Reg.cluCnt.addr (n / 8) 0) : (s.notePoison n q).rd r i j = s.rd r i j := by
  unfold State.notePoison
  split
  · rw [State.raise_rd_of_lt _ h, State.bump_rd_of_ne _ _ hcnt]
  · rfl

theorem State.notePoison_eget (s : State) {n : Nat} (q : QWord) {f : Fld} (hn : n < 64)
    (hf : f.reg = .engStatus ∨ f.reg = .engQcfg) : (s.notePoison n q).eget f n = s.eget f n := by
  have haddr : ∃ b < 0x100, f.reg.addr (n / 8) (n % 8) = 0x400000 + b + n / 8 * 0x10000 + n % 8 * 0x100 := by
    rcases hf with hf | hf <;> rw [hf]
    · exact ⟨4, by decide, rfl⟩
    · exact ⟨0x14, by decide, rfl⟩
  obtain ⟨b, hb, haddr⟩ := haddr
  have hcnt : Reg.cluCnt.addr (n / 8) 0 = 0x402200 + n / 8 * 0x10000 + 0 * 4 := rfl
  unfold State.eget State.get
  rw [State.notePoison_rd s q (by omega) (by omega)]

/-- A running engine that is stopped stands still and shows why (R219). -/
theorem State.stopEngine_shows {s : State} {n cause : Nat} (hrun : s.running n = true) (hcause : cause < 8) :
    (s.stopEngine n cause).running n = false ∧ (s.stopEngine n cause).eget F.ENG_STATUS_STOP_CAUSE n = cause := by
  unfold State.stopEngine
  rw [hrun]
  extract_lets part stopped marked
  have hstopped : stopped.get F.ENG_STATUS_RUNNING (n / 8) (n % 8) = 0 ∧
      stopped.get F.ENG_STATUS_STOP_CAUSE (n / 8) (n % 8) = cause := by
    unfold stopped State.eput
    constructor
    · rw [State.put_get_of_apart _ _ (by decide), State.put_get_of_apart _ _ (by decide),
        State.put_get_self _ _ _ _ _ (by decide) (by decide)]
      exact Nat.zero_mod _
    · rw [State.put_get_self _ _ _ _ _ (by decide) (by decide)]
      exact Nat.mod_eq_of_lt hcause
  have hpartial : marked.get F.ENG_STATUS_RUNNING (n / 8) (n % 8) = 0 ∧
      marked.get F.ENG_STATUS_STOP_CAUSE (n / 8) (n % 8) = cause := by
    unfold marked State.eput
    split
    · rw [State.put_get_of_apart _ _ (by decide), State.put_get_of_apart _ _ (by decide)]
      exact hstopped
    · exact hstopped
  exact ⟨State.not_is_of_get hpartial.1, hpartial.2⟩

end Sys2Proof.Machine
end

section
/-!
TAKE, GIVE, HOLD, STAMP and SIGNAL of a facet engine when they do not stall (R228, R235-R238, R244).
-/
namespace Sys2Proof.Machine

section
variable {s u t : State} {n k : Nat} {w : Word} {op : State → Nat → Word → State × Flow} {f : Flow}

/-- The edge of an instruction that does not stall (R228). -/
theorem AtEdge.engineEdge_of_op (h : AtEdge s n k w u) (hst : u.stalls n w = false) (hop : op u n w = (t, f)) :
    s.engineEdge n (fun w => opOf w == k) op =
      let t := if opOf w = 2 then t.setEng n { t.eng n with took := some (u.takeNote n w) } else t
      (if (u.eng n).first && f != .poison then t.sideSet n w else t).flow n f := by
  unfold State.engineEdge
  simp only [h.word, h.run, h.up, h.own, h.code, h.edge, h.good, hst, hop, beq_self_eq_true, Bool.not_true, Bool.or_self,
    Bool.false_eq_true, if_false]
  by_cases htake : k = 2 <;> simp [htake]

theorem AtEdge.engineEdge_eq_retire (h : AtEdge s n k w u) (hst : u.stalls n w = false) (hop : op u n w = (t, f))
    (hf : f ≠ .poison) : s.engineEdge n (fun w => opOf w == k) op = u.retire n w t f := by
  have hgo : (f != .poison) = true := by simpa using hf
  rw [h.engineEdge_of_op hst hop]
  simp only [hgo, Bool.and_true]
  rfl
end

section
variable {u : State} {n : Nat} {w : Word}

/-- Where a TAKE puts its word (R235). -/
def State.takeInto (s : State) (n dest : Nat) (v : Word) : State :=
  match dest with
  | 0 => s.setOsr n v 0
  | 1 => s.setX n (v.bits 15 0)
  | 2 => s.setY n (v.bits 15 0)
  | _ => s.setPattern n v

theorem State.stalls_take (hcode : opOf w = 2) : u.stalls n w = (!w.getLsbD 12 && (u.eng n).txq.isEmpty) := by
  simp only [State.stalls, hcode]

theorem QWord.read_of_sound {q : QWord} (hp : q.poison = false) (hpar : q.parity = false) : q.read = q := by
  cases q
  simp_all [QWord.read]

/-- A sound head of TXQ is removed (R235). -/
theorem State.opTake_of_sound {q : QWord} {rest : List QWord} (hq : (u.eng n).txq = q :: rest) (hp : q.poison = false)
    (hpar : q.parity = false) : u.opTake n w = (State.takeInto (u.setEng n { u.eng n with
      path := (u.eng n).path.drop 1, txn := (u.eng n).txn - 1, mid := !q.last, l := q.last, e := false })
        n (w.bits 14 13) q.w, .next) := by
  have hread : q.read = q := QWord.read_of_sound hp hpar
  have hnote : u.notePoison n q = u := by simp [State.notePoison, hread, hp]
  unfold State.opTake
  simp only [hq, hnote, hread, hp, Bool.false_and, Bool.false_eq_true, if_false, List.drop_succ_cons, List.drop_zero]
  rfl

/-- A poisoned head stays and stops the engine under POISON_HALT (R210). -/
theorem State.opTake_of_poisoned {q : QWord} {rest : List QWord} (hq : (u.eng n).txq = q :: rest)
    (hp : (q.poison || q.parity) = true) (hhalt : (u.notePoison n q).eis F.ENG_QCFG_POISON_HALT n = true) :
    ∃ x, u.opTake n w = ((u.notePoison n q).setEng n x, .poison) := by
  have hread : q.read.poison = true := hp
  unfold State.opTake
  simp only [hq, hread, hhalt, Bool.and_self, if_true]
  exact ⟨_, rfl⟩

theorem State.opTake_of_empty (hq : (u.eng n).txq = []) :
    u.opTake n w = (u.setEng n { u.eng n with e := true }, .next) := by
  unfold State.opTake
  simp only [hq]

/-- The word that a GIVE places in RXQ (R235). -/
def State.giveValue (s : State) (n : Nat) (w : Word) : Word :=
  match w.bits 14 13 with
  | 0 => if !w.getLsbD 11 then s.isr n else if s.eget F.ENG_STATUS_ISR_CNT n = 0 then 0
    else s.isr n >>> (32 - s.eget F.ENG_STATUS_ISR_CNT n)
  | 1 => s.rd .engXy (n / 8) (n % 8)
  | 2 => s.crcVal n
  | _ => s.pattern n

theorem State.stalls_give (hcode : opOf w = 3) : u.stalls n w = u.rxFull n := by
  simp only [State.stalls, hcode]

/-- Only a GIVE of ISR clears it, and only without KEEP. -/
theorem State.opGive_eq : u.opGive n w = (if w.bits 14 13 = 0 ∧ w.getLsbD 10 = false then
      (u.giveWord n (u.giveValue n w) (w.getLsbD 12) (u.eng n).stampBad).setIsr n 0 0
    else u.giveWord n (u.giveValue n w) (w.getLsbD 12)
      ((w.bits 14 13 == 0 && (u.eng n).stampBad) || (w.bits 14 13 == 3 && (u.eng n).patBad)), .next) := by
  by_cases hclear : w.bits 14 13 = 0 ∧ w.getLsbD 10 = false
  · rw [if_pos hclear]
    obtain ⟨hsrc, hkeep⟩ := hclear
    have hflag : ((0 == 0 && (u.eng n).stampBad) || (0 == 3 && (u.eng n).patBad)) = (u.eng n).stampBad := by simp
    simp only [State.opGive, State.giveValue, hsrc, hkeep, hflag, Bool.not_false, and_self, if_true]
  · rw [if_neg hclear]
    have hclear' : ¬ (w.bits 14 13 = 0 ∧ (!w.getLsbD 10) = true) := by simpa using hclear
    unfold State.opGive
    simp only [if_neg hclear']
    rfl

/-- A word that is given without an RXQ is lost (R235). -/
theorem State.giveWord_of_no_queue (x : Word) (b bad : Bool) (hcap : u.rxCap n = 0) :
    u.giveWord n x b bad = u.eput F.ENG_STATUS_RX_LOST 1 n := if_pos hcap

/-- A word that is given stands at the end of RXQ with the ring time of its cluster. -/
theorem State.giveWord_rxq (x : Word) (b bad : Bool) (hcap : u.rxCap n ≠ 0) :
    ((u.giveWord n x b bad).eng n).rxq = (u.eng n).rxq ++
      [{ w := x, last := b, time := u.stampNs (9 + n / 8), at_ := u.now, invalid := u.timeInvalid || bad }] := by
  unfold State.giveWord
  rw [if_neg hcap]
  simp

theorem State.stalls_hold (hcode : opOf w = 4) : u.stalls n w = u.holdWaits n w := by
  simp only [State.stalls, hcode]

/-- HOLD TRIGGER takes the trigger (R236). -/
theorem State.opHold_trigger (hcond : w.bits 14 12 = 3) :
    u.opHold n w = (u.setEng n { u.eng n with trig := false }, .next) := by
  simp only [State.opHold, hcond]

/-- HOLD SIGNAL with CLR clears the signal it names (R236, R238). -/
theorem State.opHold_signal_clear (hcond : w.bits 14 12 = 5) (hclr : w.getLsbD 3 = true) :
    u.opHold n w = (u.setClu (n / 8) { u.clu (n / 8) with
      sigClr := (u.clu (n / 8)).sigClr ||| (1#8 <<< w.bits 2 0), sigAt := u.now }, .next) := by
  simp only [State.opHold, hcond, hclr, if_true]

/-- A HOLD for anything else changes nothing. -/
theorem State.opHold_plain (htrig : w.bits 14 12 ≠ 3) (hsig : w.bits 14 12 = 5 → w.getLsbD 3 = false) :
    u.opHold n w = (u, .next) := by
  unfold State.opHold
  split
  next h => exact absurd h htrig
  next h => simp only [hsig h, Bool.false_eq_true, if_false]
  next => rfl

theorem State.stalls_stamp (hcode : opOf w = 14) : u.stalls n w = (w.getLsbD 14 && u.rxFull n) := by
  simp only [State.stalls, hcode]

/-- STAMP without TO_RXQ leaves the ring time of its cluster in ISR (R244). -/
theorem State.opStamp_isr (h : w.getLsbD 14 = false) :
    u.opStamp n w = (State.setEng (u.setIsr n (u.stampNs (9 + n / 8)) 32) n
      { (u.setIsr n (u.stampNs (9 + n / 8)) 32).eng n with
        stampBad := (u.setIsr n (u.stampNs (9 + n / 8)) 32).timeInvalid }, .next) := by
  simp only [State.opStamp, h, Bool.false_eq_true, if_false]

theorem State.opStamp_rxq (h : w.getLsbD 14 = true) :
    u.opStamp n w = (u.giveWord n (u.stampNs (9 + n / 8)) (w.getLsbD 13), .next) := by
  simp only [State.opStamp, h, if_true]

theorem State.stalls_signal (hcode : opOf w = 11) : u.stalls n w = false := by
  simp only [State.stalls, hcode]

/-- SIGNAL notes the signals that it sets or clears (R238). -/
theorem State.opSignal_eq : u.opSignal n w = (u.setClu (n / 8) (if w.getLsbD 14 then
      { u.clu (n / 8) with sigClr := (u.clu (n / 8)).sigClr ||| w.setWidth 8, sigAt := u.now }
    else { u.clu (n / 8) with sigSet := (u.clu (n / 8)).sigSet ||| w.setWidth 8, sigAt := u.now }), .next) := by
  unfold State.opSignal
  cases hclr : w.getLsbD 14 <;> simp only [Bool.false_eq_true, if_false, if_true]

/-- The signals at a later cluster clock: clears before sets (R238). -/
theorem State.flowSignals_signals {k : Nat} (h : (u.clu k).sigAt < u.now) :
    ((u.flowSignals k).clu k).signals = ((u.clu k).signals &&& ~~~(u.clu k).sigClr) ||| (u.clu k).sigSet := by
  unfold State.flowSignals
  simp only [if_neg (Nat.not_le.2 h), State.setClu_clu_self]
end

/-- The edge of a TAKE that the poison of its word stops. -/
theorem AtEdge.engineEdge_of_poison {s u t : State} {n : Nat} {w : Word} {op : State → Nat → Word → State × Flow}
    (h : AtEdge s n 2 w u) (hst : u.stalls n w = false) (hop : op u n w = (t, .poison)) :
    s.engineEdge n (fun w => opOf w == 2) op =
      State.stopEngine (t.setEng n { t.eng n with took := some (u.takeNote n w) }) n scPoison := by
  rw [h.engineEdge_of_op hst hop, if_pos h.code]
  simp only [bne_self_eq_false, Bool.and_false, Bool.false_eq_true, if_false]
  rfl

theorem AtEdge.running {s u : State} {n k : Nat} {w : Word} (h : AtEdge s n k w u) : u.running n = true := by
  rw [← h.edge, State.toEdge_running]
  exact h.run

/-- A TAKE whose head is poisoned stops its engine with cause POISON under POISON_HALT (R210). -/
theorem AtEdge.take_poisoned {s u : State} {n : Nat} {w : Word} (h : AtEdge s n 2 w u) (hn : n < 64) {q : QWord}
    {rest : List QWord} (hq : (u.eng n).txq = q :: rest) (hp : (q.poison || q.parity) = true)
    (hhalt : u.eis F.ENG_QCFG_POISON_HALT n = true) :
    (s.engineEdge n (fun w => opOf w == 2) State.opTake).running n = false ∧
    (s.engineEdge n (fun w => opOf w == 2) State.opTake).eget F.ENG_STATUS_STOP_CAUSE n = scPoison := by
  have hst : u.stalls n w = false := by
    rw [State.stalls_take h.code, hq]
    exact Bool.and_false _
  have hhalt' : (u.notePoison n q).eis F.ENG_QCFG_POISON_HALT n = true := by
    rw [← hhalt]
    exact congrArg (· == 1) (u.notePoison_eget q hn (.inr rfl))
  have hrun : (u.notePoison n q).running n = true := by
    rw [← h.running]
    exact congrArg (· == 1) (u.notePoison_eget q hn (.inl rfl))
  obtain ⟨x, hop⟩ := State.opTake_of_poisoned (w := w) hq hp hhalt'
  rw [h.engineEdge_of_poison hst hop]
  exact State.stopEngine_shows hrun (by decide)

/-- The value of a GIVE by its source (R235). -/
theorem State.giveValue_of {u : State} {n : Nat} {w x : Word}
    (h : w.bits 14 13 = 0 ∧ w.getLsbD 11 = false ∧ x = u.isr n ∨
      w.bits 14 13 = 0 ∧ w.getLsbD 11 = true ∧ u.eget F.ENG_STATUS_ISR_CNT n = 0 ∧ x = 0 ∨
      w.bits 14 13 = 0 ∧ w.getLsbD 11 = true ∧ u.eget F.ENG_STATUS_ISR_CNT n ≠ 0 ∧
        x = u.isr n >>> (32 - u.eget F.ENG_STATUS_ISR_CNT n) ∨
      w.bits 14 13 = 1 ∧ x = u.rd .engXy (n / 8) (n % 8) ∨ w.bits 14 13 = 2 ∧ x = u.crcVal n ∨
      w.bits 14 13 = 3 ∧ x = u.pattern n) : u.giveValue n w = x := by
  rcases h with ⟨hsrc, hlen, rfl⟩ | ⟨hsrc, hlen, hcnt, rfl⟩ | ⟨hsrc, hlen, hcnt, rfl⟩ | ⟨hsrc, rfl⟩ | ⟨hsrc, rfl⟩ | ⟨hsrc, rfl⟩ <;>
    simp only [State.giveValue, hsrc]
  · rw [hlen]
    rfl
  · rw [hlen, if_pos hcnt]
    rfl
  · rw [hlen, if_neg hcnt]
    rfl

/-- Settles O23, instruction by instruction. -/
theorem facetQueuesAndWaits : Obligations.FacetQueuesAndWaits := by
  intro s u t e w
  refine ⟨fun q rest h hq hp hpar ht => ?take, fun q rest h hq hp hhalt => ?poison, fun h hq hnowait => ?empty,
    fun x h hroom hx => ?give, fun x b bad => ⟨State.giveWord_of_no_queue x b bad, fun hcap => ?given⟩,
    fun h hmet => ⟨fun htrig => ?trigger, fun hsig hclr => ?clear, fun htrig hsig => ?hold⟩,
    fun h hisr => ?stampIsr, fun h hrxq hroom => ?stampRxq, fun h => ?signal, fun k hk => State.flowSignals_signals hk⟩
  case take =>
    subst ht
    have hst : u.stalls e w = false := by
      rw [State.stalls_take h.code, hq]
      exact Bool.and_false _
    have hedge := h.engineEdge_eq_retire hst (State.opTake_of_sound hq hp hpar) (by decide)
    refine ⟨fun hdest => ?_, fun hdest => ?_, fun hdest => ?_, fun hdest => ?_⟩ <;>
      (rw [hdest] at hedge; exact next_done_congr hedge)
  case poison => exact does_of_eq rfl rfl (h.take_poisoned e.isLt hq hp hhalt)
  case empty =>
    have hst : u.stalls e w = false := by
      rw [State.stalls_take h.code, hnowait]
      rfl
    exact next_done_congr (h.engineEdge_eq_retire hst (State.opTake_of_empty hq) (by decide))
  case give =>
    have hst : u.stalls e w = false := (State.stalls_give h.code).trans hroom
    have hop := State.opGive_eq (u := u) (n := e) (w := w)
    rw [State.giveValue_of hx] at hop
    exact next_done_congr (h.engineEdge_eq_retire hst hop (by decide))
  case given => exact ⟨_, rfl, rfl, rfl, rfl, rfl, State.giveWord_rxq x b bad hcap⟩
  case trigger =>
    have hst : u.stalls e w = false := (State.stalls_hold h.code).trans hmet
    exact next_done_congr (h.engineEdge_eq_retire hst (State.opHold_trigger htrig) (by decide))
  case clear =>
    have hst : u.stalls e w = false := (State.stalls_hold h.code).trans hmet
    exact next_done_congr (h.engineEdge_eq_retire hst (State.opHold_signal_clear hsig hclr) (by decide))
  case hold =>
    have hst : u.stalls e w = false := (State.stalls_hold h.code).trans hmet
    exact next_done_congr (h.engineEdge_eq_retire hst (State.opHold_plain htrig hsig) (by decide))
  case stampIsr =>
    have hst : u.stalls e w = false := by rw [State.stalls_stamp h.code, hisr, Bool.false_and]
    exact next_done_congr (h.engineEdge_eq_retire hst (State.opStamp_isr hisr) (by decide))
  case stampRxq =>
    have hst : u.stalls e w = false := by rw [State.stalls_stamp h.code, hroom, Bool.and_false]
    exact next_done_congr (h.engineEdge_eq_retire hst (State.opStamp_rxq hrxq) (by decide))
  case signal =>
    exact next_done_congr (h.engineEdge_eq_retire (State.stalls_signal h.code) State.opSignal_eq (by decide))

end Sys2Proof.Machine
end

section
/-!
Pins of a cluster: injected instructions, debouncing, change-of-state events, bank supplies and levels from outside (R196, R198, R201,
R205, R218, R221).
-/
namespace Sys2Proof.Machine

/-! ### An injected instruction (R221) -/

/-- The end of an injected instruction that does not stall, on an engine that runs or not: the program counter stays where it is but
for a taken BRANCH or LOOP, and a HALT stops a running engine. -/
def State.injected (t : State) (n : Nat) (w : Word) (run : Bool) (f : Flow) : State :=
  match f with
  | .next => t.sideSet n w
  | .jump a =>
    let v := (t.sideSet n w).eput F.ENG_STATUS_PC (a % 128) n
    if run then (v.eput F.ENG_STATUS_STALLED 0 n).setEng n { v.eng n with first := true, hold := 0 } else v
  | .halt => if run then (t.sideSet n w).stopEngine n scHalt else t.sideSet n w
  | .poison => t.stopEngine n scPoison

/-- The instruction `w` that waits in engine `n` takes its edge, at which the state is `u`. -/
structure Injects (s : State) (n : Nat) (w : Word) (u : State) : Prop where
  pending : s.eis F.ENG_INJECT_PENDING n = true
  up : s.cluUp (n / 8) = true
  word : (s.eng n).inj = w
  timely : s.running n = true → (s.eng n).injAt ≤ (s.eng n).edge
  edge : u = State.eput (State.toEdge (if s.running n then s else s.divideTo n (s.eng n).injAt) n) F.ENG_INJECT_PENDING 0 n

section
variable {s u t : State} {n : Nat} {w : Word} (h : Injects s n w u)
include h

theorem Injects.guard :
    (!s.eis F.ENG_INJECT_PENDING n || !s.cluUp (n / 8) || (s.running n && decide ((s.eng n).edge < (s.eng n).injAt))) = false := by
  rw [h.pending, h.up]
  cases hrun : s.running n with
  | false => rfl
  | true => simpa using h.timely hrun

theorem Injects.edge_of_stall (hst : u.injectStalls n w = true) : s.injectEdge n = u.eput F.ENG_STATUS_INJ_STALL 1 n := by
  unfold State.injectEdge
  simp only [h.guard, h.word, ← h.edge, hst, Bool.false_eq_true, if_false, if_true]

theorem Injects.edge_of_op {f : Flow} {run : Bool} (hrun : s.running n = run) (hst : u.injectStalls n w = false)
    (hop : u.operate n w = (t, f)) : s.injectEdge n = t.injected n w run f := by
  subst hrun
  unfold State.injectEdge
  simp only [h.guard, h.word, ← h.edge, hst, hop, Bool.false_eq_true, if_false]
  rfl
end

/-! ### Debouncing (R201) -/

theorem State.debounce_of_up {s : State} {k : Nat} (hup : s.cluUp k = true) :
    s.debounce k = (List.range 32).foldl (fun s p => s.debouncePin k p) (s.flowPins k) := if_pos hup

section
variable {s : State} {k p : Nat} (hmode : s.get F.PIN_CFG_MODE k p = 1) (hdeb : s.get F.PIN_CFG_DEB_US k p ≠ 0)
  (hnew : (s.clu k).net.getLsbD p ≠ (s.clu k).acc.getLsbD p)
include hmode hdeb hnew

/-- One more sample of a new level: the DEB_US-th accepts it. -/
theorem State.debouncePin_of_new_level : s.debouncePin k p =
    if s.get F.PIN_CFG_DEB_US k p ≤ tget 0 (s.clu k).runs p + 1 then s.acceptLevel k p
    else s.setClu k { s.clu k with runs := tset (s.clu k).runs p (tget 0 (s.clu k).runs p + 1) } := by
  have hsampled : ¬ (s.get F.PIN_CFG_MODE k p ≠ 1 ∨ s.get F.PIN_CFG_DEB_US k p = 0) := by simp [hmode, hdeb]
  have hdiffers : ¬ ((s.clu k).net.getLsbD p == (s.clu k).acc.getLsbD p) = true := by simpa using hnew
  unfold State.debouncePin
  simp only [if_neg hsampled, if_neg hdiffers, ge_iff_le]

end

/-- A level that is accepted turns the accepted one over and leaves the ball alone. -/
theorem State.acceptLevel_levels (s : State) (k p : Nat) :
    ((s.acceptLevel k p).clu k).acc = (s.clu k).acc.setBits p p (bit (!(s.clu k).acc.getLsbD p)) ∧
    ((s.acceptLevel k p).clu k).net = (s.clu k).net := by
  unfold State.acceptLevel
  extract_lets x new accepted rising e counts noted t
  have hnoted : noted.acc = accepted.acc ∧ noted.net = x.net := by
    unfold noted
    split <;> exact ⟨rfl, rfl⟩
  have hclu : (if counts then t.bump .cluPcnt k p else t).clu k = noted := by
    rw [← State.setClu_clu_self s k noted]
    split <;> rfl
  rw [hclu]
  exact hnoted

theorem State.acceptLevel_acc (s : State) (k : Nat) {p : Nat} (hp : p < 32) :
    ((s.acceptLevel k p).clu k).acc.getLsbD p = !(s.clu k).acc.getLsbD p := by
  rw [(s.acceptLevel_levels k p).1, Word.getLsbD_setBits _ _ _ (Nat.le_refl p) hp, if_pos ⟨Nat.le_refl p, Nat.le_refl p⟩,
    Nat.sub_self]
  cases (s.clu k).acc.getLsbD p <;> rfl

/-! ### The change-of-state event (R205) -/

theorem State.cosEvent_of_mask {s u : State} {k : Nat} (hup : s.cluUp k = true) (hmask : (s.clu k).cosMask ≠ 0)
    (hdest : s.get F.CLU_COS_DEST_NODE k ≠ 0) (hu : (s.expire (.cosHold k 0)).getD s = u) :
    s.cosEvent k =
      (((u.setClu k { s.clu k with cosMask := 0 }).bump .cluCnt k 5).emitOut
        (u.event u.sourceNode 0xFF (BitVec.ofNat 24 (u.get F.CLU_COS_DEST_NODE k)) (u.get F.CLU_COS_DEST_PORT k)
          (u.get F.CLU_COS_CFG_CLASS k) (u.is F.CLU_COS_CFG_DUAL k)
          [BitVec.ofNat 32 k, u.cluDinWord k, (s.clu k).cosMask, (s.clu k).cosTime]) 122).arm (.cosHold k 0)
        (1000 * ((u.setClu k { s.clu k with cosMask := 0 }).bump .cluCnt k 5).get F.CLU_COS_CFG_HOLDOFF_US k) := by
  have hguard : (!s.cluUp k || (s.clu k).cosMask == 0 || s.get F.CLU_COS_DEST_NODE k == 0) = false := by
    rw [hup, beq_eq_false_iff_ne.2 hmask, beq_eq_false_iff_ne.2 hdest]
    rfl
  unfold State.cosEvent
  simp only [hguard, hu, Bool.false_eq_true, if_false]

/-! ### Bank supplies (R196) -/

/-- What the bank monitor of a cluster that is up does (R196). -/
theorem State.bankCompare_of_up {s : State} {k : Nat} (hup : s.cluUp k = true) : s.bankCompare k =
    if s.bankOk k then ((s.put F.CLU_STAT_BANK_OK 1 k).clearLive 0x60 k).settleNet k
    else ((s.put F.CLU_STAT_BANK_OK 0 k).setLive 0x60 k).settleNet k := by
  unfold State.bankCompare
  simp only [hup, Bool.not_true, Bool.false_eq_true, if_false]

section
variable {s : State} {k : Nat} (hup : s.cluUp k = true)
include hup

theorem State.bankSupply_loss : s.bankSupply k false =
    (((s.setClu k { s.clu k with supply := .out }).put F.CLU_STAT_BANK_OK 0 k).setLive 0x60 k).settleNet k := by
  refine (State.bankCompare_of_up (s := s.setClu k { s.clu k with supply := .out }) hup).trans (if_neg ?_)
  simp [State.bankOk]

theorem State.bankSupply_return : s.bankSupply k true =
    (((s.setClu k { s.clu k with supply := .level (s.get F.CLU_CFG_BANK_V k) }).put F.CLU_STAT_BANK_OK 1 k).clearLive
      0x60 k).settleNet k := by
  refine (State.bankCompare_of_up (s := s.setClu k { s.clu k with supply := .level (s.get F.CLU_CFG_BANK_V k) }) hup).trans
    (if_pos ?_)
  simp [State.bankOk]
end

/-! ### Levels from outside (R201) -/

theorem CluS.setNet_levels (x : CluS) (t : Nat) (net : Word) : (x.setNet t net).net = net ∧ (x.setNet t net).acc = x.acc := by
  unfold CluS.setNet
  split
  next hsame => exact ⟨hsame.symm, rfl⟩
  next => exact ⟨rfl, rfl⟩

/-- The state in which a ball that its cluster does not drive has taken a level from outside. -/
def State.outside (v : State) (k p : Nat) (b : Bool) : State :=
  v.setClu k ((v.clu k).setNet v.now ((v.clu k).net.setBits p p (bit b)))

section
variable {s v : State} {k p : Nat} {b : Bool} (hv : s.flowPins k = v) (hdrives : v.pinDrives k p = false)
  (hnew : (v.clu k).net.getLsbD p ≠ b)

theorem State.outside_net (hp : p < 32) : ((v.outside k p b).clu k).net.getLsbD p = b := by
  unfold State.outside
  rw [State.setClu_clu_self, (CluS.setNet_levels _ _ _).1, Word.getLsbD_setBits _ _ _ (Nat.le_refl p) hp,
    if_pos ⟨Nat.le_refl p, Nat.le_refl p⟩, Nat.sub_self]
  cases b <;> rfl

theorem State.outside_acc : ((v.outside k p b).clu k).acc = (v.clu k).acc := by
  unfold State.outside
  rw [State.setClu_clu_self, (CluS.setNet_levels _ _ _).2]

include hv hdrives hnew

/-- A pin that does not drive takes the level from outside; without debouncing it is accepted at once. -/
theorem State.pinChange_of_new_level : s.pinChange k p b =
    if v.cluUp k && v.get F.PIN_CFG_MODE k p == 1 && v.get F.PIN_CFG_DEB_US k p == 0 && (v.clu k).acc.getLsbD p != b
    then (v.outside k p b).acceptLevel k p else v.outside k p b := by
  have hguard : (v.pinDrives k p || (v.clu k).net.getLsbD p == b) = false := by simpa [hdrives] using hnew
  have hpin : s.pinChange k p b =
      if v.cluUp k && v.get F.PIN_CFG_MODE k p == 1 && v.get F.PIN_CFG_DEB_US k p == 0 &&
        ((v.outside k p b).clu k).acc.getLsbD p != b
      then (v.outside k p b).acceptLevel k p else v.outside k p b := by
    unfold State.pinChange
    simp only [hv, hguard, Bool.false_eq_true, if_false]
    rfl
  rw [hpin, State.outside_acc]
end

/-- Settles O25, row by row. -/
theorem clusterPins : Obligations.ClusterPins := by
  intro s u t e k w
  refine ⟨fun hpend hup hinj hat hu => ?inject, fun hup => ?debounce, fun p hmode hdeb hnew => ?sample,
    fun p hp => State.acceptLevel_acc s k hp, fun hup hmask hdest hu v f hv hf => ?event,
    fun hup => ⟨next_done_congr (State.bankSupply_loss hup), next_done_congr (State.bankSupply_return hup)⟩,
    fun p b v hv hdrives hnew => ⟨fun hmode => ?plain, fun hup hmode hdeb hacc => ?accepted⟩⟩
  case inject =>
    have h : Injects s e w u := ⟨hpend, hup, hinj, hat, hu⟩
    exact ⟨fun hst => next_done_congr (h.edge_of_stall hst), fun hst =>
      ⟨fun hop => next_done_congr (h.edge_of_op rfl hst hop),
        fun a hop hrun => next_done_congr (h.edge_of_op hrun hst hop),
        fun a v hop hrun hv => next_done_congr (hv ▸ h.edge_of_op hrun hst hop),
        fun hop => next_done_congr (h.edge_of_op rfl hst hop),
        fun hop hrun => next_done_congr (h.edge_of_op hrun hst hop),
        fun hop hrun => next_done_congr (h.edge_of_op hrun hst hop)⟩⟩
  case debounce => exact next_done_congr (State.debounce_of_up hup)
  case sample =>
    have hsample := State.debouncePin_of_new_level hmode hdeb hnew
    refine ⟨fun hlast => hsample.trans (if_pos hlast), fun hmore => ?_⟩
    rw [hsample, if_neg (Nat.not_le.2 hmore), State.setClu_clu_self]
    exact ⟨tget_tset_self _ _ _ _, rfl⟩
  case event =>
    subst hv hf
    exact next_done_congr (State.cosEvent_of_mask hup hmask hdest hu.symm)
  case plain =>
    have hguard : ¬ (v.cluUp k && v.get F.PIN_CFG_MODE k p == 1 && v.get F.PIN_CFG_DEB_US k p == 0 &&
        (v.clu k).acc.getLsbD p != b) = true := by simp [hmode]
    exact does_of_eq rfl ((State.pinChange_of_new_level hv hdrives hnew).trans (if_neg hguard))
      ⟨State.outside_net p.isLt, State.outside_acc⟩
  case accepted =>
    have hguard : (v.cluUp k && v.get F.PIN_CFG_MODE k p == 1 && v.get F.PIN_CFG_DEB_US k p == 0 &&
        (v.clu k).acc.getLsbD p != b) = true := by
      rw [hup, hmode, hdeb, bne_iff_ne.2 hacc]
      rfl
    refine does_of_eq rfl ((State.pinChange_of_new_level hv hdrives hnew).trans (if_pos hguard)) ⟨?_, ?_⟩
    · rw [(State.acceptLevel_levels _ _ _).2, State.outside_net p.isLt]
    · rw [State.acceptLevel_acc _ _ p.isLt, State.outside_acc]
      exact Bool.not_eq.2 hacc

end Sys2Proof.Machine
end

section
/-!
A command to a power channel and the faults of its tick (R316, R320).
-/
namespace Sys2Proof.Machine

/-! ### The condition of O53 on an ON command names the fault timer alone

A fault turn-off comes before every command of its power tick (R320), and a ramp timeout is such a fault as well as an expired fault
timer (`State.tickFault`, R316). -/

/-- A hub out of reset whose channel 0 ramps, with the ramp timeout due in the first power tick and the mark of an OFF of that
tick. -/
def rampTimedOut : State :=
  ((State.reset.setPst 0 pcRamp).arm (.ramp 0) 0).setPch 0 { offTick := some 0 }

theorem rampTimedOut_ramps : rampTimedOut.pst 0 = pcRamp := by decide +kernel

theorem rampTimedOut_fault_timer_idle :
    (rampTimedOut.deadline (.ft 0)).any (fun d => decide (d / 1000 ≤ rampTimedOut.now / 1000)) = false := by decide +kernel

theorem rampTimedOut_off_tick : (rampTimedOut.pch 0).offTick = some (rampTimedOut.now / 1000) := by decide +kernel

/-- No retry is configured, so the ramp timeout that the ON command takes first latches the channel. -/
theorem rampTimedOut_pchCmdOn_latches : (rampTimedOut.pchCmdOn 0).pst 0 = pcLatched := by decide +kernel

/-- Refutes O53: its last but one clause lets an ON command change nothing when an OFF of the tick wins and no fault timer is due, but
in `rampTimedOut` the ramp timeout of the same tick still turns the channel off and latches it. -/
theorem not_writeRowsOfThePorts : ¬ Obligations.WriteRowsOfThePorts := by
  intro h
  obtain ⟨-, -, -, -, -, -, -, -, -, -, -, -, -, -, -, hon, -⟩ := h rampTimedOut rampTimedOut
  obtain ⟨hstay, -⟩ := hon 0 rampTimedOut_fault_timer_idle
  have hsame : rampTimedOut.pchCmdOn 0 = rampTimedOut := hstay (.inr (.inr rampTimedOut_off_tick))
  have hcodes : pcLatched = pcRamp := by
    rw [← rampTimedOut_pchCmdOn_latches, hsame, rampTimedOut_ramps]
  exact absurd hcodes (by decide)

end Sys2Proof.Machine
end

section
/-!
The instructions of a facet engine that never stall: what a plain instruction does at its edge, and SHIFTIN, SHIFTOUT, CRC and MATCH
(R230, R234, R242, R243).
-/
namespace Sys2Proof.Machine

section
variable {s u t : State} {n k : Nat} {w : Word} {op : State → Nat → Word → State × Flow} {f : Flow}

/-- Only TAKE, GIVE, HOLD and STAMP can stall (R229). -/
theorem State.stalls_of_plain (htake : opOf w ≠ 2) (hgive : opOf w ≠ 3) (hhold : opOf w ≠ 4) (hstamp : opOf w ≠ 14) :
    u.stalls n w = false := by
  unfold State.stalls
  split
  next h => exact absurd h htake
  next h => exact absurd h hgive
  next h => exact absurd h hhold
  next h => exact absurd h hstamp
  next => rfl

/-- The edge of an instruction that cannot stall. -/
theorem AtEdge.engineEdge_of_plain (h : AtEdge s n k w u) (hk : k ≠ 2 ∧ k ≠ 3 ∧ k ≠ 4 ∧ k ≠ 14) (hop : op u n w = (t, f))
    (hf : f ≠ .poison) : s.engineEdge n (fun w => opOf w == k) op = u.retire n w t f := by
  obtain ⟨htake, hgive, hhold, hstamp⟩ := hk
  rw [← h.code] at htake hgive hhold hstamp
  exact h.engineEdge_eq_retire (State.stalls_of_plain htake hgive hhold hstamp) hop hf
end

/-! ### The bit count (R230, R231) -/

theorem bitCount_of_range {w : Word} {N : Nat} (hpos : 1 ≤ N) (hle : N ≤ 32) (hw : w.bits 5 0 = N) : bitCount w = some N := by
  unfold bitCount
  rw [hw]
  exact if_neg (by omega)

theorem bitCount_of_reserved {w : Word} (hw : w.bits 5 0 = 0 ∨ 33 ≤ w.bits 5 0) : bitCount w = none :=
  if_pos (hw.imp_right Nat.lt_of_succ_le)

/-- With a reserved count the four instructions act as NOP. -/
theorem State.op_of_reserved {u : State} {n : Nat} {w : Word} (hnone : bitCount w = none) :
    u.opShiftin n w = (u, .next) ∧ u.opShiftout n w = (u, .next) ∧ u.opCrc n w = (u, .next) ∧ u.opMatch n w = (u, .next) := by
  simp only [State.opShiftin, State.opShiftout, State.opCrc, State.opMatch, hnone, and_self]

/-! ### The low bits of a word -/

theorem lowBits_toNat (N : Nat) (w : Word) : (lowBits N w).toNat = w.toNat % 2 ^ N := by
  unfold lowBits
  rw [BitVec.toNat_ofNat, Nat.mod_eq_of_lt (Nat.lt_of_le_of_lt (Nat.mod_le _ _) w.isLt)]

theorem lowBits_all (w : Word) : lowBits 32 w = w :=
  BitVec.eq_of_toNat_eq ((lowBits_toNat 32 w).trans (Nat.mod_eq_of_lt w.isLt))

theorem lowBits_xor (N : Nat) (a b : Word) : lowBits N (a ^^^ b) = lowBits N a ^^^ lowBits N b := by
  refine BitVec.eq_of_toNat_eq ?_
  rw [BitVec.toNat_xor, lowBits_toNat, lowBits_toNat, lowBits_toNat, BitVec.toNat_xor, Nat.xor_mod_two_pow]

/-- Two words agree in their low bits when their difference has none there. -/
theorem lowBits_xor_eq_zero_iff (N : Nat) (a b : Word) :
    lowBits N (a ^^^ b) = 0 ↔ a.toNat % 2 ^ N = b.toNat % 2 ^ N := by
  rw [lowBits_xor, ← lowBits_toNat, ← lowBits_toNat, BitVec.toNat_inj]
  exact BitVec.xor_eq_zero_iff

/-! ### The four instructions with a count of `N` bits -/

section
variable {u : State} {n N : Nat} {w x : Word} (hN : bitCount w = some N)

/-- What a SHIFTIN reads. -/
def State.shiftSource (s : State) (n : Nat) (w : Word) : Word :=
  match w.bits 14 13 with
  | 0 => s.inputPins n
  | 1 => BitVec.ofNat 32 (s.xReg n)
  | 2 => BitVec.ofNat 32 (s.yReg n)
  | _ => if w.getLsbD 9 then 0xFFFFFFFF else 0

theorem State.shiftSource_of (hx : w.bits 14 13 = 0 ∧ x = u.inputPins n ∨ w.bits 14 13 = 1 ∧ x = BitVec.ofNat 32 (u.xReg n) ∨
    w.bits 14 13 = 2 ∧ x = BitVec.ofNat 32 (u.yReg n) ∨
    w.bits 14 13 = 3 ∧ x = if w.getLsbD 9 then 0xFFFFFFFF else 0) : u.shiftSource n w = x := by
  rcases hx with ⟨hsrc, rfl⟩ | ⟨hsrc, rfl⟩ | ⟨hsrc, rfl⟩ | ⟨hsrc, rfl⟩ <;> simp only [State.shiftSource, hsrc]

/-- Where a SHIFTOUT of `m` bits puts its value. -/
def State.shiftInto (s : State) (n dest m : Nat) (v : Word) : State :=
  match dest with
  | 0 => s.driveLatch n v
  | 1 => s.setX n (v.bits 15 0)
  | 2 => s.setY n (v.bits 15 0)
  | _ => s.setPattern n ((s.pattern n <<< m) ||| v)

theorem State.shiftInto_of {t b : State} {v : Word}
    (hb : w.bits 14 13 = 0 ∧ b = t.driveLatch n v ∨ w.bits 14 13 = 1 ∧ b = t.setX n (v.bits 15 0) ∨
      w.bits 14 13 = 2 ∧ b = t.setY n (v.bits 15 0) ∨
      w.bits 14 13 = 3 ∧ b = t.setPattern n ((t.pattern n <<< N) ||| v)) : t.shiftInto n (w.bits 14 13) N v = b := by
  rcases hb with ⟨hdest, rfl⟩ | ⟨hdest, rfl⟩ | ⟨hdest, rfl⟩ | ⟨hdest, rfl⟩ <;> rw [hdest] <;> rfl

/-- What a CRC instruction feeds (R242). -/
def State.crcSource (s : State) (n : Nat) (w : Word) : Word :=
  match w.bits 14 13 with
  | 0 => s.osr n
  | 1 => s.isr n
  | 2 => BitVec.ofNat 32 (s.xReg n)
  | _ => BitVec.ofNat 32 (s.yReg n)

theorem State.crcSource_of (hx : w.bits 14 13 = 0 ∧ x = u.osr n ∨ w.bits 14 13 = 1 ∧ x = u.isr n ∨
    w.bits 14 13 = 2 ∧ x = BitVec.ofNat 32 (u.xReg n) ∨ w.bits 14 13 = 3 ∧ x = BitVec.ofNat 32 (u.yReg n)) :
    u.crcSource n w = x := by
  rcases hx with ⟨hsrc, rfl⟩ | ⟨hsrc, rfl⟩ | ⟨hsrc, rfl⟩ | ⟨hsrc, rfl⟩ <;> simp only [State.crcSource, hsrc]

include hN

/-- SHIFTIN enters the low bits of its source, at the bottom under DIR and else at the top. -/
theorem State.opShiftin_eq {v r : Word} {t : State}
    (hv : v = lowBits N (if w.getLsbD 10 then ~~~(u.shiftSource n w) else u.shiftSource n w))
    (hr : r = if w.getLsbD 12 then (u.isr n <<< N) ||| v else (u.isr n >>> N) ||| (v <<< (32 - N)))
    (ht : t = u.setIsr n r (min 32 (u.eget F.ENG_STATUS_ISR_CNT n + N))) :
    u.opShiftin n w = (if w.getLsbD 11 then t.crcFeed n v N else t, .next) := by
  subst hv hr ht
  unfold State.opShiftin
  simp only [hN]
  rfl

/-- SHIFTOUT takes from the top of OSR under DIR and else from the bottom. -/
theorem State.opShiftout_eq {v : Word} {t : State}
    (hx : w.getLsbD 12 = false ∧ x = lowBits N (u.osr n) ∨ w.getLsbD 12 = true ∧ x = u.osr n >>> (32 - N))
    (hv : v = if w.getLsbD 10 then lowBits N (~~~x) else x)
    (ht : t = u.setOsr n (if w.getLsbD 12 then u.osr n <<< N else u.osr n >>> N)
      (min 32 (u.eget F.ENG_STATUS_OSR_CNT n + N))) :
    u.opShiftout n w = (if w.getLsbD 11 then (t.shiftInto n (w.bits 14 13) N v).crcFeed n v N
      else t.shiftInto n (w.bits 14 13) N v, .next) := by
  subst hv ht
  unfold State.opShiftout
  rcases hx with ⟨hdir, rfl⟩ | ⟨hdir, rfl⟩ <;> simp only [hN, hdir, Bool.false_eq_true, if_false, if_true] <;> rfl

/-- The value of a CRC is read before RESET takes ENG_CRC_INIT. -/
theorem State.opCrc_eq : u.opCrc n w =
    ((if w.getLsbD 12 then u.setCrc n (BitVec.ofNat 32 (u.crcInit n)) else u).crcFeed n (u.crcSource n w) N, .next) := by
  unfold State.opCrc
  simp only [hN]
  rfl

/-- MATCH leaves in M whether the low bits agree, under INVERT whether they differ (R243). -/
theorem State.opMatch_eq {b : Bool}
    (hb : b = true ↔ (u.srcReg n (w.bits 14 12)).toNat % 2 ^ N = (u.pattern n).toNat % 2 ^ N) :
    u.opMatch n w = (u.setEng n { u.eng n with m := xor b (w.getLsbD 11) }, .next) := by
  have heq : (lowBits N (u.srcReg n (w.bits 14 12) ^^^ u.pattern n) == 0) = b := by
    rw [Bool.eq_iff_iff, beq_iff_eq, hb, lowBits_xor_eq_zero_iff]
  unfold State.opMatch
  simp only [hN, heq]
end

/-- Settles O22, instruction by instruction. -/
theorem facetShifts : Obligations.FacetShifts := by
  intro s u e w x v N
  refine ⟨fun ⟨hpos, hle, hw⟩ => ?count, fun hw => ?reserved, ?whole⟩
  case count =>
    have hN : bitCount w = some N := bitCount_of_range hpos hle hw
    refine ⟨fun h hx hv r t hr ht => ?_, fun h hx hv t b ht hb => ?_, fun h hv => ?_, fun h b hb => ?_⟩
    · rw [← State.shiftSource_of hx] at hv
      exact next_done_congr (h.engineEdge_of_plain (by decide) (State.opShiftin_eq hN hv hr ht) (by decide))
    · have hop := State.opShiftout_eq hN hx hv ht
      rw [State.shiftInto_of hb] at hop
      exact next_done_congr (h.engineEdge_of_plain (by decide) hop (by decide))
    · have hop := State.opCrc_eq (u := u) (n := e) hN
      rw [State.crcSource_of hv] at hop
      exact next_done_congr (h.engineEdge_of_plain (by decide) hop (by decide))
    · exact next_done_congr (h.engineEdge_of_plain (by decide) (State.opMatch_eq hN hb) (by decide))
  case reserved =>
    obtain ⟨hin, hout, hcrc, hmatch⟩ := State.op_of_reserved (u := u) (n := e) (bitCount_of_reserved hw)
    exact ⟨fun h => next_done_congr (h.engineEdge_of_plain (by decide) hin (by decide)),
      fun h => next_done_congr (h.engineEdge_of_plain (by decide) hout (by decide)),
      fun h => next_done_congr (h.engineEdge_of_plain (by decide) hcrc (by decide)),
      fun h => next_done_congr (h.engineEdge_of_plain (by decide) hmatch (by decide))⟩
  case whole =>
    have hleft : u.isr e <<< 32 = 0 := BitVec.shiftLeft_eq_zero (Nat.le_refl 32)
    have hright : u.isr e >>> 32 = 0 := BitVec.ushiftRight_eq_zero (Nat.le_refl 32)
    rw [lowBits_all, hleft, hright, BitVec.shiftLeft_zero]
    exact ⟨BitVec.zero_or, BitVec.zero_or⟩

end Sys2Proof.Machine
end

section
/-!
BRANCH, LOOP, LOAD, MOVE, DRIVE and DIR of a facet engine (R239-R241, R244).
-/
namespace Sys2Proof.Machine

/-! ### Bytes in reverse order (R240) -/

theorem getLsbD_append_byte_high {m : Nat} (x : BitVec m) (d : Byte) (i : Nat) : (x ++ d).getLsbD (8 + i) = x.getLsbD i := by
  rw [BitVec.getLsbD_append, if_neg (by omega), Nat.add_sub_cancel_left]

theorem getLsbD_append_byte_low {m : Nat} (x : BitVec m) (d : Byte) {i : Nat} (hi : i < 8) :
    (x ++ d).getLsbD i = d.getLsbD i := by
  rw [BitVec.getLsbD_append, if_pos hi]

theorem word4_getLsbD (a b c d : Byte) {i : Nat} (hi : i < 8) :
    (word4 a b c d).getLsbD i = d.getLsbD i ∧ (word4 a b c d).getLsbD (8 + i) = c.getLsbD i ∧
    (word4 a b c d).getLsbD (16 + i) = b.getLsbD i ∧ (word4 a b c d).getLsbD (24 + i) = a.getLsbD i := by
  have h16 : 16 + i = 8 + (8 + i) := by omega
  have h24 : 24 + i = 8 + (8 + (8 + i)) := by omega
  unfold word4
  rw [h16, h24]
  simp only [getLsbD_append_byte_high, getLsbD_append_byte_low _ _ hi, and_self]

theorem swapBytes_getLsbD (w : Word) {i : Nat} (hi : i < 8) :
    (swapBytes w).getLsbD i = w.getLsbD (24 + i) ∧ (swapBytes w).getLsbD (8 + i) = w.getLsbD (16 + i) ∧
    (swapBytes w).getLsbD (16 + i) = w.getLsbD (8 + i) ∧ (swapBytes w).getLsbD (24 + i) = w.getLsbD i := by
  obtain ⟨h0, h1, h2, h3⟩ := word4_getLsbD (w.setWidth 8) ((w >>> 8).setWidth 8) ((w >>> 16).setWidth 8)
    ((w >>> 24).setWidth 8) hi
  unfold swapBytes
  rw [h0, h1, h2, h3]
  simp only [BitVec.getLsbD_setWidth, BitVec.getLsbD_ushiftRight, hi, decide_true, Bool.true_and, and_self]

/-- A word is settled by its four bytes. -/
theorem Word.eq_of_bytes {a b : Word} (h : ∀ i, i < 8 → a.getLsbD i = b.getLsbD i ∧ a.getLsbD (8 + i) = b.getLsbD (8 + i) ∧
    a.getLsbD (16 + i) = b.getLsbD (16 + i) ∧ a.getLsbD (24 + i) = b.getLsbD (24 + i)) : a = b := by
  refine BitVec.eq_of_getLsbD_eq fun i hi => ?_
  obtain ⟨h0, h1, h2, h3⟩ := h (i % 8) (Nat.mod_lt _ (by decide))
  have hbyte : i = i % 8 ∨ i = 8 + i % 8 ∨ i = 16 + i % 8 ∨ i = 24 + i % 8 := by omega
  rcases hbyte with hb | hb | hb | hb <;> rw [hb] <;> assumption

section
variable {u : State} {n : Nat} {w : Word}

/-! ### BRANCH, LOOP and LOAD (R239, R240) -/

/-- A BRANCH whose condition has the value `b`. -/
theorem State.opBranch_of {b : Bool}
    (hb : w.bits 14 12 = 0 ∧ b = true ∨ w.bits 14 12 = 1 ∧ b = u.pinIn (n / 8) (w.bits 11 7) ∨
      w.bits 14 12 = 2 ∧ b = !u.pinIn (n / 8) (w.bits 11 7) ∨ w.bits 14 12 = 3 ∧ b = (u.xReg n != 0) ∨
      w.bits 14 12 = 4 ∧ b = (u.yReg n != 0) ∨ w.bits 14 12 = 5 ∧ b = (u.eng n).m ∨
      w.bits 14 12 = 6 ∧ b = (u.eng n).l ∨ w.bits 14 12 = 7 ∧ b = (u.eng n).e) :
    u.opBranch n w = (u, if b then .jump (w.bits 6 0) else .next) := by
  rcases hb with ⟨hc, rfl⟩ | ⟨hc, rfl⟩ | ⟨hc, rfl⟩ | ⟨hc, rfl⟩ | ⟨hc, rfl⟩ | ⟨hc, rfl⟩ | ⟨hc, rfl⟩ | ⟨hc, rfl⟩ <;>
    simp only [State.opBranch, hc]

theorem State.opLoop_x_zero (hy : w.getLsbD 14 = false) (hz : u.xReg n = 0) : u.opLoop n w = (u, .next) := by
  simp only [State.opLoop, hy, hz, Bool.false_eq_true, if_false, if_true]

theorem State.opLoop_x (hy : w.getLsbD 14 = false) (hz : u.xReg n ≠ 0) :
    u.opLoop n w = (u.setX n (u.xReg n - 1), .jump (w.bits 6 0)) := by
  simp only [State.opLoop, hy, hz, Bool.false_eq_true, if_false]

theorem State.opLoop_y_zero (hy : w.getLsbD 14 = true) (hz : u.yReg n = 0) : u.opLoop n w = (u, .next) := by
  simp only [State.opLoop, hy, hz, if_true]

theorem State.opLoop_y (hy : w.getLsbD 14 = true) (hz : u.yReg n ≠ 0) :
    u.opLoop n w = (u.setY n (u.yReg n - 1), .jump (w.bits 6 0)) := by
  simp only [State.opLoop, hy, hz, if_true, if_false]

/-- Where a LOAD puts VALUE. -/
def State.loadInto (s : State) (n dest v : Nat) : State :=
  match dest with
  | 0 => s.setX n v
  | 1 => s.setY n v
  | 2 => s.setOsr n (BitVec.ofNat 32 v) 0
  | _ => s.setCrc n (BitVec.ofNat 32 (s.crcInit n))

theorem State.opLoad_eq : u.opLoad n w = (u.loadInto n (w.bits 14 13) (w.bits 12 0), .next) := rfl

/-! ### MOVE (R240, R244) -/

/-- What a MOVE makes of its source. -/
def moved (w v : Word) : Word :=
  match w.bits 8 7 with
  | 0 => v
  | 1 => ~~~v
  | 2 => swapBytes v
  | _ => v + 1

theorem moved_of {x v : Word} (h : w.bits 8 7 = 0 ∧ v = x ∨ w.bits 8 7 = 1 ∧ v = ~~~x ∨
    w.bits 8 7 = 2 ∧ (∀ i, i < 8 → v.getLsbD i = x.getLsbD (24 + i) ∧ v.getLsbD (8 + i) = x.getLsbD (16 + i) ∧
      v.getLsbD (16 + i) = x.getLsbD (8 + i) ∧ v.getLsbD (24 + i) = x.getLsbD i) ∨
    w.bits 8 7 = 3 ∧ v.toNat = (x.toNat + 1) % 2 ^ 32) : moved w x = v := by
  rcases h with ⟨hop, rfl⟩ | ⟨hop, rfl⟩ | ⟨hop, hv⟩ | ⟨hop, hv⟩ <;> simp only [moved, hop]
  · refine Word.eq_of_bytes fun i hi => ?_
    obtain ⟨h0, h1, h2, h3⟩ := hv i hi
    rw [h0, h1, h2, h3]
    exact swapBytes_getLsbD x hi
  · exact BitVec.eq_of_toNat_eq ((BitVec.toNat_add x 1).trans hv.symm)

theorem State.opMove_eq : u.opMove n w =
    (u.stampMoved n w (u.dstReg n (w.bits 11 9) (moved w (u.srcReg n (w.bits 14 12)))), .next) := rfl
end

/-- Settles O24, instruction by instruction. -/
theorem facetFlowAndData : Obligations.FacetFlowAndData := by
  intro s u e w
  refine ⟨fun h b hb => ?branch, fun h hy hz => ?xZero, fun h hy hz => ?x, fun h hy hz => ?yZero, fun h hy hz => ?y,
    fun h => ?load, fun h v hv => ?move, fun v => ⟨rfl, rfl, rfl, rfl, rfl, rfl, rfl, rfl⟩, fun h => ?drive, fun h => ?dir⟩
  case branch =>
    have hflow : (if b then Flow.jump (w.bits 6 0) else .next) ≠ .poison := by cases b <;> simp
    exact next_done_congr (h.engineEdge_of_plain (by decide) (State.opBranch_of hb) hflow)
  case xZero => exact next_done_congr (h.engineEdge_of_plain (by decide) (State.opLoop_x_zero hy hz) (by decide))
  case x => exact next_done_congr (h.engineEdge_of_plain (by decide) (State.opLoop_x hy hz) Flow.noConfusion)
  case yZero => exact next_done_congr (h.engineEdge_of_plain (by decide) (State.opLoop_y_zero hy hz) (by decide))
  case y => exact next_done_congr (h.engineEdge_of_plain (by decide) (State.opLoop_y hy hz) Flow.noConfusion)
  case load =>
    have hedge := h.engineEdge_of_plain (by decide) State.opLoad_eq (by decide)
    refine ⟨fun hdest => ?_, fun hdest => ?_, fun hdest => ?_, fun hdest => ?_⟩ <;>
      (rw [hdest] at hedge; exact next_done_congr hedge)
  case move =>
    have hop := State.opMove_eq (u := u) (n := e) (w := w)
    rw [moved_of hv] at hop
    exact next_done_congr (h.engineEdge_of_plain (by decide) hop (by decide))
  case drive => exact next_done_congr (h.engineEdge_of_plain (op := State.opDrive) (by decide) rfl (by decide))
  case dir => exact next_done_congr (h.engineEdge_of_plain (op := State.opDir) (by decide) rfl (by decide))

end Sys2Proof.Machine
end

section
/-!
The CAN controllers: reception, attempts, bus errors and error states, recovery, OPMODE and packing (R248-R250, R256-R262).
-/
namespace Sys2Proof.Machine

/-! ### What a raise leaves alone -/

section
variable (s : State) {n : Nat}

@[simp] theorem State.wr_can (r : Reg) (i j : Nat) (w : Word) : (s.wr r i j w).can n = s.can n := rfl
@[simp] theorem State.put_can (f : Fld) (v i j : Nat) : (s.put f v i j).can n = s.can n := rfl
@[simp] theorem State.bump_can (r : Reg) (i j k : Nat) : (s.bump r i j k).can n = s.can n := rfl
@[simp] theorem State.arm_can (t : Timer) (d : Nat) : (s.arm t d).can n = s.can n := rfl
theorem State.setFlt_can (x : FltS) : ({ s with flt := x } : State).can n = s.can n := rfl

@[simp] theorem State.sat_can (f : Fld) (i j : Nat) : (s.sat f i j).can n = s.can n := by
  unfold State.sat
  dsimp only
  split <;> rfl

@[simp] theorem State.updateAlive_can : s.updateAlive.can n = s.can n := by
  unfold State.updateAlive
  split
  · split <;> rfl
  · rfl

theorem State.faultPulse_can : s.faultPulse.can n = s.can n := by
  unfold State.faultPulse
  split
  · rfl
  split
  · rfl
  split <;> rfl

theorem State.faultEvent_can (kind src reaction : Nat) : (s.faultEvent kind src reaction).can n = s.can n := by
  unfold State.faultEvent
  split <;> rfl

theorem State.raiseEvent_can (src : Nat) : (s.raiseEvent src).can n = s.can n := by
  unfold State.raiseEvent
  split
  · rfl
  dsimp only
  split
  · rfl
  split
  · rfl
  · exact State.faultEvent_can _ _ _ _

theorem State.mirrorOne_can : s.mirrorOne.can n = s.can n := by
  unfold State.mirrorOne
  split
  · rfl
  dsimp only
  split <;> rfl

theorem State.log_can (audit : Bool) (cls origin source code : Nat) (who : Who) (data : List Word) :
    (s.log audit cls origin source code who data).can n = s.can n := by
  unfold State.log
  split
  · rfl
  dsimp only
  refine (State.wr_can _ _ _ _ _).trans ?_
  split
  · exact s.mirrorOne_can
  · rfl

theorem State.faultRecord_can (src : Nat) (raised : Bool) : (s.faultRecord src raised).can n = s.can n := by
  unfold State.faultRecord
  split
  · rfl
  dsimp only
  split
  · rfl
  · exact s.log_can _ _ _ _ _ _ _

theorem State.raiseCore_can (src inst : Nat) : (s.raiseCore src inst).can n = s.can n := by
  unfold State.raiseCore
  extract_lets reg instanced flags raised counted c pulsed flags' graced
  have hcounted : counted.can n = s.can n := by
    unfold counted
    refine (State.bump_can _ _ _ _ _).trans ((State.sat_can _ _ _ _).trans ?_)
    exact (State.put_can _ _ _ _ _).trans (State.put_can _ _ _ _ _)
  have hpulsed : pulsed.can n = s.can n := by
    unfold pulsed
    split
    · exact counted.faultPulse_can.trans hcounted
    · exact hcounted
  have hgraced : graced.can n = s.can n := by
    unfold graced
    split
    · exact (State.setFlt_can pulsed _).trans hpulsed
    split
    · split
      · exact hpulsed
      split
      · exact (State.setFlt_can pulsed _).trans hpulsed
      · rw [State.arm_can, State.put_can]
        exact hpulsed
    · exact hpulsed
  exact (State.updateAlive_can _).trans ((State.faultRecord_can _ _ _).trans ((State.raiseEvent_can _ _).trans hgraced))

theorem State.raise_can (src inst : Nat) : (s.raise src inst).can n = s.can n := by
  unfold State.raise
  split
  · exact s.raiseCore_can src inst
  · rfl

theorem State.raise_get_of_lt {f : Fld} {i j : Nat} (src inst : Nat) (h : f.reg.addr i j < 0xA00000) :
    (s.raise src inst).get f i j = s.get f i j := by
  unfold State.get
  rw [State.raise_rd_of_lt s h]
end

/-! ### What the counters of a controller leave alone -/

/-- Is the register CAN_STAT or a CAN_CNT, told by its place in the page of its controller? -/
abbrev Reg.CanCounts (r : Reg) (n j : Nat) : Prop := r.addr n j % 0x1000 = 0x20 ∨ 0x100 ≤ r.addr n j % 0x1000

theorem canStat_counts (n : Nat) : Reg.canStat.CanCounts n 0 := by
  show (0x500020 + n * 0x1000) % 0x1000 = 0x20 ∨ _
  omega

theorem canCnt_counts (n : Nat) {j : Nat} (hj : j < 16) : Reg.canCnt.CanCounts n j := by
  show _ ∨ 0x100 ≤ (0x500100 + n * 0x1000 + j * 4) % 0x1000
  omega

theorem canErrIx_lt (k : CanErr) : canErrIx k < 16 := by cases k <;> decide

section
variable (s : State) {r : Reg} {n j : Nat} (w : Word) (hr : r.CanCounts n j)
include hr

theorem State.wr_rd_of_counts {r' : Reg} {i' j' : Nat} (h : r'.addr i' j' % 0x1000 ≠ 0x20) (h' : r'.addr i' j' % 0x1000 < 0x100) :
    (s.wr r n j w).rd r' i' j' = s.rd r' i' j' := by
  refine s.wr_rd_of_ne w fun heq => ?_
  rw [heq] at h h'
  exact hr.elim h (Nat.not_le.2 h')

theorem State.wr_canCfg_of_counts (m : Nat) : (s.wr r n j w).rd .canCfg m = s.rd .canCfg m := by
  have haddr : Reg.canCfg.addr m 0 % 0x1000 = 4 := by
    show (0x500004 + m * 0x1000) % 0x1000 = 4
    omega
  exact s.wr_rd_of_counts w hr (by rw [haddr]; decide) (by rw [haddr]; decide)

/-- Counts do not change whether a controller sends flags (R248). -/
theorem State.wr_canFlags (m : Nat) : (s.wr r n j w).canFlags m = s.canFlags m := by
  have hdrives : (s.wr r n j w).canDrives m = s.canDrives m := by
    unfold State.canDrives State.islandUp State.ilkOk State.paired State.is State.get
    rw [s.wr_canCfg_of_counts w hr, s.wr_rd_of_counts w hr (r' := .islPwrStat) (by decide) (by decide),
      s.wr_rd_of_counts w hr (r' := .ctlPairaddr) (by decide) (by decide),
      s.wr_rd_of_counts w hr (r' := .parStat) (by decide) (by decide)]
    rfl
  unfold State.canFlags State.canTx State.canActs State.is State.get
  rw [hdrives, s.wr_canCfg_of_counts w hr]
  rfl

/-- Counts do not change the ring time with which an island stamps. -/
theorem State.wr_stampNs (i : Nat) : (s.wr r n j w).stampNs i = s.stampNs i := by
  unfold State.stampNs State.ringCopy State.ring64 State.get
  rw [s.wr_rd_of_counts w hr (r' := .timEpoch) (by decide) (by decide)]
  rfl
end

/-- Whether a controller acknowledged or sent a flag last does not change whether it sends flags. -/
theorem State.setFlagged_canFlags (s : State) (n : Nat) (b : Bool) :
    (s.setCan n { s.can n with flagged := b }).canFlags n = s.canFlags n := by
  have hcan : (s.setCan n { s.can n with flagged := b }).can n = { s.can n with flagged := b } := s.setCan_can_self _ _
  unfold State.canFlags State.canTx State.canDrives State.canActs
  rw [hcan]
  rfl

/-! ### Reception (R257) -/

/-- Is the frame not received: an error, a wrong CRC, a format that is not enabled? -/
def State.canRejects (v : State) (n : Nat) (f : CanFrame) : Bool :=
  !f.good || !f.crcOk || f.fmt == 3 || (f.fmt == 1 && !v.is F.CAN_CFG_FD_EN n) || (f.fmt == 2 && !v.is F.CAN_CFG_XL_EN n)

theorem State.canRejects_of_good {v : State} {n : Nat} {f : CanFrame} (hgood : f.good = true) (hcrc : f.crcOk = true)
    (hfmt : f.fmt = 0 ∨ f.fmt = 1 ∧ v.is F.CAN_CFG_FD_EN n = true ∨ f.fmt = 2 ∧ v.is F.CAN_CFG_XL_EN n = true) :
    v.canRejects n f = false := by
  unfold State.canRejects
  rcases hfmt with hf | ⟨hf, hen⟩ | ⟨hf, hen⟩
  · simp [hgood, hcrc, hf]
  · simp [hgood, hcrc, hf, hen]
  · simp [hgood, hcrc, hf, hen]

theorem State.canRejects_of_bad {v : State} {n : Nat} {f : CanFrame} (hbad : f.good = false ∨ f.crcOk = false ∨ f.fmt = 3 ∨
    f.fmt = 1 ∧ v.is F.CAN_CFG_FD_EN n = false ∨ f.fmt = 2 ∧ v.is F.CAN_CFG_XL_EN n = false) : v.canRejects n f = true := by
  unfold State.canRejects
  rcases hbad with h | h | h | ⟨hf, hen⟩ | ⟨hf, hen⟩
  · simp [h]
  · simp [h]
  · simp [h]
  · simp [hf, hen]
  · simp [hf, hen]

/-- A frame on the bus of a controller that runs no rate detection. -/
theorem State.canReceive_of_no_detection {s u v : State} {n : Nat} {f : CanFrame} (hbus : s.canOnBus n = true)
    (hv : v = s.setCan n { s.can n with acked := f.crcOk && s.canAcks n }) (hrd : (s.can n).rd.stage = 0)
    (hu : u = ((v.bump .canCnt n 0).canRecGood n).canState n 0) : s.canReceive n f =
      if v.canRejects n f then v else u.canDeliver n (canHeader f (BitVec.ofNat 32 (u.ringAgo 17 f.sof))) f.bytes := by
  have hdetect : (v.can n).rd.stage = 0 := by rw [hv, State.setCan_can_self]; exact hrd
  unfold State.canReceive
  simp only [hbus, ← hv, hdetect, hu, Bool.not_true, Bool.false_eq_true, if_false, bne_self_eq_false]
  rfl

/-! ### Attempts (R258-R262) -/

/-- What the end of an attempt of the frame `t` leaves before the slot is filled again. -/
def State.attempted (w : State) (n : Nat) (t : CanTx) (a : CanAttempt) : CanOutcome → State
  | .sent => w.canSent n t a.sof
  | .arbLost => if (w.can n).flush then (w.bump .canCnt n 3).canGone n t (BitVec.ofNat 32 (w.ringAgo 17 a.sof)) else w.bump .canCnt n 3
  | .error e => w.canFailed n t e (BitVec.ofNat 32 (w.ringAgo 17 a.sof))

theorem State.attempted_of_staying {w : State} {n : Nat} {t : CanTx} {a : CanAttempt} (h : (w.can n).flush = false) :
    w.attempted n t a .arbLost = w.bump .canCnt n 3 := if_neg (by rw [h]; decide)

theorem State.attempted_of_flushed {w : State} {n : Nat} {t : CanTx} {a : CanAttempt} (h : (w.can n).flush = true) :
    w.attempted n t a .arbLost = (w.bump .canCnt n 3).canGone n t (BitVec.ofNat 32 (w.ringAgo 17 a.sof)) := if_pos h

/-- An attempt is of the frame that has the slot at its start-of-frame bit. -/
theorem State.canAttempt_of_slot {s v w x : State} {n : Nat} {a : CanAttempt} {t : CanTx} {r : CanOutcome} (hmode : s.mode ≠ .sleep)
    (htx : s.canTransmits n = true) (hv : s.canBegin n a.sof = v) (hslot : (v.can n).slot = some t) (hw : v.canLoop n t a = w)
    (hres : w.canResult n t a = r) (hx : w.attempted n t a r = x) : s.canAttempt n a = x.canFill n := by
  subst hres hx
  unfold State.canAttempt
  simp only [if_neg hmode, htx, hv, hslot, hw, Bool.not_true, Bool.false_eq_true, if_false]
  cases w.canResult n t a <;> rfl

/-! ### Bus errors (R261) -/

/-- A protocol exception is met with PEX_EN alone. -/
theorem State.canErr_met {s : State} {n : Nat} {e : CanError} (hbus : s.canOnBus n = true)
    (hkind : e.kind ≠ .exception ∨ s.is F.CAN_CFG_PEX_EN n = true) :
    (!s.canOnBus n || (e.kind == .exception && !s.is F.CAN_CFG_PEX_EN n)) = false := by
  rcases hkind with h | h <;> simp [hbus, h]

theorem canErrQuiet_eq (k : CanErr) : canErrQuiet k = (k == .overload || k == .exception) := by cases k <;> rfl

section
variable {s u v w : State} {n : Nat} {e : CanError} (hbus : s.canOnBus n = true)
  (hkind : e.kind ≠ .exception ∨ s.is F.CAN_CFG_PEX_EN n = true)
  (hu : u = (s.setCan n { s.can n with flagged := s.canFlags n && e.kind != .exception }).bump .canCnt n (canErrIx e.kind))
include hbus hkind hu

/-- Rate detection leaves the error counters unchanged (R263). -/
theorem State.canBusErr_of_detecting (hrd : (u.can n).rd.stage ≠ 0) : s.canBusErr n e = u := by
  have hmet := State.canErr_met hbus hkind
  unfold State.canBusErr
  simp only [hmet, ← hu, if_pos hrd, Bool.false_eq_true, if_false]

/-- An error is counted and added to REC, and its dominant bits to the counter of the controller's part. -/
theorem State.canBusErr_of_counting (hrd : (u.can n).rd.stage = 0)
    (hv : v = u.put F.CAN_STAT_REC (min (u.get F.CAN_STAT_REC n +
      (if e.exempt || e.kind == .overload || e.kind == .exception then 0 else 1) + (if e.own then 0 else 8 * e.extra8)) 255) n)
    (hw : w = if e.own && s.canFlags n then v.put F.CAN_STAT_TEC (min (v.get F.CAN_STAT_TEC n + 8 * e.extra8) 256) n else v) :
    s.canBusErr n e = w.canState n (s.stampNs 17) := by
  have hmet := State.canErr_met hbus hkind
  have hquiet : (e.exempt || e.kind == .overload || e.kind == .exception) = (e.exempt || canErrQuiet e.kind) := by
    rw [canErrQuiet_eq, Bool.or_assoc]
  have hflags : v.canFlags n = s.canFlags n := by
    rw [hv, hu]
    exact (State.wr_canFlags _ _ (canStat_counts n) n).trans
      ((State.wr_canFlags _ _ (canCnt_counts n (canErrIx_lt _)) n).trans (s.setFlagged_canFlags n _))
  have hstampV : v.stampNs 17 = s.stampNs 17 := by
    rw [hv, hu]
    exact (State.wr_stampNs _ _ (canStat_counts n) 17).trans (State.wr_stampNs _ _ (canCnt_counts n (canErrIx_lt _)) 17)
  have hstamp : w.stampNs 17 = s.stampNs 17 := by
    rw [hw]
    split
    · exact (State.wr_stampNs _ _ (canStat_counts n) 17).trans hstampV
    · exact hstampV
  rw [hquiet] at hv
  rw [← hstamp]
  rw [← hflags] at hw
  have hnot : ¬ (u.can n).rd.stage ≠ 0 := fun hne => hne hrd
  unfold State.canBusErr
  simp only [hmet, ← hu, if_neg hnot, ← hv, ← hw, Bool.false_eq_true, if_false]
end

/-! ### Error states (R261) -/

section
variable {s : State} {n : Nat} (time : Word) (hst : s.get F.CAN_STAT_STATE n < 2)
include hst

theorem State.canState_of_bus_off (hslot : (s.can n).slot = none) (htec : 256 ≤ s.get F.CAN_STAT_TEC n) : s.canState n time =
    ((s.put F.CAN_STAT_STATE (if s.is F.CAN_CFG_AUTO_RECOVER n then 3 else 2) n).bump .canCnt n 11).raise 0x71 n := by
  have hslot' (x : Nat) : ((((s.put F.CAN_STAT_STATE x n).bump .canCnt n 11).raise 0x71 n).can n).slot = none := by
    rw [State.raise_can]
    exact hslot
  unfold State.canState
  simp only [ge_iff_le, Nat.not_le.2 hst, htec, hslot', if_false, if_true]

theorem State.canState_of_passive (htec : s.get F.CAN_STAT_TEC n < 256)
    (hpassive : 128 ≤ s.get F.CAN_STAT_TEC n ∨ 128 ≤ s.get F.CAN_STAT_REC n) :
    s.canState n time = if s.get F.CAN_STAT_STATE n = 0 then (s.put F.CAN_STAT_STATE 1 n).raise 0x70 n else s := by
  unfold State.canState
  simp only [ge_iff_le, Nat.not_le.2 hst, Nat.not_le.2 htec, hpassive, if_false, if_true]

theorem State.canState_of_active (htec : s.get F.CAN_STAT_TEC n < 128) (hrec : s.get F.CAN_STAT_REC n < 128) :
    s.canState n time = s.put F.CAN_STAT_STATE 0 n := by
  have hoff : ¬ 256 ≤ s.get F.CAN_STAT_TEC n := by omega
  have hactive : ¬ (128 ≤ s.get F.CAN_STAT_TEC n ∨ 128 ≤ s.get F.CAN_STAT_REC n) := by omega
  unfold State.canState
  simp only [ge_iff_le, Nat.not_le.2 hst, hoff, hactive, if_false]
end

theorem State.put_canState_get (s : State) {v : Nat} (n : Nat) (hv : v < 4) :
    (s.put F.CAN_STAT_STATE v n).get F.CAN_STAT_STATE n = v :=
  (s.put_get_self _ _ _ _ (by decide) (by decide)).trans (Nat.mod_eq_of_lt hv)

theorem canStat_addr_lt (n : Fin 32) : Reg.canStat.addr n 0 < 0xA00000 := by
  show 0x500020 + n.val * 0x1000 < 0xA00000
  omega

theorem State.canCnt_bump_get_canStat (s : State) (n j : Nat) {f : Fld} (hf : f.reg = .canStat) :
    (s.bump .canCnt n j).get f n = s.get f n := by
  refine s.wr_get_of_ne _ ?_
  rw [hf]
  show 0x500020 + n * 0x1000 ≠ 0x500100 + n * 0x1000 + j * 4
  omega

/-- The state that the error counters give (R261). -/
theorem State.canState_get {s : State} {n : Fin 32} {time : Word} (hst : s.get F.CAN_STAT_STATE n < 2)
    (hslot : (s.can n).slot = none) :
    (256 ≤ s.get F.CAN_STAT_TEC n →
      (s.canState n time).get F.CAN_STAT_STATE n = if s.is F.CAN_CFG_AUTO_RECOVER n then 3 else 2) ∧
    (s.get F.CAN_STAT_TEC n < 256 → 128 ≤ s.get F.CAN_STAT_TEC n ∨ 128 ≤ s.get F.CAN_STAT_REC n →
      (s.canState n time).get F.CAN_STAT_STATE n = 1) ∧
    (s.get F.CAN_STAT_TEC n < 128 → s.get F.CAN_STAT_REC n < 128 → (s.canState n time).get F.CAN_STAT_STATE n = 0) := by
  refine ⟨fun htec => ?busOff, fun htec hpassive => ?passive, fun htec hrec => ?active⟩
  case busOff =>
    rw [State.canState_of_bus_off time hst hslot htec]
    refine (State.raise_get_of_lt _ _ _ (canStat_addr_lt n)).trans ?_
    exact (State.canCnt_bump_get_canStat _ _ _ rfl).trans (State.put_canState_get _ _ (by split <;> decide))
  case passive =>
    rw [State.canState_of_passive time hst htec hpassive]
    split
    next => exact (State.raise_get_of_lt _ _ _ (canStat_addr_lt n)).trans (State.put_canState_get _ _ (by decide))
    next hne => omega
  case active => rw [State.canState_of_active time hst htec hrec, State.put_canState_get _ _ (by decide)]

/-! ### Recovery, OPMODE and the pack timer (R248, R257, R261) -/

theorem State.canRecovered_of_recovering {s : State} {n : Nat} (hup : s.canUp = true) (hst : s.get F.CAN_STAT_STATE n = 3) :
    s.canRecovered n = (((s.put F.CAN_STAT_STATE 0 n).put F.CAN_STAT_TEC 0 n).put F.CAN_STAT_REC 0 n).canFill n := by
  simp [State.canRecovered, hup, hst]

theorem State.canOpmode_of_new {s : State} {n : Nat} (hup : s.canUp = true) (hnew : (s.can n).opmode ≠ s.get F.CAN_CTL_OPMODE n) :
    s.canOpmode n = (s.setCan n { s.can n with opmode := s.get F.CAN_CTL_OPMODE n }).canFill n := by
  simp [State.canOpmode, hup, hnew]

theorem State.canPackEnd_of_expired {s u : State} {n : Nat} (h : s.expire (.canPack n) = some u) : s.canPackEnd n = u.canClose n := by
  simp only [State.canPackEnd, h]

/-- A closed port loses the records that were packed. -/
theorem State.canClose_of_closed {s : State} {n : Nat} (hpack : (s.can n).pack ≠ []) (hport : s.portOpen (26 + n) = false) :
    s.canClose n = ((s.disarm (.canPack n)).bump .canCnt n 2 (s.can n).packN).setCan n
      { s.can n with pack := [], packN := 0, gap := true, packLost := false } := by
  have hempty : (s.can n).pack.isEmpty = false := by simpa using hpack
  have hport' : (s.disarm (.canPack n)).portOpen (26 + n) = false := hport
  simp only [State.canClose, hempty, hport', Bool.false_eq_true, if_false]

/-- Settles O27, row by row. -/
theorem canTraffic : Obligations.CanTraffic := by
  intro s u n
  refine ⟨fun f v hbus hv hrd => ⟨fun hgood hcrc hfmt hu => ?good, fun hbad => ?bad⟩,
    fun a t v w hmode htx hv hslot hw => ?attempt, fun e hbus hkind hu => ⟨fun hrd => ?detecting, fun hrd v w hv hw => ?counting⟩,
    fun time hst hslot => State.canState_get hst hslot, fun hup hst => ?recovered, fun hup hnew => ?opmode,
    fun hexp => ⟨?pack, fun hpack hport => ?lost⟩⟩
  case good =>
    have hreceived : ¬ v.canRejects n f = true := by rw [State.canRejects_of_good hgood hcrc hfmt]; decide
    exact next_done_congr ((State.canReceive_of_no_detection hbus hv hrd hu).trans (if_neg hreceived))
  case bad =>
    exact next_done_congr ((State.canReceive_of_no_detection hbus hv hrd rfl).trans (if_pos (State.canRejects_of_bad hbad)))
  case attempt =>
    have hend {r : CanOutcome} {x : State} (hres : w.canResult n t a = r) (hx : w.attempted n t a r = x) :
        s.canAttempt n a = x.canFill n := State.canAttempt_of_slot hmode htx hv hslot hw hres hx
    exact ⟨fun hres => next_done_congr (hend hres rfl), fun hres hstay => next_done_congr (hend hres (State.attempted_of_staying hstay)),
      fun hres hflush => next_done_congr (hend hres (State.attempted_of_flushed hflush)),
      fun e hres => next_done_congr (hend hres rfl)⟩
  case detecting => exact next_done_congr (State.canBusErr_of_detecting hbus hkind hu hrd)
  case counting => exact next_done_congr (State.canBusErr_of_counting hbus hkind hu hrd hv hw)
  case recovered => exact next_done_congr (State.canRecovered_of_recovering hup hst)
  case opmode => exact next_done_congr (State.canOpmode_of_new hup hnew)
  case pack => exact next_done_congr (State.canPackEnd_of_expired hexp)
  case lost =>
    refine does_of_eq rfl ((State.canPackEnd_of_expired hexp).trans (State.canClose_of_closed hpack hport)) ?_
    rw [State.setCan_can_self]
    exact ⟨rfl, rfl⟩

end Sys2Proof.Machine
end

section
/-!
The CAN controllers: rate detection, reference messages and wake (R263-R266).
-/
namespace Sys2Proof.Machine

/-! ### Rate detection (R263) -/

/-- What holding candidates leaves: the stage, the candidates, the dwell on the first; other timers go on. -/
theorem State.canHold_shows (s : State) (n stage : Nat) (cands : List Nat) :
    ((s.canHold n stage cands).can n).rd.stage = stage ∧ ((s.canHold n stage cands).can n).rd.cands = cands ∧
    (s.canHold n stage cands).deadline (.dwell n) = some (s.now + 1000000 * s.get F.CAN_RD_CTL_DWELL_MS n) ∧
    ∀ t, t ≠ .dwell n → (s.canHold n stage cands).deadline t = s.deadline t := by
  have hcan : (s.canHold n stage cands).can n = { s.can n with rd := { stage := stage, cands := cands } } := s.setCan_can_self _ _
  rw [hcan]
  exact ⟨rfl, rfl, State.arm_deadline_self _ _ _, fun t ht => State.arm_deadline_of_ne _ _ ht⟩

theorem State.canSurveyEnd_of_full {s : State} {n : Nat} {pulses : List Nat} (hst : (s.can n).rd.stage = 1)
    (hfull : 64 ≤ pulses.length) : s.canSurveyEnd n pulses = (s.disarm (.survey n)).canHold n 2 (canOrder (pulses.take 64)) := by
  have hnot : ¬ (s.can n).rd.stage ≠ 1 := fun hne => hne hst
  simp only [State.canSurveyEnd, if_neg hnot, ge_iff_le, hfull, if_true]

theorem State.canSurveyEnd_of_expired {s u : State} {n : Nat} {pulses : List Nat} (hst : (s.can n).rd.stage = 1)
    (hfew : pulses.length < 64) (h : s.expire (.survey n) = some u) :
    s.canSurveyEnd n pulses = (u.disarm (.survey n)).canHold n 2 (canOrder pulses) := by
  have hnot : ¬ (s.can n).rd.stage ≠ 1 := fun hne => hne hst
  have htake : pulses.take 64 = pulses := List.take_of_length_le (by omega)
  simp only [State.canSurveyEnd, if_neg hnot, ge_iff_le, if_neg (Nat.not_le.2 hfew), h, htake]

theorem State.canDwellEnd_of_expired {s u : State} {n c : Nat} {cs : List Nat} (h : s.expire (.dwell n) = some u)
    (hcands : (u.can n).rd.cands = c :: cs) : s.canDwellEnd n = u.canHold n (u.can n).rd.stage (cs ++ [c]) := by
  simp only [State.canDwellEnd, h, hcands]

theorem State.canRdTimeout_of_expired {s u : State} {n : Nat} (h : s.expire (.rdTimeout n) = some u) :
    s.canRdTimeout n = (u.put F.CAN_RD_STAT_FAILED 1 n).canRdEnd n := by
  simp only [State.canRdTimeout, h]

/-- A controller whose OPMODE is not NORMAL does not act in NORMAL. -/
theorem State.canActs_ne_normal {s : State} {n : Nat} (hop : (s.can n).opmode ≠ 1) : s.canActs n ≠ 1 := by
  unfold State.canActs
  dsimp only
  split
  · decide
  split
  · decide
  split
  next h => exact absurd h.1 hop
  next => exact hop

/-- One that does not act in NORMAL takes no frame into its slot. -/
theorem State.canFill_of_not_normal {s : State} {n : Nat} (h : s.canActs n ≠ 1) : s.canFill n = s := by
  have hsends : s.canSends n = false := by
    unfold State.canSends
    rw [beq_false_of_ne h, Bool.and_false, Bool.false_and]
  unfold State.canFill State.canFillAt
  simp only [hsends, Bool.not_false, Bool.true_or, if_true]

/-- The end of a detection outside NORMAL (R263). -/
theorem State.canRdEnd_of_not_normal {s : State} {n : Nat} (hop : (s.can n).opmode ≠ 1) : s.canRdEnd n =
    ((((s.put F.CAN_RD_STAT_BUSY 0 n).setCan n { s.can n with rd := {} }).disarm (.survey n)).disarm (.dwell n)).disarm
      (.rdTimeout n) := by
  refine State.canFill_of_not_normal (State.canActs_ne_normal ?_)
  show (((s.put F.CAN_RD_STAT_BUSY 0 n).setCan n { s.can n with rd := {} }).can n).opmode ≠ 1
  rw [State.setCan_can_self]
  exact hop

/-- What the end of a detection outside NORMAL shows: detection and its timers have ended. -/
theorem State.canRdEnd_shows {s : State} {n : Nat} (hop : (s.can n).opmode ≠ 1) :
    (s.canRdEnd n).get F.CAN_RD_STAT_FAILED n = s.get F.CAN_RD_STAT_FAILED n ∧ (s.canRdEnd n).get F.CAN_RD_STAT_BUSY n = 0 ∧
    ((s.canRdEnd n).can n).rd = {} ∧ (s.canRdEnd n).deadline (.survey n) = none ∧ (s.canRdEnd n).deadline (.dwell n) = none ∧
    (s.canRdEnd n).deadline (.rdTimeout n) = none := by
  rw [State.canRdEnd_of_not_normal hop]
  refine ⟨?failed, ?busy, ?rd, ?survey, ?dwell, State.disarm_deadline_self _ _⟩
  case failed => exact State.put_get_of_apart s _ (by decide)
  case busy => exact s.put_get_self F.CAN_RD_STAT_BUSY 0 n 0 (by decide) (by decide)
  case rd =>
    show (((s.put F.CAN_RD_STAT_BUSY 0 n).setCan n { s.can n with rd := {} }).can n).rd = {}
    rw [State.setCan_can_self]
  case survey =>
    rw [State.disarm_deadline_of_ne _ (by simp), State.disarm_deadline_of_ne _ (by simp), State.disarm_deadline_self]
  case dwell => rw [State.disarm_deadline_of_ne _ (by simp), State.disarm_deadline_self]

/-! ### The order of the candidates (R263) -/

theorem insertCand_perm (ns i : Nat) (l : List Nat) : (insertCand ns i l).Perm (i :: l) := by
  induction l with
  | nil => exact List.Perm.refl _
  | cons j js ih =>
    unfold insertCand
    split
    · exact List.Perm.refl _
    · exact (ih.cons j).trans (List.Perm.swap i j js)

/-- Candidates from the nearest outwards. -/
abbrev CandsOrdered (ns : Nat) (l : List Nat) : Prop := l.Pairwise (fun i j => canDistance ns i ≤ canDistance ns j)

theorem insertCand_ordered {ns : Nat} (i : Nat) {l : List Nat} (h : CandsOrdered ns l) : CandsOrdered ns (insertCand ns i l) := by
  induction l with
  | nil => exact List.pairwise_singleton _ _
  | cons j js ih =>
    obtain ⟨hj, hjs⟩ := List.pairwise_cons.1 h
    unfold insertCand
    split
    next hlt =>
      refine List.pairwise_cons.2 ⟨fun k hk => ?_, h⟩
      rcases List.mem_cons.1 hk with rfl | hk
      · exact Nat.le_of_lt hlt
      · exact Nat.le_trans (Nat.le_of_lt hlt) (hj k hk)
    next hge =>
      refine List.pairwise_cons.2 ⟨fun k hk => ?_, ih hjs⟩
      rcases List.mem_cons.1 ((insertCand_perm ns i js).mem_iff.1 hk) with rfl | hk
      · exact Nat.not_lt.1 hge
      · exact hj k hk

theorem foldl_insertCand_perm (ns : Nat) (l acc : List Nat) :
    (l.foldl (fun l i => insertCand ns i l) acc).Perm (l ++ acc) := by
  induction l generalizing acc with
  | nil => exact List.Perm.refl _
  | cons i l ih => exact (ih _).trans (((insertCand_perm ns i acc).append_left l).trans List.perm_middle)

theorem foldl_insertCand_ordered {ns : Nat} (l : List Nat) {acc : List Nat} (h : CandsOrdered ns acc) :
    CandsOrdered ns (l.foldl (fun l i => insertCand ns i l) acc) := by
  induction l generalizing acc with
  | nil => exact h
  | cons i l ih => exact ih (insertCand_ordered i h)

/-- All candidates, from the one nearest to the shortest pulse outwards. -/
theorem canOrder_sorts (p : Nat) (ps : List Nat) :
    (canOrder (p :: ps)).Perm (List.range 10) ∧ CandsOrdered (ps.foldl min p) (canOrder (p :: ps)) := by
  have hperm := foldl_insertCand_perm (ps.foldl min p) (List.range 10) []
  rw [List.append_nil] at hperm
  exact ⟨hperm, foldl_insertCand_ordered _ List.Pairwise.nil⟩

/-! ### Reference messages (R265) -/

section
variable {s u : State} {n p : Nat} (hen : s.is F.CAN_REF_CFG_ENABLE n = true) (hup : s.canUp = true) (hacts : s.canActs n = 1)
  (hp : p = 1000 * s.get F.CAN_REF_CFG_PERIOD_US n) (hne : p ≠ 0) (hu : u = s.advanceRing ((s.ring64 / p + 1) * p))
include hen hup hacts hp hne hu

/-- A reference that meets a pending one is skipped and counted. -/
theorem State.canReference_of_pending (hpend : (u.can n).ref.isSome = true ∨ (u.can n).slot.any (fun t => t.ref != 0) = true) :
    s.canReference n = u.sat F.CAN_REF_STAT_SKIP_CNT n := by
  have hskip : ((u.can n).ref.isSome || (u.can n).slot.any (fun t => t.ref != 0)) = true := Bool.or_eq_true_iff.2 hpend
  unfold State.canReference
  simp only [hen, hup, hacts, ← hp, hne, ← hu, hskip, Bool.not_true, bne_self_eq_false, Bool.or_false, Bool.false_eq_true, if_false,
    if_true]

/-- One that meets none is released with the next sequence count. -/
theorem State.canReference_of_free {sc : Nat} {v : State} (href : (u.can n).ref = none)
    (hslot : (u.can n).slot.any (fun t => t.ref != 0) = false) (hsc : sc = (u.get F.CAN_REF_STAT_SC n + 1) % 256)
    (hv : v = u.put F.CAN_REF_STAT_SC sc n) : s.canReference n = (v.setCan n { u.can n with
      ref := some { hdr := [((0 : Word).setBits 27 27 (bit ((v.rd .canRefId n).getLsbD 31))).setBits 11 0 1,
        v.rd .canRefId n &&& 0x1FFFFFFF, 0, 0, 0], data := [BitVec.ofNat 32 (2 ^ 24 * sc)], ref := 1, due := u.now } }).canFill n := by
  have hnow : v.now = u.now := by rw [hv]; rfl
  have hfree : ((u.can n).ref.isSome || (u.can n).slot.any (fun t => t.ref != 0)) = false := by rw [href, hslot]; rfl
  unfold State.canReference
  simp only [hen, hup, hacts, ← hp, hne, ← hu, hfree, ← hsc, ← hv, hnow, Bool.not_true, bne_self_eq_false, Bool.or_false,
    Bool.false_eq_true, if_false]
end

/-! ### Wake (R266) -/

@[simp] theorem State.canWoke_mode (s : State) (n : Nat) (f : Option CanFrame) : (s.canWoke n f).mode = s.mode := rfl

theorem State.wakeUp_mode (s : State) : s.wakeUp.mode = .boot := rfl

theorem State.canWoke_stat_level (s : State) (n : Nat) : (s.canWoke n none).rd .canWakeStat n = 0xA0000000 :=
  (s.wr_rd_self _ _ _ _).trans (by decide)

/-- CAN_WAKE_STAT after a wake frame holds its identifier. -/
theorem State.canWoke_stat_frame (s : State) (n : Nat) (f : CanFrame) :
    (s.canWoke n (some f)).rd .canWakeStat n = 0xC0000000 ||| BitVec.setWidth 32 f.id := by
  refine (s.wr_rd_self _ _ _ _).trans (BitVec.eq_of_getLsbD_eq fun b hb => ?_)
  have hmode : ((0 : Word).setBits 31 31 1).setBits 30 29 2 = 0xC0000000 := by decide
  have hlow : ∀ i, i < 29 → (0xC0000000 : Word).getLsbD i = false := by decide
  rw [hmode, Word.getLsbD_setBits _ _ _ (by decide) (by decide), BitVec.getLsbD_or, BitVec.getLsbD_setWidth]
  simp only [hb, decide_true, Bool.true_and, Nat.zero_le, true_and, Nat.sub_zero]
  split
  next h => rw [hlow b (Nat.lt_succ_of_le h), Bool.false_or, BitVec.testBit_toNat]
  next h => rw [BitVec.getLsbD_of_ge f.id b (by omega), Bool.or_false]

theorem State.canWakeUp_of_hit {s : State} {n : Nat} {f : Option CanFrame} (h : s.canWakeHit n f = true) :
    s.canWakeUp n f = s.wakeUp.canWoke n f := if_pos h

/-- Settles O28, row by row. -/
theorem canDetectionAndReferences : Obligations.CanDetectionAndReferences := by
  intro s u n
  refine ⟨fun pulses hst hfull => ?full, fun pulses hst hfew hexp => ?fifty, ⟨rfl, fun p ps => canOrder_sorts p ps⟩,
    fun c cs hexp hcands => ?dwell, fun hexp => ?timeout, fun hexp hop => ?ended,
    fun p hen hup hacts hp hne hu => ⟨fun hpend => ?skipped, fun sc v href hslot hsc hv => ?released⟩,
    fun hmode hwake => ?level, fun f hmode hwake hhit => ?frame⟩
  case full =>
    refine does_of_eq rfl (State.canSurveyEnd_of_full hst hfull) ?_
    obtain ⟨hstage, hcands, hdwell, hothers⟩ := (s.disarm (.survey n)).canHold_shows n 2 (canOrder (pulses.take 64))
    exact ⟨hstage, hcands, (hothers _ (by simp)).trans (State.disarm_deadline_self _ _), hdwell⟩
  case fifty =>
    refine does_of_eq rfl (State.canSurveyEnd_of_expired hst hfew hexp) ?_
    obtain ⟨hstage, hcands, hdwell, -⟩ := (u.disarm (.survey n)).canHold_shows n 2 (canOrder pulses)
    exact ⟨hstage, hcands, hdwell⟩
  case dwell =>
    refine does_of_eq rfl (State.canDwellEnd_of_expired hexp hcands) ?_
    obtain ⟨hstage, hheld, hdwell, -⟩ := u.canHold_shows n (u.can n).rd.stage (cs ++ [c])
    exact ⟨hheld, hstage, hdwell⟩
  case timeout => exact next_done_congr (State.canRdTimeout_of_expired hexp)
  case ended =>
    refine does_of_eq rfl (State.canRdTimeout_of_expired hexp) ?_
    have hput : ((u.put F.CAN_RD_STAT_FAILED 1 n).can n).opmode ≠ 1 := by rwa [State.put_can]
    obtain ⟨hfailed, hrest⟩ := State.canRdEnd_shows hput
    exact ⟨hfailed.trans (u.put_get_self F.CAN_RD_STAT_FAILED 1 n 0 (by decide) (by decide)), hrest⟩
  case skipped => exact next_done_congr (State.canReference_of_pending hen hup hacts hp hne hu hpend)
  case released => exact next_done_congr (State.canReference_of_free hen hup hacts hp hne hu href hslot hsc hv)
  case level =>
    have hhit : s.canWakeHit n none = true := by simp [State.canWakeHit, hmode, hwake]
    exact does_of_eq rfl (State.canWakeUp_of_hit hhit) ⟨(State.canWoke_mode _ _ _).trans s.wakeUp_mode, State.canWoke_stat_level _ n⟩
  case frame =>
    have hwoken : s.canWakeHit n (some f) = true := by simp [State.canWakeHit, hmode, hwake, hhit]
    exact does_of_eq rfl (State.canWakeUp_of_hit hwoken)
      ⟨(State.canWoke_mode _ _ _).trans s.wakeUp_mode, State.canWoke_stat_frame _ n f⟩

end Sys2Proof.Machine
end

section
/-!
The Ethernet MACs: deference, collisions, back-off and the end of a frame (R278-R281).
-/
namespace Sys2Proof.Machine

/-! ### What time, counters and timers leave of a MAC -/

section
variable (s : State) {m : Nat}

@[simp] theorem State.advance_mac (n : Nat) : (s.advance n).mac m = s.mac m := by
  unfold State.mac
  rw [State.advance_macs]

/-- A counter half full sends an EVENT, which is no frame of the MAC (R286). -/
@[simp] theorem State.macCount_mac (i k n : Nat) : (s.macCount i k n).mac m = s.mac m := by
  unfold State.macCount
  dsimp only
  split
  · rfl
  · split <;> rfl
end

/-- The attempt of the frame in the slot begins, and is told of from then on. -/
theorem State.macStart_mac_self (s : State) (m at_ : Nat) : (s.macStart m at_).mac m = { s.mac m with
    phase := 1, tried := true, start := at_, sfd := (s.advance (at_ - s.now + 64 * s.macBit m)).ringCopy 18 } :=
  s.setMac_mac_self _ _

/-! ### Deference (R278) -/

theorem State.macDefer_of_deferring {s u : State} {m : Nat} {t : MacTx} {carrier : Bool} (hslot : (s.mac m).slot = some t)
    (hphase : (s.mac m).phase = 0) (hhalf : s.macFull m = false) (hruns : s.macRuns m = true)
    (hu : u = if carrier = true ∧ (s.mac m).tried = false then s.macCount m 4 else s) :
    s.macDefer m carrier = u.macStart m (max u.now ((s.mac m).lastEnd + 96 * u.macBit m)) := by
  have hmay : ((s.mac m).slot.isNone || (s.mac m).phase != 0 || s.macFull m || !s.macRuns m) = false := by
    simp [hslot, hphase, hhalf, hruns]
  have hwaited : (carrier && !(s.mac m).tried) = true ↔ carrier = true ∧ (s.mac m).tried = false := by simp
  unfold State.macDefer
  simp only [hmay, hwaited, ← hu, Bool.false_eq_true, if_false]

/-! ### Collisions and back-off (R278, R281) -/

/-- MAC `m` goes into back-off after collision number `c`: for the jam and a drawn number of slot times. -/
def State.macBeginBackoff (s : State) (m c bt : Nat) : State :=
  let (r, s) := s.freeIn 0 (2 ^ min c 10 - 1)
  (s.setMac m { s.mac m with phase := 2 }).arm (.backoff m) (32 * bt + 512 * r * bt)

theorem State.macBeginBackoff_mac_self (s : State) (m c bt : Nat) : (s.macBeginBackoff m c bt).mac m = { s.mac m with phase := 2 } :=
  (s.freeIn 0 (2 ^ min c 10 - 1)).2.setMac_mac_self _ _

/-- The number of slot times is below 2^min(c, 10). -/
theorem State.macBeginBackoff_deadline (s : State) (m c bt : Nat) : ∃ r, r < 2 ^ min c 10 ∧
    (s.macBeginBackoff m c bt).deadline (.backoff m) = some (s.now + (32 * bt + 512 * r * bt)) := by
  refine ⟨(s.freeIn 0 (2 ^ min c 10 - 1)).1, ?_, State.arm_deadline_self _ _ _⟩
  have hpos : 0 < 2 ^ min c 10 := Nat.two_pow_pos _
  have hdrawn := Nat.mod_lt (Config.freeNat s.freeIx) hpos
  simpa only [State.freeIn, Nat.sub_zero, Nat.zero_add, Nat.sub_add_cancel hpos] using hdrawn

/-- A collision ends the attempt that runs: the frame to be flushed, the late one and the one of the 16th attempt leave the slot. -/
theorem State.macCollision_of_attempt {s a u : State} {m bits : Nat} {t : MacTx} (hslot : (s.mac m).slot = some t)
    (hphase : (s.mac m).phase = 1) (hhalf : s.macFull m = false) (hruns : s.macRuns m = true)
    (ha : a = (s.advance ((s.mac m).start - s.now)).macCount m 10)
    (hu : u = a.setMac m { a.mac m with cols := (s.mac m).cols + 1, lastEnd := a.now + 32 * a.macBit m }) :
    s.macCollision m bits =
      if (s.mac m).flush then (u.macCount m 9).macLeave m t 2
      else if bits > 512 then (u.macCount m 7).macLeave m t 3
      else if (s.mac m).cols + 1 ≥ 16 then (u.macCount m 8).macLeave m t 1
      else u.macBeginBackoff m ((s.mac m).cols + 1) (a.macBit m) := by
  have hattempt : ¬ ((s.mac m).phase ≠ 1 ∨ s.macFull m = true) := by simp [hphase, hhalf]
  unfold State.macCollision
  simp only [hslot, if_neg hattempt, hruns, ← ha, ← hu, Bool.not_true, Bool.false_eq_true, if_false]
  rfl

theorem State.macBackoff_of_expired {s u : State} {m : Nat} (hexp : s.expire (.backoff m) = some u) (hphase : (u.mac m).phase = 2) :
    s.macBackoff m = u.setMac m { u.mac m with phase := 0 } := by
  simp only [State.macBackoff, hexp, hphase, if_true]

/-! ### The end of a frame (R279-R281) -/

/-- The last bit of a unicast frame that met no collision. -/
theorem State.macTxEnd_of_sent {s u v : State} {m : Nat} {t : MacTx} (hslot : (s.mac m).slot = some t)
    (hphase : (s.mac m).phase = 1) (hruns : s.macRuns m = true) (hcols : (s.mac m).cols = 0)
    (hmcast : isMcastAddr (t.onWire.take 6) = false) (hbcast : isBcastAddr (t.onWire.take 6) = false)
    (hu : u = s.advance ((s.mac m).start + (8 + t.onWire.length) * 8 * s.macBit m - s.now))
    (hv : v = { u.setMac m { s.mac m with lastEnd := u.now } with wire := u.wire ++ [(macPort m, t.onWire)] }) :
    s.macTxEnd m = (((v.macCount m 0).macCount m 1 t.onWire.length).macStamp m t).macLeave m t 0 := by
  have hattempt : ¬ (s.mac m).phase ≠ 1 := not_not_intro hphase
  have hmac : u.mac m = s.mac m := by rw [hu, State.advance_mac]
  unfold State.macTxEnd
  simp only [hv, hslot, if_neg hattempt, hruns, hcols, hmcast, hbcast, ← hu, hmac, Nat.zero_ne_one, ge_iff_le, Nat.reduceLeDiff,
    Bool.not_true, Bool.false_eq_true, if_false]

/-- A frame that is to be flushed, or whose first attempt has begun, keeps the slot. -/
theorem State.macYield_of_holding {s : State} {m : Nat} {t : MacTx} (hslot : (s.mac m).slot = some t)
    (hholds : (s.mac m).flush = true ∨ (s.mac m).waits s.now = false) : s.macYield m = s := by
  have hstays : (s.mac m).flush = true ∨ (!(s.mac m).waits s.now) = true := by simpa using hholds
  unfold State.macYield
  simp only [hslot, if_pos hstays]

/-- An attempt that may no longer run is cut: its frame stays in the slot, or leaves as flushed. -/
theorem State.macTxEnd_of_cut {s : State} {m : Nat} {t : MacTx} (hslot : (s.mac m).slot = some t)
    (hphase : (s.mac m).phase = 1) (hcut : s.macRuns m = false)
    (hholds : (s.mac m).flush = true ∨ (s.mac m).waits s.now = false) :
    s.macTxEnd m = if (s.mac m).flush then (s.macCount m 9).macLeave m t 2
      else s.setMac m { s.mac m with phase := 0, lastEnd := s.now } := by
  have hattempt : ¬ (s.mac m).phase ≠ 1 := not_not_intro hphase
  have hyield := State.macYield_of_holding hslot hholds
  unfold State.macTxEnd State.macGate
  simp only [hyield, hslot, if_neg hattempt, if_pos hphase, hcut, Bool.not_false, Bool.false_eq_true, if_false, if_true]

/-- Settles O30, row by row. -/
theorem macTransmission : Obligations.MacTransmission := by
  intro s u m
  refine ⟨fun t carrier hslot hphase hhalf hruns hu => ?deferred, fun at_ => ?started,
    fun t bits hslot hphase hhalf hruns a ha hu => ?collision,
    fun hexp hphase => ?expired, fun t hslot hphase hruns hcols hmcast hbcast hu v hv => ?sent,
    fun t hslot hphase hcut => ⟨fun hkept hheld => ?cut, fun hflush => ?cutFlushed⟩⟩
  case deferred => exact next_done_congr (State.macDefer_of_deferring hslot hphase hhalf hruns hu)
  case started =>
    rw [State.macStart_mac_self]
    exact ⟨rfl, rfl, rfl⟩
  case collision =>
    have hend := State.macCollision_of_attempt (bits := bits) hslot hphase hhalf hruns ha hu
    refine ⟨fun hflush => ?flushed, fun hkept hlate => ?late, fun hearly hkept hlast => ?abandoned,
      fun hearly hkept hmore => ?backsOff⟩
    case flushed => exact next_done_congr (hend.trans (if_pos hflush))
    case late =>
      refine next_done_congr (hend.trans ?_)
      rw [hkept, if_neg Bool.false_ne_true, if_pos hlate]
    case abandoned =>
      refine next_done_congr (hend.trans ?_)
      rw [hkept, if_neg Bool.false_ne_true, if_neg (Nat.not_lt.2 hearly), if_pos (Nat.succ_le_succ hlast)]
    case backsOff =>
      rw [hkept, if_neg Bool.false_ne_true, if_neg (Nat.not_lt.2 hearly), if_neg (Nat.not_le.2 (Nat.succ_lt_succ hmore))] at hend
      have hmac : u.mac m = { s.mac m with cols := (s.mac m).cols + 1, lastEnd := a.now + 32 * a.macBit m } := by
        rw [hu, State.setMac_mac_self, ha, State.macCount_mac, State.advance_mac]
      have hnow : u.now = a.now := by rw [hu, State.setMac_now]
      refine does_of_eq rfl hend ?_
      rw [State.macBeginBackoff_mac_self, hmac, ← hnow]
      exact ⟨rfl, rfl, hslot, u.macBeginBackoff_deadline m _ _⟩
  case expired =>
    refine does_of_eq rfl (State.macBackoff_of_expired hexp hphase) ?_
    rw [State.setMac_mac_self]
    exact ⟨rfl, rfl, rfl⟩
  case sent => exact next_done_congr (State.macTxEnd_of_sent hslot hphase hruns hcols hmcast hbcast hu hv)
  case cut =>
    refine next_done_congr ((State.macTxEnd_of_cut hslot hphase hcut (.inr hheld)).trans ?_)
    rw [hkept, if_neg Bool.false_ne_true]
  case cutFlushed =>
    exact next_done_congr ((State.macTxEnd_of_cut hslot hphase hcut (.inl hflush)).trans (if_pos hflush))

end Sys2Proof.Machine
end

section
/-!
What every step keeps: it takes the command at the front of the queue and touches the queue in no other way, no command of the table
stops but a scrub beyond the vat, and fuses are only ever blown (R448, R449, R457).
-/
namespace Sys2Proof.Machine

/-! ### The queue and the answer -/

/-- Settles O1: the step matches the front of the queue. -/
theorem stepRunsTheFrontCommand : Obligations.StepRunsTheFrontCommand := fun _ _ _ => rfl

/-- Settles O4: the scrubber's guard is the only arm of the dispatcher that is not `next` outright. -/
theorem everyCommandAnswers : Obligations.EveryCommandAnswers := by
  intro c s hscrub
  cases c with
  | scrubWord w found => exact ⟨_, (exec_scrubWord w found s).trans (if_pos (hscrub w found rfl))⟩
  | _ => exact ⟨_, rfl⟩

/-- When the command goes on, the queue of the next state is that of `s`. -/
def AnswersQueueOf (s : State) (o : Host.Outcome State Fault Refusal) : Prop := ∀ t, o = .next t → t.pending = s.pending

/-- The end of a step leaves the queue alone, so the effect of the command decides. -/
theorem answersQueueOf_done {s u : State} (hu : u.pending = s.pending) : AnswersQueueOf s (.next u.done) := by
  rintro _ ⟨⟩
  rw [State.done_pending, hu]

theorem answersQueueOf_collectorDone {s u : State} (hu : u.pending = s.pending) :
    AnswersQueueOf s (.next u.collectorDone) := by
  rintro _ ⟨⟩
  rw [State.collectorDone_pending, hu]

/-- No command touches the queue: its effect is one operation of the hub, and none of those does. -/
theorem exec_answersQueue (c : Instr) (s : State) : AnswersQueueOf s (exec c s) := by
  cases c with
  | scrubWord w found =>
    rw [exec_scrubWord]
    split
    · exact answersQueueOf_done (State.scrub_pending s w found)
    · rintro _ ⟨⟩
  | sourceRaise src inst edge => exact answersQueueOf_collectorDone (State.sourceRaise_pending s _ _ _)
  | graceExpire src => exact answersQueueOf_collectorDone (State.graceExpire_pending s _)
  | shiftin | shiftout | take | give | hold | branch | loop | load | move | drive | dir | signal | crc | matchInstr | stamp
  | halt | nop =>
    exact answersQueueOf_done (State.engineEdge_pending s _ _ _ (by simp))
  | _ => exact answersQueueOf_done (by simp)

/-- Settles O6: an idle step is a clock, any other runs the front command on the rest of the queue. -/
theorem queueFirstInFirstOut : Obligations.QueueFirstInFirstOut := by
  intro s t hstep
  unfold step at hstep
  split at hstep
  next hidle =>
    cases hstep
    rw [State.advance_pending, hidle, List.tail_nil]
  next c rest hfront =>
    have hrest : t.pending = rest := exec_answersQueue c { s with pending := rest } t hstep
    rw [hrest, hfront, List.tail_cons]

/-! ### The fuses -/

theorem FuseLe.refl (x : Tab (List Word) × List Nat × Nat) : FuseLe x x := ⟨rfl, rfl, Nat.le_refl _⟩

/-- When the command goes on, owners and revocations are those of `s`, and the rollback counter has not fallen. -/
def AnswersFusesOf (s : State) (o : Host.Outcome State Fault Refusal) : Prop := ∀ t, o = .next t → FuseLe s.sec.fuse t.sec.fuse

/-- The end of a step may count an update as confirmed and burns nothing else, so the effect of the command decides. -/
theorem answersFusesOf_done {s u : State} (hu : FuseLe s.sec.fuse u.sec.fuse) : AnswersFusesOf s (.next u.done) := by
  rintro _ ⟨⟩
  exact State.done_fle u hu

/-- An effect that leaves the fuses alone. -/
theorem answersFusesOf_of_same {s u : State} (hu : u.sec.fuse = s.sec.fuse) : AnswersFusesOf s (.next u.done) :=
  answersFusesOf_done (hu ▸ FuseLe.refl _)

theorem answersFusesOf_collectorDone {s u : State} (hu : u.sec.fuse = s.sec.fuse) : AnswersFusesOf s (.next u.collectorDone) := by
  rintro _ ⟨⟩
  exact State.collectorDone_fle u (hu ▸ FuseLe.refl _)

/-- The end of an OTP operation alone burns a slot or revokes it. A host's command, an order of the twin, core B's request and the end
of a boot step may raise the rollback counter; the other commands leave the fuses alone. -/
theorem exec_answersFuses {c : Instr} (s : State) (hc : ∀ ok, c ≠ .otpOperationDone ok) : AnswersFusesOf s (exec c s) := by
  have hsame : FuseLe s.sec.fuse s.sec.fuse := FuseLe.refl _
  cases c with
  | otpOperationDone ok => exact absurd rfl (hc ok)
  | scrubWord w found =>
    rw [exec_scrubWord]
    split
    · exact answersFusesOf_of_same (State.scrub_fuse s w found)
    · rintro _ ⟨⟩
  | sourceRaise src inst edge => exact answersFusesOf_collectorDone (State.sourceRaise_fuse s _ _ _)
  | graceExpire src => exact answersFusesOf_collectorDone (State.graceExpire_fuse s _)
  | order on f good => exact answersFusesOf_done (State.orderIn_fle s on f good hsame)
  | llRequest f => exact answersFusesOf_done (State.llRequest_fle s f hsame)
  | bootStepDone r => exact answersFusesOf_done (State.bootStepDone_fle s r hsame)
  | shiftin | shiftout | take | give | hold | branch | loop | load | move | drive | dir | signal | crc | matchInstr | stamp
  | halt | nop =>
    exact answersFusesOf_of_same (State.engineEdge_fuse s _ _ _ (by simp))
  | read | write | writePosted | readModifyWrite | readBlock | writeBlock | portSend | portConfig | portFlush | applyAt | sampleAt
  | snapshotAt | sessionOpen | sessionClose | profileSelect | profileStore | selftestReq | healthGet | faultAck | safeEnter
  | safeLeave | updateBegin | updateBlock | updateVerify | updateActivate | updateConfirm | updateRelay | updateAbort | timeStep
  | timeRate | stepRearm | tableFence | pairHandover | pairStatus | logRead | echo | resetChip =>
    exact answersFusesOf_done (State.serve_fle s _ _ _ hsame)
  | _ => exact answersFusesOf_of_same (by simp)

/-- What `FusesAreOnlyBlown` says of the security states before and after a step. -/
def OnlyBlown (x y : SecS) : Prop :=
  (∀ k, (tfind x.owner k).isSome = true → (tfind y.owner k).isSome = true) ∧
  (∀ k, (∀ hash, x.otp ≠ some (k, false, hash)) → (tfind x.owner k).isSome = true → tfind y.owner k = tfind x.owner k) ∧
  (∀ k, k ∈ x.revoked → k ∈ y.revoked) ∧ x.count ≤ y.count

theorem FuseLe.onlyBlown {x y : SecS} (h : FuseLe x.fuse y.fuse) : OnlyBlown x y := by
  obtain ⟨howner, hrevoked, hcount⟩ := h
  have howner : y.owner = x.owner := howner
  have hrevoked : y.revoked = x.revoked := hrevoked
  refine ⟨fun k hk => ?_, fun k _ _ => ?_, fun k hk => ?_, hcount⟩
  · rwa [howner]
  · rw [howner]
  · rwa [hrevoked]

/-- The end of a burn writes the slot that was being burnt; a revocation that is read back is added to the others; else the fuses stay
(R448, R449). -/
theorem State.otpDone_fuse (s : State) (ok : Bool) : (s.otpDone ok).sec.fuse = s.sec.fuse ∨
    ∃ k hash, s.sec.otp = some (k, false, hash) ∧
        (s.otpDone ok).sec.fuse = (tset s.sec.owner k hash, s.sec.revoked, s.sec.count) ∨
      s.sec.otp = some (k, true, hash) ∧ (s.otpDone ok).sec.fuse = (s.sec.owner, s.sec.revoked ++ [k], s.sec.count) := by
  unfold State.otpDone
  split
  next => exact .inl rfl
  next k revoke hash hotp =>
    cases revoke with
    | false => exact .inr ⟨k, hash, .inl ⟨hotp, rfl⟩⟩
    | true =>
      cases ok with
      | false => exact .inl rfl
      | true =>
        refine .inr ⟨k, hash, .inr ⟨hotp, ?_⟩⟩
        exact foldl_fuse _ (fun s (x : Session) => s.closeSession_fuse x.num 1) _ _

theorem State.otpDone_onlyBlown (s : State) (ok : Bool) : OnlyBlown s.sec (s.otpDone ok).sec := by
  rcases s.otpDone_fuse ok with hsame | ⟨k, hash, ⟨hotp, hfuse⟩ | ⟨hotp, hfuse⟩⟩
  · exact FuseLe.onlyBlown (hsame ▸ FuseLe.refl _)
  · have howner : (s.otpDone ok).sec.owner = tset s.sec.owner k hash := congrArg Prod.fst hfuse
    have hrest : ((s.otpDone ok).sec.revoked, (s.otpDone ok).sec.count) = (s.sec.revoked, s.sec.count) := congrArg Prod.snd hfuse
    obtain ⟨hrevoked, hcount⟩ := Prod.mk.inj hrest
    refine ⟨fun j hj => ?_, fun j hother _ => ?_, fun j hj => hrevoked ▸ hj, hcount.ge⟩
    · rw [howner]
      rcases eq_or_ne j k with rfl | hne
      · rw [tfind_tset_self, Option.isSome_some]
      · rwa [tfind_tset_of_ne _ _ hne]
    · have hne : j ≠ k := fun h => hother hash (h ▸ hotp)
      rw [howner, tfind_tset_of_ne _ _ hne]
  · have howner : (s.otpDone ok).sec.owner = s.sec.owner := congrArg Prod.fst hfuse
    have hrest : ((s.otpDone ok).sec.revoked, (s.otpDone ok).sec.count) = (s.sec.revoked ++ [k], s.sec.count) :=
      congrArg Prod.snd hfuse
    obtain ⟨hrevoked, hcount⟩ := Prod.mk.inj hrest
    refine ⟨fun j hj => ?_, fun j _ _ => ?_, fun j hj => ?_, hcount.ge⟩
    · rwa [howner]
    · rw [howner]
    · rw [hrevoked]
      exact List.mem_append_left _ hj

/-- What only the rollback counter moved after stays as it was. -/
theorem OnlyBlown.trans_fuseLe {x y z : SecS} (h : OnlyBlown x y) (hle : FuseLe y.fuse z.fuse) : OnlyBlown x z := by
  obtain ⟨hburnt, hhash, hrevoked, hcount⟩ := h
  obtain ⟨howner, hrev, hcnt⟩ := hle
  have howner : z.owner = y.owner := howner
  have hrev : z.revoked = y.revoked := hrev
  exact ⟨fun k hk => howner ▸ hburnt k hk, fun k hk hs => howner ▸ hhash k hk hs, fun k hk => hrev ▸ hrevoked k hk,
    Nat.le_trans hcount hcnt⟩

/-- The end of an OTP operation by its cases, every other command by the order on the fuses. -/
theorem exec_onlyBlown {c : Instr} {s t : State} (hexec : exec c s = .next t) : OnlyBlown s.sec t.sec := by
  by_cases hc : ∀ ok, c ≠ .otpOperationDone ok
  · exact (exec_answersFuses s hc t hexec).onlyBlown
  · push Not at hc
    obtain ⟨ok, rfl⟩ := hc
    cases hexec
    exact (s.otpDone_onlyBlown ok).trans_fuseLe (State.done_fle _ (FuseLe.refl _))

/-- Settles O9: an idle step is a clock, and no command un-burns a fuse. -/
theorem fusesAreOnlyBlown : Obligations.FusesAreOnlyBlown := by
  intro s t hstep
  suffices h : OnlyBlown s.sec t.sec from h
  unfold step at hstep
  split at hstep
  next =>
    cases hstep
    exact FuseLe.onlyBlown (s.advance_fuse 2 ▸ FuseLe.refl _)
  next c rest _ => exact exec_onlyBlown (s := { s with pending := rest }) hstep

end Sys2Proof.Machine
end

section
/-!
The windows of the host bridge: write and read TLPs, BAR0 and BAR4 (R292, R293, R295-R297, R300).
-/
namespace Sys2Proof.Machine

/-! ### Write TLPs (R295) -/

/-- The command of a write of `ws` that window `winOf off` forms as `op`, next in arrival order after `o`. -/
def State.writeCmd (s : State) (off o : Nat) (op : BitVec 8) (ws : List Word) : HbrCmd :=
  { frame := s.winFrame off op ws, win := winOf off, off := off, write := true, order := o, slot := s.winSlot (winOf off) }

/-- The posted writes of `ws`, one a dword. -/
def State.postedCmds (s : State) (off o : Nat) (ws : List Word) : List HbrCmd :=
  ws.zipIdx.map (fun x => { s.writeCmd off o ocWritePosted ws with
    frame := s.winFrame (off + 4 * x.2) ocWritePosted [x.1], off := off + 4 * x.2, posted := true })

theorem State.postedCmds_getElem? (s : State) (off o : Nat) (ws : List Word) {i : Nat} {c : HbrCmd}
    (h : (s.postedCmds off o ws)[i]? = some c) : c.posted = true ∧ c.frame.opcode = ocWritePosted ∧ c.off = off + 4 * i ∧
      c.frame.payload = [ws.getD i 0] := by
  simp only [State.postedCmds, List.getElem?_map, List.getElem?_zipIdx, Option.map_map, Option.map_eq_some_iff] at h
  obtain ⟨w, hw, rfl⟩ := h
  have hget : ws.getD i 0 = w := by rw [List.getD_eq_getElem?_getD, hw, Option.getD_some]
  rw [hget]
  simp [State.winFrame, Frame.withPayload]

section
variable {s u : State} {off o : Nat} {ws : List Word} {beOk : Bool} (hup : s.pcieUp = true) (hroom : s.tlpRoom = true)
  (hone : 1 ≤ ws.length) (hmax : ws.length ≤ 64) (ho : o = (s.pfDropWin (winOf off)).nextOrder.1)
  (hu : u = (s.pfDropWin (winOf off)).nextOrder.2)
include hup hroom hone hmax

/-- A write TLP that the bridge takes in passes the guard of its row. -/
theorem State.winWrite_guard : ¬ (!s.pcieUp || !s.tlpRoom || ws.isEmpty || decide (ws.length > 64)) = true := by
  have hne : ws ≠ [] := List.ne_nil_of_length_pos hone
  simp [hup, hroom, hne, hmax]

include ho hu

/-- One that a condition of the bridge ends is recorded only. -/
theorem State.winWrite_ended {st : Status} (hst : u.winLocal (winOf off) true beOk = some st) : s.winWrite off ws beOk =
    u.elogCmd (u.writeCmd off o (if u.is F.HBR_WIN_ATTR_POSTED (winOf off) then ocWritePosted
      else if ws.length = 1 then ocWrite else ocWriteBlock) ws) st none false := by
  unfold State.winWrite
  simp only [if_neg (State.winWrite_guard hup hroom hone hmax), ← hu, ← ho, hst]
  rfl

theorem State.winWrite_single (hst : u.winLocal (winOf off) true beOk = none)
    (hp : u.is F.HBR_WIN_ATTR_POSTED (winOf off) = false) : s.winWrite off ws beOk =
      u.hbrQueue [u.writeCmd off o (if ws.length = 1 then ocWrite else ocWriteBlock) ws] := by
  unfold State.winWrite
  simp only [if_neg (State.winWrite_guard hup hroom hone hmax), ← hu, ← ho, hst, hp, Bool.false_eq_true, if_false]
  rfl

theorem State.winWrite_posted (hst : u.winLocal (winOf off) true beOk = none)
    (hp : u.is F.HBR_WIN_ATTR_POSTED (winOf off) = true) : s.winWrite off ws beOk = u.hbrQueue (u.postedCmds off o ws) := by
  unfold State.winWrite
  simp only [if_neg (State.winWrite_guard hup hroom hone hmax), ← hu, ← ho, hst, hp, if_true]
  rfl
end

/-! ### Read TLPs (R296, R297, R300) -/

/-- The bridge with a read TLP of `n` dwords noted under its number. -/
def State.noteRead (s : State) (off n : Nat) : State :=
  let u := s.nextOrder.2.setHbr { s.nextOrder.2.hbr with nextRead := s.hbr.nextRead + 1 }
  u.setHbr { u.hbr with reads := tset s.hbr.reads s.hbr.nextRead { win := winOf off, n := n, off := off, left := 1 } }

section
variable {s : State} {off n : Nat} (hup : s.pcieUp = true) (hroom : s.tlpRoom = true) (hone : 1 ≤ n) (hmax : n ≤ 256)
include hup hroom hone hmax

theorem State.winRead_guard : ¬ (!s.pcieUp || !s.tlpRoom || n = 0 || decide (n > 1024)) = true := by
  have hpos : n ≠ 0 := by omega
  have hle : n ≤ 1024 := by omega
  simp [hup, hroom, hpos, hle]

/-- One that a condition of the bridge ends completes at once, without its data. -/
theorem State.winRead_ended {st : Status} (hst : (s.noteRead off n).winLocal (winOf off) false true = some st) :
    ∃ c : HbrCmd, c.write = false ∧ c.off = off ∧
      s.winRead off n = ((s.noteRead off n).elogCmd c st none false).readPart s.hbr.nextRead 0 [] false := by
  have hparts : (n + 255) / 256 = 1 := by omega
  refine ⟨{ frame := (s.noteRead off n).winFrame off (if n = 1 then ocRead else ocReadBlock) [], win := winOf off, off := off,
            write := false, order := s.nextOrder.1, slot := (s.noteRead off n).winSlot (winOf off) }, rfl, rfl, ?_⟩
  unfold State.winRead
  rw [if_neg (State.winRead_guard hup hroom hone hmax)]
  simp only [hparts]
  split
  next st' hst' =>
    have hsame : some st' = some st := hst'.symm.trans hst
    cases hsame
    rfl
  next hst' =>
    have hsame : none = some st := hst'.symm.trans hst
    cases hsame

/-- Another one, without prefetch, is sent, with its deadline armed. -/
theorem State.winRead_sent {u : State} (hst : (s.noteRead off n).winLocal (winOf off) false true = none)
    (hp : (s.noteRead off n).is F.HBR_WIN_ATTR_PREFETCH (winOf off) = false)
    (hu : u = (s.noteRead off n).arm (.readDeadline s.hbr.nextRead)
      (3000 * (s.noteRead off n).get F.CTL_CMDTO_TIMEOUT_US)) :
    s.winRead off n = u.hbrQueue (u.readBlocks s.hbr.nextRead off n s.nextOrder.1) := by
  have hparts : (n + 255) / 256 = 1 := by omega
  have hplain : ¬ (u.is F.HBR_WIN_ATTR_PREFETCH (winOf off) && decide (n ≤ 256)) = true := by
    have hkept : u.is F.HBR_WIN_ATTR_PREFETCH (winOf off) = false := hu ▸ hp
    simp [hkept]
  unfold State.winRead
  rw [if_neg (State.winRead_guard hup hroom hone hmax)]
  simp only [hparts]
  split
  next st' hst' =>
    have hsame : some st' = none := hst'.symm.trans hst
    cases hsame
  next hst' =>
    subst hu
    exact if_neg hplain
end

/-- The blocks of 256 dwords that make up `n` of them. -/
theorem sum_blocks (n : Nat) : ((List.range ((n + 255) / 256)).map (fun i => min 256 (n - 256 * i))).sum = n := by
  have hpart : ∀ k, ((List.range k).map (fun i => min 256 (n - 256 * i))).sum = min (256 * k) n := by
    intro k
    induction k with
    | zero => simp
    | succ k ih =>
      rw [List.range_succ, List.map_append, List.sum_append, ih, List.map_singleton, List.sum_singleton]
      omega
  rw [hpart]
  omega

theorem State.readBlocks_one (s : State) (id off : Nat) {n : Nat} (o : Nat) (hone : 1 ≤ n) (hmax : n ≤ 256) :
    s.readBlocks id off n o = [{ frame := if n = 1 then s.winFrame off ocRead [] else s.winFrame off ocReadBlock [BitVec.ofNat 32 n],
                                 win := winOf off, off := off, write := false, rd := some id, at_ := 0, n := n, want := n,
                                 order := o, slot := s.winSlot (winOf off) }] := by
  have hparts : (n + 255) / 256 = 1 := by omega
  unfold State.readBlocks
  rw [hparts, List.range_one, List.map_singleton]
  simp only [Nat.mul_zero, Nat.add_zero, Nat.sub_zero, Nat.min_eq_right hmax]

theorem State.readBlocks_cover (s : State) (id off n o : Nat) : (s.readBlocks id off n o).length = (n + 255) / 256 ∧
    ((s.readBlocks id off n o).map (fun c => c.n)).sum = n := by
  unfold State.readBlocks
  refine ⟨by rw [List.length_map, List.length_range], ?_⟩
  rw [List.map_map]
  exact sum_blocks n

/-! ### BAR0 and BAR4 (R292, R293) -/

section
variable {s : State} {off : Nat} (hup : s.pcieUp = true)
include hup

theorem State.bar0_bad (hoff : off < 0x10000) (w : Option Word) {beOk : Bool} (h : beOk = false ∨ off % 4 ≠ 0) :
    s.bar0 off w beOk = s.tlpBad w.isNone := by
  have hlate : ¬ 0x10000 ≤ off := Nat.not_le.2 hoff
  have hbad : (!beOk || off % 4 != 0) = true := by simpa using h
  unfold State.bar0
  rw [if_neg (by simp [hup, hlate]), if_pos hbad]

/-- A read of one dword: a reserved offset reads 0, a register its word in the privileged view. -/
theorem State.bar0_read (hoff : off < 0x10000) (halign : off % 4 = 0) :
    (locate (0x700000 + off) = none → s.bar0 off none true = s.hostOut (.data 0)) ∧
    ∀ r i j, locate (0x700000 + off) = some (r, i, j) → s.bar0 off none true = s.hostOut (.data (s.readReg true r i j)) := by
  have hlate : ¬ 0x10000 ≤ off := Nat.not_le.2 hoff
  refine ⟨fun hloc => ?_, fun r i j hloc => ?_⟩ <;> simp [State.bar0, hup, hlate, halign, hloc]

/-- A write of one dword to a register: a key is written here, another register as its row lets it through. -/
theorem State.bar0_write (hoff : off < 0x10000) (halign : off % 4 = 0) {r : Reg} {i j : Nat}
    (hloc : locate (0x700000 + off) = some (r, i, j)) (x : Word) :
    (r = .hbrKey → s.bar0 off (some x) true = s.wr .hbrKey i j x) ∧
    (r ≠ .hbrKey → s.writeStatus true r i j x none = stOk → s.bar0 off (some x) true = s.writeReg true r i j x) := by
  have hlate : ¬ 0x10000 ≤ off := Nat.not_le.2 hoff
  refine ⟨fun hkey => ?_, fun hkey hst => ?_⟩
  · simp [State.bar0, hup, hlate, halign, hloc, hkey]
  · simp [State.bar0, hup, hlate, halign, hloc, hkey, hst]

/-- BAR4 serves aligned dwords that the TLP enables whole. -/
theorem State.bar4_of_up :
    s.bar4 off none true = s.hostOut (.data (s.bar4Read off)) ∧ (∀ x, s.bar4 off (some x) true = s.bar4Write off x) ∧
    ∀ w, s.bar4 off w false = s.tlpBad w.isNone := by
  simp [State.bar4, hup]
end

/-- A write to the MSI-X table leaves the dword there; what it sends and clears lies elsewhere. -/
theorem State.bar4Write_msix (s : State) {off : Nat} (hoff : off < 0x400) (x : Word) :
    (s.bar4Write off x).hbr.msix = tset s.hbr.msix (off / 4) x := by
  unfold State.bar4Write
  rw [if_neg (Nat.not_le.2 hoff)]
  dsimp only
  split <;> rfl

theorem State.bar4Read_bar4Write (s : State) {off : Nat} (hoff : off < 0x400) (x : Word) :
    (s.bar4Write off x).bar4Read off = x := by
  unfold State.bar4Read
  rw [if_pos hoff, State.bar4Write_msix s hoff, tget_tset_self]

/-! ### The statement -/

/-- Settles O33, TLP by TLP. -/
theorem hostBridgeWindows : Obligations.HostBridgeWindows := by
  intro s u off
  refine ⟨fun ws beOk hup hroom hone hmax hu => ⟨fun st hst => ?writeEnded, fun hst hp => ?writeOne, fun hst hp => ?writePosted⟩,
    fun n id hup hroom hone hmax hid v hv => ⟨fun st hst => ?readEnded, fun hst hp hu => ?readSent⟩,
    fun id n o hone hmax => ?oneBlock, fun id n o => s.readBlocks_cover id off n o,
    fun w hup hoff => ⟨fun h => ?bar0Bad, ?bar0Part, fun halign hloc => ?bar0Reserved,
      fun r i j halign hloc => ⟨?bar0Read, fun x hr hst => ?bar0Write, fun x hr => ?bar0Key⟩⟩,
    fun hup => ?bar4, fun x hoff _ => s.bar4Read_bar4Write hoff x⟩
  case writeEnded =>
    exact does_of_eq rfl (State.winWrite_ended hup hroom hone hmax rfl hu hst) ⟨_, rfl, rfl, rfl, rfl⟩
  case writeOne =>
    exact ⟨_, rfl, rfl, rfl, next_done_congr (State.winWrite_single hup hroom hone hmax rfl hu hst hp)⟩
  case writePosted =>
    refine ⟨_, ?_, fun i c hc => u.postedCmds_getElem? _ _ _ hc,
      next_done_congr (State.winWrite_posted hup hroom hone hmax rfl hu hst hp)⟩
    rw [State.postedCmds, List.length_map, List.length_zipIdx]
  case readEnded =>
    subst hid hv
    obtain ⟨c, hread, hoff, hend⟩ := State.winRead_ended hup hroom hone hmax hst
    exact does_of_eq rfl hend ⟨c, hread, hoff, rfl⟩
  case readSent =>
    subst hid hv
    exact next_done_congr (State.winRead_sent hup hroom hone hmax hst hp hu)
  case oneBlock => exact ⟨_, s.readBlocks_one id off o hone hmax, rfl, rfl, rfl⟩
  case bar0Bad => exact next_done_congr (State.bar0_bad hup hoff w (.inr h))
  case bar0Part => exact next_done_congr (State.bar0_bad hup hoff w (.inl rfl))
  case bar0Reserved => exact next_done_congr ((State.bar0_read hup hoff halign).1 hloc)
  case bar0Read => exact next_done_congr ((State.bar0_read hup hoff halign).2 r i j hloc)
  case bar0Write => exact next_done_congr ((State.bar0_write hup hoff halign hloc x).2 hr hst)
  case bar0Key => exact does_of_eq rfl ((State.bar0_write hup hoff halign hloc x).1 hr) (State.wr_rd_self s .hbrKey i j x)
  case bar4 =>
    obtain ⟨hread, hwrite, hpart⟩ := State.bar4_of_up (off := off) hup
    exact ⟨next_done_congr hread, fun x => next_done_congr (hwrite x), fun w => next_done_congr (hpart w)⟩

end Sys2Proof.Machine
end

section
/-!
An ISL reset of an island whose lane receives (R391, R398). The statement of the island's reset count holds of every state, and so of
one whose residue lists stand under a queue number beyond the 1,024 queues of R147.
-/
namespace Sys2Proof.Machine

/-! ### The condition of O42 on an ISL reset leaves the queue numbers of the switch core open -/

/-- The number of a queue that does not exist: its MC_RESIDUE_DROP, of port 0x2740C1, would lie at the offset of ISL_RST_CNT 1. -/
def queueBeyond : Nat := 8 * 0x2740C1

/-- A hub whose ring lane 0 is up and receives unit 5, which waits in the residue list of `queueBeyond` before unit 6; both are due. -/
def misqueued : State :=
  { ({ State.reset with isl := { rst := 0 } } : State).put F.LNK_STATE_STATE 6 0 with
    sw := { rx := [(0, some 5, {})]
            units := [(5, { frame := {}, inPort := 0, own := false, cells := [], tier := .shared, gen := 0, complete := false,
                            rind := 0, authOk := false })]
            residue := [(queueBeyond, [{ uid := 5 }, { uid := 6 }])] } }

theorem residueDrop_at_resetCount : Reg.mcResidueDrop.addr (queueBeyond / 8) 0 = Reg.islRstCnt.addr 1 0 := by decide

theorem misqueued_powered : (misqueued.rd .islPwrStat).getLsbD 1 = true := by decide +kernel

theorem misqueued_receives : misqueued.laneLinked 0 = true ∧ (tfind misqueued.sw.rx 0).isSome = true := by decide +kernel

theorem misqueued_resetCount : misqueued.rd .islRstCnt 1 = 0 := by decide +kernel

/-- The reset counts once, and the residue entry behind the frame that it cuts once more. -/
theorem misqueued_islReset_resetCount : (misqueued.islReset 1).rd .islRstCnt 1 = 2 := by decide +kernel

/-- Refutes O42: the clause of an ISL reset. Cutting the frame that lane 0 of `misqueued` receives purges its residue entry, and the next
entry of that list, which is due, counts in MC_RESIDUE_DROP of its port (R152): for a queue beyond the last this is ISL_RST_CNT 1. -/
theorem not_islandClocksAndResets : ¬ Obligations.IslandClocksAndResets := by
  intro h
  obtain ⟨-, -, -, hreset, -⟩ := h misqueued misqueued 1
  obtain ⟨-, -, hcount, -⟩ := hreset (by decide) misqueued_powered (by decide)
  have hone : (misqueued.islReset 1).rd .islRstCnt 1 = misqueued.rd .islRstCnt 1 + 1 := hcount
  rw [misqueued_islReset_resetCount, misqueued_resetCount] at hone
  exact absurd hone (by decide)

end Sys2Proof.Machine
end

section
/-!
Field power channels: states, limiting, power good, the right to drive, parking, the supply and measurement (R314-R317, R322, R325-R327).
-/
namespace Sys2Proof.Machine

/-! ### Registers of one channel -/

/-- Two registers of families with the same stride stand at different offsets under every index. -/
abbrev Reg.Beside (r : Reg) (j : Nat) (r' : Reg) (j' : Nat) : Prop :=
  r.row.s1 = r'.row.s1 ∧ r.row.base + j * r.row.s2 ≠ r'.row.base + j' * r'.row.s2

theorem Reg.addr_ne_of_beside {r r' : Reg} {j j' : Nat} (c : Nat) (h : r.Beside j r' j') : r.addr c j ≠ r'.addr c j' := by
  obtain ⟨hstride, hbase⟩ := h
  unfold Reg.addr
  dsimp only
  rw [hstride]
  omega

/-- A register of the block of a channel. -/
abbrev Reg.OfChannel (r : Reg) (j : Nat) : Prop :=
  r.row.s1 = 0x100 ∧ 0x800000 ≤ r.row.base ∧ r.row.base + j * r.row.s2 < 0x800100

/-- The blocks of the 16 channels hold no other register. -/
theorem Reg.addr_ne_of_channel {r r' : Reg} {i j j' : Nat} (c : Fin 16) (h : r'.OfChannel j')
    (hout : r.addr i j < 0x800000 ∨ 0x801000 ≤ r.addr i j) : r.addr i j ≠ r'.addr c j' := by
  obtain ⟨hstride, hlow, hhigh⟩ := h
  have hchannel : c.val < 16 := c.isLt
  have haddr : r'.addr c j' = r'.row.base + c.val * r'.row.s1 + j' * r'.row.s2 := rfl
  rw [haddr, hstride]
  omega

section
variable (s : State) {c j j' : Nat} {f g : Fld} {r : Reg}

theorem State.put_get_of_beside (v : Nat) (h : g.reg.Beside j' f.reg j) : (s.put f v c j).get g c j' = s.get g c j' :=
  s.put_get_of_ne v (Reg.addr_ne_of_beside c h)

theorem State.wr_get_of_beside (w : Word) (h : g.reg.Beside j' r j) : (s.wr r c j w).get g c j' = s.get g c j' :=
  s.wr_get_of_ne w (Reg.addr_ne_of_beside c h)

theorem State.bump_get_of_beside (n : Nat) (h : g.reg.Beside j' r j) : (s.bump r c j n).get g c j' = s.get g c j' :=
  s.wr_get_of_ne _ (Reg.addr_ne_of_beside c h)

theorem State.put_rd_of_beside (v : Nat) (h : r.Beside j' f.reg j) : (s.put f v c j).rd r c j' = s.rd r c j' :=
  s.put_rd_of_ne f v (Reg.addr_ne_of_beside c h)

theorem State.wr_rd_of_beside {r' : Reg} (w : Word) (h : r'.Beside j' r j) : (s.wr r c j w).rd r' c j' = s.rd r' c j' :=
  s.wr_rd_of_ne w (Reg.addr_ne_of_beside c h)

theorem State.put_is_of_apart (v : Nat) (h : f.Apart g) : (s.put f v c j).is g c j = s.is g c j := by
  rw [State.is, s.put_get_of_apart v h, State.is]

theorem State.put_is_of_beside (v : Nat) (h : g.reg.Beside j' f.reg j) : (s.put f v c j).is g c j' = s.is g c j' := by
  rw [State.is, s.put_get_of_beside v h, State.is]

theorem State.bump_is_of_beside (n : Nat) (h : g.reg.Beside j' r j) : (s.bump r c j n).is g c j' = s.is g c j' := by
  rw [State.is, s.bump_get_of_beside n h, State.is]

/-- A flag that is set reads 1. -/
theorem State.put_is_one (h : f.hi = f.lo ∧ f.hi < 32) : (s.put f 1 c j).is f c j = true := by
  obtain ⟨hone, hhi⟩ := h
  refine State.is_of_get ?_
  rw [s.put_get_self f 1 c j hone.ge hhi, hone, Nat.add_sub_cancel_left, Nat.pow_one]

/-- A flag that is cleared reads 0. -/
theorem State.put_is_zero (h : f.hi = f.lo ∧ f.hi < 32) : (s.put f 0 c j).is f c j = false := by
  obtain ⟨hone, hhi⟩ := h
  exact State.not_is_of_get ((s.put_get_self f 0 c j hone.ge hhi).trans (Nat.zero_mod _))
end

/-- A timer whose deadline is set leaves the others alone. -/
theorem deadline_of_restarted (s : State) {t t' : Timer} (d : Nat) (h : t' ≠ t) :
    ({ s with timers := (t, d) :: s.timers.filter (fun e => e.1 != t) } : State).deadline t' = s.deadline t' := by
  have hskip : (t == t') = false := by simpa using fun e => h e.symm
  refine Eq.trans ?_ (s.disarm_deadline_of_ne h)
  simp only [State.deadline, State.disarm, List.find?_cons, hskip]

/-! ### The state of a channel and its PG -/

section
variable (s : State) (k : Nat)

@[simp] theorem State.wr_pch (r : Reg) (i j : Nat) (w : Word) : (s.wr r i j w).pch k = s.pch k := rfl
@[simp] theorem State.put_pch (f : Fld) (v i j : Nat) : (s.put f v i j).pch k = s.pch k := rfl
@[simp] theorem State.bump_pch (r : Reg) (i j n : Nat) : (s.bump r i j n).pch k = s.pch k := rfl
@[simp] theorem State.arm_pch (t : Timer) (d : Nat) : (s.arm t d).pch k = s.pch k := rfl
@[simp] theorem State.disarm_pch (t : Timer) : (s.disarm t).pch k = s.pch k := rfl
end

section
variable (s : State) (c : Nat)

@[simp] theorem State.setPst_pst_self {st : Nat} (h : st < 16) : (s.setPst c st).pst c = st :=
  (s.put_get_self _ _ _ _ (by decide) (by decide)).trans (Nat.mod_eq_of_lt h)

theorem State.setPst_is_of_apart (st : Nat) {f : Fld} (h : Fld.Apart F.PWR_CH_STAT_STATE f) :
    (s.setPst c st).is f c = s.is f c := s.put_is_of_apart st h

/-- The qualification of PG moves its own timer only. -/
@[simp] theorem State.pgQualify_regs (t : Nat) : (s.pgQualify c t).regs = s.regs := by
  unfold State.pgQualify
  split <;> rfl

@[simp] theorem State.pgQualify_pch (t k : Nat) : (s.pgQualify c t).pch k = s.pch k := by
  unfold State.pgQualify
  split <;> rfl

theorem State.pgQualify_is (t : Nat) (f : Fld) (i : Nat) : (s.pgQualify c t).is f i = s.is f i := by
  simp only [State.is, State.get, State.rd_of_regs (s.pgQualify_regs c t)]

@[simp] theorem State.pgQualify_pst (t : Nat) : (s.pgQualify c t).pst c = s.pst c := by
  simp only [State.pst, State.get, State.rd_of_regs (s.pgQualify_regs c t)]

theorem State.pgQualify_deadline_of_ne (from_ : Nat) {t : Timer} (h : t ≠ .pg c) :
    (s.pgQualify c from_).deadline t = s.deadline t := by
  unfold State.pgQualify
  split
  · exact State.disarm_deadline_of_ne _ h
  · exact deadline_of_restarted s _ h

/-- The fall of PG leaves the channel's other flags alone. -/
theorem State.pgDrop_is_of_apart {f : Fld} (h : Fld.Apart F.PWR_CH_STAT_PG f) : (s.pgDrop c).is f c = s.is f c := by
  unfold State.pgDrop
  dsimp only
  split
  · exact State.disarm_is _ _ _ _ _
  · have hreg : f.reg = .pwrChStat := h.1
    rw [State.disarm_is, State.bump_is_of_beside _ _ (by rw [hreg]; decide), State.put_is_of_apart _ _ h, State.disarm_is]

theorem State.pgDrop_pg : (s.pgDrop c).is F.PWR_CH_STAT_PG c = false := by
  unfold State.pgDrop
  dsimp only
  split
  next hlow => simpa using hlow
  next =>
    rw [State.disarm_is, State.bump_is_of_beside _ _ (by decide)]
    exact State.put_is_zero _ (by decide)

@[simp] theorem State.pgDrop_pch (k : Nat) : (s.pgDrop c).pch k = s.pch k := by
  unfold State.pgDrop
  dsimp only
  split <;> rfl

theorem State.pgDrop_deadline_of_ne {t : Timer} (hpg : t ≠ .pg c) (hretry : t ≠ .retryReset c) :
    (s.pgDrop c).deadline t = s.deadline t := by
  unfold State.pgDrop
  dsimp only
  split
  · exact State.disarm_deadline_of_ne _ hpg
  · rw [State.disarm_deadline_of_ne _ hretry, State.bump_deadline, State.put_deadline, State.disarm_deadline_of_ne _ hpg]

/-! ### Limiting (R317) -/

/-- The channel limits, its fault timer running from what it held in `s`. -/
def State.LimitsFrom (s : State) (c : Nat) (t : State) : Prop :=
  t.is F.PWR_CH_STAT_LIMITING c = true ∧ (t.pch c).ft = s.ftNow c ∧
    t.deadline (.ft c) = some (s.now + 1000 * (s.get F.PWR_CH_LIM_FT_US c - s.ftNow c))

variable {s c}

/-- What leaves flag, record and timer alone leaves the channel limiting. -/
theorem State.LimitsFrom.congr {t v : State} (h : s.LimitsFrom c t)
    (hflag : v.is F.PWR_CH_STAT_LIMITING c = t.is F.PWR_CH_STAT_LIMITING c) (hpch : v.pch c = t.pch c)
    (hft : v.deadline (.ft c) = t.deadline (.ft c)) : s.LimitsFrom c v := by
  obtain ⟨hlim, hheld, htimer⟩ := h
  exact ⟨hflag.trans hlim, hpch ▸ hheld, hft.trans htimer⟩

/-- The channel with its fault timer started; `ramp` says in which phase the episode began. -/
def State.startLimit (s : State) (c : Nat) (ramp : Bool) : State :=
  ((s.setPch c { s.pch c with ft := s.ftNow c, ftAt := s.now, ftRamp := ramp }).put F.PWR_CH_STAT_LIMITING 1 c).arm (.ft c)
    (1000 * (s.get F.PWR_CH_LIM_FT_US c - s.ftNow c))

theorem State.startLimit_limits (ramp : Bool) : s.LimitsFrom c (s.startLimit c ramp) := by
  unfold State.startLimit
  refine ⟨?flag, ?held, ?timer⟩
  case flag => exact (State.arm_is _ _ _ _ _ _).trans (State.put_is_one _ (by decide))
  case held => rw [State.arm_pch, State.put_pch, State.setPch_pch_self]
  case timer => rw [State.arm_deadline_self, State.put_now, State.setPch_now]

theorem State.limitOnset_guard (hup : s.pwrUp = true) (hlim : s.is F.PWR_CH_STAT_LIMITING c = false)
    (hon : s.pchOn c = true ∨ s.pst c = pcParked) :
    ¬ (!s.pwrUp || s.is F.PWR_CH_STAT_LIMITING c || !(s.pchOn c || s.pst c == pcParked)) = true := by
  rcases hon with h | h <;> simp [hup, hlim, h]

/-- An onset that finds the timer running: PG is not qualified meanwhile. -/
theorem State.limitOnset_running (hup : s.pwrUp = true) (hlim : s.is F.PWR_CH_STAT_LIMITING c = false)
    (hon : s.pchOn c = true ∨ s.pst c = pcParked) (hft : s.ftNow c ≠ 0) :
    s.limitOnset c = (s.startLimit c (s.pch c).ftRamp).disarm (.pg c) := by
  unfold State.limitOnset
  rw [if_neg (State.limitOnset_guard hup hlim hon)]
  simp only [decide_eq_false hft, Bool.not_false, Bool.false_eq_true, if_false, if_true]
  rfl

/-- An onset that starts the timer. -/
theorem State.limitOnset_limits (hup : s.pwrUp = true) (hlim : s.is F.PWR_CH_STAT_LIMITING c = false)
    (hon : s.pchOn c = true ∨ s.pst c = pcParked) : s.LimitsFrom c (s.limitOnset c) := by
  rcases Nat.eq_zero_or_pos (s.ftNow c) with hzero | hpos
  · have hcounted (ramp : Bool) : s.LimitsFrom c ((s.startLimit c ramp).bump .pwrCnt c 0) :=
      (State.startLimit_limits ramp).congr (State.bump_is_of_beside _ _ (by decide)) (State.bump_pch _ _ _ _ _ _)
        (State.bump_deadline _ _ _ _ _ _)
    unfold State.limitOnset
    rw [if_neg (State.limitOnset_guard hup hlim hon)]
    simp only [decide_eq_true hzero, Bool.not_true, Bool.false_eq_true, if_false, if_true]
    split
    · exact (hcounted _).congr (State.disarm_is _ _ _ _ _) (State.disarm_pch _ _ _) (State.disarm_deadline_of_ne _ (by simp))
    split
    · exact (hcounted _).congr ((State.disarm_is _ _ _ _ _).trans (State.put_is_of_apart _ _ (by decide)))
        ((State.disarm_pch _ _ _).trans (State.put_pch _ _ _ _ _ _))
        ((State.disarm_deadline_of_ne _ (by simp)).trans (State.put_deadline _ _ _ _ _ _))
    split
    · exact (hcounted _).congr (State.pgDrop_is_of_apart _ _ (by decide)) (State.pgDrop_pch _ _ _)
        (State.pgDrop_deadline_of_ne _ _ (by simp) (by simp))
    · exact hcounted _
  · rw [State.limitOnset_running hup hlim hon hpos.ne']
    exact (State.startLimit_limits _).congr (State.disarm_is _ _ _ _ _) (State.disarm_pch _ _ _) (State.disarm_deadline_of_ne _ (by simp))

/-- An onset with the timer running leaves PG as it shows. -/
theorem State.limitOnset_running_pg (hup : s.pwrUp = true) (hlim : s.is F.PWR_CH_STAT_LIMITING c = false)
    (hon : s.pchOn c = true ∨ s.pst c = pcParked) (hft : s.ftNow c ≠ 0) : (s.limitOnset c).deadline (.pg c) = none ∧
      (s.limitOnset c).is F.PWR_CH_STAT_PG c = s.is F.PWR_CH_STAT_PG c := by
  rw [State.limitOnset_running hup hlim hon hft]
  refine ⟨State.disarm_deadline_self _ _, ?_⟩
  rw [State.disarm_is, State.startLimit, State.arm_is, State.put_is_of_apart _ _ (by decide), State.setPch_is]

theorem State.stopLimit_of_limiting (hlim : s.is F.PWR_CH_STAT_LIMITING c = true) : s.stopLimit c =
    ((s.setPch c { s.pch c with ft := s.ftNow c, ftAt := s.now }).put F.PWR_CH_STAT_LIMITING 0 c).disarm (.ft c) := by
  unfold State.stopLimit
  rw [if_neg (by simp [hlim])]

/-- The end of limiting keeps what the fault timer has counted. -/
theorem State.limitEnd_ends (hup : s.pwrUp = true) (hlim : s.is F.PWR_CH_STAT_LIMITING c = true) :
    (s.limitEnd c).is F.PWR_CH_STAT_LIMITING c = false ∧ ((s.limitEnd c).pch c).ft = s.ftNow c ∧
    ((s.limitEnd c).pch c).ftAt = s.now ∧ (s.limitEnd c).deadline (.ft c) = none := by
  have hguard : ¬ (!s.pwrUp || !s.is F.PWR_CH_STAT_LIMITING c) = true := by simp [hup, hlim]
  have hpch : (s.stopLimit c).pch c = { s.pch c with ft := s.ftNow c, ftAt := s.now } := by
    rw [State.stopLimit_of_limiting hlim]
    exact State.setPch_pch_self _ _ _
  unfold State.limitEnd
  rw [if_neg hguard]
  dsimp only
  rw [State.pgQualify_pch, hpch, State.pgQualify_is, State.pgQualify_deadline_of_ne _ _ _ (by simp),
    State.stopLimit_of_limiting hlim, State.disarm_is]
  exact ⟨State.put_is_zero _ (by decide), rfl, rfl, State.disarm_deadline_self _ _⟩

/-! ### Ramp and power good (R316, R322) -/

theorem State.rampDone_enhance (hright : s.pwrRight = true) (hst : s.pst c = pcRamp) :
    s.rampDone c true = s.setPst c pcEnhance := by
  simp [State.rampDone, hright, hst]

/-- The channel in ON, its ramp complete now. -/
def State.rampFull (s : State) (c : Nat) : State :=
  ((s.setPst c pcOn).disarm (.ramp c)).setPch c { s.pch c with rampAt := s.now }

theorem State.rampDone_complete (hright : s.pwrRight = true) (hst : s.pst c = pcRamp ∨ s.pst c = pcEnhance) :
    s.rampDone c false = (s.rampFull c).pgQualify c (s.rampFull c).now := by
  unfold State.rampDone
  rw [if_neg (by simp [hright]), if_neg Bool.false_ne_true, if_pos hst]
  rfl

theorem State.rampFull_shows : (s.rampFull c).pst c = pcOn ∧ ((s.rampFull c).pch c).rampAt = s.now ∧
    (s.rampFull c).deadline (.ramp c) = none := by
  unfold State.rampFull
  refine ⟨?state, ?instant, ?timer⟩
  case state =>
    exact (State.setPch_get _ _ _ _ _ _).trans ((State.disarm_get _ _ _ _ _).trans (State.setPst_pst_self _ _ (by decide)))
  case instant => rw [State.setPch_pch_self]
  case timer => rw [State.setPch_deadline, State.disarm_deadline_self]

/-- The channel with PG asserted, the retry count to be cleared after 60 s. -/
def State.pgGood (s : State) (c : Nat) : State :=
  ((s.put F.PWR_CH_STAT_PG 1 c).setPch c { s.pch c with pgAt := s.now }).arm (.retryReset c) 60000000000

theorem State.pgAssert_of_expire {u : State} (hu : s.expire (.pg c) = some u) : s.pgAssert c = u.pgGood c := by
  unfold State.pgAssert
  split
  next hnone => cases hu.symm.trans hnone
  next v hv =>
    cases hu.symm.trans hv
    rfl

theorem State.pgGood_shows : (s.pgGood c).is F.PWR_CH_STAT_PG c = true ∧ ((s.pgGood c).pch c).pgAt = s.now ∧
    (s.pgGood c).deadline (.retryReset c) = some (s.now + 60000000000) := by
  unfold State.pgGood
  refine ⟨?flag, ?instant, ?timer⟩
  case flag =>
    rw [State.arm_is, State.setPch_is]
    exact State.put_is_one _ (by decide)
  case instant => rw [State.arm_pch, State.setPch_pch_self]
  case timer => rw [State.arm_deadline_self, State.setPch_now, State.put_now]

/-! ### Turning off and parking (R314, R315) -/

theorem State.gateOff_pst {st : Nat} (h : st < 16) : (s.gateOff c st).pst c = st := by
  unfold State.gateOff
  exact State.setPst_pst_self _ _ h

theorem State.gateOff_is_of_apart (st : Nat) {f : Fld} (hst : Fld.Apart F.PWR_CH_STAT_STATE f) :
    (s.gateOff c st).is f c = ((s.stopLimit c).pgDrop c).is f c := by
  unfold State.gateOff State.gateTimers
  dsimp only
  rw [State.setPst_is_of_apart _ _ _ hst, State.setPch_is, State.disarm_is, State.disarm_is, State.disarm_is]

theorem State.gateOff_pg (st : Nat) : (s.gateOff c st).is F.PWR_CH_STAT_PG c = false :=
  (State.gateOff_is_of_apart st (by decide)).trans (State.pgDrop_pg _ _)

theorem State.gateOff_ft (st : Nat) : (s.gateOff c st).deadline (.ft c) = none := by
  unfold State.gateOff State.gateTimers State.setPst
  dsimp only
  rw [State.put_deadline, State.setPch_deadline, State.disarm_deadline_self]

theorem State.pchOn_of_on (h : s.pst c = pcOn) : s.pchOn c = true := by
  simp [State.pchOn, h]

/-- A channel in ON that loses the right to drive parks, or turns its gate off. -/
theorem State.pchLose_of_on (hright : s.pwrRight = false) (hst : s.pst c = pcOn) (hhanded : (s.pch c).handed = false) :
    s.pchLose c = if s.is F.PWR_CH_CFG_HOLD_ON_RELEASE c && s.pwrHard && s.vinOk then s.park c else s.gateOff c pcHeld := by
  unfold State.pchLose
  rw [if_neg (by simp [hright, State.pchOn_of_on hst, hhanded])]
  simp [hst]

theorem State.park_parked : (s.park c).pst c = pcParked ∧
    (s.park c).deadline (.park c) = some (s.now + 1000 * s.get F.PWR_CFG_PARK_US) := by
  unfold State.park
  refine ⟨?state, ?timer⟩
  case state => exact (State.arm_get _ _ _ _ _ _).trans (State.setPst_pst_self _ _ (by decide))
  case timer => rw [State.arm_deadline_self, State.setPst, State.put_now, State.setPch_now]

theorem State.parkTimeout_of_parked {u : State} (hu : s.expire (.park c) = some u) (hst : u.pst c = pcParked) :
    s.parkTimeout c = u.gateOff c pcOff := by
  unfold State.parkTimeout
  rw [hu]
  exact if_pos hst

theorem State.parkHandoff_of_low (hst : s.pst c = pcParked) (hpair : (s.pch c).pairPark = true)
    (hdrive : s.is F.PAR_STAT_ILK_DRIVE = false) (hlow : s.is F.PAR_STAT_ILK_LOW = true) : s.parkHandoff c =
      (s.gateOff c pcHeld).setPch c { (s.gateOff c pcHeld).pch c with handed := true } := by
  unfold State.parkHandoff
  rw [if_neg (by simp [hst, hpair, hdrive, hlow])]

end

/-! ### The supply, measurement and the link (R325-R327) -/

section
variable {s : State} {c : Nat}

theorem State.pfwarn_assert (hup : s.pwrUp = true) (hlow : s.is F.PWR_STAT_PFWARN = false) :
    s.pfwarn true = (s.put F.PWR_STAT_PFWARN 1).setLive 0x89 := by
  simp [State.pfwarn, hup, hlow]

theorem State.pfwarn_release (hup : s.pwrUp = true) (hhigh : s.is F.PWR_STAT_PFWARN = true) :
    s.pfwarn false = (s.put F.PWR_STAT_PFWARN 0).clearLive 0x89 := by
  simp [State.pfwarn, hup, hhigh]

/-- The registers of a measurement, written. -/
def State.measured (s : State) (c : Nat) (m : Meas) : State :=
  (((s.wr .pwrChMeas0 c 0 (m.i ++ m.vout)).wr .pwrChMeas1 c 0 (m.vgs ++ m.vin)).put F.PWR_CH_MEAS2_T_MEAS
    (if s.get F.PWR_CH_CFG_TMP_MODE c = 0 then 0x8000#16 else m.tMeas).toNat c).put F.PWR_STAT_VIN m.vin.toNat

/-- A measurement of a channel that does not track and shows neither OPEN_LOAD nor PG is only recorded. -/
theorem State.measure_records (m : Meas) (hup : s.pwrUp = true) (htrack : (s.measured c m).tracking = false)
    (hopen : (s.measured c m).is F.PWR_CH_STAT_OPEN_LOAD c = false) (hpg : (s.measured c m).is F.PWR_CH_STAT_PG c = false) :
    s.measure c m = (s.measured c m).setPch c { (s.measured c m).pch c with
      lowV := decide (m.vout.toInt < Int.ofNat m.vin.toNat - 150) } := by
  have hstay : (s.measured c m).trackState c m = s.measured c m := by
    unfold State.trackState
    simp [htrack]
  unfold State.measure
  rw [if_neg (by simp [hup])]
  extract_lets tm w t kept low was x shown
  have hkept : kept = s.measured c m := (if_neg (by rw [show t = s.measured c m from hstay, hopen]; simp)).trans hstay
  have hshown : shown.is F.PWR_CH_STAT_PG c = false := by
    unfold shown
    rw [State.setPch_is, hkept, hpg]
  rw [hshown, Bool.and_false, if_neg Bool.false_ne_true]
  unfold shown x
  rw [hkept]

section
variable (c : Fin 16) (m : Meas)

/-- A measurement leaves registers that are neither the channel's records nor the supply's alone. -/
theorem State.measured_rd_of_ne {r : Reg} {i j : Nat} (h0 : r.addr i j ≠ Reg.pwrChMeas0.addr c 0)
    (h1 : r.addr i j ≠ Reg.pwrChMeas1.addr c 0) (h2 : r.addr i j ≠ Reg.pwrChMeas2.addr c 0)
    (hv : r.addr i j ≠ Reg.pwrStat.addr 0 0) : (s.measured c m).rd r i j = s.rd r i j := by
  unfold State.measured
  rw [State.put_rd_of_ne _ _ _ hv, State.put_rd_of_ne _ _ _ h2, State.wr_rd_of_ne _ _ h1, State.wr_rd_of_ne _ _ h0]

theorem State.measured_tracking : (s.measured c m).tracking = s.tracking := by
  have hpar : (s.measured c m).rd .parStat = s.rd .parStat :=
    State.measured_rd_of_ne c m (Reg.addr_ne_of_channel c (by decide) (by decide)) (Reg.addr_ne_of_channel c (by decide) (by decide))
      (Reg.addr_ne_of_channel c (by decide) (by decide)) (by decide)
  have hpair : (s.measured c m).rd .ctlPairaddr = s.rd .ctlPairaddr :=
    State.measured_rd_of_ne c m (Reg.addr_ne_of_channel c (by decide) (by decide)) (Reg.addr_ne_of_channel c (by decide) (by decide))
      (Reg.addr_ne_of_channel c (by decide) (by decide)) (by decide)
  simp only [State.tracking, State.paired, State.is, State.get, hpar, hpair]
  rfl

theorem State.measured_flags (f : Fld) (h : f.reg = .pwrChStat) : (s.measured c m).is f c = s.is f c := by
  have hstat : (s.measured c m).rd .pwrChStat c = s.rd .pwrChStat c :=
    State.measured_rd_of_ne c m (Reg.addr_ne_of_beside c (by decide)) (Reg.addr_ne_of_beside c (by decide))
      (Reg.addr_ne_of_beside c (by decide)) (Reg.addr_ne_of_channel c (by decide) (by decide)).symm
  simp only [State.is, State.get, h, hstat]

/-- What the records of a measurement show (R327). -/
theorem State.measured_shows : (s.measured c m).rd .pwrChMeas0 c = m.i ++ m.vout ∧
    (s.measured c m).rd .pwrChMeas1 c = m.vgs ++ m.vin ∧ (s.measured c m).get F.PWR_STAT_VIN = m.vin.toNat ∧
    (s.measured c m).get F.PWR_CH_MEAS2_T_MEAS c = (if s.get F.PWR_CH_CFG_TMP_MODE c = 0 then 0x8000 else m.tMeas.toNat) := by
  unfold State.measured
  refine ⟨?current, ?gate, ?supply, ?fet⟩
  case current =>
    rw [State.put_rd_of_ne _ _ _ (Reg.addr_ne_of_channel c (by decide) (by decide)).symm, State.put_rd_of_beside _ _ (by decide),
      State.wr_rd_of_beside _ _ (by decide), State.wr_rd_self]
  case gate =>
    rw [State.put_rd_of_ne _ _ _ (Reg.addr_ne_of_channel c (by decide) (by decide)).symm, State.put_rd_of_beside _ _ (by decide), State.wr_rd_self]
  case supply =>
    rw [State.put_get_self _ _ _ _ _ (by decide) (by decide)]
    exact Nat.mod_eq_of_lt m.vin.isLt
  case fet =>
    rw [State.put_get_of_ne _ _ (Reg.addr_ne_of_channel c (by decide) (by decide)).symm, State.put_get_self _ _ _ _ _ (by decide) (by decide),
      Nat.mod_eq_of_lt (by exact BitVec.isLt _), apply_ite BitVec.toNat]
    rfl
end

/-- The loss of the link leaves the power die's island up, shows LINK_OK clear and marks its sensors absent. -/
theorem State.dieLinkLoss_shows : (s.put F.PWR_STAT_LINK_OK 0).is F.PWR_STAT_LINK_OK = false ∧
    (s.put F.PWR_STAT_LINK_OK 0).liveCore .mgtPtemp 0 0 = some 0x80008000 := by
  have hlow : (s.put F.PWR_STAT_LINK_OK 0).is F.PWR_STAT_LINK_OK = false := State.put_is_zero _ (by decide)
  refine ⟨hlow, ?_⟩
  simp only [State.liveCore, hlow, Bool.false_eq_true, if_false]

theorem State.put_pwrStat_pwrUp {f : Fld} (v : Nat) (h : f.reg = .pwrStat) : (s.put f v).pwrUp = s.pwrUp := by
  unfold State.pwrUp State.islandUp
  rw [State.put_rd_of_ne _ _ _ (by rw [h]; decide), State.put_isl]

theorem State.dieLinkLoss_of_up (hup : s.pwrUp = true) : s.dieLinkLoss = (s.put F.PWR_STAT_LINK_OK 0).setLive 0x8A := by
  unfold State.dieLinkLoss
  dsimp only
  rw [if_pos ((State.put_pwrStat_pwrUp 0 rfl).trans hup)]

end

/-! ### The statement -/

/-- Settles O31, event by event. -/
theorem fieldPowerStates : Obligations.FieldPowerStates := by
  intro s u c
  refine ⟨fun hright hst => ?enhance, fun hright hst => ?on, fun hup hlim hon => ?onset, fun hup hlim => ?ended, fun hu => ?good,
    fun hright hst hhanded => ⟨fun hhold hhard hvin => ?parks, fun hlost => ?held⟩, fun hu hst => ?parkOver,
    fun hst hpair hdrive hlow => ?handoff, ⟨State.gateOff_pst (by decide), State.gateOff_pst (by decide)⟩,
    fun hup hlow => ?warn, fun hup hhigh => ?warnEnd, fun m hup htrack hopen hpg => ?measured, fun hup hu => ?linkLoss, rfl⟩
  case enhance => exact does_of_eq rfl (State.rampDone_enhance hright hst) (State.setPst_pst_self _ _ (by decide))
  case on =>
    obtain ⟨hon, hramp, htimer⟩ := State.rampFull_shows (s := s) (c := c)
    refine does_of_eq rfl (State.rampDone_complete hright hst) ⟨?_, ?_, ?_⟩
    · rwa [State.pgQualify_pst]
    · rwa [State.pgQualify_pch]
    · rwa [State.pgQualify_deadline_of_ne _ _ _ (by simp)]
  case onset =>
    obtain ⟨hflag, hheld, htimer⟩ := State.limitOnset_limits hup hlim hon
    exact ⟨_, rfl, hflag, hheld, htimer, fun hft => State.limitOnset_running_pg hup hlim hon hft⟩
  case ended => exact ⟨_, rfl, State.limitEnd_ends hup hlim⟩
  case good => exact does_of_eq rfl (State.pgAssert_of_expire hu) State.pgGood_shows
  case parks =>
    exact does_of_eq rfl ((State.pchLose_of_on hright hst hhanded).trans (if_pos (by simp [hhold, hhard, hvin]))) State.park_parked
  case held =>
    refine does_of_eq rfl ((State.pchLose_of_on hright hst hhanded).trans (if_neg ?_))
      ⟨State.gateOff_pst (by decide), State.gateOff_pg _, State.gateOff_ft _⟩
    rcases hlost with h | h | h <;> simp [h]
  case parkOver => exact next_done_congr (congrArg State.pwrAfterPark (State.parkTimeout_of_parked hu hst))
  case handoff => exact next_done_congr (congrArg State.pwrAfterPark (State.parkHandoff_of_low hst hpair hdrive hlow))
  case warn => exact next_done_congr (State.pfwarn_assert hup hlow)
  case warnEnd => exact next_done_congr (State.pfwarn_release hup hhigh)
  case measured =>
    obtain ⟨hcurrent, hgate, hsupply, hfet⟩ := State.measured_shows (s := s) c m
    have hrecord := State.measure_records m hup ((State.measured_tracking c m).trans htrack)
      ((State.measured_flags c m _ rfl).trans hopen) ((State.measured_flags c m _ rfl).trans hpg)
    refine does_of_eq rfl hrecord ⟨?_, ?_, ?_, ?_, ?_⟩
    · rwa [State.setPch_rd]
    · rwa [State.setPch_rd]
    · rwa [State.setPch_get]
    · rwa [State.setPch_get]
    · rw [State.setPch_pch_self]
  case linkLoss =>
    subst hu
    obtain ⟨hlow, habsent⟩ := State.dieLinkLoss_shows (s := s)
    exact ⟨next_done_congr (State.dieLinkLoss_of_up hup), hlow, habsent⟩

end Sys2Proof.Machine
end

section
/-!
Faults and retries of the field power channels, and the timers that a raise leaves alone (R318, R319, R321, R325, R369).
-/
namespace Sys2Proof.Machine

/-! ### What a raise leaves alone -/

theorem State.deadline_of_timers {s t : State} (h : t.timers = s.timers) (x : Timer) : t.deadline x = s.deadline x := by
  unfold State.deadline
  rw [h]

/-- A field reads alike where its register does. -/
theorem State.get_of_rd {s t : State} {f : Fld} {i j i' j' : Nat} (h : t.rd f.reg i' j' = s.rd f.reg i j) :
    t.get f i' j' = s.get f i j := congrArg (·.bits f.hi f.lo) h

theorem State.is_of_rd {s t : State} {f : Fld} {i j i' j' : Nat} (h : t.rd f.reg i' j' = s.rd f.reg i j) :
    t.is f i' j' = s.is f i j := congrArg (· == 1) (State.get_of_rd h)

theorem State.setFlt_deadline (s : State) (x : FltS) (t : Timer) : ({ s with flt := x } : State).deadline t = s.deadline t := rfl

section
variable (s : State)

@[simp] theorem State.sat_timers (f : Fld) (i j : Nat) : (s.sat f i j).timers = s.timers := by
  unfold State.sat
  dsimp only
  split <;> rfl

@[simp] theorem State.faultEvent_timers (kind src reaction : Nat) : (s.faultEvent kind src reaction).timers = s.timers := by
  unfold State.faultEvent
  split <;> rfl

@[simp] theorem State.raiseEvent_timers (src : Nat) : (s.raiseEvent src).timers = s.timers := by
  unfold State.raiseEvent
  split
  · rfl
  dsimp only
  split
  · rfl
  split
  · rfl
  · exact State.faultEvent_timers _ _ _ _

@[simp] theorem State.mirrorOne_timers : s.mirrorOne.timers = s.timers := by
  unfold State.mirrorOne
  split
  · rfl
  dsimp only
  split <;> rfl

@[simp] theorem State.log_timers (audit : Bool) (cls origin source code : Nat) (who : Who) (data : List Word) :
    (s.log audit cls origin source code who data).timers = s.timers := by
  unfold State.log
  split
  · rfl
  dsimp only
  rw [State.wr_timers]
  split
  · exact s.mirrorOne_timers
  · rfl

@[simp] theorem State.faultRecord_timers (src : Nat) (raised : Bool) : (s.faultRecord src raised).timers = s.timers := by
  unfold State.faultRecord
  split
  · rfl
  dsimp only
  split
  · rfl
  · exact State.log_timers _ _ _ _ _ _ _ _

/-- A timer that no raise starts or stops: neither a grace time nor that of ALIVE or of the FAULT_N pulse. -/
abbrev Timer.ApartFromFaults (t : Timer) : Prop := t ≠ .alive ∧ t ≠ .pulse ∧ ∀ src, t ≠ .grace src

variable {t : Timer} (h : t.ApartFromFaults)
include h

theorem State.updateAlive_deadline : s.updateAlive.deadline t = s.deadline t := by
  obtain ⟨halive, -, -⟩ := h
  unfold State.updateAlive State.freeIn
  dsimp only
  split
  · split
    · rfl
    · rw [State.arm_deadline_of_ne _ _ halive]
      exact State.deadline_of_timers rfl t
  · exact (State.deadline_of_timers (s := s.disarm .alive) rfl t).trans (State.disarm_deadline_of_ne _ halive)

theorem State.faultPulse_deadline : s.faultPulse.deadline t = s.deadline t := by
  obtain ⟨-, hpulse, -⟩ := h
  unfold State.faultPulse State.freeIn
  dsimp only
  split
  · rfl
  split
  · rw [State.arm_deadline_of_ne _ _ hpulse]
    exact State.deadline_of_timers rfl t
  split
  · exact State.bump_deadline _ _ _ _ _ _
  · rfl

theorem State.raiseCore_deadline (src inst : Nat) : (s.raiseCore src inst).deadline t = s.deadline t := by
  unfold State.raiseCore
  extract_lets reg instanced flags raised counted c pulsed flags' graced
  have hinstanced : instanced.timers = s.timers := by
    unfold instanced
    rw [State.wr_timers]
  have hcounted : counted.deadline t = s.deadline t := by
    refine State.deadline_of_timers ?_ t
    unfold counted
    rw [State.bump_timers, State.sat_timers, State.put_timers, State.put_timers]
    exact hinstanced
  have hpulsed : pulsed.deadline t = s.deadline t := by
    unfold pulsed
    split
    · exact (counted.faultPulse_deadline h).trans hcounted
    · exact hcounted
  have hgraced : graced.deadline t = s.deadline t := by
    unfold graced
    split
    · exact (State.setFlt_deadline pulsed _ t).trans hpulsed
    split
    · split
      · exact hpulsed
      split
      · exact (State.setFlt_deadline pulsed _ t).trans hpulsed
      · rw [State.arm_deadline_of_ne _ _ (h.2.2 src), State.put_deadline]
        exact hpulsed
    · exact hpulsed
  rw [State.updateAlive_deadline _ h, State.deadline_of_timers (State.faultRecord_timers _ _ _),
    State.deadline_of_timers (State.raiseEvent_timers _ _), hgraced]

theorem State.raise_deadline (src inst : Nat) : (s.raise src inst).deadline t = s.deadline t := by
  unfold State.raise
  split
  · exact s.raiseCore_deadline h src inst
  · rfl

theorem State.setLive_deadline (src inst : Nat) : (s.setLive src inst).deadline t = s.deadline t := by
  unfold State.setLive
  split
  · rw [State.raiseCore_deadline _ h, State.put_deadline]
    exact State.deadline_of_timers rfl t
  · rfl
end

theorem State.setLive_rd_of_lt (s : State) {r : Reg} {i j : Nat} (h : r.addr i j < 0xA00000) (src inst : Nat) :
    (s.setLive src inst).rd r i j = s.rd r i j := by
  unfold State.setLive
  split
  · exact (State.raiseCore_rd_of_lt _ h src inst).trans (State.put_rd_of_lt _ h _ _ _ (by decide))
  · rfl

/-! ### The turn-off (R319, R321) -/

section
variable {s : State} {c : Fin 16}

/-- A channel that is on or parked and does not track can be turned off by a fault. -/
theorem State.faultable_of_on (htrack : s.tracking = false) (hon : s.pchOn c = true ∨ s.pst c = pcParked) :
    s.faultable c = true := by
  rcases hon with h | h <;> simp [State.faultable, htrack, h]

/-- It is no channel that an OFF of this tick has turned off. -/
theorem State.offNow_of_on (hon : s.pchOn c = true ∨ s.pst c = pcParked) : s.offNow c = none := by
  have hst : s.pst c ≠ pcOff := by
    intro hoff
    rcases hon with h | h
    · simp [State.pchOn, hoff] at h
      revert h; decide
    · rw [hoff] at h
      exact absurd h (by decide)
  simp [State.offNow, hst]

/-- The state that follows a turn-off. -/
theorem State.faultNext_of_on (code : Nat) (hon : s.pchOn c = true ∨ s.pst c = pcParked) : s.faultNext c code =
    if code ≠ fcVinUv ∧ code ≠ fcVinOv ∧ (code = fcGate ∨ s.get F.PWR_CH_CFG_RETRY_MAX c ≤ s.get F.PWR_CH_FAULT_RETRY_CNT c) then pcLatched
    else if code = fcVinUv ∨ code = fcVinOv then pcHeld else pcRetryWait := by
  simp [State.faultNext, State.offNow_of_on hon]

/-- What a turn-off writes before it is told to the partner and raised. -/
def State.faultWritten (s : State) (c code end_ : Nat) : State :=
  let u := ((s.gateOff c (s.faultNext c code)).put F.PWR_CH_FAULT_CODE code c).put F.PWR_CH_FAULT_END end_ c
  let u := ((u.wr .pwrChFtime c 0 (u.stampNs 20)).put F.PWR_CH_STAT_CODE code c).bump .pwrCnt c 1
  if s.faultNext c code = pcRetryWait then u.arm (.retry c) 10000000000 else u

/-- An unpaired hub sends no orders. -/
theorem State.channelOrder_of_unpaired {t : State} (h : t.paired = false) (k what code : Nat) : t.channelOrder k what code = t := by
  simp [State.channelOrder, State.sendPairOrder, State.sendOrder, State.streaming, State.servesPair, h]

theorem State.faultOff_of_unpaired {code end_ : Nat} (hable : s.faultable c = true)
    (hpair : (s.faultWritten c code end_).paired = false) : s.faultOff c code end_ =
      if code = fcVinUv ∨ code = fcVinOv then (s.faultWritten c code end_).setLive (0x7F + code) c
      else (s.faultWritten c code end_).raise (0x7F + code) c := by
  unfold State.faultOff
  rw [if_neg (by simp [hable])]
  extract_lets next _ _ written armed told latched
  have harmed : armed = s.faultWritten c code end_ := rfl
  have htold : told = armed := State.channelOrder_of_unpaired (harmed ▸ hpair) _ _ _
  have hlatched : latched = armed := by
    unfold latched
    split
    · rw [htold, State.channelOrder_of_unpaired (harmed ▸ hpair)]
    · exact htold
  rw [hlatched, harmed]

/-! ### What a turn-off shows -/

/-- Turning a gate off writes the channel's own registers only. -/
theorem State.gateOff_rd_of_outside (s : State) (c : Fin 16) (st : Nat) {r : Reg} {i j : Nat}
    (hout : r.addr i j < 0x800000 ∨ 0x801000 ≤ r.addr i j) : (s.gateOff c st).rd r i j = s.rd r i j := by
  have hstat : r.addr i j ≠ Reg.pwrChStat.addr c 0 := Reg.addr_ne_of_channel c (by decide) hout
  have hcnt : r.addr i j ≠ Reg.pwrCnt.addr c 3 := Reg.addr_ne_of_channel c (by decide) hout
  have hstop : (s.stopLimit c).rd r i j = s.rd r i j := by
    unfold State.stopLimit
    dsimp only
    split
    · rfl
    · rw [State.disarm_rd, State.put_rd_of_ne _ _ _ hstat, State.setPch_rd]
  have hdrop : ((s.stopLimit c).pgDrop c).rd r i j = s.rd r i j := by
    unfold State.pgDrop
    dsimp only
    split
    · rw [State.disarm_rd, hstop]
    · rw [State.disarm_rd, State.bump_rd_of_ne _ _ hcnt, State.put_rd_of_ne _ _ _ hstat, State.disarm_rd, hstop]
  unfold State.gateOff State.gateTimers State.setPst
  dsimp only
  rw [State.put_rd_of_ne _ _ _ hstat, State.setPch_rd, State.disarm_rd, State.disarm_rd, State.disarm_rd, hdrop]

/-- The registers that a turn-off writes, before the retry is armed. -/
def State.faultMarked (s : State) (c code end_ next : Nat) : State :=
  let u := ((s.gateOff c next).put F.PWR_CH_FAULT_CODE code c).put F.PWR_CH_FAULT_END end_ c
  ((u.wr .pwrChFtime c 0 (u.stampNs 20)).put F.PWR_CH_STAT_CODE code c).bump .pwrCnt c 1

theorem State.faultWritten_eq (code end_ : Nat) : s.faultWritten c code end_ =
    if s.faultNext c code = pcRetryWait then (s.faultMarked c code end_ (s.faultNext c code)).arm (.retry c) 10000000000
    else s.faultMarked c code end_ (s.faultNext c code) := rfl

theorem State.faultWritten_rd (code end_ : Nat) (r : Reg) (i j : Nat) : (s.faultWritten c code end_).rd r i j =
    (s.faultMarked c code end_ (s.faultNext c code)).rd r i j := by
  rw [State.faultWritten_eq]
  split
  · exact State.arm_rd _ _ _ _ _ _
  · rfl

theorem State.faultMarked_paired (code end_ next : Nat) : (s.faultMarked c code end_ next).paired = s.paired := by
  have hkept : (s.faultMarked c code end_ next).rd .ctlPairaddr = s.rd .ctlPairaddr := by
    have hne {r : Reg} {j : Nat} (h : r.OfChannel j) : Reg.ctlPairaddr.addr 0 0 ≠ r.addr c j :=
      Reg.addr_ne_of_channel c h (by decide)
    unfold State.faultMarked
    dsimp only
    rw [State.bump_rd_of_ne _ _ (hne (by decide)), State.put_rd_of_ne _ _ _ (hne (by decide)),
      State.wr_rd_of_ne _ _ (hne (by decide)), State.put_rd_of_ne _ _ _ (hne (by decide)),
      State.put_rd_of_ne _ _ _ (hne (by decide)), State.gateOff_rd_of_outside _ _ _ (by decide)]
  exact State.is_of_rd hkept

theorem State.faultMarked_code {code : Nat} (end_ next : Nat) (hcode : code < 256) :
    (s.faultMarked c code end_ next).get F.PWR_CH_FAULT_CODE c = code := by
  unfold State.faultMarked
  dsimp only
  rw [State.bump_get_of_beside _ _ (by decide), State.put_get_of_beside _ _ (by decide), State.wr_get_of_beside _ _ (by decide),
    State.put_get_of_apart _ _ (by decide), State.put_get_self _ _ _ _ _ (by decide) (by decide)]
  exact Nat.mod_eq_of_lt hcode

/-- The flags of a channel that a turn-off leaves as the gate's discharge left them. -/
theorem State.faultMarked_stat (code end_ next : Nat) {f : Fld} (hf : Fld.Apart F.PWR_CH_STAT_CODE f) :
    (s.faultMarked c code end_ next).get f c = (s.gateOff c next).get f c := by
  have hreg : f.reg = .pwrChStat := hf.1
  unfold State.faultMarked
  dsimp only
  rw [State.bump_get_of_beside _ _ (by rw [hreg]; decide), State.put_get_of_apart _ _ hf,
    State.wr_get_of_beside _ _ (by rw [hreg]; decide), State.put_get_of_beside _ _ (by rw [hreg]; decide),
    State.put_get_of_beside _ _ (by rw [hreg]; decide)]

/-- What the channel's registers and its retry timer hold after a turn-off of an unpaired hub: what was written. -/
theorem State.faultOff_keeps {code end_ : Nat} (hable : s.faultable c = true) (hpair : s.paired = false) :
    (∀ r : Reg, r.addr c 0 < 0xA00000 → (s.faultOff c code end_).rd r c = (s.faultWritten c code end_).rd r c) ∧
    (s.faultOff c code end_).deadline (.retry c) = (s.faultWritten c code end_).deadline (.retry c) := by
  have hunpaired : (s.faultWritten c code end_).paired = false := by
    have hsame : (s.faultWritten c code end_).rd .ctlPairaddr = (s.faultMarked c code end_ (s.faultNext c code)).rd .ctlPairaddr :=
      State.faultWritten_rd _ _ _ _ _
    rw [← hpair, ← State.faultMarked_paired (s := s) (c := c) code end_ (s.faultNext c code)]
    exact State.is_of_rd hsame
  have hapart : Timer.ApartFromFaults (.retry c) := ⟨by simp, by simp, by simp⟩
  rw [State.faultOff_of_unpaired hable hunpaired]
  split
  · exact ⟨fun r hr => State.setLive_rd_of_lt _ hr _ _, State.setLive_deadline _ hapart _ _⟩
  · exact ⟨fun r hr => State.raise_rd_of_lt _ hr _ _, State.raise_deadline _ hapart _ _⟩

/-- The records of a turn-off. -/
theorem State.faultOff_shows {code : Nat} (end_ : Nat) (hable : s.faultable c = true) (hpair : s.paired = false) (hcode : code ≤ 9)
    (hnext : s.faultNext c code < 16) : (s.faultOff c code end_).get F.PWR_CH_FAULT_CODE c = code ∧
      (s.faultOff c code end_).is F.PWR_CH_STAT_PG c = false ∧ (s.faultOff c code end_).pst c = s.faultNext c code := by
  obtain ⟨hregs, -⟩ := State.faultOff_keeps (code := code) (end_ := end_) hable hpair
  have hchannel : c.val < 16 := c.isLt
  have hfault : (s.faultOff c code end_).rd .pwrChFault c = (s.faultMarked c code end_ (s.faultNext c code)).rd .pwrChFault c :=
    (hregs .pwrChFault (by show 0x800024 + c.val * 0x100 + 0 * 0 < 0xA00000; omega)).trans (State.faultWritten_rd _ _ _ _ _)
  have hstat : (s.faultOff c code end_).rd .pwrChStat c = (s.faultMarked c code end_ (s.faultNext c code)).rd .pwrChStat c :=
    (hregs .pwrChStat (by show 0x800020 + c.val * 0x100 + 0 * 0 < 0xA00000; omega)).trans (State.faultWritten_rd _ _ _ _ _)
  refine ⟨?code, ?pg, ?state⟩
  case code =>
    exact (State.get_of_rd hfault).trans (State.faultMarked_code end_ _ (Nat.lt_of_le_of_lt hcode (by decide)))
  case pg =>
    refine Eq.trans ?_ (State.gateOff_pg (s := s) (c := c) (s.faultNext c code))
    exact congrArg (· == 1) ((State.get_of_rd hstat).trans (State.faultMarked_stat code end_ _ (by decide)))
  case state =>
    exact ((State.get_of_rd hstat).trans (State.faultMarked_stat code end_ _ (by decide))).trans (State.gateOff_pst hnext)

end

/-- The state after a turn-off by its code (R321). -/
theorem State.faultNext_of_code {s : State} {c : Fin 16} {code : Nat} (hon : s.pchOn c = true ∨ s.pst c = pcParked) :
    (code = fcVinUv ∨ code = fcVinOv → s.faultNext c code = pcHeld) ∧ (code = fcGate → s.faultNext c code = pcLatched) ∧
    (code < fcVinUv → code ≠ fcGate → s.get F.PWR_CH_CFG_RETRY_MAX c ≤ s.get F.PWR_CH_FAULT_RETRY_CNT c →
      s.faultNext c code = pcLatched) ∧
    (code < fcVinUv → code ≠ fcGate → s.get F.PWR_CH_FAULT_RETRY_CNT c < s.get F.PWR_CH_CFG_RETRY_MAX c →
      s.faultNext c code = pcRetryWait) ∧ s.faultNext c code < 16 := by
  rw [State.faultNext_of_on code hon]
  refine ⟨fun hvin => ?vin, fun hgate => ?gate, fun hlow _ hspent => ?spent, fun hlow hgate hleft => ?left, ?small⟩
  case vin => rw [if_neg (fun h => hvin.elim h.1 h.2.1), if_pos hvin]
  case gate => rw [hgate, if_pos ⟨by decide, by decide, .inl rfl⟩]
  case spent =>
    have huv : code ≠ fcVinUv := Nat.ne_of_lt hlow
    have hov : code ≠ fcVinOv := Nat.ne_of_lt (Nat.lt_trans hlow (by decide))
    rw [if_pos ⟨huv, hov, .inr hspent⟩]
  case left =>
    have huv : code ≠ fcVinUv := Nat.ne_of_lt hlow
    have hov : code ≠ fcVinOv := Nat.ne_of_lt (Nat.lt_trans hlow (by decide))
    rw [if_neg (fun h => h.2.2.elim hgate (Nat.not_le.2 hleft)), if_neg (not_or.2 ⟨huv, hov⟩)]
  case small =>
    split
    · decide
    split <;> decide

/-- Turning a gate off takes no time. -/
theorem State.gateOff_now (s : State) (c st : Nat) : (s.gateOff c st).now = s.now := by
  have hstop : (s.stopLimit c).now = s.now := by
    unfold State.stopLimit
    dsimp only
    split <;> rfl
  have hdrop : ((s.stopLimit c).pgDrop c).now = (s.stopLimit c).now := by
    unfold State.pgDrop
    dsimp only
    split <;> rfl
  unfold State.gateOff State.gateTimers State.setPst
  dsimp only
  rw [State.put_now, State.setPch_now, State.disarm_now, State.disarm_now, State.disarm_now, hdrop, hstop]

/-- A turn-off that leaves a retry waits 10 s for it. -/
theorem State.faultOff_retry {s : State} {c : Fin 16} {code : Nat} (end_ : Nat) (hable : s.faultable c = true)
    (hpair : s.paired = false) (hnext : s.faultNext c code = pcRetryWait) :
    (s.faultOff c code end_).deadline (.retry c) = some (s.now + 10000000000) := by
  have hnow : (s.faultMarked c code end_ (s.faultNext c code)).now = s.now := by
    unfold State.faultMarked
    dsimp only
    rw [State.bump_now, State.put_now, State.wr_now, State.put_now, State.put_now, State.gateOff_now]
  rw [(State.faultOff_keeps hable hpair).2, State.faultWritten_eq, if_pos hnext, State.arm_deadline_self, hnow]

/-! ### The events of a channel -/

section
variable {s u : State} {c : Nat}

theorem State.ftExpire_of_expire (hu : s.expire (.ft c) = some u) : s.ftExpire c = u.faultOff c (u.episodeCode c) 1 := by
  simp only [State.ftExpire, hu]

theorem State.rampTimeout_of_expire (hu : s.expire (.ramp c) = some u) : s.rampTimeout c = u.faultOff c fcRamp 0 := by
  simp only [State.rampTimeout, hu]

theorem State.gateFail_of_driving (hup : s.pwrUp = true) (hdrive : s.pst c = pcParked ∨ s.pchOn c = true ∧ s.pwrRight = true) :
    s.gateFail c = s.faultOff c fcGate 0 := by
  have hdriving : s.pchDriving c = true := by
    rcases hdrive with h | ⟨hon, hright⟩
    · simp [State.pchDriving, h]
    · simp [State.pchDriving, hon, hright]
  simp [State.gateFail, hup, hdriving]

theorem State.stuckOn_of_off (hup : s.pwrUp = true) (hoff : s.pchOn c = false) (hpark : s.pst c ≠ pcParked)
    (hhanded : (s.pch c).handed = false) (htrack : s.tracking = false) : s.stuckOn c =
      ((((s.put F.PWR_CH_STAT_CODE fcStuck c).setPst c pcLatched).disarm (.retry c)).channelOrder c 3 fcStuck).raise 0x84 c := by
  unfold State.stuckOn
  rw [if_neg (by simp [hup, hoff, hpark, hhanded, htrack])]

theorem State.openLoad_of_on (hup : s.pwrUp = true) (hst : s.pst c = pcOn) (hset : s.get F.PWR_CH_SNS_OPEN_MA c ≠ 0)
    (hflag : s.is F.PWR_CH_STAT_OPEN_LOAD c = false) : s.openLoad c =
      ((s.put F.PWR_CH_STAT_OPEN_LOAD 1 c).put F.PWR_CH_STAT_CODE fcOpen c).setLive 0x86 c := by
  unfold State.openLoad
  rw [if_neg (by simp [hup, hst, hset, hflag])]

/-- The channel with its thermal model moved on by one update. -/
def State.warmed (s : State) (c : Nat) (dT est : Int) : State :=
  (s.setPch c { s.pch c with dT := dT }).put F.PWR_CH_MEAS2_T_EST (BitVec.ofInt 16 est).toNat c

section
variable {dT est : Int} (hup : s.pwrUp = true)
  (hdT : dT = (s.pch c).dT + (s.heat c - (s.pch c).dT) / (10 * s.get F.PWR_CH_THERM0_TAU c : Nat))
  (hest : est = s.tRef c + dT / 125000000)
include hup hdT hest

theorem State.thermal_cool (hcool : est < 8 * ((s.warmed c dT est).get F.PWR_CH_THERM1_TFET_MAX c : Int))
    (hmode : (s.warmed c dT est).get F.PWR_CH_CFG_TMP_MODE c = 0) : s.thermal c = s.warmed c dT est := by
  unfold State.thermal
  rw [if_neg (by simp [hup])]
  extract_lets x d e w top hot
  have hw : w = s.warmed c dT est := by rw [hest, hdT]; rfl
  have hnot : hot = false := by
    have hbelow : ¬ e ≥ top := by
      have he : e = est := by rw [hest, hdT]
      unfold top
      rw [hw, he]
      exact Int.not_le.2 hcool
    unfold hot
    rw [decide_eq_false hbelow, hw, hmode]
    rfl
  rw [hnot, hw]
  rfl

theorem State.thermal_hot (hhot : 8 * ((s.warmed c dT est).get F.PWR_CH_THERM1_TFET_MAX c : Int) ≤ est)
    (hlim : (s.warmed c dT est).is F.PWR_CH_STAT_LIMITING c = false) :
    s.thermal c = (s.warmed c dT est).faultOff c fcTemp 2 := by
  unfold State.thermal
  rw [if_neg (by simp [hup])]
  extract_lets x d e w top hot
  have hw : w = s.warmed c dT est := by rw [hest, hdT]; rfl
  have hover : hot = true := by
    have habove : e ≥ top := by
      have he : e = est := by rw [hest, hdT]
      unfold top
      rw [hw, he]
      exact hhot
    unfold hot
    rw [decide_eq_true habove, Bool.true_or]
  rw [hover, hw, hlim]
  rfl
end

/-- A retry that ends in a channel that waits for it and does not track: after OVERTEMP the FET has to be cool (R321). -/
theorem State.retryEnd_of_waiting (hu : s.expire (.retry c) = some u) (hst : u.pst c = pcRetryWait) (htrack : u.tracking = false) :
    s.retryEnd c = if u.get F.PWR_CH_FAULT_CODE c = fcTemp ∧ u.cool c = false then u.arm (.retry c) 10000
      else (((u.put F.PWR_CH_FAULT_RETRY_CNT (u.get F.PWR_CH_FAULT_RETRY_CNT c + 1) c).bump .pwrCnt c 2).startRamp
        c).channelOrder c 2 0 := by
  simp only [State.retryEnd, hu, hst, htrack, ne_eq, not_true_eq_false, if_false, Bool.false_eq_true, false_or, Bool.not_eq_true']

theorem State.vinOut_of_up (hup : s.pwrUp = true) (ov : Bool) : s.vinOut ov = (List.range 16).foldl (fun s c => s.faultOff c
    (if ov then fcVinOv else fcVinUv) 0) (s.put (if ov then F.PWR_STAT_VIN_OV else F.PWR_STAT_VIN_UV) 1) := by
  unfold State.vinOut
  rw [if_neg (by simp [hup])]

theorem State.vinBack_of_up (hup : s.pwrUp = true) : s.vinBack = ((List.range 16).foldl (fun s c =>
    (s.clearLive 0x87 c).clearLive 0x88 c) ((s.put F.PWR_STAT_VIN_OV 0).put F.PWR_STAT_VIN_UV 0)).pwrSettle := by
  unfold State.vinBack
  rw [if_neg (by simp [hup])]

theorem State.retryReset_of_expire (hu : s.expire (.retryReset c) = some u) :
    s.retryReset c = u.put F.PWR_CH_FAULT_RETRY_CNT 0 c := by
  simp only [State.retryReset, hu]

end

/-! ### The statement -/

/-- Settles O32, event by event. -/
theorem fieldPowerFaults : Obligations.FieldPowerFaults := by
  intro s u c
  refine ⟨fun hu => ?ftExpire, fun hup hdrive => ?gateFail, fun hu => ?rampTimeout,
    fun dT est hup hdT hest hu => ⟨fun hcool hmode => ?cool, fun hhot hlim => ?hot⟩,
    fun code end_ htrack hon hpair hcode _ => ?turnOff, fun hup hoff hpark hhanded htrack => ?stuck,
    fun hup hst hset hflag => ?openLoad, fun hu hst htrack => ⟨fun hready => ?retry, fun hcode hwarm => ?waits⟩,
    fun ov hup => ?vinOut, fun hup => ?vinBack, fun hu => ?clearCount⟩
  case ftExpire => exact next_done_congr (congrArg State.pwrAfterPark (State.ftExpire_of_expire hu))
  case gateFail => exact next_done_congr (congrArg State.pwrAfterPark (State.gateFail_of_driving hup hdrive))
  case rampTimeout => exact next_done_congr (State.rampTimeout_of_expire hu)
  case cool =>
    subst hu
    exact next_done_congr (congrArg State.pwrAfterPark (State.thermal_cool hup hdT hest hcool hmode))
  case hot =>
    subst hu
    exact next_done_congr (congrArg State.pwrAfterPark (State.thermal_hot hup hdT hest hhot hlim))
  case turnOff =>
    have hable : s.faultable c = true := State.faultable_of_on htrack hon
    obtain ⟨hvin, hgate, hspent, hleft, hsmall⟩ := State.faultNext_of_code (code := code) hon
    obtain ⟨hshown, hpg, hst⟩ := State.faultOff_shows end_ hable hpair hcode.2 hsmall
    rw [hst]
    exact ⟨hshown, hpg, hvin, hgate, hspent, fun hlow hne hcount =>
      ⟨hleft hlow hne hcount, State.faultOff_retry end_ hable hpair (hleft hlow hne hcount)⟩⟩
  case stuck => exact next_done_congr (congrArg State.pwrAfterPark (State.stuckOn_of_off hup hoff hpark hhanded htrack))
  case openLoad => exact next_done_congr (State.openLoad_of_on hup hst hset hflag)
  case retry =>
    refine next_done_congr ((State.retryEnd_of_waiting hu hst htrack).trans (if_neg ?_))
    rintro ⟨hcode, hwarm⟩
    rcases hready with h | h
    · exact h hcode
    · rw [hwarm] at h
      exact Bool.false_ne_true h
  case waits =>
    refine does_of_eq rfl ((State.retryEnd_of_waiting hu hst htrack).trans (if_pos ⟨hcode, hwarm⟩))
      ⟨(State.arm_get _ _ _ _ _ _).trans hst, State.arm_deadline_self _ _ _⟩
  case vinOut => exact next_done_congr (congrArg State.pwrAfterPark (State.vinOut_of_up hup ov))
  case vinBack => exact next_done_congr (State.vinBack_of_up hup)
  case clearCount =>
    exact does_of_eq rfl (State.retryReset_of_expire hu) (State.put_get_self _ _ _ _ _ (by decide) (by decide))

end Sys2Proof.Machine
end

section
/-!
What a raise leaves alone, register by register and part by part (R369, R373, R386, R387).
-/
namespace Sys2Proof.Machine

/-! ### Registers -/

/-- An offset at which neither the log nor the counts of pulses and EVENTs stand. -/
abbrev ApartFromRecords (a : Nat) : Prop :=
  a ≠ Reg.mgtLogSeq.addr 0 0 ∧ a ≠ Reg.mgtCnt.addr 6 0 ∧ a ≠ Reg.fltCnt.addr 3 0 ∧ a ≠ Reg.fltCnt.addr 4 0 ∧ a ≠ Reg.fltCnt.addr 5 0

/-- An offset that no raise of a source writes: neither a record, nor the count of raises, nor a register of a source. -/
abbrev ApartFromRaises (a : Nat) : Prop :=
  ApartFromRecords a ∧ a ≠ Reg.fltCnt.addr 0 0 ∧ (a < 0xB01000 ∨ 0xB02000 ≤ a)

section
variable (s : State) {r : Reg} {i j : Nat}

section
variable (h : ApartFromRecords (r.addr i j))
include h

theorem State.mirrorOne_rd_of_apart : s.mirrorOne.rd r i j = s.rd r i j := by
  obtain ⟨-, hskip, -, -, -⟩ := h
  unfold State.mirrorOne
  split
  · rfl
  dsimp only
  split
  · exact State.bump_rd_of_ne _ _ hskip
  · rfl

theorem State.log_rd_of_apart (audit : Bool) (cls origin source code : Nat) (who : Who) (data : List Word) :
    (s.log audit cls origin source code who data).rd r i j = s.rd r i j := by
  have hseq : r.addr i j ≠ Reg.mgtLogSeq.addr 0 0 := h.1
  unfold State.log
  split
  · rfl
  dsimp only
  refine (State.wr_rd_of_ne _ _ hseq).trans ?_
  split
  · exact s.mirrorOne_rd_of_apart h
  · rfl

theorem State.faultRecord_rd_of_apart (src : Nat) (raised : Bool) : (s.faultRecord src raised).rd r i j = s.rd r i j := by
  unfold State.faultRecord
  split
  · rfl
  dsimp only
  split
  · rfl
  · exact s.log_rd_of_apart h _ _ _ _ _ _ _

theorem State.faultPulse_rd_of_apart : s.faultPulse.rd r i j = s.rd r i j := by
  obtain ⟨-, -, hmerged, -, -⟩ := h
  unfold State.faultPulse
  split
  · rfl
  split
  · rfl
  split
  · exact State.bump_rd_of_ne _ _ hmerged
  · rfl

theorem State.faultEvent_rd_of_apart (kind src reaction : Nat) : (s.faultEvent kind src reaction).rd r i j = s.rd r i j := by
  obtain ⟨-, -, -, hsent, -⟩ := h
  unfold State.faultEvent
  split
  · rfl
  · exact State.bump_rd_of_ne (s.emit _) _ hsent

theorem State.raiseEvent_rd_of_apart (src : Nat) : (s.raiseEvent src).rd r i j = s.rd r i j := by
  have hheld : r.addr i j ≠ Reg.fltCnt.addr 5 0 := h.2.2.2.2
  unfold State.raiseEvent
  split
  · rfl
  dsimp only
  split
  · rfl
  split
  · exact State.bump_rd_of_ne _ _ hheld
  · exact State.faultEvent_rd_of_apart _ h _ _ _
end

/-- The sources of the table are numbered below 0x100. -/
theorem fltRow_src_lt {src : Nat} (h : (fltRow src).isSome = true) : src < 256 := by
  unfold fltRow at h
  rw [Option.isSome_map, List.find?_isSome] at h
  obtain ⟨e, he, hsrc⟩ := h
  have hall : ∀ e ∈ fltTable, e.1 < 256 := by decide
  rw [← eq_of_beq hsrc]
  exact hall e he

variable (h : ApartFromRaises (r.addr i j)) {src : Nat} (hsrc : src < 256)
include h hsrc

/-- The registers of a source lie between 0xB01000 and 0xB02000. -/
theorem Reg.addr_ne_of_source {r' : Reg} (hr : r'.row.s1 = 0x10 ∧ 0xB01000 ≤ r'.row.base ∧ r'.row.base < 0xB01010) :
    r.addr i j ≠ r'.addr src 0 := by
  obtain ⟨hstride, hlow, hhigh⟩ := hr
  have haddr : r'.addr src 0 = r'.row.base + src * r'.row.s1 + 0 * r'.row.s2 := rfl
  obtain ⟨-, -, hout⟩ := h
  rw [haddr, hstride]
  omega

theorem State.putSource_rd {f : Fld} (v : Nat)
    (hr : f.reg.row.s1 = 0x10 ∧ 0xB01000 ≤ f.reg.row.base ∧ f.reg.row.base < 0xB01010) :
    (s.put f v src).rd r i j = s.rd r i j := s.put_rd_of_ne f v (Reg.addr_ne_of_source h hsrc hr)

theorem State.raiseCore_rd_of_apart (inst : Nat) : (s.raiseCore src inst).rd r i j = s.rd r i j := by
  have hrecords : ApartFromRecords (r.addr i j) := h.1
  have hcount : r.addr i j ≠ Reg.fltCnt.addr 0 0 := h.2.1
  unfold State.raiseCore
  extract_lets reg instanced flags raised counted c pulsed flags' graced
  have hinstanced : instanced.rd r i j = s.rd r i j := by
    refine s.wr_rd_of_ne _ (Reg.addr_ne_of_source h hsrc ?_)
    unfold reg
    split <;> decide
  have hcounted : counted.rd r i j = s.rd r i j := by
    unfold counted
    rw [State.bump_rd_of_ne _ _ hcount]
    refine Eq.trans ?_ hinstanced
    unfold State.sat
    dsimp only
    split
    · rw [State.putSource_rd _ h hsrc _ (by decide), State.putSource_rd _ h hsrc _ (by decide),
        State.putSource_rd _ h hsrc _ (by decide)]
      exact State.setFlt_rd instanced _ r i j
    · rw [State.putSource_rd _ h hsrc _ (by decide), State.putSource_rd _ h hsrc _ (by decide)]
      exact State.setFlt_rd instanced _ r i j
  have hpulsed : pulsed.rd r i j = s.rd r i j := by
    unfold pulsed
    split
    · exact (counted.faultPulse_rd_of_apart hrecords).trans hcounted
    · exact hcounted
  have hgraced : graced.rd r i j = s.rd r i j := by
    unfold graced
    split
    · exact (State.setFlt_rd pulsed _ r i j).trans hpulsed
    split
    · split
      · exact hpulsed
      split
      · exact (State.setFlt_rd pulsed _ r i j).trans hpulsed
      · rw [State.arm_rd, State.putSource_rd _ h hsrc _ (by decide)]
        exact hpulsed
    · exact hpulsed
  rw [State.updateAlive_rd, State.faultRecord_rd_of_apart _ hrecords, State.raiseEvent_rd_of_apart _ hrecords, hgraced]

omit hsrc
theorem State.raise_rd_of_apart (src inst : Nat) : (s.raise src inst).rd r i j = s.rd r i j := by
  unfold State.raise
  split
  next hcan =>
    have hrow : (fltRow src).isSome = true := by
      unfold State.canRaise at hcan
      simp only [Bool.and_eq_true] at hcan
      exact hcan.1.1.1.1.1
    exact s.raiseCore_rd_of_apart h (fltRow_src_lt hrow) inst
  · rfl
end

/-! ### The other parts of the state -/

/-- Time, islands, mode, fuses and the cores' halt are those of `s`. -/
structure KeepsCourse (s t : State) : Prop where
  now : t.now = s.now
  isl : t.isl = s.isl
  mode : t.mode = s.mode
  boot : t.boot = s.boot
  halted : t.mgt.halted = s.mgt.halted

theorem KeepsCourse.refl (s : State) : KeepsCourse s s := ⟨rfl, rfl, rfl, rfl, rfl⟩

theorem KeepsCourse.trans {s t u : State} (hst : KeepsCourse s t) (htu : KeepsCourse t u) : KeepsCourse s u :=
  ⟨htu.now.trans hst.now, htu.isl.trans hst.isl, htu.mode.trans hst.mode, htu.boot.trans hst.boot, htu.halted.trans hst.halted⟩

section
variable (s : State)

theorem State.wr_keeps (r : Reg) (i j : Nat) (w : Word) : KeepsCourse s (s.wr r i j w) := ⟨rfl, rfl, rfl, rfl, rfl⟩

theorem State.put_keeps (f : Fld) (v i j : Nat) : KeepsCourse s (s.put f v i j) := s.wr_keeps _ _ _ _

theorem State.bump_keeps (r : Reg) (i j n : Nat) : KeepsCourse s (s.bump r i j n) := s.wr_keeps _ _ _ _

theorem State.arm_keeps (t : Timer) (d : Nat) : KeepsCourse s (s.arm t d) := ⟨rfl, rfl, rfl, rfl, rfl⟩

theorem State.disarm_keeps (t : Timer) : KeepsCourse s (s.disarm t) := ⟨rfl, rfl, rfl, rfl, rfl⟩

theorem State.setFlt_keeps (x : FltS) : KeepsCourse s { s with flt := x } := ⟨rfl, rfl, rfl, rfl, rfl⟩

theorem State.setFreeIx_keeps (n : Nat) : KeepsCourse s { s with freeIx := n } := ⟨rfl, rfl, rfl, rfl, rfl⟩

theorem State.emit_keeps (f : Frame) (p : Nat) (slot : Option Nat) : KeepsCourse s (s.emit f p slot) := ⟨rfl, rfl, rfl, rfl, rfl⟩

theorem State.sat_keeps (f : Fld) (i j : Nat) : KeepsCourse s (s.sat f i j) := by
  unfold State.sat
  dsimp only
  split
  · exact s.put_keeps _ _ _ _
  · exact .refl s

theorem State.faultPulse_keeps : KeepsCourse s s.faultPulse := by
  unfold State.faultPulse State.freeIn
  dsimp only
  split
  · exact .refl s
  split
  · refine KeepsCourse.trans ?_ (State.arm_keeps _ _ _)
    exact ⟨rfl, rfl, rfl, rfl, rfl⟩
  split
  · exact s.bump_keeps _ _ _ _
  · exact s.setFlt_keeps _

theorem State.faultEvent_keeps (kind src reaction : Nat) : KeepsCourse s (s.faultEvent kind src reaction) := by
  unfold State.faultEvent
  split
  · exact .refl s
  · exact ((s.emit_keeps _ _ _).trans (State.bump_keeps _ _ _ _ _)).trans (State.setFlt_keeps _ _)

theorem State.raiseEvent_keeps (src : Nat) : KeepsCourse s (s.raiseEvent src) := by
  unfold State.raiseEvent
  split
  · exact .refl s
  extract_lets hold counts counted sent stamps
  have hcounted : KeepsCourse s counted := s.setFlt_keeps _
  split
  · exact hcounted
  split
  · exact hcounted.trans (counted.bump_keeps _ _ _ _)
  · exact (hcounted.trans (counted.faultEvent_keeps _ _ _)).trans (sent.setFlt_keeps _)

theorem State.mirrorOne_keeps : KeepsCourse s s.mirrorOne := by
  unfold State.mirrorOne
  split
  · exact .refl s
  dsimp only
  split
  · exact ⟨rfl, rfl, rfl, rfl, rfl⟩
  · split <;> exact ⟨rfl, rfl, rfl, rfl, rfl⟩

theorem State.log_keeps (audit : Bool) (cls origin source code : Nat) (who : Who) (data : List Word) :
    KeepsCourse s (s.log audit cls origin source code who data) := by
  unfold State.log
  split
  · exact .refl s
  extract_lets kept l n t r logs noted
  have hkept : KeepsCourse s kept := by
    unfold kept
    split
    · exact s.mirrorOne_keeps
    · exact .refl s
  have hnoted : KeepsCourse kept noted := ⟨rfl, rfl, rfl, rfl, rfl⟩
  exact (hkept.trans hnoted).trans (noted.wr_keeps _ _ _ _)

theorem State.faultRecord_keeps (src : Nat) (raised : Bool) : KeepsCourse s (s.faultRecord src raised) := by
  have hrec (u : State) (x : Tab (Nat × Nat)) : KeepsCourse u { u with mgt := { u.mgt with raiseRec := x } } :=
    ⟨rfl, rfl, rfl, rfl, rfl⟩
  unfold State.faultRecord
  split
  · exact .refl s
  dsimp only
  split
  · exact hrec s _
  · exact (s.log_keeps _ _ _ _ _ _ _).trans (hrec _ _)

theorem State.updateAlive_keeps : KeepsCourse s s.updateAlive := by
  unfold State.updateAlive State.freeIn
  dsimp only
  split
  · split
    · exact .refl s
    · exact (s.setFreeIx_keeps _).trans (State.arm_keeps _ _ _)
  · exact (s.disarm_keeps _).trans (State.setFlt_keeps _ _)

theorem State.raiseCore_keeps (src inst : Nat) : KeepsCourse s (s.raiseCore src inst) := by
  unfold State.raiseCore
  extract_lets reg instanced flags raised counted c pulsed flags' graced
  have hcounted : KeepsCourse s counted :=
    (((((s.wr_keeps _ _ _ _).trans (instanced.setFlt_keeps _)).trans (State.put_keeps _ _ _ _ _)).trans
      (State.put_keeps _ _ _ _ _)).trans (State.sat_keeps _ _ _ _)).trans (State.bump_keeps _ _ _ _ _)
  have hpulsed : KeepsCourse counted pulsed := by
    unfold pulsed
    split
    · exact counted.faultPulse_keeps
    · exact .refl counted
  have hgraced : KeepsCourse pulsed graced := by
    unfold graced
    split
    · exact pulsed.setFlt_keeps _
    split
    · split
      · exact .refl pulsed
      split
      · exact pulsed.setFlt_keeps _
      · exact (pulsed.put_keeps _ _ _ _).trans (State.arm_keeps _ _ _)
    · exact .refl pulsed
  exact ((((hcounted.trans hpulsed).trans hgraced).trans (graced.raiseEvent_keeps src)).trans (State.faultRecord_keeps _ src true)).trans
    (State.updateAlive_keeps _)

theorem State.raise_keeps (src inst : Nat) : KeepsCourse s (s.raise src inst) := by
  unfold State.raise
  split
  · exact s.raiseCore_keeps src inst
  · exact .refl s
end

end Sys2Proof.Machine
end

section
/-!
The rings, timers and resets of the host bridge (R291, R298-R308).
-/
namespace Sys2Proof.Machine

/-! ### Rings and deliveries (R306, R307) -/

section
variable {s u : State}

theorem State.hostTxTail_of_up (hup : s.pcieUp = true) (t : Nat) (ds : List TxDesc) : s.hostTxTail t ds = s.txTail t ds := if_pos hup

theorem State.hostRxTail_of_up (hup : s.pcieUp = true) (q t : Nat) (bs : List RxDesc) : s.hostRxTail q t bs = s.rxTail q t bs :=
  if_pos hup

/-- Buffers are posted to a ring that is enabled; the tail moves in any case. -/
theorem State.rxTail_shows (s : State) (q : Nat) {t : Nat} (bs : List RxDesc) (ht : t < 2 ^ 12) :
    (s.rxTail q t bs).get F.HBR_RXR_TAIL_TAIL q = t ∧
    tget [] (s.rxTail q t bs).hbr.rx q = tget [] s.hbr.rx q ++ (if s.is F.HBR_RXR_CFG_ENABLE q then bs else []) := by
  have htail : (s.put F.HBR_RXR_TAIL_TAIL t q).get F.HBR_RXR_TAIL_TAIL q = t :=
    (s.put_get_self _ _ _ _ (by decide) (by decide)).trans (Nat.mod_eq_of_lt ht)
  have henable : (s.put F.HBR_RXR_TAIL_TAIL t q).is F.HBR_RXR_CFG_ENABLE q = s.is F.HBR_RXR_CFG_ENABLE q :=
    s.put_is_of_beside t (by decide)
  unfold State.rxTail
  dsimp only
  rw [henable]
  split
  next hoff =>
    have hnot : s.is F.HBR_RXR_CFG_ENABLE q = false := by simpa using hoff
    refine ⟨htail, ?_⟩
    rw [hnot, if_neg Bool.false_ne_true, List.append_nil, State.put_hbr]
  next hon =>
    have hyes : s.is F.HBR_RXR_CFG_ENABLE q = true := by simpa using hon
    refine ⟨(State.setHbr_get _ _ _ _ _).trans htail, ?_⟩
    rw [hyes, if_pos rfl]
    exact tget_tset_self _ _ _ _

/-- A unit of port 5 whose frame holds no uncorrectable word, once it has left its queue as `u`. -/
theorem State.rxDeliver_of_head {n : Nat} {l : Link} {v : VUnit} (hup : s.islandUp 19 = true) (hhead : s.rxHead = some (n, l, v))
    (hue : s.ueOf v = []) (hu : u = (s.unlink n l.uid l.loupe).1.meetUnit v) : s.rxDeliver =
      if !u.is F.HBR_STAT_LINK_UP then u.bump .hbrRxqDrop (s.rxQueue v l)
      else
        let w := if isPostedReply v l then u.postedReply v.frame else u
        if w.isTrkReply v l then (if isPostedReply v l then w else w.trkReply v.frame v.authOk)
        else if !w.is F.HBR_RXR_CFG_ENABLE (s.rxQueue v l) || w.rxFree (s.rxQueue v l) == 0 then w.bump .hbrRxqDrop (s.rxQueue v l)
        else if l.loupe.isNone && v.frame.session != 0 && (w.slotOf v.frame.session).isSome && !v.authOk then w.bump .hbrCnt 9
        else w.rxWrite (s.rxQueue v l) v l.loupe.isSome := by
  unfold State.rxDeliver
  rw [if_neg (by simp [hup]), hhead, hu]
  dsimp only
  rw [hue, if_neg (by simp)]

/-! ### Timers of the bridge (R298-R303, R308) -/

theorem State.intModEnd_of_expire {q : Nat} (hu : s.expire (.intMod q) = some u) : s.intModEnd q =
    if u.hbr.intWait.contains q then
      ((u.setHbr { u.hbr with intWait := u.hbr.intWait.filter (· != q) }).msi (8 + q)).arm (.intMod q)
        (1000 * u.get F.HBR_RXR_CFG_INT_US q)
    else u := by
  simp only [State.intModEnd, hu]

/-- A request of a vector leaves who waits, the registers and time alone; a vector that is not masked is sent. -/
theorem State.msi_shows (s : State) (v : Nat) : (s.msi v).hbr.intWait = s.hbr.intWait ∧ (s.msi v).now = s.now ∧
    (s.msixMasked v = false → (s.msi v).hbr.out = s.hbr.out ++ [.msi v]) := by
  unfold State.msi
  split
  next hmasked => exact ⟨rfl, rfl, fun hopen => absurd hmasked (by simp [hopen])⟩
  next => exact ⟨rfl, rfl, fun _ => rfl⟩

/-- A vector that waited for moderation is requested, and its moderation begins anew. -/
theorem State.intModEnd_of_waiting {q : Nat} (hu : s.expire (.intMod q) = some u) (hq : q ∈ u.hbr.intWait) :
    q ∉ (s.intModEnd q).hbr.intWait ∧
    (s.intModEnd q).deadline (.intMod q) = some (u.now + 1000 * u.get F.HBR_RXR_CFG_INT_US q) ∧
    (u.msixMasked (8 + q) = false → (s.intModEnd q).hbr.out = u.hbr.out ++ [.msi (8 + q)]) := by
  rw [State.intModEnd_of_expire hu, if_pos (List.contains_iff_mem.2 hq)]
  obtain ⟨hwait, hnow, hout⟩ := State.msi_shows (u.setHbr { u.hbr with intWait := u.hbr.intWait.filter (· != q) }) (8 + q)
  refine ⟨?_, ?_, fun hopen => ?_⟩
  · rw [State.arm_hbr, hwait]
    exact fun hmem => by simp [State.setHbr] at hmem
  · rw [State.arm_deadline_self, hnow, State.setHbr_now]
  · rw [State.arm_hbr]
    exact hout hopen

theorem State.ncRetry_of_expire {t : Nat} {e : HbrTrk} (hu : s.expire (.ncRetry t) = some u) (he : tfind u.hbr.trk t = some e) :
    s.ncRetry t = ((u.setHbr { u.hbr with trk := tset u.hbr.trk t { e with retries := e.retries + 1, waits := true } }).bump
      .hbrCnt 5).emit e.cmd.frame 5 e.cmd.slot := by
  simp only [State.ncRetry, hu, he]

/-- The timeout of a command starts when its first byte leaves. -/
theorem State.startTimeout_of_waiting {t : Nat} {e : HbrTrk} (he : tfind s.hbr.trk t = some e) (hwaits : e.waits = true) :
    (s.startTimeout t).deadline (.cmdTimeout 5 t) = some (s.now + 1000 * s.get F.CTL_CMDTO_TIMEOUT_US) ∧
    tfind (s.startTimeout t).hbr.trk t = some { e with waits := false, period := 1000 * s.get F.CTL_CMDTO_TIMEOUT_US } := by
  unfold State.startTimeout
  simp only [he, hwaits, Bool.not_true, Bool.false_eq_true, if_false]
  refine ⟨?timer, ?entry⟩
  case timer => rw [State.arm_deadline_self]
  case entry =>
    rw [State.arm_hbr]
    exact tfind_tset_self _ _ _

/-- Completions leave for the host one by one. -/
theorem foldl_hostOut (f : List Word → HostOut) (l : List (List Word)) (s : State) :
    (l.foldl (fun s c => s.hostOut (f c)) s).hbr = { s.hbr with out := s.hbr.out ++ l.map f } := by
  induction l generalizing s with
  | nil => simp
  | cons c l ih =>
    rw [List.foldl_cons, ih]
    simp [State.hostOut, State.setHbr]

/-- A read that ends in error is forgotten: an abort with ERR_RESP, else the words that came, split at 64-byte boundaries. -/
theorem State.readEnd_bad {id : Nat} {r : HbrRead} (hr : tfind s.hbr.reads id = some r) (hbad : r.bad = true) :
    tfind (s.readEnd id).hbr.reads id = none ∧
    (s.is F.HBR_WIN_ATTR_ERR_RESP r.win = true → (s.readEnd id).hbr.out = s.hbr.out ++ [.abort id]) ∧
    (s.is F.HBR_WIN_ATTR_ERR_RESP r.win = false → (s.readEnd id).hbr.out = s.hbr.out ++
      (split64 r.n r.off ((List.range r.n).map (fun i => tget 0xFFFFFFFF r.words i))).map (.completion id)) := by
  have hkept : ((s.setHbr { s.hbr with reads := terase s.hbr.reads id }).disarm (.readDeadline id)).is F.HBR_WIN_ATTR_ERR_RESP r.win =
      s.is F.HBR_WIN_ATTR_ERR_RESP r.win := rfl
  have hgone : tfind (terase s.hbr.reads id) id = none := tfind_terase_self _ _
  unfold State.readEnd
  simp only [hr, hbad, Bool.true_and, hkept]
  split
  next herr => exact ⟨hgone, fun _ => rfl, fun h => absurd herr (by simp [h])⟩
  next hplain =>
    rw [foldl_hostOut]
    exact ⟨hgone, fun h => absurd h hplain, fun _ => rfl⟩

/-- At its deadline a read that no command waits for or runs for ends in error. -/
theorem State.readDeadline_of_alone {id : Nat} {r : HbrRead} (hu : s.expire (.readDeadline id) = some u)
    (hr : tfind u.hbr.reads id = some r) (hwait : ∀ c ∈ u.hbr.wait, c.rd ≠ some id)
    (htrk : ∀ e ∈ u.hbr.trk, e.2.cmd.rd ≠ some id) :
    s.readDeadline id = State.readEnd (u.setHbr { u.hbr with reads := tset u.hbr.reads id { r with bad := true } }) id := by
  have hown : u.hbr.wait.filter (fun c => c.rd == some id) = [] :=
    List.filter_eq_nil_iff.2 fun c hc => by simpa using hwait c hc
  have hsent : u.hbr.trk.filterMap (fun (e : Nat × HbrTrk) => if e.2.cmd.rd == some id then some e.2.cmd else none) = [] :=
    List.filterMap_eq_nil_iff.2 fun e he => if_neg (by simpa using htrk e he)
  have hall : u.hbr.wait.filter (fun c => c.rd != some id) = u.hbr.wait :=
    List.filter_eq_self.2 fun c hc => by simpa using hwait c hc
  simp only [State.readDeadline, hu, hr, hown, hsent, hall, List.head?_nil]
  rfl

theorem State.pfEnd_of_expire {i : Nat} {b : PfBuf} (hu : s.expire (.prefetch i) = some u) (hb : tfind u.hbr.pf i = some b) :
    s.pfEnd i = ((State.setHbr (u.bump .hbrCnt 3 0 (b.taken.filter (! ·)).length)
      { (u.bump .hbrCnt 3 0 (b.taken.filter (! ·)).length).hbr with pf := terase u.hbr.pf i }).disarm (.prefetch i)) := by
  simp only [State.pfEnd, hu, State.pfDrop, hb]
  rfl

/-! ### The link (R307) -/

theorem State.flr_of_up (hup : s.pcieUp = true) : s.flr = s.islReset 19 := if_pos hup

theorem State.linkDownPcie_of_up (hup : s.pcieUp = true) : s.linkDownPcie =
    (((s.put F.HBR_STAT_LINK_UP 0).put F.HBR_STAT_SPEED 0).put F.HBR_STAT_WIDTH 0).raise 0x7C := by
  unfold State.linkDownPcie
  rw [if_neg (by simp [hup])]

theorem State.linkUpPcie_shows (hup : s.islandUp 19 = true) (sp : BitVec 3) (w : BitVec 2) :
    (s.linkUpPcie sp.toNat w.toNat).is F.HBR_STAT_LINK_UP = true ∧
    (s.linkUpPcie sp.toNat w.toNat).get F.HBR_STAT_SPEED = sp.toNat ∧
    (s.linkUpPcie sp.toNat w.toNat).get F.HBR_STAT_WIDTH = w.toNat := by
  unfold State.linkUpPcie
  rw [if_neg (by simp [hup])]
  refine ⟨?up, ?speed, ?width⟩
  case up =>
    rw [State.put_is_of_apart _ _ (by decide), State.put_is_of_apart _ _ (by decide)]
    exact State.put_is_one _ (by decide)
  case speed =>
    rw [State.put_get_of_apart _ _ (by decide)]
    exact (State.put_get_self _ _ _ _ _ (by decide) (by decide)).trans (Nat.mod_eq_of_lt sp.isLt)
  case width => exact (State.put_get_self _ _ _ _ _ (by decide) (by decide)).trans (Nat.mod_eq_of_lt w.isLt)

end

/-! ### The reset of the bridge's island (R291, R391) -/

/-- Time, the reset count of PCI and the cause of the last reset are those of `s`. -/
structure KeepsResetRecord (s t : State) : Prop where
  now : t.now = s.now
  count : t.rd .islRstCnt 19 = s.rd .islRstCnt 19
  cause : t.rd .ctlRstcause = s.rd .ctlRstcause

namespace KeepsResetRecord

theorem refl (s : State) : KeepsResetRecord s s := ⟨rfl, rfl, rfl⟩

theorem trans {s t u : State} (hst : KeepsResetRecord s t) (htu : KeepsResetRecord t u) : KeepsResetRecord s u :=
  ⟨htu.now.trans hst.now, htu.count.trans hst.count, htu.cause.trans hst.cause⟩

/-- What leaves registers and time alone leaves the record alone. -/
theorem of_same {s t : State} (hnow : t.now = s.now) (hregs : t.regs = s.regs) : KeepsResetRecord s t :=
  ⟨hnow, State.rd_of_regs hregs _ _ _, State.rd_of_regs hregs _ _ _⟩

theorem wr {s : State} {r : Reg} {i j : Nat} (w : Word) (hcount : Reg.islRstCnt.addr 19 0 ≠ r.addr i j)
    (hcause : Reg.ctlRstcause.addr 0 0 ≠ r.addr i j) : KeepsResetRecord s (s.wr r i j w) :=
  ⟨rfl, s.wr_rd_of_ne w hcount, s.wr_rd_of_ne w hcause⟩

theorem put {s : State} (f : Fld) {i j : Nat} (v : Nat) (hcount : Reg.islRstCnt.addr 19 0 ≠ f.reg.addr i j)
    (hcause : Reg.ctlRstcause.addr 0 0 ≠ f.reg.addr i j) : KeepsResetRecord s (s.put f v i j) := wr _ hcount hcause

theorem setIsl (s : State) (x : IslS) : KeepsResetRecord s { s with isl := x } := of_same rfl rfl

theorem setHbr (s : State) (x : HbrS) : KeepsResetRecord s { s with hbr := x } := of_same rfl rfl

theorem setSnap (s : State) (x : SnapS) : KeepsResetRecord s { s with snap := x } := of_same rfl rfl

theorem foldl {α : Type} {f : State → α → State} (h : ∀ s a, KeepsResetRecord s (f s a)) (l : List α) (s : State) :
    KeepsResetRecord s (l.foldl f s) := by
  induction l generalizing s with
  | nil => exact .refl s
  | cons a l ih => exact (h s a).trans (ih _)

end KeepsResetRecord

section
variable (s : State)

theorem State.raise_keepsResetRecord (src inst : Nat) : KeepsResetRecord s (s.raise src inst) :=
  ⟨(s.raise_keeps src inst).now, s.raise_rd_of_apart (by decide) src inst, s.raise_rd_of_apart (by decide) src inst⟩

theorem State.retireCell_keepsResetRecord (c : Nat) : KeepsResetRecord s (s.retireCell c) := by
  unfold State.retireCell
  split
  · exact .refl s
  extract_lets w kept
  have hkept : KeepsResetRecord s kept := .of_same rfl rfl
  split
  · refine hkept.trans (KeepsResetRecord.trans ?_ (.put F.SWC_VAT_STAT_RETIRED (i := 0) (j := 0) _ ?_ ?_))
    · exact .of_same rfl rfl
    · decide
    · decide
  · exact hkept.trans (kept.raise_keepsResetRecord _ _)

theorem State.gc_keepsResetRecord (u : Nat) : KeepsResetRecord s (s.gc u).1 := by
  unfold State.gc
  split
  · exact .refl s
  split
  · exact .refl s
  refine KeepsResetRecord.trans ?_ (KeepsResetRecord.foldl State.retireCell_keepsResetRecord _ _)
  exact .of_same rfl rfl

theorem State.dropHolds_keepsResetRecord (p : Nat) : KeepsResetRecord s (s.dropHolds p).1 := by
  unfold State.dropHolds
  refine KeepsResetRecord.trans ?_ (KeepsResetRecord.foldl (fun s (h : Nat × Nat) => s.gc_keepsResetRecord h.1) _ _)
  exact .of_same rfl rfl

/-- A fold that counts beside the state keeps the record where its steps do. -/
theorem KeepsResetRecord.foldl_counted {α : Type} {f : State × Nat → α → State × Nat}
    (h : ∀ x a, KeepsResetRecord x.1 (f x a).1) (l : List α) (x : State × Nat) : KeepsResetRecord x.1 (l.foldl f x).1 := by
  induction l generalizing x with
  | nil => exact .refl _
  | cons a l ih => exact (h x a).trans (ih _)

theorem State.emptyQueue_keepsResetRecord (q : Nat) : KeepsResetRecord s (s.emptyQueue q).1 := by
  unfold State.emptyQueue
  refine KeepsResetRecord.trans ?_ (KeepsResetRecord.foldl_counted ?_ _ (_, 0))
  · exact .of_same rfl rfl
  · exact fun x u => x.1.gc_keepsResetRecord u

theorem State.emptyPort_keepsResetRecord (p : Nat) : KeepsResetRecord s (s.emptyPort p).1 := by
  unfold State.emptyPort
  refine KeepsResetRecord.foldl_counted ?_ _ (s, 0)
  exact fun x k => x.1.emptyQueue_keepsResetRecord (8 * p + k)

/-- Only port 5 belongs to PCI. -/
theorem State.dropToward_keepsResetRecord : KeepsResetRecord s (s.dropToward 19) := by
  unfold State.dropToward
  refine KeepsResetRecord.foldl (fun s p => ?_) _ _
  dsimp only
  split
  · exact s.dropHolds_keepsResetRecord p
  · exact ((s.dropHolds_keepsResetRecord p).trans (State.emptyPort_keepsResetRecord _ p)).trans
      (KeepsResetRecord.wr (r := .islDropCnt) (i := 19) (j := 0) _ (by decide) (by decide))

theorem State.pfDrop_keepsResetRecord (i : Nat) : KeepsResetRecord s (s.pfDrop i) := by
  unfold State.pfDrop
  split
  · exact .refl s
  · exact (KeepsResetRecord.wr (r := .hbrCnt) (i := 3) (j := 0) _ (by decide) (by decide)).trans (.of_same rfl rfl)

theorem State.hbrCleared_keepsResetRecord : KeepsResetRecord s s.hbrCleared := by
  unfold State.hbrCleared
  exact (KeepsResetRecord.foldl (fun s i => s.pfDrop_keepsResetRecord i) _ s).trans (.of_same rfl rfl)

/-- A reset of registers leaves one that it does not name alone. -/
theorem tfind_filterMap_of_kept {α : Type} {f : Nat × α → Option (Nat × α)} (hkey : ∀ e e', f e = some e' → e'.1 = e.1) {k : Nat}
    (hkept : ∀ v, f (k, v) = some (k, v)) (t : Tab α) : tfind (t.filterMap f) k = tfind t k := by
  induction t with
  | nil => rfl
  | cons e t ih =>
    obtain ⟨k', v⟩ := e
    rcases eq_or_ne k' k with rfl | hne
    · rw [List.filterMap_cons, hkept]
      simp [tfind]
    · rw [List.filterMap_cons]
      split
      next hnone => rw [ih, tfind, if_neg hne]
      next e' hsome =>
        have hkey' : e'.1 ≠ k := by
          rw [hkey _ _ hsome]
          exact hne
        rw [tfind, if_neg hkey', ih, tfind, if_neg hne]

theorem resetEntry_key (p : Cls → Nat → Bool) (e e' : Nat × Word) (h : resetEntry p e = some e') : e'.1 = e.1 := by
  unfold resetEntry at h
  split at h
  · cases h; rfl
  next r i j _ =>
    dsimp only at h
    split at h
    · split at h
      · cases h
      · cases h; rfl
    · cases h; rfl

theorem State.resetRegs_rd_of_kept (p : Cls → Nat → Bool) {r r' : Reg} {i j i' j' : Nat}
    (hloc : locate (r.addr i j) = some (r', i', j')) (hp : p r'.row.cls (r'.row.isl + i' * r'.row.islStep) = false) :
    (s.resetRegs p).rd r i j = s.rd r i j := by
  have hkept : ∀ v, resetEntry p (r.addr i j, v) = some (r.addr i j, v) := by
    intro v
    unfold resetEntry
    simp only [hloc, hp, Bool.false_eq_true, if_false]
  unfold State.rd State.resetRegs
  dsimp only
  rw [tfind_filterMap_of_kept (resetEntry_key p) hkept]

theorem locate_resetRecord : locate (Reg.islRstCnt.addr 19 0) = some (.islRstCnt, 19, 0) ∧
    locate (Reg.ctlRstcause.addr 0 0) = some (.ctlRstcause, 0, 0) := by decide +kernel

/-- The reset of PCI leaves the record of resets alone. -/
theorem State.assertReset_keepsResetRecord (p : Cls → Bool) : KeepsResetRecord s (s.assertReset 19 p) := by
  obtain ⟨hcount, hcause⟩ := locate_resetRecord
  have hregs (t : State) : KeepsResetRecord t (t.resetRegs (fun k j => j == 19 && p k)) :=
    ⟨rfl, t.resetRegs_rd_of_kept _ hcount rfl, t.resetRegs_rd_of_kept _ hcause rfl⟩
  unfold State.assertReset
  extract_lets counted cleared dropped reset x lost joined
  have hcleared : KeepsResetRecord counted cleared := counted.hbrCleared_keepsResetRecord.trans (.setHbr _ _)
  have hdropped : KeepsResetRecord cleared dropped := by
    unfold dropped
    rw [if_neg (by decide)]
    exact cleared.dropToward_keepsResetRecord
  have hreset : KeepsResetRecord dropped reset :=
    ((KeepsResetRecord.setIsl dropped _).trans (.setIsl (dropped.setRst 19 true) _)).trans (hregs _)
  have hlost : KeepsResetRecord s lost :=
    ((((KeepsResetRecord.setSnap s _).trans hcleared).trans hdropped).trans hreset).trans (.setIsl reset _)
  have hjoined : joined = lost := if_neg (by decide)
  rw [if_neg (by decide), hjoined]
  exact hlost

/-- A reset of PCI, powered and not held in reset by another cause, counts, sets its cause and lasts 1 µs. -/
theorem State.islReset_pci (hpwr : (s.rd .islPwrStat).getLsbD 19 = true)
    (hrst : s.isl.rst.getLsbD 19 = true → s.isl.islRst.getLsbD 19 = true) :
    (s.islReset 19).is F.CTL_RSTCAUSE_ISL = true ∧ (s.islReset 19).rd .islRstCnt 19 = s.rd .islRstCnt 19 + 1 ∧
    (s.islReset 19).isl.islRst.getLsbD 19 = true ∧ (s.islReset 19).deadline (.islRelease 19) = some (s.now + 1000) := by
  have hnoted (t : State) (ht : KeepsResetRecord ((s.bump .islRstCnt 19).put F.CTL_RSTCAUSE_ISL 1) t) :
      t.is F.CTL_RSTCAUSE_ISL = true ∧ t.rd .islRstCnt 19 = s.rd .islRstCnt 19 + 1 ∧ t.now = s.now := by
    refine ⟨(State.is_of_rd ht.cause).trans (State.put_is_one _ (by decide)), ?_, ht.now⟩
    rw [ht.count, State.put_rd_of_ne _ _ _ (by decide), State.bump_rd_self]
    rfl
  unfold State.islReset
  rw [if_neg (by simp [hpwr])]
  extract_lets noted was u
  have hu : KeepsResetRecord noted u := by
    unfold u
    split
    · exact .refl noted
    · exact noted.assertReset_keepsResetRecord _
  obtain ⟨hcause, hcount, hnow⟩ := hnoted u hu
  have hgoes : (was && !u.isl.islRst.getLsbD 19) = false := by
    rcases Bool.eq_false_or_eq_true was with hwas | hwas
    · have hsame : u = noted := if_pos hwas
      have hheld : noted.isl.islRst.getLsbD 19 = true := hrst hwas
      rw [hsame, hheld, Bool.not_true, Bool.and_false]
    · rw [hwas, Bool.false_and]
  rw [hgoes, if_neg Bool.false_ne_true]
  refine ⟨hcause, hcount, ?bit, ?timer⟩
  case bit =>
    show (u.isl.islRst ||| (1#21 <<< 19)).getLsbD 19 = true
    rw [BitVec.getLsbD_or, show (1#21 <<< 19).getLsbD 19 = true by decide, Bool.or_true]
  case timer =>
    rw [State.arm_deadline_self]
    exact congrArg (fun n => some (n + 1000)) hnow
end

/-! ### The statement -/

/-- Settles O34, event by event. -/
theorem hostBridgeRings : Obligations.HostBridgeRings := by
  intro s u q
  refine ⟨fun t ds hup => ?txTail, fun t bs hup ht => ?rxTail,
    fun n l v hup hhead hue hu => ⟨fun hlink => ?linkDown, fun hlink hposted htrk hoff => ?disabled,
      fun hlink hposted htrk hon hfree hplain => ?written, fun hlink hposted htrk => ?reply, fun hlink hposted htrk => ?posted⟩,
    fun hu => ⟨fun hq => ?moderated, fun hq => ?quiet⟩, fun tag e hu he => ?retry, fun t e he hwaits => ?timeout,
    fun id r hu hr hwait htrk => ?deadline, fun i b hu hb => ?prefetch, fun hup => ?flr, fun hpwr hrst => ?perst,
    fun hup => ?down, fun sp w hup => ?up⟩
  case txTail => exact next_done_congr (State.hostTxTail_of_up hup t ds)
  case rxTail => exact does_of_eq rfl (State.hostRxTail_of_up hup q t bs) (s.rxTail_shows q bs ht)
  case linkDown =>
    refine next_done_congr ((State.rxDeliver_of_head hup hhead hue hu).trans ?_)
    simp only [hlink, Bool.not_false, if_true]
  case disabled =>
    refine next_done_congr ((State.rxDeliver_of_head hup hhead hue hu).trans ?_)
    simp only [hlink, hposted, htrk, hoff, Bool.not_true, Bool.not_false, Bool.true_or, Bool.false_eq_true, if_false, if_true]
  case written =>
    have hroom : (u.rxFree (s.rxQueue v l) == 0) = false := beq_false_of_ne hfree
    have hopen : (v.frame.session != 0) = false := by simp [hplain]
    refine next_done_congr ((State.rxDeliver_of_head hup hhead hue hu).trans ?_)
    simp only [hlink, hposted, htrk, hon, hroom, hopen, Bool.not_true, Bool.or_false, Bool.and_false, Bool.false_and,
      Bool.false_eq_true, if_false]
  case reply =>
    refine next_done_congr ((State.rxDeliver_of_head hup hhead hue hu).trans ?_)
    simp only [hlink, hposted, htrk, Bool.not_true, Bool.false_eq_true, if_false, if_true]
  case posted =>
    refine next_done_congr ((State.rxDeliver_of_head hup hhead hue hu).trans ?_)
    simp only [hlink, hposted, htrk, Bool.not_true, Bool.false_eq_true, if_false, if_true]
  case moderated => exact ⟨_, rfl, State.intModEnd_of_waiting hu hq⟩
  case quiet =>
    refine next_done_congr ((State.intModEnd_of_expire hu).trans (if_neg ?_))
    exact fun h => hq (List.contains_iff_mem.1 h)
  case retry => exact next_done_congr (State.ncRetry_of_expire hu he)
  case timeout => exact State.startTimeout_of_waiting he hwaits
  case deadline =>
    refine does_of_eq rfl (State.readDeadline_of_alone hu hr hwait htrk) ?_
    exact State.readEnd_bad (r := { r with bad := true }) (tfind_tset_self _ _ _) rfl
  case prefetch =>
    refine does_of_eq rfl (State.pfEnd_of_expire hu hb) ⟨tfind_terase_self _ _, ?_⟩
    rw [State.disarm_rd, State.setHbr_rd, State.bump_rd_self]
  case flr => exact next_done_congr (State.flr_of_up hup)
  case perst => exact ⟨_, rfl, s.islReset_pci hpwr hrst⟩
  case down => exact next_done_congr (State.linkDownPcie_of_up hup)
  case up => exact ⟨_, rfl, State.linkUpPcie_shows hup sp w⟩

end Sys2Proof.Machine
end

section
/-!
The restarts of core B (R355): MGT_LL_STAT.LL_RESTARTS is a field of 8 bits, and a saturating count of it stops at 255.
-/
namespace Sys2Proof.Machine

/-- A hub whose core B runs and has restarted as often as LL_RESTARTS can show. -/
def restartsFull : State := (State.reset.put F.MGT_LL_STAT_RUNNING 1).put F.MGT_LL_STAT_LL_RESTARTS 255

theorem restartsFull_running : restartsFull.is F.MGT_LL_STAT_RUNNING = true := by decide +kernel

theorem restartsFull_restarts : restartsFull.get F.MGT_LL_STAT_LL_RESTARTS = 255 := by decide +kernel

theorem restartsFull_sat_restarts :
    (restartsFull.sat F.MGT_LL_STAT_LL_RESTARTS).get F.MGT_LL_STAT_LL_RESTARTS = 255 := by decide +kernel

/-- Refutes O38: the clause of core B's watchdog. It lets LL_RESTARTS count up to 2^16 - 1, but the field holds 8 bits: at 255 it stays. -/
theorem not_managementCores : ¬ Obligations.ManagementCores := by
  intro h
  obtain ⟨-, -, hrestart, -⟩ := h restartsFull restartsFull
  obtain ⟨-, hcount⟩ := hrestart restartsFull_running
  have hnext := hcount (by rw [restartsFull_restarts]; decide)
  rw [restartsFull_sat_restarts, restartsFull_restarts] at hnext
  exact absurd hnext (by decide)

end Sys2Proof.Machine
end

section
/-!
The readings of the sensors, the temperature limits and the mirroring of the log (R356, R360).
-/
namespace Sys2Proof.Machine

/-! ### Readings -/

/-- What a raise leaves alone, a condition that comes leaves alone. -/
theorem State.setLive_rd_of_apart (s : State) {r : Reg} {i j src : Nat} (h : ApartFromRaises (r.addr i j)) (hsrc : src < 256)
    (inst : Nat) : (s.setLive src inst).rd r i j = s.rd r i j := by
  unfold State.setLive
  split
  · rw [State.raiseCore_rd_of_apart _ h hsrc, State.putSource_rd _ h hsrc _ (by decide)]
    rfl
  · rfl

/-- The readings of the sensors stand in registers that no condition writes. -/
theorem State.setLive_tempOf (s : State) {k src : Nat} (hk : k < 10) (hsrc : src < 256) (inst : Nat) :
    (s.setLive src inst).tempOf k = s.tempOf k := by
  have htemp : ∀ i < 4, ApartFromRaises (Reg.mgtTemp.addr i 0) := by decide
  unfold State.tempOf
  split
  next hcore =>
    have hword := s.setLive_rd_of_apart (htemp (k / 2) (by omega)) hsrc inst
    split
    · rw [State.get_of_rd (f := F.MGT_TEMP_T_HI) hword]
    · rw [State.get_of_rd (f := F.MGT_TEMP_T_LO) hword]
  next =>
    have hword := s.setLive_rd_of_apart (r := .mgtPtemp) (i := 0) (j := 0) (by decide) hsrc inst
    have hlink := State.is_of_rd (f := F.PWR_STAT_LINK_OK)
      (s.setLive_rd_of_apart (r := .pwrStat) (i := 0) (j := 0) (by decide) hsrc inst)
    rw [hlink]
    split
    · rfl
    split
    · rw [State.get_of_rd (f := F.MGT_PTEMP_T1) hword]
    · rw [State.get_of_rd (f := F.MGT_PTEMP_T0) hword]

theorem s16_toNat (x : BitVec 16) : s16 (x.toNat % 2 ^ 16) = x.toInt := by
  rw [Nat.mod_eq_of_lt x.isLt]
  unfold s16
  rw [BitVec.ofNat_toNat, BitVec.setWidth_eq]

/-- A reading of a core-die sensor reads back as a number of two's complement. -/
theorem State.tempOf_of_core (s : State) {k : Nat} (hk : k < 8) (x : BitVec 16) :
    (s.put (if k % 2 = 1 then F.MGT_TEMP_T_HI else F.MGT_TEMP_T_LO) x.toNat (k / 2)).tempOf k = some x.toInt := by
  unfold State.tempOf
  rw [if_pos hk]
  by_cases hodd : k % 2 = 1
  · rw [if_pos hodd, s.put_get_self _ _ _ _ (by decide) (by decide)]
    exact congrArg some (s16_toNat x)
  · rw [if_neg hodd, s.put_get_self _ _ _ _ (by decide) (by decide)]
    exact congrArg some (s16_toNat x)

/-- So does one of a power-die sensor, while the link to the power die stands. -/
theorem State.tempOf_of_power (s : State) (k : Fin 2) (x : BitVec 16) (hlink : s.is F.PWR_STAT_LINK_OK = true) :
    (s.put (if k.val = 1 then F.MGT_PTEMP_T1 else F.MGT_PTEMP_T0) x.toNat).tempOf (8 + k.val) = some x.toInt := by
  have hkept (f : Fld) (hf : f.reg = .mgtPtemp) : (s.put f x.toNat).is F.PWR_STAT_LINK_OK = true := by
    refine (State.is_of_rd (s.put_rd_of_ne f _ ?_)).trans hlink
    rw [hf]
    decide
  have hpower : ¬ 8 + k.val < 8 := by omega
  have hsecond : 8 + k.val = 9 ↔ k.val = 1 := by omega
  unfold State.tempOf
  simp only [if_neg hpower, hsecond]
  by_cases hone : k.val = 1
  · simp only [if_pos hone, hkept F.MGT_PTEMP_T1 rfl, s.put_get_self F.MGT_PTEMP_T1 _ _ _ (by decide) (by decide)]
    exact congrArg some (s16_toNat x)
  · simp only [if_neg hone, hkept F.MGT_PTEMP_T0 rfl, s.put_get_self F.MGT_PTEMP_T0 _ _ _ (by decide) (by decide)]
    exact congrArg some (s16_toNat x)

/-! ### The limits -/

section
variable {s : State} {k src limit : Nat} {crit : Bool} {x : Int}

/-- A sensor at the limit makes the source live; the wait for its clearing ends. -/
theorem State.tempLimit_of_reached (hk : k < 10) (hx : s.tempOf k = some x) (hsrc : src < 256) (hle : 8 * (limit : Int) ≤ x) :
    s.tempLimit k src limit crit = (s.setLive src k).disarm (.tempClear crit) := by
  unfold State.tempLimit
  simp only [hx, ge_iff_le, Int.ofNat_eq_natCast, if_pos hle]
  refine if_pos ?_
  rw [Bool.or_eq_true]
  refine Or.inr ?_
  simp only [Bool.not_eq_true', List.all_eq_false, List.mem_range]
  refine ⟨k, hk, ?_⟩
  simp only [s.setLive_tempOf hk hsrc, hx, decide_eq_true_eq]
  omega

/-- A sensor less than 5 °C below the limit ends the wait only. -/
theorem State.tempLimit_of_near (hk : k < 10) (hx : s.tempOf k = some x) (hlow : 8 * (limit : Int) - 40 < x)
    (hhigh : x < 8 * (limit : Int)) : s.tempLimit k src limit crit = s.disarm (.tempClear crit) := by
  unfold State.tempLimit
  simp only [hx, ge_iff_le, Int.ofNat_eq_natCast, if_neg (not_le.2 hhigh)]
  refine if_pos ?_
  rw [Bool.or_eq_true]
  refine Or.inr ?_
  simp only [Bool.not_eq_true', List.all_eq_false, List.mem_range]
  refine ⟨k, hk, ?_⟩
  simp only [hx, decide_eq_true_eq]
  omega

/-- With the source live and every sensor 5 °C below, the wait of 1 s starts, goes on, or ends. -/
theorem State.tempLimit_of_below (hk : k < 10) (hx : s.tempOf k = some x) (hlive : s.is F.FLT_SRC_STAT_LIVE src = true)
    (hall : ∀ i < 10, ∀ y, s.tempOf i = some y → y ≤ 8 * (limit : Int) - 40) :
    s.tempLimit k src limit crit = (s.deadline (.tempClear crit)).elim (s.arm (.tempClear crit) 1000000000) (fun d =>
      if s.now < d then s else (List.range 10).foldl (fun s i => s.clearLive src i) (s.disarm (.tempClear crit))) := by
  have hbelow : x < 8 * (limit : Int) := by
    have := hall k hk x hx
    omega
  unfold State.tempLimit
  simp only [hx, ge_iff_le, Int.ofNat_eq_natCast, if_neg (not_le.2 hbelow)]
  refine (if_neg ?_).trans (by cases s.deadline (.tempClear crit) <;> rfl)
  rw [Bool.or_eq_true]
  rintro (h | h)
  · rw [hlive] at h
    exact Bool.false_ne_true h
  · simp only [Bool.not_eq_true', List.all_eq_false, List.mem_range] at h
    obtain ⟨i, hi, hcold⟩ := h
    cases hy : s.tempOf i with
    | none => simp [hy] at hcold
    | some y => simp [hy, hall i hi y hy] at hcold
end

/-! ### A condition that goes -/

/-- The conditions after one has gone. -/
theorem State.clearLive_live (s : State) (src inst : Nat) : (s.clearLive src inst).flt.live =
    tset s.flt.live src (tget 0 s.flt.live src &&& ~~~(1#64 <<< inst)) := by
  unfold State.clearLive
  dsimp only
  split <;> rfl

theorem State.clearLive_isLive_self (s : State) (src inst : Nat) : (s.clearLive src inst).isLive src inst = false := by
  unfold State.isLive
  rw [s.clearLive_live, tget_tset_self, BitVec.getLsbD_and, BitVec.getLsbD_not]
  by_cases h : inst < 64 <;> simp [h]

theorem State.clearLive_isLive_of_ne (s : State) (src : Nat) {inst i : Nat} (h : i ≠ inst) :
    (s.clearLive src inst).isLive src i = s.isLive src i := by
  unfold State.isLive
  rw [s.clearLive_live, tget_tset_self, BitVec.getLsbD_and, BitVec.getLsbD_not, BitVec.getLsbD_shiftLeft]
  have hbit : (1#64).getLsbD (i - inst) = true → i ≤ inst := by
    rw [BitVec.getLsbD_one]
    simp
    omega
  by_cases hi : i < 64
  · by_cases hlt : i < inst
    · simp [hi, hlt]
    · have : (1#64).getLsbD (i - inst) = false := by
        by_contra hne
        have := hbit (by simpa using hne)
        omega
      simp [hi, this]
  · simp [BitVec.getLsbD_of_ge _ _ (Nat.le_of_not_lt hi)]

/-- None of the instances whose conditions go is live afterwards. -/
theorem State.clearLives_isLive (src : Nat) (l : List Nat) (s : State) {i : Nat} (h : i ∈ l ∨ s.isLive src i = false) :
    (l.foldl (fun s i => s.clearLive src i) s).isLive src i = false := by
  induction l generalizing s with
  | nil => exact h.resolve_left (List.not_mem_nil)
  | cons a l ih =>
    refine ih _ ?_
    by_cases ha : i = a
    · subst ha
      exact .inr (s.clearLive_isLive_self src i)
    · rw [s.clearLive_isLive_of_ne src ha]
      exact h.imp_left fun hi => (List.mem_cons.1 hi).resolve_left ha

/-! ### The log -/

/-- Audit records are mirrored first. -/
theorem nextToMirror_audit {l : List (LogRec × Bool)} {r : LogRec} (h : nextToMirror l = some r)
    (hwaits : ∃ e ∈ l, e.2 = false ∧ e.1.audit = true) : r.audit = true := by
  unfold nextToMirror at h
  split at h
  next e hfind =>
    have he := List.find?_some hfind
    cases h
    rw [Bool.and_eq_true] at he
    exact he.2
  next hfind =>
    obtain ⟨e, he, hopen, haudit⟩ := hwaits
    rw [List.find?_eq_none] at hfind
    exact absurd (by rw [hopen, haudit]; rfl) (hfind e he)

section
variable {s : State} {r : LogRec} (h : nextToMirror s.mgt.ramLog = some r)
include h

/-- A record that may be skipped is counted and goes nowhere. -/
theorem State.mirrorOne_skips (hskip : s.skipRecord r = true) : s.mirrorOne.mgt.flashLog = s.mgt.flashLog ∧
    s.mirrorOne.mgt.gapRun = s.mgt.gapRun + 1 ∧ s.mirrorOne.rd .mgtCnt 6 = s.rd .mgtCnt 6 + 1 := by
  simp only [State.mirrorOne, h, hskip, if_true]
  exact ⟨rfl, rfl, State.bump_rd_self _ _ _ _ _⟩

theorem State.mirrorOne_appends (hkeep : s.skipRecord r = false) (hroom : s.mgt.flashLog.length < 4096) :
    s.mirrorOne.mgt.flashLog = s.mgt.flashLog ++ [r] := by
  have hfull : ¬ s.mgt.flashLog.length ≥ 4096 := Nat.not_le.2 hroom
  simp only [State.mirrorOne, h, hkeep, Bool.false_eq_true, if_false, if_neg hfull]

/-- A full flash log loses its oldest sector first. -/
theorem State.mirrorOne_erases (hkeep : s.skipRecord r = false) (hfull : s.mgt.flashLog.length = 4096) :
    s.mirrorOne.mgt.flashLog = s.mgt.flashLog.drop 64 ++ [r] := by
  simp only [State.mirrorOne, h, hkeep, Bool.false_eq_true, if_false, if_pos hfull.ge]
end

section
variable {s : State} (hup : s.mgtUp = true) (hlog : s.logBacklog ≠ 0)
include hup hlog

theorem State.logMirror_of_backlog : s.logMirror =
    if s.mgt.gapRun = 0 ∨ s.mirrorOne.mgt.gapRun ≠ s.mgt.gapRun then s.mirrorOne
    else State.log { s.mirrorOne with mgt := { s.mirrorOne.mgt with gapRun := 0 } } false 0 0 0 evLogGap {}
      [BitVec.ofNat 32 s.mgt.gapRun] := by
  have hwaits : (s.logBacklog == 0) = false := by simpa using hlog
  unfold State.logMirror
  simp only [hup, hwaits, Bool.not_true, Bool.or_self, Bool.false_eq_true, if_false]
end

/-! ### A reading taken -/

/-- The readings of the power die as its thermal model then stands. -/
def State.ptempRead (s : State) (k : Fin 2) (x : BitVec 16) : State :=
  { s with isl := { s.isl with ptemp := s.isl.ptemp.setBits (16 * k.val + 15) (16 * k.val) x.toNat } }

/-- The management subsystem does not depend on it. -/
theorem State.ptempRead_mgtUp (s : State) (k : Fin 2) (x : BitVec 16) : (s.ptempRead k x).mgtUp = s.mgtUp := rfl

section
variable {s : State}

/-- The thermal model of the power die takes its reading, whatever the core die does. -/
theorem State.sensorRead_of_down (hdown : s.mgtUp = false) (k : Fin 2) (x : BitVec 16) :
    s.sensorRead (.powerTemp k x) = s.ptempRead k x := by
  refine if_pos ?_
  rw [Bool.not_eq_true']
  exact hdown

variable (hup : s.mgtUp = true)
include hup

theorem State.sensorRead_core (k : Fin 8) (x : BitVec 16) : s.sensorRead (.coreTemp k x) =
    ((s.put (if k.val % 2 = 1 then F.MGT_TEMP_T_HI else F.MGT_TEMP_T_LO) x.toNat (k.val / 2)).tempCheck k.val).updateAlive := by
  refine if_neg ?_
  rw [hup]
  exact Bool.false_ne_true

theorem State.sensorRead_power (hlink : s.is F.PWR_STAT_LINK_OK = true) (k : Fin 2) (x : BitVec 16) :
    s.sensorRead (.powerTemp k x) = (((s.ptempRead k x).put (if k.val = 1 then F.MGT_PTEMP_T1 else F.MGT_PTEMP_T0)
      x.toNat).tempCheck (8 + k.val)).updateAlive := by
  refine (if_neg ?_).trans (congrArg State.updateAlive (if_neg ?_))
  · change ¬ (!(s.ptempRead k x).mgtUp) = true
    rw [s.ptempRead_mgtUp, hup]
    exact Bool.false_ne_true
  · change ¬ (!s.is F.PWR_STAT_LINK_OK) = true
    rw [hlink]
    exact Bool.false_ne_true

theorem State.sensorRead_supply (k : Fin 14) (mv : BitVec 16) (out : Bool) {v : State}
    (hv : v = s.put (if k.val % 2 = 1 then F.MGT_SUP_V_HI else F.MGT_SUP_V_LO) mv.toNat (k.val / 2)) :
    s.sensorRead (.supply k mv out) =
      (if k.val ≥ 6 then v else if out then v.setLive 0x16 k.val else v.clearLive 0x16 k.val).updateAlive := by
  subst hv
  refine if_neg ?_
  rw [hup]
  exact Bool.false_ne_true
end

/-- Settles O39. -/
theorem sensorsAndLog : Obligations.SensorsAndLog := by
  intro s
  refine ⟨fun k x hup => ⟨?core, s.tempOf_of_core k.isLt x⟩,
    fun k x v hv => ⟨fun hdown => ?powerDown, fun hup hlink => ?power⟩,
    fun k x hlink => s.tempOf_of_power k x hlink,
    fun k mv out hup v hv => ⟨fun hbank => ?bank, fun hrail hout => ?out, fun hrail hin => ?back⟩,
    fun k src limit crit x hk hx hsrc => ?limits,
    fun hup hlog => ⟨fun hgoes => ?goes, fun hgap hends => ?gap⟩,
    fun r hr => ⟨nextToMirror_audit hr, s.mirrorOne_skips hr, s.mirrorOne_appends hr, s.mirrorOne_erases hr⟩⟩
  case core => exact next_done_congr (State.sensorRead_core hup k x)
  case powerDown =>
    subst hv
    exact next_done_congr (State.sensorRead_of_down hdown k x)
  case power =>
    subst hv
    exact next_done_congr (State.sensorRead_power hup hlink k x)
  case bank =>
    refine next_done_congr ((State.sensorRead_supply hup k mv out hv).trans (congrArg State.updateAlive ?_))
    exact if_pos hbank
  case out =>
    refine next_done_congr ((State.sensorRead_supply hup k mv out hv).trans (congrArg State.updateAlive ?_))
    rw [if_neg (Nat.not_le.2 hrail), if_pos hout]
  case back =>
    refine next_done_congr ((State.sensorRead_supply hup k mv out hv).trans (congrArg State.updateAlive ?_))
    rw [if_neg (Nat.not_le.2 hrail), hin]
    rfl
  case limits =>
    have hlt : src < 256 := by omega
    refine ⟨State.tempLimit_of_reached hk hx hlt, State.tempLimit_of_near hk hx, fun hlive hall => ?_⟩
    rw [State.tempLimit_of_below hk hx hlive hall]
    refine ⟨fun hnone => ?starts, fun d hd hwaits => ?waits, fun d hd hover i hi => ?clears⟩
    case starts => rw [hnone, Option.elim_none]
    case waits =>
      rw [hd, Option.elim_some]
      exact if_pos hwaits
    case clears =>
      rw [hd, Option.elim_some, if_neg (Nat.not_lt.2 hover)]
      exact State.clearLives_isLive src _ _ (.inl (List.mem_range.2 hi))
  case goes => exact next_done_congr ((State.logMirror_of_backlog hup hlog).trans (if_pos hgoes))
  case gap =>
    refine next_done_congr ((State.logMirror_of_backlog hup hlog).trans (if_neg ?_))
    rintro (h | h)
    · exact hgap h
    · exact h hends

end Sys2Proof.Machine
end

section
/-!
What a raise latches and makes due, and how a detector reports it (R368, R369, R373, R375, R383, R393, R394).
-/
namespace Sys2Proof.Machine

/-! ### A raise in its three parts -/

/-- The source latched: the bit of its place, its flags and its counts (R369). -/
def State.raiseLatched (s : State) (src inst : Nat) : State :=
  let r := if inst < 32 then Reg.fltSrcInst0 else Reg.fltSrcInst1
  let s := s.wr r src 0 (s.rd r src ||| (1#32 <<< (inst % 32)))
  let s := { s with flt := { s.flt with lastRaise := tset s.flt.lastRaise src (s.now, inst) } }
  (((s.put F.FLT_SRC_STAT_LATCHED 1 src).put F.FLT_SRC_STAT_ACKED 0 src).sat F.FLT_SRC_STAT_RAISE_CNT src).bump .fltCnt 0

/-- The reaction of a source of class `c` falls due. -/
def State.noteDue (s : State) (src : Nat) : State := { s with flt := { s.flt with due := s.flt.due ++ [src] } }

/-- What its class `c` asks of a raise: the reaction at once, or the grace time (R373). -/
def State.raiseGraced (s : State) (c src : Nat) : State :=
  if c = 5 then s.noteDue src
  else if c = 4 then
    if s.is F.FLT_SRC_STAT_PENDING src then s
    else if s.get F.FLT_SRC_CFG_GRACE src = 0 then s.noteDue src
    else (s.put F.FLT_SRC_STAT_PENDING 1 src).arm (.grace src) (100000 * s.get F.FLT_SRC_CFG_GRACE src)
  else s

/-- The end of a raise: its EVENT, its record and ALIVE (R385-R387). -/
def State.raiseTold (s : State) (src : Nat) : State := ((s.raiseEvent src).faultRecord src true).updateAlive

/-- A raise with the FAULT_N pulse of a severe class between latching and grace (R384). -/
def State.raisePulsed (s : State) (c : Nat) : State := if c ≥ 4 then s.faultPulse else s

theorem State.raiseCore_eq (s : State) (src inst : Nat) : s.raiseCore src inst =
    (((s.raiseLatched src inst).raisePulsed ((s.raiseLatched src inst).srcClass src)).raiseGraced
      ((s.raiseLatched src inst).srcClass src) src).raiseTold src := rfl

/-! ### The registers of a source -/

/-- A register of the block of a source. -/
abbrev Reg.OfSource (r : Reg) : Prop := r.row.s1 = 0x10 ∧ 0xB01000 ≤ r.row.base

theorem Reg.le_addr_of_source {r : Reg} (n : Nat) (h : r.OfSource) : 0xB01000 ≤ r.addr n 0 := by
  obtain ⟨hstride, hlow⟩ := h
  have haddr : r.addr n 0 = r.row.base + n * r.row.s1 + 0 * r.row.s2 := rfl
  rw [haddr]
  omega

/-- Records and their counts stand below the registers of the sources. -/
theorem apartFromRecords_of_source {r : Reg} (n : Nat) (h : r.OfSource) : ApartFromRecords (r.addr n 0) := by
  have hlow := Reg.le_addr_of_source n h
  have hbound : ∀ a, Reg.mgtLogSeq.addr 0 0 = a ∨ Reg.mgtCnt.addr 6 0 = a ∨ Reg.fltCnt.addr 3 0 = a ∨ Reg.fltCnt.addr 4 0 = a ∨
      Reg.fltCnt.addr 5 0 = a → a < 0xB01000 := by
    rintro a (rfl | rfl | rfl | rfl | rfl) <;> decide
  refine ⟨?_, ?_, ?_, ?_, ?_⟩ <;> refine fun he => absurd (hbound _ ?_) (not_lt.2 hlow) <;> simp only [he, true_or, or_true]

/-- The count of raises stands below them too. -/
theorem Reg.raises_ne_source {r : Reg} (n : Nat) (h : r.OfSource) : Reg.fltCnt.addr 0 0 ≠ r.addr n 0 := by
  have hlow := Reg.le_addr_of_source n h
  have hcount : Reg.fltCnt.addr 0 0 < 0xB01000 := by decide
  omega

/-! ### What the parts leave alone -/

section
variable (s : State) (n i c : Nat)

theorem State.faultPulse_due : s.faultPulse.flt.due = s.flt.due := by
  unfold State.faultPulse State.freeIn
  dsimp only
  split
  · rfl
  split
  · rw [State.arm_flt]
  split <;> rfl

theorem State.updateAlive_due : s.updateAlive.flt.due = s.flt.due := by
  unfold State.updateAlive State.freeIn
  dsimp only
  split
  · split
    · rfl
    · rw [State.arm_flt]
  · rfl

theorem State.faultEvent_due (kind src reaction : Nat) : (s.faultEvent kind src reaction).flt.due = s.flt.due := by
  unfold State.faultEvent
  split <;> rfl

theorem State.raiseEvent_due (src : Nat) : (s.raiseEvent src).flt.due = s.flt.due := by
  unfold State.raiseEvent
  split
  · rfl
  dsimp only
  split
  · rfl
  split
  · rfl
  · exact State.faultEvent_due _ _ _ _

theorem State.mirrorOne_flt : s.mirrorOne.flt = s.flt := by
  unfold State.mirrorOne
  split
  · rfl
  dsimp only
  split <;> rfl

theorem State.log_flt (audit : Bool) (cls origin source code : Nat) (who : Who) (data : List Word) :
    (s.log audit cls origin source code who data).flt = s.flt := by
  unfold State.log
  split
  · rfl
  dsimp only
  rw [State.wr_flt]
  split
  · exact s.mirrorOne_flt
  · rfl

theorem State.faultRecord_flt (src : Nat) (raised : Bool) : (s.faultRecord src raised).flt = s.flt := by
  unfold State.faultRecord
  split
  · rfl
  dsimp only
  split
  · rfl
  · exact State.log_flt _ _ _ _ _ _ _ _

theorem State.raiseTold_due : (s.raiseTold n).flt.due = s.flt.due := by
  unfold State.raiseTold
  rw [State.updateAlive_due, State.faultRecord_flt, State.raiseEvent_due]

theorem State.raisePulsed_due : (s.raisePulsed c).flt.due = s.flt.due := by
  unfold State.raisePulsed
  split
  · exact s.faultPulse_due
  · rfl

theorem State.sat_flt (f : Fld) (j : Nat) : (s.sat f i j).flt = s.flt := by
  unfold State.sat
  dsimp only
  split <;> rfl

theorem State.raiseLatched_due : (s.raiseLatched n i).flt.due = s.flt.due := by
  unfold State.raiseLatched
  extract_lets r instanced flags latched
  rw [State.bump_flt, State.sat_flt, State.put_flt, State.put_flt]
  rfl

/-! Grace times -/

theorem State.updateAlive_grace : s.updateAlive.deadline (.grace n) = s.deadline (.grace n) := by
  have halive : Timer.grace n ≠ .alive := nofun
  unfold State.updateAlive State.freeIn
  dsimp only
  split
  · split
    · rfl
    · rw [State.arm_deadline_of_ne _ _ halive]
      exact State.deadline_of_timers rfl _
  · exact (State.deadline_of_timers (s := s.disarm .alive) rfl _).trans (State.disarm_deadline_of_ne _ halive)

theorem State.raiseTold_grace : (s.raiseTold n).deadline (.grace n) = s.deadline (.grace n) := by
  unfold State.raiseTold
  rw [State.updateAlive_grace, State.deadline_of_timers (State.faultRecord_timers _ _ _),
    State.deadline_of_timers (State.raiseEvent_timers _ _)]

theorem State.raisePulsed_grace : (s.raisePulsed c).deadline (.grace n) = s.deadline (.grace n) := by
  have hpulse : Timer.grace n ≠ .pulse := nofun
  unfold State.raisePulsed State.faultPulse State.freeIn
  dsimp only
  split
  · split
    · rfl
    split
    · rw [State.arm_deadline_of_ne _ _ hpulse]
      exact State.deadline_of_timers rfl _
    split
    · exact State.bump_deadline _ _ _ _ _ _
    · rfl
  · rfl

theorem State.raiseLatched_timers : (s.raiseLatched n i).timers = s.timers := by
  unfold State.raiseLatched
  extract_lets r instanced flags latched
  rw [State.bump_timers, State.sat_timers, State.put_timers, State.put_timers]
  rfl

theorem State.raiseLatched_now : (s.raiseLatched n i).now = s.now := by
  unfold State.raiseLatched
  extract_lets r instanced flags latched
  rw [State.bump_now, (State.sat_keeps _ _ _ _).now, State.put_now, State.put_now]
  rfl

theorem State.raisePulsed_now : (s.raisePulsed c).now = s.now := by
  unfold State.raisePulsed
  split
  · exact s.faultPulse_keeps.now
  · rfl

/-! Registers -/

section
variable {r : Reg} {i' j' : Nat}

theorem State.raiseTold_rd (h : ApartFromRecords (r.addr i' j')) : (s.raiseTold n).rd r i' j' = s.rd r i' j' := by
  unfold State.raiseTold
  rw [State.updateAlive_rd, State.faultRecord_rd_of_apart _ h, State.raiseEvent_rd_of_apart _ h]

theorem State.raisePulsed_rd (h : ApartFromRecords (r.addr i' j')) : (s.raisePulsed c).rd r i' j' = s.rd r i' j' := by
  unfold State.raisePulsed
  split
  · exact s.faultPulse_rd_of_apart h
  · rfl

theorem State.raiseGraced_rd (h : r.addr i' j' ≠ Reg.fltSrcStat.addr n 0) : (s.raiseGraced c n).rd r i' j' = s.rd r i' j' := by
  unfold State.raiseGraced
  split
  · rfl
  split
  · split
    · rfl
    split
    · rfl
    · rw [State.arm_rd]
      exact s.put_rd_of_ne _ _ h
  · rfl

theorem State.raiseGraced_is {f : Fld} (h : Fld.Apart F.FLT_SRC_STAT_PENDING f) : (s.raiseGraced c n).is f n = s.is f n := by
  unfold State.raiseGraced
  split
  · rfl
  split
  · split
    · rfl
    split
    · rfl
    · rw [State.arm_is]
      exact s.put_is_of_apart _ h
  · rfl
end

/-! ### What a raise shows -/

theorem State.sat_rd_of_ne (f : Fld) {r : Reg} {i' j' : Nat} (h : r.addr i' j' ≠ f.reg.addr n 0) :
    (s.sat f n).rd r i' j' = s.rd r i' j' := by
  unfold State.sat
  dsimp only
  split
  · exact s.put_rd_of_ne f _ h
  · rfl

theorem State.sat_is_of_apart {f g : Fld} (h : f.Apart g) : (s.sat f n).is g n = s.is g n := by
  unfold State.sat
  dsimp only
  split
  · exact s.put_is_of_apart _ h
  · rfl

/-- Latching writes the flags, one register of instances and the count of raises. -/
theorem State.raiseLatched_rd {r : Reg} {i' j' : Nat} (hstat : r.addr i' j' ≠ Reg.fltSrcStat.addr n 0)
    (hinst : r.addr i' j' ≠ Reg.addr (if i < 32 then .fltSrcInst0 else .fltSrcInst1) n 0)
    (hcount : r.addr i' j' ≠ Reg.fltCnt.addr 0 0) : (s.raiseLatched n i).rd r i' j' = s.rd r i' j' := by
  unfold State.raiseLatched
  extract_lets reg instanced flags latched
  rw [State.bump_rd_of_ne _ _ hcount, State.sat_rd_of_ne _ _ _ hstat, State.put_rd_of_ne _ _ _ hstat,
    State.put_rd_of_ne _ _ _ hstat]
  exact s.wr_rd_of_ne _ hinst

/-- It leaves the configuration of the source alone. -/
theorem State.raiseLatched_cfg : (s.raiseLatched n i).rd .fltSrcCfg n = s.rd .fltSrcCfg n := by
  refine s.raiseLatched_rd n i (Reg.addr_ne_of_beside n (by decide)) ?_ (Reg.raises_ne_source n (by decide)).symm
  split <;> exact Reg.addr_ne_of_beside n (by decide)

theorem State.raiseLatched_flag {f : Fld} (hf : Fld.Apart F.FLT_SRC_STAT_RAISE_CNT f) : (s.raiseLatched n i).is f n =
    ((s.put F.FLT_SRC_STAT_LATCHED 1 n).put F.FLT_SRC_STAT_ACKED 0 n).is f n := by
  have hreg : f.reg = .fltSrcStat := hf.1
  unfold State.raiseLatched
  extract_lets r instanced flags latched
  have hinstanced : instanced.rd .fltSrcStat n = s.rd .fltSrcStat n := by
    refine s.wr_rd_of_ne _ ?_
    unfold r
    split <;> exact Reg.addr_ne_of_beside n (by decide)
  have hcount : f.reg.addr n 0 ≠ Reg.fltCnt.addr 0 0 := by
    rw [hreg]
    exact (Reg.raises_ne_source n (by decide)).symm
  refine (State.is_of_rd (State.bump_rd_of_ne _ _ hcount)).trans ?_
  refine (State.sat_is_of_apart _ n hf).trans (State.is_of_rd ?_)
  rw [hreg]
  simp only [State.put, State.wr_rd_self]
  rw [show latched.rd .fltSrcStat n = s.rd .fltSrcStat n from hinstanced]

theorem State.raiseLatched_latched : (s.raiseLatched n i).is F.FLT_SRC_STAT_LATCHED n = true := by
  rw [s.raiseLatched_flag n i (by decide), State.put_is_of_apart _ _ (by decide)]
  exact s.put_is_one (by decide)

theorem State.raiseLatched_acked : (s.raiseLatched n i).is F.FLT_SRC_STAT_ACKED n = false := by
  rw [s.raiseLatched_flag n i (by decide)]
  exact State.put_is_zero _ (by decide)

theorem State.raiseLatched_pending : (s.raiseLatched n i).is F.FLT_SRC_STAT_PENDING n = s.is F.FLT_SRC_STAT_PENDING n := by
  rw [s.raiseLatched_flag n i (by decide), State.put_is_of_apart _ _ (by decide), State.put_is_of_apart _ _ (by decide)]

theorem State.raiseLatched_count : (s.raiseLatched n i).rd .fltCnt 0 = s.rd .fltCnt 0 + 1 := by
  have hstat : Reg.fltCnt.addr 0 0 ≠ Reg.fltSrcStat.addr n 0 := Reg.raises_ne_source n (by decide)
  unfold State.raiseLatched
  extract_lets r instanced flags latched
  have hinstanced : instanced.rd .fltCnt 0 = s.rd .fltCnt 0 := by
    refine s.wr_rd_of_ne _ ?_
    unfold r
    split <;> exact Reg.raises_ne_source n (by decide)
  rw [State.bump_rd_self, State.sat_rd_of_ne _ _ _ hstat, State.put_rd_of_ne _ _ _ hstat, State.put_rd_of_ne _ _ _ hstat]
  exact congrArg (· + BitVec.ofNat 32 1) hinstanced

theorem State.raiseLatched_instBit :
    ((s.raiseLatched n i).rd (if i < 32 then .fltSrcInst0 else .fltSrcInst1) n).getLsbD (i % 32) = true := by
  unfold State.raiseLatched
  extract_lets r instanced flags latched
  have hstat : r.addr n 0 ≠ Reg.fltSrcStat.addr n 0 := by
    unfold r
    split <;> exact Reg.addr_ne_of_beside n (by decide)
  have hcount : r.addr n 0 ≠ Reg.fltCnt.addr 0 0 := by
    refine (Reg.raises_ne_source n ?_).symm
    unfold r
    split <;> decide
  have hinstanced : instanced.rd r n = s.rd r n ||| (1#32 <<< (i % 32)) := s.wr_rd_self _ _ _ _
  rw [State.bump_rd_of_ne _ _ hcount, State.sat_rd_of_ne _ _ _ hstat, State.put_rd_of_ne _ _ _ hstat,
    State.put_rd_of_ne _ _ _ hstat, show latched.rd r n = instanced.rd r n from rfl, hinstanced, BitVec.getLsbD_or]
  simp [Nat.mod_lt]

/-! The whole raise -/

theorem State.raiseLatched_srcClass : (s.raiseLatched n i).srcClass n = s.srcClass n :=
  State.get_of_rd (f := F.FLT_SRC_CFG_CLASS) (s.raiseLatched_cfg n i)

/-- The state of a raise between latching and its reaction. -/
def State.raiseStarted (s : State) (n i : Nat) : State := (s.raiseLatched n i).raisePulsed (s.srcClass n)

theorem State.raiseCore_eq_started : s.raiseCore n i = ((s.raiseStarted n i).raiseGraced (s.srcClass n) n).raiseTold n := by
  rw [s.raiseCore_eq, s.raiseLatched_srcClass, State.raiseStarted]

theorem State.raiseStarted_rd {r : Reg} {i' j' : Nat} (h : ApartFromRecords (r.addr i' j')) :
    (s.raiseStarted n i).rd r i' j' = (s.raiseLatched n i).rd r i' j' := State.raisePulsed_rd _ _ h

theorem State.raiseStarted_due : (s.raiseStarted n i).flt.due = s.flt.due :=
  (State.raisePulsed_due _ _).trans (s.raiseLatched_due n i)

theorem State.raiseStarted_now : (s.raiseStarted n i).now = s.now := (State.raisePulsed_now _ _).trans (s.raiseLatched_now n i)

theorem State.raiseStarted_grace : (s.raiseStarted n i).deadline (.grace n) = s.deadline (.grace n) :=
  (State.raisePulsed_grace _ _ _).trans (State.deadline_of_timers (s.raiseLatched_timers n i) _)

theorem State.raiseStarted_pending : (s.raiseStarted n i).is F.FLT_SRC_STAT_PENDING n = s.is F.FLT_SRC_STAT_PENDING n :=
  (State.is_of_rd (s.raiseStarted_rd n i (apartFromRecords_of_source n (by decide)))).trans (s.raiseLatched_pending n i)

theorem State.raiseStarted_graceTime : (s.raiseStarted n i).get F.FLT_SRC_CFG_GRACE n = s.get F.FLT_SRC_CFG_GRACE n :=
  State.get_of_rd ((s.raiseStarted_rd n i (apartFromRecords_of_source n (by decide))).trans (s.raiseLatched_cfg n i))

/-- What latching has written to another register than the flags stands at the end. -/
theorem State.raiseCore_rd_of_ne {r : Reg} {i' j' : Nat} (h : ApartFromRecords (r.addr i' j'))
    (hstat : r.addr i' j' ≠ Reg.fltSrcStat.addr n 0) : (s.raiseCore n i).rd r i' j' = (s.raiseLatched n i).rd r i' j' := by
  rw [s.raiseCore_eq_started, State.raiseTold_rd _ _ h, State.raiseGraced_rd _ _ _ hstat, s.raiseStarted_rd n i h]

/-- And so do the flags, but for PENDING. -/
theorem State.raiseCore_flag {f : Fld} (hf : Fld.Apart F.FLT_SRC_STAT_PENDING f) :
    (s.raiseCore n i).is f n = (s.raiseLatched n i).is f n := by
  have hreg : f.reg = .fltSrcStat := hf.1
  have hrecords : ApartFromRecords (f.reg.addr n 0) := by
    rw [hreg]
    exact apartFromRecords_of_source n (by decide)
  rw [s.raiseCore_eq_started, State.is_of_rd (State.raiseTold_rd _ _ hrecords), State.raiseGraced_is _ _ _ hf,
    State.is_of_rd (s.raiseStarted_rd n i hrecords)]

theorem State.raiseCore_due :
    (s.raiseCore n i).flt.due = ((s.raiseStarted n i).raiseGraced (s.srcClass n) n).flt.due := by
  rw [s.raiseCore_eq_started, State.raiseTold_due]

theorem State.raiseCore_grace :
    (s.raiseCore n i).deadline (.grace n) = ((s.raiseStarted n i).raiseGraced (s.srcClass n) n).deadline (.grace n) := by
  rw [s.raiseCore_eq_started, State.raiseTold_grace]
end

/-! ### The reaction of a raise by its class -/

section
variable {s : State} {n : Nat} (i : Nat)

theorem State.noteDue_mem (s : State) (n : Nat) : n ∈ (s.noteDue n).flt.due := List.mem_append_right _ List.mem_cons_self

/-- A FATAL source falls due at once. -/
theorem State.raiseCore_due_of_fatal (hc : s.srcClass n = 5) : n ∈ (s.raiseCore n i).flt.due := by
  rw [s.raiseCore_due, State.raiseGraced, if_pos hc]
  exact State.noteDue_mem _ n

/-- A source below SEVERE makes nothing due. -/
theorem State.raiseCore_due_of_weak (hc : s.srcClass n < 4) : (s.raiseCore n i).flt.due = s.flt.due := by
  rw [s.raiseCore_due, State.raiseGraced, if_neg (by omega), if_neg (by omega), s.raiseStarted_due]

section
variable (hc : s.srcClass n = 4)
include hc

/-- A SEVERE source takes the branch of its PENDING and GRACE. -/
theorem State.raiseGraced_severe (t : State) : t.raiseGraced (s.srcClass n) n =
    if t.is F.FLT_SRC_STAT_PENDING n then t
    else if t.get F.FLT_SRC_CFG_GRACE n = 0 then t.noteDue n
    else (t.put F.FLT_SRC_STAT_PENDING 1 n).arm (.grace n) (100000 * t.get F.FLT_SRC_CFG_GRACE n) := by
  rw [State.raiseGraced, if_neg (by omega), if_pos hc]

/-- One that is PENDING keeps its timer. -/
theorem State.raiseCore_of_pending (hp : s.is F.FLT_SRC_STAT_PENDING n = true) :
    (s.raiseCore n i).deadline (.grace n) = s.deadline (.grace n) ∧ (s.raiseCore n i).flt.due = s.flt.due := by
  rw [s.raiseCore_grace, s.raiseCore_due, State.raiseGraced_severe hc, if_pos ((s.raiseStarted_pending n i).trans hp)]
  exact ⟨s.raiseStarted_grace n i, s.raiseStarted_due n i⟩

variable (hp : s.is F.FLT_SRC_STAT_PENDING n = false)
include hp

omit hc in
theorem State.raiseStarted_not_pending : ¬ (s.raiseStarted n i).is F.FLT_SRC_STAT_PENDING n = true := by
  rw [s.raiseStarted_pending, hp]
  exact Bool.false_ne_true

/-- One without a grace time falls due at once. -/
theorem State.raiseCore_due_of_noGrace (hg : s.get F.FLT_SRC_CFG_GRACE n = 0) : n ∈ (s.raiseCore n i).flt.due := by
  rw [s.raiseCore_due, State.raiseGraced_severe hc, if_neg (State.raiseStarted_not_pending i hp),
    if_pos ((s.raiseStarted_graceTime n i).trans hg)]
  exact State.noteDue_mem _ n

/-- Any other starts its grace time. -/
theorem State.raiseCore_of_grace (hg : s.get F.FLT_SRC_CFG_GRACE n ≠ 0) :
    (s.raiseCore n i).is F.FLT_SRC_STAT_PENDING n = true ∧
      (s.raiseCore n i).deadline (.grace n) = some (s.now + 100000 * s.get F.FLT_SRC_CFG_GRACE n) := by
  have hgraced : (s.raiseStarted n i).raiseGraced (s.srcClass n) n =
      ((s.raiseStarted n i).put F.FLT_SRC_STAT_PENDING 1 n).arm (.grace n) (100000 * s.get F.FLT_SRC_CFG_GRACE n) := by
    rw [State.raiseGraced_severe hc, if_neg (State.raiseStarted_not_pending i hp), s.raiseStarted_graceTime, if_neg hg]
  refine ⟨?_, ?_⟩
  · rw [s.raiseCore_eq_started, State.is_of_rd (State.raiseTold_rd _ _ (apartFromRecords_of_source n (by decide))), hgraced,
      State.arm_is]
    exact State.put_is_one _ (by decide)
  · rw [s.raiseCore_grace, hgraced, State.arm_deadline_self, State.put_now, s.raiseStarted_now]
end
end

/-! ### Detectors -/

section
variable {s : State} {n i : Nat}

theorem State.raise_of_not_canRaise (h : s.canRaise n i = false) : s.raise n i = s := by
  rw [State.raise, h]
  rfl

theorem State.setLive_of_not_canRaise (h : s.canRaise n i = false) : s.setLive n i = s := by
  rw [State.setLive, h]
  rfl

theorem State.setLive_of_live (h : s.isLive n i = true) : s.setLive n i = s := by
  rw [State.setLive, h, Bool.not_true, Bool.and_false]
  rfl

/-- A report of a condition that comes or of an event. -/
def ReportEdge (e : Edge) : Prop := e = .rise ∨ e = .pulse

/-- What a report does once it has got through. -/
def State.report (s : State) (n i : Nat) (e : Edge) : State := if e = .pulse then s.raise n i else s.setLive n i

/-- ENG_PROG_PARITY stops its engine (R220). -/
def State.parityStops (s : State) (n i : Nat) : State := if n = 0x63 then s.stopEngine i scParity else s

variable {e : Edge} (he : ReportEdge e)
include he

theorem State.sourceRaise_of_not_canRaise (h : s.canRaise n i = false) : s.sourceRaise n i e = s := by
  rcases he with rfl | rfl <;> simp only [State.sourceRaise, h, Bool.not_false, if_true]

/-- A source at home in no island reports at once. -/
theorem State.sourceRaise_of_chip (h : s.canRaise n i = true) (hhome : homeIsland n i = none) :
    s.sourceRaise n i e = s.report n i e := by
  have hn : n ≠ 0x63 := by
    rintro rfl
    have hengine : homeIsland 0x63 i = some (i / 8 + 9) := rfl
    rw [hengine] at hhome
    exact Option.some_ne_none _ hhome
  rcases he with rfl | rfl <;>
    simp only [State.sourceRaise, State.report, h, hhome, if_neg hn, Bool.not_true, Bool.false_eq_true, if_false]

/-- A report from another island takes a place in its crossing. -/
theorem State.sourceRaise_of_island {k : Nat} (h : s.canRaise n i = true) (hhome : homeIsland n i = some k) :
    s.sourceRaise n i e = if ((s.parityStops n i).crossToAon k).2 then ((s.parityStops n i).crossToAon k).1.report n i e
      else ((s.parityStops n i).crossToAon k).1 := by
  have hgets (b : Bool) (x y : State) : (if (!b) = true then x else y) = if b = true then y else x := by cases b <;> rfl
  rcases he with rfl | rfl
  · simp only [State.sourceRaise, h, hhome, hgets, Bool.not_true, Bool.false_eq_true, if_false]
    rfl
  · simp only [State.sourceRaise, h, hhome, hgets, Bool.not_true, Bool.false_eq_true, if_false]
    rfl
end

theorem State.crossToAon_of_room {s : State} {k : Nat} (h : tget 0 s.isl.cdc (21 * k) < 16) : s.crossToAon k =
    ({ s with isl := { s.isl with cdc := tset s.isl.cdc (21 * k) (tget 0 s.isl.cdc (21 * k) + 1) } }, true) :=
  if_neg (Nat.not_le.2 h)

theorem State.crossToAon_of_full {s : State} {k : Nat} (h : 16 ≤ tget 0 s.isl.cdc (21 * k)) :
    s.crossToAon k = ((s.bump .cdcOverrunCnt k).raise 0x20 k, false) := if_pos h

/-! ### The end of a grace time -/

theorem State.graceExpire_of_expire {s u : State} {n : Nat} (hu : s.expire (.grace n) = some u) :
    s.graceExpire n = (u.put F.FLT_SRC_STAT_PENDING 0 n).noteDue n := by
  simp only [State.graceExpire, hu]
  rfl

theorem State.collectorCheck_of_powered {s : State} (h : s.boot.powered = true) :
    s.collectorCheck = (s.put F.FLT_CHK_MISMATCH 1).raise 1 := by
  rw [State.collectorCheck, h]
  rfl

/-- The rows of reports as the model runs them. -/
theorem exec_sourceRaise_congr {s t : State} {src : BitVec 8} {inst : BitVec 6} {e : Edge}
    (h : s.sourceRaise src.toNat inst.toNat e = t) : exec (.sourceRaise src inst e) s = .next t.collectorDone := by
  subst h
  rfl

/-- Settles O40. -/
theorem faultSources : Obligations.FaultSources := by
  intro s u src inst n i hn hi
  subst hn hi
  refine ⟨fun hcan hdest hu => ?latches, State.setLive_of_live,
    fun hcan => ⟨State.raise_of_not_canRaise hcan, State.setLive_of_not_canRaise hcan,
      exec_sourceRaise_congr (State.sourceRaise_of_not_canRaise (.inl rfl) hcan),
      exec_sourceRaise_congr (State.sourceRaise_of_not_canRaise (.inr rfl) hcan)⟩,
    ⟨exec_sourceRaise_congr rfl, s.clearLive_isLive_self _ _, fun j hj => s.clearLive_isLive_of_ne _ hj⟩,
    fun hcan hhome => ⟨exec_sourceRaise_congr (State.sourceRaise_of_chip (.inl rfl) hcan hhome),
      exec_sourceRaise_congr (State.sourceRaise_of_chip (.inr rfl) hcan hhome)⟩,
    fun k v hcan hhome hv => ⟨fun hroom hu => ?crosses, fun hfull e he => ?lost⟩,
    fun place bits => exec_sourceRaise_congr rfl, fun hu => ?grace, fun hpow => ?check⟩
  case latches =>
    have hraise : u = s.raiseCore src.toNat inst.toNat := hu.trans (if_pos hcan)
    rw [hraise, State.raiseCore_flag _ _ _ (by decide), State.raiseCore_flag _ _ _ (by decide),
      State.raiseCore_rd_of_ne _ _ _ (by decide) (Reg.raises_ne_source _ (by decide))]
    refine ⟨s.raiseLatched_latched _ _, s.raiseLatched_acked _ _, s.raiseLatched_count _ _, ?_,
      State.raiseCore_due_of_fatal _, State.raiseCore_due_of_noGrace _, State.raiseCore_of_grace _,
      State.raiseCore_of_pending _, State.raiseCore_due_of_weak _⟩
    have hinst := s.raiseLatched_instBit src.toNat inst.toNat
    revert hinst
    split <;> intro hinst
    · rw [State.raiseCore_rd_of_ne _ _ _ (apartFromRecords_of_source _ (by decide)) (Reg.addr_ne_of_beside _ (by decide))]
      exact hinst
    · rw [State.raiseCore_rd_of_ne _ _ _ (apartFromRecords_of_source _ (by decide)) (Reg.addr_ne_of_beside _ (by decide))]
      exact hinst
  case crosses =>
    have hv' : s.parityStops src.toNat inst.toNat = v := hv.symm
    have hreport (e : Edge) (he : ReportEdge e) : s.sourceRaise src.toNat inst.toNat e = u.report src.toNat inst.toNat e := by
      rw [State.sourceRaise_of_island he hcan hhome, hv', State.crossToAon_of_room hroom, ← hu, if_pos rfl]
    exact ⟨exec_sourceRaise_congr (hreport _ (.inl rfl)), exec_sourceRaise_congr (hreport _ (.inr rfl))⟩
  case lost =>
    have hv' : s.parityStops src.toNat inst.toNat = v := hv.symm
    refine exec_sourceRaise_congr ?_
    rw [State.sourceRaise_of_island he hcan hhome, hv', State.crossToAon_of_full hfull, if_neg Bool.false_ne_true]
  case grace =>
    refine ⟨_, rfl, ?_⟩
    rw [State.graceExpire_of_expire hu]
    exact ⟨State.put_is_zero u (by decide), rfl⟩
  case check => exact next_done_congr (State.collectorCheck_of_powered hpow)

end Sys2Proof.Machine
end

section
/-!
Power-on, RESET_N, the supplies and what a chip reset begins (R364, R403, R405-R407, R466, R467).
-/
namespace Sys2Proof.Machine

/-! ### The balls settle in their clusters alone -/

theorem State.settleAt_eq (s : State) (k t : Nat) : s.settleAt k t = { s with clus := (s.settleAt k t).clus } := by
  unfold State.settleAt
  dsimp only
  split <;> rfl

theorem State.settleNets_eq (l : List Nat) (s : State) :
    l.foldl State.settleNet s = { s with clus := (l.foldl State.settleNet s).clus } := by
  induction l generalizing s with
  | nil => rfl
  | cons k l ih =>
    have hrest := ih (s.settleNet k)
    rw [List.foldl_cons, hrest, State.settleNet, s.settleAt_eq k s.now]

section
variable (s : State)

theorem State.settleAll_eq : s.settleAll = { s with clus := s.settleAll.clus } := State.settleNets_eq _ s

theorem State.settleAll_mode : s.settleAll.mode = s.mode := by rw [s.settleAll_eq]

theorem State.settleAll_isl : s.settleAll.isl = s.isl := by rw [s.settleAll_eq]

theorem State.settleAll_is (f : Fld) : s.settleAll.is f = s.is f := by
  rw [s.settleAll_eq]
  rfl
end

/-! ### The start that a chip reset begins -/

section
variable (s : State) (kind : ResetKind)

theorem State.startOver_rst {i : Nat} (h : 1 ≤ i ∧ i ≤ 19 ∧ i ≠ 8) : (s.startOver kind).isl.rst.getLsbD i = true := by
  have hheld : ∀ i < 20, 1 ≤ i → i ≠ 8 → (0x0FFEFE : BitVec 21).getLsbD i = true ∧ (0x1FFEFE : BitVec 21).getLsbD i = true := by
    decide
  obtain ⟨hlow, hhigh, hmgt⟩ := h
  obtain ⟨hparks, hall⟩ := hheld i (by omega) hlow hmgt
  have hrst : (s.startOver kind).isl.rst = if (s.put (causeFld kind) 1).isl.pwrWait then 0x0FFEFE else 0x1FFEFE := rfl
  rw [hrst]
  split
  · exact hparks
  · exact hall

/-- The management island starts (R466). -/
theorem State.startOver_mgt : (s.startOver kind).isl.rst.getLsbD 8 = false := by
  have hrst : (s.startOver kind).isl.rst = if (s.put (causeFld kind) 1).isl.pwrWait then 0x0FFEFE else 0x1FFEFE := rfl
  rw [hrst]
  split <;> decide

/-- CTL_RSTCAUSE shows the kind of the reset. -/
theorem State.startOver_cause : (s.startOver kind).is (causeFld kind) = true := by
  change (s.put (causeFld kind) 1).is (causeFld kind) = true
  refine s.put_is_one ?_
  cases kind <;> decide

/-- A chip reset ends with a start, the watchdog and the balls as they then settle. -/
theorem State.chipReset_starts : ∃ u : State, s.chipReset kind = ((u.startOver kind).arm .wdg 1000000).settleAll := by
  unfold State.chipReset
  split
  exact ⟨_, rfl⟩

theorem State.chipReset_shows : (s.chipReset kind).mode = .boot ∧ (s.chipReset kind).isl.rst.getLsbD 8 = false ∧
    (∀ i, 1 ≤ i → i ≤ 19 → i ≠ 8 → (s.chipReset kind).isl.rst.getLsbD i = true) ∧
    (s.chipReset kind).is (causeFld kind) = true ∧ (s.chipReset kind).sec.fuse = s.sec.fuse := by
  have hfuse := s.chipReset_fuse kind
  obtain ⟨u, hu⟩ := s.chipReset_starts kind
  rw [hu] at hfuse ⊢
  rw [State.settleAll_mode, State.settleAll_isl, State.settleAll_is, State.arm_isl, State.arm_is, State.arm_mode]
  exact ⟨rfl, u.startOver_mgt kind, fun i hlow hhigh hmgt => u.startOver_rst kind ⟨hlow, hhigh, hmgt⟩,
    u.startOver_cause kind, hfuse⟩
end

/-! ### Straps -/

section
variable (s : State) (st : Straps)

theorem State.putStraps_boot : (s.putStraps st).boot = { s.boot with straps := st } := rfl

theorem State.putStraps_now : (s.putStraps st).now = s.now := rfl

theorem State.putStraps_mode : (s.putStraps st).mode = s.mode := rfl

theorem State.putStraps_prof : (s.putStraps st).get F.CTL_STATE_PROF_PINS = st.prof.toNat :=
  (State.put_get_self _ _ _ _ _ (by decide) (by decide)).trans (Nat.mod_eq_of_lt st.prof.isLt)

theorem State.putStraps_rd_of_ne {r : Reg} {i j : Nat} (h : r.addr i j ≠ Reg.ctlState.addr 0 0) :
    (s.putStraps st).rd r i j = s.rd r i j := by
  unfold State.putStraps
  dsimp only
  rw [State.put_rd_of_ne _ _ _ h, State.put_rd_of_ne _ _ _ h, State.put_rd_of_ne _ _ _ h]
  rfl
end

/-! ### Power-on -/

section
variable (s : State)

theorem State.dropStore_now : s.dropStore.now = s.now := by
  unfold State.dropStore
  split <;> rfl

theorem State.dropStore_mgt : s.dropStore.mgt = s.mgt := by
  unfold State.dropStore
  split <;> rfl

/-- What survives a loss of power, before the numbering of records and the straps (R403, R466). -/
def State.repowered (s : State) : State :=
  let r := State.reset
  { r with
    now := s.now, freeIx := s.freeIx, pending := s.pending, profiles := s.profiles, sent := s.sent, wire := s.wire
    upd := { s.upd with open_ := none, pull := none, serve := none, storing := none }
    sec := { s.sec with otp := none, unlock := none, tap := .idcode }
    hbr := { out := s.hbr.out }
    lanes := s.lanes.map (fun (e : Nat × LaneS) => (e.1, { modAbs := e.2.modAbs }))
    mgt := { flashLog := s.mgt.flashLog, erases := s.mgt.erases, flashBoots := s.mgt.flashBoots }
    boot := { r.boot with mirror := s.boot.mirror, porAt := s.now, lastReset := s.now } }

theorem State.powerOn_eq (st : Straps) : s.powerOn st =
    ((s.dropStore.repowered.wr .mgtLogSeq 0 0 (BitVec.ofNat 32 s.dropStore.repowered.nextSeqno)).putStraps st).arm .wdg 1000000 := rfl

/-- The end of the watchdog's first 1 ms after the 10 ms of a power-on. -/
theorem firstKick_of_now {n t : Nat} (h : t = n + 10000000) : some (t + 1000000) = some (n + 11000000) := by
  subst h
  exact congrArg some (Nat.add_assoc _ _ _)

/-- The reset value of CTL_RSTCAUSE names a power-on. -/
theorem State.repowered_cause : s.repowered.is F.CTL_RSTCAUSE_POR = true := by
  change State.reset.is F.CTL_RSTCAUSE_POR = true
  decide +kernel

theorem State.powerOn_cause (st : Straps) : (s.powerOn st).is F.CTL_RSTCAUSE_POR = true := by
  rw [s.powerOn_eq, State.arm_is, State.is_of_rd (State.putStraps_rd_of_ne _ _ (by decide)),
    State.is_of_rd (State.wr_rd_of_ne _ _ (by decide))]
  exact s.dropStore.repowered_cause

theorem State.powerOn_now (st : Straps) : (s.powerOn st).now = s.now := s.dropStore_now

theorem State.powerOn_starts (st : Straps) :
    (s.powerOn st).mode = .boot ∧ (s.powerOn st).boot.powered = true ∧ (s.powerOn st).boot.straps = st := ⟨rfl, rfl, rfl⟩

theorem State.powerOn_wdg (st : Straps) : (s.powerOn st).deadline .wdg = some (s.now + 1000000) := by
  rw [s.powerOn_eq, State.arm_deadline_self, State.putStraps_now, State.wr_now]
  exact congrArg (fun n => some (n + 1000000)) s.dropStore_now

theorem State.powerOn_log (st : Straps) :
    (s.powerOn st).mgt.flashLog = s.mgt.flashLog ∧ (s.powerOn st).mgt.ramLog = [] :=
  have hflash : (s.powerOn st).mgt.flashLog = s.dropStore.mgt.flashLog := rfl
  ⟨hflash.trans (congrArg MgtS.flashLog s.dropStore_mgt), rfl⟩

theorem State.advance_now (n : Nat) : (s.advance n).now = s.now + n := rfl
end

section
variable {s : State} (st : Straps)

/-- The start after the fall of another core rail: `u` is `s` once the 10 ms have passed. -/
def State.heldPowerOn (s u : State) (st : Straps) : State :=
  { u.putStraps st with boot := { s.boot with straps := st, held := false } }

theorem State.heldPowerOn_shows (s u : State) (st : Straps) : (s.heldPowerOn u st).boot.held = false ∧
    (s.heldPowerOn u st).boot.straps = st ∧ (s.heldPowerOn u st).now = u.now ∧ (s.heldPowerOn u st).mode = u.mode :=
  ⟨rfl, rfl, rfl, rfl⟩

theorem State.powerOnEvent_of_lost (h : s.boot.powered = false) :
    s.powerOnEvent st = (s.advance 10000000).powerOn st := by
  refine if_pos ?_
  rw [h]
  rfl

theorem State.powerOnEvent_of_held (hpow : s.boot.powered = true) (hheld : s.boot.held = true) :
    s.powerOnEvent st = (s.heldPowerOn (s.advance 10000000) st).arm .wdg 1000000 := by
  unfold State.powerOnEvent
  rw [hpow, hheld]
  rfl

theorem State.powerOnEvent_of_running (hpow : s.boot.powered = true) (hheld : s.boot.held = false) (hmode : s.mode ≠ .boot) :
    s.powerOnEvent st = s := by
  have hrun : (s.mode == .boot) = false := by simpa using hmode
  unfold State.powerOnEvent
  rw [hpow, hheld, hrun]
  rfl
end

/-! ### RESET_N and the rails -/

section
variable {s : State} (st : Straps)

theorem State.resetN_of_same {low : Bool} (h : s.boot.powered = false ∨ s.boot.held = low) : s.resetN low st = s := by
  refine if_pos ?_
  rcases h with h | h
  · rw [h]
    rfl
  · rw [h, beq_self_eq_true, Bool.or_true]

variable (hpow : s.boot.powered = true)
include hpow

theorem State.resetN_of_low (hheld : s.boot.held = false) : s.resetN true st = (s.chipReset .pin).hold := by
  unfold State.resetN
  rw [hpow, hheld]
  rfl

theorem State.resetN_of_high (hheld : s.boot.held = true) : s.resetN false st =
    (State.putStraps { s with boot := { s.boot with held := false } } st).arm .wdg 1000000 := by
  unfold State.resetN
  rw [hpow, hheld]
  rfl

theorem State.railDrop_of_powered (r : Rail) : s.railDrop r = match r with
    | .vddAon => { s.chipReset .pin with timers := [], boot := { (s.chipReset .pin).boot with powered := false } }
    | .core => (s.chipReset .pin).hold
    | .other m => s.setLive 0x16 m.val := by
  unfold State.railDrop
  rw [hpow]
  cases r <;> rfl
end

theorem State.hold_held (s : State) : s.hold.boot.held = true := rfl

theorem State.hold_wdg (s : State) : s.hold.deadline .wdg = none := State.disarm_deadline_self _ _

/-! ### The rows -/

section
variable {s : State} (st : Straps)

/-- POWER_ON after a loss of power. -/
theorem powerOn_of_lost (h : s.boot.powered = false) : Does (.powerOn st) s (fun t => t.mode = .boot ∧ t.boot.powered = true ∧
    t.boot.straps = st ∧ t.now = s.now + 10000000 ∧ t.deadline .wdg = some (s.now + 11000000) ∧ t.sec.fuse = s.sec.fuse ∧
    t.mgt.flashLog = s.mgt.flashLog ∧ t.mgt.ramLog = [] ∧ t.is F.CTL_RSTCAUSE_POR = true) := by
  obtain ⟨hflash, hram⟩ := (s.advance 10000000).powerOn_log st
  obtain ⟨hmode, hpow, hst⟩ := (s.advance 10000000).powerOn_starts st
  refine does_of_eq rfl (State.powerOnEvent_of_lost st h)
    ⟨hmode, hpow, hst, ?now, ?wdg, (State.powerOn_fuse _ st).trans (s.advance_fuse _), ?flash, hram, State.powerOn_cause _ st⟩
  case now => rw [State.powerOn_now, State.advance_now]
  case wdg => exact (State.powerOn_wdg _ st).trans (firstKick_of_now (s.advance_now _))
  case flash => rw [hflash, State.advance_mgt]

variable (hpow : s.boot.powered = true) (hheld : s.boot.held = true)
include hpow hheld

/-- POWER_ON after the fall of another core rail. -/
theorem powerOn_of_held : Does (.powerOn st) s (fun t => t.boot.held = false ∧ t.boot.straps = st ∧
    t.deadline .wdg = some (s.now + 11000000) ∧ t.mode = s.mode) := by
  obtain ⟨hends, hst, hnow, hmode⟩ := s.heldPowerOn_shows (s.advance 10000000) st
  refine does_of_eq rfl (State.powerOnEvent_of_held st hpow hheld) ⟨?held, ?straps, ?wdg, ?mode⟩
  case held => rw [State.arm_boot, hends]
  case straps => rw [State.arm_boot, hst]
  case wdg => exact (State.arm_deadline_self _ _ _).trans (firstKick_of_now (hnow.trans (s.advance_now _)))
  case mode => rw [State.arm_mode, hmode, State.advance_mode]

/-- The release of RESET_N. -/
theorem resetN_of_release : Does (.resetN false st) s (fun t => t.boot.held = false ∧ t.boot.straps = st ∧
    t.get F.CTL_STATE_PROF_PINS = st.prof.toNat ∧ t.deadline .wdg = some (s.now + 1000000)) := by
  refine does_of_eq rfl (State.resetN_of_high st hpow hheld) ⟨rfl, rfl, State.putStraps_prof _ st, ?_⟩
  rw [State.arm_deadline_self, State.putStraps_now]
end

/-- Settles O43. -/
theorem chipResets : Obligations.ChipResets := by
  intro s st
  refine ⟨powerOn_of_lost st, powerOn_of_held st,
    fun hpow hheld hmode => next_done_congr (State.powerOnEvent_of_running st hpow hheld hmode),
    fun hpow hheld => ⟨next_done_congr (State.resetN_of_low st hpow hheld), State.hold_held _, State.hold_wdg _⟩,
    resetN_of_release st, fun low hsame => next_done_congr (State.resetN_of_same st hsame),
    fun hpow => ⟨does_of_eq rfl (State.railDrop_of_powered hpow .vddAon) ⟨rfl, rfl⟩,
      next_done_congr (State.railDrop_of_powered hpow .core),
      fun m => next_done_congr (State.railDrop_of_powered hpow (.other m))⟩,
    fun hlost r => next_done_congr (if_pos (by rw [hlost]; rfl)), s.chipReset_shows⟩

end Sys2Proof.Machine
end

section
/-!
The idle timer of session 1 and the ends of steps (R42): one lemma per operation that an end of a step comes to while the PIN reset is
held (R407). None of them starts that timer.
-/
namespace Sys2Proof.Machine

/-- When the idle time of session 1 ends, in a list of timers. -/
def idleEndOf (l : List (Timer × Nat)) : Option Nat := (l.find? (fun e => e.1 == .sessIdle 1)).map (·.2)

/-- When the idle time of session 1 ends (R42). -/
def State.idleEnd (s : State) : Option Nat := idleEndOf s.timers

@[simp] theorem idleEnd_fold (s : State) : idleEndOf s.timers = s.idleEnd := by
  unfold State.idleEnd; exact Eq.refl _
theorem State.idleEnd_eq_deadline (s : State) : s.idleEnd = s.deadline (.sessIdle 1) := rfl
@[simp] theorem idleEnd_mk (now freeIx pending regs timers mode ringAcc mgt flt isl boot profiles pair cmd upd sec ingress sent sw lanes time sched snap ports clus engs wins cans macs hbr pchs wire bypHold) :
    (State.mk now freeIx pending regs timers mode ringAcc mgt flt isl boot profiles pair cmd upd sec ingress sent sw lanes time sched snap ports clus engs wins cans macs hbr pchs wire bypHold).idleEnd = idleEndOf timers := by
  unfold State.idleEnd; exact Eq.refl _


theorem idleEndOf_filter {p : Timer × Nat → Bool} (l : List (Timer × Nat)) (h : ∀ d, p (.sessIdle 1, d) = true) :
    idleEndOf (l.filter p) = idleEndOf l := by
  unfold idleEndOf
  rw [List.find?_filter]
  congr 2
  funext e
  rcases e with ⟨t, d⟩
  cases ht : (t == Timer.sessIdle 1)
  · simp
  · rw [eq_of_beq ht, h d]
    rfl

@[simp] theorem idleEndOf_disarm (l : List (Timer × Nat)) {t : Timer} (h : t ≠ .sessIdle 1) :
    idleEndOf (l.filter (fun e => e.1 != t)) = idleEndOf l :=
  idleEndOf_filter l fun d => by simpa using h.symm

@[simp] theorem idleEndOf_cons (l : List (Timer × Nat)) {t : Timer} (d : Nat) (h : t ≠ .sessIdle 1) :
    idleEndOf ((t, d) :: l) = idleEndOf l := by
  simp [idleEndOf, h]

@[simp] theorem State.arm_idleEnd (s : State) {t : Timer} (d : Nat) (h : t ≠ .sessIdle 1) : (s.arm t d).idleEnd = s.idleEnd :=
  s.arm_deadline_of_ne d h.symm
@[simp] theorem State.disarm_idleEnd (s : State) {t : Timer} (h : t ≠ .sessIdle 1) : (s.disarm t).idleEnd = s.idleEnd :=
  s.disarm_deadline_of_ne h.symm

/-- No raise starts or stops it. -/
theorem idle_apartFromFaults : (Timer.sessIdle 1).ApartFromFaults := ⟨nofun, nofun, nofun⟩

/-! ### State -/

@[simp] theorem foldl_idleEnd {α : Type} (f : State → α → State) (h : ∀ s a, (f s a).idleEnd = s.idleEnd) (l : List α)
    (s : State) : (l.foldl f s).idleEnd = s.idleEnd := by
  induction l generalizing s with
  | nil => rfl
  | cons a l ih => simp [ih, h]

/-! ### Ops -/

@[simp] theorem State.wr_idleEnd (s : State) (r : Reg) (i : Nat) (j : Nat) (w : Word) :
    (State.wr s r i j w).idleEnd = s.idleEnd := by
  simp [State.wr]
@[simp] theorem State.put_idleEnd (s : State) (f : Fld) (v : Nat) (i : Nat) (j : Nat) :
    (State.put s f v i j).idleEnd = s.idleEnd := by
  simp [State.put]
@[simp] theorem State.bump_idleEnd (s : State) (r : Reg) (i : Nat) (j : Nat) (n : Nat) :
    (State.bump s r i j n).idleEnd = s.idleEnd := by
  simp [State.bump]
@[simp] theorem State.sat_idleEnd (s : State) (f : Fld) (i : Nat) (j : Nat) : (State.sat s f i j).idleEnd = s.idleEnd := by
  simp [State.sat, apply_ite State.idleEnd]

@[simp] theorem State.fresh_idleEnd (s : State) : ((State.fresh s).2).idleEnd = s.idleEnd := by
  simp [State.fresh]
theorem State.fresh_idleEnd_of (s : State) {sx : Word} {qx : State} (h : State.fresh s = (sx, qx)) : qx.idleEnd = s.idleEnd := by
  have e := State.fresh_idleEnd s
  rw [h] at e
  exact e
@[simp] theorem State.freshWords_idleEnd (x0 : Nat) (x1 : State) : ((State.freshWords x0 x1).2).idleEnd = x1.idleEnd := by
  induction x0 generalizing x1 <;> simp_all [State.freshWords]
theorem State.freshWords_idleEnd_of (x0 : Nat) (x1 : State) {sx : List Word} {qx : State} (h : State.freshWords x0 x1 = (sx, qx)) : qx.idleEnd = x1.idleEnd := by
  have e := State.freshWords_idleEnd x0 x1
  rw [h] at e
  exact e
@[simp] theorem State.freeIn_idleEnd (s : State) (lo : Nat) (hi : Nat) : ((State.freeIn s lo hi).2).idleEnd = s.idleEnd := by
  simp [State.freeIn]
@[simp] theorem State.enqueue_idleEnd (s : State) (x : UnitIn) : (State.enqueue s x).idleEnd = s.idleEnd := by
  simp [State.enqueue]
@[simp] theorem State.emit_idleEnd (s : State) (f : Frame) (inPort : Nat) (slot : (Option Nat)) :
    (State.emit s f inPort slot).idleEnd = s.idleEnd := by
  simp [State.emit]
@[simp] theorem State.emitOut_idleEnd (s : State) (f : Frame) (inPort : Nat) :
    (State.emitOut s f inPort).idleEnd = s.idleEnd := by
  simp [State.emitOut, apply_ite State.idleEnd]
@[simp] theorem State.mirrorOne_idleEnd (s : State) : (State.mirrorOne s).idleEnd = s.idleEnd := by
  unfold State.mirrorOne; split <;> simp [apply_ite State.idleEnd]
@[simp] theorem State.log_idleEnd (s : State) (audit : Bool) (cls : Nat) (origin : Nat) (source : Nat) (code : Nat) (who : Who) (data : List Word) :
    (State.log s audit cls origin source code who data).idleEnd = s.idleEnd := by
  simp [State.log, apply_ite State.idleEnd]

/-! ### Flags -/

@[simp] theorem State.updateAlive_idleEnd (s : State) : (State.updateAlive s).idleEnd = s.idleEnd :=
  s.updateAlive_deadline idle_apartFromFaults
@[simp] theorem State.faultPulse_idleEnd (s : State) : (State.faultPulse s).idleEnd = s.idleEnd :=
  s.faultPulse_deadline idle_apartFromFaults
@[simp] theorem State.faultEvent_idleEnd (s : State) (kind : Nat) (src : Nat) (reaction : Nat) :
    (State.faultEvent s kind src reaction).idleEnd = s.idleEnd := by
  simp [State.faultEvent, apply_ite State.idleEnd]
@[simp] theorem State.raiseEvent_idleEnd (s : State) (src : Nat) : (State.raiseEvent s src).idleEnd = s.idleEnd := by
  simp [State.raiseEvent, apply_ite State.idleEnd]
@[simp] theorem State.faultRecord_idleEnd (s : State) (src : Nat) (raised : Bool) :
    (State.faultRecord s src raised).idleEnd = s.idleEnd := by
  simp [State.faultRecord, apply_ite State.idleEnd]
@[simp] theorem State.raiseCore_idleEnd (s : State) (src : Nat) (inst : Nat) :
    (State.raiseCore s src inst).idleEnd = s.idleEnd :=
  s.raiseCore_deadline idle_apartFromFaults src inst
@[simp] theorem State.raise_idleEnd (s : State) (src : Nat) (inst : Nat) : (State.raise s src inst).idleEnd = s.idleEnd := by
  simp [State.raise, apply_ite State.idleEnd]

/-! ### SwitchOps -/

@[simp] theorem State.transmit_idleEnd (s : State) (p : Nat) (f : Frame) (rind : Word) :
    (State.transmit s p f rind).idleEnd = s.idleEnd := by
  simp [State.transmit, apply_ite State.idleEnd]

/-! ### RouteOps -/

@[simp] theorem State.takeSeq_idleEnd (s : State) (f : Frame) : ((State.takeSeq s f).2).idleEnd = s.idleEnd := by
  simp [State.takeSeq]
theorem State.takeSeq_idleEnd_of (s : State) (f : Frame) {sx : Frame} {qx : State} (h : State.takeSeq s f = (sx, qx)) : qx.idleEnd = s.idleEnd := by
  have e := State.takeSeq_idleEnd s f
  rw [h] at e
  exact e

/-! ### ClusterOps -/

@[simp] theorem State.setClu_idleEnd (s : State) (k : Nat) (x : CluS) : (State.setClu s k x).idleEnd = s.idleEnd := by
  simp [State.setClu]
@[simp] theorem State.setEng_idleEnd (s : State) (n : Nat) (x : EngS) : (State.setEng s n x).idleEnd = s.idleEnd := by
  simp [State.setEng]
@[simp] theorem State.settleAt_idleEnd (s : State) (k : Nat) (t : Nat) : (State.settleAt s k t).idleEnd = s.idleEnd := by
  simp [State.settleAt, apply_ite State.idleEnd]
@[simp] theorem State.flowPins_idleEnd (s : State) (k : Nat) : (State.flowPins s k).idleEnd = s.idleEnd := by
  simp [State.flowPins, apply_ite State.idleEnd]
@[simp] theorem State.fillTxq_idleEnd (s : State) (n : Nat) : (State.fillTxq s n).idleEnd = s.idleEnd := by
  simp [State.fillTxq]

/-! ### BridgeOps -/

@[simp] theorem State.setHbr_idleEnd (s : State) (h : HbrS) : (State.setHbr s h).idleEnd = s.idleEnd := by
  simp [State.setHbr]
@[simp] theorem State.hostOut_idleEnd (s : State) (o : HostOut) : (State.hostOut s o).idleEnd = s.idleEnd := by
  simp [State.hostOut]
@[simp] theorem State.msi_idleEnd (s : State) (v : Nat) : (State.msi s v).idleEnd = s.idleEnd := by
  simp [State.msi, apply_ite State.idleEnd]
@[simp] theorem State.txBack_idleEnd (s : State) (st : Status) (seq : BitVec 16) :
    (State.txBack s st seq).idleEnd = s.idleEnd := by
  unfold State.txBack; split <;> simp [apply_ite State.idleEnd]
@[simp] theorem State.txPump_idleEnd (x0 : Nat) (x1 : State) : (State.txPump x0 x1).idleEnd = x1.idleEnd := by
  (induction x0 generalizing x1) <;> (unfold State.txPump; grind [idleEnd_mk, idleEnd_fold, → State.fresh_idleEnd_of, State.txBack_idleEnd, State.enqueue_idleEnd, State.setHbr_idleEnd])
@[simp] theorem State.rxVector_idleEnd (s : State) (q : Nat) : (State.rxVector s q).idleEnd = s.idleEnd := by
  simp [State.rxVector, apply_ite State.idleEnd]
@[simp] theorem State.rxWrite_idleEnd (s : State) (q : Nat) (v : VUnit) (loupe : Bool) :
    (State.rxWrite s q v loupe).idleEnd = s.idleEnd := by
  unfold State.rxWrite; grind [idleEnd_mk, idleEnd_fold, → State.freshWords_idleEnd_of, State.setHbr_idleEnd, State.hostOut_idleEnd, State.rxVector_idleEnd, State.bump_idleEnd, State.put_idleEnd]

/-! ### ReactOps -/

@[simp] theorem State.reactionRecord_idleEnd (s : State) (src : Nat) (r : Nat) :
    (State.reactionRecord s src r).idleEnd = s.idleEnd := by
  simp [State.reactionRecord]
@[simp] theorem State.reactedOnly_idleEnd (s : State) (src : Nat) (counted : Bool) :
    (State.reactedOnly s src counted).idleEnd = s.idleEnd := by
  simp [State.reactedOnly, apply_ite State.idleEnd]
@[simp] theorem State.reactTaken_idleEnd (s : State) (srcs : List Nat) (r : Nat) :
    (State.reactTaken s srcs r).idleEnd = s.idleEnd := by
  unfold State.reactTaken; split <;> simp [apply_ite State.idleEnd]
@[simp] theorem State.holdReaction_idleEnd (s : State) (srcs : List Nat) :
    (State.holdReaction s srcs).idleEnd = s.idleEnd := by
  simp [State.holdReaction]

/-! ### CmdOps -/

@[simp] theorem State.auditRefusal_idleEnd (s : State) (denied : Bool) (f : Frame) (st : Status) (data : List Word) :
    (State.auditRefusal s denied f st data).idleEnd = s.idleEnd := by
  unfold State.auditRefusal; grind [idleEnd_mk, idleEnd_fold, State.log_idleEnd]
@[simp] theorem State.noteAuthFail_idleEnd (s : State) (f : Frame) : (State.noteAuthFail s f).idleEnd = s.idleEnd := by
  simp [State.noteAuthFail, apply_ite State.idleEnd]
@[simp] theorem State.noteRefusal_idleEnd (s : State) (f : Frame) (st : Status) (step5 : Bool) :
    (State.noteRefusal s f st step5).idleEnd = s.idleEnd := by
  simp [State.noteRefusal, apply_ite State.idleEnd]
@[simp] theorem State.auditCmd_idleEnd (s : State) (f : Frame) (st : Status) :
    (State.auditCmd s f st).idleEnd = s.idleEnd := by
  unfold State.auditCmd; split <;> simp
@[simp] theorem State.cachePut_idleEnd (s : State) (f : Frame) (reply : Frame) :
    (State.cachePut s f reply).idleEnd = s.idleEnd := by
  simp [State.cachePut, apply_ite State.idleEnd]
@[simp] theorem State.unserve_idleEnd (s : State) (c : Cmd) : (State.unserve s c).idleEnd = s.idleEnd := by
  simp [State.unserve]
@[simp] theorem State.putSlot_idleEnd (s : State) (ring : Nat) (tail : Nat) (f : Frame) :
    (State.putSlot s ring tail f).idleEnd = s.idleEnd := by
  simp [State.putSlot]
@[simp] theorem State.respond_idleEnd (s : State) (f : Frame) : (State.respond s f).idleEnd = s.idleEnd := by
  simp [State.respond]
@[simp] theorem State.release_idleEnd (s : State) (c : Cmd) (r : Option Frame) :
    (State.release s c r).idleEnd = s.idleEnd := by
  simp [State.release, apply_ite State.idleEnd]

/-! ### WindowOps -/

@[simp] theorem State.setWin_idleEnd (s : State) (w : Nat) (x : WinS) : (State.setWin s w x).idleEnd = s.idleEnd := by
  simp [State.setWin]
@[simp] theorem State.sendBehind_idleEnd (s : State) (n : Nat) (item : List QWord) :
    (State.sendBehind s n item).idleEnd = s.idleEnd := by
  unfold State.sendBehind; grind [idleEnd_mk, idleEnd_fold, State.fillTxq_idleEnd, State.setEng_idleEnd]
@[simp] theorem State.winEnter_idleEnd (s : State) (w : Nat) (r : WinReq) : (State.winEnter s w r).idleEnd = s.idleEnd := by
  simp [State.winEnter]
@[simp] theorem State.winTimer_idleEnd (s : State) (w : Nat) : (State.winTimer s w).idleEnd = s.idleEnd := by
  unfold State.winTimer; dsimp only; split <;> simp


end Sys2Proof.Machine
end

section
/-!
A SESSION order for a session that the pair does not hold (R42, R337): the idle timer of another session of its number runs on.
-/
namespace Sys2Proof.Machine

/-! ### What ends a step does not start the idle timer -/

/-- A step that comes out calm began calm, and started no idle time of session 1. -/
def IdleStep (s t : State) : Prop := CalmStep s t ∧ (t.calm → s.idleEnd = none → t.idleEnd = none)

namespace IdleStep
variable {s t u : State}

theorem refl (s : State) : IdleStep s s := ⟨CalmStep.refl s, fun _ => id⟩

theorem trans (h : IdleStep s t) (g : IdleStep t u) : IdleStep s u :=
  ⟨h.1.trans g.1, fun hu hs => g.2 hu (h.2 (g.1 hu).1 hs)⟩

/-- A step that starts no timer but those of other kinds. -/
theorem of_kept (hc : CalmStep s t) (h : t.idleEnd = s.idleEnd) : IdleStep s t := ⟨hc, fun _ hs => h.trans hs⟩

theorem of_watch (hw : t.watch = s.watch) (h : t.idleEnd = s.idleEnd) : IdleStep s t := of_kept (CalmStep.of_watch hw) h

theorem of_not_calm (h : ¬ t.calm) : IdleStep s t := ⟨CalmStep.of_not_calm h, fun ht => absurd ht h⟩

theorem foldl {α : Type} {f : State → α → State} (h : ∀ s a, IdleStep s (f s a)) (l : List α) (s : State) :
    IdleStep s (l.foldl f s) := by
  induction l generalizing s with
  | nil => exact refl s
  | cons a l ih => exact (h s a).trans (ih _)

theorem ite {p : Prop} [Decidable p] (h : IdleStep s t) (g : IdleStep s u) : IdleStep s (if p then t else u) := by
  split
  · exact h
  · exact g

end IdleStep

/-! ### Replies and windows -/

theorem idleEnd_ite {p : Prop} [Decidable p] {s t : State} {x : Option Nat} (hs : s.idleEnd = x) (ht : t.idleEnd = x) :
    (if p then s else t).idleEnd = x := by
  split
  · exact hs
  · exact ht

section
variable (s : State)

theorem State.spendSessions_idleEnd : s.spendSessions.idleEnd = s.idleEnd := by
  unfold State.spendSessions
  refine foldl_idleEnd _ (fun u x => ?_) _ _
  split
  · exact (State.arm_idleEnd _ _ (by simp)).trans (idleEnd_mk ..)
  · rfl

theorem State.romSend_idleEnd (f : Frame) : (s.romSend f).idleEnd = s.idleEnd := by
  unfold State.romSend
  split
  next f' s' htake =>
  have hs' : s'.idleEnd = s.idleEnd := State.takeSeq_idleEnd_of _ _ htake
  split
  next f'' s'' hseal =>
  have hs'' : s''.idleEnd = s'.idleEnd := by
    split at hseal
    · cases hseal
      rfl
    · exact (congrArg (fun x => State.idleEnd x.2) hseal).symm
  have hspend : s''.spendSessions.idleEnd = s.idleEnd := s''.spendSessions_idleEnd.trans (hs''.trans hs')
  dsimp only
  split
  · split
    · exact (State.bump_idleEnd ..).trans hspend
    · exact (State.rxWrite_idleEnd ..).trans hspend
  · refine (foldl_idleEnd _ (fun u l => ?_) _ _).trans hspend
    split
    · exact State.transmit_idleEnd ..
    · rfl

theorem State.sendOwn_idleEnd (f : Frame) : (s.sendOwn f).idleEnd = s.idleEnd := by
  unfold State.sendOwn
  split
  · split
    · exact idleEnd_mk ..
    · exact s.romSend_idleEnd f
  · exact s.emitOut_idleEnd f 122

theorem State.romFlush_idleEnd : s.romFlush.idleEnd = s.idleEnd := by
  unfold State.romFlush
  split
  · rfl
  · exact (foldl_idleEnd _ State.romSend_idleEnd _ _).trans (idleEnd_mk ..)

theorem State.answer_idleEnd (c : Cmd) (ordered : Bool) (a : Answer) : (s.answer c ordered a).idleEnd = s.idleEnd := by
  have hreply : (s.reply c ordered a).idleEnd = s.idleEnd := by
    unfold State.reply
    split
    · rfl
    split
    · exact s.respond_idleEnd _
    · exact s.sendOwn_idleEnd _
  unfold State.answer
  dsimp only
  split
  · exact (State.cachePut_idleEnd ..).trans hreply
  · exact hreply

theorem State.finish_idleEnd (c : Cmd) (ordered : Bool) (a : Answer) : (s.finish c ordered a).idleEnd = s.idleEnd := by
  unfold State.finish
  extract_lets noted r answered audited cmd followed cmd'
  have hnoted : noted.idleEnd = s.idleEnd := by
    unfold noted
    split
    · exact State.noteRefusal_idleEnd ..
    · rfl
  have haudited : audited.idleEnd = s.idleEnd := by
    refine Eq.trans ?_ ((noted.answer_idleEnd c ordered a).trans hnoted)
    unfold audited
    split
    · rfl
    · exact State.auditCmd_idleEnd ..
  have hfollowed : followed.idleEnd = s.idleEnd := by
    refine Eq.trans ?_ haudited
    unfold followed
    split
    · exact idleEnd_mk ..
    · rfl
  split
  · exact hfollowed
  · exact (State.release_idleEnd ..).trans hfollowed

theorem State.conclude_idleEnd (c : Cmd) (a : Answer) : (s.conclude c a).idleEnd = s.idleEnd := by
  unfold State.conclude
  split
  · exact s.finish_idleEnd c _ a
  · rfl

theorem State.winReply_idleEnd (w : Nat) (r : WinReq) (a : Answer) : (s.winReply w r a).idleEnd = s.idleEnd :=
  (State.conclude_idleEnd _ _ _).trans (s.put_idleEnd ..)

theorem State.winNext_idleEnd (w : Nat) (l : List WinReq) : (s.winNext w l).idleEnd = s.idleEnd := by
  induction l generalizing s with
  | nil => exact (State.setWin_idleEnd ..).trans (s.put_idleEnd ..)
  | cons r rest ih =>
    unfold State.winNext
    split
    · exact (ih _).trans (s.winReply_idleEnd w r _)
    · exact (State.winEnter_idleEnd ..).trans (s.setWin_idleEnd ..)

theorem State.winSweep_idleEnd (w : Nat) : (s.winSweep w).idleEnd = s.idleEnd := by
  unfold State.winSweep
  dsimp only
  split
  · rfl
  split
  · exact (foldl_idleEnd _ (fun u r => u.conclude_idleEnd _ _) _ _).trans (by simp)
  split
  · rw [State.winTimer_idleEnd, State.winNext_idleEnd, State.setWin_idleEnd]
  · exact s.setWin_idleEnd ..

theorem State.txLooked_idleEnd : s.txLooked.idleEnd = s.idleEnd := by
  unfold State.txLooked
  split
  · rfl
  · exact (State.txPump_idleEnd ..).trans (s.txBack_idleEnd ..)

theorem State.pairAnswer_idleEnd : s.pairAnswer.idleEnd = s.idleEnd := by
  unfold State.pairAnswer
  split
  · exact idleEnd_ite ((State.finish_idleEnd ..).trans (idleEnd_mk ..)) rfl
  · rfl

theorem State.lostCommands_idleEnd : s.lostCommands.idleEnd = s.idleEnd := by
  refine foldl_idleEnd _ (fun u e => ?_) _ _
  split
  · unfold State.startTimeout
    split
    · rfl
    split
    · rfl
    · exact (State.arm_idleEnd _ _ (by simp)).trans (idleEnd_mk ..)
  · rfl

theorem State.flowAll_idleEnd : s.flowAll.idleEnd = s.idleEnd := foldl_idleEnd _ (fun u _ => u.flowPins_idleEnd _) _ s

theorem State.reactedAll_idleEnd (c : Bool) (srcs : List Nat) :
    (srcs.foldl (fun s n => s.reactedOnly n c) s).idleEnd = s.idleEnd :=
  foldl_idleEnd _ (fun u n => u.reactedOnly_idleEnd n c) srcs s
end

/-! ### The parts of the end of a step -/

namespace IdleStep

theorem islReset (s : State) (i : Nat) : IdleStep s (s.islReset i) := by
  by_cases h : i = 0 ∨ i > 20 ∨ !(s.rd .islPwrStat).getLsbD i
  · unfold State.islReset
    rw [if_pos h]
    exact refl s
  · exact of_not_calm (not_calm_of_inReset (s.islReset_inReset h))

theorem chipReset (s : State) (kind : ResetKind) : IdleStep s (s.chipReset kind) :=
  of_not_calm (not_calm_of_modeNow (by simp [s.chipReset_modeNow]))

theorem resetIslands (s : State) (m : BitVec 21) : IdleStep s (s.resetIslands m) :=
  foldl (fun s i => ite (islReset s i) (refl s)) _ s

theorem sessionClosing (s : State) (n : BitVec 16) : IdleStep s (s.sessionClosing n) := by
  refine ⟨CalmStep.sessionClosing s n, fun _ hs => ?_⟩
  unfold State.sessionClosing
  split
  · exact hs
  · rw [State.idleEnd_eq_deadline] at hs ⊢
    simp only [State.deadline, Option.map_eq_none_iff, List.find?_eq_none] at hs ⊢
    exact fun e he => hs e (List.mem_of_mem_filter he)

theorem sessionOpened (s : State) (n : BitVec 16) : IdleStep s (s.sessionOpened n) := by
  refine of_kept (CalmStep.sessionOpened s n) ?_
  unfold State.sessionOpened
  split
  · exact s.arm_idleEnd _ (by simp)
  · rfl

theorem runAfter (s : State) (a : After) : IdleStep s (s.runAfter a) := by
  cases a with
  | islands m => exact resetIslands s m
  | opened n old =>
    cases old with
    | none => exact sessionOpened s n
    | some o => exact (sessionOpened s n).trans (sessionClosing _ o)
  | chip => exact chipReset s .cmd
  | profile p => exact of_not_calm (not_calm_switchBegin s p)

theorem runDue (s : State) : IdleStep s s.runDue := by
  unfold State.runDue
  refine trans (of_kept (CalmStep.of_parts rfl rfl rfl rfl id) (idleEnd_mk ..)) ?_
  exact foldl (fun s (a : Frame × After) => runAfter s a.2) _ _

theorem runHeld (n : Nat) (s : State) : IdleStep s (s.runHeld n) := by
  refine ⟨CalmStep.runHeld n s, fun hcalm hs => ?_⟩
  obtain ⟨hheld, -⟩ := hcalm
  have hdown : s.mgtUp = false := by
    by_contra hup
    have hfree := s.isHeld_of_mgtUp (by simpa using hup)
    rw [← s.runHeld_isHeld n, State.isHeld, hheld] at hfree
    exact Bool.noConfusion hfree
  cases n with
  | zero => exact hs
  | succ n =>
    unfold State.runHeld
    simpa [hdown] using hs

theorem reactedOnly (c : Bool) (srcs : List Nat) (s : State) : IdleStep s (srcs.foldl (fun s n => s.reactedOnly n c) s) :=
  of_kept (CalmStep.reactedOnly c srcs s) (s.reactedAll_idleEnd c srcs)

theorem holdReaction (s : State) (srcs : List Nat) : IdleStep s (s.holdReaction srcs) :=
  of_watch (s.holdReaction_watch srcs) (s.holdReaction_idleEnd srcs)

theorem reactSafe (s : State) (srcs : List Nat) : IdleStep s (s.reactSafe srcs) := by
  unfold State.reactSafe
  dsimp only
  generalize hu : ({ s with flt := _ } : State) = u
  have hsu : IdleStep s u := by
    subst hu
    exact of_watch (by unfold State.watch; rfl) (idleEnd_mk ..)
  refine hsu.trans ?_
  unfold State.enterSafe
  split
  · exact of_watch (by simp) (by simp)
  · refine of_not_calm (not_calm_of_modeNow ?_)
    simp [State.toSafe_modeNow]

theorem reactAsSafe (s : State) (srcs : List Nat) : IdleStep s (s.reactAsSafe srcs) := by
  unfold State.reactAsSafe
  refine trans (t := if s.paired && decide (s.parSt ≥ psShadowSync) then s.put F.FLT_STAT_UNFIT 1 else s)
    (ite (of_watch (State.put_watch ..) (s.put_idleEnd ..)) (refl s)) ?_
  exact ite (reactedOnly true srcs _) (reactSafe _ srcs)

theorem reactHandover (s : State) (srcs : List Nat) : IdleStep s (s.reactHandover srcs) := by
  unfold State.reactHandover
  refine ite (trans (t := State.startHandover _ none) ?_ (of_watch (State.updateAlive_watch _) (State.updateAlive_idleEnd _)))
    (reactAsSafe s srcs)
  exact of_not_calm (not_calm_of_handover rfl)

theorem reactIsland (s : State) (srcs : List Nat) : IdleStep s (s.reactIsland srcs) := by
  unfold State.reactIsland
  refine ite (ite (holdReaction s srcs) (ite (reactedOnly true srcs s) (reactSafe s srcs))) ?_
  refine trans ?_ (of_watch (State.updateAlive_watch _) (State.updateAlive_idleEnd _))
  refine trans ?_ (foldl islReset _ _)
  refine trans (of_watch ?_ (idleEnd_mk ..)) (of_watch (State.reactTaken_watch ..) (State.reactTaken_idleEnd ..))
  unfold State.watch
  rfl

theorem reactBy (s : State) (r : Nat) (srcs : List Nat) : IdleStep s (s.reactBy r srcs) := by
  unfold State.reactBy
  refine ite (reactedOnly false srcs s) (ite ?_ (ite (reactedOnly false srcs s) (ite (reactedOnly true srcs s) ?_)))
  · exact trans (of_watch (s.reactTaken_watch srcs 4) (s.reactTaken_idleEnd srcs 4)) (chipReset _ .cmd)
  refine ite (holdReaction s srcs) (ite (reactedOnly true srcs s) (ite (reactHandover s srcs) ?_))
  exact ite (ite (reactedOnly true srcs s) (reactSafe s srcs)) (reactIsland s srcs)

theorem settle (s : State) : IdleStep s s.settle := by
  unfold State.settle State.takeDue
  refine ite (refl s) (trans (t := { s with flt := { s.flt with due := [] } }) (of_watch ?_ (idleEnd_mk ..)) ?_)
  · unfold State.watch
    rfl
  · exact trans (reactedOnly true _ _) (ite (refl _) (reactBy _ _ _))

/-- The parts of the end of a step that send, and what follows from it. -/
theorem sent (s : State) :
    IdleStep s ((List.range 16).foldl State.winSweep s).txLooked.pairAnswer.romFlush.lostCommands.departed.runDue := by
  have hsweeps := foldl (fun u w => of_kept (CalmStep.winSweep u w) (u.winSweep_idleEnd w)) (List.range 16) s
  refine hsweeps.trans <| (of_kept (CalmStep.txLooked _) (State.txLooked_idleEnd _)).trans <|
    (of_kept (CalmStep.pairAnswer _) (State.pairAnswer_idleEnd _)).trans <|
    (of_kept (CalmStep.romFlush _) (State.romFlush_idleEnd _)).trans <|
    (of_kept (CalmStep.lostCommands _) (State.lostCommands_idleEnd _)).trans <|
    (of_kept (CalmStep.departed _) (idleEnd_mk ..)).trans (runDue _)

/-- What ends a step starts no idle time of a session. -/
theorem done (s : State) : IdleStep s s.done := by
  unfold State.done
  refine ite (refl s) ?_
  exact (of_kept (CalmStep.flowAll s) s.flowAll_idleEnd).trans <| (settle _).trans <| (sent _).trans <| (runHeld _ _).trans <|
    (of_kept (CalmStep.forget _) (idleEnd_mk ..)).trans (settle _)

end IdleStep

/-! ### The order -/

/-- A shadow in RECOVERY, its PIN reset held: session 1 is its own and not of the pair, and its idle time runs. -/
def shadowWithOwn : State :=
  (((({ mode := .recovery, isl := { rst := 0 }, boot := { held := true }, cmd := { sessions := [{ num := 1 }] },
        timers := [(.sessIdle 1, 5)] } : State).put F.CTL_PAIRADDR_PAIR_VALID 1).put F.PAR_STAT_STATE psShadow).put
      F.LNK_STATE_STATE 6 4)

/-- The partner closes a session 1 of the pair. -/
def closeOne : SessionOrder := { opened := false, sess := { num := 1 }, ok := true }

theorem shadowWithOwn_takes : (shadowWithOwn.takeOrder 0).2 = true := by decide +kernel

theorem closed_quiet : (shadowWithOwn.sessionIn 0 closeOne).quiet = true := by decide +kernel

theorem closed_idle : (shadowWithOwn.sessionIn 0 closeOne).idleEnd = some 5 := by decide +kernel

theorem closed_calm : (shadowWithOwn.sessionIn 0 closeOne).calm :=
  ⟨by decide +kernel, by decide +kernel, by decide +kernel, by decide +kernel, by decide +kernel⟩

/-- Refutes O35: the clause of a SESSION order that closes. The shadow drops the pair's session of the number and its timers, and has
none; the session that is its own keeps its idle time. No state `t` without that timer comes to the same end, for what ends a step
starts no idle time (`IdleStep.done`). -/
theorem not_pairOrders : ¬ Obligations.PairOrders := by
  intro h
  obtain ⟨-, -, -, -, -, -, -, -, hsession, -⟩ := h shadowWithOwn (shadowWithOwn.takeOrder 0).1 0
  obtain ⟨-, hclose⟩ := hsession (Prod.ext rfl shadowWithOwn_takes) closeOne rfl
  obtain ⟨t, hexec, -, hstopped, -⟩ := hclose rfl
  have ht : shadowWithOwn.sessionIn 0 closeOne = t.done := by
    rw [← State.done_of_quiet _ closed_quiet]
    injection hexec
  have hcalm := closed_calm
  have hidle := closed_idle
  rw [ht] at hcalm hidle
  have hnone : t.done.idleEnd = none := (IdleStep.done t).2 hcalm hstopped
  rw [hnone] at hidle
  exact absurd hidle (by decide)

end Sys2Proof.Machine
end

section
/-!
No command touches the marks of the boot steps (R410, R411): one lemma per operation that the end of a step may come to. Only the boot
itself writes the marks.
-/
namespace Sys2Proof.Machine

/-- The marks of the boot steps (R410). -/
def State.bootMarks (s : State) : Marks := s.boot.marks

theorem bootMarks_of_boot (s : State) : s.boot.marks = s.bootMarks := by
  unfold State.bootMarks; exact Eq.refl _
@[simp] theorem bootMarks_mk (now freeIx pending regs timers mode ringAcc mgt flt isl boot profiles pair cmd upd sec ingress sent sw lanes time sched snap ports clus engs wins cans macs hbr pchs wire bypHold) :
    (State.mk now freeIx pending regs timers mode ringAcc mgt flt isl boot profiles pair cmd upd sec ingress sent sw lanes time sched snap ports clus engs wins cans macs hbr pchs wire bypHold).bootMarks = boot.marks := by
  unfold State.bootMarks; exact Eq.refl _

/-! ### State -/

@[simp] theorem foldl_bootMarks {α : Type} (f : State → α → State) (h : ∀ s a, (f s a).bootMarks = s.bootMarks) (l : List α)
    (s : State) : (l.foldl f s).bootMarks = s.bootMarks := by
  induction l generalizing s with
  | nil => rfl
  | cons a l ih => simp [ih, h]
@[simp] theorem foldl_bootMarks_fst {α β : Type} (f : State × β → α → State × β) (h : ∀ p a, (f p a).1.bootMarks = p.1.bootMarks)
    (l : List α) (p : State × β) : (l.foldl f p).1.bootMarks = p.1.bootMarks := by
  induction l generalizing p with
  | nil => rfl
  | cons a l ih => simp [ih, h]

/-! ### Ops -/

@[simp] theorem State.wr_bootMarks (s : State) (r : Reg) (i : Nat) (j : Nat) (w : Word) :
    (State.wr s r i j w).bootMarks = s.bootMarks := by
  simp [↓bootMarks_of_boot, State.wr]
@[simp] theorem State.put_bootMarks (s : State) (f : Fld) (v : Nat) (i : Nat) (j : Nat) :
    (State.put s f v i j).bootMarks = s.bootMarks := by
  simp [State.put]
@[simp] theorem State.bump_bootMarks (s : State) (r : Reg) (i : Nat) (j : Nat) (n : Nat) :
    (State.bump s r i j n).bootMarks = s.bootMarks := by
  simp [State.bump]
@[simp] theorem State.sat_bootMarks (s : State) (f : Fld) (i : Nat) (j : Nat) : (State.sat s f i j).bootMarks = s.bootMarks := by
  simp [State.sat, apply_ite State.bootMarks]
@[simp] theorem State.timClocks_bootMarks (s : State) (n : Nat) : (State.timClocks s n).bootMarks = s.bootMarks := by
  simp [↓bootMarks_of_boot, State.timClocks, apply_ite State.bootMarks]
@[simp] theorem State.advance_bootMarks (s : State) (dt : Nat) : (State.advance s dt).bootMarks = s.bootMarks := by
  simp [↓bootMarks_of_boot, State.advance]
@[simp] theorem State.disarm_bootMarks (s : State) (t : Timer) : (State.disarm s t).bootMarks = s.bootMarks := by
  simp [↓bootMarks_of_boot, State.disarm]
@[simp] theorem State.arm_bootMarks (s : State) (t : Timer) (d : Nat) : (State.arm s t d).bootMarks = s.bootMarks := by
  simp [↓bootMarks_of_boot, State.arm]
theorem State.expire_bootMarks (s : State) (t : Timer) : ∀ tx, State.expire s t = some tx → tx.bootMarks = s.bootMarks := by
  unfold State.expire; split <;> simp
theorem State.expire_bootMarks_of (s : State) (t : Timer) {tx : State} (h : State.expire s t = some tx) : tx.bootMarks = s.bootMarks :=
  State.expire_bootMarks s t tx h
@[simp] theorem State.disarmAll_bootMarks (s : State) (p : Timer → Bool) : (State.disarmAll s p).bootMarks = s.bootMarks := by
  simp [↓bootMarks_of_boot, State.disarmAll]
@[simp] theorem State.fresh_bootMarks (s : State) : ((State.fresh s).2).bootMarks = s.bootMarks := by
  simp [↓bootMarks_of_boot, State.fresh]
theorem State.fresh_bootMarks_of (s : State) {sx : Word} {qx : State} (h : State.fresh s = (sx, qx)) : qx.bootMarks = s.bootMarks := by
  have e := State.fresh_bootMarks s
  rw [h] at e
  exact e
@[simp] theorem State.freshWords_bootMarks (x0 : Nat) (x1 : State) : ((State.freshWords x0 x1).2).bootMarks = x1.bootMarks := by
  induction x0 generalizing x1 <;> simp_all [State.freshWords]
theorem State.freshWords_bootMarks_of (x0 : Nat) (x1 : State) {sx : List Word} {qx : State} (h : State.freshWords x0 x1 = (sx, qx)) : qx.bootMarks = x1.bootMarks := by
  have e := State.freshWords_bootMarks x0 x1
  rw [h] at e
  exact e
@[simp] theorem State.freeIn_bootMarks (s : State) (lo : Nat) (hi : Nat) : ((State.freeIn s lo hi).2).bootMarks = s.bootMarks := by
  simp [↓bootMarks_of_boot, State.freeIn]
theorem State.freeIn_bootMarks_of (s : State) (lo : Nat) (hi : Nat) {sx : Nat} {qx : State} (h : State.freeIn s lo hi = (sx, qx)) : qx.bootMarks = s.bootMarks := by
  have e := State.freeIn_bootMarks s lo hi
  rw [h] at e
  exact e
@[simp] theorem State.enqueue_bootMarks (s : State) (x : UnitIn) : (State.enqueue s x).bootMarks = s.bootMarks := by
  simp [↓bootMarks_of_boot, State.enqueue]
@[simp] theorem State.emit_bootMarks (s : State) (f : Frame) (inPort : Nat) (slot : (Option Nat)) :
    (State.emit s f inPort slot).bootMarks = s.bootMarks := by
  simp [State.emit]
@[simp] theorem State.emitOut_bootMarks (s : State) (f : Frame) (inPort : Nat) :
    (State.emitOut s f inPort).bootMarks = s.bootMarks := by
  simp [↓bootMarks_of_boot, State.emitOut, apply_ite State.bootMarks]
@[simp] theorem State.mirrorOne_bootMarks (s : State) : (State.mirrorOne s).bootMarks = s.bootMarks := by
  unfold State.mirrorOne; split <;> simp [↓bootMarks_of_boot, apply_ite State.bootMarks]
@[simp] theorem State.log_bootMarks (s : State) (audit : Bool) (cls : Nat) (origin : Nat) (source : Nat) (code : Nat) (who : Who) (data : List Word) :
    (State.log s audit cls origin source code who data).bootMarks = s.bootMarks := by
  simp [↓bootMarks_of_boot, State.log, apply_ite State.bootMarks]

/-! ### Flags -/

@[simp] theorem State.updateAlive_bootMarks (s : State) : (State.updateAlive s).bootMarks = s.bootMarks := by
  simp [↓bootMarks_of_boot, State.updateAlive, apply_ite State.bootMarks]
@[simp] theorem State.faultPulse_bootMarks (s : State) : (State.faultPulse s).bootMarks = s.bootMarks := by
  unfold State.faultPulse; grind [bootMarks_mk, bootMarks_of_boot, → State.freeIn_bootMarks_of, State.arm_bootMarks, State.bump_bootMarks]
@[simp] theorem State.faultEvent_bootMarks (s : State) (kind : Nat) (src : Nat) (reaction : Nat) :
    (State.faultEvent s kind src reaction).bootMarks = s.bootMarks := by
  simp [↓bootMarks_of_boot, State.faultEvent, apply_ite State.bootMarks]
@[simp] theorem State.raiseEvent_bootMarks (s : State) (src : Nat) : (State.raiseEvent s src).bootMarks = s.bootMarks := by
  simp [↓bootMarks_of_boot, State.raiseEvent, apply_ite State.bootMarks]
@[simp] theorem State.faultRecord_bootMarks (s : State) (src : Nat) (raised : Bool) :
    (State.faultRecord s src raised).bootMarks = s.bootMarks := by
  simp [↓bootMarks_of_boot, State.faultRecord, apply_ite State.bootMarks]
@[simp] theorem State.raiseCore_bootMarks (s : State) (src : Nat) (inst : Nat) :
    (State.raiseCore s src inst).bootMarks = s.bootMarks := by
  simp [↓bootMarks_of_boot, State.raiseCore, apply_ite State.bootMarks]
@[simp] theorem State.raise_bootMarks (s : State) (src : Nat) (inst : Nat) : (State.raise s src inst).bootMarks = s.bootMarks := by
  simp [State.raise, apply_ite State.bootMarks]
@[simp] theorem State.setLive_bootMarks (s : State) (src : Nat) (inst : Nat) :
    (State.setLive s src inst).bootMarks = s.bootMarks := by
  simp [↓bootMarks_of_boot, State.setLive, apply_ite State.bootMarks]
@[simp] theorem State.clearLive_bootMarks (s : State) (src : Nat) (inst : Nat) :
    (State.clearLive s src inst).bootMarks = s.bootMarks := by
  simp [↓bootMarks_of_boot, State.clearLive, apply_ite State.bootMarks]

/-! ### SwitchOps -/

@[simp] theorem State.setUnit_bootMarks (s : State) (u : Nat) (v : VUnit) : (State.setUnit s u v).bootMarks = s.bootMarks := by
  simp [↓bootMarks_of_boot, State.setUnit]
@[simp] theorem State.setQueue_bootMarks (s : State) (q : Nat) (l : List Link) :
    (State.setQueue s q l).bootMarks = s.bootMarks := by
  simp [↓bootMarks_of_boot, State.setQueue]
@[simp] theorem State.setResidue_bootMarks (s : State) (q : Nat) (l : List ResEntry) :
    (State.setResidue s q l).bootMarks = s.bootMarks := by
  simp [↓bootMarks_of_boot, State.setResidue]
@[simp] theorem State.retireCell_bootMarks (s : State) (c : Nat) : (State.retireCell s c).bootMarks = s.bootMarks := by
  simp [↓bootMarks_of_boot, State.retireCell, apply_ite State.bootMarks]
@[simp] theorem State.gc_bootMarks (s : State) (u : Nat) : ((State.gc s u).1).bootMarks = s.bootMarks := by
  unfold State.gc; (repeat' split) <;> simp_all [↓bootMarks_of_boot]
theorem State.gc_bootMarks_of (s : State) (u : Nat) {sx : State} {qx : Nat} (h : State.gc s u = (sx, qx)) : sx.bootMarks = s.bootMarks := by
  have e := State.gc_bootMarks s u
  rw [h] at e
  exact e
@[simp] theorem State.notePeak_bootMarks (s : State) (q : Nat) : (State.notePeak s q).bootMarks = s.bootMarks := by
  simp [State.notePeak, apply_ite State.bootMarks]
@[simp] theorem State.linkQ_bootMarks (s : State) (q : Nat) (l : Link) : (State.linkQ s q l).bootMarks = s.bootMarks := by
  simp [State.linkQ]
@[simp] theorem State.holdFor_bootMarks (s : State) (u : Nat) (q : Nat) : (State.holdFor s u q).bootMarks = s.bootMarks := by
  simp [↓bootMarks_of_boot, State.holdFor]
@[simp] theorem State.loupeCopy_bootMarks (s : State) (m : Nat) (u : Nat) : (State.loupeCopy s m u).bootMarks = s.bootMarks := by
  unfold State.loupeCopy; grind [bootMarks_mk, bootMarks_of_boot, State.bump_bootMarks, State.setResidue_bootMarks, State.linkQ_bootMarks]
@[simp] theorem State.loupeMark_bootMarks (s : State) (m : Nat) (u : Nat) : (State.loupeMark s m u).bootMarks = s.bootMarks := by
  unfold State.loupeMark; split <;> simp
@[simp] theorem State.loupes_bootMarks (s : State) (u : Nat) (p : Nat) (egress : Bool) (f : Frame) :
    (State.loupes s u p egress f).bootMarks = s.bootMarks := by
  simp [State.loupes, apply_ite State.bootMarks]
@[simp] theorem State.linkUnit_bootMarks (s : State) (q : Nat) (u : Nat) (cut : Bool) :
    (State.linkUnit s q u cut).bootMarks = s.bootMarks := by
  unfold State.linkUnit; grind [bootMarks_mk, bootMarks_of_boot, → State.gc_bootMarks_of, State.bump_bootMarks, State.linkQ_bootMarks, State.loupes_bootMarks]
@[simp] theorem State.unblock_bootMarks (s : State) (q : Nat) (x2 : Nat) : (State.unblock s q x2).bootMarks = s.bootMarks := by
  (induction x2 generalizing s q) <;> (unfold State.unblock; (repeat' split)) <;> simp_all [↓bootMarks_of_boot]
@[simp] theorem State.unblockAll_bootMarks (s : State) (q : Nat) : (State.unblockAll s q).bootMarks = s.bootMarks := by
  simp [State.unblockAll]
@[simp] theorem State.residueTest_bootMarks (s : State) (q : Nat) (x2 : Nat) :
    (State.residueTest s q x2).bootMarks = s.bootMarks := by
  (induction x2 generalizing s q) <;> (unfold State.residueTest; (repeat' split)) <;> simp_all
@[simp] theorem State.unlink_bootMarks (s : State) (q : Nat) (u : Nat) (loupe : Option Nat) :
    ((State.unlink s q u loupe).1).bootMarks = s.bootMarks := by
  simp [State.unlink]
@[simp] theorem State.dropHolds_bootMarks (s : State) (p : Nat) : ((State.dropHolds s p).1).bootMarks = s.bootMarks := by
  simp [↓bootMarks_of_boot, State.dropHolds]
@[simp] theorem State.emptyQueue_bootMarks (s : State) (q : Nat) : ((State.emptyQueue s q).1).bootMarks = s.bootMarks := by
  simp [↓bootMarks_of_boot, State.emptyQueue]
@[simp] theorem State.emptyPort_bootMarks (s : State) (p : Nat) : ((State.emptyPort s p).1).bootMarks = s.bootMarks := by
  simp [State.emptyPort]
theorem State.emptyPort_bootMarks_of (s : State) (p : Nat) {sx : State} {qx : Nat} (h : State.emptyPort s p = (sx, qx)) : sx.bootMarks = s.bootMarks := by
  have e := State.emptyPort_bootMarks s p
  rw [h] at e
  exact e
@[simp] theorem State.transmit_bootMarks (s : State) (p : Nat) (f : Frame) (rind : Word) :
    (State.transmit s p f rind).bootMarks = s.bootMarks := by
  simp [↓bootMarks_of_boot, State.transmit, apply_ite State.bootMarks]
@[simp] theorem State.ruined_bootMarks (s : State) (u : Nat) : (State.ruined s u).bootMarks = s.bootMarks := by
  unfold State.ruined; split <;> simp [apply_ite State.bootMarks]
@[simp] theorem State.endCut_bootMarks (s : State) (p : Nat) : ((State.endCut s p).1).bootMarks = s.bootMarks := by
  unfold State.endCut; (repeat' split) <;> simp_all [↓bootMarks_of_boot]
theorem State.endCut_bootMarks_of (s : State) (p : Nat) {sx : State} {qx : Nat} (h : State.endCut s p = (sx, qx)) : sx.bootMarks = s.bootMarks := by
  have e := State.endCut_bootMarks s p
  rw [h] at e
  exact e
@[simp] theorem State.truncate_bootMarks (s : State) (p : Nat) : (State.truncate s p).bootMarks = s.bootMarks := by
  simp [State.truncate]
@[simp] theorem State.newUnit_bootMarks (s : State) (f : Frame) (inPort : Nat) (own : Bool) (complete : Bool) (authOk : Bool) (tier : Tier) (k : Nat) :
    ((State.newUnit s f inPort own complete authOk tier k).1).bootMarks = s.bootMarks := by
  simp [↓bootMarks_of_boot, State.newUnit]
@[simp] theorem State.admitUnit_bootMarks (s : State) (f : Frame) (inPort : Nat) (own complete authOk : Bool) (ds : List Dest) :
  (State.admitUnit s f inPort own complete authOk ds).1.bootMarks = s.bootMarks := by
  unfold State.admitUnit
  simp only
  split
  · simp
  · simp [apply_ite State.bootMarks]

/-! ### PressOps -/

@[simp] theorem State.setCtx_bootMarks (s : State) (k : Nat) (c : PressCtx) : (State.setCtx s k c).bootMarks = s.bootMarks := by
  simp [↓bootMarks_of_boot, State.setCtx]
@[simp] theorem State.declareLost_bootMarks (s : State) (k : Nat) (next : Nat) (cause : Nat) (runs : List (Nat × Nat)) :
    (State.declareLost s k next cause runs).bootMarks = s.bootMarks := by
  simp [↓bootMarks_of_boot, State.declareLost, apply_ite State.bootMarks]
@[simp] theorem State.linkWaiting_bootMarks (s : State) (u : Nat) (p : Nat → Bool) :
    (State.linkWaiting s u p).bootMarks = s.bootMarks := by
  simp [State.linkWaiting]
@[simp] theorem State.dropWaiting_bootMarks (s : State) (u : Nat) (p : Nat → Bool) :
    (State.dropWaiting s u p).bootMarks = s.bootMarks := by
  simp [↓bootMarks_of_boot, State.dropWaiting]
@[simp] theorem State.deliverLocal_bootMarks (s : State) (u : Nat) : (State.deliverLocal s u).bootMarks = s.bootMarks := by
  unfold State.deliverLocal; split <;> simp
@[simp] theorem State.discardLocal_bootMarks (s : State) (u : Nat) : (State.discardLocal s u).bootMarks = s.bootMarks := by
  simp [State.discardLocal]
@[simp] theorem State.pressAdvance_bootMarks (s : State) (k : Nat) (n : Nat) :
    (State.pressAdvance s k n).bootMarks = s.bootMarks := by
  unfold State.pressAdvance; split <;> simp
@[simp] theorem State.pressDrain_bootMarks (s : State) (k : Nat) (x2 : Nat) :
    (State.pressDrain s k x2).bootMarks = s.bootMarks := by
  (induction x2 generalizing s k) <;> (unfold State.pressDrain; (repeat' split)) <;> simp_all
@[simp] theorem State.startWait_bootMarks (s : State) (k : Nat) (t : Nat) : (State.startWait s k t).bootMarks = s.bootMarks := by
  unfold State.startWait; split <;> simp [↓bootMarks_of_boot]
@[simp] theorem State.pressTimer_bootMarks (s : State) (k : Nat) : (State.pressTimer s k).bootMarks = s.bootMarks := by
  unfold State.pressTimer; (repeat' split) <;> simp_all [apply_ite State.bootMarks]
@[simp] theorem State.pressTouch_bootMarks (s : State) (k : Nat) : (State.pressTouch s k).bootMarks = s.bootMarks := by
  simp [State.pressTouch]
@[simp] theorem State.freeCtx_bootMarks (s : State) (k : Nat) : (State.freeCtx s k).bootMarks = s.bootMarks := by
  unfold State.freeCtx; (repeat' split) <;> simp_all [↓bootMarks_of_boot]
@[simp] theorem State.roomForCtx_bootMarks (s : State) : (State.roomForCtx s).bootMarks = s.bootMarks := by
  unfold State.roomForCtx; (repeat' split) <;> simp_all
@[simp] theorem State.pressWindow_bootMarks (s : State) (k : Nat) (u : Nat) (q : Nat) :
    (State.pressWindow s k u q).bootMarks = s.bootMarks := by
  unfold State.pressWindow; grind [State.setCtx_bootMarks, State.deliverLocal_bootMarks, State.pressDrain_bootMarks, State.pressTimer_bootMarks, State.pressTouch_bootMarks, State.discardLocal_bootMarks, State.bump_bootMarks, State.startWait_bootMarks]
@[simp] theorem State.pressArrive_bootMarks (s : State) (u : Nat) (f : Frame) :
    (State.pressArrive s u f).bootMarks = s.bootMarks := by
  unfold State.pressArrive; grind [bootMarks_mk, bootMarks_of_boot, State.roomForCtx_bootMarks, State.pressTouch_bootMarks, State.deliverLocal_bootMarks, State.setCtx_bootMarks, State.pressWindow_bootMarks, State.declareLost_bootMarks, State.pressDrain_bootMarks, State.pressAdvance_bootMarks, State.pressTimer_bootMarks, State.bump_bootMarks, State.discardLocal_bootMarks]
@[simp] theorem State.transitEnd_bootMarks (s : State) (f : Frame) (u : Nat) (good : Bool) :
    (State.transitEnd s f u good).bootMarks = s.bootMarks := by
  simp only [State.transitEnd]; (repeat' split) <;> simp_all

/-! ### OrderOps -/

@[simp] theorem State.orderedSet_bootMarks (s : State) (d1 : BitVec 8) (d2 : BitVec 8) (d3 : BitVec 8) :
    (State.orderedSet s d1 d2 d3).bootMarks = s.bootMarks := by
  simp [↓bootMarks_of_boot, State.orderedSet]
@[simp] theorem State.orderSet_bootMarks (s : State) (d1 : BitVec 8) (on : Nat) :
    (State.orderSet s d1 on).bootMarks = s.bootMarks := by
  simp [State.orderSet]
@[simp] theorem State.privateWords_bootMarks (s : State) : ((State.privateWords s).2).bootMarks = s.bootMarks := by
  simp [State.privateWords]
@[simp] theorem State.startTransfer_bootMarks (s : State) : (State.startTransfer s).bootMarks = s.bootMarks := by
  simp [↓bootMarks_of_boot, State.startTransfer]
@[simp] theorem State.twinDown_bootMarks (s : State) : (State.twinDown s).bootMarks = s.bootMarks := by
  simp [↓bootMarks_of_boot, State.twinDown]
@[simp] theorem State.transferAgain_bootMarks (s : State) : (State.transferAgain s).bootMarks = s.bootMarks := by
  simp [↓bootMarks_of_boot, State.transferAgain, apply_ite State.bootMarks]
@[simp] theorem State.placeOrder_bootMarks (s : State) (f : Frame) : (State.placeOrder s f).bootMarks = s.bootMarks := by
  simp [↓bootMarks_of_boot, State.placeOrder, apply_ite State.bootMarks]
@[simp] theorem State.sendOrder_bootMarks (s : State) (f : Frame) : (State.sendOrder s f).bootMarks = s.bootMarks := by
  simp [↓bootMarks_of_boot, State.sendOrder, apply_ite State.bootMarks]
@[simp] theorem State.sendPairOrder_bootMarks (s : State) (kind : Nat) (ws : List Word) :
    (State.sendPairOrder s kind ws).bootMarks = s.bootMarks := by
  simp [State.sendPairOrder]
@[simp] theorem State.progressOrder_bootMarks (s : State) (port : Nat) (outcome : Nat) (seq : BitVec 16) :
    (State.progressOrder s port outcome seq).bootMarks = s.bootMarks := by
  simp [State.progressOrder]
@[simp] theorem State.channelOrder_bootMarks (s : State) (c : Nat) (what : Nat) (code : Nat) :
    (State.channelOrder s c what code).bootMarks = s.bootMarks := by
  simp [State.channelOrder]
@[simp] theorem State.sessionOrder_bootMarks (s : State) : (State.sessionOrder s).bootMarks = s.bootMarks := by
  simp [State.sessionOrder, apply_ite State.bootMarks]

/-! ### RouteOps -/

@[simp] theorem State.setLane_bootMarks (s : State) (l : Nat) (x : LaneS) : (State.setLane s l x).bootMarks = s.bootMarks := by
  simp [↓bootMarks_of_boot, State.setLane]
@[simp] theorem State.spendSessions_bootMarks (s : State) : (State.spendSessions s).bootMarks = s.bootMarks := by
  simp [↓bootMarks_of_boot, State.spendSessions, apply_ite State.bootMarks]
@[simp] theorem State.takeSeq_bootMarks (s : State) (f : Frame) : ((State.takeSeq s f).2).bootMarks = s.bootMarks := by
  simp [↓bootMarks_of_boot, State.takeSeq]
theorem State.takeSeq_bootMarks_of (s : State) (f : Frame) {sx : Frame} {qx : State} (h : State.takeSeq s f = (sx, qx)) : qx.bootMarks = s.bootMarks := by
  have e := State.takeSeq_bootMarks s f
  rw [h] at e
  exact e
@[simp] theorem State.sealFrame_bootMarks (s : State) (slot : Option Nat) (f : Frame) :
    ((State.sealFrame s slot f).2).bootMarks = s.bootMarks := by
  simp [↓bootMarks_of_boot, State.sealFrame]
theorem State.sealFrame_bootMarks_of (s : State) (slot : Option Nat) (f : Frame) {sx : Frame} {qx : State} (h : State.sealFrame s slot f = (sx, qx)) : qx.bootMarks = s.bootMarks := by
  have e := State.sealFrame_bootMarks s slot f
  rw [h] at e
  exact e
@[simp] theorem State.macCount_bootMarks (s : State) (m : Nat) (k : Nat) (n : Nat) :
    (State.macCount s m k n).bootMarks = s.bootMarks := by
  simp [State.macCount, apply_ite State.bootMarks]
@[simp] theorem State.txResult_bootMarks (s : State) (x : UnitIn) (st : Status) (seq : BitVec 16) :
    (State.txResult s x st seq).bootMarks = s.bootMarks := by
  simp [↓bootMarks_of_boot, State.txResult, apply_ite State.bootMarks]
@[simp] theorem State.fwdRead_bootMarks (s : State) (k : Nat) : (State.fwdRead s k).bootMarks = s.bootMarks := by
  simp [↓bootMarks_of_boot, State.fwdRead, apply_ite State.bootMarks]
@[simp] theorem State.ueMet_bootMarks (s : State) (w : Nat) : (State.ueMet s w).bootMarks = s.bootMarks := by
  simp [↓bootMarks_of_boot, State.ueMet, apply_ite State.bootMarks]
@[simp] theorem State.ceMet_bootMarks (s : State) (w : Nat) (n : Nat) : (State.ceMet s w n).bootMarks = s.bootMarks := by
  simp [State.ceMet]
@[simp] theorem State.meetWords_bootMarks (s : State) (ws : List Nat) : (State.meetWords s ws).bootMarks = s.bootMarks := by
  unfold State.meetWords
  refine foldl_bootMarks _ (fun s w => ?_) _ _
  split
  · simp
  · split <;> simp
@[simp] theorem State.meetUnit_bootMarks (s : State) (v : VUnit) : (State.meetUnit s v).bootMarks = s.bootMarks := by
  simp [State.meetUnit]
@[simp] theorem State.endSend_bootMarks (s : State) (p u : Nat) (v : VUnit) (rind : Word) :
    (State.endSend s p u v rind).bootMarks = s.bootMarks := by
  unfold State.endSend
  dsimp only
  split <;> simp
@[simp] theorem State.endCuts_bootMarks (s : State) (u : Nat) (v : VUnit) (rind : Word) :
    (State.endCuts s u v rind).bootMarks = s.bootMarks := by
  simp [↓bootMarks_of_boot, State.endCuts]
@[simp] theorem State.purgeBad_bootMarks (s : State) (u : Nat) : (State.purgeBad s u).bootMarks = s.bootMarks := by
  simp [↓bootMarks_of_boot, State.purgeBad]
@[simp] theorem State.repeatOut_bootMarks (s : State) (l : Nat) (f : Frame) (rind : Word) :
    (State.repeatOut s l f rind).bootMarks = s.bootMarks := by
  simp [↓bootMarks_of_boot, State.repeatOut]
@[simp] theorem State.countEnd_bootMarks (s : State) (l : Nat) (f : Frame) (t : Tail) (ou : Option Nat) :
    (State.countEnd s l f t ou).bootMarks = s.bootMarks := by
  simp [State.countEnd, apply_ite State.bootMarks]
@[simp] theorem State.frameEnd_bootMarks (s : State) (l : Nat) (t : Tail) : (State.frameEnd s l t).bootMarks = s.bootMarks := by
  unfold State.frameEnd; grind [bootMarks_mk, bootMarks_of_boot, State.bump_bootMarks, State.repeatOut_bootMarks, State.countEnd_bootMarks, State.transitEnd_bootMarks, State.setUnit_bootMarks, State.endCuts_bootMarks, → State.gc_bootMarks_of, State.purgeBad_bootMarks, State.pressArrive_bootMarks, State.deliverLocal_bootMarks]
@[simp] theorem State.takeLocal_bootMarks (s : State) (p : Nat) : ((State.takeLocal s p).1).bootMarks = s.bootMarks := by
  simp only [State.takeLocal]; (repeat' split) <;> simp_all
theorem State.takeLocal_bootMarks_of (s : State) (p : Nat) {sx : State} {qx : Option (VUnit × Link)} (h : State.takeLocal s p = (sx, qx)) : sx.bootMarks = s.bootMarks := by
  have e := State.takeLocal_bootMarks s p
  rw [h] at e
  exact e
@[simp] theorem State.captureStart_bootMarks (s : State) : (State.captureStart s).bootMarks = s.bootMarks := by
  simp [↓bootMarks_of_boot, State.captureStart]
@[simp] theorem State.fwdCopy_bootMarks (s : State) : (State.fwdCopy s).bootMarks = s.bootMarks := by
  simp [↓bootMarks_of_boot, State.fwdCopy]
@[simp] theorem State.fwdCommit_bootMarks (s : State) : (State.fwdCommit s).bootMarks = s.bootMarks := by
  simp [State.fwdCommit]
@[simp] theorem State.gapRemove_bootMarks (s : State) : (State.gapRemove s).bootMarks = s.bootMarks := by
  simp [↓bootMarks_of_boot, State.gapRemove]

/-! ### LinkOps -/

@[simp] theorem State.setLst_bootMarks (s : State) (l : Nat) (st : Nat) : (State.setLst s l st).bootMarks = s.bootMarks := by
  simp [State.setLst]
@[simp] theorem State.sendLink_bootMarks (s : State) (l : Nat) (sub : BitVec 8) :
    (State.sendLink s l sub).bootMarks = s.bootMarks := by
  simp [State.sendLink]
@[simp] theorem State.modRun_bootMarks (s : State) (l : Nat) : (State.modRun s l).bootMarks = s.bootMarks := by
  unfold State.modRun
  dsimp only
  (repeat' split) <;> simp
@[simp] theorem State.setRate_bootMarks (s : State) (l : Nat) : (State.setRate s l).bootMarks = s.bootMarks := by
  simp [State.setRate, apply_ite State.bootMarks]
@[simp] theorem State.fullRate_bootMarks (s : State) (l : Nat) : (State.fullRate s l).bootMarks = s.bootMarks := by
  simp [State.fullRate]
@[simp] theorem State.enterNoSignal_bootMarks (s : State) (l : Nat) : (State.enterNoSignal s l).bootMarks = s.bootMarks := by
  simp [State.enterNoSignal]
@[simp] theorem State.laneStart_bootMarks (s : State) (l : Nat) : (State.laneStart s l).bootMarks = s.bootMarks := by
  simp [State.laneStart, apply_ite State.bootMarks]
@[simp] theorem State.spurJoin_bootMarks (s : State) : (State.spurJoin s).bootMarks = s.bootMarks := by
  simp [↓bootMarks_of_boot, State.spurJoin, apply_ite State.bootMarks]
@[simp] theorem State.dropLane_bootMarks (s : State) (l : Nat) : (State.dropLane s l).bootMarks = s.bootMarks := by
  simp [State.dropLane]
@[simp] theorem State.cutLane_bootMarks (s : State) (l : Nat) : (State.cutLane s l).bootMarks = s.bootMarks := by
  unfold State.cutLane
  extract_lets s1 s2
  have h2 : s2.bootMarks = s.bootMarks := by
    simp only [s2]
    (repeat' split) <;> simp [s1]
  clear_value s2
  split <;> simp [h2]
@[simp] theorem State.declareDown_bootMarks (s : State) (l : Nat) : (State.declareDown s l).bootMarks = s.bootMarks := by
  simp [State.declareDown, apply_ite State.bootMarks]
@[simp] theorem State.laneOff_bootMarks (s : State) (l : Nat) : (State.laneOff s l).bootMarks = s.bootMarks := by
  simp [State.laneOff, apply_ite State.bootMarks]
@[simp] theorem State.laneDisable_bootMarks (s : State) (l : Nat) : (State.laneDisable s l).bootMarks = s.bootMarks := by
  simp [State.laneDisable, apply_ite State.bootMarks]
@[simp] theorem State.sayLeaving_bootMarks (s : State) (ls : List Nat) : (State.sayLeaving s ls).bootMarks = s.bootMarks := by
  simp [State.sayLeaving, apply_ite State.bootMarks]
@[simp] theorem State.retrain_bootMarks (s : State) (l : Nat) : (State.retrain s l).bootMarks = s.bootMarks := by
  simp [State.retrain, apply_ite State.bootMarks]
@[simp] theorem State.holdEnd_bootMarks (s : State) (l : Nat) : (State.holdEnd s l).bootMarks = s.bootMarks := by
  simp [State.holdEnd, apply_ite State.bootMarks]
@[simp] theorem State.repeatJoin_bootMarks (s : State) : (State.repeatJoin s).bootMarks = s.bootMarks := by
  simp [↓bootMarks_of_boot, State.repeatJoin, apply_ite State.bootMarks]

/-! ### TimeOps -/

@[simp] theorem State.wordsInvalid_bootMarks (s : State) : (State.wordsInvalid s).bootMarks = s.bootMarks := by
  simp [↓bootMarks_of_boot, State.wordsInvalid]
@[simp] theorem State.pendStep_bootMarks (s : State) (seq : Nat) (v : Word) (at_ : Word) (t : Nat) :
    (State.pendStep s seq v at_ t).bootMarks = s.bootMarks := by
  simp [↓bootMarks_of_boot, State.pendStep]
@[simp] theorem State.timeRate_bootMarks (s : State) (v : Word) : ((State.timeRate s v).2).bootMarks = s.bootMarks := by
  unfold State.timeRate; (repeat' split) <;> simp_all
@[simp] theorem State.timeStep_bootMarks (s : State) (v : Word) : ((State.timeStep s v).2).bootMarks = s.bootMarks := by
  unfold State.timeStep; (repeat' split) <;> simp_all
@[simp] theorem State.stepRearm_bootMarks (s : State) : (State.stepRearm s).bootMarks = s.bootMarks := by
  simp [State.stepRearm]
@[simp] theorem State.startListen_bootMarks (s : State) : (State.startListen s).bootMarks = s.bootMarks := by
  simp [State.startListen, apply_ite State.bootMarks]
@[simp] theorem State.enterEntry_bootMarks (s : State) (n : Nat) (e : Entry) :
    (State.enterEntry s n e).bootMarks = s.bootMarks := by
  simp [↓bootMarks_of_boot, State.enterEntry, apply_ite State.bootMarks]
@[simp] theorem State.dropEntry_bootMarks (s : State) (n : Nat) : (State.dropEntry s n).bootMarks = s.bootMarks := by
  simp [↓bootMarks_of_boot, State.dropEntry]
@[simp] theorem State.fireEvent_bootMarks (s : State) (n : Nat) (e : Entry) (outcome : Status) (cancelled : Bool) (results : List Word) :
    (State.fireEvent s n e outcome cancelled results).bootMarks = s.bootMarks := by
  simp [State.fireEvent]
@[simp] theorem State.cancelEntry_bootMarks (s : State) (force : Bool) (n : Nat) :
    (State.cancelEntry s force n).bootMarks = s.bootMarks := by
  unfold State.cancelEntry; split <;> simp [apply_ite State.bootMarks]
@[simp] theorem State.cancelForSafe_bootMarks (s : State) : (State.cancelForSafe s).bootMarks = s.bootMarks := by
  simp [State.cancelForSafe]
@[simp] theorem State.markSeen_bootMarks (s : State) (id : Nat) (t : Word) : (State.markSeen s id t).bootMarks = s.bootMarks := by
  simp [↓bootMarks_of_boot, State.markSeen]
@[simp] theorem State.floodSnap_bootMarks (s : State) (id : Nat) (t : Word) (node : BitVec 24) (but : Option Nat) :
    (State.floodSnap s id t node but).bootMarks = s.bootMarks := by
  simp [State.floodSnap, apply_ite State.bootMarks]
@[simp] theorem State.keepCounters_bootMarks (s : State) (i : Nat) : (State.keepCounters s i).bootMarks = s.bootMarks := by
  simp [↓bootMarks_of_boot, State.keepCounters]
@[simp] theorem State.timCleared_bootMarks (s : State) : (State.timCleared s).bootMarks = s.bootMarks := by
  simp [↓bootMarks_of_boot, State.timCleared]

/-! ### ClusterOps -/

@[simp] theorem State.setClu_bootMarks (s : State) (k : Nat) (x : CluS) : (State.setClu s k x).bootMarks = s.bootMarks := by
  simp [↓bootMarks_of_boot, State.setClu]
@[simp] theorem State.setEng_bootMarks (s : State) (n : Nat) (x : EngS) : (State.setEng s n x).bootMarks = s.bootMarks := by
  simp [↓bootMarks_of_boot, State.setEng]
@[simp] theorem State.eput_bootMarks (s : State) (f : Fld) (v : Nat) (n : Nat) : (State.eput s f v n).bootMarks = s.bootMarks := by
  simp [State.eput]
@[simp] theorem State.settleAt_bootMarks (s : State) (k : Nat) (t : Nat) : (State.settleAt s k t).bootMarks = s.bootMarks := by
  simp [State.settleAt, apply_ite State.bootMarks]
@[simp] theorem State.settleNet_bootMarks (s : State) (k : Nat) : (State.settleNet s k).bootMarks = s.bootMarks := by
  simp [State.settleNet]
@[simp] theorem State.setLatch_bootMarks (s : State) (k : Nat) (latch : Word) (dirs : Word) :
    (State.setLatch s k latch dirs).bootMarks = s.bootMarks := by
  simp [State.setLatch]
@[simp] theorem State.acceptLevel_bootMarks (s : State) (k : Nat) (p : Nat) :
    (State.acceptLevel s k p).bootMarks = s.bootMarks := by
  simp [State.acceptLevel, apply_ite State.bootMarks]
@[simp] theorem State.pinCfgWritten_bootMarks (s : State) (k : Nat) (p : Nat) (old : Word) :
    (State.pinCfgWritten s k p old).bootMarks = s.bootMarks := by
  unfold State.pinCfgWritten; grind [State.setClu_bootMarks, State.settleNet_bootMarks, State.acceptLevel_bootMarks, State.disarm_bootMarks, State.arm_bootMarks]
@[simp] theorem State.setDout_bootMarks (s : State) (k : Nat) (w : Word) : (State.setDout s k w).bootMarks = s.bootMarks := by
  unfold State.setDout; simp only; split <;> simp
@[simp] theorem State.bankCompare_bootMarks (s : State) (k : Nat) : (State.bankCompare s k).bootMarks = s.bootMarks := by
  simp [State.bankCompare, apply_ite State.bootMarks]
@[simp] theorem State.cluCfgWritten_bootMarks (s : State) (k : Nat) (old : Word) :
    (State.cluCfgWritten s k old).bootMarks = s.bootMarks := by
  simp [State.cluCfgWritten]
@[simp] theorem State.fillTxq_bootMarks (s : State) (n : Nat) : (State.fillTxq s n).bootMarks = s.bootMarks := by
  simp [State.fillTxq]
@[simp] theorem State.notePoison_bootMarks (s : State) (n : Nat) (w : QWord) :
    (State.notePoison s n w).bootMarks = s.bootMarks := by
  simp [State.notePoison, apply_ite State.bootMarks]
@[simp] theorem State.stopEngine_bootMarks (s : State) (n : Nat) (cause : Nat) :
    (State.stopEngine s n cause).bootMarks = s.bootMarks := by
  simp [State.stopEngine, apply_ite State.bootMarks]
@[simp] theorem State.startEngine_bootMarks (s : State) (n : Nat) (pc : Nat) (after : Nat) :
    (State.startEngine s n pc after).bootMarks = s.bootMarks := by
  simp [State.startEngine, apply_ite State.bootMarks]
@[simp] theorem State.clearEngine_bootMarks (s : State) (n : Nat) : (State.clearEngine s n).bootMarks = s.bootMarks := by
  simp [State.clearEngine]
@[simp] theorem State.clkRestart_bootMarks (s : State) (k : Nat) : (State.clkRestart s k).bootMarks = s.bootMarks := by
  simp [State.clkRestart]
@[simp] theorem State.startMask_bootMarks (s : State) (k : Nat) (m : Nat) : (State.startMask s k m).bootMarks = s.bootMarks := by
  simp [State.startMask]
@[simp] theorem State.stopMask_bootMarks (s : State) (k : Nat) (m : Nat) : (State.stopMask s k m).bootMarks = s.bootMarks := by
  simp [State.stopMask]
@[simp] theorem State.injectWrite_bootMarks (s : State) (n : Nat) (w : Word) :
    (State.injectWrite s n w).bootMarks = s.bootMarks := by
  simp [State.injectWrite]
@[simp] theorem State.cluSafe_bootMarks (s : State) (k : Nat) : (State.cluSafe s k).bootMarks = s.bootMarks := by
  simp [State.cluSafe]
@[simp] theorem State.cluCommission_bootMarks (s : State) : (State.cluCommission s).bootMarks = s.bootMarks := by
  simp [State.cluCommission]
@[simp] theorem State.settleAll_bootMarks (s : State) : (State.settleAll s).bootMarks = s.bootMarks := by
  simp [State.settleAll]
@[simp] theorem State.cluCleared_bootMarks (s : State) (k : Nat) : (State.cluCleared s k).bootMarks = s.bootMarks := by
  simp [↓bootMarks_of_boot, State.cluCleared]

/-! ### FacetOps -/

@[simp] theorem State.setOsr_bootMarks (s : State) (n : Nat) (w : Word) (cnt : Nat) :
    (State.setOsr s n w cnt).bootMarks = s.bootMarks := by
  simp [State.setOsr]
@[simp] theorem State.setIsr_bootMarks (s : State) (n : Nat) (w : Word) (cnt : Nat) :
    (State.setIsr s n w cnt).bootMarks = s.bootMarks := by
  simp [State.setIsr]
@[simp] theorem State.setX_bootMarks (s : State) (n : Nat) (v : Nat) : (State.setX s n v).bootMarks = s.bootMarks := by
  simp [State.setX]
@[simp] theorem State.setY_bootMarks (s : State) (n : Nat) (v : Nat) : (State.setY s n v).bootMarks = s.bootMarks := by
  simp [State.setY]
@[simp] theorem State.setPattern_bootMarks (s : State) (n : Nat) (w : Word) : (State.setPattern s n w).bootMarks = s.bootMarks := by
  simp [State.setPattern]
@[simp] theorem State.setCrc_bootMarks (s : State) (n : Nat) (w : Word) : (State.setCrc s n w).bootMarks = s.bootMarks := by
  simp [State.setCrc]
@[simp] theorem State.driveLatch_bootMarks (s : State) (n : Nat) (v : Word) : (State.driveLatch s n v).bootMarks = s.bootMarks := by
  simp [State.driveLatch]
@[simp] theorem State.setDirs_bootMarks (s : State) (n : Nat) (v : Word) : (State.setDirs s n v).bootMarks = s.bootMarks := by
  simp [State.setDirs]
@[simp] theorem State.dstReg_bootMarks (s : State) (n : Nat) (c : Nat) (v : Word) :
    (State.dstReg s n c v).bootMarks = s.bootMarks := by
  unfold State.dstReg; split <;> simp
@[simp] theorem State.crcFeed_bootMarks (s : State) (n : Nat) (v : Word) (m : Nat) :
    (State.crcFeed s n v m).bootMarks = s.bootMarks := by
  simp [State.crcFeed]
@[simp] theorem State.giveWord_bootMarks (s : State) (n : Nat) (w : Word) (last : Bool) (bad : Bool) :
    (State.giveWord s n w last bad).bootMarks = s.bootMarks := by
  simp [State.giveWord, apply_ite State.bootMarks]
@[simp] theorem State.opShiftin_bootMarks (s : State) (n : Nat) (w : Word) :
    ((State.opShiftin s n w).1).bootMarks = s.bootMarks := by
  unfold State.opShiftin; split <;> simp [apply_ite State.bootMarks]
@[simp] theorem State.opShiftout_bootMarks (s : State) (n : Nat) (w : Word) :
    ((State.opShiftout s n w).1).bootMarks = s.bootMarks := by
  unfold State.opShiftout; (repeat' split) <;> simp_all
@[simp] theorem State.opTake_bootMarks (s : State) (n : Nat) (w : Word) : ((State.opTake s n w).1).bootMarks = s.bootMarks := by
  unfold State.opTake; grind [bootMarks_mk, bootMarks_of_boot, State.setEng_bootMarks, State.notePoison_bootMarks, State.setOsr_bootMarks, State.setX_bootMarks, State.setY_bootMarks, State.setPattern_bootMarks]
@[simp] theorem State.opGive_bootMarks (s : State) (n : Nat) (w : Word) : ((State.opGive s n w).1).bootMarks = s.bootMarks := by
  simp [State.opGive, apply_ite State.bootMarks]
@[simp] theorem State.opHold_bootMarks (s : State) (n : Nat) (w : Word) : ((State.opHold s n w).1).bootMarks = s.bootMarks := by
  unfold State.opHold; split <;> simp [apply_ite State.bootMarks]
@[simp] theorem State.opBranch_bootMarks (s : State) (n : Nat) (w : Word) : ((State.opBranch s n w).1).bootMarks = s.bootMarks := by
  simp [State.opBranch]
@[simp] theorem State.opLoop_bootMarks (s : State) (n : Nat) (w : Word) : ((State.opLoop s n w).1).bootMarks = s.bootMarks := by
  unfold State.opLoop; (repeat' split) <;> simp_all
@[simp] theorem State.opLoad_bootMarks (s : State) (n : Nat) (w : Word) : ((State.opLoad s n w).1).bootMarks = s.bootMarks := by
  unfold State.opLoad; split <;> simp
@[simp] theorem State.opMove_bootMarks (s : State) (n : Nat) (w : Word) : ((State.opMove s n w).1).bootMarks = s.bootMarks := by
  unfold State.opMove; (repeat' split) <;> simp_all [apply_ite State.bootMarks]
@[simp] theorem State.opDrive_bootMarks (s : State) (n : Nat) (w : Word) : ((State.opDrive s n w).1).bootMarks = s.bootMarks := by
  simp [State.opDrive]
@[simp] theorem State.opDir_bootMarks (s : State) (n : Nat) (w : Word) : ((State.opDir s n w).1).bootMarks = s.bootMarks := by
  simp [State.opDir]
@[simp] theorem State.opSignal_bootMarks (s : State) (n : Nat) (w : Word) : ((State.opSignal s n w).1).bootMarks = s.bootMarks := by
  simp [State.opSignal]
@[simp] theorem State.opCrc_bootMarks (s : State) (n : Nat) (w : Word) : ((State.opCrc s n w).1).bootMarks = s.bootMarks := by
  unfold State.opCrc; split <;> simp [apply_ite State.bootMarks]
@[simp] theorem State.opMatch_bootMarks (s : State) (n : Nat) (w : Word) : ((State.opMatch s n w).1).bootMarks = s.bootMarks := by
  unfold State.opMatch; split <;> simp
@[simp] theorem State.opStamp_bootMarks (s : State) (n : Nat) (w : Word) : ((State.opStamp s n w).1).bootMarks = s.bootMarks := by
  unfold State.opStamp; split <;> simp
@[simp] theorem State.opHalt_bootMarks (s : State) (_n : Nat) (_w : Word) : ((State.opHalt s _n _w).1).bootMarks = s.bootMarks := by
  simp [State.opHalt]
@[simp] theorem State.opNop_bootMarks (s : State) (_n : Nat) (_w : Word) : ((State.opNop s _n _w).1).bootMarks = s.bootMarks := by
  simp [State.opNop]
@[simp] theorem State.flow_bootMarks (s : State) (n : Nat) (f : Flow) : (State.flow s n f).bootMarks = s.bootMarks := by
  unfold State.flow; split <;> simp
@[simp] theorem State.operate_bootMarks (s : State) (n : Nat) (w : Word) : ((State.operate s n w).1).bootMarks = s.bootMarks := by
  unfold State.operate; (repeat' split) <;> simp_all
@[simp] theorem State.flushTx_bootMarks (s : State) (n : Nat) : (State.flushTx s n).bootMarks = s.bootMarks := by
  unfold State.flushTx; grind [bootMarks_mk, bootMarks_of_boot, State.setEng_bootMarks, State.wr_bootMarks, State.flow_bootMarks, State.eput_bootMarks]
@[simp] theorem State.flushRx_bootMarks (s : State) (n : Nat) : (State.flushRx s n).bootMarks = s.bootMarks := by
  simp [State.flushRx, apply_ite State.bootMarks]

/-! ### CanOps -/

@[simp] theorem State.setCan_bootMarks (s : State) (n : Nat) (x : CanS) : (State.setCan s n x).bootMarks = s.bootMarks := by
  simp [↓bootMarks_of_boot, State.setCan]
@[simp] theorem State.canLose_bootMarks (s : State) (n : Nat) (count : Nat) :
    (State.canLose s n count).bootMarks = s.bootMarks := by
  simp [State.canLose]
@[simp] theorem State.canClose_bootMarks (s : State) (n : Nat) : (State.canClose s n).bootMarks = s.bootMarks := by
  simp [State.canClose, apply_ite State.bootMarks]
@[simp] theorem State.canPackRec_bootMarks (s : State) (n : Nat) (time : Word) (alone : Bool) (ws : List Word) :
    (State.canPackRec s n time alone ws).bootMarks = s.bootMarks := by
  simp [State.canPackRec, apply_ite State.bootMarks]
@[simp] theorem State.canDeliver_bootMarks (s : State) (n : Nat) (hdr : List Word) (data : List Byte) :
    (State.canDeliver s n hdr data).bootMarks = s.bootMarks := by
  simp [State.canDeliver, apply_ite State.bootMarks]
@[simp] theorem State.canLoad_bootMarks (s : State) (n : Nat) (t : CanTx) : (State.canLoad s n t).bootMarks = s.bootMarks := by
  simp [State.canLoad]
@[simp] theorem State.canFillAt_bootMarks (s : State) (n : Nat) (at_ : Nat) :
    (State.canFillAt s n at_).bootMarks = s.bootMarks := by
  unfold State.canFillAt; grind [bootMarks_mk, bootMarks_of_boot, State.canLoad_bootMarks, State.setCan_bootMarks, → State.takeLocal_bootMarks_of]
@[simp] theorem State.canFill_bootMarks (s : State) (n : Nat) : (State.canFill s n).bootMarks = s.bootMarks := by
  simp [State.canFill]
@[simp] theorem State.canReport_bootMarks (s : State) (n : Nat) (t : CanTx) (outcome : Nat) (time : Word) :
    (State.canReport s n t outcome time).bootMarks = s.bootMarks := by
  simp [State.canReport, apply_ite State.bootMarks]
@[simp] theorem State.canTsqPop_bootMarks (s : State) (n : Nat) : (State.canTsqPop s n).bootMarks = s.bootMarks := by
  simp [State.canTsqPop]
@[simp] theorem State.canLeave_bootMarks (s : State) (n : Nat) (t : CanTx) (outcome : Nat) (time : Word) :
    (State.canLeave s n t outcome time).bootMarks = s.bootMarks := by
  simp [State.canLeave, apply_ite State.bootMarks]
@[simp] theorem State.canGone_bootMarks (s : State) (n : Nat) (t : CanTx) (time : Word) :
    (State.canGone s n t time).bootMarks = s.bootMarks := by
  simp [State.canGone]
@[simp] theorem State.canFlushSlot_bootMarks (s : State) (n : Nat) (cur : Bool) :
    (State.canFlushSlot s n cur).bootMarks = s.bootMarks := by
  unfold State.canFlushSlot; grind [bootMarks_mk, bootMarks_of_boot, → State.freeIn_bootMarks_of, State.setCan_bootMarks, State.canGone_bootMarks]
@[simp] theorem State.canFlushTx_bootMarks (s : State) (n : Nat) (cur : Bool) :
    ((State.canFlushTx s n cur).1).bootMarks = s.bootMarks := by
  simp [State.canFlushTx]
theorem State.canFlushTx_bootMarks_of (s : State) (n : Nat) (cur : Bool) {sx : State} {qx : Nat} (h : State.canFlushTx s n cur = (sx, qx)) : sx.bootMarks = s.bootMarks := by
  have e := State.canFlushTx_bootMarks s n cur
  rw [h] at e
  exact e
@[simp] theorem State.canFlushRx_bootMarks (s : State) (n : Nat) : (State.canFlushRx s n).bootMarks = s.bootMarks := by
  simp [State.canFlushRx]
@[simp] theorem State.canSafe_bootMarks (s : State) : (State.canSafe s).bootMarks = s.bootMarks := by
  simp [State.canSafe, apply_ite State.bootMarks]
@[simp] theorem State.canCommission_bootMarks (s : State) : (State.canCommission s).bootMarks = s.bootMarks := by
  simp [State.canCommission]
@[simp] theorem State.canRecover_bootMarks (s : State) (n : Nat) : (State.canRecover s n).bootMarks = s.bootMarks := by
  simp [State.canRecover, apply_ite State.bootMarks]
@[simp] theorem State.canOpmodeWritten_bootMarks (s : State) (n : Nat) : (State.canOpmodeWritten s n).bootMarks = s.bootMarks := by
  unfold State.canOpmodeWritten; split <;> simp
@[simp] theorem State.canRdStart_bootMarks (s : State) (n : Nat) : (State.canRdStart s n).bootMarks = s.bootMarks := by
  simp only [State.canRdStart, State.arm_bootMarks, State.setCan_bootMarks, State.put_bootMarks]
@[simp] theorem State.canRdEnd_bootMarks (s : State) (n : Nat) : (State.canRdEnd s n).bootMarks = s.bootMarks := by
  simp [State.canRdEnd]
@[simp] theorem State.canRdAbort_bootMarks (s : State) (n : Nat) : (State.canRdAbort s n).bootMarks = s.bootMarks := by
  simp [State.canRdAbort, apply_ite State.bootMarks]
@[simp] theorem State.canCleared_bootMarks (s : State) : (State.canCleared s).bootMarks = s.bootMarks := by
  simp [↓bootMarks_of_boot, State.canCleared]

/-! ### MacOps -/

@[simp] theorem State.setMac_bootMarks (s : State) (m : Nat) (x : MacS) : (State.setMac s m x).bootMarks = s.bootMarks := by
  simp [↓bootMarks_of_boot, State.setMac]
@[simp] theorem State.macLinkChange_bootMarks (s : State) (m : Nat) (f : State → State) (hf : ∀ x, (f x).bootMarks = x.bootMarks) :
    (State.macLinkChange s m f).bootMarks = s.bootMarks := by
  simp [State.macLinkChange, apply_ite State.bootMarks, hf]
@[simp] theorem State.setMacQueue_bootMarks (s : State) (m : Nat) (q : Nat) (l : List MacTx) :
    (State.setMacQueue s m q l).bootMarks = s.bootMarks := by
  simp [State.setMacQueue]
@[simp] theorem State.macStart_bootMarks (s : State) (m : Nat) (at_ : Nat) : (State.macStart s m at_).bootMarks = s.bootMarks := by
  simp [State.macStart]
@[simp] theorem State.macLoad_bootMarks (s : State) (m : Nat) (t : MacTx) : (State.macLoad s m t).bootMarks = s.bootMarks := by
  simp [State.macLoad, apply_ite State.bootMarks]
@[simp] theorem State.macYield_bootMarks (s : State) (m : Nat) : (State.macYield s m).bootMarks = s.bootMarks := by
  unfold State.macYield; grind [bootMarks_mk, bootMarks_of_boot, State.setMacQueue_bootMarks, State.setMac_bootMarks]
@[simp] theorem State.macFill_bootMarks (s : State) (m : Nat) : (State.macFill s m).bootMarks = s.bootMarks := by
  unfold State.macFill; grind [bootMarks_mk, bootMarks_of_boot, State.macYield_bootMarks, State.macLoad_bootMarks, State.setMac_bootMarks, State.setMacQueue_bootMarks]
@[simp] theorem State.macLose_bootMarks (s : State) (m : Nat) (count : Nat) :
    (State.macLose s m count).bootMarks = s.bootMarks := by
  simp [State.macLose]
@[simp] theorem State.macClose_bootMarks (s : State) (m : Nat) : (State.macClose s m).bootMarks = s.bootMarks := by
  simp [State.macClose, apply_ite State.bootMarks]
@[simp] theorem State.macPackRec_bootMarks (s : State) (m : Nat) (time : Word) (alone : Bool) (ws : List Word) :
    (State.macPackRec s m time alone ws).bootMarks = s.bootMarks := by
  simp [State.macPackRec, apply_ite State.bootMarks]
@[simp] theorem State.macDeliver_bootMarks (s : State) (m : Nat) (hdr : Word) (time : Word) (data : List Byte) :
    (State.macDeliver s m hdr time data).bootMarks = s.bootMarks := by
  simp [State.macDeliver, apply_ite State.bootMarks]
@[simp] theorem State.macReport_bootMarks (s : State) (m : Nat) (t : MacTx) (outcome : Nat) :
    (State.macReport s m t outcome).bootMarks = s.bootMarks := by
  simp [State.macReport, apply_ite State.bootMarks]
@[simp] theorem State.macLeave_bootMarks (s : State) (m : Nat) (t : MacTx) (outcome : Nat) :
    (State.macLeave s m t outcome).bootMarks = s.bootMarks := by
  simp [State.macLeave, apply_ite State.bootMarks]
@[simp] theorem State.macTsqPop_bootMarks (s : State) (m : Nat) : (State.macTsqPop s m).bootMarks = s.bootMarks := by
  simp [State.macTsqPop]
@[simp] theorem State.macGate_bootMarks (s : State) (m : Nat) : (State.macGate s m).bootMarks = s.bootMarks := by
  unfold State.macGate; grind [bootMarks_mk, bootMarks_of_boot, State.macYield_bootMarks, State.macFill_bootMarks, State.macLeave_bootMarks, State.macCount_bootMarks, State.setMac_bootMarks, State.macStart_bootMarks, State.disarm_bootMarks]
@[simp] theorem State.macFlushTx_bootMarks (s : State) (m : Nat) : ((State.macFlushTx s m).1).bootMarks = s.bootMarks := by
  unfold State.macFlushTx; grind [bootMarks_mk, bootMarks_of_boot, State.macCount_bootMarks, State.setMac_bootMarks, State.macLeave_bootMarks, State.disarm_bootMarks, → State.emptyPort_bootMarks_of]
theorem State.macFlushTx_bootMarks_of (s : State) (m : Nat) {sx : State} {qx : Nat} (h : State.macFlushTx s m = (sx, qx)) : sx.bootMarks = s.bootMarks := by
  have e := State.macFlushTx_bootMarks s m
  rw [h] at e
  exact e
@[simp] theorem State.macFlushRx_bootMarks (s : State) (m : Nat) : (State.macFlushRx s m).bootMarks = s.bootMarks := by
  simp [State.macFlushRx]
@[simp] theorem State.macSafe1_bootMarks (s : State) (m : Nat) : (State.macSafe1 s m).bootMarks = s.bootMarks := by
  simp [State.macSafe1]
@[simp] theorem State.macSafe_bootMarks (s : State) : (State.macSafe s).bootMarks = s.bootMarks := by
  simp [State.macSafe, apply_ite State.bootMarks]
@[simp] theorem State.macCommission_bootMarks (s : State) : (State.macCommission s).bootMarks = s.bootMarks := by
  simp [State.macCommission]
@[simp] theorem State.mdioGo_bootMarks (s : State) : (State.mdioGo s).bootMarks = s.bootMarks := by
  simp [State.mdioGo]
@[simp] theorem State.macCleared_bootMarks (s : State) : (State.macCleared s).bootMarks = s.bootMarks := by
  simp [↓bootMarks_of_boot, State.macCleared]

/-! ### BridgeOps -/

@[simp] theorem State.setHbr_bootMarks (s : State) (h : HbrS) : (State.setHbr s h).bootMarks = s.bootMarks := by
  simp [↓bootMarks_of_boot, State.setHbr]
@[simp] theorem State.hostOut_bootMarks (s : State) (o : HostOut) : (State.hostOut s o).bootMarks = s.bootMarks := by
  simp [State.hostOut]
@[simp] theorem State.msi_bootMarks (s : State) (v : Nat) : (State.msi s v).bootMarks = s.bootMarks := by
  simp [State.msi, apply_ite State.bootMarks]
@[simp] theorem State.hbrIrq_bootMarks (s : State) (f : Fld) (v : Nat) : (State.hbrIrq s f v).bootMarks = s.bootMarks := by
  simp [State.hbrIrq, apply_ite State.bootMarks]
@[simp] theorem State.errPendClear_bootMarks (s : State) : (State.errPendClear s).bootMarks = s.bootMarks := by
  simp [State.errPendClear, apply_ite State.bootMarks]
@[simp] theorem State.pfDrop_bootMarks (s : State) (i : Nat) : (State.pfDrop s i).bootMarks = s.bootMarks := by
  unfold State.pfDrop; split <;> simp
@[simp] theorem State.pfDropWin_bootMarks (s : State) (w : Nat) : (State.pfDropWin s w).bootMarks = s.bootMarks := by
  simp [State.pfDropWin]
@[simp] theorem State.txBack_bootMarks (s : State) (st : Status) (seq : BitVec 16) :
    (State.txBack s st seq).bootMarks = s.bootMarks := by
  unfold State.txBack; split <;> simp [apply_ite State.bootMarks]
@[simp] theorem State.txPump_bootMarks (x0 : Nat) (x1 : State) : (State.txPump x0 x1).bootMarks = x1.bootMarks := by
  (induction x0 generalizing x1) <;> (unfold State.txPump; grind [bootMarks_mk, bootMarks_of_boot, → State.fresh_bootMarks_of, State.txBack_bootMarks, State.enqueue_bootMarks, State.setHbr_bootMarks])
@[simp] theorem State.txTail_bootMarks (s : State) (tail : Nat) (ds : List TxDesc) :
    (State.txTail s tail ds).bootMarks = s.bootMarks := by
  simp [State.txTail, apply_ite State.bootMarks]
@[simp] theorem State.rxTail_bootMarks (s : State) (q : Nat) (tail : Nat) (bufs : List RxDesc) :
    (State.rxTail s q tail bufs).bootMarks = s.bootMarks := by
  simp [State.rxTail, apply_ite State.bootMarks]
@[simp] theorem State.rxVector_bootMarks (s : State) (q : Nat) : (State.rxVector s q).bootMarks = s.bootMarks := by
  simp [State.rxVector, apply_ite State.bootMarks]
@[simp] theorem State.rxWrite_bootMarks (s : State) (q : Nat) (v : VUnit) (loupe : Bool) :
    (State.rxWrite s q v loupe).bootMarks = s.bootMarks := by
  unfold State.rxWrite; grind [bootMarks_mk, bootMarks_of_boot, → State.freshWords_bootMarks_of, State.setHbr_bootMarks, State.hostOut_bootMarks, State.rxVector_bootMarks, State.bump_bootMarks, State.put_bootMarks]
@[simp] theorem State.hbrCleared_bootMarks (s : State) : (State.hbrCleared s).bootMarks = s.bootMarks := by
  simp [↓bootMarks_of_boot, State.hbrCleared]
@[simp] theorem State.hbrMode_bootMarks (s : State) : (State.hbrMode s).bootMarks = s.bootMarks := by
  simp [State.hbrMode, apply_ite State.bootMarks]

/-! ### PowerOps -/

@[simp] theorem State.setPch_bootMarks (s : State) (c : Nat) (x : PchS) : (State.setPch s c x).bootMarks = s.bootMarks := by
  simp [↓bootMarks_of_boot, State.setPch]
@[simp] theorem State.setPst_bootMarks (s : State) (c : Nat) (st : Nat) : (State.setPst s c st).bootMarks = s.bootMarks := by
  simp [State.setPst]
@[simp] theorem State.stopLimit_bootMarks (s : State) (c : Nat) : (State.stopLimit s c).bootMarks = s.bootMarks := by
  simp [State.stopLimit, apply_ite State.bootMarks]
@[simp] theorem State.pgQualify_bootMarks (s : State) (c : Nat) (from_ : Nat) :
    (State.pgQualify s c from_).bootMarks = s.bootMarks := by
  simp [↓bootMarks_of_boot, State.pgQualify, apply_ite State.bootMarks]
@[simp] theorem State.pgDrop_bootMarks (s : State) (c : Nat) : (State.pgDrop s c).bootMarks = s.bootMarks := by
  simp [State.pgDrop, apply_ite State.bootMarks]
@[simp] theorem State.gateTimers_bootMarks (s : State) (c : Nat) : (State.gateTimers s c).bootMarks = s.bootMarks := by
  simp [State.gateTimers]
@[simp] theorem State.gateOff_bootMarks (s : State) (c : Nat) (st : Nat) : (State.gateOff s c st).bootMarks = s.bootMarks := by
  simp [State.gateOff]
@[simp] theorem State.startRamp_bootMarks (s : State) (c : Nat) : (State.startRamp s c).bootMarks = s.bootMarks := by
  simp [State.startRamp, apply_ite State.bootMarks]
@[simp] theorem State.pchClrLatch_bootMarks (s : State) (c : Nat) : (State.pchClrLatch s c).bootMarks = s.bootMarks := by
  simp [State.pchClrLatch, apply_ite State.bootMarks]
@[simp] theorem State.park_bootMarks (s : State) (c : Nat) : (State.park s c).bootMarks = s.bootMarks := by
  simp [State.park]
@[simp] theorem State.pchLose_bootMarks (s : State) (c : Nat) : (State.pchLose s c).bootMarks = s.bootMarks := by
  simp [State.pchLose, apply_ite State.bootMarks]
@[simp] theorem State.pchRegain_bootMarks (s : State) (c : Nat) : (State.pchRegain s c).bootMarks = s.bootMarks := by
  simp [State.pchRegain, apply_ite State.bootMarks]
@[simp] theorem State.pwrSettle_bootMarks (s : State) : (State.pwrSettle s).bootMarks = s.bootMarks := by
  simp [State.pwrSettle]
@[simp] theorem State.faultOff_bootMarks (s : State) (c : Nat) (code : Nat) (end_ : Nat) :
    (State.faultOff s c code end_).bootMarks = s.bootMarks := by
  simp [State.faultOff, apply_ite State.bootMarks]
@[simp] theorem State.tickFault_bootMarks (s : State) (c : Nat) : (State.tickFault s c).bootMarks = s.bootMarks := by
  simp [State.tickFault, apply_ite State.bootMarks]
@[simp] theorem State.pchCmdOn_bootMarks (s : State) (c : Nat) : (State.pchCmdOn s c).bootMarks = s.bootMarks := by
  simp [State.pchCmdOn, apply_ite State.bootMarks]
@[simp] theorem State.pchCmdOff_bootMarks (s : State) (c : Nat) : (State.pchCmdOff s c).bootMarks = s.bootMarks := by
  simp [State.pchCmdOff, apply_ite State.bootMarks]
@[simp] theorem State.pwrSafe_bootMarks (s : State) : (State.pwrSafe s).bootMarks = s.bootMarks := by
  unfold State.pwrSafe
  split
  · rfl
  · refine foldl_bootMarks _ (fun s c => ?_) _ _
    split <;> simp
@[simp] theorem State.pwrCommission_bootMarks (s : State) : (State.pwrCommission s).bootMarks = s.bootMarks := by
  simp [State.pwrCommission, apply_ite State.bootMarks]
@[simp] theorem State.pwrCoreReset_bootMarks (s : State) : ((State.pwrCoreReset s).1).bootMarks = s.bootMarks := by
  simp [State.pwrCoreReset, apply_ite State.bootMarks]
@[simp] theorem State.pwrCleared_bootMarks (s : State) : (State.pwrCleared s).bootMarks = s.bootMarks := by
  simp [↓bootMarks_of_boot, State.pwrCleared]
@[simp] theorem State.pwrMasks_bootMarks (s : State) (on : BitVec 16) (off : BitVec 16) :
    (State.pwrMasks s on off).bootMarks = s.bootMarks := by
  simp [State.pwrMasks, apply_ite State.bootMarks]

/-! ### FireOps -/

@[simp] theorem State.schedCancel_bootMarks (s : State) (n : Nat) : (State.schedCancel s n).bootMarks = s.bootMarks := by
  simp [State.schedCancel, apply_ite State.bootMarks]

/-! ### SafeOps -/

@[simp] theorem State.settleOutputs_bootMarks (s : State) : (State.settleOutputs s).bootMarks = s.bootMarks := by
  simp [State.settleOutputs]
@[simp] theorem State.logMode_bootMarks (s : State) (old : Mode) (cause : Option Nat) (reason : Word) :
    (State.logMode s old cause reason).bootMarks = s.bootMarks := by
  unfold State.logMode; grind [bootMarks_mk, bootMarks_of_boot, → State.fresh_bootMarks_of, State.log_bootMarks]
@[simp] theorem State.endTestRelease_bootMarks (s : State) (m : Mode) : (State.endTestRelease s m).bootMarks = s.bootMarks := by
  simp [State.endTestRelease, apply_ite State.bootMarks]
@[simp] theorem State.setMode_bootMarks (s : State) (m : Mode) : (State.setMode s m).bootMarks = s.bootMarks := by
  simp [↓bootMarks_of_boot, State.setMode, apply_ite State.bootMarks]
@[simp] theorem State.toSafe_bootMarks (s : State) (w : Word) : (State.toSafe s w).bootMarks = s.bootMarks := by
  simp [↓bootMarks_of_boot, State.toSafe]
@[simp] theorem State.enterSafe_bootMarks (s : State) (cause : Nat) (source : Nat) (reason : Nat) :
    (State.enterSafe s cause source reason).bootMarks = s.bootMarks := by
  simp [State.enterSafe, apply_ite State.bootMarks]
@[simp] theorem State.commissionOutputs_bootMarks (s : State) : (State.commissionOutputs s).bootMarks = s.bootMarks := by
  simp [State.commissionOutputs]
@[simp] theorem State.leaveSafe_bootMarks (s : State) : (State.leaveSafe s).bootMarks = s.bootMarks := by
  simp [State.leaveSafe, apply_ite State.bootMarks]

/-! ### PairOps -/

@[simp] theorem State.driveIlk_bootMarks (s : State) (on : Bool) : (State.driveIlk s on).bootMarks = s.bootMarks := by
  simp [State.driveIlk, apply_ite State.bootMarks]
@[simp] theorem State.setPair_bootMarks (s : State) (st : Nat) : (State.setPair s st).bootMarks = s.bootMarks := by
  simp [State.setPair, apply_ite State.bootMarks]
@[simp] theorem State.startClaim_bootMarks (s : State) (cause : Nat) : (State.startClaim s cause).bootMarks = s.bootMarks := by
  simp [↓bootMarks_of_boot, State.startClaim]
@[simp] theorem State.startPairing_bootMarks (s : State) (alt : Bool) : (State.startPairing s alt).bootMarks = s.bootMarks := by
  simp [↓bootMarks_of_boot, State.startPairing, apply_ite State.bootMarks]
@[simp] theorem State.rejoin_bootMarks (s : State) : (State.rejoin s).bootMarks = s.bootMarks := by
  simp [State.rejoin, apply_ite State.bootMarks]
@[simp] theorem State.resync_bootMarks (s : State) : (State.resync s).bootMarks = s.bootMarks := by
  simp [↓bootMarks_of_boot, State.resync, apply_ite State.bootMarks]
@[simp] theorem State.startHandover_bootMarks (s : State) (c : Option Cmd) : (State.startHandover s c).bootMarks = s.bootMarks := by
  simp [↓bootMarks_of_boot, State.startHandover]
@[simp] theorem State.pairCleared_bootMarks (s : State) : (State.pairCleared s).bootMarks = s.bootMarks := by
  simp [↓bootMarks_of_boot, State.pairCleared]
@[simp] theorem State.leavePair_bootMarks (s : State) : (State.leavePair s).bootMarks = s.bootMarks := by
  simp [↓bootMarks_of_boot, State.leavePair]

/-! ### Quiesce -/

@[simp] theorem State.resetRegs_bootMarks (s : State) (p : Cls → Nat → Bool) : (State.resetRegs s p).bootMarks = s.bootMarks := by
  simp [↓bootMarks_of_boot, State.resetRegs]

/-! ### ResetOps -/

@[simp] theorem State.setRst_bootMarks (s : State) (i : Nat) (on : Bool) : (State.setRst s i on).bootMarks = s.bootMarks := by
  simp [↓bootMarks_of_boot, State.setRst]
@[simp] theorem State.setResync_bootMarks (s : State) (i : Nat) (on : Bool) : (State.setResync s i on).bootMarks = s.bootMarks := by
  simp [↓bootMarks_of_boot, State.setResync]
@[simp] theorem State.setIslRst_bootMarks (s : State) (i : Nat) (on : Bool) : (State.setIslRst s i on).bootMarks = s.bootMarks := by
  simp [↓bootMarks_of_boot, State.setIslRst]
@[simp] theorem State.dropHold_bootMarks (s : State) : (State.dropHold s).bootMarks = s.bootMarks := by
  simp [↓bootMarks_of_boot, State.dropHold, apply_ite State.bootMarks]
@[simp] theorem State.dropToward_bootMarks (s : State) (i : Nat) : (State.dropToward s i).bootMarks = s.bootMarks := by
  simp [State.dropToward, apply_ite State.bootMarks]
@[simp] theorem State.swcCleared_bootMarks (s : State) : (State.swcCleared s).bootMarks = s.bootMarks := by
  simp [↓bootMarks_of_boot, State.swcCleared]
@[simp] theorem State.dropStore_bootMarks (s : State) : (State.dropStore s).bootMarks = s.bootMarks := by
  unfold State.dropStore; split <;> simp [↓bootMarks_of_boot]
@[simp] theorem State.loseSessions_bootMarks (s : State) : (State.loseSessions s).bootMarks = s.bootMarks := by
  simp [↓bootMarks_of_boot, State.loseSessions]
@[simp] theorem State.mgtCleared_bootMarks (s : State) : (State.mgtCleared s).bootMarks = s.bootMarks := by
  simp [↓bootMarks_of_boot, State.mgtCleared]
@[simp] theorem State.laneCleared_bootMarks (s : State) (l : Nat) : (State.laneCleared s l).bootMarks = s.bootMarks := by
  simp [↓bootMarks_of_boot, State.laneCleared, apply_ite State.bootMarks]
@[simp] theorem State.clearIsland_bootMarks (s : State) (i : Nat) : (State.clearIsland s i).bootMarks = s.bootMarks := by
  simp [↓bootMarks_of_boot, State.clearIsland, apply_ite State.bootMarks]
@[simp] theorem State.assertReset_bootMarks (s : State) (i : Nat) (p : Cls → Bool) :
    (State.assertReset s i p).bootMarks = s.bootMarks := by
  simp [↓bootMarks_of_boot, State.assertReset, apply_ite State.bootMarks]
@[simp] theorem State.islReset_bootMarks (s : State) (i : Nat) : (State.islReset s i).bootMarks = s.bootMarks := by
  unfold State.islReset; grind [State.bump_bootMarks, State.put_bootMarks, State.assertReset_bootMarks, State.setIslRst_bootMarks, State.arm_bootMarks]
@[simp] theorem State.powerDown_bootMarks (s : State) (i : Nat) : (State.powerDown s i).bootMarks = s.bootMarks := by
  simp [↓bootMarks_of_boot, State.powerDown, apply_ite State.bootMarks]
@[simp] theorem State.powerMask_bootMarks (s : State) (m : Nat) : (State.powerMask s m).bootMarks = s.bootMarks := by
  simp [State.powerMask, apply_ite State.bootMarks]
@[simp] theorem State.putStraps_bootMarks (s : State) (st : Straps) : (State.putStraps s st).bootMarks = s.bootMarks := by
  simp [↓bootMarks_of_boot, State.putStraps]
@[simp] theorem State.startOver_bootMarks (s : State) (kind : ResetKind) : (State.startOver s kind).bootMarks = s.bootMarks := by
  simp [↓bootMarks_of_boot, State.startOver]
@[simp] theorem State.chipReset_bootMarks (s : State) (kind : ResetKind) : (State.chipReset s kind).bootMarks = s.bootMarks := by
  simp only [State.chipReset]; (repeat' split) <;> simp_all [↓bootMarks_of_boot, apply_ite State.bootMarks]

/-! ### ReactOps -/

@[simp] theorem State.reactionRecord_bootMarks (s : State) (src : Nat) (r : Nat) :
    (State.reactionRecord s src r).bootMarks = s.bootMarks := by
  simp [State.reactionRecord]
@[simp] theorem State.reactedOnly_bootMarks (s : State) (src : Nat) (counted : Bool) :
    (State.reactedOnly s src counted).bootMarks = s.bootMarks := by
  simp [State.reactedOnly, apply_ite State.bootMarks]
@[simp] theorem State.reactTaken_bootMarks (s : State) (srcs : List Nat) (r : Nat) :
    (State.reactTaken s srcs r).bootMarks = s.bootMarks := by
  unfold State.reactTaken; split <;> simp [apply_ite State.bootMarks]
@[simp] theorem State.reactSafe_bootMarks (s : State) (srcs : List Nat) : (State.reactSafe s srcs).bootMarks = s.bootMarks := by
  simp [↓bootMarks_of_boot, State.reactSafe]
@[simp] theorem State.holdReaction_bootMarks (s : State) (srcs : List Nat) :
    (State.holdReaction s srcs).bootMarks = s.bootMarks := by
  simp [↓bootMarks_of_boot, State.holdReaction]
@[simp] theorem State.reactAsSafe_bootMarks (s : State) (srcs : List Nat) : (State.reactAsSafe s srcs).bootMarks = s.bootMarks := by
  simp [State.reactAsSafe, apply_ite State.bootMarks]
@[simp] theorem State.reactIsland_bootMarks (s : State) (srcs : List Nat) : (State.reactIsland s srcs).bootMarks = s.bootMarks := by
  simp [↓bootMarks_of_boot, State.reactIsland, apply_ite State.bootMarks]
@[simp] theorem State.reactHandover_bootMarks (s : State) (srcs : List Nat) :
    (State.reactHandover s srcs).bootMarks = s.bootMarks := by
  simp [↓bootMarks_of_boot, State.reactHandover, apply_ite State.bootMarks]
@[simp] theorem State.reactChip_bootMarks (s : State) (srcs : List Nat) : (State.reactChip s srcs).bootMarks = s.bootMarks := by
  simp [State.reactChip]
@[simp] theorem State.reactBy_bootMarks (s : State) (r : Nat) (srcs : List Nat) :
    (State.reactBy s r srcs).bootMarks = s.bootMarks := by
  simp [State.reactBy, apply_ite State.bootMarks]
@[simp] theorem State.takeDue_bootMarks (s : State) : (State.takeDue s).bootMarks = s.bootMarks := by
  simp [↓bootMarks_of_boot, State.takeDue, apply_ite State.bootMarks]
@[simp] theorem State.settle_bootMarks (s : State) : (State.settle s).bootMarks = s.bootMarks := by
  simp [State.settle, apply_ite State.bootMarks]
@[simp] theorem State.graceExpire_bootMarks (s : State) (src : Nat) : (State.graceExpire s src).bootMarks = s.bootMarks := by
  unfold State.graceExpire; grind [bootMarks_mk, bootMarks_of_boot, → State.expire_bootMarks_of, State.put_bootMarks]
@[simp] theorem State.clearInst_bootMarks (s : State) (src : Nat) (keep : BitVec 64) :
    (State.clearInst s src keep).bootMarks = s.bootMarks := by
  simp [State.clearInst]
@[simp] theorem State.faultAck_bootMarks (s : State) (src : Nat) (clear : Bool) :
    (State.faultAck s src clear).bootMarks = s.bootMarks := by
  unfold State.faultAck; grind [bootMarks_mk, bootMarks_of_boot, State.settle_bootMarks, State.graceExpire_bootMarks, State.clearInst_bootMarks, State.disarm_bootMarks, State.put_bootMarks, State.faultRecord_bootMarks, State.faultEvent_bootMarks, State.updateAlive_bootMarks]
@[simp] theorem State.fltInject_bootMarks (s : State) : (State.fltInject s).bootMarks = s.bootMarks := by
  simp [State.fltInject]

/-! ### BootOps -/

@[simp] theorem State.setSlot_bootMarks (s : State) (t : Nat) (x : Slot) : (State.setSlot s t x).bootMarks = s.bootMarks := by
  simp [↓bootMarks_of_boot, State.setSlot]
@[simp] theorem State.logUpdate_bootMarks (s : State) (op : Nat) (slot : Nat) (status : Status) :
    (State.logUpdate s op slot status).bootMarks = s.bootMarks := by
  simp [State.logUpdate]
@[simp] theorem State.setSlotState_bootMarks (s : State) (t : Nat) (st : Nat) (op : Nat) (status : Status) :
    (State.setSlotState s t st op status).bootMarks = s.bootMarks := by
  simp [State.setSlotState]

/-! ### CmdOps -/

@[simp] theorem State.auditRefusal_bootMarks (s : State) (denied : Bool) (f : Frame) (st : Status) (data : List Word) :
    (State.auditRefusal s denied f st data).bootMarks = s.bootMarks := by
  unfold State.auditRefusal; grind [bootMarks_mk, bootMarks_of_boot, State.log_bootMarks]
@[simp] theorem State.noteAuthFail_bootMarks (s : State) (f : Frame) : (State.noteAuthFail s f).bootMarks = s.bootMarks := by
  simp [↓bootMarks_of_boot, State.noteAuthFail, apply_ite State.bootMarks]
@[simp] theorem State.noteRefusal_bootMarks (s : State) (f : Frame) (st : Status) (step5 : Bool) :
    (State.noteRefusal s f st step5).bootMarks = s.bootMarks := by
  simp [State.noteRefusal, apply_ite State.bootMarks]
@[simp] theorem State.auditCmd_bootMarks (s : State) (f : Frame) (st : Status) :
    (State.auditCmd s f st).bootMarks = s.bootMarks := by
  unfold State.auditCmd; split <;> simp
@[simp] theorem State.romSend_bootMarks (s : State) (f : Frame) : (State.romSend s f).bootMarks = s.bootMarks := by
  unfold State.romSend; grind [bootMarks_mk, bootMarks_of_boot, → State.takeSeq_bootMarks_of, → State.sealFrame_bootMarks_of, State.spendSessions_bootMarks, State.bump_bootMarks, State.rxWrite_bootMarks, State.transmit_bootMarks]
@[simp] theorem State.sendOwn_bootMarks (s : State) (f : Frame) : (State.sendOwn s f).bootMarks = s.bootMarks := by
  simp [↓bootMarks_of_boot, State.sendOwn, apply_ite State.bootMarks]
@[simp] theorem State.cachePut_bootMarks (s : State) (f : Frame) (reply : Frame) :
    (State.cachePut s f reply).bootMarks = s.bootMarks := by
  simp [↓bootMarks_of_boot, State.cachePut, apply_ite State.bootMarks]
@[simp] theorem State.unserve_bootMarks (s : State) (c : Cmd) : (State.unserve s c).bootMarks = s.bootMarks := by
  simp [↓bootMarks_of_boot, State.unserve]
@[simp] theorem State.putSlot_bootMarks (s : State) (ring : Nat) (tail : Nat) (f : Frame) :
    (State.putSlot s ring tail f).bootMarks = s.bootMarks := by
  simp [↓bootMarks_of_boot, State.putSlot]
@[simp] theorem State.respond_bootMarks (s : State) (f : Frame) : (State.respond s f).bootMarks = s.bootMarks := by
  simp [State.respond]
@[simp] theorem State.reply_bootMarks (s : State) (c : Cmd) (ordered : Bool) (a : Answer) :
    (State.reply s c ordered a).bootMarks = s.bootMarks := by
  simp [State.reply, apply_ite State.bootMarks]
@[simp] theorem State.answer_bootMarks (s : State) (c : Cmd) (ordered : Bool) (a : Answer) :
    (State.answer s c ordered a).bootMarks = s.bootMarks := by
  simp [State.answer, apply_ite State.bootMarks]
@[simp] theorem State.release_bootMarks (s : State) (c : Cmd) (r : Option Frame) :
    (State.release s c r).bootMarks = s.bootMarks := by
  simp [↓bootMarks_of_boot, State.release, apply_ite State.bootMarks]
@[simp] theorem State.finish_bootMarks (s : State) (c : Cmd) (ordered : Bool) (a : Answer) :
    (State.finish s c ordered a).bootMarks = s.bootMarks := by
  unfold State.finish; (repeat' split) <;> simp_all [↓bootMarks_of_boot]
@[simp] theorem State.complete_bootMarks (s : State) (c : Cmd) (st : Status) (payload : List Word) :
    (State.complete s c st payload).bootMarks = s.bootMarks := by
  simp [State.complete, apply_ite State.bootMarks]
@[simp] theorem State.dropVerify_bootMarks (s : State) : (State.dropVerify s).bootMarks = s.bootMarks := by
  unfold State.dropVerify; split <;> simp
@[simp] theorem State.abandonUpdate_bootMarks (s : State) (n : BitVec 16) : (State.abandonUpdate s n).bootMarks = s.bootMarks := by
  simp [↓bootMarks_of_boot, State.abandonUpdate, apply_ite State.bootMarks]
@[simp] theorem State.dropSessions_bootMarks (s : State) (p : Session → Bool) :
    (State.dropSessions s p).bootMarks = s.bootMarks := by
  simp [↓bootMarks_of_boot, State.dropSessions]
@[simp] theorem State.closeSession_bootMarks (s : State) (n : BitVec 16) (cause : Nat) :
    (State.closeSession s n cause).bootMarks = s.bootMarks := by
  unfold State.closeSession; split <;> simp [apply_ite State.bootMarks]
@[simp] theorem State.armIdle_bootMarks (s : State) (n : BitVec 16) : (State.armIdle s n).bootMarks = s.bootMarks := by
  simp [State.armIdle, apply_ite State.bootMarks]
@[simp] theorem State.freeSession_bootMarks (s : State) : ((State.freeSession s).2).bootMarks = s.bootMarks := by
  simp [↓bootMarks_of_boot, State.freeSession]
theorem State.freeSession_bootMarks_of (s : State) {sx : BitVec 16} {qx : State} (h : State.freeSession s = (sx, qx)) : qx.bootMarks = s.bootMarks := by
  have e := State.freeSession_bootMarks s
  rw [h] at e
  exact e
@[simp] theorem State.openSession_bootMarks (s : State) (f : Frame) (x : KeyExchange) :
    ((State.openSession s f x).1).bootMarks = s.bootMarks := by
  unfold State.openSession; grind [bootMarks_mk, bootMarks_of_boot, → State.freeSession_bootMarks_of, → State.freshWords_bootMarks_of, State.armIdle_bootMarks, State.arm_bootMarks, State.log_bootMarks, State.disarmAll_bootMarks, State.sessionOrder_bootMarks]
theorem State.openSession_bootMarks_of (s : State) (f : Frame) (x : KeyExchange) {sx : State} {qx : Answer} (h : State.openSession s f x = (sx, qx)) : sx.bootMarks = s.bootMarks := by
  have e := State.openSession_bootMarks s f x
  rw [h] at e
  exact e

/-! ### SecOps -/

@[simp] theorem State.ownerStart_bootMarks (s : State) (w : Word) : (State.ownerStart s w).bootMarks = s.bootMarks := by
  simp [↓bootMarks_of_boot, State.ownerStart, apply_ite State.bootMarks]
@[simp] theorem State.unlockStart_bootMarks (s : State) (k : Nat) : (State.unlockStart s k).bootMarks = s.bootMarks := by
  simp [↓bootMarks_of_boot, State.unlockStart]

/-! ### UpdateOps -/

@[simp] theorem State.openTarget_bootMarks (s : State) (h : ImgHead) : (State.openTarget s h).bootMarks = s.bootMarks := by
  simp [↓bootMarks_of_boot, State.openTarget, apply_ite State.bootMarks]
@[simp] theorem State.updateBegin_bootMarks (s : State) (f : Frame) : ((State.updateBegin s f).1).bootMarks = s.bootMarks := by
  unfold State.updateBegin; grind [bootMarks_mk, bootMarks_of_boot, State.openTarget_bootMarks, State.disarm_bootMarks]
@[simp] theorem State.setUpdTarget_bootMarks (s : State) (u : Update) (x : Slot) :
    (State.setUpdTarget s u x).bootMarks = s.bootMarks := by
  simp [↓bootMarks_of_boot, State.setUpdTarget, apply_ite State.bootMarks]
@[simp] theorem State.setUpdate_bootMarks (s : State) (u : Update) : (State.setUpdate s u).bootMarks = s.bootMarks := by
  simp [↓bootMarks_of_boot, State.setUpdate]
@[simp] theorem State.updateBlock_bootMarks (s : State) (f : Frame) (readOk : Bool) :
    ((State.updateBlock s f readOk).1).bootMarks = s.bootMarks := by
  unfold State.updateBlock; grind [bootMarks_mk, bootMarks_of_boot, State.setUpdTarget_bootMarks, → State.freshWords_bootMarks_of]
@[simp] theorem State.verifyStart_bootMarks (s : State) (u : Update) (c : Option Cmd) :
    (State.verifyStart s u c).bootMarks = s.bootMarks := by
  simp [State.verifyStart, apply_ite State.bootMarks]
@[simp] theorem State.profileOf_bootMarks (s : State) (x : Slot) : ((State.profileOf s x).1).bootMarks = s.bootMarks := by
  simp [State.profileOf]
theorem State.profileOf_bootMarks_of (s : State) (x : Slot) {sx : State} {qx : Profile} (h : State.profileOf s x = (sx, qx)) : sx.bootMarks = s.bootMarks := by
  have e := State.profileOf_bootMarks s x
  rw [h] at e
  exact e
@[simp] theorem State.activateSlot_bootMarks (s : State) (t : Nat) : (State.activateSlot s t).bootMarks = s.bootMarks := by
  simp [↓bootMarks_of_boot, State.activateSlot]
@[simp] theorem State.updateActivate_bootMarks (s : State) (session : BitVec 16) :
    ((State.updateActivate s session).1).bootMarks = s.bootMarks := by
  unfold State.updateActivate; grind [bootMarks_mk, bootMarks_of_boot, State.activateSlot_bootMarks, → State.profileOf_bootMarks_of]
@[simp] theorem State.updateConfirm_bootMarks (s : State) : (State.updateConfirm s).bootMarks = s.bootMarks := by
  simp [↓bootMarks_of_boot, State.updateConfirm, apply_ite State.bootMarks]
@[simp] theorem State.updateAbort_bootMarks (s : State) (session : BitVec 16) :
    ((State.updateAbort s session).1).bootMarks = s.bootMarks := by
  unfold State.updateAbort; (repeat' split) <;> simp_all [↓bootMarks_of_boot, apply_ite State.bootMarks]
@[simp] theorem State.relaySend_bootMarks (s : State) (l : Nat) (ws : List Word) :
    (State.relaySend s l ws).bootMarks = s.bootMarks := by
  simp [State.relaySend, apply_ite State.bootMarks]
@[simp] theorem State.relayReq_bootMarks (s : State) (p : Pull) (off : Nat) (n : Nat) :
    (State.relayReq s p off n).bootMarks = s.bootMarks := by
  simp [State.relayReq]
@[simp] theorem State.setPull_bootMarks (s : State) (p : Option Pull) : (State.setPull s p).bootMarks = s.bootMarks := by
  simp [↓bootMarks_of_boot, State.setPull]
@[simp] theorem State.startPull_bootMarks (s : State) (p : Pull) : (State.startPull s p).bootMarks = s.bootMarks := by
  simp [State.startPull]
@[simp] theorem State.updateRelay_bootMarks (s : State) (c : Cmd) : ((State.updateRelay s c).1).bootMarks = s.bootMarks := by
  unfold State.updateRelay; grind [bootMarks_mk, bootMarks_of_boot, State.startPull_bootMarks]

/-! ### ReadOps -/

@[simp] theorem State.readMet_bootMarks (s : State) (x : Place) : (State.readMet s x).bootMarks = s.bootMarks := by
  unfold State.readMet
  split <;> simp

/-! ### WriteOps -/

@[simp] theorem State.freeDesc_bootMarks (s : State) : ((State.freeDesc s).2).bootMarks = s.bootMarks := by
  simp [State.freeDesc]
@[simp] theorem State.freeDescs_bootMarks (x0 : Nat) (x1 : State) : ((State.freeDescs x0 x1).2).bootMarks = x1.bootMarks := by
  induction x0 generalizing x1 <;> simp_all [State.freeDescs]
@[simp] theorem State.freeBufs_bootMarks (x0 : Nat) (x1 : State) : ((State.freeBufs x0 x1).2).bootMarks = x1.bootMarks := by
  induction x0 generalizing x1 <;> simp_all [State.freeBufs]
@[simp] theorem State.txTailReg_bootMarks (s : State) (tail : Nat) : (State.txTailReg s tail).bootMarks = s.bootMarks := by
  simp [State.txTailReg]
@[simp] theorem State.rxTailReg_bootMarks (s : State) (q : Nat) (tail : Nat) :
    (State.rxTailReg s q tail).bootMarks = s.bootMarks := by
  simp [State.rxTailReg]
@[simp] theorem State.txEnable_bootMarks (s : State) (was : Bool) : (State.txEnable s was).bootMarks = s.bootMarks := by
  simp [↓bootMarks_of_boot, State.txEnable, apply_ite State.bootMarks]
@[simp] theorem State.rxEnable_bootMarks (s : State) (q : Nat) (was : Bool) : (State.rxEnable s q was).bootMarks = s.bootMarks := by
  simp [State.rxEnable, apply_ite State.bootMarks]
@[simp] theorem State.lnkCfgWritten_bootMarks (s : State) (l : Nat) (old : Word) :
    (State.lnkCfgWritten s l old).bootMarks = s.bootMarks := by
  simp [State.lnkCfgWritten, apply_ite State.bootMarks]
@[simp] theorem State.engCtlWritten_bootMarks (s : State) (n : Nat) (a : Word) :
    (State.engCtlWritten s n a).bootMarks = s.bootMarks := by
  simp [State.engCtlWritten, apply_ite State.bootMarks]
@[simp] theorem State.cluCtlWritten_bootMarks (s : State) (k : Nat) (a : Word) :
    (State.cluCtlWritten s k a).bootMarks = s.bootMarks := by
  simp [State.cluCtlWritten, apply_ite State.bootMarks]
@[simp] theorem State.pwrCfgWritten_bootMarks (s : State) (old : Word) : (State.pwrCfgWritten s old).bootMarks = s.bootMarks := by
  simp [State.pwrCfgWritten, apply_ite State.bootMarks]
@[simp] theorem State.pchCtlWritten_bootMarks (s : State) (c : Nat) (a : Word) :
    (State.pchCtlWritten s c a).bootMarks = s.bootMarks := by
  simp [State.pchCtlWritten, apply_ite State.bootMarks]
@[simp] theorem State.seccfgWritten_bootMarks (s : State) (old : Word) : (State.seccfgWritten s old).bootMarks = s.bootMarks := by
  simp [State.seccfgWritten, apply_ite State.bootMarks]
@[simp] theorem State.keySessWritten_bootMarks (s : State) (k : Nat) : (State.keySessWritten s k).bootMarks = s.bootMarks := by
  simp [State.keySessWritten, apply_ite State.bootMarks]
@[simp] theorem State.portEffect_bootMarks (s : State) (r : Reg) (i : Nat) (j : Nat) (old : Word) (a : Word) :
    (State.portEffect s r i j old a).bootMarks = s.bootMarks := by
  unfold State.portEffect; split <;> simp [apply_ite State.bootMarks]
@[simp] theorem State.shadowSound_bootMarks (s : State) (i : Nat) : (State.shadowSound s i).bootMarks = s.bootMarks := by
  simp [↓bootMarks_of_boot, State.shadowSound]
@[simp] theorem State.capLowered_bootMarks (s : State) (old : Nat) : (State.capLowered s old).bootMarks = s.bootMarks := by
  simp [State.capLowered]
@[simp] theorem State.pairValidWritten_bootMarks (s : State) : (State.pairValidWritten s).bootMarks = s.bootMarks := by
  simp [State.pairValidWritten, apply_ite State.bootMarks]
@[simp] theorem State.coreEffect_bootMarks (s : State) (r : Reg) (i : Nat) (_j : Nat) (old : Word) (a : Word) :
    (State.coreEffect s r i _j old a).bootMarks = s.bootMarks := by
  unfold State.coreEffect; split <;> simp [apply_ite State.bootMarks]
@[simp] theorem State.writeReg_bootMarks (s : State) (priv : Bool) (r : Reg) (i : Nat) (j : Nat) (w : Word) :
    (State.writeReg s priv r i j w).bootMarks = s.bootMarks := by
  simp [State.writeReg, apply_ite State.bootMarks]
@[simp] theorem State.vatWrite_bootMarks (s : State) (b : Nat) (w : Word) : (State.vatWrite s b w).bootMarks = s.bootMarks := by
  simp [↓bootMarks_of_boot, State.vatWrite]
@[simp] theorem State.vatSound_bootMarks (s : State) (w : Nat) : (State.vatSound s w).bootMarks = s.bootMarks := by
  simp [↓bootMarks_of_boot, State.vatSound]
@[simp] theorem State.placeWrite_bootMarks (s : State) (priv : Bool) (p : Place) (w : Word) :
    ((State.placeWrite s priv p w).1).bootMarks = s.bootMarks := by
  unfold State.placeWrite; split <;> simp
theorem State.placeWrite_bootMarks_of (s : State) (priv : Bool) (p : Place) (w : Word) {sx : State} {qx : BitVec 21} (h : State.placeWrite s priv p w = (sx, qx)) : sx.bootMarks = s.bootMarks := by
  have e := State.placeWrite_bootMarks s priv p w
  rw [h] at e
  exact e

/-! ### WindowOps -/

@[simp] theorem State.auditWrite_bootMarks (s : State) (f : Frame) (count : Nat) (first : Word) (ordered : Bool) :
    (State.auditWrite s f count first ordered).bootMarks = s.bootMarks := by
  simp [State.auditWrite, apply_ite State.bootMarks]
@[simp] theorem State.setWin_bootMarks (s : State) (w : Nat) (x : WinS) : (State.setWin s w x).bootMarks = s.bootMarks := by
  simp [↓bootMarks_of_boot, State.setWin]
@[simp] theorem State.sendBehind_bootMarks (s : State) (n : Nat) (item : List QWord) :
    (State.sendBehind s n item).bootMarks = s.bootMarks := by
  unfold State.sendBehind; grind [bootMarks_mk, bootMarks_of_boot, State.fillTxq_bootMarks, State.setEng_bootMarks]
@[simp] theorem State.winEnter_bootMarks (s : State) (w : Nat) (r : WinReq) : (State.winEnter s w r).bootMarks = s.bootMarks := by
  simp [State.winEnter]
@[simp] theorem State.winTimer_bootMarks (s : State) (w : Nat) : (State.winTimer s w).bootMarks = s.bootMarks := by
  unfold State.winTimer; grind [bootMarks_mk, bootMarks_of_boot, State.disarm_bootMarks, State.arm_bootMarks]
@[simp] theorem State.winRequest_bootMarks (s : State) (w : Nat) (r : WinReq) :
    (State.winRequest s w r).bootMarks = s.bootMarks := by
  simp [State.winRequest, apply_ite State.bootMarks]

/-! ### AccessOps -/

@[simp] theorem State.actWindow_bootMarks (s : State) (c : Cmd) (w : Nat) (o : Nat) (write : Bool) (n : Nat) (data : List Word) :
    ((State.actWindow s c w o write n data).1).bootMarks = s.bootMarks := by
  unfold State.actWindow; (repeat' split) <;> simp_all
theorem State.actWindow_bootMarks_of (s : State) (c : Cmd) (w : Nat) (o : Nat) (write : Bool) (n : Nat) (data : List Word) {sx : State} {qx : Answer} (h : State.actWindow s c w o write n data = (sx, qx)) : sx.bootMarks = s.bootMarks := by
  have e := State.actWindow_bootMarks s c w o write n data
  rw [h] at e
  exact e
@[simp] theorem State.actRead_bootMarks (s : State) (c : Cmd) : ((State.actRead s c).1).bootMarks = s.bootMarks := by
  simp only [State.actRead]; (repeat' split) <;> simp_all
theorem State.actRead_bootMarks_of (s : State) (c : Cmd) {sx : State} {qx : Answer} (h : State.actRead s c = (sx, qx)) : sx.bootMarks = s.bootMarks := by
  have e := State.actRead_bootMarks s c
  rw [h] at e
  exact e
@[simp] theorem State.writeWords_bootMarks (s : State) (priv : Bool) (x : Option Session) (x3 : List (Place × Word)) :
    ((State.writeWords s priv x x3).1).bootMarks = s.bootMarks := by
  (induction x3 generalizing s priv x) <;> (unfold State.writeWords; grind [bootMarks_mk, bootMarks_of_boot, → State.placeWrite_bootMarks_of])
@[simp] theorem State.actWrites_bootMarks (s : State) (f : Frame) (ordered : Bool) (l : List (Place × Word)) (first : Word) (payload : List Word) :
    ((State.actWrites s f ordered l first payload).1).bootMarks = s.bootMarks := by
  simp only [State.actWrites]; (repeat' split) <;> simp_all
theorem State.actWrites_bootMarks_of (s : State) (f : Frame) (ordered : Bool) (l : List (Place × Word)) (first : Word) (payload : List Word) {sx : State} {qx : Answer} (h : State.actWrites s f ordered l first payload = (sx, qx)) : sx.bootMarks = s.bootMarks := by
  have e := State.actWrites_bootMarks s f ordered l first payload
  rw [h] at e
  exact e
@[simp] theorem State.actWrite_bootMarks (s : State) (c : Cmd) (ordered : Bool) :
    ((State.actWrite s c ordered).1).bootMarks = s.bootMarks := by
  unfold State.actWrite; grind [bootMarks_mk, bootMarks_of_boot, → State.actWindow_bootMarks_of, → State.actWrites_bootMarks_of]
theorem State.actWrite_bootMarks_of (s : State) (c : Cmd) (ordered : Bool) {sx : State} {qx : Answer} (h : State.actWrite s c ordered = (sx, qx)) : sx.bootMarks = s.bootMarks := by
  have e := State.actWrite_bootMarks s c ordered
  rw [h] at e
  exact e
@[simp] theorem State.actModify_bootMarks (s : State) (c : Cmd) (ordered : Bool) :
    ((State.actModify s c ordered).1).bootMarks = s.bootMarks := by
  unfold State.actModify; grind [bootMarks_mk, bootMarks_of_boot, State.readMet_bootMarks, → State.actWrites_bootMarks_of]
theorem State.actModify_bootMarks_of (s : State) (c : Cmd) (ordered : Bool) {sx : State} {qx : Answer} (h : State.actModify s c ordered = (sx, qx)) : sx.bootMarks = s.bootMarks := by
  have e := State.actModify_bootMarks s c ordered
  rw [h] at e
  exact e

/-! ### PortCmdOps -/

@[simp] theorem State.actPortSend_bootMarks (s : State) (f : Frame) : ((State.actPortSend s f).1).bootMarks = s.bootMarks := by
  simp only [State.actPortSend]; (repeat' split) <;> simp_all
theorem State.actPortSend_bootMarks_of (s : State) (f : Frame) {sx : State} {qx : Answer} (h : State.actPortSend s f = (sx, qx)) : sx.bootMarks = s.bootMarks := by
  have e := State.actPortSend_bootMarks s f
  rw [h] at e
  exact e
@[simp] theorem State.recordWrite_bootMarks (s : State) (l : List (Reg × Nat × Nat × Word)) :
    (State.recordWrite s l).bootMarks = s.bootMarks := by
  simp [State.recordWrite, apply_ite State.bootMarks]
@[simp] theorem State.actPortConfig_bootMarks (s : State) (f : Frame) : ((State.actPortConfig s f).1).bootMarks = s.bootMarks := by
  unfold State.actPortConfig; grind [bootMarks_mk, bootMarks_of_boot, State.recordWrite_bootMarks]
theorem State.actPortConfig_bootMarks_of (s : State) (f : Frame) {sx : State} {qx : Answer} (h : State.actPortConfig s f = (sx, qx)) : sx.bootMarks = s.bootMarks := by
  have e := State.actPortConfig_bootMarks s f
  rw [h] at e
  exact e
@[simp] theorem State.flushPortTx_bootMarks (s : State) (p : Nat) : ((State.flushPortTx s p).1).bootMarks = s.bootMarks := by
  unfold State.flushPortTx; grind [bootMarks_mk, bootMarks_of_boot, → State.endCut_bootMarks_of, → State.emptyPort_bootMarks_of, → State.macFlushTx_bootMarks_of, → State.canFlushTx_bootMarks_of, State.flushTx_bootMarks, State.setEng_bootMarks]
theorem State.flushPortTx_bootMarks_of (s : State) (p : Nat) {sx : State} {qx : Nat} (h : State.flushPortTx s p = (sx, qx)) : sx.bootMarks = s.bootMarks := by
  have e := State.flushPortTx_bootMarks s p
  rw [h] at e
  exact e
@[simp] theorem State.flushPortRx_bootMarks (s : State) (p : Nat) : (State.flushPortRx s p).bootMarks = s.bootMarks := by
  unfold State.flushPortRx; grind [bootMarks_mk, bootMarks_of_boot, State.macFlushRx_bootMarks, State.canFlushRx_bootMarks, State.flushRx_bootMarks, State.disarm_bootMarks, State.setEng_bootMarks, State.setWin_bootMarks]
@[simp] theorem State.actPortFlush_bootMarks (s : State) (f : Frame) : ((State.actPortFlush s f).1).bootMarks = s.bootMarks := by
  unfold State.actPortFlush; grind [bootMarks_mk, bootMarks_of_boot, → State.flushPortTx_bootMarks_of, State.flushPortRx_bootMarks]
theorem State.actPortFlush_bootMarks_of (s : State) (f : Frame) {sx : State} {qx : Answer} (h : State.actPortFlush s f = (sx, qx)) : sx.bootMarks = s.bootMarks := by
  have e := State.actPortFlush_bootMarks s f
  rw [h] at e
  exact e
@[simp] theorem State.schedule_bootMarks (s : State) (e : Entry) (t : Word) :
    ((State.schedule s e t).1).bootMarks = s.bootMarks := by
  unfold State.schedule; (repeat' split) <;> simp_all
theorem State.schedule_bootMarks_of (s : State) (e : Entry) (t : Word) {sx : State} {qx : Answer} (h : State.schedule s e t = (sx, qx)) : sx.bootMarks = s.bootMarks := by
  have e := State.schedule_bootMarks s e t
  rw [h] at e
  exact e
@[simp] theorem State.actSchedule_bootMarks (s : State) (apply : Bool) (f : Frame) :
    ((State.actSchedule s apply f).1).bootMarks = s.bootMarks := by
  unfold State.actSchedule; grind [bootMarks_mk, bootMarks_of_boot, → State.schedule_bootMarks_of]
theorem State.actSchedule_bootMarks_of (s : State) (apply : Bool) (f : Frame) {sx : State} {qx : Answer} (h : State.actSchedule s apply f = (sx, qx)) : sx.bootMarks = s.bootMarks := by
  have e := State.actSchedule_bootMarks s apply f
  rw [h] at e
  exact e
@[simp] theorem State.actSnapshot_bootMarks (s : State) (f : Frame) : ((State.actSnapshot s f).1).bootMarks = s.bootMarks := by
  unfold State.actSnapshot; grind [bootMarks_mk, bootMarks_of_boot, → State.schedule_bootMarks_of, State.floodSnap_bootMarks, State.markSeen_bootMarks]
theorem State.actSnapshot_bootMarks_of (s : State) (f : Frame) {sx : State} {qx : Answer} (h : State.actSnapshot s f = (sx, qx)) : sx.bootMarks = s.bootMarks := by
  have e := State.actSnapshot_bootMarks s f
  rw [h] at e
  exact e
@[simp] theorem State.actFence_bootMarks (s : State) (c : Cmd) : ((State.actFence s c).1).bootMarks = s.bootMarks := by
  unfold State.actFence; grind [bootMarks_mk, bootMarks_of_boot]
theorem State.actFence_bootMarks_of (s : State) (c : Cmd) {sx : State} {qx : Answer} (h : State.actFence s c = (sx, qx)) : sx.bootMarks = s.bootMarks := by
  have e := State.actFence_bootMarks s c
  rw [h] at e
  exact e

/-! ### HostCmdOps -/

@[simp] theorem State.actProfileSelect_bootMarks (s : State) (f : Frame) :
    ((State.actProfileSelect s f).1).bootMarks = s.bootMarks := by
  unfold State.actProfileSelect; grind [bootMarks_mk, bootMarks_of_boot]
theorem State.actProfileSelect_bootMarks_of (s : State) (f : Frame) {sx : State} {qx : Answer} (h : State.actProfileSelect s f = (sx, qx)) : sx.bootMarks = s.bootMarks := by
  have e := State.actProfileSelect_bootMarks s f
  rw [h] at e
  exact e
@[simp] theorem State.actProfileStore_bootMarks (s : State) (c : Cmd) :
    ((State.actProfileStore s c).1).bootMarks = s.bootMarks := by
  unfold State.actProfileStore; split <;> simp [↓bootMarks_of_boot]
theorem State.actProfileStore_bootMarks_of (s : State) (c : Cmd) {sx : State} {qx : Answer} (h : State.actProfileStore s c = (sx, qx)) : sx.bootMarks = s.bootMarks := by
  have e := State.actProfileStore_bootMarks s c
  rw [h] at e
  exact e
@[simp] theorem State.actSelftest_bootMarks (s : State) (f : Frame) : ((State.actSelftest s f).1).bootMarks = s.bootMarks := by
  unfold State.actSelftest; grind [bootMarks_mk, bootMarks_of_boot]
theorem State.actSelftest_bootMarks_of (s : State) (f : Frame) {sx : State} {qx : Answer} (h : State.actSelftest s f = (sx, qx)) : sx.bootMarks = s.bootMarks := by
  have e := State.actSelftest_bootMarks s f
  rw [h] at e
  exact e
@[simp] theorem State.healthWords_bootMarks (s : State) (priv : Bool) : ((State.healthWords s priv).2).bootMarks = s.bootMarks := by
  simp [State.healthWords]
@[simp] theorem State.actHealth_bootMarks (s : State) (maint : Bool) : ((State.actHealth s maint).1).bootMarks = s.bootMarks := by
  simp [State.actHealth]
theorem State.actHealth_bootMarks_of (s : State) (maint : Bool) {sx : State} {qx : Answer} (h : State.actHealth s maint = (sx, qx)) : sx.bootMarks = s.bootMarks := by
  have e := State.actHealth_bootMarks s maint
  rw [h] at e
  exact e
@[simp] theorem State.actFaultAck_bootMarks (s : State) (f : Frame) : ((State.actFaultAck s f).1).bootMarks = s.bootMarks := by
  unfold State.actFaultAck; grind [bootMarks_mk, bootMarks_of_boot, State.faultAck_bootMarks]
theorem State.actFaultAck_bootMarks_of (s : State) (f : Frame) {sx : State} {qx : Answer} (h : State.actFaultAck s f = (sx, qx)) : sx.bootMarks = s.bootMarks := by
  have e := State.actFaultAck_bootMarks s f
  rw [h] at e
  exact e
@[simp] theorem State.actSafeEnter_bootMarks (s : State) (f : Frame) : ((State.actSafeEnter s f).1).bootMarks = s.bootMarks := by
  simp [State.actSafeEnter]
theorem State.actSafeEnter_bootMarks_of (s : State) (f : Frame) {sx : State} {qx : Answer} (h : State.actSafeEnter s f = (sx, qx)) : sx.bootMarks = s.bootMarks := by
  have e := State.actSafeEnter_bootMarks s f
  rw [h] at e
  exact e
@[simp] theorem State.actSafeLeave_bootMarks (s : State) : ((State.actSafeLeave s).1).bootMarks = s.bootMarks := by
  unfold State.actSafeLeave; split <;> simp
theorem State.actSafeLeave_bootMarks_of (s : State) {sx : State} {qx : Answer} (h : State.actSafeLeave s = (sx, qx)) : sx.bootMarks = s.bootMarks := by
  have e := State.actSafeLeave_bootMarks s
  rw [h] at e
  exact e
@[simp] theorem State.actUpdateBegin_bootMarks (s : State) (f : Frame) :
    ((State.actUpdateBegin s f).1).bootMarks = s.bootMarks := by
  simp [State.actUpdateBegin]
theorem State.actUpdateBegin_bootMarks_of (s : State) (f : Frame) {sx : State} {qx : Answer} (h : State.actUpdateBegin s f = (sx, qx)) : sx.bootMarks = s.bootMarks := by
  have e := State.actUpdateBegin_bootMarks s f
  rw [h] at e
  exact e
@[simp] theorem State.actUpdateBlock_bootMarks (s : State) (c : Cmd) : ((State.actUpdateBlock s c).1).bootMarks = s.bootMarks := by
  simp [State.actUpdateBlock]
theorem State.actUpdateBlock_bootMarks_of (s : State) (c : Cmd) {sx : State} {qx : Answer} (h : State.actUpdateBlock s c = (sx, qx)) : sx.bootMarks = s.bootMarks := by
  have e := State.actUpdateBlock_bootMarks s c
  rw [h] at e
  exact e
@[simp] theorem State.actUpdateVerify_bootMarks (s : State) (c : Cmd) :
    ((State.actUpdateVerify s c).1).bootMarks = s.bootMarks := by
  unfold State.actUpdateVerify; (repeat' split) <;> simp_all
theorem State.actUpdateVerify_bootMarks_of (s : State) (c : Cmd) {sx : State} {qx : Answer} (h : State.actUpdateVerify s c = (sx, qx)) : sx.bootMarks = s.bootMarks := by
  have e := State.actUpdateVerify_bootMarks s c
  rw [h] at e
  exact e
@[simp] theorem State.actUpdateActivate_bootMarks (s : State) (f : Frame) :
    ((State.actUpdateActivate s f).1).bootMarks = s.bootMarks := by
  simp [State.actUpdateActivate]
theorem State.actUpdateActivate_bootMarks_of (s : State) (f : Frame) {sx : State} {qx : Answer} (h : State.actUpdateActivate s f = (sx, qx)) : sx.bootMarks = s.bootMarks := by
  have e := State.actUpdateActivate_bootMarks s f
  rw [h] at e
  exact e
@[simp] theorem State.actUpdateConfirm_bootMarks (s : State) : ((State.actUpdateConfirm s).1).bootMarks = s.bootMarks := by
  simp [State.actUpdateConfirm]
theorem State.actUpdateConfirm_bootMarks_of (s : State) {sx : State} {qx : Answer} (h : State.actUpdateConfirm s = (sx, qx)) : sx.bootMarks = s.bootMarks := by
  have e := State.actUpdateConfirm_bootMarks s
  rw [h] at e
  exact e
@[simp] theorem State.actUpdateRelay_bootMarks (s : State) (c : Cmd) : ((State.actUpdateRelay s c).1).bootMarks = s.bootMarks := by
  simp [State.actUpdateRelay]
theorem State.actUpdateRelay_bootMarks_of (s : State) (c : Cmd) {sx : State} {qx : Answer} (h : State.actUpdateRelay s c = (sx, qx)) : sx.bootMarks = s.bootMarks := by
  have e := State.actUpdateRelay_bootMarks s c
  rw [h] at e
  exact e
@[simp] theorem State.actUpdateAbort_bootMarks (s : State) (f : Frame) :
    ((State.actUpdateAbort s f).1).bootMarks = s.bootMarks := by
  simp [State.actUpdateAbort]
theorem State.actUpdateAbort_bootMarks_of (s : State) (f : Frame) {sx : State} {qx : Answer} (h : State.actUpdateAbort s f = (sx, qx)) : sx.bootMarks = s.bootMarks := by
  have e := State.actUpdateAbort_bootMarks s f
  rw [h] at e
  exact e
@[simp] theorem State.actTimeStep_bootMarks (s : State) (f : Frame) : ((State.actTimeStep s f).1).bootMarks = s.bootMarks := by
  simp [State.actTimeStep]
theorem State.actTimeStep_bootMarks_of (s : State) (f : Frame) {sx : State} {qx : Answer} (h : State.actTimeStep s f = (sx, qx)) : sx.bootMarks = s.bootMarks := by
  have e := State.actTimeStep_bootMarks s f
  rw [h] at e
  exact e
@[simp] theorem State.actTimeRate_bootMarks (s : State) (f : Frame) : ((State.actTimeRate s f).1).bootMarks = s.bootMarks := by
  simp [State.actTimeRate]
theorem State.actTimeRate_bootMarks_of (s : State) (f : Frame) {sx : State} {qx : Answer} (h : State.actTimeRate s f = (sx, qx)) : sx.bootMarks = s.bootMarks := by
  have e := State.actTimeRate_bootMarks s f
  rw [h] at e
  exact e
@[simp] theorem State.actStepRearm_bootMarks (s : State) : ((State.actStepRearm s).1).bootMarks = s.bootMarks := by
  simp [State.actStepRearm]
theorem State.actStepRearm_bootMarks_of (s : State) {sx : State} {qx : Answer} (h : State.actStepRearm s = (sx, qx)) : sx.bootMarks = s.bootMarks := by
  have e := State.actStepRearm_bootMarks s
  rw [h] at e
  exact e
@[simp] theorem State.actHandover_bootMarks (s : State) (c : Cmd) (ordered : Bool) :
    ((State.actHandover s c ordered).1).bootMarks = s.bootMarks := by
  unfold State.actHandover; (repeat' split) <;> simp_all [↓bootMarks_of_boot]
theorem State.actHandover_bootMarks_of (s : State) (c : Cmd) (ordered : Bool) {sx : State} {qx : Answer} (h : State.actHandover s c ordered = (sx, qx)) : sx.bootMarks = s.bootMarks := by
  have e := State.actHandover_bootMarks s c ordered
  rw [h] at e
  exact e
@[simp] theorem State.actPairStatus_bootMarks (s : State) : ((State.actPairStatus s).1).bootMarks = s.bootMarks := by
  simp [State.actPairStatus]
theorem State.actPairStatus_bootMarks_of (s : State) {sx : State} {qx : Answer} (h : State.actPairStatus s = (sx, qx)) : sx.bootMarks = s.bootMarks := by
  have e := State.actPairStatus_bootMarks s
  rw [h] at e
  exact e
@[simp] theorem State.actLogRead_bootMarks (s : State) (c : Cmd) (maint : Bool) :
    ((State.actLogRead s c maint).1).bootMarks = s.bootMarks := by
  unfold State.actLogRead; grind [bootMarks_mk, bootMarks_of_boot, → State.freeIn_bootMarks_of]
theorem State.actLogRead_bootMarks_of (s : State) (c : Cmd) (maint : Bool) {sx : State} {qx : Answer} (h : State.actLogRead s c maint = (sx, qx)) : sx.bootMarks = s.bootMarks := by
  have e := State.actLogRead_bootMarks s c maint
  rw [h] at e
  exact e
@[simp] theorem State.actEcho_bootMarks (s : State) (f : Frame) : ((State.actEcho s f).1).bootMarks = s.bootMarks := by
  unfold State.actEcho; split <;> simp
theorem State.actEcho_bootMarks_of (s : State) (f : Frame) {sx : State} {qx : Answer} (h : State.actEcho s f = (sx, qx)) : sx.bootMarks = s.bootMarks := by
  have e := State.actEcho_bootMarks s f
  rw [h] at e
  exact e
@[simp] theorem State.actResetChip_bootMarks (s : State) (f : Frame) : ((State.actResetChip s f).1).bootMarks = s.bootMarks := by
  unfold State.actResetChip; split <;> simp
theorem State.actResetChip_bootMarks_of (s : State) (f : Frame) {sx : State} {qx : Answer} (h : State.actResetChip s f = (sx, qx)) : sx.bootMarks = s.bootMarks := by
  have e := State.actResetChip_bootMarks s f
  rw [h] at e
  exact e
@[simp] theorem State.actSessionClose_bootMarks (s : State) (f : Frame) :
    ((State.actSessionClose s f).1).bootMarks = s.bootMarks := by
  simp [State.actSessionClose]
theorem State.actSessionClose_bootMarks_of (s : State) (f : Frame) {sx : State} {qx : Answer} (h : State.actSessionClose s f = (sx, qx)) : sx.bootMarks = s.bootMarks := by
  have e := State.actSessionClose_bootMarks s f
  rw [h] at e
  exact e

/-! ### ServeOps -/

@[simp] theorem State.act_bootMarks (s : State) (e : Service) : ((State.act s e).1).bootMarks = s.bootMarks := by
  unfold State.act; grind [bootMarks_mk, bootMarks_of_boot, → State.actRead_bootMarks_of, → State.actWrite_bootMarks_of, → State.actModify_bootMarks_of, → State.actPortSend_bootMarks_of, → State.actPortConfig_bootMarks_of, → State.actPortFlush_bootMarks_of, → State.actSchedule_bootMarks_of, → State.actSnapshot_bootMarks_of, → State.openSession_bootMarks_of, → State.actSessionClose_bootMarks_of, → State.actProfileSelect_bootMarks_of, → State.actProfileStore_bootMarks_of, → State.actSelftest_bootMarks_of, → State.actHealth_bootMarks_of, → State.actFaultAck_bootMarks_of, → State.actSafeEnter_bootMarks_of, → State.actSafeLeave_bootMarks_of, → State.actUpdateBegin_bootMarks_of, → State.actUpdateBlock_bootMarks_of, → State.actUpdateVerify_bootMarks_of, → State.actUpdateActivate_bootMarks_of, → State.actUpdateConfirm_bootMarks_of, → State.actUpdateRelay_bootMarks_of, → State.actUpdateAbort_bootMarks_of, → State.actTimeStep_bootMarks_of, → State.actTimeRate_bootMarks_of, → State.actStepRearm_bootMarks_of, → State.actFence_bootMarks_of, → State.actHandover_bootMarks_of, → State.actPairStatus_bootMarks_of, → State.actLogRead_bootMarks_of, → State.actEcho_bootMarks_of, → State.actResetChip_bootMarks_of]
theorem State.act_bootMarks_of (s : State) (e : Service) {sx : State} {qx : Answer} (h : State.act s e = (sx, qx)) : sx.bootMarks = s.bootMarks := by
  have e := State.act_bootMarks s e
  rw [h] at e
  exact e
@[simp] theorem State.refuse_bootMarks (s : State) (e : Service) (st : Status) : (State.refuse s e st).bootMarks = s.bootMarks := by
  simp [State.refuse]
@[simp] theorem State.execute_bootMarks (s : State) (e : Service) : (State.execute s e).bootMarks = s.bootMarks := by
  unfold State.execute; grind [bootMarks_mk, bootMarks_of_boot, State.refuse_bootMarks, State.sat_bootMarks, → State.act_bootMarks_of, State.finish_bootMarks, State.bump_bootMarks]

end Sys2Proof.Machine
end

section
/-!
A start that finds B01 failed more often than its count can show (R408, R411, R412): the end of a step leaves the marks of the boot
steps as the start has set them.
-/
namespace Sys2Proof.Machine

/-! ### What ends a step leaves the marks alone -/

section
variable (s : State)

theorem State.flowAll_bootMarks : s.flowAll.bootMarks = s.bootMarks := by
  refine foldl_bootMarks _ (fun u e => ?_) _ s
  simp [State.flowPins, apply_ite State.bootMarks]

theorem State.conclude_bootMarks (c : Cmd) (a : Answer) : (s.conclude c a).bootMarks = s.bootMarks := by
  unfold State.conclude
  split
  · exact s.finish_bootMarks c _ a
  · rfl

theorem State.winReply_bootMarks (w : Nat) (r : WinReq) (a : Answer) : (s.winReply w r a).bootMarks = s.bootMarks :=
  (State.conclude_bootMarks _ _ _).trans (s.put_bootMarks ..)

theorem State.winNext_bootMarks (w : Nat) (l : List WinReq) : (s.winNext w l).bootMarks = s.bootMarks := by
  induction l generalizing s with
  | nil => exact (State.setWin_bootMarks ..).trans (s.put_bootMarks ..)
  | cons r rest ih =>
    unfold State.winNext
    split
    · exact (ih _).trans (s.winReply_bootMarks w r _)
    · exact (State.winEnter_bootMarks ..).trans (s.setWin_bootMarks ..)

theorem State.winSweep_bootMarks (w : Nat) : (s.winSweep w).bootMarks = s.bootMarks := by
  unfold State.winSweep
  dsimp only
  split
  · rfl
  split
  · exact (foldl_bootMarks _ (fun u r => u.conclude_bootMarks _ _) _ _).trans (by simp)
  split
  · rw [State.winTimer_bootMarks, State.winNext_bootMarks, State.setWin_bootMarks]
  · exact s.setWin_bootMarks ..

theorem State.txLooked_bootMarks : s.txLooked.bootMarks = s.bootMarks := by
  unfold State.txLooked
  split
  · rfl
  · exact (State.txPump_bootMarks ..).trans (s.txBack_bootMarks ..)

theorem State.pairAnswer_bootMarks : s.pairAnswer.bootMarks = s.bootMarks := by
  have hite {p : Prop} [Decidable p] {u : State} (hu : u.bootMarks = s.bootMarks) :
      (if p then u else s).bootMarks = s.bootMarks := by
    split
    · exact hu
    · rfl
  unfold State.pairAnswer
  split
  · exact hite ((State.finish_bootMarks ..).trans (bootMarks_mk ..))
  · rfl

theorem State.romFlush_bootMarks : s.romFlush.bootMarks = s.bootMarks := by
  unfold State.romFlush
  split
  · rfl
  · exact (foldl_bootMarks _ State.romSend_bootMarks _ _).trans (bootMarks_mk ..)

theorem State.lostCommands_bootMarks : s.lostCommands.bootMarks = s.bootMarks := by
  refine foldl_bootMarks _ (fun u e => ?_) _ s
  split
  · unfold State.startTimeout
    split
    · rfl
    split
    · rfl
    · exact (State.arm_bootMarks ..).trans (bootMarks_mk ..)
  · rfl

/-! What follows a reply that has left -/

theorem State.sessionOpened_bootMarks (n : BitVec 16) : (s.sessionOpened n).bootMarks = s.bootMarks := by
  unfold State.sessionOpened
  split
  · exact s.arm_bootMarks ..
  · rfl

theorem State.sessionClosing_bootMarks (n : BitVec 16) : (s.sessionClosing n).bootMarks = s.bootMarks := by
  unfold State.sessionClosing
  split
  · rfl
  · exact (State.disarmAll_bootMarks ..).trans (bootMarks_mk ..)

theorem State.switchBegin_bootMarks (p : Nat) : (s.switchBegin p).bootMarks = s.bootMarks :=
  (bootMarks_mk ..).trans (bootMarks_of_boot s)

theorem State.runAfter_bootMarks (a : After) : (s.runAfter a).bootMarks = s.bootMarks := by
  cases a with
  | islands m =>
    refine foldl_bootMarks _ (fun u i => ?_) _ s
    split
    · exact u.islReset_bootMarks i
    · rfl
  | opened n old =>
    cases old with
    | none => exact s.sessionOpened_bootMarks n
    | some o => exact (State.sessionClosing_bootMarks _ o).trans (s.sessionOpened_bootMarks n)
  | chip => exact s.chipReset_bootMarks .cmd
  | profile p => exact s.switchBegin_bootMarks p

theorem State.runDue_bootMarks : s.runDue.bootMarks = s.bootMarks :=
  (foldl_bootMarks _ (fun u (a : Frame × After) => u.runAfter_bootMarks a.2) _ _).trans (bootMarks_mk ..)

theorem State.runHeld_bootMarks (n : Nat) : (s.runHeld n).bootMarks = s.bootMarks := by
  induction n generalizing s with
  | zero => rfl
  | succ n ih =>
    unfold State.runHeld
    split
    · rfl
    split
    · rfl
    · exact (ih _).trans ((State.execute_bootMarks ..).trans (bootMarks_mk ..))

/-- What ends a step leaves the marks alone. -/
theorem State.done_bootMarks : s.done.bootMarks = s.bootMarks := by
  unfold State.done
  split
  · rfl
  · calc
      (State.settle _).bootMarks = (State.forget _).bootMarks := State.settle_bootMarks _
      _ = (State.runHeld _ _).bootMarks := bootMarks_mk ..
      _ = _ := by
        rw [State.runHeld_bootMarks, State.runDue_bootMarks]
        refine (bootMarks_mk ..).trans ?_
        rw [bootMarks_of_boot, State.lostCommands_bootMarks, State.romFlush_bootMarks, State.pairAnswer_bootMarks,
          State.txLooked_bootMarks, foldl_bootMarks _ State.winSweep_bootMarks, State.settle_bootMarks, State.flowAll_bootMarks]
end

/-! ### The start -/

section
variable (s : State)

theorem State.drawChallenge_bootMarks : s.drawChallenge.bootMarks = s.bootMarks := by
  unfold State.drawChallenge
  split
  next ws u hws =>
  exact (foldl_bootMarks _ (fun v i => v.wr_bootMarks ..) _ u).trans (State.freshWords_bootMarks_of _ _ hws)

theorem State.stepFailNote_bootMarks (n c act : Nat) : (s.stepFailNote n c act).bootMarks = s.bootMarks := by
  unfold State.stepFailNote
  dsimp only
  split
  · exact (bootMarks_mk ..).trans ((bootMarks_of_boot _).trans (s.raise_bootMarks ..))
  · exact (State.log_bootMarks ..).trans (s.raise_bootMarks ..)

/-- B01 is never skipped (R408): exhausted, it is marked as done and begins all the same. -/
theorem State.reachStep_done_of_exhausted (fuel : Nat) (h : 15 < s.stepFails 1) :
    (s.reachStep (fuel + 1) 1).bootMarks.done = s.bootMarks.done ||| 2 := by
  have hact : stepAction 1 (s.stepFails 1) = 3 := if_neg (Nat.not_le.2 h)
  have hfailed : s.stepFails 1 ≠ 0 := by omega
  unfold State.reachStep
  simp only [hact, if_neg hfailed]
  rw [← s.stepFailNote_bootMarks 1 (s.stepFails 1) 3]
  rfl
end

/-- A hub before BOOT_START whose record gives B01 sixteen failures, one more than a count of the boot can hold. -/
def overfailed : State := { State.reset with boot := { marks := { fails := [(1, 16)] } } }

theorem overfailed_bootStart_marks : overfailed.bootStart.boot.marks.done = 2 := by
  have hmarks : overfailed.drawChallenge.bootMarks.restart = { fails := [(1, 16)] } := by
    rw [State.drawChallenge_bootMarks]
    decide
  unfold State.bootStart
  rw [if_neg (by decide)]
  dsimp only
  rw [bootMarks_of_boot, State.reachStep_done_of_exhausted]
  · rw [State.arm_bootMarks]
    exact congrArg (fun m => Marks.done m ||| 2) hmarks
  · exact (congrArg (fun m => 15 < tget 0 (Marks.fails m) 1) hmarks).mpr (by decide)

/-- Refutes O44: the clause of BOOT_START, for a record whose count of B01 is above 15. B01 is then found exhausted and so marked DONE
before it begins, and no state `t` without that mark comes to the same end (`State.done_bootMarks`). -/
theorem not_bootSteps : ¬ Obligations.BootSteps := by
  intro h
  obtain ⟨hstart, -⟩ := h overfailed {} 0 0
  obtain ⟨t, hexec, -, -, -, -, hclear, -⟩ := hstart rfl rfl rfl rfl
  have ht : overfailed.bootStart.done = t.done := by
    injection hexec
  have hmarks : t.boot.marks = overfailed.bootStart.boot.marks := by
    rw [bootMarks_of_boot, bootMarks_of_boot, ← t.done_bootMarks, ← ht, State.done_bootMarks]
  rw [hmarks, overfailed_bootStart_marks] at hclear
  exact absurd hclear (by decide)

end Sys2Proof.Machine
end
